-- ==== Sys2Proof/Word.lean ====
section
/-!
DEFINITION. Sys2Proof/Word.lean: the word types the device's registers, packets and memories are made of.
-/
namespace Sys2Proof

/-- One byte, the unit of packets, frames and device space (R58, 02). -/
abbrev Byte := BitVec 8
/-- A 16-bit word: warden registers and memories (ch 18). -/
abbrev W16 := BitVec 16
/-- A 32-bit word: registers of BARs and of device space (R17, 01). -/
abbrev W32 := BitVec 32
/-- A 64-bit word. -/
abbrev W64 := BitVec 64
/-- A run of bytes in the order in which they are sent. -/
abbrev Bytes := List Byte

end Sys2Proof
end

