-- ==== Sys2Proof/Machine/Bytes.lean ====
section
/-!
DEFINITION. Sys2Proof/Machine/Bytes.lean: byte order, bit fields and sparse tables.
Multi-byte fields are little-endian unless a chapter states otherwise (R58, 02).
-/
namespace Sys2Proof.Machine
open Sys2Proof

/-- The byte at offset i as a number; 0 past the end. -/
def u8 (bs : Bytes) (i : Nat) : Nat := (bs.getD i 0).toNat
/-- The n bytes at offset i, little-endian (R58). -/
def leAt (bs : Bytes) (i : Nat) : Nat → Nat
  | 0 => 0
  | n + 1 => u8 bs i + 256 * leAt bs (i + 1) n
/-- 16-bit little-endian field. -/
def u16 (bs : Bytes) (i : Nat) : Nat := leAt bs i 2
/-- 32-bit little-endian field. -/
def u32 (bs : Bytes) (i : Nat) : Nat := leAt bs i 4
/-- 48-bit little-endian field. -/
def u48 (bs : Bytes) (i : Nat) : Nat := leAt bs i 6
/-- 64-bit little-endian field. -/
def u64 (bs : Bytes) (i : Nat) : Nat := leAt bs i 8
/-- The n bytes at offset i, big-endian (network order). -/
def beAt (bs : Bytes) (i n : Nat) : Nat :=
  ((bs.drop i).take n).foldl (fun a b => a * 256 + b.toNat) 0
/-- v as n little-endian bytes. -/
def putLe : Nat → Nat → Bytes
  | 0, _ => []
  | n + 1, v => BitVec.ofNat 8 v :: putLe n (v / 256)
/-- v as n big-endian bytes. -/
def putBe (n v : Nat) : Bytes := (putLe n v).reverse
/-- n zero bytes. -/
def zeros (n : Nat) : Bytes := List.replicate n 0
/-- The len bytes at offset off. -/
def slice (bs : Bytes) (off len : Nat) : Bytes := (bs.drop off).take len
/-- bs with the bytes at off replaced by new; bytes that would fall past the end are dropped. -/
def overwrite (bs : Bytes) (off : Nat) (new : Bytes) : Bytes :=
  (bs.take off ++ new ++ bs.drop (off + new.length)).take bs.length
/-- n bytes, 0 but for the fields (offset, width in bytes, value), each little-endian. -/
def layout (n : Nat) (fields : List (Nat × Nat × Nat)) : Bytes :=
  fields.foldl (fun bs f => overwrite bs f.1 (putLe f.2.1 f.2.2)) (zeros n)
/-- The 16 DETAIL bytes of an event-log record, fields at their record offsets 16-31 (Table 02-8). -/
def detail (fields : List (Nat × Nat × Nat)) : Bytes :=
  layout 16 (fields.map fun f => (f.1 - 16, f.2.1, f.2.2))
/-- Bits hi..lo of v. -/
def bitsOf (v hi lo : Nat) : Nat := v / 2 ^ lo % 2 ^ (hi - lo + 1)
/-- 1 for true, 0 for false. -/
def b2n (b : Bool) : Nat := if b then 1 else 0
/-- The number whose set bits are the members of l. -/
def maskOf (l : List Nat) : Nat := l.foldl (fun m i => m ||| 2 ^ i) 0
/-- The bit numbers below n that are set in m, rising. -/
def bitsSet (n m : Nat) : List Nat := (List.range n).filter fun i => m.testBit i
/-- A signed reading of an n-bit field. -/
def signed (n v : Nat) : Int := if v % 2 ^ n < 2 ^ (n - 1) then (v % 2 ^ n : Nat) else (v % 2 ^ n : Nat) - (2 ^ n : Nat)
/-- The n-bit two's-complement field of an integer. -/
def unsigned (n : Nat) (v : Int) : Nat := (v % (2 ^ n : Nat)).toNat
/-- Division that rounds up. -/
def ceilDiv (a b : Nat) : Nat := (a + b - 1) / b

/-! Sparse tables: (key, value) pairs with keys strictly rising and no entry equal to the value d that an
unlisted key holds. Equal tables are equal lists. -/

/-- The value of key k. -/
def tget {α : Type} (d : α) (t : List (Nat × α)) (k : Nat) : α := (t.lookup k).getD d
/-- Put (k, v) in its place, ignoring whether v is the default. -/
def tins {α : Type} (k : Nat) (v : α) : List (Nat × α) → List (Nat × α)
  | [] => [(k, v)]
  | (j, w) :: t => if k < j then (k, v) :: (j, w) :: t else if k = j then (k, v) :: t else (j, w) :: tins k v t
/-- Drop key k wherever it is listed. -/
def tdel {α : Type} (k : Nat) : List (Nat × α) → List (Nat × α)
  | [] => []
  | (j, w) :: t => if k = j then tdel k t else (j, w) :: tdel k t
/-- The table with key k holding v; the default is not listed. -/
def tput {α : Type} [DecidableEq α] (d : α) (t : List (Nat × α)) (k : Nat) (v : α) : List (Nat × α) :=
  if v = d then tdel k t else tins k v t
/-- Change the value of key k. -/
def tmod {α : Type} [DecidableEq α] (d : α) (t : List (Nat × α)) (k : Nat) (f : α → α) : List (Nat × α) :=
  tput d t k (f (tget d t k))
/-- Change the value of every key in ks. -/
def tmodAll {α : Type} [DecidableEq α] (d : α) (t : List (Nat × α)) (ks : List Nat) (f : Nat → α → α) : List (Nat × α) :=
  ks.foldl (fun t k => tmod d t k (f k)) t
/-- The keys of a table strictly rise from lo and no value is the default. -/
def twfFrom {α : Type} [DecidableEq α] (d : α) (lo : Nat) : List (Nat × α) → Bool
  | [] => true
  | (k, v) :: t => decide (lo ≤ k) && decide (v ≠ d) && twfFrom d (k + 1) t
/-- The canonical form of a sparse table. -/
def twf {α : Type} [DecidableEq α] (d : α) (t : List (Nat × α)) : Bool := twfFrom d 0 t

/-- A byte memory: every byte not listed reads 0 (a wiped memory, R29, 02). -/
abbrev Mem := List Host.Cell
/-- One byte. -/
def Mem.read (m : Mem) (a : Nat) : Byte := tget 0 m a
/-- Store one byte. -/
def Mem.write (m : Mem) (a : Nat) (b : Byte) : Mem := tput 0 m a b
/-- n bytes from a. -/
def Mem.readN (m : Mem) (a n : Nat) : Bytes := (List.range n).map fun i => Mem.read m (a + i)
/-- Store bytes from a upward. -/
def Mem.writeN (m : Mem) (a : Nat) : Bytes → Mem
  | [] => m
  | b :: bs => Mem.writeN (Mem.write m a b) (a + 1) bs
/-- The canonical form of a byte memory. -/
def Mem.wf (m : Mem) : Bool := twf 0 m

/-- Replace the first element that satisfies p, or append v when there is none. -/
def upsert {α : Type} (p : α → Bool) (v : α) : List α → List α
  | [] => [v]
  | a :: t => if p a then v :: t else a :: upsert p v t
/-- Change the elements that satisfy p. -/
def modWhere {α : Type} (p : α → Bool) (f : α → α) (l : List α) : List α := l.map fun a => if p a then f a else a
/-- Put i into a strictly rising list of numbers. -/
def nset (i : Nat) : List Nat → List Nat
  | [] => [i]
  | j :: t => if i < j then i :: j :: t else if i = j then j :: t else j :: nset i t
/-- Take i out of a list of numbers. -/
def nclr (i : Nat) (l : List Nat) : List Nat := l.filter (· != i)

end Sys2Proof.Machine
end

