-- ==== Sys2Proof/Machine/StateCry.lean ====
section
/-!
DEFINITION. Sys2Proof/Machine/StateCry.lean: the key store, the security associations and the DRBG (ch 13).
-/
namespace Sys2Proof.Machine
open Sys2Proof

/-- A key slot that holds a key. -/
structure KeySlot where
  /-- OWNER: 0-15 tenant, 16 PF0. [5; R464, 13; CW: no key] -/
  owner : Nat
  /-- Tenant-local index, or the device slot itself for PF0. [12; R465 R466, 13] -/
  index : Nat
  /-- TYPE of Table 13-1: 1 AES-256, 2 XTS-AES-256, 3 HMAC. [8; R464, 13] -/
  type : Nat
  /-- The key. [32 or 64 bytes; Table 13-1, 13] -/
  key : Bytes
  deriving DecidableEq, Repr

/-- A key-encryption key (R471). -/
structure Kek where
  /-- KEK_GEN, 1-65,535. -/
  gen : Nat
  /-- AES-256 key. -/
  key : Bytes
  deriving DecidableEq, Repr

/-- An owner's KEKs. -/
structure Keks where
  /-- Current. [16 + 256; R471, 13; CW: none] -/
  cur : Option Kek := none
  /-- Previous. [16 + 256; R471, 13; CW: none] -/
  prev : Option Kek := none
  deriving DecidableEq, Repr

/-- A security association. -/
structure Sa where
  /-- KIND of Table 13-4. [8; R505, 13; CW: no SA] -/
  kind : Nat
  /-- FLAGS: bit 0 ACTIVATE, bit 1 ESN. [8; Table 13-6, 13] -/
  flags : Nat
  /-- KEY_SLOT. [16; Table 13-6, 13] -/
  slot : Nat
  /-- SECY. [16; Table 13-6, 13] -/
  secy : Nat
  /-- Bytes 8-63 of CRY_SA_ADD. [56 bytes; Table 13-6, 13] -/
  raw : Bytes
  /-- Next PN, sequence number or record number to assign or expect. [64; R462 R492, 13] -/
  next : Nat := 0
  /-- Highest PN or sequence number validated. [64; R484, 13; 0] -/
  high : Nat := 0
  /-- Sequence numbers seen inside the anti-replay window. [4,096; R488 R490, 13; none] -/
  seen : List Nat := []
  /-- Records processed (TLS). [24; R495, 13; 0] -/
  records : Nat := 0
  /-- SECY: index of the active TX SA. [14; R486, 13; none] -/
  active : Option Nat := none
  /-- SA_SOFT has been written. [1; R486, 13; 0] -/
  soft : Bool := false
  /-- SA_EXHAUSTED has been written. [1; R486, 13; 0] -/
  spent : Bool := false
  /-- A deletion waits for the items in the pool (R506). [1; 13; 0] -/
  going : Bool := false
  /-- Items. [64; Table 13-7, 13; 0] -/
  items : Nat := 0
  /-- Bytes. [64; Table 13-7, 13; 0] -/
  bytes : Nat := 0
  /-- Authentication failures. [64; Table 13-7, 13; 0] -/
  authFails : Nat := 0
  /-- Replay drops. [64; Table 13-7, 13; 0] -/
  replays : Nat := 0
  /-- Moments of the authentication failures of the last second (Table 13-8). [list; 13; none] -/
  fails : List Nat := []
  deriving DecidableEq, Repr

/-- The DRBG (R501, R502). -/
structure Drbg where
  /-- STATE: 1 READY, 2 ERROR, 3 INSTANTIATING. [8; Table 13-7, 13; CW: 3, instantiated at boot] -/
  st : Nat := 3
  /-- Cause of the ERROR. [8; Table 13-7, 13; CW: 0] -/
  cause : Nat := 0
  /-- Generate requests since the last reseed. [32; Table 13-7, 13; CW: 0] -/
  requests : Nat := 0
  /-- Reseeds since the last C or W. [32; Table 13-7, 13; CW: 0] -/
  reseeds : Nat := 0
  /-- RTC seconds of the last reseed. [32; Table 13-7, 13; CW: 0] -/
  at_ : W32 := 0
  /-- Failures of the repetition count test. [32; Table 13-7, 13; CW: 0] -/
  rct : Nat := 0
  /-- Failures of the adaptive proportion test. [32; Table 13-7, 13; CW: 0] -/
  apt : Nat := 0
  deriving DecidableEq, Repr

/-- Key store, SAs and DRBG. -/
structure CryptoSide where
  /-- Device slots that hold a key. [4,096; R464, 13; CW: empty] -/
  slots : List (Nat × KeySlot) := []
  /-- SLOT_GEN of each device slot. [32 per slot; R468, 13; CW: 0] -/
  gens : List (Nat × W32) := []
  /-- KEKs of each owner. [17; R471, 13; CW: none] -/
  keks : List (Nat × Keks) := []
  /-- SAs by index. [16,384; Table 13-4, 13; CW: none] -/
  sas : List (Nat × Sa) := []
  /-- DRBG. -/
  drbg : Drbg := {}
  deriving DecidableEq, Repr

end Sys2Proof.Machine
end

