-- ==== Sys2Proof/Machine/StateHost.lean ====
section
/-!
DEFINITION. Sys2Proof/Machine/StateHost.lean: tenants, VFs, ring pairs and caddies (ch 07-09).
-/
namespace Sys2Proof.Machine
open Sys2Proof

/-- A DMA window (Table 06-7). -/
structure DmaWin where
  /-- First address. -/
  base : Nat
  /-- Size in 4 KiB units, 0 disabled. -/
  size4k : Nat
  /-- PERM: bit 0 READ, bit 1 WRITE. -/
  perm : Nat
  deriving DecidableEq, Repr

/-- A namespace entry of an owner's list (Table 14-5). -/
structure Namespace where
  /-- NSID. [32; Table 14-5, 14] -/
  nsid : Nat
  /-- NS_INDEX. [10; Table 14-5, 14] -/
  index : Nat
  /-- FLAGS: bit 0 READ_ONLY, 1 XTS, 2 FIXITY, 3 DRIVE. [8; Table 14-5, 14] -/
  flags : Nat
  deriving DecidableEq, Repr

/-- A tenant with its charter (Table 07-1). -/
structure Tenant where
  /-- STATE: 1 ACTIVE, 2 SUSPENDED, 3 REVOKED. [2; Table 07-4 R246, 07; CW: 3] -/
  state : Nat := 3
  /-- CHG_GEN. [32; R249, 07; CW: 0] -/
  gen : W32 := 0
  /-- T_EPOCH. [32; R267, 07; CW: 0] -/
  epoch : W32 := 0
  /-- FLAGS: source modes (Table 07-6). [8; 07; CW: 0] -/
  flags : Nat := 0
  /-- RING_PAIRS_MAX. [16; Table 07-1, 07; CW: 0] -/
  ringMax : Nat := 0
  /-- KEY_SLOTS_MAX. [16; Table 07-1, 07; CW: 0] -/
  keyMax : Nat := 0
  /-- NS_MAX. [8; Table 07-1, 07; CW: 0] -/
  nsMax : Nat := 0
  /-- TC_MASK. [8; Table 07-1, 07; CW: 0] -/
  tcMask : Nat := 0
  /-- CADDY_QUOTA_KIB. [32; Table 07-1, 07; CW: 0] -/
  quotaKib : Nat := 0
  /-- MAC list: addresses in transmission order. [16 x 6 bytes; Table 07-2, 07; CW: empty] -/
  macs : List Bytes := []
  /-- VLAN list: VID and TAG (0 C-tag, 1 S-tag). [16; Table 07-2, 07; CW: empty] -/
  vlans : List (Nat × Nat) := []
  /-- IPv4 list: address in network order, prefix length. [16; Table 07-2, 07; CW: empty] -/
  ip4s : List (Nat × Nat) := []
  /-- IPv6 list: address in network order, prefix length. [16; Table 07-2, 07; CW: empty] -/
  ip6s : List (Nat × Nat) := []
  /-- WEIGHT. [8; Table 12-2, 12; CW: 0] -/
  weight : Nat := 0
  /-- Tenant RATE_MBPS. [32; Table 12-2, 12; CW: 0] -/
  rate : Nat := 0
  /-- Tenant BURST_KIB. [24; Table 12-2, 12; CW: 0] -/
  burst : Nat := 0
  /-- Tenant token bucket in 1/8 byte. [signed; R435, 12; DESIGN CHOICE 0, a tenant that becomes ACTIVE starts full (log 6)] -/
  tokens : Int := 0
  /-- MODEL's own: microsecond at which the bucket was last brought up to date. [Nat; not the spec's; DESIGN CHOICE 0 (log 2)] -/
  tokensAt : Nat := 0
  /-- TX_CAP_KIB. [32; R453, 12; CW: 4,096] -/
  txCap : Nat := 4096
  /-- ENG_CAP_KIB. [32; R453, 12; CW: 16,384] -/
  engCap : Nat := 16384
  /-- Key-slot map: tenant-local key index to device slot. [256; Table 07-1, 07 and R467, 13; CW: empty] -/
  keys : List (Nat × Nat) := []
  /-- Namespace list. [64 entries; Table 07-1, 07 and R535, 14; CW: empty] -/
  spaces : List Namespace := []
  deriving DecidableEq, Repr

/-- A virtual function's binding and limits. -/
structure Vf where
  /-- Tenant it is bound to. [4+1; R240 R246, 07; CW: unbound] -/
  tenant : Option Nat := none
  /-- The eight DMA windows. [8 x 16 bytes; R222, 06; CW: disabled] -/
  windows : List DmaWin := []
  /-- SPOOF_COUNT. [32; R263, 07; CW, unbind: 0] -/
  spoof : Nat := 0
  /-- VF RATE_MBPS. [32; Table 12-2, 12; CW: 0] -/
  rate : Nat := 0
  /-- VF BURST_KIB. [24; Table 12-2, 12; CW: 0] -/
  burst : Nat := 0
  /-- VF token bucket in 1/8 byte. [signed; R435, 12; DESIGN CHOICE 0, a VF just bound starts full (log 6)] -/
  tokens : Int := 0
  /-- MODEL's own: microsecond at which the bucket was last brought up to date. [Nat; not the spec's; DESIGN CHOICE 0 (log 2)] -/
  tokensAt : Nat := 0
  deriving DecidableEq, Repr

/-- What a completion entry carries beside SQ_HEAD and PHASE (Table 08-7). -/
structure CqEntry where
  /-- USER. -/
  user : Nat := 0
  /-- LENGTH. -/
  length : Nat := 0
  /-- STATUS. -/
  status : Nat := 0
  /-- KIND. -/
  kind : Nat := 0
  /-- SEG_MASK. -/
  segMask : Nat := 0
  /-- SEG_INDEX. -/
  segIndex : Nat := 0
  /-- Byte 19: bit 0 MORE, bit 1 TRUNC. -/
  flags : Nat := 0
  /-- RX_INFO. -/
  rxInfo : Nat := 0
  /-- AUX. -/
  aux : Nat := 0
  deriving DecidableEq, Repr

/-- A reserved completion slot of an admitted entry (R288). -/
inductive CqSlot where
  /-- Its work is not finished; on a RECEIVE ring the buffer is posted and unused. -/
  | waiting
  /-- RECEIVE: a frame is being written into the buffer. -/
  | held
  /-- The completion is ready and waits for its turn (R289). -/
  | ready (e : CqEntry)
  deriving DecidableEq, Repr

/-- An admitted entry: fetched and not completed. -/
structure RingWork where
  /-- Its number in the ring since the ring pair was created. -/
  seq : Nat
  /-- The slot as fetched. -/
  entry : Bytes
  /-- Completion slots still to be written, in order. -/
  slots : List CqSlot
  /-- RECEIVE: index of the segment of the first slot. -/
  segBase : Nat := 0
  /-- What each segment's read returned (none: the read failed). -/
  data : List (Option Bytes) := []
  /-- First segment not yet handled. -/
  next : Nat := 0
  /-- SEG_MASK so far. -/
  mask : Nat := 0
  /-- Status of the lowest-numbered failed segment so far. -/
  status : Nat := 0
  /-- LENGTH so far. -/
  length : Nat := 0
  /-- Caddies that hold its data. -/
  bufs : List Nat := []
  deriving DecidableEq, Repr

/-- Ring-pair states of R310. -/
inductive RingState where
  /-- RUNNING; HELD while its tenant is SUSPENDED or the device is in HOLD. -/
  | running
  /-- DRAINING after RING_DESTROY. -/
  | draining
  /-- DRAINING and FAULTED: RING_DESTROY of a FAULTED ring pair, or a completion refused while DRAINING. No completion is written (R301, R308). -/
  | drainingFaulted
  /-- CLEARING until the reset ends. -/
  | clearing
  /-- FAULTED (R301). -/
  | faulted
  deriving DecidableEq, Repr

/-- A fetch that is outstanding. -/
structure Fetch where
  /-- Completion slots held for it (R288). -/
  reserve : Nat
  /-- Its read was refused or failed, so that FETCH_READ_FAILED completes the entry (R284). -/
  failed : Bool := false
  /-- Its data must be dropped on arrival: a drain's DRAIN_MS has passed (R309). -/
  late : Bool := false
  deriving DecidableEq, Repr

/-- A poll read that is outstanding (R280). -/
structure Poll where
  /-- A doorbell write of the tail was registered since the read was issued. -/
  tailStale : Bool := false
  /-- A doorbell write of the completion head was registered since the read was issued. -/
  headStale : Bool := false
  deriving DecidableEq, Repr

/-- A ring pair; key is its number 0-4,095. -/
structure Ring where
  /-- Owning function. [8; Table 08-11, 08; CW: no ring pair] -/
  fn : Nat
  /-- LOCAL_INDEX. [6; Table 08-11, 08] -/
  loc : Nat
  /-- CLASS 1 MANAGEMENT, 2 TRANSMIT, 3 RECEIVE, 4 BLOCK. [8; Table 08-11, 08] -/
  cls : Nat
  /-- Submission slots are 128 bytes. [1; Table 08-11, 08] -/
  wide : Bool
  /-- SQ_DEPTH_LOG2. [5; Table 08-11, 08] -/
  sqLog : Nat
  /-- CQ_DEPTH_LOG2. [5; Table 08-11, 08] -/
  cqLog : Nat
  /-- FETCH_MODE is POLL. [1; R278, 08] -/
  poll : Bool
  /-- SQ_BASE. [64; Table 08-11, 08] -/
  sqBase : Nat
  /-- CQ_BASE. [64; Table 08-11, 08] -/
  cqBase : Nat
  /-- HDR_ADDR. [64; Table 08-11, 08] -/
  hdr : Nat
  /-- POLL_US. [16; Table 08-11, 08] -/
  pollUs : Nat
  /-- NOTIFY: 0 POLL, 1 EVERY, 2 MODERATED. [8; R302, 08] -/
  notify : Nat
  /-- VECTOR. [8; R303, 08] -/
  vector : Nat
  /-- MOD_COUNT. [8; Table 08-11, 08] -/
  modCount : Nat
  /-- MOD_US. [16; Table 08-11, 08] -/
  modUs : Nat
  /-- TPH_EN. [1; R300, 08] -/
  tph : Bool
  /-- State. [3; R310, 08; RUNNING at creation] -/
  st : RingState := .running
  /-- Submission head. [16; R314, 08; 0 at creation and by CWFT] -/
  head : Nat := 0
  /-- Submission tail. [16; R314, 08; 0] -/
  tail : Nat := 0
  /-- Completion head. [16; R314, 08; 0] -/
  cqHead : Nat := 0
  /-- Completion tail. [16; R314, 08; 0] -/
  cqTail : Nat := 0
  /-- PHASE of the next completion. [1; R294, 08; 1] -/
  phase : Bool := true
  /-- Admitted entries in fetch order. [<= 64; R283, 08; none] -/
  work : List RingWork := []
  /-- Number the next entry gets. [Nat; R289, 08; 0] -/
  nextSeq : Nat := 0
  /-- The outstanding fetch. [R283, 08; none] -/
  fetch : Option Fetch := none
  /-- The outstanding poll read. [R280, 08; none] -/
  pollRead : Option Poll := none
  /-- Moderation count. [8; Table 08-8, 08; 0] -/
  modNow : Nat := 0
  /-- Moderation timer running. [1; Table 08-8, 08; stopped] -/
  modTimer : Bool := false
  /-- Completions written and not yet announced (R304). [Nat; 08; 0] -/
  unannounced : Nat := 0
  /-- Entries completed while DRAINING (Table 08-13). [32; 08; 0] -/
  drained : Nat := 0
  deriving DecidableEq, Repr

/-- An owned buffer. -/
structure Buf where
  /-- Its index. -/
  index : Nat
  /-- Owner it is charged to: 0-15 tenant, 16 PF0, 17 device (R328). -/
  owner : Nat
  /-- Function whose work holds it: 0-63, 127, 255 for none, or 254 where a warden holds it. -/
  fn : Nat
  deriving DecidableEq, Repr

/-- A pool CAD0-CAD7. -/
structure Pool where
  /-- STATE: 0 absent, 1 ACTIVE, 2 DRAINING. [8; Table 09-4, 09; CW: 0] -/
  st : Nat := 0
  /-- MODE 1 multi-size, 2 single-size. [8; R316, 09; absent] -/
  mode : Nat := 0
  /-- PLACE 1 SRAM, 2 DDR5. [8; R317, 09; absent] -/
  place : Nat := 0
  /-- FREE_STORE 1 RING, 2 LIST. [8; R333, 09; absent] -/
  store : Nat := 0
  /-- Buffer size in bytes. [32; R316, 09; absent] -/
  size : Nat := 0
  /-- SPILL. [1; R321, 09; 0] -/
  spill : Bool := false
  /-- DEGRADED. [1; R340, 09; 0] -/
  degraded : Bool := false
  /-- DDR5 channel. [1; Table 09-3, 09; absent] -/
  chan : Nat := 0
  /-- First bank or region. [16; Table 09-3, 09; absent] -/
  first : Nat := 0
  /-- Count of banks or regions. [16; Table 09-3, 09; absent] -/
  count : Nat := 0
  /-- N. [23; R318, 09; 0] -/
  n : Nat := 0
  /-- Number of indices at creation. [23; R318, 09; 0] -/
  made : Nat := 0
  /-- LOW_WM. [16; Table 09-3, 09; 0] -/
  low : Nat := 0
  /-- HIGH_WM. [16; Table 09-3, 09; 0] -/
  high : Nat := 0
  /-- Free cache. [<= 512 indices; R333, 09; absent] -/
  cache : List Nat := []
  /-- Free store, indices returned in LIST mode, first to be read again. [list; R335, 09; empty] -/
  front : List Nat := []
  /-- Free store, first index never handed out; the rest follow in ascending order. [23; R333, 09; 0] -/
  fresh : Nat := 0
  /-- Free store, indices written back to the ring, oldest first. [list; R334, 09; empty] -/
  back : List Nat := []
  /-- Owned buffers, the state bits of R336. [list; R336, 09; none] -/
  owned : List Buf := []
  /-- Indices being wiped (R332). [list; 09; none] -/
  wiping : List Nat := []
  /-- Index ranges that left the pool with a fenced bank or channel (R340): first, last + 1. [list; 09; none] -/
  gone : List (Nat × Nat) := []
  /-- DOUBLE_FREE_COUNT. [32 saturating; Table 09-4, 09; 0] -/
  doubleFrees : Nat := 0
  /-- Buffers returned while DRAINING. [32; Table 09-7, 09; 0] -/
  returned : Nat := 0
  deriving DecidableEq, Repr

/-- What waits for a buffer. -/
inductive CadUse where
  /-- An admitted ring entry (FETCH class, or ENGINE class for its output). -/
  | entry (key seq : Nat)
  /-- An item at an engine point that waits for its output buffer. -/
  | item (point id : Nat)
  /-- A command packet or reply. -/
  | packet
  deriving DecidableEq, Repr

/-- A waiting allocation (Table 09-2). -/
structure CadWait where
  /-- Class: 0 CONTROL, 1 ENGINE, 2 FETCH. -/
  cls : Nat
  /-- Owner. -/
  owner : Nat
  /-- Function. -/
  fn : Nat
  /-- Selection length. -/
  len : Nat
  /-- Block index of the agent. -/
  agent : Nat
  /-- What waits. -/
  use : CadUse
  deriving DecidableEq, Repr

/-- Registers of one warden core at CAD (Table 09-6). -/
structure CadWarden where
  /-- CAD_W_HANDLE. [32; Table 09-6, 09; CW: 0] -/
  handle : W32 := 0
  /-- CAD_W_RES.STATUS. [15; Table 09-6, 09; CW: 0] -/
  status : Nat := 0
  /-- CAD_W_RES.DONE. [1; Table 09-6, 09; CW: 1] -/
  done : Bool := true
  deriving DecidableEq, Repr

/-- The Caddy Manager. -/
structure Caddies where
  /-- CAD0-CAD7. [8 pools; R315, 09; CW: none] -/
  pools : List (Nat × Pool) := []
  /-- Owned buffers of the control store, 512 of 4 KiB. [512; R325, 09; CW: none] -/
  ctl : List Buf := []
  /-- Allocations that wait, in order of registration. [list; Table 09-2, 09; CW: none] -/
  waits : List CadWait := []
  /-- Warden registers of WD0-WD4. [5 x 3 registers; Table 09-6, 09; CW] -/
  wardens : List (Nat × CadWarden) := []
  /-- Banks 0 and 1 that were moved, with their substitutes (R978). [2 x 6; 27; CW: chosen again for a fenced bank (DESIGN CHOICE, log 80)] -/
  moved : List (Nat × Nat) := []
  deriving DecidableEq, Repr

/-- Tenants, VFs and rings. -/
structure HostSide where
  /-- PF0's namespace list. [64 entries; R535, 14; CW: empty] -/
  pf0Spaces : List Namespace := []
  /-- T0-T15. [16; R240, 07; CW: REVOKED, all fields 0] -/
  tenants : List (Nat × Tenant) := []
  /-- VF0-VF63. [64; R240, 07; CW: unbound] -/
  vfs : List (Nat × Vf) := []
  /-- Ring pairs that exist, by number. [4,096; R272, 08; CW: none] -/
  rings : List (Nat × Option Ring) := []
  deriving DecidableEq, Repr

end Sys2Proof.Machine
end

