-- ==== Sys2Proof/Machine/StateNet.lean ====
section
/-!
DEFINITION. Sys2Proof/Machine/StateNet.lean: Ethernet ports, aggregates, the switch and the scheduling points (ch 10-12).
-/
namespace Sys2Proof.Machine
open Sys2Proof

/-- An Ethernet port's settings and state; key 0-7. -/
structure Port where
  /-- TYPE of Table 10-2, 0 disabled. [8; Table 10-5 R389, 10; CW:OTP ETH_PORT_CFG, BLANK 0] -/
  type : Nat := 0
  /-- FEC setting. [8; Table 10-5, 10; CW:OTP, BLANK 0] -/
  fec : Nat := 0
  /-- AN setting. [1; Table 10-5, 10; CW:OTP, BLANK 0] -/
  an : Bool := false
  /-- FLAGS: bit 0 LINK_TRAINING, bit 1 LLDP_AGENT. [2; Table 10-5, 10; CW:OTP, BLANK 0] -/
  flags : Nat := 0
  /-- MAX_FRAME. [16; Table 10-5, 10; CW:OTP, BLANK 0: no port] -/
  maxFrame : Nat := 0
  /-- STATE: 0 disabled, 1 down, 2 negotiating or training, 3 up, 4 fault, 5 fenced. [8; Table 10-8, 10; CW: 0] -/
  st : Nat := 0
  /-- FEC in use. [8; Table 10-8, 10; 0] -/
  fecNow : Nat := 0
  /-- Remote-fault signalling is received, and otherwise a local fault is reported, while in fault. [1; R352, 10; false] -/
  remoteFault : Bool := false
  /-- Pause mode: 0 NONE, 1 PAUSE, 2 PFC. [8; R389, 10; CW: NONE] -/
  pause : Nat := 0
  /-- The partner advertised PAUSE. [1; R348, 10; 0] -/
  partnerPause : Bool := false
  /-- PFC_RX_MASK. [8; Table 10-6, 10; CW: 0] -/
  rxMask : Nat := 0
  /-- PFC_TX_MASK. [8; Table 10-6, 10; CW: 0] -/
  txMask : Nat := 0
  /-- QUANTA. [16; Table 10-6, 10; CW: 0] -/
  quanta : Nat := 0
  /-- XOFF_KIB of entries 0-7. [8 x 16; Table 10-6, 10; CW: 0] -/
  xoff : List Nat := []
  /-- XON_KIB of entries 0-7. [8 x 16; Table 10-6, 10; CW: 0] -/
  xon : List Nat := []
  /-- Classes whose pause time runs; 8 stands for the port in PAUSE mode. [9; R363 R364, 10; none] -/
  paused : List Nat := []
  /-- Entries for which a frame with non-zero quanta was sent and none with 0 since. [8; R366 R388, 10; none] -/
  xoffSent : List Nat := []
  /-- LACP actor state octet. [8; Table 10-8, 10; 0] -/
  actor : Nat := 0
  /-- LACP partner state octet. [8; Table 10-8, 10; 0] -/
  partner : Nat := 0
  /-- Partner's Receive Tw in µs of an EEE TLV within its TTL, with both sides EEE-able (R371). [16; 10; none] -/
  partnerTw : Option Nat := none
  /-- Clause 73 showed EEE ability on both sides for the type. [1; R371, 10; 0] -/
  eeeAble : Bool := false
  /-- Partner's Transmit Tw in µs. [16; R371, 10; 0] -/
  partnerTxTw : Nat := 0
  /-- Actor fields of the partner's last LACPDU: system priority to state. [15 bytes; R373, 10; none] -/
  partnerInfo : Bytes := []
  /-- Park state: 0 ACTIVE, 1 DRAIN, 2 LPI_PARKED, 3 DEEP_PENDING, 4 DEEP_PARKED, 5 WAKING, 6 FAILED. [8; Table 10-8, 10; 0] -/
  park : Nat := 0
  /-- Kind of the park being left or entered: 1 DEEP. [1; R379, 10; 0] -/
  deep : Bool := false
  /-- Microsecond at which the wake started. [Nat; R382, 10; 0] -/
  wakeAt : Nat := 0
  /-- Bits moved on the port in the 1 ms window: transmitted, received. [2 x Nat; R377, 10; 0] -/
  winTx : Nat := 0
  /-- Bits received in the window. [Nat; R377, 10; 0] -/
  winRx : Nat := 0
  /-- Link-change records suppressed. [16; Table 10-8, 10; 0] -/
  suppressed : Nat := 0
  /-- FEC codewords corrected. [32 saturating; Table 10-8, 10; CW: 0] -/
  corrected : Nat := 0
  /-- FEC codewords uncorrectable. [32 saturating; Table 10-8, 10; CW: 0] -/
  uncorrectable : Nat := 0
  /-- Microsecond of the last STATE change. [Nat; Table 10-8, 10; 0] -/
  changedAt : Nat := 0
  /-- Content of the last LLDPDU sent is out of date (R370). [1; 10; false] -/
  lldpDirty : Bool := false
  deriving DecidableEq, Repr

/-- A frame inside the device, without its FCS. -/
structure Frame where
  /-- Its number. -/
  id : Nat
  /-- Bytes. -/
  bytes : Bytes
  /-- Ingress vport (Table 11-1). -/
  inVp : Nat
  /-- Participant it is charged to. -/
  owner : Nat := 17
  /-- Function whose work it is: 0-63, 127, or 255. -/
  fn : Nat := 255
  /-- Traffic class. -/
  tc : Nat := 0
  /-- Caddies that hold it. -/
  bufs : List Nat := []
  /-- Bytes of transmit backlog it counts for (R439), 0 for a frame not fetched from a ring. -/
  backlog : Nat := 0
  /-- Port of arrival and class that its ingress occupancy counts for (R365). -/
  arrival : Option (Nat × Nat) := none
  /-- Tunnel it was taken out of: 0 none, 1 VXLAN, 2 Geneve. -/
  tunnel : Nat := 0
  /-- VID of a tag that a pop removed. -/
  stripped : Option Nat := none
  /-- It is a mirror copy. -/
  mirror : Bool := false
  /-- L3_CSUM and L4_CSUM of Table 11-9. -/
  csum : Nat := 0
  /-- Conversation hash H. -/
  hash : Nat := 0
  /-- For a lattice-routed frame the VERTEX of its action; a forwarded carriage adds 4,096 × SRC and 2^24 × TTL (R899). -/
  vertex : Nat := 0
  deriving DecidableEq, Repr

/-- What a lookup selected, resolved in the generation that was active (R400). -/
structure Found where
  /-- The action record. -/
  action : Bytes
  /-- The tunnel record, when ENCAP is set. -/
  tunnel : Bytes := []
  /-- The vports of a replication list. -/
  copies : List Nat := []
  deriving DecidableEq, Repr

/-- A received frame between its arrival and the end of its lookup and checks. -/
structure InFrame where
  /-- The frame. -/
  frame : Frame
  /-- Verdict: 0 GOOD, 1 FCS_ERROR, 2 OVERSIZE, 3 LENGTH_MISMATCH, 4 MACSEC_ICV, 5 NO_BUFFER. -/
  verdict : Nat
  /-- MACsec integrity-only frame whose ICV holds: RX SA and PN, for the replay window (R484). -/
  sec : Option (Nat × Nat) := none
  /-- MACsec encrypted frame: its bound RX SecY, until an engine has opened it (R483). -/
  sealed : Option Nat := none
  /-- The verdict has been registered. -/
  judged : Bool := false
  /-- The lookup's result, once it has completed. -/
  found : Option Found := none
  /-- Cut-through toward this egress vport: its preamble has started (R419). -/
  cut : Option Nat := none
  /-- Host buffers written early: ring, entry, slot position, bytes, MORE (R426). -/
  early : List (Nat × Nat × Nat × Nat × Bool) := []
  deriving DecidableEq, Repr

/-- Work at a scheduling point. -/
inductive Job where
  /-- A frame at an egress point. -/
  | send (f : Frame)
  /-- A frame for a RECEIVE ring. -/
  | deliver (f : Frame) (ring : Nat)
  /-- A frame that an AES engine protects (encrypt) or opens under an SA; afterwards it goes on with the action. -/
  | crypt (f : Frame) (encrypt : Bool) (sa : Nat) (found : Found)
  /-- An encrypted MACsec frame of a port that an engine opens under a bound RX SecY before its lookup (R483). -/
  | openIn (f : Frame) (secy : Nat)
  /-- A frame for the storage engine pool. -/
  | store (f : Frame)
  /-- A BLOCK entry at an engine. -/
  | entry (g seq : Nat)
  /-- An integrity job by command or scrub session. -/
  | fix (id : Nat)
  deriving DecidableEq, Repr

/-- One item in a queue of a scheduling point. -/
structure QItem where
  /-- Its number. -/
  id : Nat
  /-- Participant 0-15, 16 PF0, 17 DEV. -/
  part : Nat
  /-- Traffic class (egress points). -/
  cls : Nat := 0
  /-- Cost in bytes (Table 12-1). -/
  cost : Nat
  /-- Reserved traffic. -/
  reserved : Bool := false
  /-- Unit of the pool that it is in. -/
  unit : Nat := 0
  /-- PN, sequence or record number that it was given on entry (R462). -/
  num : Nat := 0
  /-- The work. -/
  job : Job
  deriving DecidableEq, Repr

/-- A scheduling point. Key: the vport of an egress point, 0x103 host delivery, 0x104 AES, 0x105 storage, 0x106 integrity. -/
structure SchPoint where
  /-- QLIMIT_KIB, none for the value of Table 12-5. [32; R453, 12; CW: Table 12-5] -/
  qlimit : Option Nat := none
  /-- STRICT classes. [8; R447 R453, 12; CW: none] -/
  strict : List Nat := []
  /-- CLASS_WEIGHT less 1 of classes 0-7, unlisted 0. [8 x 8; R447 R453, 12; CW: weight 1] -/
  cweight : List (Nat × Nat) := []
  /-- Queued items in order of arrival. [list; ch 12; CW: empty] -/
  queue : List QItem := []
  /-- Items being served: the frame whose turn it is, or the items in engines. [list; ch 12; CW: none] -/
  serving : List QItem := []
  /-- Deficit of class × 32 + participant, unlisted 0. [table; R445, 12; DESIGN CHOICE 0 (log 6)] -/
  deficit : List (Nat × Nat) := []
  /-- Participant whose turn it is, per class. [table; R445, 12; DESIGN CHOICE 0 (log 6)] -/
  turn : List (Nat × Nat) := []
  /-- Deficit of the weighted classes. [table; R447, 12; DESIGN CHOICE 0 (log 6)] -/
  cdeficit : List (Nat × Nat) := []
  /-- Class whose turn it is. [3; R447, 12; DESIGN CHOICE 0 (log 6)] -/
  cturn : Nat := 0
  /-- Reserve bucket in 1/160 byte. [signed; R449, 12; DESIGN CHOICE 0 (log 6)] -/
  reserve : Int := 0
  /-- MODEL's own: microsecond at which the reserve bucket was last brought up to date. [Nat; not the spec's; DESIGN CHOICE 0 (log 2)] -/
  reserveAt : Nat := 0
  /-- Microsecond at which the thermal cap's 100 µs began, and data bytes served in it. [2 x Nat; R452, 12; 0] -/
  capAt : Nat := 0
  /-- Data bytes served since then. [Nat; R452, 12; 0] -/
  capBytes : Nat := 0
  /-- Per participant: bytes and items served, bytes and items dropped. [table; R456, 12; CW: 0] -/
  served : List (Nat × (Nat × Nat × Nat × Nat)) := []
  /-- Moments of drops of the last second with the participant charged (R456). [list; 12; none] -/
  drops : List (Nat × Nat) := []
  deriving DecidableEq, Repr

/-- An aggregate; key 0-3. -/
structure Agg where
  /-- Configured. [1; R389, 10; CW: no aggregate] -/
  on : Bool := false
  /-- MEMBERS. [8; Table 10-7, 10; absent] -/
  members : List Nat := []
  /-- PARK_EN. [1; Table 10-7, 10; absent] -/
  parkEn : Bool := false
  /-- LACP_FAST. [1; Table 10-7, 10; absent] -/
  fast : Bool := false
  /-- LPI_ALLOWED. [1; Table 10-7, 10; absent] -/
  lpi : Bool := false
  /-- AGG_KEY. [16; Table 10-7, 10; absent] -/
  key : Nat := 0
  /-- SYS_PRIORITY. [16; Table 10-7, 10; absent] -/
  pri : Nat := 0
  /-- MIN_ACTIVE. [8; Table 10-7, 10; absent] -/
  minActive : Nat := 0
  /-- PARK_PCT. [8; Table 10-7, 10; absent] -/
  parkPct : Nat := 0
  /-- WAKE_PCT. [8; Table 10-7, 10; absent] -/
  wakePct : Nat := 0
  /-- PARK_HOLD_MS. [16; Table 10-7, 10; absent] -/
  holdMs : Nat := 0
  /-- WAKE_QUEUE_KIB. [16; Table 10-7, 10; absent] -/
  wakeQueue : Nat := 0
  /-- RX_TW_EXTRA_US. [16; Table 10-7, 10; absent] -/
  twExtra : Nat := 0
  /-- Windows of 1 ms in a row in which one member fewer would have stayed below PARK_PCT. [16; R378, 10; 0] -/
  calm : Nat := 0
  /-- State reported last: 0 none, 1 up, 2 DEGRADED, 3 DOWN. [8; Table 10-8, 10; 0] -/
  st : Nat := 0
  /-- Conversation ID to the port + 1 it belongs to. [4,096; R374 R398, 10; none assigned] -/
  conv : List (Nat × Nat) := []
  /-- Conversation ID to the port + 1 that carries it while its own member is not ACTIVE. [4,096; R374, 10; none] -/
  alt : List (Nat × Nat) := []
  /-- Frames of conversations that move away from a draining member (R374). [list; 10; none] -/
  held : List Frame := []
  deriving DecidableEq, Repr

/-- One copy of the switch tables (Table 11-2). -/
structure SwTables where
  /-- Indexed tables: key is table code × 2^20 + index, entry bytes; [] absent. [Table 11-2, 11; CW: empty] -/
  indexed : List (Nat × Bytes) := []
  /-- DECAP entries. [16,384 x 32 bytes; Table 11-2, 11; CW: empty] -/
  decap : List Bytes := []
  /-- L2 entries. [65,536 x 16 bytes; Table 11-2, 11; CW: empty] -/
  l2 : List Bytes := []
  /-- EXACT entries. [131,072 x 72 bytes; Table 11-2, 11; CW: empty] -/
  exact : List Bytes := []
  deriving DecidableEq, Repr

/-- A mirror session; key 0-3. -/
structure Mirror where
  /-- ENABLE. [1; R431, 11; CW: 0] -/
  on : Bool := false
  /-- DEST_VPORT. [8; Table 11-10, 11; CW: 0] -/
  dest : Nat := 0
  /-- RX_RING. [6; Table 11-10, 11; CW: 0] -/
  ring : Nat := 0
  /-- TRUNC_LEN. [16; Table 11-10, 11; CW: 0] -/
  trunc : Nat := 0
  /-- TUNNEL index, none for 0xFFFF. [16; Table 11-10, 11; CW: none] -/
  tunnel : Option Nat := none
  /-- SAMPLE_N. [24; Table 11-10, 11; CW: 1] -/
  sampleN : Nat := 1
  /-- Candidates since the last copy. [24; R429, 11; 0] -/
  seen : Nat := 0
  /-- Copies dropped since the last MIRROR_OVERRUN record. [32; Table 11-11, 11; 0] -/
  lost : Nat := 0
  deriving DecidableEq, Repr

/-- A frame that waits for an ENGINE buffer of the switch (Table 09-2): for its encapsulation, or as a copy for a vport. -/
structure SwWait where
  /-- The frame. -/
  frame : Frame
  /-- The lookup's result. -/
  found : Found
  /-- Destination of a copy; none for an encapsulation. -/
  copy : Option Nat
  deriving DecidableEq, Repr

/-- Ports, switch and scheduler. -/
structure NetSide where
  /-- Port mode (Table 10-1). [8; R389, 10; CW:OTP ETH_PORT_CFG, BLANK 0] -/
  mode : Nat := 0
  /-- ETH_BASE_MAC. [48; R350, 10; CW:OTP, BLANK 0] -/
  baseMac : Nat := 0
  /-- Ports 0-7. [8; ch 10; CW: disabled] -/
  ports : List (Nat × Port) := []
  /-- AGG0-AGG3. [4; R373, 10; CW: none] -/
  aggs : List (Nat × Agg) := []
  /-- Active switch tables. [tables; R406, 11; CW: empty] -/
  active : SwTables := {}
  /-- Shadow switch tables. [tables; R406, 11; CW: empty] -/
  shadow : SwTables := {}
  /-- GEN. [32; R392, 11; CW: 0] -/
  gen : W32 := 0
  /-- Mirror sessions. [4; R429, 11; CW: disabled] -/
  mirrors : List (Nat × Mirror) := []
  /-- IPv4 identification counters of the tunnel records. [16 per record; R414, 11; DESIGN CHOICE 0 (log 6)] -/
  ipIds : List (Nat × Nat) := []
  /-- Received frames whose lookup or verdict is still to come, oldest first. [list; R399 R419, 11; none] -/
  inq : List InFrame := []
  /-- Frames that wait for an ENGINE buffer. [list; Table 09-2, 09; none] -/
  swWaits : List SwWait := []
  /-- Scheduling points. [table; Table 12-1, 12; CW: empty] -/
  points : List (Nat × SchPoint) := []
  /-- Number of the next frame or item. [Nat; DESIGN CHOICE 0 (log 6)] -/
  nextId : Nat := 0
  /-- WEIGHT of PF0 (16) and DEV (17). [8; R453, 12; CW: 16] -/
  weights : List (Nat × Nat) := [(16, 16), (17, 16)]
  /-- TX_CAP_KIB of PF0 (16) and DEV (17). [32; R453, 12; CW: 4,096] -/
  txCaps : List (Nat × Nat) := [(16, 4096), (17, 4096)]
  /-- ENG_CAP_KIB of PF0 (16) and DEV (17). [32; R453, 12; CW: 16,384] -/
  engCaps : List (Nat × Nat) := [(16, 16384), (17, 16384)]
  deriving DecidableEq, Repr

end Sys2Proof.Machine
end

