-- ==== Sys2Proof/Machine/StatePlt.lean ====
section
/-!
DEFINITION. Sys2Proof/Machine/StatePlt.lean: setpoints, watches and the plant bus (ch 21).
-/
namespace Sys2Proof.Machine
open Sys2Proof

/-- Where a slew's present leg is (R770, R771). -/
inductive Leg where
  /-- It waits until another commit has been copied. -/
  | waits
  /-- It is committed: RAMP, and whether it is the final leg. -/
  | committed (ramp : Nat) (final : Bool)
  /-- It runs: ticks left, the present one included, and whether it is the final leg. -/
  | runs (left : Nat) (final : Bool)
  deriving DecidableEq, Repr

/-- A slew (R770). -/
structure Slew where
  /-- NEW. -/
  target : Int
  /-- Its leg. -/
  leg : Leg
  deriving DecidableEq, Repr

/-- A defined setpoint (R768). -/
structure Setpoint where
  /-- CADDR. [12; R768, 21] -/
  addr : Nat
  /-- MIN. [32 signed; R768, 21] -/
  lo : Int
  /-- MAX. [32 signed; R768, 21] -/
  hi : Int
  /-- RATE. [32; R768, 21] -/
  rate : Nat
  /-- Its slew. [R770, 21; none] -/
  slew : Option Slew := none
  deriving DecidableEq, Repr

/-- A watch; key 0-15. -/
structure Watch where
  /-- EN. [1; Table 21-3, 21; CW: 0] -/
  on : Bool := false
  /-- SRC capture. [1; Table 21-3, 21; CW: 0] -/
  capture : Bool := false
  /-- SLOT. [6; Table 21-3, 21; CW: 0] -/
  slot : Nat := 0
  /-- WORD. [3; Table 21-3, 21; CW: 0] -/
  word : Nat := 0
  /-- ACTION. [2; Table 21-3, 21; CW: 0] -/
  action : Nat := 0
  /-- PERSIST. [16; Table 21-3, 21; CW: 0] -/
  persist : Nat := 0
  /-- LO. [32; Table 21-3, 21; CW: 0] -/
  lo : Nat := 0
  /-- HI. [32; Table 21-3, 21; CW: 0] -/
  hi : Nat := 0
  /-- STALE. [16; Table 21-3, 21; CW: 0] -/
  stale : Nat := 0
  /-- VIOLATING. [1; R778, 21; CW: 0] -/
  violating : Bool := false
  /-- It trips for staleness. [1; R778, 21; 0] -/
  staleTrip : Bool := false
  /-- Consecutive violating inspections. [16; R777, 21; 0] -/
  count : Nat := 0
  /-- Boundaries since the last publication or since enabling. [16; R777, 21; 0] -/
  since : Nat := 0
  deriving DecidableEq, Repr

/-- Plant supervision. -/
structure Plt where
  /-- Defined setpoints 0-31. [32; R768, 21; CW: undefined] -/
  points : List (Nat × Setpoint) := []
  /-- Watches 0-15. [16; R775, 21; CW: disabled] -/
  watches : List (Nat × Watch) := []
  /-- PLT_ALERT. [18; Table 21-3, 21; CW: 0] -/
  alert : Nat := 0
  deriving DecidableEq, Repr

/-- A message buffer; key 0-63 (Table 21-4). -/
structure CanBuffer where
  /-- ID. [29; Table 21-4, 21; CW: 0] -/
  id : Nat := 0
  /-- IDE. [1; Table 21-4, 21; CW: 0] -/
  ide : Bool := false
  /-- MODE: 0 off, 1 TX, 2 RX. [2; R786, 21; CW: off] -/
  mode : Nat := 0
  /-- FDF. [1; Table 21-4, 21; CW: 0] -/
  fdf : Bool := false
  /-- BRS. [1; Table 21-4, 21; CW: 0] -/
  brs : Bool := false
  /-- STOP_CLASS. [1; Table 21-4, 21; CW: 0] -/
  stop : Bool := false
  /-- OVERWRITE. [1; Table 21-4, 21; CW: 0] -/
  overOk : Bool := false
  /-- NOTIFY. [1; Table 21-4, 21; CW: 0] -/
  notify : Bool := false
  /-- ESI. [1; Table 21-4, 21; CW: 0] -/
  esi : Bool := false
  /-- DLC. [4; Table 21-4, 21; CW: 0] -/
  dlc : Nat := 0
  /-- MASK. [29; Table 21-4, 21; CW: 0] -/
  mask : Nat := 0
  /-- DATA. [64 bytes; Table 21-4, 21; CW: 0] -/
  data : List Host.Cell := []
  deriving DecidableEq, Repr

/-- A command packet being reassembled (R793). -/
structure Carriage where
  /-- Source node. -/
  node : Nat
  /-- PKT. -/
  pkt : Nat
  /-- Next SEG. -/
  next : Nat
  /-- Bytes so far. -/
  bytes : Bytes
  deriving DecidableEq, Repr

/-- The plant bus. -/
structure Can where
  /-- The 16 bytes of CAN_CFG. [128; Table 21-7, 21; CW:OTP CAN_BOOT_CFG, BLANK MODE OFF] -/
  cfg : Bytes := []
  /-- STATE: 0 off, 1 active, 2 passive, 3 bus-off, 4 recovering, 5 integrating. [3; Table 21-4, 21; CW: 0] -/
  st : Nat := 0
  /-- TEC. [8; Table 21-4, 21; CW: 0] -/
  tec : Nat := 0
  /-- REC. [8; Table 21-4, 21; CW: 0] -/
  rec_ : Nat := 0
  /-- CAN_RX_LOST. [32; Table 21-4, 21; CW: 0] -/
  lost : Nat := 0
  /-- Frames lost in the last second, with the microsecond of each record window's start. [R787, 21; none] -/
  lostAt : List Nat := []
  /-- Pending TX buffers, rising. [64; R789, 21; CW: 0] -/
  txreq : List Nat := []
  /-- CAN_RXNEW, rising. [64; R787, 21; CW: 0] -/
  rxnew : List Nat := []
  /-- Buffers. [64; R786, 21; CW: off] -/
  bufs : List (Nat × CanBuffer) := []
  /-- The message that bus-off interrupted: a buffer, or 64 for carriage. [R790, 21; none] -/
  resume : Option Nat := none
  /-- Frames sent. [32; Table 21-6, 21; DESIGN CHOICE 0 (log 69)] -/
  sent : Nat := 0
  /-- Frames received. [32; Table 21-6, 21; DESIGN CHOICE 0 (log 69)] -/
  received : Nat := 0
  /-- Open reassemblies. [<= 4; R793 R794, 21; none] -/
  parts : List Carriage := []
  /-- Carriage segments that wait to be sent: identifier and data. [list; R795, 21; none] -/
  carry : List (Nat × Bytes) := []
  deriving DecidableEq, Repr

end Sys2Proof.Machine
end

