-- ==== Sys2Proof/Machine/StateBase.lean ====
section
/-!
DEFINITION. Sys2Proof/Machine/StateBase.lean: the event log, the reset unit and the command front end
(ch 01-03). Each field's docstring ends with its width, the rule and file that name it, and its
value at reset, in square brackets.
-/
namespace Sys2Proof.Machine
open Sys2Proof

/-- One event-log record (Table 02-8, 02). -/
structure LogRecord where
  /-- RTC seconds when written. -/
  rtc : W32 := 0
  /-- TICK when written. -/
  tick : W32 := 0
  /-- Index of the source block. -/
  source : Nat := 0
  /-- Severity 0-4 (R66, R1041). -/
  severity : Nat := 0
  /-- Status code or event code (R65). -/
  code : Nat := 0
  /-- Record number since the last C or W. -/
  seq : W32 := 0
  /-- Bytes 16-31. -/
  detail : Bytes := []
  deriving DecidableEq, Repr

/-- When a record of a limited code and key was written (R1042, 02). -/
structure Stamp where
  /-- Source block. -/
  source : Nat
  /-- Code. -/
  code : Nat
  /-- Key the limit is kept for. -/
  key : Nat
  /-- Microsecond at which the record was written. -/
  at_ : Nat
  deriving DecidableEq, Repr

/-- The event log in SRAM. -/
structure EventLog where
  /-- The ring of at most 4,096 records, oldest first. [4096 x 32 bytes; R63 R64, 02; CW wipe it: empty] -/
  records : List LogRecord := []
  /-- SEQ that the next record will carry. [32; Table 02-8, 02; 0] -/
  nextSeq : W32 := 0
  /-- TICK, counting at 1 MHz since the last C or W. [32; Table 02-8, 02; 0] -/
  tick : W32 := 0
  /-- Moments of the records that a sliding limit still holds. [list; R1042, 02; none] -/
  stamps : List Stamp := []
  deriving DecidableEq, Repr

/-- Reset kinds (Table 02-1, 02). -/
inductive ResetKind where
  /-- Cold reset. -/
  | c
  /-- Warm reset. -/
  | w
  deriving DecidableEq, Repr

/-- AON's reset-cause latch (R37, Table 02-6, 02). -/
structure ResetLatch where
  /-- Kind, C or W. -/
  kind : ResetKind
  /-- Cause code of Table 02-6. -/
  cause : Nat
  /-- RTC seconds at reset entry. -/
  rtc : W32
  deriving DecidableEq, Repr

/-- Resets in progress, lock-holder epochs and pending W starts. -/
structure ResetUnit where
  /-- The reset-cause latch of AON; none before the first C. [8+8+32; R37 Table 02-6, 02; nothing latched] -/
  latch : Option ResetLatch := none
  /-- A C or W that has begun and not ended. [enum; R29, 02 and R1015, 29; none] -/
  active : Option ResetKind := none
  /-- RESET_N is registered low. [1; R1015 R1016, 29; DESIGN CHOICE high, false (log 6)] -/
  pinLow : Bool := false
  /-- A W that starts once a reply has been delivered: its cause code (0x04, 0x06 or 0x07). [8; R112, 03; R933 R956, 26; none] -/
  wPending : Option Nat := none
  /-- Reset epoch of each lock holder (agent id, epoch), unlisted 0. [table; R40, 02; DESIGN CHOICE 0 (log 6)] -/
  epochs : List (Nat × Nat) := []
  deriving DecidableEq, Repr

/-- What a reader's last counting read of a window returned (R52-R56, 02). -/
structure ReadView where
  /-- Reader: 0 host, 1 service port, 16 + n warden core n. -/
  reader : Nat
  /-- The content its last counting read returned, from the header's high word on. -/
  content : Bytes
  deriving DecidableEq, Repr

/-- A command result window or the direct window's result area (Table 02-4, 02; R107, 03). -/
structure ResultWindow where
  /-- TAG of the result, or the pending tag. [16; Table 02-4, 02; CW, F of PF0: 0] -/
  tag : Nat := 0
  /-- READY. [1; Table 02-4, 02; CW, F of PF0: 0] -/
  ready : Bool := false
  /-- STATUS. [15; Table 02-4, 02; CW: 0] -/
  status : Nat := 0
  /-- AUX: the reply's parameter length. [16; Table 02-4, 02; CW: 0] -/
  aux : Nat := 0
  /-- The reply packet from offset 0x008. [up to 4,084 bytes; R107, 03; cleared] -/
  body : Bytes := []
  /-- Readers that have made a counting read of this result or of the pending header, with what it returned; REPEAT of each. [list; R52-R56, 02; none] -/
  views : List ReadView := []
  /-- Readers that have counted a read of the READY result. [list; R53 R54, 02; none] -/
  seen : List Nat := []
  /-- FRESH, signal slots only. [1; R55 Table 02-4, 02; CW: 0] -/
  fresh : Bool := false
  deriving DecidableEq, Repr

/-- How the reply of a command goes back (Table 03-4, 03). -/
inductive ReplyPath where
  /-- Management ring: ring key, entry sequence in the ring, host reply buffer address, its size. -/
  | ring (key entry addr size : Nat)
  /-- Direct command window. -/
  | dcw
  /-- Service port. -/
  | service
  /-- Lattice: arrival link, destination vertex (0 for the neighbour). -/
  | lattice (link dst : Nat)
  /-- Plant bus: sending node and its PKT. -/
  | plant (node pkt : Nat)
  /-- Label mailbox. -/
  | label
  deriving DecidableEq, Repr

/-- A command packet that the front end has accepted (Table 03-1, 03). -/
structure Packet where
  /-- Transport class 1-6 (Table 03-3). -/
  cls : Nat
  /-- Identity of the source. -/
  ident : Nat
  /-- Reply path. -/
  path : ReplyPath
  /-- URGENT flag. -/
  urgent : Bool := false
  /-- OPCODE. -/
  opcode : Nat
  /-- TAG. -/
  tag : Nat
  /-- SEQUENCE. -/
  seq : Nat
  /-- Parameters; those of a chain are joined in order. -/
  params : Bytes
  /-- Number of packets, 1 unless a chain; their parameter lengths in order. -/
  parts : List Nat := []
  /-- CRC of the (last) request. -/
  crc : W32 := 0
  /-- An F of the source's function discards the reply (R35). -/
  discard : Bool := false
  deriving DecidableEq, Repr

/-- A source of commands: class, identity, and the link for an unassigned neighbour (R891, 25). -/
structure SrcKey where
  /-- Transport class. -/
  cls : Nat
  /-- Identity. -/
  ident : Nat
  /-- Link + 1 for a lattice source of identity 0, else 0. -/
  sub : Nat := 0
  deriving DecidableEq, Repr

/-- An open chain (R78-R83, 03). -/
structure Chain where
  /-- OPCODE of the first packet. -/
  opcode : Nat
  /-- TAG of the first packet. -/
  tag : Nat
  /-- SEQUENCE of the last packet taken. -/
  lastSeq : Nat
  /-- Parameter lengths of the packets taken. -/
  parts : List Nat
  /-- Parameters joined so far. -/
  params : Bytes
  /-- Reply path of the last packet. -/
  path : ReplyPath
  deriving DecidableEq, Repr

/-- The last request a source completed, with its reply (R94, 03). -/
structure Stored where
  /-- TAG. -/
  tag : Nat
  /-- SEQUENCE. -/
  seq : Nat
  /-- OPCODE. -/
  opcode : Nat
  /-- CRC. -/
  crc : W32
  /-- The reply packet. -/
  reply : Bytes
  deriving DecidableEq, Repr

/-- Per-source state of the front end. -/
structure Source where
  /-- Who. [R73, 03] -/
  key : SrcKey
  /-- Microseconds of the violations in the last 1 s. [<=16 moments; R87, 03; none] -/
  violations : List Nat := []
  /-- A throttle in force: packets refused during it so far. [32; R87-R89, 03; none] -/
  throttle : Option Nat := none
  /-- The open chain. [R80, 03; C W F of PF0: none] -/
  chain : Option Chain := none
  /-- The last completed request and its stored reply. [R94, 03; C W F of PF0: none] -/
  stored : Option Stored := none
  deriving DecidableEq, Repr

/-- What a started command waits for before its reply (R100, 03). -/
inductive WaitKind where
  /-- A power transition to a state code (R159, 04). -/
  | power (target : Nat)
  /-- A domain switch (R157, 04). -/
  | domain (d : Nat)
  /-- A tick boundary: 0 swap, 1 start, 2 stop, 3 tick set (R619-R623, 16). -/
  | boundary (what : Nat)
  /-- The copy of a pour (R646, 17). -/
  | pour
  /-- The last owned buffer of a pool (R339, 09). -/
  | pool (p : Nat)
  /-- The last admitted work of a ring pair (R308, 08). -/
  | ring (key : Nat)
  /-- A security association's items (R506, 13). -/
  | saDel (index : Nat)
  /-- An idle CAN bus (R785, 21). -/
  | can
  /-- An open-wire test of the taps from first, count left (R766, 20). -/
  | openWire (first count : Nat)
  /-- An integrity job by command (R587, 15). -/
  | fixJob (id : Nat)
  /-- The first leg of a setpoint (R773, 21). -/
  | setpoint (n : Nat)
  /-- The RELEASE phase of a handover (R916, 25). -/
  | handover
  /-- A switch generation drain or any other bounded wait of the target. -/
  | other (code : Nat)
  deriving DecidableEq, Repr

/-- A command whose interpretation has started and whose reply is still to come (R97, R100, 03). -/
structure Waiting where
  /-- The command. -/
  pkt : Packet
  /-- What it waits for. -/
  kind : WaitKind
  deriving DecidableEq, Repr

/-- The command front end (ch 03). -/
structure CmdFrontEnd where
  /-- DCW request area, offsets 0x1000-0x1FF3. [4,084 bytes; R104 Table 03-8, 03; C W F of PF0: every byte 0] -/
  dcwReq : Mem := []
  /-- DCW_STATE.BUSY. [1; Table 03-8, 03; CW, F of PF0: 0] -/
  dcwBusy : Bool := false
  /-- DCW_STATE.OVERRUN. [1; Table 03-8, 03; CW, F of PF0: 0] -/
  dcwOverrun : Bool := false
  /-- Direct window result area. [window; R107, 03; cleared] -/
  dcwResult : ResultWindow := {}
  /-- CRW0 service port. [window; Table 03-8, 03; cleared] -/
  crw0 : ResultWindow := {}
  /-- CRW1 lattice. [window; Table 03-8, 03; cleared] -/
  crw1 : ResultWindow := {}
  /-- CRW2 plant bus. [window; Table 03-8, 03; cleared] -/
  crw2 : ResultWindow := {}
  /-- CRW3 label mailbox. [window; Table 03-8, 03; cleared] -/
  crw3 : ResultWindow := {}
  /-- Per-source throttle, chain and stored reply. [list; R78-R96, 03; none] -/
  sources : List Source := []
  /-- Accepted packets in interpretation order, urgent first within an area. [list; R97, 03; none] -/
  queue : List Packet := []
  /-- Started commands whose reply is to come. [list; R100, 03; none] -/
  waits : List Waiting := []
  /-- Requests this device sent over the lattice (vertex, tag). [list; R115, 03; none] -/
  sentRequests : List (Nat × Nat) := []
  deriving DecidableEq, Repr

end Sys2Proof.Machine
end

