-- ==== Sys2Proof/Machine/StateSig.lean ====
section
/-!
DEFINITION. Sys2Proof/Machine/StateSig.lean: the signal engine, its inputs and outputs, the coefficient banks and the result slots (ch 16, 17).
-/
namespace Sys2Proof.Machine
open Sys2Proof

/-- A loaded program. -/
structure SgeProg where
  /-- First slot. [12; R616, 16; none] -/
  base : Nat
  /-- Instructions in slot order: the program memory's words. [<= 4,096 x 64; R616, 16; none] -/
  code : List Nat
  /-- Cost. [16; R594, 16; none] -/
  cost : Nat
  /-- PROGRAM_ID. [32; Table 16-7, 16; none] -/
  id : Nat
  /-- CLEAR_ACC. [1; Table 16-7, 16; none] -/
  clear : Bool
  /-- Lines: BASE and N. [<= 64; Table 16-7, 16; none] -/
  lines : List (Nat × Nat)
  deriving DecidableEq, Repr

/-- Source state (R598). -/
inductive SrcState where
  /-- INTERNAL. -/
  | internal
  /-- ACQUIRING. -/
  | acquiring
  /-- LOCKED. -/
  | locked
  /-- LOST. -/
  | lost
  deriving DecidableEq, Repr

/-- The signal engine. -/
structure Sge where
  /-- RUNNING. [1; R591, 16; CW: STOPPED] -/
  running : Bool := false
  /-- Active program. [R592, 16; CW: none] -/
  active : Option SgeProg := none
  /-- Staged program. [R592, 16; CW: none] -/
  staged : Option SgeProg := none
  /-- acc0-acc15 as integers in units of 2^-61, unlisted 0. [16 x 72; R604, 16; CW: 0] -/
  acc : List (Nat × Int) := []
  /-- Delay memory, 131,072 words of 32 bits, unlisted 0. [512 KiB; R612, 16; CW wipe: 0] -/
  delay : List (Nat × Nat) := []
  /-- Pointer of each line of the active program. [17 each; R613, 16; CW: 0] -/
  ptr : List (Nat × Nat) := []
  /-- Tick number. [32; R590, 16; CW: 0] -/
  tick : W32 := 0
  /-- RATE. [4; R592, 16; CW:OTP, BLANK 0x05] -/
  rate : Nat := 5
  /-- SOURCE: 0 internal, 1 TDM input 0, 2 TDM input 1. [2; R592, 16; CW:OTP, BLANK 0] -/
  source : Nat := 0
  /-- AUTO_RETURN. [1; R592, 16; CW:OTP, BLANK 0] -/
  autoReturn : Bool := false
  /-- SRC_STATE. [2; Table 16-3, 16; CW: 0] -/
  src : SrcState := .internal
  /-- SGE_FLAGS: 0 OVF, 1 SAT, 2 SOURCE_LOST, 3 STRAY. [4; Table 16-3, 16; CW: 0] -/
  flags : Nat := 0
  /-- SGE_OVF_MASK. [16; Table 16-3, 16; CW: 0] -/
  ovf : Nat := 0
  /-- SGE_STRAY_COUNT. [32 saturating; Table 16-3, 16; CW: 0] -/
  stray : Nat := 0
  /-- SGE_MISS_COUNT. [32 saturating; Table 16-3, 16; CW: 0] -/
  miss : Nat := 0
  /-- SGE_PM_ADDR. [12; Table 16-3, 16; CW: 0] -/
  pmAddr : Nat := 0
  /-- Upper half of the word that the last read of SGE_PM_DATA's lower half took (R679). [32; Table 16-3, 16; CW: 0] -/
  pmSnap : Nat := 0
  /-- Consecutive missed frames. [2; R600, 16; 0] -/
  missed : Nat := 0
  /-- Consecutive ticks of ACQUIRING with an edge in the window. [2; R598, 16; 0] -/
  matched : Nat := 0
  /-- An edge was registered in the window in this tick of ACQUIRING. [1; R598, 16; 0] -/
  inWin : Bool := false
  /-- Cycle of the last edge registered since the last boundary. [R598, 16; none] -/
  edge : Option Nat := none
  /-- Phase correction applied at the last boundary, in cycles. [signed; R598, 16; 0] -/
  phi : Int := 0
  /-- LOST was entered since the source last locked (R601). [1; 16; 0] -/
  wasLost : Bool := false
  /-- MODEL's own: SGCLK cycle of the last boundary. [Nat; not the spec's; DESIGN CHOICE 0 (log 56)] -/
  cyc : Nat := 0
  /-- Next instruction of the steep that runs, none between steeps. [12; R589, 16; none] -/
  pos : Option Nat := none
  /-- COUNT of a REP that has just been issued, 1 otherwise. [9; R610, 16; 1] -/
  rep : Nat := 1
  /-- First steep after a swap or START. [1; Table 16-6, 16; 0] -/
  first : Bool := false
  /-- Output words staged by this steep: port and word. [24 x 32; R611, 16; none] -/
  outs : List (Nat × Nat) := []
  /-- Result words staged by this steep: slot x 8 + word and value. [512 x 32; R611, 16; none] -/
  res : List (Nat × Nat) := []
  /-- Slots with a word whose conv saturated in this steep. [64; R654, 17; none] -/
  resSat : List Nat := []
  deriving DecidableEq, Repr

/-- A TDM input; key 0-1. -/
structure TdmIn where
  /-- ENABLE. [1; Table 17-2, 17; CW: 0] -/
  on : Bool := false
  /-- SLOTS. [5; Table 17-2, 17; CW: 0] -/
  slots : Nat := 0
  /-- WIDTH. [6; Table 17-2, 17; CW: 0] -/
  width : Nat := 0
  /-- FLAGS: 0 FS_EDGE, 1 SAMPLE_EDGE, 2 DELAY1. [3; Table 17-2, 17; CW: 0] -/
  flags : Nat := 0
  /-- Port words of the latest complete frame. [16 x 32; R631, 17; CW: 0] -/
  frame : List (Nat × Nat) := []
  deriving DecidableEq, Repr

/-- The TDM output. -/
structure TdmOut where
  /-- MODE: 0 off, 1 MASTER, 2 FOLLOW input 0, 3 FOLLOW input 1. [2; Table 17-2, 17; CW: 0] -/
  mode : Nat := 0
  /-- SLOTS. [4; Table 17-2, 17; CW: 0] -/
  slots : Nat := 0
  /-- WIDTH. [6; Table 17-2, 17; CW: 0] -/
  width : Nat := 0
  /-- FLAGS. [3; Table 17-2, 17; CW: 0] -/
  flags : Nat := 0
  /-- Words published last. [8 x 32; R633, 17; CW: 0] -/
  words : List (Nat × Nat) := []
  deriving DecidableEq, Repr

/-- An ADC channel; key 0-7. -/
structure AdcCh where
  /-- ENABLE. [1; Table 17-2, 17; CW: 0] -/
  on : Bool := false
  /-- AVG. [5; Table 17-2, 17; CW: 0] -/
  avg : Nat := 0
  /-- Sum of the codes of this tick. [20; R634, 17; 0] -/
  sum : Nat := 0
  /-- Conversions of this tick. [5; R634, 17; 0] -/
  count : Nat := 0
  deriving DecidableEq, Repr

/-- A capture input; key 0-7. -/
structure Capture where
  /-- MODE: 0 off, 1 PERIOD, 2 HIGH_TIME, 3 COUNT. [2; Table 17-2, 17; CW: 0] -/
  mode : Nat := 0
  /-- EDGE: 1 falling. [1; Table 17-2, 17; CW: 0] -/
  falling : Bool := false
  /-- FILTER. [16; Table 17-2, 17; CW: 0] -/
  filter : Nat := 0
  /-- Cycle of the last qualified edge of the chosen polarity. [R637, 17; none] -/
  last : Option Nat := none
  /-- Cycles between the last two. [R637, 17; none] -/
  period : Option Nat := none
  /-- Length of the last complete phase that the chosen edge began. [R637, 17; 0] -/
  high : Nat := 0
  /-- The phase that the last chosen edge began still lasts. [1; R637, 17; 0] -/
  open_ : Bool := false
  /-- Qualified edges of the chosen polarity in this tick. [R637, 17; 0] -/
  count : Nat := 0
  deriving DecidableEq, Repr

/-- A PWM output; key 0-15. -/
structure Pwm where
  /-- A record has been committed since the last C or W. [1; R640, 17; 0] -/
  set : Bool := false
  /-- MODE: 0 off, 1 EDGE, 2 CENTRE. [2; Table 17-2, 17; CW: 0] -/
  mode : Nat := 0
  /-- SAFE: 0 low, 1 high, 2 high-impedance. [2; R640, 17; CW:OTP SIO_PWM_SAFE, BLANK 2] -/
  safe : Nat := 2
  /-- INVERT. [1; Table 17-2, 17; CW: 0] -/
  invert : Bool := false
  /-- DIV. [16; Table 17-2, 17; CW: 0] -/
  div : Nat := 0
  /-- PHASE. [16; Table 17-2, 17; CW: 0] -/
  phase : Nat := 0
  /-- Word published last. [32; R638, 17; CW: 0] -/
  word : Nat := 0
  /-- ON of the period in progress, none before the first period. [16; R639, 17; none] -/
  on : Option Nat := none
  deriving DecidableEq, Repr

/-- An entry that ramps (R650). -/
structure Ramp where
  /-- CADDR. -/
  addr : Nat
  /-- OLD, as a signed number. -/
  old : Int
  /-- NEW. -/
  new : Int
  /-- R. -/
  r : Nat
  /-- j of this tick. -/
  j : Nat
  deriving DecidableEq, Repr

/-- What the pour unit is doing for a commit. -/
inductive PourStep where
  /-- The commit waits for its boundary: stager 0 command, 1-5 warden core. -/
  | waiting (stager : Nat)
  /-- The copy runs: stager and number of the boundary. -/
  | copying (stager : Nat) (b : W32)
  deriving DecidableEq, Repr

/-- A warden's write of a pour register that waits for a commit to end. -/
structure LatePour where
  /-- 0 stage, 1 commit, 2 discard. -/
  op : Nat
  /-- Core. -/
  core : Nat
  /-- CADDR. -/
  addr : Nat
  /-- RAMP. -/
  ramp : Nat
  /-- VALUE. -/
  value : Nat
  deriving DecidableEq, Repr

/-- Signal inputs, outputs and pours. -/
structure Sio where
  /-- TDM inputs 0 and 1. [Table 17-2, 17; CW: disabled] -/
  tdmIn : List (Nat × TdmIn) := []
  /-- TDM output. -/
  tdmOut : TdmOut := {}
  /-- ADC channels 0-7. [Table 17-2, 17; CW: disabled] -/
  adc : List (Nat × AdcCh) := []
  /-- Captures 0-7. [Table 17-2, 17; CW: off] -/
  capture : List (Nat × Capture) := []
  /-- PWM outputs 0-15. [Table 17-2, 17; CW: safe states] -/
  pwm : List (Nat × Pwm) := []
  /-- Input words latched at the last boundary, by port, unlisted 0. [48 x 32; R628, 17; CW: 0] -/
  inputs : List (Nat × Nat) := []
  /-- Coefficient bank 0, unlisted 0. [4,096 x 32; R642, 17; CW: 0] -/
  bank0 : List (Nat × Nat) := []
  /-- Coefficient bank 1. [4,096 x 32; R642, 17; CW: 0] -/
  bank1 : List (Nat × Nat) := []
  /-- Bank 1 is active. [1; R642, 17; CW: 0] -/
  active1 : Bool := false
  /-- POUR_GEN. [32; R642, 17; CW: 0] -/
  gen : W32 := 0
  /-- Staged coefficient records: CADDR to RAMP and VALUE. [<= 4,096; R643, 17; CW: none] -/
  staged : List (Nat × (Nat × Nat)) := []
  /-- Staged configuration records by UNIT. [<= 35 x 16 bytes; R643, 17; CW: none] -/
  configs : List (Nat × Bytes) := []
  /-- Entries that ramp. [<= 256; R652, 17; CW: none] -/
  ramps : List Ramp := []
  /-- A commit in progress. [R646, 17; none] -/
  pour : Option PourStep := none
  /-- Entries of the pour whose copy runs: CADDR and VALUE. [R646, 17; none] -/
  copy : List (Nat × Nat) := []
  /-- A warden's write that waits for a copy (R646). [17; none] -/
  late : Option LatePour := none
  /-- SIO_POUR_ENTRY.CADDR. [12; Table 17-3, 17; CW: 0] -/
  entry : Nat := 0
  /-- SIO_POUR_ENTRY.RAMP. [16; Table 17-3, 17; CW: 1] -/
  ramp : Nat := 1
  /-- SIO_POUR_EXPECT. [32; Table 17-3, 17; CW: 0xFFFF_FFFF] -/
  expect : W32 := 0xFFFFFFFF
  /-- SIO_POUR_RES.STATUS. [15; Table 17-3, 17; CW: 0] -/
  resStatus : Nat := 0
  /-- SIO_POUR_RES.DONE. [1; Table 17-3, 17; CW: 1] -/
  resDone : Bool := true
  /-- Result slots 0-63: header and WORD0-WORD7 as body. [64 x 64 bytes; Table 17-4, 17; CW: 0] -/
  slots : List (Nat × ResultWindow) := []
  deriving DecidableEq, Repr

end Sys2Proof.Machine
end

