-- ==== Sys2Proof/Config.lean ====
section
/-!
DEFINITION. Sys2Proof/Config.lean: what an implementation fixes and the values the spec leaves open.
An opaque constant has no body that a proof could see; every statement holds for every value of it.
-/
namespace Sys2Proof.Config
open Sys2Proof

/-- A free value: the n-th open value that the machine takes (log 3). -/
opaque freeValue : Nat → Nat
/-- n free bytes of the k-th open value (log 3). -/
opaque freeBytes : Nat → Nat → Bytes
/-- The hash bucket of a key in a hashed switch table (R410, 11; log 28). -/
opaque bucketOf : Nat → Bytes → Nat
/-- Clause 78 minimum system wake time in µs of a PHY type (R371, 10). -/
opaque minWakeUs : Nat → Nat
/-- The LACP port priority and the collector's maximum delay (R373, 10, names neither). -/
opaque lacpPortPriority : Nat
/-- Collector maximum delay of an LACPDU (R373, 10). -/
opaque lacpMaxDelay : Nat

/-! Named standards: uninterpreted functions of their operands (log 32). -/

/-- AES-256 GCM authenticated encryption: key, IV, associated data, plaintext to ciphertext and 16-byte tag (R480 R488 R493, 13). -/
opaque gcmSeal : Bytes → Bytes → Bytes → Bytes → Bytes
/-- AES-256 GCM authenticated decryption; none when the tag is wrong. -/
opaque gcmOpen : Bytes → Bytes → Bytes → Bytes → Option Bytes
/-- AES Key Wrap of NIST SP 800-38F: KEK, plaintext (R474, 13). -/
opaque kwWrap : Bytes → Bytes → Bytes
/-- AES key unwrap; none when the integrity check fails. -/
opaque kwUnwrap : Bytes → Bytes → Option Bytes
/-- XTS-AES-256 of IEEE 1619 on one data unit: encrypt, key, data unit number, bytes (R496, 13). -/
opaque xtsUnit : Bool → Bytes → Nat → Bytes → Bytes
/-- SHA-256 (FIPS 180-4), 32 bytes (R565, 15). -/
opaque sha256 : Bytes → Bytes
/-- SHA3-256 (FIPS 202), 32 bytes (R565, 15). -/
opaque sha3 : Bytes → Bytes
/-- HMAC-SHA-256 (RFC 2104): key, message, 32 bytes (R565, 15). -/
opaque hmac : Bytes → Bytes → Bytes
/-- Hop limit of the packets that a storage engine builds; ch 14 names none. -/
opaque stoHops : Nat
/-- IPv4 flags and fragment field of the packets that a storage engine builds; ch 14 names none. -/
opaque stoDf : Bool
/-- Receive window in bytes that a storage engine advertises; ch 14 names none. -/
opaque stoWindow : Nat
/-- NSID that the SQE of a drive carries; ch 14 names no field that gives it (log 54). -/
opaque driveNsid : Nat → Nat

/-- HSS verification of a message (R945; RFC 8554, NIST SP 800-208): public key of 60 bytes, message, signature of 3,124 bytes (log 32). -/
opaque hssVerify : Bytes → Bytes → Bytes → Bool

end Sys2Proof.Config
end

