-- ==== Sys2Proof/Machine/Crc.lean ====
section
/-!
DEFINITION. Sys2Proof/Machine/Crc.lean: the checksums the spec defines bit by bit.
-/
namespace Sys2Proof.Machine
open Sys2Proof

/-- One bit of the reflected CRC-32C (polynomial 0x82F63B78). R70 (03). -/
def crc32cBit (c : W32) : W32 := if c.getLsbD 0 then (c >>> 1) ^^^ 0x82F63B78#32 else c >>> 1
/-- One byte of the CRC-32C. -/
def crc32cByte (c : W32) (b : Byte) : W32 :=
  crc32cBit (crc32cBit (crc32cBit (crc32cBit (crc32cBit (crc32cBit (crc32cBit (crc32cBit (c ^^^ b.setWidth 32))))))))
/-- CRC-32C with initial value and final XOR 0xFFFF_FFFF. R70 (03). -/
def crc32c (bs : Bytes) : W32 := bs.foldl crc32cByte 0xFFFFFFFF#32 ^^^ 0xFFFFFFFF#32
/-- One bit of the CRC-8, polynomial 0x07, not reflected. R848 (24). -/
def crc8Bit (c : Byte) : Byte := if c.getLsbD 7 then (c <<< 1) ^^^ 0x07#8 else c <<< 1
/-- One byte of the CRC-8. -/
def crc8Byte (c b : Byte) : Byte :=
  crc8Bit (crc8Bit (crc8Bit (crc8Bit (crc8Bit (crc8Bit (crc8Bit (crc8Bit (c ^^^ b))))))))
/-- HCRC: the CRC-8 with initial value 0 and final XOR 0x55. R848 (24). -/
def hcrc (bs : Bytes) : Byte := bs.foldl crc8Byte 0#8 ^^^ 0x55#8
/-- One bit of the IEEE 802.3 CRC-32 (reflected polynomial 0xEDB88320), the FCS of an Ethernet frame. -/
def crc32Bit (c : W32) : W32 := if c.getLsbD 0 then (c >>> 1) ^^^ 0xEDB88320#32 else c >>> 1
/-- One byte of the CRC-32. -/
def crc32Byte (c : W32) (b : Byte) : W32 :=
  crc32Bit (crc32Bit (crc32Bit (crc32Bit (crc32Bit (crc32Bit (crc32Bit (crc32Bit (c ^^^ b.setWidth 32))))))))
/-- The FCS of IEEE 802.3 over the bytes of a frame. -/
def fcs (bs : Bytes) : W32 := bs.foldl crc32Byte 0xFFFFFFFF#32 ^^^ 0xFFFFFFFF#32

/-- One bit of the reflected CRC-16 of ISO/IEC 13239, polynomial 0x8408 (R803, 22). -/
def crc16Bit (c : BitVec 16) : BitVec 16 := if c.getLsbD 0 then (c >>> 1) ^^^ 0x8408#16 else c >>> 1
/-- One byte of the CRC-16. -/
def crc16Byte (c : BitVec 16) (b : Byte) : BitVec 16 :=
  crc16Bit (crc16Bit (crc16Bit (crc16Bit (crc16Bit (crc16Bit (crc16Bit (crc16Bit (c ^^^ b.setWidth 16))))))))
/-- CRC-16 of ISO/IEC 13239: initial value and final XOR 0xFFFF. -/
def crc16 (bs : Bytes) : BitVec 16 := bs.foldl crc16Byte 0xFFFF#16 ^^^ 0xFFFF#16

/-- One bit of the reflected CRC-64, polynomial 0x9A6C_9329_AC4B_C9B5. R564 (15). -/
def crc64Bit (c : W64) : W64 := if c.getLsbD 0 then (c >>> 1) ^^^ 0x9A6C9329AC4BC9B5#64 else c >>> 1
/-- One byte of the CRC-64. -/
def crc64Byte (c : W64) (b : Byte) : W64 :=
  let c := c ^^^ b.setWidth 64
  crc64Bit (crc64Bit (crc64Bit (crc64Bit (crc64Bit (crc64Bit (crc64Bit (crc64Bit c)))))))
/-- CRC-64 with initial value and final XOR of all ones. R564 (15). -/
def crc64 (bs : Bytes) : W64 := bs.foldl crc64Byte 0xFFFFFFFFFFFFFFFF#64 ^^^ 0xFFFFFFFFFFFFFFFF#64

end Sys2Proof.Machine
end

