-- ==== Sys2Proof/Machine/FixMath.lean ====
section
/-!
DEFINITION. Sys2Proof/Machine/FixMath.lean: fixity records, GF(2^8), Reed-Solomon parity and decoding, classification and repair (ch 15).
-/
namespace Sys2Proof.Machine
open Sys2Proof

/-- An integrity profile (Table 15-6). -/
structure Profile where
  /-- K, 1-32. [8; R562, 15; CW: no profile] -/
  k : Nat
  /-- M, 0-8. [8; R562, 15] -/
  m : Nat
  /-- CHUNK_LOG2, 16-24. [8; R562, 15] -/
  log : Nat
  /-- DIGEST: 1 SHA-256, 2 SHA3-256, 3 HMAC-SHA-256. [8; Table 15-6, 15] -/
  digest : Nat
  /-- DU_LOG2. [8; R562, 15] -/
  du : Nat
  /-- HMAC_SLOT. [16; Table 15-6, 15] -/
  slot : Nat
  /-- RECORD_BASE, 0 for none. [64; Table 15-6, 15] -/
  base : Nat
  /-- STRIPES_PER_NS. [32; Table 15-6, 15] -/
  spn : Nat
  deriving DecidableEq, Repr

/-- Chunks of a stripe. -/
def Profile.n (p : Profile) : Nat := p.k + p.m
/-- CHUNK in bytes. -/
def Profile.chunk (p : Profile) : Nat := 2 ^ p.log

/-! ### GF(2^8) with polynomial 0x11D (R567) -/

/-- Multiply by x. -/
def gfDouble (a : Nat) : Nat := let b := a * 2; if b < 256 then b else (b ^^^ 0x11D) % 256
/-- Product, by the bits of the second factor. -/
def gfMulBits : Nat → Nat → Nat → Nat
  | 0, _, _ => 0
  | n + 1, a, b => (if b.testBit 0 then a else 0) ^^^ gfMulBits n (gfDouble a) (b / 2)
/-- Product. -/
def gfMul (a b : Nat) : Nat := gfMulBits 8 a b
/-- Power. -/
def gfPow (a : Nat) : Nat → Nat
  | 0 => 1
  | n + 1 => gfMul a (gfPow a n)
/-- Multiplicative inverse. -/
def gfInv (a : Nat) : Nat := gfPow a 254
/-- The coefficient a(i, j) of R567. -/
def rsCoef (m i j : Nat) : Nat := gfInv (i ^^^ (m + j))
/-- Scale a chunk. -/
def gfScale (c : Nat) (b : Bytes) : Bytes := b.map fun x => BitVec.ofNat 8 (gfMul c x.toNat)
/-- Sum of chunks. -/
def gfAdd (a b : Bytes) : Bytes := (a.zip b).map fun x => x.1 ^^^ x.2
/-- A combination of chunks of n bytes. -/
def gfCombine (n : Nat) (l : List (Nat × Bytes)) : Bytes := l.foldl (fun acc x => if x.1 = 0 then acc else gfAdd acc (gfScale x.1 x.2)) (zeros n)
/-- Row of the code for chunk r: a unit vector for a data chunk, the coefficients of R567 for a parity chunk. -/
def rsRow (k m r : Nat) : List Nat := (List.range k).map fun j => if r < k then b2n (r == j) else rsCoef m (r - k) j
/-- Chunk r from the data chunks. -/
def rsChunk (p : Profile) (data : List Bytes) (r : Nat) : Bytes := gfCombine p.chunk ((rsRow p.k p.m r).zip data)
/-- Every chunk from the data chunks (R567). -/
def rsEncode (p : Profile) (data : List Bytes) : List Bytes := (List.range p.n).map fun r => if r < p.k then data.getD r [] else rsChunk p data r

/-- Scale a row of a system. -/
def rowScale (c : Nat) (r : List Nat) : List Nat := r.map (gfMul c)
/-- Add a multiple of a row. -/
def rowAdd (c : Nat) (a b : List Nat) : List Nat := (a.zip b).map fun x => x.1 ^^^ gfMul c x.2
/-- Gauss-Jordan elimination of the first columns of rows that are matrix and identity side by side; none when they are dependent. -/
def gaussFrom : Nat → Nat → List (List Nat) → Option (List (List Nat))
  | 0, _, rows => some rows
  | n + 1, col, rows =>
    match (List.range rows.length).find? fun i => col ≤ i && (rows.getD i []).getD col 0 != 0 with
    | none => none
    | some i =>
      let pivot := rows.getD i []
      let swapped := (rows.set i (rows.getD col [])).set col (rowScale (gfInv (pivot.getD col 0)) pivot)
      let top := swapped.getD col []
      gaussFrom n (col + 1) ((List.range swapped.length).map fun j =>
        let r := swapped.getD j []
        if j == col then r else rowAdd (r.getD col 0) r top)
/-- The data chunks decoded from k chunks that are given with their numbers. -/
def rsDecode (p : Profile) (known : List (Nat × Bytes)) : Option (List Bytes) :=
  let sel := known.take p.k
  if sel.length < p.k then none
  else
    let rows := (List.range p.k).map fun i => rsRow p.k p.m (sel.getD i (0, [])).1 ++ (List.range p.k).map fun j => b2n (i == j)
    (gaussFrom p.k 0 rows).map fun inv => (List.range p.k).map fun j => gfCombine p.chunk (((inv.getD j []).drop p.k).zip (sel.map (·.2)))

/-! ### Records (Table 15-1) -/

/-- DIGEST of a chunk (R565). -/
def digestOf (p : Profile) (hmacKey data : Bytes) : Bytes :=
  ((match p.digest with
    | 1 => Config.sha256 data
    | 2 => Config.sha3 data
    | _ => Config.hmac hmacKey data) ++ zeros 32).take 32
/-- The identity that a record of chunk j should hold, bytes 0-19. -/
def identity (p : Profile) (num j oid stripe : Nat) : Bytes :=
  putLe 1 1 ++ putLe 1 num ++ putLe 1 j ++ putLe 1 (b2n (decide (p.k ≤ j)) + 2 * (p.digest - 1)) ++ putLe 4 p.chunk ++ putLe 8 oid ++ putLe 4 stripe
/-- Bytes 0-23: the identity with RECORD_CRC (R566). -/
def sealIdentity (ident : Bytes) : Bytes := ident ++ putLe 4 (crc32c ident).toNat
/-- A fresh record of a chunk. -/
def freshRecord (p : Profile) (num j oid stripe : Nat) (key data : Bytes) : Bytes :=
  sealIdentity (identity p num j oid stripe) ++ putLe 8 (crc64 data).toNat ++ digestOf p key data
/-- VERSION, PROFILE, INDEX, LENGTH, OBJECT_ID and STRIPE of a record equal the expected values (Table 15-3). -/
def idOk (r ident : Bytes) : Bool := r.take 3 == ident.take 3 && slice r 4 16 == slice ident 4 16

/-- Class of a chunk (Table 15-3): 0 GOOD, 1 DATA_BAD, 2 CRC_BAD, 3 DIGEST_BAD, 4 RECORD_BAD, 5 LOST, 6 MISPLACED, 7 MISSING. -/
def classify1 (p : Profile) (key ident r data : Bytes) (missing : Bool) : Nat :=
  let rOk := u32 r 20 == (crc32c (r.take 20)).toNat
  let cOk := u64 r 24 == (crc64 data).toNat
  let gOk := slice r 32 32 == digestOf p key data
  if missing then 7
  else if !rOk && cOk && gOk then 4
  else if !rOk then 5
  else if !idOk r ident then 6
  else if cOk && gOk then 0
  else if gOk then 2
  else if cOk then 3
  else 1

/-- A stripe as read: plaintext chunks, records and the chunks that could not be read. -/
structure Stripe where
  /-- Profile. -/
  p : Profile
  /-- Its number. -/
  num : Nat
  /-- OBJECT_ID expected. -/
  oid : Nat
  /-- STRIPE expected. -/
  stripe : Nat
  /-- HMAC key, for DIGEST 3. -/
  key : Bytes
  /-- Plaintext of every chunk. -/
  data : List Bytes
  /-- Record of every chunk. -/
  recs : List Bytes
  /-- Chunks with input verdict 0x07. -/
  missing : List Nat
  deriving DecidableEq, Repr

/-- Class of chunk j (R569). -/
def Stripe.cls (x : Stripe) (j : Nat) : Nat :=
  classify1 x.p x.key (identity x.p x.num j x.oid x.stripe) (x.recs.getD j []) (x.data.getD j []) (x.missing.contains j)
/-- The classes of all chunks. -/
def Stripe.classes (x : Stripe) : List Nat := (List.range x.p.n).map x.cls
/-- The erasure set E (R570). -/
def Stripe.erased (x : Stripe) : List Nat := (List.range x.p.n).filter fun j => [1, 5, 6, 7].contains (x.cls j)
/-- The chunks outside E. -/
def Stripe.known (x : Stripe) : List (Nat × Bytes) := ((List.range x.p.n).filter fun j => !x.erased.contains j).map fun j => (j, x.data.getD j [])
/-- Every chunk as decoding gives it. -/
def Stripe.decoded (x : Stripe) : Option (List Bytes) := (rsDecode x.p x.known).map (rsEncode x.p)
/-- The stripe is confirmed (R570). -/
def Stripe.confirmed (x : Stripe) : Bool :=
  decide (x.erased.length < x.p.m) && (match x.decoded with
    | none => false
    | some all => x.known.all fun k => all.getD k.1 [] == k.2)

/-- What a repair makes of chunk j (Table 15-4): the new record and the new data, where they are rewritten; none leaves it unrepaired. -/
def Stripe.fix (x : Stripe) (j : Nat) : Option (Option Bytes × Option Bytes) :=
  let r := x.recs.getD j []
  let d := x.data.getD j []
  let built := ((x.decoded.map fun l => l.getD j []).getD [])
  match x.cls j with
  | 0 => some (none, none)
  | 1 => if x.erased.length ≤ x.p.m && x.decoded.isSome && u64 r 24 == (crc64 built).toNat && slice r 32 32 == digestOf x.p x.key built
      then some (none, some built) else none
  | 2 => if x.confirmed then some (some (sealIdentity (r.take 20) ++ putLe 8 (crc64 d).toNat ++ slice r 32 32), none) else none
  | 3 => if x.confirmed then some (some (sealIdentity (r.take 20) ++ slice r 24 8 ++ digestOf x.p x.key d), none) else none
  | 4 => if x.confirmed then some (some (sealIdentity (identity x.p x.num j x.oid x.stripe) ++ slice r 24 40), none) else none
  | _ => if x.confirmed then some (some (freshRecord x.p x.num j x.oid x.stripe x.key built), some built) else none

/-- The outcome of a job on a stripe: per chunk the class, the outcome (0 none, 1 repaired, 2 unrepaired), the new record and data. -/
def Stripe.judge (x : Stripe) (repair : Bool) : List (Nat × Nat × Option Bytes × Option Bytes) :=
  (List.range x.p.n).map fun j =>
    let c := x.cls j
    if c == 0 || !repair then (c, 0, none, none)
    else match x.fix j with
    | some (r, d) => (c, 1, r, d)
    | none => (c, 2, none, none)
/-- Chunks of a class in an outcome list. -/
def countClass (l : List (Nat × Nat × Option Bytes × Option Bytes)) (sel : Nat → Bool) : Nat := (l.filter fun x => sel x.1).length
/-- AUX of R576. -/
def judgeAux (l : List (Nat × Nat × Option Bytes × Option Bytes)) : Nat :=
  let c := [countClass l (· == 0), countClass l (· == 1), countClass l (· == 2), countClass l (· == 3), countClass l (· == 4),
    countClass l (fun x => x == 5 || x == 6), countClass l (· == 7), (l.filter fun x => x.2.1 == 1).length]
  leAt (c.map fun v => BitVec.ofNat 8 v) 0 8
/-- RX_INFO of R576. -/
def judgeInfo (l : List (Nat × Nat × Option Bytes × Option Bytes)) : Nat :=
  (l.findIdx? fun x => x.1 != 0).getD 0xFF + 256 * (l.filter fun x => x.2.1 == 2).length
/-- STATUS of R577. -/
def judgeStatus (l : List (Nat × Nat × Option Bytes × Option Bytes)) (repair : Bool) : Nat :=
  if l.all fun x => x.1 == 0 then 0 else if repair && (l.any fun x => x.2.1 == 2) then 0x40 else 1
/-- Verdict bytes of an outcome list, 40 of them (Table 15-2). -/
def verdictBytes (l : List (Nat × Nat × Option Bytes × Option Bytes)) : Bytes := ((l.map fun x => BitVec.ofNat 8 (x.1 + 16 * x.2.1)) ++ zeros 40).take 40
/-- The records after a job. -/
def Stripe.recsAfter (x : Stripe) (l : List (Nat × Nat × Option Bytes × Option Bytes)) : List Bytes := (x.recs.zip l).map fun y => y.2.2.2.1.getD y.1
/-- The chunks after a job. -/
def Stripe.dataAfter (x : Stripe) (l : List (Nat × Nat × Option Bytes × Option Bytes)) : List Bytes := (x.data.zip l).map fun y => y.2.2.2.2.getD y.1
/-- Cut bytes into n chunks. -/
def chunksOf (size : Nat) : Nat → Bytes → List Bytes
  | 0, _ => []
  | n + 1, b => b.take size :: chunksOf size n (b.drop size)

end Sys2Proof.Machine
end

