-- ==== Sys2Proof/Machine/StateSto.lean ====
section
/-!
DEFINITION. Sys2Proof/Machine/StateSto.lean: attached connections, drives, the namespace table, integrity profiles, jobs and scrub sessions (ch 14, 15).
-/
namespace Sys2Proof.Machine
open Sys2Proof

/-- An outstanding command of a connection. -/
structure StoCmd where
  /-- CID. -/
  cid : Nat
  /-- SQE. [64 bytes] -/
  sqe : Bytes
  /-- NS_INDEX of its namespace (target). -/
  ns : Nat := 0
  /-- Bytes of data it moves. -/
  len : Nat := 0
  /-- Data from the host or for it, filled as it arrives. -/
  data : Bytes := []
  /-- Data bytes received. -/
  got : Nat := 0
  /-- Offset of the next R2T, or of the next RDMA READ. -/
  asked : Nat := 0
  /-- R2Ts outstanding: TTAG, offset, bytes still to come. -/
  r2ts : List (Nat × Nat × Nat) := []
  /-- 0 gathering write data, 1 at its backend, 2 posted to the host, 3 initiator. -/
  phase : Nat := 0
  /-- A data digest did not match (R524). -/
  badData : Bool := false
  /-- Its namespace was removed or its key erased (R539). -/
  gone : Bool := false
  /-- Drive commands still to complete. -/
  left : Nat := 0
  /-- NVMe status field so far. -/
  status : Nat := 0
  /-- Ring and sequence of the INI_CMD entry. -/
  entry : Option (Nat × Nat) := none
  deriving DecidableEq, Repr

/-- An attached connection; key is its handle 0-8,191. -/
structure Conn where
  /-- Owning function. [8; R514, 14; CW: no connection] -/
  fn : Nat
  /-- Connection state block as attached (Table 14-2). [128 bytes; R514, 14] -/
  raw : Bytes
  /-- Engine it is pinned to. [3; R510, 14] -/
  engine : Nat
  /-- Detach in progress: ring and sequence of its entry (R516). [14; none] -/
  detach : Option (Nat × Nat) := none
  /-- First unacknowledged sequence number or PSN. [32; R518, 14; SND_NXT] -/
  una : Nat := 0
  /-- Next sequence number or PSN to send. [32; R515, 14; SND_NXT] -/
  nxt : Nat := 0
  /-- Next sequence number or PSN expected. [32; R515, 14; RCV_NXT] -/
  rcv : Nat := 0
  /-- Right edge of the receive window advertised. [32; R541, 14; RCV_NXT] -/
  adv : Nat := 0
  /-- Peer's window in bytes. [30; R518, 14; peer window scaled] -/
  wnd : Nat := 0
  /-- Last timestamp of the peer. [32; R518, 14; TS_RECENT] -/
  tsRecent : Nat := 0
  /-- Bytes sent and not acknowledged. [R519, 14; none] -/
  sent : Bytes := []
  /-- Ranges of the sent bytes that a SACK block covers: sequence numbers. [R518, 14; none] -/
  sacked : List (Nat × Nat) := []
  /-- Bytes ready to be sent. [14; none] -/
  queue : Bytes := []
  /-- Plaintext that waits for a TLS_TX SA (R531). [14; none] -/
  held : Bytes := []
  /-- Smoothed round-trip time in µs, 0 before a measurement. [R519, 14; 0] -/
  srtt : Nat := 0
  /-- Round-trip time variation in µs. [R519, 14; 0] -/
  rttvar : Nat := 0
  /-- RTO in µs. [R519, 14; RFC 6298: 1 s] -/
  rto : Nat := 1000000
  /-- Sequence number being timed and the moment it was sent. [R519, 14; none] -/
  timed : Option (Nat × Nat) := none
  /-- Consecutive timeouts without progress. [4; R519, 14; 0] -/
  timeouts : Nat := 0
  /-- Segments received out of order: sequence number and bytes. [14; none] -/
  ooo : List (Nat × Bytes) := []
  /-- Bytes received in order and not yet taken. [14; none] -/
  rx : Bytes := []
  /-- Plaintext received and not yet cut into PDUs. [R527, 14; none] -/
  plain : Bytes := []
  /-- Reception is paused by a record of another content type (R529). [1; 14; 0] -/
  paused : Bool := false
  /-- TLS_RX SA for records from the next one on (R530). [14; none] -/
  txSa : Option Nat := none
  /-- TLS_RX SA. [14; none without TLS] -/
  rxSa : Option Nat := none
  /-- PDUs or RoCE capsules received and not yet handled, oldest first. [14; none] -/
  pdus : List Bytes := []
  /-- Outstanding commands in order of arrival. [<= QD; R511, 14; none] -/
  cmds : List StoCmd := []
  /-- Frames that wait for an ENGINE buffer. [Table 09-2, 09; none] -/
  outq : List Bytes := []
  /-- RoCE: packets sent and not acknowledged: PSN, number of PSNs, packet. [R534, 14; none] -/
  unacked : List (Nat × Nat × Bytes) := []
  /-- RoCE: bytes of the message being received. [14; none] -/
  msg : Bytes := []
  /-- RoCE: RDMA READs outstanding: PSN of the next response, last PSN, CID, offset. [14; none] -/
  reads : List (Nat × Nat × Nat × Nat) := []
  /-- RoCE: message sequence number. [24; 14; 0] -/
  msn : Nat := 0
  /-- RoCE: retries since progress, RNR retries since progress. [2 x 3; R534, 14; 0] -/
  retries : Nat × Nat := (0, 0)
  /-- RoCE: microsecond of the last CNP sent. [R533, 14; none] -/
  cnpAt : Option Nat := none
  /-- RoCE: transmit rate in Mb/s, 0 for the port rate. [R533, 14; port rate] -/
  rate : Nat := 0
  /-- Bytes sent, bytes received. [2 x 64; Table 14-10, 14; 0] -/
  bytes : Nat × Nat := (0, 0)
  /-- Header digest errors, data digest errors. [2 x 32; Table 14-10, 14; 0] -/
  digests : Nat × Nat := (0, 0)
  /-- Retransmissions, TLS record failures. [2 x 32; Table 14-10, 14; 0] -/
  errs : Nat × Nat := (0, 0)
  /-- TLS_SOFT has been posted for the TLS_TX SA (R530). [1; 14; 0] -/
  softTold : Bool := false
  deriving DecidableEq, Repr

/-- A capsule or event on its way to a POST_RING (R540, R541). -/
structure PostItem where
  /-- Function and local index of the ring. -/
  fn : Nat
  /-- Local index. -/
  loc : Nat
  /-- Connection. -/
  handle : Nat
  /-- TYPE: 1 command, 2 event. -/
  type : Nat
  /-- CID of a command. -/
  cid : Nat := 0
  /-- Bytes still to be written, header first. -/
  bytes : Bytes
  deriving DecidableEq, Repr

/-- A command for a drive. -/
structure DrvCmd where
  /-- Connection and CID it serves. -/
  handle : Nat
  /-- CID on the connection. -/
  cid : Nat
  /-- Opcode: 0 Flush, 1 Write, 2 Read. -/
  op : Nat
  /-- NS_INDEX. -/
  ns : Nat
  /-- Drive LBA and number of blocks. -/
  lba : Nat
  /-- Number of blocks. -/
  blocks : Nat
  /-- Data for the slot. -/
  data : Bytes := []
  /-- Offset in the command's data at which a read's first byte goes, and bytes skipped in front of it (fixity reads). -/
  at_ : Nat := 0
  /-- Bytes of the read before the requested range. -/
  skip : Nat := 0
  /-- Bytes of the requested range in this read. -/
  take : Nat := 0
  /-- Stripe of a fixity namespace. -/
  stripe : Option Nat := none
  /-- Records to write once the CQE is taken. -/
  recs : List Bytes := []
  /-- The connection is gone: the result is discarded (R512, R551). -/
  dead : Bool := false
  /-- TIMEOUT_MS has passed: the CQE that comes is discarded (R548). -/
  late : Bool := false
  deriving DecidableEq, Repr

/-- A drive queue pair; key 0-23. -/
structure Drive where
  /-- STO_TARGET_CFG parameters. [64 bytes; Table 14-8, 14; CW: not set] -/
  raw : Bytes
  /-- Commands that wait for a slot, in order of arrival (R545). [14; none] -/
  waiting : List DrvCmd := []
  /-- Commands outstanding by slot. [R545, 14; none] -/
  out : List (Nat × DrvCmd) := []
  /-- SQ tail. [16; R546, 14; 0] -/
  tail : Nat := 0
  /-- CQ head. [16; R547, 14; 0] -/
  head : Nat := 0
  /-- Phase tag of new CQEs. [1; R547, 14; 1] -/
  phase : Bool := true
  /-- Timeouts. [2; R548, 14; 0] -/
  timeouts : Nat := 0
  /-- FAILED. [1; R548, 14; 0] -/
  failed : Bool := false
  deriving DecidableEq, Repr

/-- An integrity job by command (R587). -/
structure FixJob where
  /-- Its number. -/
  id : Nat
  /-- It repairs. -/
  repair : Bool
  /-- Parameters of the command. [104 bytes; Table 15-8] -/
  params : Bytes
  deriving DecidableEq, Repr

/-- A scrub session; key 0-15. -/
structure Scrub where
  /-- Running. [1; R583, 15; CW: idle] -/
  on : Bool := false
  /-- NS_INDEX. [16; Table 15-9, 15; CW: 0] -/
  ns : Nat := 0
  /-- FLAGS: bit 0 AUTO_REPAIR, bit 1 LOOP. [8; Table 15-9, 15; CW: 0] -/
  flags : Nat := 0
  /-- RATE_MBPS. [32; Table 15-9, 15; CW: 0] -/
  rate : Nat := 0
  /-- Next stripe. [32; Table 15-9, 15; CW: 0] -/
  next : Nat := 0
  /-- Stripes scrubbed. [32; Table 15-9, 15; CW: 0] -/
  done : Nat := 0
  /-- Passes completed. [32; Table 15-9, 15; CW: 0] -/
  passes : Nat := 0
  /-- Chunks found not GOOD, repaired, left unrepaired. [3 x 32; Table 15-9, 15; CW: 0] -/
  found : Nat := 0
  /-- Chunks repaired. [32; Table 15-9, 15; CW: 0] -/
  repaired : Nat := 0
  /-- Chunks left unrepaired. [32; Table 15-9, 15; CW: 0] -/
  unrepaired : Nat := 0
  /-- Waits under R585. [1; Table 15-9, 15; CW: 0] -/
  waiting : Bool := false
  /-- Bytes read in the last second: moment and number. [list; R583, 15; none] -/
  reads : List (Nat × Nat) := []
  deriving DecidableEq, Repr

/-- Storage and integrity. -/
structure StoreSide where
  /-- Attached connections by handle. [8,192; R511, 14; CW: none] -/
  conns : List (Nat × Conn) := []
  /-- Capsules and events that wait for posted buffers, oldest first. [list; R541, 14; none] -/
  posts : List PostItem := []
  /-- Commands posted to the host whose connection has closed: function, handle, CID (R542). [list; 14; none] -/
  ghosts : List (Nat × Nat × Nat) := []
  /-- Drive queue pairs. [24; R543, 14; CW: not set] -/
  drives : List (Nat × Drive) := []
  /-- Device namespace table: NS_INDEX to STO_NS_SET parameters. [1,024 x 36 bytes; R535, 14; CW: empty] -/
  spaces : List (Nat × Bytes) := []
  /-- Profiles 1-15. [15; R561, 15; CW: none] -/
  profiles : List (Nat × Profile) := []
  /-- Integrity jobs by command. [list; R587, 15; none] -/
  jobs : List FixJob := []
  /-- Scrub sessions. [16; R583, 15; CW: idle] -/
  scrubs : List (Nat × Scrub) := []
  deriving DecidableEq, Repr

end Sys2Proof.Machine
end

