-- ==== Sys2Proof/Machine/StateHo.lean ====
section
/-!
DEFINITION. Sys2Proof/Machine/StateHo.lean: what two devices tell each other in a handover (Table 25-3, Table 25-4, 25). The manual gives the carriages
of TYPE 0x14 and 0x15 and no layout of what they hold, so a message is its content (log 77).
-/
namespace Sys2Proof.Machine
open Sys2Proof

/-- What PLANT = 1 adds to the static state (Table 25-4). -/
structure HoPlant where
  /-- Active program. -/
  prog : Option SgeProg
  /-- Coefficient bank in force. -/
  coefs : List (Nat × Nat)
  /-- Tick rate code. -/
  rate : Nat
  /-- Tick source. -/
  source : Nat
  /-- AUTO_RETURN. -/
  autoReturn : Bool
  /-- Setpoints. -/
  points : List (Nat × Setpoint)
  /-- Watches. -/
  watches : List (Nat × Watch)
  deriving DecidableEq, Repr

/-- The state copied in PREPARE; keys are wrapped under HO_SLOT (R918). -/
structure HoStatic where
  /-- Active switch tables. -/
  active : SwTables
  /-- GEN. -/
  gen : W32
  /-- Mirror sessions. -/
  mirrors : List (Nat × Mirror)
  /-- Charters, limits and key indices. -/
  tenants : List (Nat × Tenant)
  /-- VF bindings, DMA windows and limits. -/
  vfs : List (Nat × Vf)
  /-- WEIGHT of PF0 and DEV. -/
  weights : List (Nat × Nat)
  /-- TX_CAP_KIB of PF0 and DEV. -/
  txCaps : List (Nat × Nat)
  /-- ENG_CAP_KIB of PF0 and DEV. -/
  engCaps : List (Nat × Nat)
  /-- QLIMIT_KIB, STRICT classes and class weights of the scheduling points. -/
  points : List (Nat × Option Nat × List Nat × List (Nat × Nat))
  /-- Key slots, the key of each wrapped. -/
  slots : List (Nat × KeySlot)
  /-- KEKs, the key of each wrapped. -/
  keks : List (Nat × Keks)
  /-- SAs. -/
  sas : List (Nat × Sa)
  /-- Fixity profiles. -/
  profiles : List (Nat × Profile)
  /-- Namespaces. -/
  spaces : List (Nat × Bytes)
  /-- PF0's namespace list. -/
  pf0Spaces : List Namespace
  /-- Scrub sessions. -/
  scrubs : List (Nat × Scrub)
  /-- With PLANT = 1. -/
  plant : Option HoPlant
  deriving DecidableEq, Repr

/-- The volatile state of the final copy (Table 25-4). -/
structure HoFinal where
  /-- Storage connections: handle, function, state block. -/
  conns : List (Nat × Nat × Bytes)
  /-- SAs with their numbers and windows. -/
  sas : List (Nat × Sa)
  /-- Token buckets of the tenants. -/
  tenantTokens : List (Nat × Int)
  /-- Token buckets of the VFs. -/
  vfTokens : List (Nat × Int)
  /-- Scrub sessions with their positions. -/
  scrubs : List (Nat × Scrub)
  /-- States of the tenants before STOP (R923). -/
  states : List Nat
  deriving DecidableEq, Repr

/-- A message of a handover. -/
inductive HoMsg where
  /-- Source to target: its vertex, PLANT, a test block wrapped under HO_SLOT, and the static state. -/
  | prepare (src : Nat) (plant : Bool) (test : Bytes) (st : HoStatic)
  /-- Target to source: a case of R917. -/
  | refuse (status info : Nat)
  /-- Target to source: the static state is applied. -/
  | ready
  /-- Source to target: the final copy. -/
  | final (f : HoFinal)
  /-- Target to source: the final copy is applied. -/
  | applied
  /-- Target to source: SWITCH is done; the handles of the attached connections. -/
  | switched (handles : List Nat)
  /-- Source to target: RELEASE has ended. -/
  | released
  /-- Either way: the handover aborts. -/
  | abort
  deriving DecidableEq, Repr

end Sys2Proof.Machine
end

