-- ==== Sys2Proof/Syntax.lean ====
section
/-!
DEFINITION. Sys2Proof/Syntax.lean: the commands, one constructor for each row of spec/opcode_table.json.
Operands are what the sender of the command, or the physical event, brings with it.
-/
namespace Sys2Proof

/-- Fields of a function's configuration space (Table 06-1, Table 06-2, Table 06-3). -/
inductive CfgReg where
  | vendorId | deviceId | revisionId | classCode | subVendor | subDevice
  | busMaster | memSpace | msixEnable | msixMask | relaxedOrdering | maxPayload | maxReadRequest | completionTimeout
  | powerState | atsEnable | tphEnable | bar0 | bar2
  | totalVfs | initialVfs | vfOffset | vfStride | vfDeviceId | vfEnable | numVfs | supportedPageSizes | systemPageSize | vfBar0 | vfBar2
  | other
  deriving DecidableEq, Repr

/-- Where a register write goes: PF0 BAR0, the MSI-X table of a function, device space by a warden core. -/
inductive RegSpace where
  | bar0
  | bar2 (f : Nat)
  | core (c : Nat)
  deriving DecidableEq, Repr

/-- The commands of the device, in the order of the opcode table. -/
inductive Instr where
  /-- POWER_ON (R120): VIN reaches the AON power-on level from OFF, AON starts and a wake with cause 0x00 becomes pending. -/
  | powerOn
  /-- VIN_OK_HOLD (R120): VIN_OK has held for its 10 ms rising filter, so power-up may start when a wake is pending. -/
  | vinOkHold
  /-- POWER_UP_START (R122): With VIN_OK holding and a wake pending, HVI asserts IB_EN and the power-up sequence of Table 04-3 begins. -/
  | powerUpStart
  /-- IB_PGOOD_TIMEOUT (R123): IB_PGOOD is not high 20 ms after IB_EN, so PMC deasserts IB_EN and counts the failed attempt toward IBC_FAIL. -/
  | ibPgoodTimeout
  /-- IBC_RETRY (R123): The 1 s wait after a failed IBC attempt expires and PMC asserts IB_EN again. -/
  | ibcRetry
  /-- BROWN_OUT (R119): VIN falls below the BOR threshold for 20 µs, IB_EN is deasserted within 5 µs and the device takes a C with cause 0x02. -/
  | brownOut
  /-- VIN_LOW (R138): VIN stays below the VIN_LOW threshold for 1 ms and SHELF entry starts, with the drain ending within 50 ms. -/
  | vinLow (vin : Nat)
  /-- VIN_OV (R118): VIN crosses the VIN_OV set or clear threshold, and the flag and an event change. -/
  | vinOv (set : Bool) (vin : Nat)
  /-- PFAIL_SET (R134): VBUS_SNS stays below PFAIL_MV for 10 ms, PFAIL is set and the grace timer starts. -/
  | pfailSet (vbus : Nat)
  /-- PFAIL_CLEAR (R136): VBUS_SNS stays above PFAIL_MV + 1 V for 10 ms, PFAIL clears and the grace timer and hold limit are disarmed, with AUTO_RESUME acting. -/
  | pfailClear (vbus : Nat)
  /-- GRACE_TIMER_EXPIRY (R134): The hold-up grace timer expires and the device starts its drain toward HOLD. -/
  | graceTimerExpiry
  /-- HOLD_LIMIT_EXPIRY (R135): HOLD_LIMIT_S elapses under PFAIL and SHELF entry starts with the hold-up wake mask. -/
  | holdLimitExpiry
  /-- DRAIN_END (R131): The drain's DRAIN_MS, or its shortened bound, expires, unfinished work completes with ABORTED and HOLD is reached. -/
  | drainEnd
  /-- WAITING_TRANSITION_TAKEN (R1043): A power-state call that waited behind a transition in progress is taken once that transition completes. -/
  | waitingTransitionTaken
  /-- SHELF_ENTRY (R139): From HOLD the device mirrors the log, writes the wake mask, writes the commit mark, gates all domains and deasserts IB_EN. -/
  | shelfEntry
  /-- SHELF_RAILS_DOWN (R139): Every rail has fallen below 10 % of nominal, AON alone runs and any latched wake starts power-up. -/
  | shelfRailsDown
  /-- RAIL_FAULT (R124): A rail stays outside ±5 % of its set value for 50 µs, PMC writes CONVERTER_FAULT and takes SHELF entry with no drain. -/
  | railFault (rail : Nat) (mirrorOk : Bool)
  /-- VCORE_PHASE_ADD (R126): An active VCORE phase exceeds 70 % of ILIM and PMC adds a phase within 2 µs. -/
  | vcorePhaseAdd
  /-- VCORE_PHASE_SHED (R981): A smart power stage asserts its fault or its current deviates by over 50 % for 10 ms, and PMC sheds the phase, entering HOLD if too few remain. -/
  | vcorePhaseShed (phase : Nat)
  /-- RTC_ALARM_WAKE (R141): RTC seconds reach RTC_ALARM in SHELF with mask bit 0 set and the device wakes. -/
  | rtcAlarmWake
  /-- WAKE_N_WAKE (R141): WAKE_N stays low for 1 ms in SHELF with mask bit 1 set and the device wakes. -/
  | wakeNWake
  /-- VBUS_RETURN_SAMPLE (R141): The once-per-second VBUS_SNS sample in SHELF finds the PFAIL clear condition and, with mask bit 2 set, the device wakes. -/
  | vbusReturnSample (clear : Bool)
  /-- VIN_RECOVERY_WAKE (R141): VIN_OK holds again after a brown-out and the pending wake starts power-up. -/
  | vinRecoveryWake
  /-- DOMAIN_SWITCH_DONE (R149): A domain switch-on, including its wipe, or a switch-off completes within its Table 04-10 bound. -/
  | domainSwitchDone (d : Nat)
  /-- DOMAIN_POWER_GOOD_TIMEOUT (R156): A domain fails to report power-good within twice its bound, PMC gates it again and writes DOMAIN_FAULT. -/
  | domainPowerGoodTimeout (d : Nat)
  /-- IDLE_GATE_TIMEOUT (R150): In TRIM a domain marked idle has had no work for 100 µs and holds no allocation, so PMC gates it. -/
  | idleGateTimeout (d : Nat)
  /-- DDR_REGION_WIPED (R32): The background wipe finishes a 1 GiB DDR5 region, the region is clean and the next region in wipe order begins. -/
  | ddrRegionWiped (ch : Nat)
  /-- RESET_N_REGISTERED (R1015): RESET_N has 50 consecutive low HKCLK samples and a W with cause 0x03 starts. -/
  | resetNRegistered
  /-- RESET_N_RELEASED (R1015): RESET_N has been high for 10 µs and the W ends, or power-up held at step 7 continues. -/
  | resetNReleased (diode : Int)
  /-- HK_ROUND_START (R174): The 10 ms housekeeping round starts in RUN, TRIM or HOLD. -/
  | hkRoundStart
  /-- HK_CONVERSION (R175): One housekeeping channel is converted, one every 200 µs in channel order. -/
  | hkConversion (value : Nat) (pmb : Option (Nat × Bool))
  /-- HK_PUBLICATION (R175): At 6.4 ms into the round HKP publishes all 32 values and evaluates band, refresh and rate of rise. -/
  | hkPublication (hot : Option (Nat × Nat × Nat)) (short0 short1 : Bool)
  /-- TRIM_SLEW_STEP (R167): CKG moves the applied trim by 0.1 ppm toward the band's target each millisecond. -/
  | trimSlewStep
  /-- CLOCK_LOSS (R169): Loss of the crystal or root PLL is registered, PMC runs from the RC monitor and takes SHELF entry, latching CLK_FAIL. -/
  | clockLoss (pll : Bool)
  /-- REFCLK_LOST (R172): Loss of ETH_REFCLK or of the PCIe reference is registered and the dependent links go down. -/
  | refclkLost (which : Nat)
  /-- REFCLK_RETURN (R172): A lost reference clock has run again for 1 ms and CKG writes REFCLK_RETURN, letting links restart. -/
  | refclkReturn (which : Nat)
  /-- DDR_PLL_UNLOCK (R173): A DDR PHY PLL loses lock and accesses to that channel wait while it relocks. -/
  | ddrPllUnlock (ch : Nat)
  /-- DDR_PLL_RELOCK_TIMEOUT (R173): The PLL has not relocked within 1 ms, waiting accesses complete with FAULT and the channel is fenced. -/
  | ddrPllRelockTimeout (ch : Nat) (relocked : Bool)
  /-- COMMAND_TIMEOUT (R100): A command's interpretation bound runs out before the target finishes and it completes with TIMEOUT. -/
  | commandTimeout (opcode : Nat)
  /-- THROTTLE_END (R89): A source's 1 s throttle expires, its violation history clears and CMD writes THROTTLE_END. -/
  | throttleEnd (cls ident sub : Nat)
  /-- CHAIN_TIMEOUT (R83): No next packet of an open chain arrives within 1 s, the chain is discarded and CHAIN_ABORTED is recorded and answered as R83 states. -/
  | chainTimeout (cls ident sub : Nat)
  /-- DCW_GO (R105): A host write of DCW_GO submits the packet in the direct command window, or sets OVERRUN when refused. -/
  | dcwGo (size : Nat)
  /-- RESULT_COUNTING_READ (R52): A reader's read of a result header's low word returns the result and updates its REPEAT state and FRESH. -/
  | resultCountingRead (win reader : Nat)
  /-- DEV_IDENTIFY (R110): Returns the device identity of Table 03-13. -/
  | devIdentify
  /-- DEV_RESET (R112): Accepts a device reset request and replies, with the W to follow its delivery. -/
  | devReset
  /-- DEV_RESET_W_START (R112): Within 1 ms after the DEV_RESET reply is delivered or becomes undeliverable, the W starts. -/
  | devResetWStart (diode : Int)
  /-- LOG_READ (R110): Returns a range of event-log records. -/
  | logRead
  /-- DEV_ECHO (R110): Returns the request's parameters unchanged. -/
  | devEcho
  /-- HKP_STATUS (R197): Returns the last published housekeeping round. -/
  | hkpStatus
  /-- HKP_THRESHOLDS_SET (R198): Sets the rate-of-rise thresholds and THERM_CAP_PCT from the next round. -/
  | hkpThresholdsSet
  /-- CLK_STATUS (R197): Returns clock and trim state at the reply. -/
  | clkStatus
  /-- PWR_STATE_GET (R158): Returns the power state, target, wake cause and hold-up status. -/
  | pwrStateGet
  /-- PWR_STATE_SET (R159): Starts a power-state transition and replies when it completes, or on reaching HOLD for SHELF. -/
  | pwrStateSet
  /-- SHELF_REPLY_DELIVERED (R160): Within 1 ms after a SHELF PWR_STATE_SET reply is delivered, step 2 of SHELF entry starts. -/
  | shelfReplyDelivered
  /-- PWR_DOMAIN_GET (R158): Returns the state and cause of a range of domains. -/
  | pwrDomainGet
  /-- PWR_DOMAIN_SET (R157): Forces a domain on or gated, or returns it to AUTO. -/
  | pwrDomainSet
  /-- PWR_CONVERTER_CFG (R162): Sets converter, VCORE, rail or hold-up parameters until the next C or W. -/
  | pwrConverterCfg
  /-- RTC_GET (R158): Returns the RTC seconds, sub-second count and RTC_LOST. -/
  | rtcGet
  /-- RTC_SET (R163): Sets the RTC seconds and clears the sub-second count and RTC_LOST. -/
  | rtcSet
  /-- PERST_N_ASSERT (R207): PERST_N assertion starts a conventional reset with the effects of an F of PF0. -/
  | perstNAssert
  /-- PERST_N_DEASSERT (R202): PERST_N deassertion is one of the events after which link training may start. -/
  | perstNDeassert
  /-- HOT_RESET_RECEIVED (R207): A received hot reset starts a conventional reset. -/
  | hotResetReceived
  /-- LINK_DL_DOWN (R207): The link moves from DL_Active to DL_Down and a conventional reset starts. -/
  | linkDlDown
  /-- LINK_TRAINING_START (R202): Within 20 ms of the latest of PERST_N release, power-up or W end, and a running reference, PCE starts link training. -/
  | linkTrainingStart
  /-- CONFIG_REQUEST (R203): PCE answers a configuration request, with Request Retry Status until boot has loaded the defaults. -/
  | configRequest (f : Nat) (reg : CfgReg) (write : Option Nat)
  /-- FLR_START (R208): A configuration write starts an FLR of PF0 or a VF, stopping its DMA and MSI-X and clearing its rings. -/
  | flrStart (f : Nat)
  /-- FLR_COMPLETE (R208): The FLR completes within 10 ms for a VF or 100 ms for PF0 and the function's rings run again. -/
  | flrComplete (f : Nat)
  /-- VF_ENABLE_CLEAR (R210): Clearing VF Enable acts as an F on every enabled VF. -/
  | vfEnableClear
  /-- DMA_READ_COMPLETION (R227): A DMA read completion arrives and the transfer succeeds, or fails with UR, CA or poison. -/
  | dmaReadCompletion (tag : Nat) (good : Bool)
  /-- COMPLETION_TIMEOUT (R228): A DMA read's completion timeout expires, the transfer fails and is captured. -/
  | completionTimeout (tag : Nat)
  /-- ATS_INVALIDATION (R232): PCE receives an ATS invalidation and sends its completion within 1 ms. -/
  | atsInvalidation (f tag : Nat) (page : Option Nat)
  /-- MSIX_PENDING_SEND (R220): A pending MSI-X message is sent once its vector and function are unmasked and enabled. -/
  | msixPendingSend (f v : Nat)
  /-- MGT_EVENT_WRITE (R221): A W1C write to MGT_EVENT clears bits, with a falling-together setting winning and sending a message. -/
  | mgtEventWrite (bits also : Nat)
  /-- MGT_DMAF_COUNT_READ (R229): A read of MGT_DMAF_COUNT returns and clears the DMA fault count. -/
  | mgtDmafCountRead (reader : Nat)
  /-- TNT_CHARTER_SET (R271): Sets the selected charter sections of a tenant and advances CHG_GEN. -/
  | tntCharterSet
  /-- TNT_CHARTER_GET (R270): Returns a tenant's charter, state and counts. -/
  | tntCharterGet
  /-- TNT_STATE_SET (R257): Moves a tenant to ACTIVE, SUSPENDED or REVOKED. -/
  | tntStateSet
  /-- TNT_RESET (R267): Performs a T on a tenant and increments its T_EPOCH. -/
  | tntReset
  /-- TNT_VF_BIND (R241): Binds or unbinds a VF and sets its DMA windows. -/
  | tntVfBind
  /-- QEN_DB (R277): A doorbell write sets a ring's submission tail, or is discarded as DB_RANGE. -/
  | qenDb (f loc value : Nat)
  /-- QEN_CQ_DB (R277): A doorbell write sets a ring's completion head, or is discarded as DB_RANGE. -/
  | qenCqDb (f loc value : Nat)
  /-- POLL_TIMER_EXPIRY (R278): A POLL-mode ring's poll timer expires and it issues an 8-byte read of its ring header. -/
  | pollTimerExpiry (g : Nat)
  /-- POLL_READ_COMPLETION (R280): A poll read completes and its tail and head are taken as doorbell writes unless stale. -/
  | pollReadCompletion (g tail head : Nat)
  /-- FETCH_ISSUE (R283): Once every fetch condition holds, the ring engine issues a one-slot read at the ring's head. -/
  | fetchIssue (g : Nat)
  /-- FETCH_READ_FAILED (R284): A fetch read is refused or fails, the entry completes with FAULT and the head advances. -/
  | fetchReadFailed (g : Nat)
  /-- NOP (R273): A NOP entry arrives and completes with no effect. -/
  | entryNop (g : Nat) (entry : Bytes)
  /-- PACKET (R297): A PACKET entry on the MANAGEMENT ring hands its command packet to the front end and receives the reply. -/
  | entryPacket (g : Nat) (entry : Bytes) (data : List (Option Bytes))
  /-- TX (R261): A TX entry arrives, its frames are spoof-checked and passed to the switch. -/
  | entryTx (g : Nat) (entry : Bytes) (data : List (Option Bytes))
  /-- RX_POST (R298): An RX_POST entry posts host buffers for received frames. -/
  | entryRxPost (g : Nat) (entry : Bytes)
  /-- MODERATION_TIMER_EXPIRY (R302): A MODERATED ring's timer expires and one message is sent if COUNT > 0. -/
  | moderationTimerExpiry (g : Nat)
  /-- RING_CREATE (R312): Creates a ring pair for a function. -/
  | ringCreate
  /-- RING_DESTROY (R308): Stops fetching on a ring pair and frees it after admitted work completes. -/
  | ringDestroy
  /-- RING_DRAINED (R308): The last admitted work of a DRAINING ring completes and the ring pair is freed. -/
  | ringDrained (g : Nat)
  /-- RING_NOTIFY_SET (R304): Changes a ring pair's fetch and notification settings. -/
  | ringNotifySet
  /-- CAD_W_ALLOC (R325): A warden write of OP = ALLOC to CAD_W_OP requests a CONTROL buffer. -/
  | cadWAlloc (core len256 : Nat)
  /-- CAD_W_FREE (R336): A warden write of OP = FREE to CAD_W_OP frees the buffer in CAD_W_HANDLE. -/
  | cadWFree (core : Nat)
  /-- WAITING_ALLOC_SERVED (R326): A waiting CONTROL, ENGINE or FETCH allocation is served once a buffer becomes free. -/
  | waitingAllocServed
  /-- ENGINE_WAIT_TIMEOUT (R324): An ENGINE allocation has waited 10 ms, its item completes with NO_RESOURCE and CAD writes ENGINE_WAIT. -/
  | engineWaitTimeout (n : Nat)
  /-- CACHE_REFILL (R334): A pool's free cache passes a watermark and a 64-index refill or spill to the free store runs and completes. -/
  | cacheRefill (pool : Nat)
  /-- CADDY_WIPE_DONE (R332): A buffer returned by an F or a T finishes its wipe and becomes free. -/
  | caddyWipeDone (pool : Nat)
  /-- CAD_POOL_CREATE (R343): Creates a buffer pool in SRAM banks or DDR5 regions. -/
  | cadPoolCreate
  /-- CAD_POOL_DESTROY (R339): Stops allocation from a pool and releases it when every buffer is free. -/
  | cadPoolDestroy
  /-- POOL_RELEASED (R339): The last owned buffer of a DRAINING pool returns and the area is released. -/
  | poolReleased (pool : Nat)
  /-- CAD_POOL_STATUS (R342): Returns the state of every pool and the charges of each owner. -/
  | cadPoolStatus
  /-- FRAME_RECEIVED (R353): A frame arrives at a MAC and is given its disposition and verdict. -/
  | frameReceived (p : Nat) (bytes : Bytes) (phyErr : Bool) (fec : Nat × Nat)
  /-- PAUSE_TIME_EXPIRY (R362): A running pause time ends and the port or class may transmit again. -/
  | pauseTimeExpiry (p cls : Nat)
  /-- PAUSE_GENERATION (R366): Ingress occupancy crosses XOFF_KIB or XON_KIB and the port sends a pause or PFC frame. -/
  | pauseGeneration (p : Nat)
  /-- PAUSE_REFRESH (R366): Occupancy stays above XON_KIB and the port resends its pause frame every QUANTA × 256 bit times. -/
  | pauseRefresh (p : Nat)
  /-- FRAME_TRANSMIT (R358): An egress point starts sending a queued frame on a port or link. -/
  | frameTransmit (k : Nat)
  /-- AN_COMPLETE (R347): Clause 73 negotiation completes and the link comes up or fails with AN_FAIL. -/
  | anComplete (p result fec : Nat) (pause eee : Bool)
  /-- AN_RESTART (R347): One second after AN_FAIL the port restarts negotiation. -/
  | anRestart (p : Nat)
  /-- PORT_LINK_CHANGE (R352): A port's PCS reports link up, local fault or remote fault and the port changes state. -/
  | portLinkChange (p what : Nat)
  /-- LLDP_TIMER (R370): Warden firmware sends an LLDPDU every 30 s, or within 1 s after a content change. -/
  | lldpTimer (p : Nat)
  /-- LACPDU_RECEIVED (R373): An LACPDU arrives and the firmware's LACP state machine acts on it. -/
  | lacpduReceived (p : Nat) (pdu : Bytes)
  /-- LACP_PERIODIC (R373): The LACP periodic timer expires and an LACPDU is sent. -/
  | lacpPeriodic (p : Nat)
  /-- PARK_WINDOW_END (R377): At the end of each 1 ms window the aggregate computes utilisation and may park or wake members. -/
  | parkWindowEnd (a : Nat)
  /-- PARK_DRAIN_DONE (R380): A parking member's queue empties and it enters LPI_PARKED or DEEP_PENDING. -/
  | parkDrainDone (p : Nat)
  /-- DEEP_PENDING_END (R380): The partner shows Distributing = 0 or 3 s pass, and the member's link goes down and its lanes gate. -/
  | deepPendingEnd (p : Nat)
  /-- MEMBER_ACTIVE (R382): A waking member becomes ACTIVE and its conversations return. -/
  | memberActive (p : Nat)
  /-- WAKE_LATE (R382): A waking member misses its bound, becomes FAILED and the next parked member starts its wake. -/
  | wakeLate (p : Nat)
  /-- FAILED_MEMBER_RETRY (R382): Every 10 s a FAILED member tries to come up again. -/
  | failedMemberRetry (p : Nat)
  /-- EEE_TLV_EXPIRY (R379): The partner's EEE TLV exceeds its TTL, the resolved wake time stops being valid and an LPI-parked member wakes. -/
  | eeeTlvExpiry (p : Nat)
  /-- PORT_MODE_SET (R387): Sets the port mode and every port's configuration. -/
  | portModeSet
  /-- PORT_STATUS (R386): Returns the state of every port and aggregate. -/
  | portStatus
  /-- PORT_PAUSE_SET (R388): Sets a port's pause or PFC mode and thresholds. -/
  | portPauseSet
  /-- PORT_PARK_SET (R386): Configures or removes an aggregate and its parking parameters. -/
  | portParkSet
  /-- SWITCH_LOOKUP (R399): After the 256th or last byte the switch looks a frame up in the active generation and applies its action. -/
  | switchLookup (id : Nat)
  /-- VERDICT_ARRIVAL (R421): A frame's late-check verdict reaches egress, completing it or stomping it with an inverted FCS. -/
  | verdictArrival (id : Nat)
  /-- SWX_TABLE_WRITE (R406): Writes, deletes or clears entries of the shadow tables. -/
  | swxTableWrite
  /-- SWX_TABLE_COMMIT (R407): Swaps shadow and active tables in one cycle and advances GEN, or discards the shadow. -/
  | swxTableCommit
  /-- SWX_MIRROR_SET (R431): Configures a mirror session. -/
  | swxMirrorSet
  /-- POINT_SERVE (R445): A scheduling point serves queued items by deficit round robin under its reserve and caps. -/
  | pointServe (k : Nat)
  /-- SCH_WEIGHTS_SET (R457): Sets participant weights or an egress point's class scheduling. -/
  | schWeightsSet
  /-- SCH_LIMITS_SET (R457): Sets rates, bursts, caps or a point's queue limit. -/
  | schLimitsSet
  /-- CRYPTO_ITEM_DONE (R459): An AES engine finishes an item and passes its output on. -/
  | cryptoItemDone (id : Nat)
  /-- XTS_ENC (R496): An XTS_ENC entry encrypts its source segments into its destinations. -/
  | entryXtsEnc (g : Nat) (entry : Bytes) (data : List (Option Bytes))
  /-- XTS_DEC (R496): An XTS_DEC entry decrypts its source segments into its destinations. -/
  | entryXtsDec (g : Nat) (entry : Bytes) (data : List (Option Bytes))
  /-- DRBG_RESEED (R501): The DRBG reseeds after 65,536 requests or 600 s. -/
  | drbgReseed
  /-- DRBG_HEALTH_FAILURE (R502): An entropy health test fails and the DRBG enters ERROR. -/
  | drbgHealthFailure (cause : Nat)
  /-- KEY_LOAD (R474): Unwraps, generates or rewraps a key. -/
  | keyLoad
  /-- KEY_ERASE (R469): Erases one key slot or every slot of an owner. -/
  | keyErase
  /-- KEY_KEK_SET (R472): Installs, retires or erases an owner's key-encryption keys. -/
  | keyKekSet
  /-- CRY_SA_ADD (R505): Adds a MACsec, ESP or TLS security association. -/
  | crySaAdd
  /-- CRY_SA_DEL (R506): Deletes a security association after its items finish. -/
  | crySaDel
  /-- DRBG_STATUS (R504): Returns the DRBG state and counts. -/
  | drbgStatus
  /-- CONN_ATTACH (R514): A CONN_ATTACH entry hands a connection's data path to a storage engine. -/
  | entryConnAttach (g : Nat) (entry : Bytes) (data : List (Option Bytes))
  /-- CONN_DETACH (R516): A CONN_DETACH entry stops new data on a connection and waits for acknowledgement. -/
  | entryConnDetach (g : Nat) (entry : Bytes) (data : List (Option Bytes))
  /-- DETACH_ACKED (R516): Every sent byte of a detaching connection is acknowledged and its final state block is written. -/
  | detachAcked (h : Nat)
  /-- DETACH_TIMEOUT (R516): Acknowledgement is still missing 1 s into a detach, the engine sends a RST and the entry completes with TIMEOUT. -/
  | detachTimeout (h : Nat)
  /-- CONN_REKEY (R530): A CONN_REKEY entry moves a connection's TLS direction to a new SA. -/
  | entryConnRekey (g : Nat) (entry : Bytes) (data : List (Option Bytes))
  /-- STO_POST (R540): A STO_POST entry posts a buffer for capsules and events of a connection. -/
  | entryStoPost (g : Nat) (entry : Bytes) (data : List (Option Bytes))
  /-- TGT_RESP (R542): A TGT_RESP entry answers an outstanding command by CID. -/
  | entryTgtResp (g : Nat) (entry : Bytes) (data : List (Option Bytes))
  /-- INI_CMD (R549): An INI_CMD entry sends an SQE on an initiator connection. -/
  | entryIniCmd (g : Nat) (entry : Bytes) (data : List (Option Bytes))
  /-- TCP_SEGMENT_RECEIVED (R518): A TCP segment of an attached connection reaches its engine and is processed, with FIN, RST or SYN closing it. -/
  | tcpSegmentReceived (id : Nat)
  /-- RETRANSMISSION_TIMEOUT (R519): A connection's RTO expires and it retransmits, closing after eight consecutive timeouts. -/
  | retransmissionTimeout (h : Nat)
  /-- CAPSULE_CMD (R536): A CapsuleCmd PDU arrives on a target connection and is served by its namespace backend. -/
  | capsuleCmd (h : Nat)
  /-- CAPSULE_RESP (R549): A CapsuleResp arrives on an initiator connection and completes its INI_CMD. -/
  | capsuleResp (h : Nat)
  /-- H2C_DATA (R525): An H2CData PDU brings write data for an R2T. -/
  | h2cData (h : Nat)
  /-- C2H_DATA (R526): A C2HData PDU brings read data to an initiator connection. -/
  | c2hData (h : Nat)
  /-- TERM_REQ (R522): An H2CTermReq or C2HTermReq is received and the connection closes. -/
  | termReq (h : Nat)
  /-- ROCE_PACKET_RECEIVED (R532): A RoCEv2 packet of an attached QP reaches its engine and is processed. -/
  | rocePacketReceived (id : Nat)
  /-- CNP_RECEIVED (R533): A CNP arrives for a QP and its transmit rate halves. -/
  | cnpReceived (id : Nat)
  /-- ROCE_RATE_RECOVERY (R533): Every 55 µs without a CNP a QP's rate recovers by 5 % of the port rate. -/
  | roceRateRecovery (h : Nat)
  /-- DRIVE_SUBMIT (R546): A waiting command gets a free CMB slot and the engine writes data, PRP list, SQE and the SQ doorbell. -/
  | driveSubmit (d : Nat)
  /-- DRIVE_CQ_POLL (R547): The engine polls a drive's CQ at least once per µs and takes new CQEs. -/
  | driveCqPoll (d : Nat) (cqes : Option Bytes) (data recs : List (Option Bytes))
  /-- DRIVE_TIMEOUT (R548): A drive command's CQE is not taken within TIMEOUT_MS and the command completes with Internal Error. -/
  | driveTimeout (d slot : Nat)
  /-- STO_TARGET_CFG (R543): Sets or removes a drive queue pair for the DRIVE backend. -/
  | stoTargetCfg
  /-- STO_NS_SET (R535): Sets or removes a namespace entry. -/
  | stoNsSet
  /-- STO_CONN_STATUS (R554): Returns the state of a range of attached connections. -/
  | stoConnStatus
  /-- FIX_ENCODE (R576): A FIX_ENCODE entry computes records and parity for a stripe image. -/
  | entryFixEncode (g : Nat) (entry : Bytes) (data : List (Option Bytes))
  /-- FIX_VERIFY_ENTRY (R569): A FIX_VERIFY entry classifies a stripe image and writes verdicts. -/
  | fixVerifyEntry (g : Nat) (entry : Bytes) (data : List (Option Bytes))
  /-- FIX_REPAIR_ENTRY (R571): A FIX_REPAIR entry classifies and repairs a stripe image in place. -/
  | fixRepairEntry (g : Nat) (entry : Bytes) (data : List (Option Bytes))
  /-- FIX_MIGRATE (R578): A FIX_MIGRATE entry decrypts, checks, repairs and re-encrypts a stripe image under a new key. -/
  | entryFixMigrate (g : Nat) (entry : Bytes) (data : List (Option Bytes))
  /-- FIX_JOB_DONE (R576): An integrity engine finishes a job and its completion is written. -/
  | fixJobDone (id : Nat) (data : List (Option Bytes))
  /-- SCRUB_STRIPE (R583): A running scrub session reads, classifies and optionally repairs its next stripe within its rate. -/
  | scrubStripe (n : Nat)
  /-- FIX_VERIFY (R587): Runs a verify job on a PF0 stripe image by command. -/
  | fixVerify
  /-- FIX_REPAIR (R587): Runs a repair job on a PF0 stripe image by command. -/
  | fixRepair
  /-- FIX_SCRUB_SET (R586): Starts, stops or reports a scrub session. -/
  | fixScrubSet
  /-- FIX_RS_CFG (R563): Sets or removes an integrity profile. -/
  | fixRsCfg
  /-- TICK_BOUNDARY (R589): A tick boundary latches inputs, publishes outputs and slots, applies pending pours, swaps and source changes and starts the steep. -/
  | tickBoundary
  /-- FRAME_SYNC_EDGE (R599): A TDM frame-sync edge is registered and matches a window, acquires or counts as stray. -/
  | frameSyncEdge (d : Nat)
  /-- MISSED_FRAME (R599): No edge arrives by E + W, the boundary falls there and four misses make the source LOST. -/
  | missedFrame
  /-- SGE_NOP (R608): Signal-engine NOP does nothing for one cycle. -/
  | sgeNop
  /-- CLR (R608): Clears an accumulator. -/
  | sgeClr
  /-- MOV (R608): Copies one accumulator to another. -/
  | sgeMov
  /-- SGE_ADD (R605): Adds two accumulators with saturation. -/
  | sgeAdd
  /-- SGE_SUB (R605): Subtracts two accumulators with saturation. -/
  | sgeSub
  /-- SGE_NEG (R605): Negates an accumulator with saturation. -/
  | sgeNeg
  /-- ABS (R605): Takes the absolute value of an accumulator. -/
  | sgeAbs
  /-- MIN (R608): Takes the smaller of two accumulators. -/
  | sgeMin
  /-- MAX (R608): Takes the larger of two accumulators. -/
  | sgeMax
  /-- ASH (R605): Shifts an accumulator arithmetically by SH. -/
  | sgeAsh
  /-- CSEL (R608): Selects A or B by a condition on D. -/
  | sgeCsel
  /-- CLAMP (R615): Clamps an accumulator between two coefficients. -/
  | sgeClamp
  /-- LDI (R604): Loads an immediate into an accumulator. -/
  | sgeLdi
  /-- LDC (R615): Loads a coefficient into an accumulator. -/
  | sgeLdc
  /-- RDD (R613): Reads a delay-line tap into an accumulator. -/
  | sgeRdd
  /-- WRD (R613): Writes an accumulator into a delay line at its pointer. -/
  | sgeWrd
  /-- MAC (R610): Multiplies a tap by a coefficient and accumulates, repeated after REP. -/
  | sgeMac
  /-- MACA (R606): Accumulates an accumulator times a coefficient. -/
  | sgeMaca
  /-- MULA (R606): Multiplies an accumulator by a coefficient. -/
  | sgeMula
  /-- MULAB (R606): Multiplies two accumulators. -/
  | sgeMulab
  /-- IN (R611): Reads a latched input port into an accumulator. -/
  | sgeIn
  /-- OUT (R611): Stages an output port value for the next boundary. -/
  | sgeOut
  /-- RES (R611): Stages a result-slot word for the next boundary. -/
  | sgeRes
  /-- REP (R610): Makes the next MAC run COUNT times. -/
  | sgeRep
  /-- SGE_PROGRAM_LOAD (R616): Loads a staged signal-engine program. -/
  | sgeProgramLoad
  /-- SGE_PROGRAM_SWAP (R619): Swaps, starts, stops, discards or reports the signal-engine program at a boundary. -/
  | sgeProgramSwap
  /-- SGE_TICK_SET (R623): Changes the tick rate and source at a boundary. -/
  | sgeTickSet
  /-- SGE_STRAY_COUNT_READ (R602): A read of SGE_STRAY_COUNT returns and clears the stray-edge count. -/
  | sgeStrayCountRead (reader : Nat)
  /-- SGE_MISS_COUNT_READ (R599): A read of SGE_MISS_COUNT returns and clears the missed-frame count. -/
  | sgeMissCountRead (reader : Nat)
  /-- TDM_FRAME_COMPLETE (R631): A TDM input frame's last enabled slot completes and its words await the next boundary. -/
  | tdmFrameComplete (input : Nat) (words : List Nat)
  /-- ADC_CONVERSION (R634): An ADC channel conversion completes at its evenly spaced time in the tick. -/
  | adcConversion (c code : Nat)
  /-- CAPTURE_EDGE (R636): An edge on a capture input is qualified after FILTER cycles. -/
  | captureEdge (c : Nat) (rising : Bool) (at_ : Nat)
  /-- PWM_PERIOD_START (R638): A PWM carrier period starts and takes the latest published compare value. -/
  | pwmPeriodStart (k : Nat)
  /-- POUR_COPY_DONE (R646): The copy of a pour into the new shadow bank completes and the commit replies. -/
  | pourCopyDone
  /-- SIO_POUR_VALUE (R657): A warden write of SIO_POUR_VALUE stages one coefficient record. -/
  | sioPourValue (core value : Nat)
  /-- POUR_COMMIT (R657): A warden write of OP = COMMIT to SIO_POUR_CTL commits the staged pour. -/
  | pourCommit (core : Nat)
  /-- POUR_DISCARD (R647): A warden write of OP = DISCARD to SIO_POUR_CTL discards the staged records. -/
  | pourDiscard (core : Nat)
  /-- SGE_POUR_STAGE (R643): Stages coefficient or configuration records. -/
  | sgePourStage
  /-- SGE_POUR_COMMIT (R644): Commits or discards the staged pour. -/
  | sgePourCommit
  /-- SGE_SLOT_READ (R655): Returns a range of result slots. -/
  | sgeSlotRead
  /-- ADD (R661): Warden addition of two registers. -/
  | fenAdd (core : Nat)
  /-- SUB (R661): Warden subtraction of two registers. -/
  | fenSub (core : Nat)
  /-- AND (R661): Warden bitwise AND. -/
  | fenAnd (core : Nat)
  /-- OR (R661): Warden bitwise OR. -/
  | fenOr (core : Nat)
  /-- XOR (R661): Warden bitwise XOR. -/
  | fenXor (core : Nat)
  /-- SLT (R661): Writes 1 if one register is below another, signed. -/
  | fenSlt (core : Nat)
  /-- SLTU (R661): Writes 1 if one register is below another, unsigned. -/
  | fenSltu (core : Nat)
  /-- MUL (R661): Low 16 bits of a product. -/
  | fenMul (core : Nat)
  /-- MULHU (R661): High 16 bits of an unsigned product. -/
  | fenMulhu (core : Nat)
  /-- SHLI (R661): Shifts left by an immediate count. -/
  | fenShli (core : Nat)
  /-- SHRI (R661): Shifts right logically by an immediate count. -/
  | fenShri (core : Nat)
  /-- SARI (R661): Shifts right arithmetically by an immediate count. -/
  | fenSari (core : Nat)
  /-- BEQ (R691): Branches when two registers are equal. -/
  | fenBeq (core : Nat)
  /-- BNE (R691): Branches when two registers differ. -/
  | fenBne (core : Nat)
  /-- BLT (R691): Branches when one register is below another, signed. -/
  | fenBlt (core : Nat)
  /-- BGE (R691): Branches when one register is at or above another, signed. -/
  | fenBge (core : Nat)
  /-- BLTU (R691): Branches when one register is below another, unsigned. -/
  | fenBltu (core : Nat)
  /-- BGEU (R691): Branches when one register is at or above another, unsigned. -/
  | fenBgeu (core : Nat)
  /-- NOT (R661): Bitwise NOT of a register. -/
  | fenNot (core : Nat)
  /-- NEG (R661): Two's-complement negation of a register. -/
  | fenNeg (core : Nat)
  /-- JR (R662): Jumps to the address in a register. -/
  | fenJr (core : Nat)
  /-- CALLR (R671): Pushes the return address and jumps to a register's address. -/
  | fenCallr (core : Nat)
  /-- RET (R671): Pops the return address into the PC. -/
  | fenRet (core : Nat)
  /-- PUSH (R675): Pushes a register in memory-stack mode. -/
  | fenPush (core : Nat)
  /-- POP (R675): Pops into a register in memory-stack mode. -/
  | fenPop (core : Nat)
  /-- YIELD (R700): Moves the running task to the tail of its priority level. -/
  | fenYield (core : Nat)
  /-- WAIT (R701): Waits for a masked event bit, or takes pending ones at once. -/
  | fenWait (core : Nat)
  /-- EXIT (R700): Ends the task and parks it with OK. -/
  | fenExit (core : Nat)
  /-- TRAP (R692): Raises SOFTWARE with INFO n. -/
  | fenTrap (core : Nat)
  /-- ADDI (R661): Adds an immediate. -/
  | fenAddi (core : Nat)
  /-- ANDI (R661): ANDs an immediate. -/
  | fenAndi (core : Nat)
  /-- ORI (R661): ORs an immediate. -/
  | fenOri (core : Nat)
  /-- XORI (R661): XORs an immediate. -/
  | fenXori (core : Nat)
  /-- SLTI (R661): Signed compare against an immediate. -/
  | fenSlti (core : Nat)
  /-- SLTIU (R661): Unsigned compare against an immediate. -/
  | fenSltiu (core : Nat)
  /-- LD (R667): Loads a word from data memory. -/
  | fenLd (core : Nat)
  /-- ST (R667): Stores a word to data memory. -/
  | fenSt (core : Nat)
  /-- LDP (R666): Loads a word from code memory. -/
  | fenLdp (core : Nat)
  /-- XLD (R678): Issues a 32-bit device-space read through a device window. -/
  | fenXld (core : Nat)
  /-- XST (R678): Issues a 32-bit device-space write through a device window. -/
  | fenXst (core : Nat)
  /-- DEVICE_ACCESS_COMPLETE (R680): A warden's device access completes and the task issues its next instruction, or takes DEVICE. -/
  | deviceAccessComplete (core : Nat)
  /-- DEVICE_ACCESS_TIMEOUT (R681): A device access has not completed 1 ms after issue and completes with TIMEOUT, raising DEVICE. -/
  | deviceAccessTimeout (core : Nat)
  /-- RDL (R684): Reads a warden-local register. -/
  | fenRdl (core : Nat)
  /-- WRL (R684): Writes a warden-local register. -/
  | fenWrl (core : Nat)
  /-- JMP (R662): Jumps to an absolute address. -/
  | fenJmp (core : Nat)
  /-- CALL (R671): Pushes the return address and jumps to an absolute address. -/
  | fenCall (core : Nat)
  /-- TIME_SLICE_EXPIRY (R698): A task has run 10,000 WDCLK cycles and moves to the tail of its level if a peer is READY. -/
  | timeSliceExpiry (core : Nat)
  /-- EVENT_POST (R706): A post reaches a task's pending bits and may wake a waiting task. -/
  | eventPost (role task bit : Nat)
  /-- TASK_CREATE (R702): A write of OP = CREATE to WDN_TC_OP fills a task slot and makes it READY. -/
  | taskCreate (core role task prio : Nat) (sm ovf : Bool)
  /-- TASK_CANCEL (R703): A write of OP = CANCEL to WDN_TC_OP parks the task with CANCELLED. -/
  | taskCancel (core role task : Nat)
  /-- WDN_EVPOST (R708): A task posts an event bit to any task of any role. -/
  | wdnEvpost (core role task bit : Nat)
  /-- WDN_WDOG_KICK (R713): A write restarts the role's watchdog period. -/
  | wdnWdogKick (core : Nat)
  /-- WDN_EVDROP_READ (R706): A read of WDN_EVDROP returns and clears the dropped-post count. -/
  | wdnEvdropRead (core : Nat)
  /-- TIMER_ARM (R710): A write of TMRn_CFG arms, rearms or disarms a role timer. -/
  | timerArm (core timer value : Nat)
  /-- TIMER_EXPIRY (R710): A role timer expires and posts its bit unless a guarded arrival disarmed it. -/
  | timerExpiry (role timer : Nat)
  /-- WATCHDOG_EXPIRY (R714): A role's watchdog expires and the role restarts, moves cold or the device takes a W. -/
  | watchdogExpiry (r : Nat) (diode : Int)
  /-- LCK_ACQ (R722): A read of LCK_ACQ attempts to acquire a lock and returns the outcome. -/
  | lckAcq (reader lock : Nat)
  /-- LCK_REL (R723): A write of LCK_REL by the holder frees the lock. -/
  | lckRel (reader lock : Nat)
  /-- BAT_SCAN (R734): Every 10 ms BAT samples cells, stack and thermistors and applies the protection limits. -/
  | batScan (cells : List Nat) (stack : Nat) (t0 t1 : Int)
  /-- COULOMB_SAMPLE (R735): Every 1 ms the ΣΔ shunt sample adds I × 1 ms to Q_REM. -/
  | coulombSample (sample : Int)
  /-- OCD (R743): Discharge current exceeds OCD_MA for OCD_MS, BAT_DSG_EN goes low and the OCD latch is set. -/
  | ocd (ma : Nat)
  /-- OPEN_WIRE_TEST (R747): A tap's open-wire test finishes its 2 ms sink and finds the tap OPEN or CLOSED. -/
  | openWireTest (change : Int)
  /-- OPEN_WIRE_PERIOD (R749): OW_PERIOD_S elapses and every tap is tested again. -/
  | openWirePeriod
  /-- REST_REACHED (R754): The current has stayed below CAP / 50 for 30 min and the string is rested. -/
  | restReached
  /-- REBASE_EVALUATION (R754): Every 60 s while rested BAT may rebase the state of charge from the OCV table. -/
  | rebaseEvaluation
  /-- CHARGE_UPDATE (R761): Every 100 ms while charging PMC adjusts the charger's VOUT_COMMAND, and charging may terminate. -/
  | chargeUpdate (answered : Bool)
  /-- CHARGER_RETRY (R763): Every 60 s after a charger fault BAT tries the charger again. -/
  | chargerRetry (answered : Bool)
  /-- BAT_STATUS (R765): Returns the battery string state. -/
  | batStatus
  /-- BAT_LIMITS_SET (R765): Sets the battery configuration, the OCV table or clears the OCD latch. -/
  | batLimitsSet
  /-- BAT_OPEN_WIRE_TEST (R766): Tests a range of taps for open wires. -/
  | batOpenWireTest
  /-- BAT_CHARGER_SET (R765): Sets the charger mode and parameters. -/
  | batChargerSet
  /-- PLT_SETPOINT_SET (R770): Defines, sets or undefines a setpoint, starting a slew for SET. -/
  | pltSetpointSet
  /-- SETPOINT_LEG_COMMIT (R771): In the last tick of a leg PLT commits the next leg of a slew. -/
  | setpointLegCommit (setpoint : Nat)
  /-- PLT_STATUS (R796): Returns plant supervision and plant-bus state. -/
  | pltStatus
  /-- PLT_STOP (R780): Asserts or releases the PLANT_STOP_N latch. -/
  | pltStop
  /-- STOP_CTL_ASSERT (R780): A write of OP = ASSERT to PLT_STOP_CTL sets the stop latch. -/
  | stopCtlAssert
  /-- STOP_CTL_RELEASE (R781): A write of OP = RELEASE with KEY 0xA5 to PLT_STOP_CTL clears the latch unless refused. -/
  | stopCtlRelease (key : Nat)
  /-- CAN_CFG (R785): Sets the plant-bus configuration once the bus is idle. -/
  | canCfg
  /-- CAN_FRAME_RECEIVED (R787): A CAN frame passes acceptance and is written to an RX buffer or lost. -/
  | canFrameReceived (ident : Nat) (ide fdf brs esi : Bool) (dlc : Nat) (data : Bytes)
  /-- CAN_TX_DONE (R789): A pending message is transmitted and its CAN_TXREQ bit clears. -/
  | canTxDone
  /-- CAN_ERROR_STATE_CHANGE (R790): TEC or REC moves the controller to error-passive or bus-off and alerts firmware. -/
  | canErrorStateChange (tec rec_ : Nat)
  /-- CAN_RECOVERED (R790): After 128 × 11 recessive bits the controller leaves bus-off. -/
  | canRecovered
  /-- CAN_TXREQ (R789): A write of CAN_TXREQ makes buffers pending, setting the stop latch for STOP-class buffers. -/
  | canTxreq (reg value : Nat)
  /-- CAN_TXABORT (R789): A write of CAN_TXABORT withdraws pending messages. -/
  | canTxabort (reg value : Nat)
  /-- CAN_RECOVER (R790): A write of CAN_RECOVER starts bus-off recovery counting. -/
  | canRecover
  /-- CAN_RX_LOST_READ (R787): A read of CAN_RX_LOST returns and clears the lost-frame count. -/
  | canRxLostRead (reader : Nat)
  /-- CARRIAGE_SEGMENT (R793): A carriage segment is reassembled and a complete packet goes to the front end. -/
  | carriageSegment (src : Nat) (data : Bytes)
  /-- CARRIAGE_GAP_TIMEOUT (R794): 100 ms pass between segments and the partial packet is discarded. -/
  | carriageGapTimeout (node : Nat)
  /-- INVENTORY (R803): The label answers an ISO/IEC 15693 Inventory. -/
  | lblInventory (req : Bytes)
  /-- STAY_QUIET (R803): The label answers Stay quiet. -/
  | lblStayQuiet (req : Bytes)
  /-- READ_SINGLE_BLOCK (R805): The label reads one block of 0–255. -/
  | lblReadSingleBlock (req : Bytes) (busy : Nat)
  /-- WRITE_SINGLE_BLOCK (R807): The label writes one block of 0–255. -/
  | lblWriteSingleBlock (req : Bytes) (busy : Nat)
  /-- LOCK_BLOCK (R806): The label locks one block permanently. -/
  | lblLockBlock (req : Bytes) (busy : Nat)
  /-- READ_MULTIPLE_BLOCKS (R805): The label reads 1–64 blocks. -/
  | lblReadMultipleBlocks (req : Bytes) (busy : Nat)
  /-- WRITE_MULTIPLE_BLOCKS (R807): The label writes 1–8 blocks atomically. -/
  | lblWriteMultipleBlocks (req : Bytes) (busy : Nat)
  /-- SELECT (R803): The label answers Select. -/
  | lblSelect (req : Bytes)
  /-- RESET_TO_READY (R803): The label answers Reset to ready. -/
  | lblResetToReady (req : Bytes)
  /-- GET_SYSTEM_INFO (R803): The label reports 256 blocks of 4 bytes. -/
  | lblGetSystemInfo (req : Bytes)
  /-- GET_MULTIPLE_BLOCK_SECURITY_STATUS (R803): The label reports block lock status for blocks 0–255. -/
  | lblGetMultipleBlockSecurityStatus (req : Bytes) (busy : Nat)
  /-- EXTENDED_READ_SINGLE_BLOCK (R805): The label reads one block of 0–2,047. -/
  | extendedReadSingleBlock (req : Bytes) (busy : Nat)
  /-- EXTENDED_WRITE_SINGLE_BLOCK (R807): The label writes one block of 0–2,047. -/
  | extendedWriteSingleBlock (req : Bytes) (busy : Nat)
  /-- EXTENDED_LOCK_SINGLE_BLOCK (R806): The label locks one block of 0–2,047. -/
  | extendedLockSingleBlock (req : Bytes) (busy : Nat)
  /-- EXTENDED_READ_MULTIPLE_BLOCKS (R805): The label reads 1–64 blocks of 0–2,047. -/
  | extendedReadMultipleBlocks (req : Bytes) (busy : Nat)
  /-- EXTENDED_WRITE_MULTIPLE_BLOCKS (R807): The label writes 1–8 blocks of 0–2,047 atomically. -/
  | extendedWriteMultipleBlocks (req : Bytes) (busy : Nat)
  /-- EXTENDED_GET_SYSTEM_INFO (R803): The label reports 2,048 blocks. -/
  | extendedGetSystemInfo (req : Bytes) (busy : Nat)
  /-- UNSUPPORTED_FIELD_COMMAND (R803): A field command code not in Table 22-2 is answered with error 0x01. -/
  | unsupportedFieldCommand (req : Bytes)
  /-- MBX_SUBMIT (R817): A reader submits a command packet through the label mailbox. -/
  | mbxSubmit (req : Bytes) (busy : Nat)
  /-- WAKE (R821): A reader sends the wake code and, in SHELF with the mask bit set, wakes the device. -/
  | lblWake (req : Bytes)
  /-- LABEL_DEVICE_READ (R813): A warden write of OP = READ to LBL_CTL reads label blocks into LBL_BUF. -/
  | labelDeviceRead (core : Nat)
  /-- LABEL_DEVICE_WRITE (R813): A warden write of OP = WRITE to LBL_CTL writes LBL_BUF into label blocks. -/
  | labelDeviceWrite (core : Nat)
  /-- LABEL_DEFERRED_RETRY (R809): A deferred device-side request is retried in the cycle after the field transaction ends. -/
  | labelDeferredRetry
  /-- LABEL_DEFER_TIMEOUT (R810): A device-side operation has been deferred 500 ms and completes with TIMEOUT. -/
  | labelDeferTimeout
  /-- LABEL_WRITE_COMMIT (R811): A device-side label write commits. -/
  | labelWriteCommit
  /-- MIRROR_TIMEOUT (R816): The mirror is not complete 40 ms after it starts and the remaining records are not written. -/
  | mirrorTimeout
  /-- MASTER_READ (R831): A warden write of XSP_MCMD with DIR = 0 starts a master read transfer. -/
  | xspMasterRead (cmd : Nat)
  /-- MASTER_WRITE (R831): A warden write of XSP_MCMD with DIR = 1 starts a master write transfer. -/
  | xspMasterWrite (cmd : Nat)
  /-- MASTER_TRANSFER_DONE (R833): A master transfer ends and DONE, STATUS and a route post follow. -/
  | xspMasterTransferDone (data : Bytes)
  /-- MASTER_TIMEOUT (R832): No XSTB edge within 64 XCLK cycles after the dummy phase ends the read with TIMEOUT. -/
  | xspMasterTimeout
  /-- PKT_WRITE (R835): A BMC writes a command packet to the service port. -/
  | xspPktWrite (header : Nat) (data : Bytes)
  /-- RESULT_READ (R837): A BMC reads CRW0 as a counting read. -/
  | xspResultRead (header words : Nat)
  /-- LOCK_ACQ (R838): A BMC attempts to acquire a lock as the service port. -/
  | xspLockAcq (header : Nat)
  /-- LOCK_REL (R838): A BMC releases a lock as the service port. -/
  | xspLockRel (header : Nat)
  /-- STATUS (R836): A BMC reads the target STATUS word, clearing ERR and ABORTED. -/
  | xspStatus (header words : Nat)
  /-- TARGET_RESET (R839): A BMC resets the target port and advances the service port's epoch. -/
  | xspTargetReset (header : Nat)
  /-- SELECT_RELEASE (R841): XSEL0_N rises, discarding any partial word and aborting an unfinished PKT_WRITE. -/
  | xspSelectRelease
  /-- LATTICE_FRAME_RECEIVED (R854): A lattice frame arrives and is checked for alignment, HCRC, FCRC, sequence and carriage. -/
  | latticeFrameReceived (link offset : Nat) (bytes : Bytes)
  /-- COMMAND_CARRIAGE (R874): A CTRL carriage of TYPE 0x01 addressed to this vertex goes to the front end as a command packet. -/
  | commandCarriage
  /-- LATTICE_FRAME_SLOT (R851): In each frame slot the transmitter sends the first applicable frame of R851. -/
  | latticeFrameSlot (link : Nat)
  /-- SYMBOL_LOCK_TIMEOUT (R857): No symbol lock is reached within 20 ms of TRAINING. -/
  | symbolLockTimeout (link : Nat)
  /-- TRAINING_TIMEOUT (R858): A link not UP within 100 ms of TRAINING returns to DOWN. -/
  | trainingTimeout (link : Nat)
  /-- LINK_RETRAIN (R858): One second after a failed training the link enters TRAINING again. -/
  | linkRetrain (link : Nat)
  /-- HELLO_TIMER (R859): The HELLO interval expires and a HELLO is sent. -/
  | helloTimer (link : Nat)
  /-- DEAD_TIMER (R862): No valid HELLO arrives for DEAD_COUNT × HELLO_MS and the link goes DOWN. -/
  | deadTimer (link : Nat)
  /-- REPLAY_TIMER (R866): REPLAY_US passes without acknowledgement progress and unacknowledged frames are replayed, the 8th taking the link DOWN. -/
  | replayTimer (link : Nat)
  /-- QUALITY_WINDOW (R876): At the end of each 1 s window the link's FER sets or clears DEGRADED or takes it DOWN. -/
  | qualityWindow (link : Nat)
  /-- TUNNEL_FRAME_RECEIVED (R878): An Ethernet tunnel frame for a lattice link is taken before lookup and its lattice frames are handled. -/
  | tunnelFrameReceived (p : Nat) (bytes : Bytes)
  /-- TUNNEL_FLUSH (R880): FLUSH_US after the first queued lattice frame, or at COUNT_MAX, a tunnel frame is sent. -/
  | tunnelFlush (link : Nat)
  /-- LSA_RECEIVED (R893): An LSA arrives and is taken into the LSDB and flooded if newer. -/
  | lsaReceived
  /-- LSA_ORIGINATE (R892): The device originates a new LSA on a change or every 30 s. -/
  | lsaOriginate
  /-- LSA_AGE_EXPIRY (R895): An LSDB entry not replaced for 120 s is removed. -/
  | lsaAgeExpiry (serial : Nat)
  /-- VERTEX_CLAIM_HELD (R889): A vertex claim meets no conflict for 500 ms and becomes HELD. -/
  | vertexClaimHeld
  /-- ROUTE_RECOMPUTE (R897): Within 10 ms of an LSDB change the device recomputes routes and the stack leader. -/
  | routeRecompute
  /-- HANDOVER_STATE_RECEIVED (R920): A handover state or phase carriage arrives and is applied at the target. -/
  | handoverStateReceived (link : Nat) (msg : Machine.HoMsg)
  /-- HANDOVER_STOP (R921): After PREPARE the source suspends tenants, relays frames and sends the final copy. -/
  | handoverStop
  /-- HANDOVER_WORK_DEADLINE (R921): Work admitted before STOP and unfinished 5 ms later completes with ABORTED. -/
  | handoverWorkDeadline
  /-- HANDOVER_STOP_TIMEOUT (R922): The final copy is not applied 8 ms after STOP and the handover aborts. -/
  | handoverStopTimeout
  /-- HANDOVER_SWITCH (R923): The target takes the tenants, connections and alias in one step. -/
  | handoverSwitch
  /-- HANDOVER_RELEASE (R925): The source revokes its tenants, unbinds VFs and takes ports down. -/
  | handoverRelease
  /-- LAT_STATUS (R929): Returns lattice, stack and link state. -/
  | latStatus
  /-- LAT_VERTEX_SET (R929): Sets the vertex mode and ID or a link configuration. -/
  | latVertexSet
  /-- LAT_STACK_JOIN (R906): Joins a stack or binds an aggregate to it. -/
  | latStackJoin
  /-- LAT_STACK_LEAVE (R912): Removes the stack configuration. -/
  | latStackLeave
  /-- LAT_HANDOVER (R916): Starts, aborts or reports a whole-device handover. -/
  | latHandover
  /-- SECURE_BOOT (R949): At step 8 of power-up LCY reads the boot record, streams and verifies a slot and starts the roles or ROM service. -/
  | secureBoot
  /-- BOOT_DONE (R951): Secure boot ends, BOOT_DONE becomes 1 and command transports run. -/
  | bootDone
  /-- CONFIRM_TIMER_EXPIRY (R957): A trial's confirm timer expires and the device takes a W with cause 0x07. -/
  | confirmTimerExpiry (diode : Int)
  /-- LCY_STATE_GET (R964): Returns the life-cycle, trust and boot state. -/
  | lcyStateGet
  /-- LCY_TRANSITION (R933): Writes a life-cycle transition to OTP and replies. -/
  | lcyTransition (good : Bool)
  /-- TRANSITION_W_START (R933): Within 1 ms after a transition reply is delivered the W with cause 0x06 starts. -/
  | transitionWStart (diode : Int)
  /-- OTP_SETTINGS_WRITE (R940): Programs the next generation of a settings group or a trust hash. -/
  | otpSettingsWrite (good : Bool)
  /-- FW_IMAGE_LOAD (R954): Loads a signed container into the inactive slot and verifies it on FINAL. -/
  | fwImageLoad
  /-- FW_IMAGE_ACTIVATE (R956): Starts a trial, confirms it or commits the SVN. -/
  | fwImageActivate (good : Bool)
  /-- ACTIVATION_W_START (R956): Within 1 ms after a TRIAL reply with RESET = 1 the W with cause 0x07 starts. -/
  | activationWStart (diode : Int)
  /-- TRUST_ROLL (R960): Puts a later trust generation in force and revokes earlier ones. -/
  | trustRoll (good : Bool)
  /-- RPR_STATUS (R975): Returns fence, pool and repair-record state. -/
  | rprStatus
  /-- RPR_FENCE (R970): Fences a domain, optionally persisting it in OTP. -/
  | rprFence (good : Bool)
  /-- RPR_UNFENCE (R974): Unfences a domain or clears a phase or DDR SPENT mark. -/
  | rprUnfence (good : Bool)
  /-- RPR_SPARE_SWAP (R976): Gives an active unit's role to its pool's spare. -/
  | rprSpareSwap
  /-- AUTO_FENCE (R972): A condition of Table 27-2 fences a domain automatically in AON. -/
  | autoFence (d cause : Nat)
  /-- KNOWN_ANSWER_TEST (R972): Every 24 h an idle engine runs its known-answer test, a failure fencing it. -/
  | knownAnswerTest (d : Nat) (passed : Bool)
  /-- CNT_BANK_ENABLE (R988): Switches a counter bank on with a group and scope. -/
  | cntBankEnable
  /-- CNT_BANK_DISABLE (R991): Switches a counter bank off. -/
  | cntBankDisable
  /-- CNT_SNAPSHOT (R995): Copies chosen banks into the snapshot window in one cycle. -/
  | cntSnapshot
  /-- CNT_READ (R997): Returns a range of one bank's counters. -/
  | cntRead
  /-- EXTEST (R1000): JTAG instruction EXTEST selects the boundary scan for external test. -/
  | jtagExtest
  /-- IDCODE (R1000): JTAG instruction IDCODE selects the identification register. -/
  | jtagIdcode
  /-- SAMPLE_PRELOAD (R1000): JTAG instruction SAMPLE/PRELOAD selects the boundary scan. -/
  | jtagSamplePreload
  /-- JTAG_CLAMP (R1000): JTAG instruction CLAMP holds the outputs and selects bypass. -/
  | jtagClamp
  /-- HIGHZ (R1000): JTAG instruction HIGHZ floats the outputs and selects bypass. -/
  | jtagHighz
  /-- EXTEST_PULSE (R1000): IEEE 1149.6 EXTEST_PULSE on the AC-coupled lanes. -/
  | jtagExtestPulse
  /-- EXTEST_TRAIN (R1000): IEEE 1149.6 EXTEST_TRAIN on the AC-coupled lanes. -/
  | jtagExtestTrain
  /-- BYPASS (R1000): JTAG instruction BYPASS selects the one-bit bypass register. -/
  | jtagBypass
  /-- DBG_ACCESS (R1002): Loading DBG_ACCESS opens a debug session where permitted, or records DEBUG_DENIED. -/
  | dbgAccess
  /-- DEBUG_DEVICE_READ (R1003): An Update-DR of the DBG register with OP 1 reads device space. -/
  | debugDeviceRead (addr : Nat) (late : Bool)
  /-- DEBUG_DEVICE_WRITE (R1003): An Update-DR of the DBG register with OP 2 writes device space. -/
  | debugDeviceWrite (addr value : Nat) (late : Bool)
  /-- DEBUG_WARDEN_MEMORY_READ (R1003): An Update-DR of the DBG register with OP 3 reads warden code or data memory. -/
  | debugWardenMemoryRead (core space addr : Nat) (late : Bool)
  /-- TAP_RESET (R1004): TRST_N assertion or Test-Logic-Reset ends any debug session. -/
  | tapReset
  /-- REGISTER_WRITE (R61): A write to a register without a row of its own sets its fields as their access codes state. -/
  | registerWrite (space : RegSpace) (addr size value : Nat)
  /-- AON_POWER_LOSS (R145): VIN falls below the AON power-on level, AON loses its supply, the RTC stops and the device is OFF. -/
  | aonPowerLoss
  /-- VIN_OK_LOSS (R120): VIN falls below the VIN_OK threshold and VIN_OK stops holding at once, so no new power-up may start until it has held again for 10 ms. -/
  | vinOkLoss
  /-- IB_PGOOD_HIGH (R122): IB_PGOOD rises after IB_EN, PMC writes the rail settings over PMBus and the power-up sequence goes on to the following rails. -/
  | ibPgoodHigh (xtalOk pllOk : Bool) (diode : Int)
  /-- LINK_DL_ACTIVE (R1044): The PCIe link completes training and reaches DL_Active, setting MGT_LINK speed and width and ending the link's absence. -/
  | linkDlActive (speed width : Nat) (upcfg : Bool)
  /-- SYMBOL_LOCK (R857): A lattice lane's receiver reaches symbol lock within 20 ms of TRAINING and the link enters SEARCHING. -/
  | symbolLock (link : Nat)
  /-- ROCE_ACK_TIMEOUT (R534): A RoCEv2 QP's acknowledgement or RNR retry timer expires, the engine retransmits, and when RETRY_CNT or RNR_RETRY is exhausted the connection closes with ROCE_RETRY. -/
  | roceAckTimeout (h : Nat)
  /-- ROLE_MOVE_COMPLETE (R718): A warm or cold role move finishes copying or loading, WDN_MAP changes, the role resumes on the new core and ROLE_MOVED is written. -/
  | roleMoveComplete (r : Nat) (good : Bool)
  /-- DDR_SPENT (R979): A DRAM device's corrected symbol errors exceed 1,000 within 24 h, it is marked SPENT in AON and its symbols are treated as erasures. -/
  | ddrSpent (ch device : Nat)
  /-- READER_FIELD (R812): A reader's 13.56 MHz field appears at or leaves the label antenna, changing LBL_STAT.FIELD and powering or unpowering the label in OFF. -/
  | readerField (present : Bool)
  deriving DecidableEq, Repr

end Sys2Proof
end

