-- ==== Sys2Proof/Decode.lean ====
section
/-!
DEFINITION. Sys2Proof/Decode.lean: the command that a word of the opcode table's bits spells.
-/
namespace Sys2Proof

/-- No row of spec/opcode_table.json gives its command any bits (every row's fields are empty), so no word spells a command. -/
def decodeTableWord (_nbits _w : Nat) : Option Instr := none

end Sys2Proof
end

