-- ==== Sys2Proof/Machine/StateBat.lean ====
section
/-!
DEFINITION. Sys2Proof/Machine/StateBat.lean: the battery string (ch 20).
-/
namespace Sys2Proof.Machine
open Sys2Proof

/-- Configuration, subject 0x01 of Table 20-3, and the OCV table. -/
structure BatCfg where
  /-- CHEM: 0 NONE, 1 LFP, 2 NMC, 3 VOLTAGE_ONLY. [8; R730, 20; CW:OTP BAT_CFG, BLANK NONE] -/
  chem : Nat := 0
  /-- N. [8; Table 20-1, 20; BLANK 0] -/
  n : Nat := 0
  /-- NTC0 and NTC1 fitted. [2; Table 20-3, 20; BLANK 0] -/
  ntc : Bool × Bool := (false, false)
  /-- CELL_OV_MV. [16; Table 20-3, 20; BLANK 0] -/
  ov : Nat := 0
  /-- CELL_UV_MV. [16; Table 20-3, 20; BLANK 0] -/
  uv : Nat := 0
  /-- OV_REL_MV. [16; Table 20-3, 20; BLANK 0] -/
  ovRel : Nat := 0
  /-- UV_REL_MV. [16; Table 20-3, 20; BLANK 0] -/
  uvRel : Nat := 0
  /-- EMPTY_MV. [16; Table 20-3, 20; BLANK 0] -/
  empty : Nat := 0
  /-- FALLBACK_MV. [16; Table 20-3, 20; BLANK 0] -/
  fallback : Nat := 0
  /-- BAL_DELTA_MV. [16; Table 20-3, 20; BLANK 0] -/
  balDelta : Nat := 0
  /-- BAL_MIN_MV. [16; Table 20-3, 20; BLANK 0] -/
  balMin : Nat := 0
  /-- OCD_MA. [32; Table 20-3, 20; BLANK 0] -/
  ocdMa : Nat := 0
  /-- OCD_MS. [16; Table 20-3, 20; BLANK 0] -/
  ocdMs : Nat := 0
  /-- SHUNT_UOHM. [16; Table 20-3, 20; BLANK 0] -/
  shunt : Nat := 0
  /-- RATED_MAH. [32; Table 20-3, 20; BLANK 0] -/
  rated : Nat := 0
  /-- DSG_TMIN and DSG_TMAX in 0.1 °C. [2 x 16; Table 20-3, 20; BLANK 0] -/
  dsgT : Int × Int := (0, 0)
  /-- CHG_TMIN and CHG_TMAX in 0.1 °C. [2 x 16; Table 20-3, 20; BLANK 0] -/
  chgT : Int × Int := (0, 0)
  /-- OW_PERIOD_S. [16; Table 20-3, 20; BLANK 0] -/
  owPeriod : Nat := 0
  /-- OCV table in mV at 5 % steps, when loaded. [21 x 16; Table 20-3, 20; BLANK not loaded] -/
  ocv : Option (List Nat) := none
  deriving DecidableEq, Repr

/-- Charger, Table 20-4. -/
structure ChargerCfg where
  /-- MODE AUTO. [8; Table 20-4, 20; CW:OTP BAT_CFG, BLANK OFF] -/
  auto : Bool := false
  /-- PMB_ADDR; 0 while none is configured. [8; Table 20-4, 20; BLANK 0] -/
  addr : Nat := 0
  /-- CHG_MA. [32; Table 20-4, 20; BLANK 0] -/
  ma : Nat := 0
  /-- CHG_CELL_MV. [16; Table 20-4, 20; BLANK 0] -/
  cell : Nat := 0
  /-- TERM_MA. [16; Table 20-4, 20; BLANK 0] -/
  termMa : Nat := 0
  /-- RECHARGE_PCT. [8; Table 20-4, 20; BLANK 0] -/
  recharge : Nat := 0
  /-- TERM_MIN. [16; Table 20-4, 20; BLANK 0] -/
  termMin : Nat := 0
  deriving DecidableEq, Repr

/-- What AON keeps of the battery (R737, R756). Charges are in units of 1/1,000 of a ΣΔ count for 1 ms (log 66). -/
structure BatKeep where
  /-- CAP in mAh. [32; R751 R756, 20; RATED_MAH of BAT_CFG, BLANK 0] -/
  cap : Nat := 0
  /-- RELEARN_PENDING. [1; R754 R756, 20; DESIGN CHOICE 0 (log 67)] -/
  relearn : Bool := false
  /-- Charge behind DRIFT_MAH. [R752 R756, 20; DESIGN CHOICE 0 (log 67)] -/
  drift : Nat := 0
  /-- COUNTER_DRIFT. [1; R752 R737, 20; DESIGN CHOICE 0 (log 67)] -/
  counterDrift : Bool := false
  /-- Q_REM that SHELF entry wrote, if the state of charge was known. [R737, 20; none] -/
  saved : Option Nat := none
  deriving DecidableEq, Repr

/-- The battery logic of D022 and the front end. -/
structure Battery where
  /-- Configuration. -/
  cfg : BatCfg := {}
  /-- Charger. -/
  chg : ChargerCfg := {}
  /-- Cell readings, native units: 0.1 mV, or 0.5 mV in VOLTAGE_ONLY. [16 x 16; R734, 20; DESIGN CHOICE none read (log 67)] -/
  cells : List Nat := []
  /-- Stack in 10 mV. [16; R734, 20; DESIGN CHOICE 0 (log 67)] -/
  stack : Nat := 0
  /-- Thermistors in 0.01 °C. [2 x 16; R738, 20; DESIGN CHOICE 0 (log 67)] -/
  temps : Int × Int := (0, 0)
  /-- The ΣΔ sample last taken. [24 signed; R735, 20; DESIGN CHOICE 0 (log 67)] -/
  sample : Int := 0
  /-- Earlier scans, newest first, at most 100. [100 x (cells, stack); R746, 20; none] -/
  history : List (List Nat × Nat) := []
  /-- Scans since power-up, at most 3. [2; R744, 20; 0] -/
  scans : Nat := 0
  /-- Scans in a row above CELL_OV_MV, by cell (0 for S_U), at most 3. [17 x 2; R740 R748, 20; 0] -/
  overs : List (Nat × Nat) := []
  /-- Scans in a row below CELL_UV_MV, by cell (0 for S_U), at most 3. [17 x 2; R741 R748, 20; 0] -/
  under : List (Nat × Nat) := []
  /-- Cells whose over-voltage has been acted on. [17; R740, 20; none] -/
  overDone : List Nat := []
  /-- Cells whose under-voltage has been acted on. [17; R741, 20; none] -/
  underDone : List Nat := []
  /-- Scans in a row with a thermistor outside the discharge limits, at most 3. [2; R742, 20; 0] -/
  hot : Nat := 0
  /-- Scans in a row at or below EMPTY_MV while discharging, at most 3. [2; R753, 20; 0] -/
  low : Nat := 0
  /-- Scans in a row outside the sum tolerance, at most 10. [4; R736, 20; 0] -/
  sumBad : Nat := 0
  /-- Scans in a row within it, at most 10. [4; R736, 20; 0] -/
  sumGood : Nat := 0
  /-- SUM_MISMATCH. [1; R736, 20; 0] -/
  sumFlag : Bool := false
  /-- Charging is blocked by over-voltage. [1; R740, 20; 0] -/
  ovBlock : Bool := false
  /-- Charging is blocked by temperature. [1; R742, 20; 0] -/
  chgTBlock : Bool := false
  /-- OPEN taps. [17; R748, 20; none] -/
  open_ : List Nat := []
  /-- Taps to test; the first is under test. [list; R747 R749, 20; none] -/
  tests : List Nat := []
  /-- Taps whose signature awaits its test. [list; R745, 20; none] -/
  suspects : List Nat := []
  /-- Taps that fitted the signature in the last scan. [list; R746, 20; none] -/
  fits : List Nat := []
  /-- Results of tests since the last BAT_OPEN_WIRE_TEST: tap, OPEN, change in 0.1 mV. [list; Table 20-4, 20; none] -/
  results : List (Nat × (Bool × Int)) := []
  /-- Q_REM. [R735, 20; DESIGN CHOICE 0 (log 67)] -/
  q : Nat := 0
  /-- The state of charge is known. [1; R751, 20; unknown after OFF (R737)] -/
  known : Bool := false
  /-- SOC_STALE. [1; R737, 20; 0] -/
  stale : Bool := false
  /-- Q_REM is 0 while the string discharges. [1; R752, 20; 0] -/
  drifting : Bool := false
  /-- Rested. [1; R754, 20; 0] -/
  rested : Bool := false
  /-- A pass in progress: charge discharged and charged since the full mark. [R755, 20; none] -/
  pass : Option (Nat × Nat) := none
  /-- Cells chosen to bleed. [16; R758, 20; none] -/
  bleed : List Nat := []
  /-- Charging. [1; R760, 20; 0] -/
  charging : Bool := false
  /-- Updates of 100 ms in a row in which termination held. [R762, 20; 0] -/
  term : Nat := 0
  /-- Failed transactions with the charger in a row. [2; R763, 20; 0] -/
  fails : Nat := 0
  /-- CHARGER_FAULT. [1; R763, 20; 0] -/
  fault : Bool := false
  deriving DecidableEq, Repr

end Sys2Proof.Machine
end

