-- ==== Sys2Proof/Machine/StateCnt.lean ====
section
/-!
DEFINITION. Sys2Proof/Machine/StateCnt.lean: counter banks, the snapshot window and the test access port (ch 28).
-/
namespace Sys2Proof.Machine
open Sys2Proof

/-- A counter bank; key 0-7. -/
structure CntBank where
  /-- ON. [1; R987, 28; CW: OFF] -/
  on : Bool := false
  /-- GROUP. [8; R988, 28; CW: 0] -/
  group : Nat := 0
  /-- SCOPE. [16; R988, 28; CW: 0] -/
  scope : Nat := 0
  /-- COUNT and WRAPS of counters 0-63. [64 x (48 + 15); R990, 28; CW: 0] -/
  counts : List (Nat × (Nat × Nat)) := []
  deriving DecidableEq, Repr

/-- The result of a JTAG operation that the next Capture-DR returns (R1003). -/
structure DbgResult where
  /-- DATA. -/
  data : Nat
  /-- STATUS. -/
  status : Nat
  deriving DecidableEq, Repr

/-- Counters and debug. -/
structure Counting where
  /-- CNT0-CNT7. [8 banks; R987, 28; CW: OFF] -/
  banks : List (Nat × CntBank) := []
  /-- Snapshot window: key bank × 64 + counter, 64-bit entry. [512 x 64; Table 28-1, 28; CW: 0] -/
  window : List (Nat × Nat) := []
  /-- JTAG instruction register. [8; Table 28-4, 28; IEEE 1149.1 Test-Logic-Reset selects IDCODE 0x01 (PRESUMED, log 22)] -/
  ir : Nat := 1
  /-- A debug session is open. [1; R1002, 28; closed] -/
  session : Bool := false
  /-- DATA and STATUS that the next Capture-DR returns. [47; Table 28-5, 28; 0] -/
  dbg : DbgResult := ⟨0, 0⟩
  deriving DecidableEq, Repr

end Sys2Proof.Machine
end

