-- ==== Sys2Proof/Machine/StateLat.lean ====
section
/-!
DEFINITION. Sys2Proof/Machine/StateLat.lean: lattice links, vertex, link-state database, routes and the stack (ch 24, 25).
-/
namespace Sys2Proof.Machine
open Sys2Proof

/-- A sequenced frame that waits for its acknowledgement (R863, 24). -/
structure LatSeg where
  /-- Header byte 4 without NAK. -/
  head : Nat
  /-- FSEQ. -/
  fseq : Nat
  /-- VALID. -/
  valid : Nat
  /-- Data area. -/
  data : Bytes
  deriving DecidableEq, Repr

/-- A carriage that is being sent (R868, R869). -/
structure LatTx where
  /-- KIND. -/
  kind : Nat
  /-- Bytes still to be sent, the carriage header first. -/
  rest : Bytes
  /-- The next segment is the first. -/
  first : Bool
  /-- The EOP frame carries ABORT. -/
  abort : Bool
  deriving DecidableEq, Repr

/-- A carriage that is being received (R870). -/
structure LatRx where
  /-- KIND. -/
  kind : Nat
  /-- Bytes so far. -/
  bytes : Bytes
  /-- Caddies that hold it. -/
  bufs : List Nat
  deriving DecidableEq, Repr

/-- What a link counts in one window of 1 s (R875). -/
structure LatWindow where
  /-- Frames received. -/
  rx : Nat := 0
  /-- Bad frames. -/
  bad : Nat := 0
  /-- FCRC errors. -/
  fcrc : Nat := 0
  /-- Retransmissions. -/
  retx : Nat := 0
  deriving DecidableEq, Repr

/-- A lattice link; key 0-3. -/
structure LatLink where
  /-- Configuration block, Table 24-6; its byte 0 is not used. [24 bytes; R882, 24; CW:OTP LAT_LINK_CFG, BLANK Table 24-6] -/
  block : Bytes := [0, 1, 10, 4, 10, 0, 10, 0, 0x10, 0x27, 0, 4, 0x88, 0xB5, 0x0F, 0xFF, 0, 0, 0, 0, 0, 0, 5, 0]
  /-- COST. [16; R898, 25; CW: 10 in LANE, 40 in TUNNEL mode] -/
  cost : Nat := 10
  /-- State code of Table 24-3: 0 OFF, 1 DOWN, 2 TRAINING, 3 SEARCHING, 4 ALIGNED, 5 UP, 6 LOOPED. [8; R857, 24; CW: DOWN] -/
  st : Nat := 1
  /-- Candidate: bit offset modulo 2,048 and frames that passed. [R852, 24; none] -/
  cand : Option (Nat × Nat) := none
  /-- Aligned offset. [11; R852, 24; 0] -/
  offset : Nat := 0
  /-- Consecutive bad frames while ALIGNED. [4; R854, 24; 0] -/
  bad : Nat := 0
  /-- A failed training waits for its second (R858). [1; 24; false] -/
  retrain : Bool := false
  /-- A HELLO is due (R859). [1; 24; false] -/
  helloDue : Bool := false
  /-- SERIAL last received on the link; 0 for none. [64; Table 24-4, 24; 0] -/
  peerSerial : Nat := 0
  /-- LINK last received; 0xFF for none. [8; Table 24-4, 24; 0xFF] -/
  peerLane : Nat := 0xFF
  /-- Peer VERTEX_ID. [12; Table 24-9, 24; 0] -/
  peerVertex : Nat := 0
  /-- SERIAL that brought the link UP. [64; R862, 24; 0] -/
  upSerial : Nat := 0
  /-- FCNT of the next frame. [16; R850, 24; DESIGN CHOICE 0 (log 76)] -/
  fcnt : Nat := 0
  /-- FSEQ of the next sequenced frame. [12; R863, 24; 0] -/
  txSeq : Nat := 0
  /-- FSEQ expected next. [12; R864 R865, 24; 0] -/
  rxSeq : Nat := 0
  /-- NAK is set in every frame sent. [1; R865, 24; false] -/
  nak : Bool := false
  /-- ACK of the last NAK acted on. [12; R866, 24; none] -/
  lastNak : Option Nat := none
  /-- Replay buffer, oldest first. [1,024 frames; R863, 24; empty] -/
  replay : List LatSeg := []
  /-- Index of the next frame of a retransmission in progress. [R866, 24; none] -/
  resend : Option Nat := none
  /-- Consecutive expiries of REPLAY_US without progress. [4; R867, 24; 0] -/
  expiries : Nat := 0
  /-- The carriage being sent. [R851, 24; none] -/
  tx : Option LatTx := none
  /-- CTRL carriages that wait, header and message. [list; R851, 24; none] -/
  ctrlQ : List Bytes := []
  /-- DATA carriages that wait, with ABORT. [list; R851, 24; none] -/
  dataQ : List (Bytes × Bool) := []
  /-- The carriage being received. [R870, 24; none] -/
  rx : Option LatRx := none
  /-- Lattice frames queued for the next tunnel frame, bytes 4-255 of each. [32 x 252; R880, 24; none] -/
  batch : List Bytes := []
  /-- ACK and NAK of the last frame sent, for R880. [13; 24; none] -/
  sentAck : Option (Nat × Bool) := none
  /-- Counts of the window in progress. [R875, 24; 0] -/
  now : LatWindow := {}
  /-- Counts of the last window. [R875 Table 24-9, 24; 0] -/
  last : LatWindow := {}
  /-- DEGRADED. [1; R876, 24; false] -/
  degraded : Bool := false
  /-- Consecutive windows below half the threshold. [4; R876, 24; 0] -/
  calm : Nat := 0
  /-- HELLO frames of another VERSION. [Nat; R860, 24; DESIGN CHOICE 0 (log 76)] -/
  badHello : Nat := 0
  /-- DATA carriages discarded in HOLD and CTRL carriages discarded under R903. [Nat; R884, 24; R903, 25; DESIGN CHOICE 0 (log 76)] -/
  discarded : Nat := 0
  deriving DecidableEq, Repr

/-- A route (R897, 25). -/
structure LatRoute where
  /-- Vertex ID. -/
  id : Nat
  /-- First link. -/
  link : Nat
  /-- Total cost. -/
  cost : Nat
  /-- Hops. -/
  hops : Nat
  /-- Serial of the device that holds the ID. -/
  serial : Nat
  deriving DecidableEq, Repr

/-- A handover on this device (R916-R928, 25). -/
structure LatHandover where
  /-- PHASE of Table 25-7: 0 none, 1 PREPARE, 2 STOP, 3 SWITCH, 4 RELEASE, 5 done, 6 aborted. [8; R916, 25; 0] -/
  phase : Nat := 0
  /-- This device is the source. [1; R916, 25; false] -/
  source : Bool := false
  /-- Vertex of the other device. [12; Table 25-7, 25; 0] -/
  peer : Nat := 0
  /-- The joining link. [2; R917 R920, 25; 0] -/
  link : Nat := 0
  /-- PLANT. [1; R926, 25; false] -/
  plant : Bool := false
  /-- Microsecond at which STOP began. [R921, 25; 0] -/
  stopAt : Nat := 0
  /-- States of the tenants before STOP. [16 x 2; R922 R923, 25; none] -/
  states : List Nat := []
  /-- The target has applied the static state (source). [1; Table 25-3, 25; false] -/
  ready : Bool := false
  /-- The final copy has been sent (source). [1; R921, 25; false] -/
  sent : Bool := false
  /-- The target has applied the final copy (source). [1; R922, 25; false] -/
  applied : Bool := false
  /-- The final copy (target). [Table 25-4, 25; none] -/
  final : Option HoFinal := none
  /-- The ports that RELEASE took down stay so until a command (R925). [1; 25; false] -/
  held : Bool := false
  /-- What the signal engine does at its next boundary: 0 nothing, 1 START, 2 STOP. [2; R926, 25; 0] -/
  engine : Nat := 0
  /-- Bytes copied in PREPARE, in KiB. [32; Table 25-7, 25; 0] -/
  kib : Nat := 0
  /-- Bytes copied in STOP. [32; Table 25-7, 25; 0] -/
  bytes : Nat := 0
  /-- Pause in µs. [32; Table 25-7, 25; 0] -/
  pause : Nat := 0
  /-- Connections moved. [16; Table 25-7, 25; 0] -/
  moved : Nat := 0
  /-- Connections closed under R924. [16; Table 25-7, 25; 0] -/
  closed : Nat := 0
  /-- Work items aborted under R921. [32; Table 25-7, 25; 0] -/
  aborted : Nat := 0
  deriving DecidableEq, Repr

/-- The lattice interface. -/
structure Lattice where
  /-- Links 0-3. [4; R845, 24; CW: DOWN] -/
  links : List (Nat × LatLink) := []
  /-- Vertex mode: 0 clear, 1 STATIC, 2 AUTO. [8; R887 Table 25-5, 25; CW:OTP LAT_VERTEX, BLANK AUTO] -/
  mode : Nat := 2
  /-- VERTEX of the STATIC mode. [12; Table 25-5, 25; CW:OTP, BLANK 0] -/
  fixed : Nat := 0
  /-- Vertex ID, 0 while unassigned. [12; R887, 25; CW: 0] -/
  id : Nat := 0
  /-- 0 UNASSIGNED, 1 CLAIMING, 2 HELD. [2; R887, 25; CW: 0] -/
  vst : Nat := 0
  /-- Alias, 0 for none. [12; R923 R928, 25; CW: 0] -/
  alias_ : Nat := 0
  /-- LSAs by serial, this device's own among them. [4,095 x 72 bytes; R892 R895, 25; CW: empty] -/
  lsdb : List (Nat × Bytes) := []
  /-- SEQ of the own LSA. [32; R892, 25; DESIGN CHOICE 0 (log 76)] -/
  seq : Nat := 0
  /-- An own LSA is to be originated. [1; R892, 25; false] -/
  lsaDue : Bool := false
  /-- Microsecond of the last own LSA. [R892, 25; none] -/
  lsaAt : Option Nat := none
  /-- Routes. [4,095; R897, 25; CW: none] -/
  routes : List LatRoute := []
  /-- Stack configuration: the 80 bytes of JOIN; [] for none. [80 bytes; R906, 25; CW:OTP LAT_STACK_CFG, BLANK none] -/
  stack : Bytes := []
  /-- ROLE: 0 none, 1 member, 2 leader. [8; R909, 25; CW: 0] -/
  role : Nat := 0
  /-- Serial of the leader. [64; R909, 25; none] -/
  leader : Option Nat := none
  /-- Serials of the partition. [list; R908, 25; none] -/
  partition : List Nat := []
  /-- Aggregates bound to the stack. [4; R913, 25; none] -/
  bound : List Nat := []
  /-- Received CTRL carriages that wait for their handling: link, carriage, caddies. [list; R874 R893 R920; none] -/
  inbox : List (Nat × Bytes × List Nat) := []
  /-- The handover. -/
  ho : LatHandover := {}
  deriving DecidableEq, Repr

end Sys2Proof.Machine
end

