-- ==== Sys2Proof/Machine/StateLbl.lean ====
section
/-!
DEFINITION. Sys2Proof/Machine/StateLbl.lean: the shelf label (ch 22).
-/
namespace Sys2Proof.Machine
open Sys2Proof

/-- Who asks for a device-side transaction of the label. -/
inductive LblUse where
  /-- Warden core n through the LBL registers (R813). -/
  | warden (core : Nat)
  /-- The identity write (R815). -/
  | ident
  /-- Records of the mirror from record r on, n of them (R816). -/
  | mirror (r n : Nat)
  /-- The identity record that ends a mirror (R816). -/
  | mirrorEnd
  /-- A mailbox reply (R819). -/
  | mailbox
  deriving DecidableEq, Repr

/-- A device-side transaction of the label. -/
structure LblJob where
  /-- Who asks. -/
  use : LblUse
  /-- First byte. -/
  addr : Nat
  /-- Bytes to write; empty for a read. -/
  data : Bytes := []
  /-- Blocks to read. -/
  count : Nat := 0
  /-- The transaction has been accepted and its write runs (R811). -/
  running : Bool := false
  /-- Microsecond since which it has been deferred (R809). -/
  since : Option Nat := none
  deriving DecidableEq, Repr

/-- The shelf label. -/
structure Label where
  /-- The memory of 2,048 blocks of 4 bytes; an unlisted byte is 0. [8192 x 8; R801, 22; non-volatile: DESIGN CHOICE zeros before the first power-up (log 72)] -/
  mem : Mem := []
  /-- Locked blocks, rising. [2048; R806, 22; non-volatile: none] -/
  locked : List Nat := []
  /-- A reader's field is present: LBL_STAT.FIELD. [1; Table 22-4, 22; CW:0, reader: DESIGN CHOICE absent (log 72)] -/
  field : Bool := false
  /-- State of ISO/IEC 15693: 0 ready, 1 quiet, 2 selected. [2; R803, 22; no field: ready (PRESUMED, log 73)] -/
  tag : Nat := 0
  /-- Microsecond at which the running field transaction ends. [R807 R808, 22; none] -/
  fieldEnd : Nat := 0
  /-- Device-side transactions in order; only the first can run. [list; R808 R809, 22; CW: none] -/
  jobs : List LblJob := []
  /-- LBL_ADDR.BLOCK. [11; Table 22-4, 22; CW: 0] -/
  block : Nat := 0
  /-- LBL_ADDR.COUNT. [7; Table 22-4, 22; CW: 0] -/
  count : Nat := 0
  /-- LBL_STAT.STATUS. [15; Table 22-4, 22; CW: 0] -/
  status : Nat := 0
  /-- LBL_STAT.DONE. [1; Table 22-4, 22; CW: 1] -/
  done : Bool := true
  /-- LBL_BUF. [256 bytes; Table 22-4, 22; CW: 0] -/
  buf : Bytes := zeros 256
  /-- Microseconds of the wrong wake codes of the last 60 s. [list; R822, 22; none] -/
  wrong : List Nat := []
  /-- Microsecond until which every WAKE is answered with BAD_CODE. [R822, 22; none] -/
  barred : Nat := 0
  /-- RTC seconds of a wake by the field whose FIELD_WAKE is still to be written. [32; R821 Table 22-6, 22; none] -/
  wokeAt : Option Nat := none
  /-- A mirror waits for the label: the microsecond at which step 2 started. [R816, 22; none] -/
  mirrorAt : Option Nat := none
  /-- Records of the mirror written so far. [7; R816, 22; 0] -/
  mirrored : Nat := 0
  deriving DecidableEq, Repr

end Sys2Proof.Machine
end

