-- ==== Sys2Proof/Machine/StateLcy.lean ====
section
/-!
DEFINITION. Sys2Proof/Machine/StateLcy.lean: OTP, the boot flash, the image store and secure boot (ch 26).
-/
namespace Sys2Proof.Machine
open Sys2Proof

/-- The OTP array (Table 26-3). -/
structure Otp where
  /-- The 8,192 bytes; unlisted bytes are unprogrammed, 0. [8192 x 8; R938 Table 26-3, 26; non-volatile: as Dvoreimor ships it, BLANK with REVISION
  0xB0 and GRADE 0x53, SERIAL DESIGN CHOICE 0 (log 70)] -/
  mem : Mem := [(8, 0x53), (9, 0xB0)]
  /-- MODEL's own: addresses of slots whose programming failed its read-back. [list; R940, 26; DESIGN CHOICE none (log 71)] -/
  failed : List Nat := []
  deriving DecidableEq, Repr

/-- The fields of a boot record copy (Table 26-8). -/
structure BootRec where
  /-- SEQ. [32; Table 26-8, 26] -/
  seq : Nat := 0
  /-- ACTIVE, 0 A or 1 B. [8; Table 26-8, 26] -/
  active : Nat := 0
  /-- TRIAL, 0, 1 or 0xFF for none. [8; Table 26-8, 26] -/
  trial : Nat := 0xFF
  /-- TRIES_LEFT. [8; Table 26-8, 26] -/
  tries : Nat := 0
  /-- CONFIRM_S. [32; Table 26-8, 26] -/
  confirm : Nat := 0
  deriving DecidableEq, Repr

/-- The boot flash on select 1 of the expansion port (R948). -/
structure Flash where
  /-- Slots A and B from their first byte on, erased beyond. [2 x 2 MiB; R948 Table 26-8, 26; board: DESIGN CHOICE erased (log 70)] -/
  slots : List Bytes := [[], []]
  /-- The two boot record copies; none when it holds no valid record. [2 x 64 bytes; R949 Table 26-8, 26; board: DESIGN CHOICE none (log 70)] -/
  recs : List (Option BootRec) := [none, none]
  deriving DecidableEq, Repr

/-- The life-cycle controller. -/
structure Lcy where
  /-- BOOT_DONE. [1; R951 R937, 26; CW: 0] -/
  bootDone : Bool := false
  /-- ROM service runs. [1; R937, 26; CW: 0] -/
  rom : Bool := false
  /-- Running slot, 0 A or 1 B. [8; Table 26-10, 26; CW: none] -/
  running : Option Nat := none
  /-- SVN of the running image. [8; Table 26-10, 26; CW: 0] -/
  svn : Nat := 0
  /-- TRUST_GEN of the running image. [8; Table 26-10, 26; CW: 0] -/
  gen : Nat := 0
  /-- The last boot fell back to the other slot. [1; Table 26-10, 26; CW: 0] -/
  fallback : Bool := false
  /-- A trial runs. [1; R957, 26; CW: 0] -/
  trial : Bool := false
  /-- Microsecond at which the confirm timer expires. [R957, 26; CW: not armed] -/
  confirmEnd : Option Nat := none
  /-- The boot record in force. [R949, 26; ACTIVE A and no trial] -/
  rec_ : BootRec := {}
  /-- NONCE. [8 bytes; R947, 26; drawn at every C and W: DESIGN CHOICE zeros before the first] -/
  nonce : Bytes := zeros 8
  /-- The two halves of the image store. [2 x 2 MiB; R952, 26; C: lost, W: kept] -/
  halves : List Bytes := [[], []]
  /-- States of slots A and B: 0 empty, 1 valid, 2 invalid, 3 loading. [2 x 8; Table 26-9, 26; C: empty until the boot] -/
  slotSt : List Nat := [0, 0]
  /-- The slot whose half waits to be written into flash. [R955, 26; C: none, W: kept] -/
  pendSlot : Option Nat := none
  /-- A boot record that waits to be written into flash. [R955, 26; C: none, W: kept] -/
  pendRec : Option BootRec := none
  /-- Microsecond of step 8 of power-up. [Table 26-11, 26; CW: 0] -/
  step8 : Nat := 0
  deriving DecidableEq, Repr

end Sys2Proof.Machine
end

