-- ==== Sys2Proof/Machine/StateOut.lean ====
section
/-!
DEFINITION. Sys2Proof/Machine/StateOut.lean: the outward effects: what the device puts on its interfaces.
-/
namespace Sys2Proof.Machine
open Sys2Proof

/-- What the device puts on an interface, in the order in which it does so (log 4). Function 0-63 is VF n, 127 is PF0. -/
inductive Emission where
  /-- An MSI-X message: function, vector, address, data (R220, 06). -/
  | msix (fn vec addr data : Nat)
  /-- A DMA write to host memory through the function's requester (R223, 06). -/
  | dmaWrite (fn addr : Nat) (bytes : Bytes)
  /-- A DMA read request: function, address, length, tag (R227, 06). -/
  | dmaRead (fn addr len tag : Nat)
  /-- The data that a register or memory read returns to its reader. -/
  | readData (reader : Nat) (bytes : Bytes)
  /-- The completion of a configuration request: function, status (0 SC, 1 UR, 2 CRS), data (R203, 06). -/
  | cfgReply (fn status data : Nat)
  /-- An ATS invalidation completion (R232, 06). -/
  | atsDone (fn tag : Nat)
  /-- A frame sent at an egress point, with its FCS (R358, 10); the Bool says that the FCS is inverted (R421, 11). -/
  | frame (point : Nat) (bytes : Bytes) (stomped : Bool)
  /-- A lattice frame sent on a link, 256 bytes (R850, 24). -/
  | latFrame (link : Nat) (bytes : Bytes)
  /-- A frame sent on the plant bus (R789, 21): identifier, flags 1 IDE, 2 FDF, 4 BRS, and data. -/
  | canFrame (ident flags : Nat) (bytes : Bytes)
  /-- A response of the label to its reader (R803, 22). -/
  | labelReply (bytes : Bytes)
  /-- Bytes driven on the expansion port to the BMC or a target (ch 23). -/
  | xspOut (bytes : Bytes)
  /-- A message of a handover, in carriages of TYPE 0x14 and 0x15 on a link (R920, 25). -/
  | handover (link : Nat) (msg : HoMsg)
  /-- A PMBus transaction: address, command, data (R122, 04). -/
  | pmbus (addr cmd data : Nat)
  /-- A warden's device-space access leaves its core (R678, 18). -/
  | deviceAccess (core : Nat) (addr : Nat) (write : Bool) (data : Nat)
  /-- Bits captured into a JTAG data register (R1003, 28). -/
  | jtag (width value : Nat)
  deriving DecidableEq, Repr

end Sys2Proof.Machine
end

