-- ==== Sys2Proof/Machine/StatePce.lean ====
section
/-!
DEFINITION. Sys2Proof/Machine/StatePce.lean: the PCIe endpoint (ch 06).
-/
namespace Sys2Proof.Machine
open Sys2Proof

/-- What one function's configuration space holds that the device acts on (Table 06-1, Table 06-2). Key 0-63 VF n, 127 PF0. -/
structure PciFn where
  /-- Bus Master Enable. [1; R223 R225 R1044, 06; C W conventional reset F: 0] -/
  bme : Bool := false
  /-- Memory Space Enable. [1; Table 06-2, 06; 0] -/
  mse : Bool := false
  /-- MSI-X Enable. [1; R220, 06; 0] -/
  msixEn : Bool := false
  /-- MSI-X Function Mask. [1; R220, 06; 0] -/
  msixMask : Bool := false
  /-- Enable Relaxed Ordering. [1; R234, 06; PRESUMED 1 (PCIe default, log 20)] -/
  relaxed : Bool := true
  /-- Max Payload Size in bytes. [16; R233, 06; PRESUMED 128 (PCIe default, log 20)] -/
  mps : Nat := 128
  /-- Max Read Request Size in bytes. [16; R233, 06; PRESUMED 512 (PCIe default, log 20)] -/
  mrrs : Nat := 512
  /-- Completion Timeout Value. [4; R228, 06; PRESUMED 0 (PCIe default, log 20)] -/
  ctoValue : Nat := 0
  /-- D3hot. [1; R211, 06; D0] -/
  d3hot : Bool := false
  /-- ATS Enable. [1; R231, 06; 0] -/
  atsEn : Bool := false
  /-- TPH Requester Enable. [1; R235, 06; 0] -/
  tphEn : Bool := false
  /-- BAR base addresses, BAR0 and BAR2 (for PF0), 0 unassigned. [64; Table 06-3, 06; 0] -/
  bars : List Nat := [0, 0]
  /-- An FLR of the function is in progress. [1; R208, 06; false] -/
  flr : Bool := false
  deriving DecidableEq, Repr

/-- One MSI-X vector (R220; key function × 64 + vector). -/
structure MsixVec where
  /-- Message address. [64; Table 06-3, 06; 0] -/
  addr : Nat := 0
  /-- Message data. [32; Table 06-3, 06; 0] -/
  data : Nat := 0
  /-- Vector mask. [1; R220, 06; PRESUMED 1 (PCIe MSI-X default, log 20)] -/
  masked : Bool := true
  /-- Steering tag of the vector (R235). [16; 06; 0] -/
  st : Nat := 0
  /-- Pending bit. [1; R220, 06; 0] -/
  pending : Bool := false
  deriving DecidableEq, Repr

/-- What a DMA read serves. -/
inductive ReadUse where
  /-- An entry fetch of a ring (R283, 08). -/
  | fetch (key : Nat)
  /-- A poll read of a ring header (R278, 08). -/
  | poll (key : Nat)
  /-- A read of a work item's buffers. -/
  | data (key seq : Nat)
  deriving DecidableEq, Repr

/-- A DMA read that is outstanding (R227, R233). -/
structure DmaRead where
  /-- Tag. -/
  tag : Nat
  /-- Function. -/
  fn : Nat
  /-- First address of the transfer. -/
  addr : Nat
  /-- Length. -/
  len : Nat
  /-- What it serves. -/
  use : ReadUse
  deriving DecidableEq, Repr

/-- The endpoint. -/
structure Pce where
  /-- Link speed code 1-5, 0 down (MGT_LINK.SPEED). [4; Table 06-4, 06; CW:0] -/
  speed : Nat := 0
  /-- Link width 1, 4, 8, 16, 0 down (MGT_LINK.WIDTH). [5; Table 06-4, 06; CW:0] -/
  width : Nat := 0
  /-- WIDTH_REDUCED. [1; R237, 06; CW, conventional reset: 0] -/
  reduced : Bool := false
  /-- PARTNER_UPCFG. [1; Table 06-4, 06; CW:0] -/
  upcfg : Bool := false
  /-- Width trained before HOLD. [5; R237, 06; 0] -/
  preHold : Nat := 0
  /-- Training runs. [1; R202, 06; false] -/
  training : Bool := false
  /-- The microsecond at which training last started (R203). [time; 06; CW: 0] -/
  trainedAt : Nat := 0
  /-- PERST_N is asserted. [1; R202 R207, 06; board: DESIGN CHOICE asserted (log 6)] -/
  perst : Bool := true
  /-- A conventional reset is in progress (R207). [1; 06; false] -/
  convReset : Bool := false
  /-- MGT_EVENT. [6; Table 06-5, 06; CW:0, F of PF0: 0] -/
  event : Nat := 0
  /-- MGT_EVENT_EN. [6; Table 06-5, 06; CW:0, F of PF0: 0] -/
  eventEn : Nat := 0
  /-- MGT_DMAF_ADDR. [64; Table 06-6, 06; CW:0, F of PF0: 0] -/
  dmafAddr : Nat := 0
  /-- MGT_DMAF_INFO. [32; Table 06-6, 06; CW:0, F of PF0: 0] -/
  dmafInfo : Nat := 0
  /-- MGT_DMAF_LEN. [32; Table 06-6, 06; CW:0, F of PF0: 0] -/
  dmafLen : Nat := 0
  /-- MGT_DMAF_COUNT. [32; Table 06-6, 06; CW:0, F of PF0: 0] -/
  dmafCount : Nat := 0
  /-- MGT_SCRATCH. [32; Table 06-6, 06; CW:0] -/
  scratch : Nat := 0
  /-- Configuration space of the functions. [table; R207 R212, 06; C W conventional reset: defaults] -/
  fns : List (Nat × PciFn) := []
  /-- MSI-X table and PBA. [2,048 entries; R219 R220, 06; defaults] -/
  msix : List (Nat × MsixVec) := []
  /-- VF Enable. [1; R210, 06; 0] -/
  vfEnable : Bool := false
  /-- NumVFs. [16; R210, 06; 0] -/
  numVfs : Nat := 0
  /-- System Page Size in bytes. [32; R218, 06; PRESUMED 4,096 (SR-IOV default, log 20)] -/
  pageSize : Nat := 4096
  /-- VF BAR0 and VF BAR2 bases. [64 each; R217, 06; 0] -/
  vfBars : List Nat := [0, 0]
  /-- DMA reads outstanding. [at most 768; R233, 06; none] -/
  reads : List DmaRead := []
  /-- Tag that the next read carries. [10; R233, 06; DESIGN CHOICE 0 (log 6)] -/
  nextTag : Nat := 0
  /-- Translation cache entries (function, page). [at most 4,096, 512 per function; R232, 06; none] -/
  atc : List (Nat × Nat) := []
  /-- PCE_SSVID. [16; Table 06-1, 06; CW:OTP, BLANK 0] -/
  ssvid : Nat := 0
  /-- PCE_SSID. [16; Table 06-1, 06; CW:OTP, BLANK 0] -/
  ssid : Nat := 0
  deriving DecidableEq, Repr

end Sys2Proof.Machine
end

