-- ==== Sys2Proof/Machine/StatePower.lean ====
section
/-!
DEFINITION. Sys2Proof/Machine/StatePower.lean: the always-on domain, the power manager, the 148 domains, clocks,
housekeeping and DDR5 (ch 04, 05, 02, 27, 29).
-/
namespace Sys2Proof.Machine
open Sys2Proof

/-- The always-on domain. It survives every reset but the loss of its own supply (Table 02-2, 02; R145, 04). -/
structure Aon where
  /-- AON is powered. [1; R116 R145, 04; the device is OFF before POWER_ON: false (DESIGN CHOICE, log 5)] -/
  powered : Bool := false
  /-- RTC seconds. [32; R145 R163, 04; R145: 0] -/
  rtcSec : W32 := 0
  /-- Sub-second count in 1/32,768 s. [15; Table 04-13, 04; R145: 0] -/
  rtcSub : Nat := 0
  /-- MODEL's own: remainder when microseconds are turned into 1/32,768 s. [Nat; not the spec's; DESIGN CHOICE 0 (log 2)] -/
  rtcAcc : Nat := 0
  /-- RTC_LOST. [1; R145 R163, 04; R145: 1] -/
  rtcLost : Bool := true
  /-- VIN_OK holds. [1; R120, 04; OFF: false] -/
  vinOk : Bool := false
  /-- The pending wake, a cause of Table 04-15. [8; R120 R140, 04; none in OFF] -/
  wakePending : Option Nat := none
  /-- WAKE_CAUSE as PWR_STATE_GET reports it. [8; R142 Table 04-15, 04; DESIGN CHOICE 0 (log 1)] -/
  wakeCause : Nat := 0
  /-- Wake mask, bits as in Table 04-7. [4; R139, 04; DESIGN CHOICE 0 (log 1)] -/
  wakeMask : Nat := 0
  /-- RTC_ALARM, 0 for none. [32; R139 Table 04-13, 04; DESIGN CHOICE 0 (log 1)] -/
  rtcAlarm : Nat := 0
  /-- Commit mark of SHELF entry. [1; R139 R140, 04; not written] -/
  commitMark : Bool := false
  /-- IBC_FAIL latch. [1; R123, 04; not latched] -/
  ibcFail : Bool := false
  /-- CLK_FAIL latch with the detail of its CLOCK_FAULT, 0 crystal or 1 PLL. [1+8; R169-R171, 05; not latched] -/
  clkFail : Option Nat := none
  /-- A C with cause 0x02 stands latched until the next power-up (R119, R142). [1; 04; false] -/
  brownOut : Bool := false
  /-- Domains whose fence flag is set, rising. [148; R155, 04; R966, 27: none before a fence] -/
  fence : List Nat := []
  /-- Shed VCORE phases, rising. [8; R981, 27; none] -/
  phaseShed : List Nat := []
  /-- SPENT DRAM devices as channel × 256 + device, rising. [list; R979, 27; none] -/
  ddrSpent : List Nat := []
  /-- PLANT_STOP_N latch asserted. [1; R779, 21; set when AON powers on] -/
  stopLatch : Bool := true
  /-- Cause of the stop latch. [8; R779 Table 21-3, 21; 0] -/
  stopCause : Nat := 0
  /-- BAT_DSG_EN output. [1; R744, 20; low at AON power-on] -/
  dsgEn : Bool := false
  /-- BAT_CHG_EN output. [1; R744, 20; low at AON power-on] -/
  chgEn : Bool := false
  /-- DSG_BLOCK set by a voltage. [1; R741 R756, 20; false] -/
  dsgVolt : Bool := false
  /-- DSG_BLOCK set by a temperature. [1; R742 R756, 20; false] -/
  dsgTemp : Bool := false
  /-- What the battery string keeps. -/
  bat : BatKeep := {}
  /-- OCD latch. [1; R743, 20; false] -/
  ocdLatch : Bool := false
  deriving DecidableEq, Repr

/-- The power states of Table 04-4, with the power-up sequence between SHELF and the boot state. -/
inductive PowerState where
  /-- OFF: VIN too low for AON. -/
  | off
  /-- SHELF: AON alone. -/
  | shelf
  /-- Power-up and secure boot (Table 04-3). -/
  | boot
  /-- HOLD. -/
  | hold
  /-- TRIM. -/
  | trim
  /-- RUN. -/
  | run
  deriving DecidableEq, Repr

/-- How far a transition toward HOLD or SHELF has come. -/
inductive TransPhase where
  /-- The drain runs (R131). -/
  | drain
  /-- HOLD is reached and the SHELF reply is still to be delivered (R160). -/
  | held
  /-- Steps 2-3 of SHELF entry may run (R139). -/
  | entry
  /-- The commit mark is written; rails are falling (R140). -/
  | falling
  deriving DecidableEq, Repr

/-- A transition in progress (R128, R1043, 04). -/
structure Transition where
  /-- Phase. -/
  phase : TransPhase
  /-- The target is SHELF, not HOLD. -/
  toShelf : Bool
  /-- Cause code of the STATE_CHANGE record (Table 04-16). -/
  cause : Nat
  /-- Cause code of the record for SHELF, that of the last call for SHELF. -/
  shelfCause : Nat := 0
  /-- The hold limit started this SHELF entry (R135, R140). -/
  fromLimit : Bool := false
  /-- Wake mask the entry arms. -/
  mask : Nat := 0
  /-- RTC alarm the entry arms. -/
  alarm : Nat := 0
  /-- DRAIN_MS of the drain, the least of those that joined. -/
  drainMs : Nat := 0
  /-- State code the transition left. -/
  from_ : Nat := 0
  /-- The mirror of step 2: 0 to be made, 1 waiting for the label, 2 made or given up (R816, 22). -/
  mirror : Nat := 0
  deriving DecidableEq, Repr

/-- A call for a transition that waits behind another (R1043, 04). -/
structure TransCall where
  /-- Target state code of Table 03-10. -/
  target : Nat
  /-- Cause of Table 04-16. -/
  cause : Nat
  /-- Wake mask for SHELF. -/
  mask : Nat := 0
  /-- RTC alarm for SHELF. -/
  alarm : Nat := 0
  /-- DRAIN_MS. -/
  drainMs : Nat := 200
  deriving DecidableEq, Repr

/-- A rail with its converter (Table 04-2, Table 04-14, 04). -/
structure Rail where
  /-- PMBus address of its converter, 0 for VCORE. [7; Table 04-14, 04; BLANK: ch 26] -/
  addr : Nat := 0
  /-- Set value in mV. [16; R121 R162, 04; BLANK nominal] -/
  mv : Nat := 0
  /-- Consecutive failed PMBus transactions. [2; R125, 04; 0] -/
  fails : Nat := 0
  deriving DecidableEq, Repr

/-- The power manager and the HV island. -/
structure Pmc where
  /-- Power state. [enum; R127, 04; OFF (log 5)] -/
  st : PowerState := .off
  /-- Transition in progress. [R128 R1043, 04; none] -/
  trans : Option Transition := none
  /-- Calls that wait, oldest first. [list; R1043, 04; none] -/
  calls : List TransCall := []
  /-- Step of Table 04-3 that ended last. [4; R122, 04; 0] -/
  upStep : Nat := 0
  /-- IB_EN. [1; R119 R122, 04; low] -/
  ibEn : Bool := false
  /-- Failed IBC attempts since the wake. [4; R123, 04; 0] -/
  ibcTries : Nat := 0
  /-- Rails VIB, VIO18, VCORE, VSRAM, VSERDES, VDDQ0, VDDQ1. [7 rails; Table 04-2, 04; CW:OTP, BLANK Table 26-4] -/
  rails : List Rail := [⟨0x10, 12000, 0⟩, ⟨0x15, 1800, 0⟩, ⟨0, 750, 0⟩, ⟨0x11, 850, 0⟩, ⟨0x12, 900, 0⟩, ⟨0x13, 1100, 0⟩, ⟨0x14, 1100, 0⟩]
  /-- PHASES fitted. [4; Table 04-14, 04; CW:OTP, BLANK 8] -/
  phases : Nat := 8
  /-- ILIM per phase in A. [16; Table 04-14, 04; CW:OTP, BLANK 40] -/
  ilim : Nat := 40
  /-- VCORE phases driven now. [4; R126, 04; DESIGN CHOICE 1 (log 6)] -/
  phasesOn : Nat := 1
  /-- PFAIL. [1; R134, 04; false] -/
  pfail : Bool := false
  /-- VIN_OV flag. [1; R118, 04; false] -/
  vinOv : Bool := false
  /-- VIN_LOW flag. [1; R138, 04; false] -/
  vinLow : Bool := false
  /-- Last measured VIN in 10 mV. [16; Table 04-13, 04; 0] -/
  vin : Nat := 0
  /-- Last measured VBUS_SNS in 10 mV. [16; Table 04-13, 04; 0] -/
  vbus : Nat := 0
  /-- Microsecond at which the grace timer expires. [R134, 04; not running] -/
  graceEnd : Option Nat := none
  /-- Microsecond at which the hold limit expires. [R135, 04; not running] -/
  limitEnd : Option Nat := none
  /-- The grace timer has expired and HOLD is being entered by hold-up (R136). [1; 04; false] -/
  holdupDrain : Bool := false
  /-- HOLD was reached by hold-up: the state held before it. [code; R136, 04; none] -/
  holdBy : Option Nat := none
  /-- PFAIL_MV. [16; Table 04-14, 04; CW:OTP, BLANK 44,000] -/
  pfailMv : Nat := 44000
  /-- AUTO_RESUME. [1; Table 04-14, 04; CW:OTP, BLANK 1] -/
  autoResume : Bool := true
  /-- GRACE_MS. [32; Table 04-14, 04; CW:OTP, BLANK 5,000] -/
  graceMs : Nat := 5000
  /-- HOLD_LIMIT_S. [32; Table 04-14, 04; CW:OTP, BLANK 600] -/
  holdLimitS : Nat := 600
  /-- DRAIN_MS of the last accepted PWR_STATE_SET to HOLD or SHELF. [16; R131, 04; 200] -/
  drainMs : Nat := 200
  /-- Boot state, 0x01 RUN or 0x03 HOLD. [8; R129, 04; CW:OTP, BLANK RUN] -/
  bootState : Nat := 1
  /-- XSP_MODE strap level on the pin, 1 for TARGET. [1; R824 R1017, 29; board: DESIGN CHOICE MASTER, 0 (log 6)] -/
  strapPin : Bool := false
  /-- Last DOMAIN_FAULT of a domain: domain and microsecond. [R972, 27; CW: none (DEDUCED, log 84)] -/
  faults : List (Nat × Nat) := []
  /-- An engine swap that waits for its spare: domains OUT and IN, ACTION. [R976, 27; none] -/
  swap : Option (Nat × Nat × Nat) := none
  /-- WAKE_N is low. [1; Table 04-7, 04; DESIGN CHOICE high, false (log 6)] -/
  wakeNLow : Bool := false
  deriving DecidableEq, Repr

/-- Domain states (Table 04-9, 04). -/
inductive DomState where
  /-- Powered and clocked, 0x01. -/
  | on
  /-- Held at retention voltage, 0x02. -/
  | ret
  /-- Off by power policy, 0x03. -/
  | gated
  /-- Held in reserve by repair, 0x04. -/
  | spare
  /-- Off by repair, 0x05. -/
  | fenced
  deriving DecidableEq, Repr

/-- One of the 148 domains. -/
structure Domain where
  /-- State. [3; Table 04-9 R147, 04; GATED in OFF (DESIGN CHOICE, log 5)] -/
  st : DomState := .gated
  /-- Cause that PWR_DOMAIN_GET reports. [8; Table 04-13, 04; 1 power state] -/
  cause : Nat := 1
  /-- A switch toward ON is in progress, its wipe included. [1; R149, 04; false] -/
  switchingOn : Bool := false
  /-- A switch toward GATED is in progress. [1; R149, 04; false] -/
  switchingOff : Bool := false
  /-- Override by PWR_DOMAIN_SET: true FORCE_ON, false FORCE_GATE. [2; R157, 04; AUTO] -/
  forced : Option Bool := none
  deriving DecidableEq, Repr

/-- Clocks. -/
structure Ckg where
  /-- The crystal runs. [1; R168, 05; false in OFF] -/
  xtal : Bool := false
  /-- The root PLL is locked. [1; R168, 05; false in OFF] -/
  pll : Bool := false
  /-- ETH_REFCLK is present. [1; R172, 05; DESIGN CHOICE present (log 6)] -/
  ethRef : Bool := true
  /-- The PCIe reference is present. [1; R172, 05; DESIGN CHOICE present (log 6)] -/
  pcieRef : Bool := true
  /-- DDR PHY PLLs that have lost lock and relock now. [2; R173, 05; none] -/
  relocking : List Nat := []
  /-- DDR PHY PLLs that failed to relock. [2; R173, 05; none] -/
  unlocked : List Nat := []
  /-- Applied trim in 0.01 ppm. [16 signed; R167, 05; 0 at a C] -/
  trim : Int := 0
  /-- Band of the target trim. [3; R167 Table 05-5, 05; DESIGN CHOICE B1 before the initial band (log 6)] -/
  trimBand : Nat := 1
  /-- CKG_TRIM_B0-B4. [5 x 16 signed; R166, 05; CW:OTP, BLANK 0] -/
  trims : List Int := [0, 0, 0, 0, 0]
  deriving DecidableEq, Repr

/-- A rate-of-rise threshold: rate in 0.01 °C/s (0 disabled), window 0 for 1 s or 1 for 10 s. -/
structure Ror where
  /-- RATE. -/
  rate : Nat
  /-- WINDOW. -/
  win : Nat
  deriving DecidableEq, Repr

/-- WARN, ACT, TRIP thresholds and THERM_CAP_PCT. -/
structure Thresholds where
  /-- WARN. [R195, 05; BLANK 100 over 10 s] -/
  warn : Ror := ⟨100, 1⟩
  /-- ACT. [R195, 05; BLANK 200 over 10 s] -/
  act : Ror := ⟨200, 1⟩
  /-- TRIP. [R195, 05; BLANK 500 over 1 s] -/
  trip : Ror := ⟨500, 0⟩
  /-- THERM_CAP_PCT. [R195, 05; BLANK 50] -/
  cap : Nat := 50
  deriving DecidableEq, Repr

/-- Housekeeping. -/
structure Hkp where
  /-- Number of the round published last. [32; Table 05-5, 05; CW: 0] -/
  round : Nat := 0
  /-- Rounds started since the last C or W. [32; R177, 05; CW: 0] -/
  started : Nat := 0
  /-- Channels converted in the running round. [6; R175, 05; 32: no round running] -/
  conv : Nat := 32
  /-- Values converted so far in the running round. [32 x 16; R175, 05; none] -/
  raw : List Nat := []
  /-- Published values. [32 x 16; R175 R197, 05; zeros] -/
  chan : List Nat := List.replicate 32 0
  /-- Published zone estimates in 0.01 °C. [16 x 16 signed; R178, 05; zeros] -/
  tz : List Int := List.replicate 16 0
  /-- Governing estimate in 0.01 °C. [16 signed; R179, 05; 0] -/
  gov : Int := 0
  /-- Governing zone. [4; R179, 05; 0] -/
  govZone : Nat := 0
  /-- Band. [3; R182, 05; DESIGN CHOICE B1 before the initial band (log 6)] -/
  band : Nat := 1
  /-- For each boundary 0, 45, 85, 100 °C, consecutive rounds above it, at most 2. [4 x 2; R182, 05; 0] -/
  rise : List Nat := [0, 0, 0, 0]
  /-- For each boundary, consecutive rounds at or below it minus 3.00 °C, at most 10. [4 x 4; R182, 05; 0] -/
  fall : List Nat := [0, 0, 0, 0]
  /-- Consecutive rounds above the shutdown limit. [2; R188, 05; 0] -/
  shut : Nat := 0
  /-- Governing estimates of the rounds counted since the history restarted, newest first, at most 1,001. [list; R190, 05; none] -/
  history : List Int := []
  /-- R1 in 0.01 °C/s, when evaluated. [16 signed; R190, 05; not evaluated] -/
  r1 : Option Int := none
  /-- R10 in 0.01 °C/s, when evaluated. [16 signed; R190, 05; not evaluated] -/
  r10 : Option Int := none
  /-- WARN is set. [1; R191, 05; false] -/
  warn : Bool := false
  /-- ACT is set. [1; R191, 05; false] -/
  act : Bool := false
  /-- TRIP is set. [1; R191, 05; false] -/
  trip : Bool := false
  /-- Thresholds in force. [R195 R198, 05; CW:OTP] -/
  thr : Thresholds := {}
  /-- Thresholds with which the running round started. [R176, 05; CW:OTP] -/
  thrRound : Thresholds := {}
  /-- Sensor fault with its cause. [R181, 05; none] -/
  fault : Option Nat := none
  /-- Consecutive rounds without a fault. [4; R181, 05; 0] -/
  okRounds : Nat := 0
  /-- Zone coefficients K in 0.01 °C/W. [16 x 16; R180, 05; CW:OTP, BLANK Table 05-4] -/
  k : List Nat := [60, 50, 90, 120, 55, 80, 80, 150, 150, 70, 70, 200, 250, 250, 300, 200]
  /-- DDR_OVERTEMP indication holds. [1; R185, 05; false] -/
  overtemp : Bool := false
  /-- Worst MR4 indication asks for the shorter interval, per channel. [2; R185, 05; false] -/
  mr4Short : List Bool := [false, false]
  deriving DecidableEq, Repr

/-- One DDR5 channel. -/
structure DdrChannel where
  /-- Fitted capacity in GiB. [7; Table 01-7, 01; board: DESIGN CHOICE 32 (log 6)] -/
  gib : Nat := 32
  /-- The dirty regions in the order in which they will be wiped, the one being wiped first. [list; R32 R33, 02; CW: all dirty] -/
  dirty : List Nat := List.range 32
  deriving DecidableEq, Repr

/-- The memories of device space, on-die SRAM and DDR5, as far as wardens and debug sessions write them (Table 01-7). What the device's own
work leaves there is read as free values (log 88). -/
structure DevMem where
  /-- Bytes by device address, unlisted 0. [96 MiB and 2 x up to 64 GiB; R20, 01; R30 R32, 02: wiped to 0] -/
  bytes : Mem := []
  /-- MODEL's own: word addresses that a warden wrote in a buffer it holds. [list; not the spec's; DESIGN CHOICE none (log 88)] -/
  known : List Nat := []
  /-- MODEL's own: SRAM banks b, and regions r of channel c as 64 + 64 c + r, that pools have used since their last wipe. [list; not the spec's;
  DESIGN CHOICE none (log 88)] -/
  used : List Nat := []
  deriving DecidableEq, Repr

end Sys2Proof.Machine
end

