-- ==== Sys2Proof/Machine/StateWdn.lean ====
section
/-!
DEFINITION. Sys2Proof/Machine/StateWdn.lean: warden cores, roles, tasks, timers and the hardware locks (ch 18, ch 19).
-/
namespace Sys2Proof.Machine
open Sys2Proof

/-- A task slot and its context block (Table 19-5). Words are 16 bits. -/
structure WdTask where
  /-- STATE: 0 EMPTY, 1 READY, 2 RUNNING, 3 WAITING, 4 PARKED. [3; R695 Table 19-1, 19; CW: 0] -/
  st : Nat := 0
  /-- w1 to w15; w0 always reads 0. [15 x 16; R660, 18; CW: 0] -/
  w : List (Nat × Nat) := []
  /-- PC. [16; Table 19-5, 19; CW: 0] -/
  pc : Nat := 0
  /-- PRIO 0-7. [3; R696, 19; CW: 0] -/
  prio : Nat := 0
  /-- SM: memory-stack mode. [1; R670, 18; CW: 0] -/
  sm : Bool := false
  /-- OVF: TRAP. [1; R670, 18; CW: 0] -/
  ovf : Bool := false
  /-- LR_SLIM. [16; Table 18-5, 18; CW: 0] -/
  slim : Nat := 0
  /-- RSP. [4; R671, 18; CW: 0] -/
  rsp : Nat := 0
  /-- RSC. [5; R671, 18; CW: 0] -/
  rsc : Nat := 0
  /-- Return-stack entries 0-15. [16 x 16; R671, 18; CW: 0] -/
  stack : List (Nat × Nat) := []
  /-- PENDING event bits. [16; R706, 19; CW: 0] -/
  pending : Nat := 0
  /-- Wait mask. [16; R701, 19; CW: 0] -/
  mask : Nat := 0
  /-- The register that a WAIT in progress names. [4; R701, 19; CW: 0] -/
  wreg : Nat := 0
  /-- PARK_STATUS. [16; Table 19-5, 19; CW: 0] -/
  park : Nat := 0
  /-- XCAUSE. [16; R689, 18; CW: 0] -/
  xcause : Nat := 0
  /-- XPC. [16; R689, 18; CW: 0] -/
  xpc : Nat := 0
  /-- XINFO. [16; R689, 18; CW: 0] -/
  xinfo : Nat := 0
  /-- EPOCH. [16; R705, 19; CW: 0] -/
  epoch : Nat := 0
  /-- A cancel that waits for the instruction in progress: the role that asked for it. [2; R703, 19; none] -/
  cancel : Option Nat := none
  deriving DecidableEq, Repr

/-- TMRn of a role (R710-R712). -/
structure WdTimer where
  /-- COUNT in microseconds. [32; Table 19-2, 19; CW: 0] -/
  count : Nat := 0
  /-- MODE. [2; Table 19-2, 19; CW: 0] -/
  mode : Nat := 0
  /-- TASK. [5; Table 19-2, 19; CW: 0] -/
  task : Nat := 0
  /-- BIT. [4; Table 19-2, 19; CW: 0] -/
  bit : Nat := 0
  /-- GUARD. [16; Table 19-2, 19; CW: 0] -/
  guard : Nat := 0
  /-- The microsecond of the next expiry while armed. [R710, 19; disarmed] -/
  due : Option Nat := none
  deriving DecidableEq, Repr

/-- What the running image gives a role (Table 19-9). -/
structure RoleDesc where
  /-- Code section. [words; R726, 19] -/
  code : List Nat
  /-- Data section. [words; R726, 19] -/
  data : List Nat
  /-- ENTRY. [16; Table 19-9, 19] -/
  entry : Nat
  /-- INIT_SP. [16; Table 19-9, 19] -/
  initSp : Nat
  /-- SLIM. [16; Table 19-9, 19] -/
  slim : Nat
  /-- SM. [1; Table 19-9, 19] -/
  sm : Bool
  /-- OVF. [1; Table 19-9, 19] -/
  ovf : Bool
  /-- PRIO. [3; Table 19-9, 19] -/
  prio : Nat
  /-- WDOG_MS. [16; Table 19-9, 19] -/
  wdogMs : Nat
  deriving DecidableEq, Repr

/-- A role move in progress (R716, R717). -/
structure RoleMove where
  /-- Warm. -/
  warm : Bool
  /-- The core it goes to. -/
  dest : Nat
  /-- The role issues no instruction (R716). -/
  frozen : Bool
  /-- When the role stopped issuing, in microseconds. -/
  since : Nat
  /-- Cause of the fence of the outgoing core, as in Table 27-11, or none where it becomes SPARE (R718; 27). -/
  fence : Option Nat
  deriving DecidableEq, Repr

/-- One role; key 0-3. -/
structure Role where
  /-- Task slots 0-31. [32; R695, 19; CW: EMPTY] -/
  tasks : List (Nat × WdTask) := []
  /-- READY tasks, in the order in which their levels serve them. [list; R696, 19; none] -/
  order : List Nat := []
  /-- The RUNNING task. [5; R696, 19; none] -/
  running : Option Nat := none
  /-- WDCLK cycles it has run since it was chosen. [R698, 19; 0] -/
  ran : Nat := 0
  /-- TMR0-TMR15. [16; R710, 19; CW: 0] -/
  timers : List (Nat × WdTimer) := []
  /-- When the watchdog expires. [R713, 19; none] -/
  wdDue : Option Nat := none
  /-- When the watchdog last restarted the role. [R714, 19; none] -/
  lastWd : Option Nat := none
  /-- WDN_EVDROP. [32; R706, 19; CW: 0] -/
  evdrop : Nat := 0
  /-- WDN_TC_ARG. [32; Table 19-2, 19; CW: 0] -/
  tcArg : Nat := 0
  /-- WDN_TC_SLIM. [16; Table 19-2, 19; CW: 0] -/
  tcSlim : Nat := 0
  /-- WDN_TC_RES.STATUS. [15; Table 19-2, 19; CW: 0] -/
  tcStatus : Nat := 0
  /-- WDN_TC_RES.DONE. [1; Table 19-2, 19; CW: 1] -/
  tcDone : Bool := true
  /-- WDN_ROUTE registers 0x00-0x10 and 0x1F. [32; Table 19-2, 19; CW: 0] -/
  routes : List (Nat × Nat) := []
  /-- Descriptor and sections of the running image. [Table 19-9, 19; none before boot] -/
  desc : Option RoleDesc := none
  /-- A move in progress. [R716 R717, 19; none] -/
  move : Option RoleMove := none
  deriving DecidableEq, Repr

/-- An XLD or XST that has left its core (R678-R681). -/
structure WdAccess where
  /-- The task that waits. -/
  task : Nat
  /-- Device byte address. -/
  addr : Nat
  /-- XST. -/
  write : Bool
  /-- D. -/
  d : Nat
  /-- The value of an XST. -/
  value : Nat
  deriving DecidableEq, Repr

/-- One core; key 0-4. -/
structure WdCore where
  /-- Code memory. [65,536 x 16; R666, 18; CW: 0] -/
  code : List (Nat × Nat) := []
  /-- Data memory. [65,536 x 16; R667 R668, 18; CW: 0] -/
  data : List (Nat × Nat) := []
  /-- Code addresses with an uncorrectable error; set from outside. [list; R669, 18; none] -/
  codeBad : List Nat := []
  /-- Data addresses with an uncorrectable error; set from outside. [list; R669, 18; none] -/
  dataBad : List Nat := []
  /-- LR_WINn_L at 2n and LR_WINn_H at 2n + 1. [16 x 16; R677, 18; CW: 0] -/
  win : List (Nat × Nat) := []
  /-- WDCLK cycles of the instructions it has issued since the last C or W. [R664 R685, 18; CW: 0] -/
  cyc : Nat := 0
  /-- LR_CYCLE_H. [16; R685, 18; CW: 0] -/
  cycleH : Nat := 0
  /-- LR_XCAUSE.CAUSE. [8; R689, 18; CW: 0] -/
  xcause : Nat := 0
  /-- LR_XCAUSE.TASK. [5; R689, 18; CW: 0] -/
  xtask : Nat := 0
  /-- LR_XPC. [16; R689, 18; CW: 0] -/
  xpc : Nat := 0
  /-- LR_XINFO. [16; R689, 18; CW: 0] -/
  xinfo : Nat := 0
  /-- The device access in progress. [R680, 18; none] -/
  access : Option WdAccess := none
  deriving DecidableEq, Repr

/-- A hardware lock; key 0-63. -/
structure HwLock where
  /-- STATE: 0 FREE, 1 HELD, 2 ORPHANED. [2; R720, 19; CW: 0] -/
  st : Nat := 0
  /-- HOLDER (Table 19-7). [16; R721, 19; CW: 0] -/
  holder : Nat := 0
  /-- EPOCH recorded at acquire. [16; R722, 19; CW: 0] -/
  epoch : Nat := 0
  deriving DecidableEq, Repr

/-- Wardens and locks. -/
structure Wardens where
  /-- WD0-WD4. [5 cores; R693, 19; CW: wiped] -/
  cores : List (Nat × WdCore) := []
  /-- Roles 0-3. [4 roles; R693, 19; CW: reset] -/
  roles : List (Nat × Role) := []
  /-- CORE0-CORE3 of WDN_MAP; 7 lost. [4 x 3; Table 19-2, 19; CW: 0, 1, 2, 3, then R155] -/
  map : List Nat := [0, 1, 2, 3]
  /-- SPARE of WDN_MAP; 7 none. [3; Table 19-2, 19; CW: 4, then R155] -/
  spare : Nat := 4
  /-- AREA_MAP of the running image: area, role, task. [14 x 7; Table 19-8, 19; none before boot] -/
  areas : List (Nat × (Nat × Nat)) := []
  /-- FW_VERSION of the running image. [32; R728, 19; 0 before boot (DESIGN CHOICE, log 59)] -/
  fwVersion : Nat := 0
  /-- Locks 0-63. [64; R720, 19; CW: FREE] -/
  locks : List (Nat × HwLock) := []
  deriving DecidableEq, Repr

end Sys2Proof.Machine
end

