-- ==== Sys2Proof/Machine/StateXsp.lean ====
section
/-!
DEFINITION. Sys2Proof/Machine/StateXsp.lean: the expansion and service port (ch 23).
-/
namespace Sys2Proof.Machine
open Sys2Proof

/-- A PKT_WRITE that has not been completed (R835, R842). -/
structure XspWrite where
  /-- LEN in words. -/
  len : Nat
  /-- Bytes of the words complete so far. -/
  bytes : Bytes
  deriving DecidableEq, Repr

/-- The expansion and service port. -/
structure Xsp where
  /-- MODE: false MASTER, true TARGET. [1; R824 Table 23-4, 23; CW: strap, DESIGN CHOICE MASTER (log 6)] -/
  target : Bool := false
  /-- XSP_MADDR. [32; Table 23-4, 23; CW: 0] -/
  addr : Nat := 0
  /-- XSP_MSTAT.STATUS. [15; R833, 23; CW: 0] -/
  status : Nat := 0
  /-- XSP_MBUF. [256 bytes; Table 23-4, 23; CW: 0] -/
  buf : Bytes := zeros 256
  /-- The XSP_MCMD word of the transfer in progress; DONE is 1 when there is none. [32; R831, 23; CW: none] -/
  xfer : Option Nat := none
  /-- STATUS.ERR. [1; Table 23-3, 23; DESIGN CHOICE 0 (log 75)] -/
  err : Bool := false
  /-- STATUS.ABORTED. [1; Table 23-3, 23; DESIGN CHOICE 0 (log 75)] -/
  aborted : Bool := false
  /-- The unfinished PKT_WRITE. [R842, 23; CW: none] -/
  write : Option XspWrite := none
  /-- The lanes are ignored until XSEL0_N rises. [1; R840, 23; CW: false] -/
  deaf : Bool := false
  deriving DecidableEq, Repr

end Sys2Proof.Machine
end

