-- ==== Sys2Proof/Machine/State.lean ====
section
/-!
DEFINITION. Sys2Proof/Machine/State.lean: the whole machine as plain data, its stops, and the machine at reset.
-/
namespace Sys2Proof.Machine
open Sys2Proof

/-- Faults that stop the model. No command of this device stops it; the constructor stands for an address the device does not have. -/
inductive Fault where
  /-- Raised by nobody: no meaning of this model faults (safe). -/
  | none
  deriving DecidableEq, Repr

/-- Refusals: commands without a meaning. -/
inductive Refusal where
  /-- Raised by an arm of exec whose command has no meaning yet (safe: the model stops). -/
  | notModelled (mnemonic : String)
  deriving DecidableEq, Repr

/-- The device. -/
structure State where
  /-- The commands that wait, first in first out. [list; the block form of this model, not the spec's; empty (DESIGN CHOICE, log 7)] -/
  pending : List Instr := []
  /-- MODEL's own: the counter that each free value reads and advances. [Nat; not the spec's; DESIGN CHOICE 0 (log 3)] -/
  free : Nat := 0
  /-- MODEL's own: what the device has put on its interfaces, oldest first. [list; not the spec's; DESIGN CHOICE empty (log 4)] -/
  out : List Emission := []
  /-- MODEL's own: microseconds that idle steps have let pass. [Nat; not the spec's; DESIGN CHOICE 0 (log 2)] -/
  us : Nat := 0
  /-- Event log. -/
  log : EventLog := {}
  /-- Resets. -/
  rst : ResetUnit := {}
  /-- Command front end. -/
  cmd : CmdFrontEnd := {}
  /-- Always-on domain. -/
  aon : Aon := {}
  /-- Power manager. -/
  pmc : Pmc := {}
  /-- The 148 domains; one that is not listed is at its default. -/
  dom : List (Nat × Domain) := []
  /-- Clocks. -/
  ckg : Ckg := {}
  /-- Housekeeping. -/
  hkp : Hkp := {}
  /-- DDR5 channels 0 and 1. -/
  ddr0 : DdrChannel := {}
  /-- DDR5 channel 1. -/
  ddr1 : DdrChannel := {}
  /-- SRAM and DDR5 as device space reaches them. -/
  mem : DevMem := {}
  /-- PCIe endpoint. -/
  pce : Pce := {}
  /-- Tenants, VFs and ring pairs. -/
  host : HostSide := {}
  /-- Caddy Manager. -/
  cad : Caddies := {}
  /-- Ports, switch and scheduling points. -/
  net : NetSide := {}
  /-- Key store, SAs and DRBG. -/
  cry : CryptoSide := {}
  /-- Storage and integrity. -/
  sto : StoreSide := {}
  /-- Signal engine. -/
  sge : Sge := {}
  /-- Signal inputs, outputs and pours. -/
  sio : Sio := {}
  /-- Wardens and locks. -/
  wdn : Wardens := {}
  /-- Battery string. -/
  bat : Battery := {}
  /-- Plant supervision. -/
  plt : Plt := {}
  /-- Plant bus. -/
  can : Can := {}
  /-- Shelf label. -/
  lbl : Label := {}
  /-- Expansion and service port. -/
  xsp : Xsp := {}
  /-- Lattice. -/
  lat : Lattice := {}
  /-- OTP. -/
  otp : Otp := {}
  /-- Boot flash. -/
  flash : Flash := {}
  /-- Life-cycle controller. -/
  lcy : Lcy := {}
  /-- Counters and debug. -/
  cnt : Counting := {}
  deriving DecidableEq, Repr

/-- The machine right after reset. -/
def State.reset : State := {}

end Sys2Proof.Machine
end

