-- ==== Sys2Proof/Machine/Ops.lean ====
section
/-!
DEFINITION. Sys2Proof/Machine/Ops.lean: the operations every block shares: effects outward, free values, the event log,
the passing of time, the domain table and the codes of ch 03.
-/
namespace Sys2Proof.Machine
open Sys2Proof

/-- What a meaning answers. -/
abbrev Out := Host.Outcome State Fault Refusal

/-- The state a meaning answers with. -/
def stateOf (o : Out) (s : State) : State :=
  match o with
  | .next t => t
  | _ => s
/-- Run f when c holds. -/
def whenS (c : Bool) (f : State → State) (s : State) : State := if c then f s else s
/-- Run f on each element in order. -/
def forEach {α : Type} (l : List α) (f : α → State → State) (s : State) : State := l.foldl (fun s a => f a s) s
/-- Run f on the value if there is one. -/
def ifSome {α : Type} (o : Option α) (f : α → State → State) (s : State) : State :=
  match o with
  | some a => f a s
  | none => s

/-- Put an effect on an interface. -/
def emit (e : Emission) (s : State) : State := { s with out := s.out ++ [e] }
/-- Take a free value below n (n > 0), and the state after it (log 3). -/
def freeNat (n : Nat) (s : State) : Nat × State := (Config.freeValue s.free % n, { s with free := s.free + 1 })
/-- Take n free bytes (log 3). -/
def freeBytes (n : Nat) (s : State) : Bytes × State :=
  (((Config.freeBytes n s.free) ++ zeros n).take n, { s with free := s.free + 1 })

/-! ### Power state -/

/-- The state code of Table 03-10; OFF and power-up have none and answer 0. -/
def PowerState.code : PowerState → Nat
  | .off => 0
  | .shelf => 0x10
  | .boot => 0
  | .hold => 3
  | .trim => 2
  | .run => 1
/-- RUN, TRIM or HOLD. -/
def State.live (s : State) : Bool := s.pmc.st == .run || s.pmc.st == .trim || s.pmc.st == .hold
/-- RUN or TRIM: the data plane is on. -/
def State.dataOn (s : State) : Bool := s.pmc.st == .run || s.pmc.st == .trim
/-- The logic of the die works: RUN, TRIM, HOLD, or power-up from the end of step 7 on. -/
def State.awake (s : State) : Bool := s.live || (s.pmc.st == .boot && decide (7 ≤ s.pmc.upStep))
/-- No C or W is in progress. -/
def State.unreset (s : State) : Bool := s.rst.active.isNone

/-! ### Event log -/

/-- SEVERITY of a record (R1041, Table 02-9). -/
def severity (src code : Nat) : Nat :=
  if code < 0x8000 then 2 else
  let row : List Nat := match src with
    | 2 => [1, 2, 1, 1, 2, 3, 2, 3, 3, 0]
    | 3 => [4, 3, 1, 3]
    | 4 => [1, 2, 3, 3, 1, 3, 4]
    | 5 => [2, 1, 1]
    | 6 => [2, 1, 1, 0]
    | 7 => [2, 1, 0, 3]
    | 8 => [2, 3, 2, 3, 0]
    | 9 => [1, 2, 2, 0, 0, 2, 1]
    | 10 => [0, 3, 2, 1, 2]
    | 11 => [1, 2]
    | 12 => [1, 2, 2]
    | 13 => [0, 0, 1, 2, 4]
    | 14 => [1, 3, 2]
    | 15 => [2, 1]
    | 16 => [3, 1, 1, 2, 2, 1]
    | 17 => [0, 1]
    | 18 => [2, 3, 2, 4]
    | 19 => [2, 2]
    | 20 => [2, 1, 2, 1, 1]
    | 21 => [3, 3, 4, 3, 1, 2, 2, 1, 1, 2, 0, 3]
    | 22 => [3, 1, 2, 1, 2]
    | 23 => [2, 3, 1, 2, 2]
    | 24 => [1, 2, 2]
    | 25 => [2, 1, 2, 2]
    | 26 => [1, 2, 2, 2, 2, 2, 3, 1, 1, 2, 2, 1, 3]
    | 27 => [1, 3]
    | 28 => [1, 3, 1, 3, 1, 1, 0]
    | 29 => [3, 1, 1, 2, 3, 3, 2, 3]
    | 30 => [0, 0, 2, 1, 2]
    | 31 => [3]
    | _ => []
  row.getD (code - 0x8001) 0

/-! ### Counters (R989, R990) -/

/-- Counters of a group that add a byte count (Table 28-2). -/
def byteCounter (group c : Nat) : Bool :=
  match group with
  | 1 => c == 6 || c == 8
  | 2 | 3 => decide (c < 18)
  | 4 => c == 1 || c == 3
  | 5 => c == 18 || c == 19
  | 6 => decide (c < 18) && c % 2 == 1
  | _ => false
/-- A counter after an addition: it wraps at 2^48 and WRAPS saturates. -/
def bump (n : Nat) (c : Nat × Nat) : Nat × Nat :=
  let t := c.1 + n
  (t % 2 ^ 48, min 0x7FFF (c.2 + t / 2 ^ 48))
/-- An event of n bytes (or 1) reaches the banks of its group and scope (R989). -/
def countEv (group scope c n : Nat) (s : State) : State :=
  let hit (b : CntBank) : Bool := b.on && b.group == group && b.scope == scope
  let add (b : Nat × CntBank) : Nat × CntBank :=
    if hit b.2 then (b.1, { b.2 with counts := tmod (0, 0) b.2.counts c (bump (if byteCounter group c then n else 1)) }) else b
  if s.cnt.banks.any (fun b => hit b.2) then { s with cnt := { s.cnt with banks := s.cnt.banks.map add } } else s

/-- Function number of PF0 (Table 06-6). -/
def pf0 : Nat := 127
/-- Configuration space of a function. -/
def State.fn (s : State) (f : Nat) : PciFn := tget {} s.pce.fns f
/-- Change a function's configuration space. -/
def modFn (f : Nat) (g : PciFn → PciFn) (s : State) : State := { s with pce := { s.pce with fns := tmod {} s.pce.fns f g } }
/-- Vector v of function f. -/
def State.vec (s : State) (f v : Nat) : MsixVec := tget {} s.pce.msix (f * 64 + v)
/-- Change vector v of function f. -/
def modVec (f v : Nat) (g : MsixVec → MsixVec) (s : State) : State :=
  { s with pce := { s.pce with msix := tmod {} s.pce.msix (f * 64 + v) g } }
/-- Nothing keeps a vector's message back: vector and function unmasked and Bus Master Enable 1 (R220). -/
def State.vecOpen (s : State) (f v : Nat) : Bool := !(s.vec f v).masked && !(s.fn f).msixMask && (s.fn f).bme
/-- The link carries transfers: no conventional reset in progress (R209, R1044), not in SHELF entry, no FLR of the function. -/
def State.fnTalks (s : State) (f : Nat) : Bool := !s.pce.convReset && !(s.fn f).flr && s.live
/-- Send, record as pending or drop a message of a vector (R209, R220). -/
def sendMsix (f v : Nat) (s : State) : State :=
  if !(s.fn f).msixEn || !s.fnTalks f then s
  else if s.vecOpen f v then countEv 5 f 4 1 (emit (.msix f v (s.vec f v).addr (s.vec f v).data) s)
  else modVec f v (fun x => { x with pending := true }) s
/-- Set bits of MGT_EVENT: a bit that goes from 0 to 1 while it is enabled sends one message on the management vector (R220). -/
def mgtEvent (bits : Nat) (s : State) : State :=
  let fresh := bits &&& ((s.pce.event ||| bits) ^^^ s.pce.event)
  whenS ((fresh &&& s.pce.eventEn) != 0) (sendMsix pf0 0) { s with pce := { s.pce with event := s.pce.event ||| bits } }

/-- Write one record (R63, R64); a record of severity 3 or 4 sets MGT_EVENT.LOG_ERROR (R1041). The log runs while
the die is awake (R123). -/
def logEvent (src code : Nat) (det : Bytes) (s : State) : State :=
  if s.awake then
    let r : LogRecord := ⟨s.aon.rtcSec, s.log.tick, src, severity src code, code, s.log.nextSeq, det⟩
    let all := s.log.records ++ [r]
    let s := { s with log := { s.log with records := all.drop (all.length - 4096), nextSeq := s.log.nextSeq + 1 } }
    whenS (decide (3 ≤ severity src code)) (mgtEvent 0x10) s
  else s

/-- Write a record unless n records of its code and key already lie in the sliding interval of ivl microseconds (R1042). -/
def logLimited (src code key n ivl : Nat) (det : Bytes) (s : State) : State :=
  let recent := s.log.stamps.filter fun t => t.source == src && t.code == code && t.key == key && decide (s.us < t.at_ + ivl)
  if recent.length < n then
    let kept := s.log.stamps.filter fun t => !(t.source == src && t.code == code && t.key == key) || decide (s.us < t.at_ + ivl)
    logEvent src code det { s with log := { s.log with stamps := kept ++ [⟨src, code, key, s.us⟩] } }
  else s

/-! ### Time -/

/-- One microsecond passes: TICK counts (Table 02-8), and the RTC advances by 32,768 counts a second (R145). Log 2. -/
def idleTick (s : State) : State :=
  let s := { s with us := s.us + 1 }
  let s := if s.awake then { s with log := { s.log with tick := s.log.tick + 1 } } else s
  if s.aon.powered then
    let acc := s.aon.rtcAcc + 32768
    let steps := acc / 1000000
    let sub := s.aon.rtcSub + steps
    { s with aon := { s.aon with rtcAcc := acc % 1000000, rtcSub := sub % 32768,
                                 rtcSec := s.aon.rtcSec + BitVec.ofNat 32 (sub / 32768) } }
  else s

/-! ### Status codes (Table 03-6) -/

/-- OK. -/
def stOk : Nat := 0
/-- OK_NOTE. -/
def stNote : Nat := 1
/-- BAD_MAGIC. -/
def stBadMagic : Nat := 0x10
/-- BAD_VERSION. -/
def stBadVersion : Nat := 0x11
/-- BAD_OPCODE. -/
def stBadOpcode : Nat := 0x12
/-- BAD_LENGTH. -/
def stBadLength : Nat := 0x13
/-- BAD_PARAM. -/
def stBadParam : Nat := 0x14
/-- BAD_CRC. -/
def stBadCrc : Nat := 0x15
/-- BAD_SEQUENCE. -/
def stBadSequence : Nat := 0x16
/-- DENIED. -/
def stDenied : Nat := 0x20
/-- LIFECYCLE. -/
def stLifecycle : Nat := 0x21
/-- BUSY. -/
def stBusy : Nat := 0x22
/-- THROTTLED. -/
def stThrottled : Nat := 0x23
/-- TIMEOUT. -/
def stTimeout : Nat := 0x24
/-- NO_RESOURCE. -/
def stNoResource : Nat := 0x30
/-- FENCED. -/
def stFenced : Nat := 0x31
/-- DEGRADED. -/
def stDegraded : Nat := 0x32
/-- FAULT. -/
def stFault : Nat := 0x40
/-- ABORTED. -/
def stAborted : Nat := 0x41
/-- CANCELLED. -/
def stCancelled : Nat := 0x42
/-- SPOOF. -/
def stSpoof : Nat := 0x50
/-- CHARTER_CHANGED. -/
def stCharter : Nat := 0x51
/-- DOUBLE_FREE. -/
def stDoubleFree : Nat := 0x52
/-- ORPHAN. -/
def stOrphan : Nat := 0x53

/-! ### Domains (Table 04-12) -/

/-- Domain d. -/
def State.domain (s : State) (d : Nat) : Domain := tget {} s.dom d
/-- Device addresses of the memory of domain d: an SRAM bank, a DDR5 channel (Table 01-7). -/
def memRange (d : Nat) : Option (Nat × Nat) :=
  if 100 ≤ d && d < 148 then some ((d - 100) * 0x200000, (d - 99) * 0x200000)
  else if d = 86 then some (0x1000000000, 0x2000000000)
  else if d = 87 then some (0x2000000000, 0x3000000000)
  else none
/-- The device memory without the addresses of a range: wiped (R30). -/
def DevMem.wipe (m : DevMem) (lo hi : Nat) : DevMem :=
  let out (a : Nat) : Bool := decide (a < lo) || decide (hi ≤ a)
  let unit (i : Nat) : Nat := if i < 64 then i * 0x200000 else 0x1000000000 * (1 + (i - 64) / 64) + (i - 64) % 64 * 0x40000000
  { bytes := m.bytes.filter fun c => out c.1, known := m.known.filter out, used := m.used.filter fun i => out (unit i) }
/-- Set domain d. The memory of a domain that is switched off is wiped before its next use (R30). -/
def setDomain (d : Nat) (v : Domain) (s : State) : State :=
  let s := { s with dom := tput {} s.dom d v }
  match memRange d with
  | some r => if v.st == .gated || v.st == .fenced then { s with mem := s.mem.wipe r.1 r.2 } else s
  | none => s
/-- Change domain d. -/
def modDomain (d : Nat) (f : Domain → Domain) (s : State) : State := setDomain d (f (s.domain d)) s
/-- i lies in lo..hi. -/
def inR (i lo hi : Nat) : Bool := decide (lo ≤ i) && decide (i ≤ hi)
/-- The mesh quadrant of domain d, Table 04-12 column Mesh. -/
def meshOf (d : Nat) : Option Nat :=
  if inR d 11 14 then some (d - 11)
  else if inR d 30 38 || inR d 58 62 then some 0
  else if inR d 39 57 || d == 86 || d == 88 || d == 98 then some 1
  else if inR d 63 73 then some 2
  else if inR d 74 85 || d == 87 || d == 89 then some 3
  else if inR d 100 147 then some ((d - 100) / 12)
  else none
/-- Column TRIM: 0 never gated by policy, 1 idle, 2 park, 3 use. -/
def trimOf (d : Nat) : Nat :=
  if d == 9 || d == 20 || d == 24 || d == 27 || d == 29 || inR d 90 97 || d == 98 then 3
  else if inR d 46 57 then 2
  else if inR d 65 85 || inR d 100 147 then 1
  else 0
/-- Column HOLD. -/
def holdOf (d : Nat) : DomState :=
  if inR d 35 49 || d == 63 || d == 88 || d == 89 || d == 98 || inR d 102 147 then .ret
  else if d == 9 || inR d 12 14 || inR d 32 34 || inR d 50 57 || inR d 64 87 then .gated
  else .on
/-- Column Fence. -/
def fenceable (d : Nat) : Bool := !(inR d 0 2 || inR d 4 8 || d == 10 || d == 11) && decide (d < 148)
/-- The mesh domain of quadrant q. -/
def meshDomain (q : Nat) : Nat := 11 + q
/-- The quadrant of d is FENCED, so d is unusable (R148). -/
def State.quadFenced (s : State) (d : Nat) : Bool :=
  match meshOf d with
  | some q => d != meshDomain q && (s.domain (meshDomain q)).st == .fenced
  | none => false
/-- Domain d is FENCED or unusable under R148. -/
def State.domLost (s : State) (d : Nat) : Bool := (s.domain d).st == .fenced || s.quadFenced d
/-- DDR5 channel ch. -/
def State.ddr (s : State) (ch : Nat) : DdrChannel := if ch == 0 then s.ddr0 else s.ddr1
/-- Change a channel's record. -/
def modDdr (ch : Nat) (f : DdrChannel → DdrChannel) (s : State) : State :=
  if ch == 0 then { s with ddr0 := f s.ddr0 } else { s with ddr1 := f s.ddr1 }
/-- Domain d is ON. -/
def State.isOn (s : State) (d : Nat) : Bool := (s.domain d).st == .on && !s.quadFenced d
/-- The domains of block b (Table 01-1, Table 04-12). -/
def blockDomains (b : Nat) : List Nat :=
  let r (lo hi : Nat) := (List.range (hi + 1 - lo)).map (· + lo)
  match b with
  | 2 => [0]
  | 3 => [1]
  | 4 => [2]
  | 5 => r 30 34
  | 6 => [35]
  | 7 => [36, 37]
  | 8 => [38]
  | 9 => r 46 57
  | 10 => r 41 44
  | 11 => [39, 40]
  | 12 => r 65 73
  | 13 => [63]
  | 14 => r 74 80
  | 15 => r 81 85
  | 16 => [25, 26, 99]
  | 17 => [28]
  | 18 => r 15 19
  | 19 => [8]
  | 20 => [7]
  | 21 => [22]
  | 22 => [23]
  | 23 => [24]
  | 24 => [21]
  | 25 => [20]
  | 26 => [58]
  | 27 => [4]
  | 28 => [5]
  | 29 => [6]
  | _ => []
/-- Blocks that are pools of like units (R967): rings, MACs, switch slices, AES, storage, integrity, wardens. -/
def poolBlock (b : Nat) : Bool := b == 7 || b == 9 || b == 10 || b == 12 || b == 14 || b == 15 || b == 18 || b == 5
/-- The block is fenced for R103 as R967 (27) states. -/
def State.blockFenced (s : State) (b : Nat) : Bool :=
  let ds := blockDomains b
  if ds.isEmpty then false
  else if poolBlock b then ds.all s.domLost else ds.any s.domLost
/-- The block is switched off by the power state in force (R102, 03): every domain of it is off, and by the power state or, in HOLD, not on in the
HOLD column of Table 04-12 though it is not in use (R152). -/
def State.blockOff (s : State) (b : Nat) : Bool :=
  let ds := (blockDomains b).filter fun d => (s.domain d).st != .fenced && (s.domain d).st != .spare
  !ds.isEmpty && ds.all fun d => ((s.domain d).st == .gated || (s.domain d).st == .ret) &&
    ((s.domain d).cause == 1 || (s.pmc.st == .hold && holdOf d != .on))

/-- A domain marked use follows its use while the device runs (R152). -/
def followUse (d : Nat) (used : Bool) (s : State) : State :=
  let x := s.domain d
  if !s.live || x.st == .fenced || x.forced.isSome || s.quadFenced d then s
  else setDomain d (if used then { x with st := .on, cause := 0 } else { x with st := .gated, cause := 7 }) s
/-- Switch a bank off (R991). -/
def bankOff (b cause : Nat) (s : State) : State :=
  let x : CntBank := tget {} s.cnt.banks b
  if x.on then
    followUse (90 + b) false <| logEvent 30 0x8002 (detail [(16, 1, b), (17, 1, cause)])
      { s with cnt := { s.cnt with banks := tput {} s.cnt.banks b {}, window := s.cnt.window.filter fun w => w.1 / 64 != b } }
  else s

/-- An ACT condition holds: ACT is set, or a DRAM is above its operating range, which acts as one (R185, R193, 05). -/
def State.actSet (s : State) : Bool := s.hkp.act || s.hkp.overtemp

end Sys2Proof.Machine
end

