-- ==== Sys2Proof/Machine/OtpOps.lean ====
section
/-!
DEFINITION. Sys2Proof/Machine/OtpOps.lean: what OTP holds and how it is programmed (ch 26, R931-R943, R953, R959).
-/
namespace Sys2Proof.Machine
open Sys2Proof

/-- n bytes of OTP from a. -/
def State.otpAt (s : State) (a n : Nat) : Bytes := s.otp.mem.readN a n
/-- Number of set bits among bits 0 to n - 1. -/
def popCount (n v : Nat) : Nat := (bitsSet n v).length
/-- The LC field (R932). -/
def State.lcField (s : State) : Nat := leAt (s.otpAt 0x40 16) 0 16
/-- QUARANTINE changes made so far (R932). -/
def State.lcChanges (s : State) : Nat := popCount 124 (s.lcField / 4)
/-- Life-cycle code of Table 03-13 (R931, R932): 1 BLANK, 2 PROVISIONED, 3 IN_SERVICE, 4 QUARANTINE, 5 RETIRED. -/
def State.lcyState (s : State) : Nat :=
  let f := s.lcField
  if f.testBit 127 then 5 else if s.lcChanges % 2 == 1 then 4 else if f.testBit 1 then 3 else if f.testBit 0 then 2 else 1
/-- Trust generation in force (R959). -/
def State.trustGen (s : State) : Nat := 1 + popCount 11 (u16 (s.otpAt 0x50 2) 0)
/-- The hash of generation g. -/
def State.trustHash (s : State) (g : Nat) : Bytes := s.otpAt (0x80 + 32 * (g - 1)) 32
/-- A slot of n bytes at a is written: a bit of it is set (R939), or programming it has failed (R940). -/
def State.otpWritten (s : State) (a n : Nat) : Bool := s.otp.failed.contains a || (s.otpAt a n).any (· != 0)
/-- The hash of generation g is written (R959). -/
def State.hashWritten (s : State) (g : Nat) : Bool := s.otpWritten (0x80 + 32 * (g - 1)) 32
/-- Minimum SVN (R953). -/
def State.minSvn (s : State) : Nat := popCount 64 (leAt (s.otpAt 0x54 8) 0 8)
/-- SERIAL. -/
def State.serial (s : State) : Bytes := s.otpAt 0 8
/-- The grade is DV5616-X (Table 03-13). -/
def State.gradeX (s : State) : Bool := u8 (s.otpAt 8 1) 0 == 0x58

/-- BASE and payload size of a settings group (Table 26-4). -/
def otpGroup (g : Nat) : Option (Nat × Nat) :=
  [(1, 0x0300, 48), (2, 0x0404, 64), (3, 0x0558, 16), (4, 0x05BC, 80), (5, 0x0760, 8), (6, 0x079C, 120), (7, 0x0A08, 16), (8, 0x0A6C, 8),
   (9, 0x0AA8, 184), (10, 0x0E54, 32), (11, 0x0F08, 16)].lookup g
/-- Address of slot n (from 1) of a group. -/
def groupSlot (base size n : Nat) : Nat := base + (n - 1) * (size + 4)
/-- A slot is valid: written, and its CRC-32C holds (R939). -/
def State.slotValid (s : State) (a n : Nat) : Bool :=
  s.otpWritten a (n + 4) && !s.otp.failed.contains a && u32 (s.otpAt a (n + 4)) n == (crc32c (s.otpAt a n)).toNat
/-- Valid generations of a group, rising. -/
def State.groupGens (s : State) (g : Nat) : List Nat :=
  match otpGroup g with
  | some (base, size) => [1, 2, 3, 4, 5].filter fun n => s.slotValid (groupSlot base size n) size
  | none => []
/-- The generation in force, 0 for BLANK (R939). -/
def State.groupGen (s : State) (g : Nat) : Nat := (s.groupGens g).getLastD 0
/-- Payload of a generation of a group. -/
def State.groupAt (s : State) (g n : Nat) : Bytes :=
  match otpGroup g with
  | some (base, size) => s.otpAt (groupSlot base size n) size
  | none => []
/-- Payload in force of a group, if it has one. -/
def State.group (s : State) (g : Nat) : Option Bytes := if s.groupGen g = 0 then none else some (s.groupAt g (s.groupGen g))
/-- Byte i of the POLICY group in force, 0 when BLANK (Table 26-4). -/
def State.policy (s : State) (i : Nat) : Nat := ((s.group 11).map fun b => u8 b i).getD 0
/-- DEBUG_EN (R963). -/
def State.debugEn (s : State) : Bool := (s.policy 0).testBit 0
/-- LBL_IC_MFG, 0 when BLANK. -/
def State.lblMfg (s : State) : Nat := ((s.group 8).map fun b => u8 b 0).getD 0
/-- LBL_WAKE_CODE, 0 when BLANK. -/
def State.lblWakeCode (s : State) : Nat := ((s.group 8).map fun b => u32 b 4).getD 0

/-- Repair record slot n (R943). -/
def repairSlot (n : Nat) : Nat := 0x200 + 32 * (n - 1)
/-- Repair slot n is valid. -/
def State.repairValid (s : State) (n : Nat) : Bool := s.slotValid (repairSlot n) 28
/-- Repair slot in force, 0 for none. -/
def State.repairInForce (s : State) : Nat := (([1, 2, 3, 4, 5, 6, 7, 8] : List Nat).filter s.repairValid).getLastD 0
/-- FENCE bits of the record in force (R966). -/
def State.repairBits (s : State) : Nat := if s.repairInForce = 0 then 0 else leAt (s.otpAt (repairSlot s.repairInForce) 19) 0 19

/-- Program bits: OTP bits can be set but never cleared. good: every word reads back as programmed (R938); otherwise some of the bits
are set, which ones is open, and the slot at mark counts as used. -/
def otpProgram (good : Bool) (mark a : Nat) (data : Bytes) (s : State) : State :=
  let old := s.otpAt a data.length
  if good then { s with otp := { s.otp with mem := s.otp.mem.writeN a ((old.zip data).map fun p => p.1 ||| p.2) } }
  else
    let (r, s) := freeBytes data.length s
    { s with otp := { s.otp with mem := s.otp.mem.writeN a ((old.zip (data.zip r)).map fun p => p.1 ||| (p.2.1 &&& p.2.2)), failed := nset mark s.otp.failed } }

end Sys2Proof.Machine
end

