-- ==== Sys2Proof/Machine/WdnOps.lean ====
section
/-!
DEFINITION. Sys2Proof/Machine/WdnOps.lean: tasks, events, routes, timers and locks (ch 19).
-/
namespace Sys2Proof.Machine
open Sys2Proof

/-- Change the wardens' record. -/
def modWdn (f : Wardens → Wardens) (s : State) : State := { s with wdn := f s.wdn }
/-- Role r. -/
def State.role (s : State) (r : Nat) : Role := tget {} s.wdn.roles r
/-- Change role r. -/
def modRole (r : Nat) (f : Role → Role) (s : State) : State := modWdn (fun x => { x with roles := tmod {} x.roles r f }) s
/-- Task t of role r. -/
def State.task (s : State) (r t : Nat) : WdTask := tget {} (s.role r).tasks t
/-- Change task t of role r. -/
def modTask (r t : Nat) (f : WdTask → WdTask) (s : State) : State := modRole r (fun x => { x with tasks := tmod {} x.tasks t f }) s
/-- Core c. -/
def State.core (s : State) (c : Nat) : WdCore := tget {} s.wdn.cores c
/-- Change core c. -/
def modCore (c : Nat) (f : WdCore → WdCore) (s : State) : State := modWdn (fun x => { x with cores := tmod {} x.cores c f }) s
/-- The role that runs on core c (R693). -/
def State.roleOn (s : State) (c : Nat) : Option Nat := if 4 < c then none else (List.range 4).find? fun r => s.wdn.map.getD r 7 == c
/-- The core of role r, if it is not lost. -/
def State.coreOf (s : State) (r : Nat) : Option Nat :=
  let c := s.wdn.map.getD r 7
  if c ≤ 4 then some c else none
/-- A slot that has a task. -/
def WdTask.live (t : WdTask) : Bool := inR t.st 1 3
/-- An instruction of role r is in progress: a device access. -/
def State.inAccess (s : State) (r : Nat) : Bool := (s.coreOf r).any fun c => (s.core c).access.isSome

/-! ### Locks (R720-R725) -/

/-- Holder identities (Table 19-7). -/
def holderPf0 : Nat := 0x2000
/-- The service port. -/
def holderService : Nat := 0x3000
/-- Task t of role r. -/
def holderTask (r t : Nat) : Nat := 0x1000 + r * 256 + t
/-- Lock n. -/
def State.lock (s : State) (n : Nat) : HwLock := tget {} s.wdn.locks n
/-- Set lock n. -/
def setLock (n : Nat) (l : HwLock) (s : State) : State := modWdn (fun x => { x with locks := tput {} x.locks n l }) s
/-- A holder's present epoch (R722, R724). -/
def State.holderEpoch (s : State) (h : Nat) : Nat :=
  if h / 4096 = 1 then (s.task (h / 256 % 4) (h % 32)).epoch else tget 0 s.rst.epochs h
/-- Every lock a holder holds becomes ORPHANED (R724). -/
def orphan (h : Nat) (s : State) : State :=
  forEach (s.wdn.locks.filter fun l => l.2.st == 1 && l.2.holder == h) (fun l s =>
    logEvent 19 0x8001 (detail [(16, 1, l.1), (18, 2, h), (20, 2, l.2.epoch)]) (setLock l.1 { l.2 with st := 2 } s)) s
/-- A holder other than a task is reset (R724): PF0 or the service port. -/
def advanceEpoch (h : Nat) (s : State) : State :=
  orphan h { s with rst := { s.rst with epochs := tmod 0 s.rst.epochs h fun e => (e + 1) % 65536 } }
/-- A read of LCK_ACQ (R722): the word it returns. -/
def lockAcquire (h n : Nat) (s : State) : Nat × State :=
  let l := s.lock n
  if l.st = 1 then
    ((if l.holder = h then stNote + 32768 else stBusy) + l.holder * 65536, s)
  else ((if l.st = 2 then stOrphan else stOk) + 32768 + h * 65536, setLock n ⟨1, h, s.holderEpoch h⟩ s)
/-- A write of LCK_REL (R723). -/
def lockRelease (h n : Nat) (s : State) : State :=
  let l := s.lock n
  if l.st = 1 && l.holder = h then setLock n { l with st := 0, holder := 0 } s
  else logLimited 19 0x8002 n 1 1000 (detail [(16, 1, n), (18, 2, h), (20, 2, l.holder)]) s
/-- LCK_STATE. -/
def HwLock.state (l : HwLock) : Nat := l.st + (if l.st = 0 then 0 else l.holder) * 65536

/-! ### Scheduler (R696-R699) -/

/-- The READY task that its role serves next. -/
def Role.best (x : Role) : Option Nat :=
  let prio (t : Nat) : Nat := (tget {} x.tasks t).prio
  let top := x.order.foldl (fun m t => max m (prio t)) 0
  x.order.find? fun t => prio t == top
/-- A task runs. -/
def Role.run (x : Role) (t : Nat) : Role :=
  { x with running := some t, ran := 0, order := x.order.erase t, tasks := tmod {} x.tasks t fun k => { k with st := 2 } }
/-- A task goes READY at the head or the tail of its level. -/
def Role.ready (x : Role) (t : Nat) (head : Bool) : Role :=
  { x with running := if x.running == some t then none else x.running
           order := if head then t :: x.order.erase t else x.order.erase t ++ [t]
           tasks := tmod {} x.tasks t fun k => { k with st := 1 } }
/-- The choice at an instruction boundary (R696-R699). -/
def Role.choose (x : Role) : Role :=
  match x.running, x.best with
  | none, none => x
  | none, some b => x.run b
  | some _, none => x
  | some t, some b =>
    let p := (tget {} x.tasks t).prio; let q := (tget {} x.tasks b).prio
    if p < q then (x.ready t true).run b
    else if p == q && decide (10000 ≤ x.ran) then (x.ready t false).run b
    else x
/-- Role r is at an instruction boundary and chooses its task, unless it is frozen or lost. -/
def sched (r : Nat) (s : State) : State :=
  if (s.role r).move.any (·.frozen) || (s.coreOf r).isNone || s.inAccess r then s else modRole r Role.choose s

/-! ### Ends of tasks (R703-R705) -/

/-- The task of a slot ends: its epoch advances and its locks are ORPHANED (R705). -/
def endTask (r t : Nat) (s : State) : State := orphan (holderTask r t) (modTask r t (fun k => { k with epoch := (k.epoch + 1) % 65536 }) s)
/-- The outcome of a write of WDN_TC_OP by a role. -/
def tcDone (r status : Nat) (s : State) : State := modRole r (fun x => { x with tcStatus := status, tcDone := true }) s
/-- Park a task. -/
def park (r t status : Nat) (s : State) : State :=
  let s := ifSome (s.task r t).cancel (fun i s => tcDone i stOk s) s
  let s := modRole r (fun x => { x with order := x.order.erase t, running := if x.running == some t then none else x.running }) s
  endTask r t (modTask r t (fun k => { k with st := 4, park := status, cancel := none }) s)

/-! ### Events (R706-R711) -/

/-- Value of register n of a task (R660). -/
def WdTask.reg (t : WdTask) (n : Nat) : Nat := if n = 0 then 0 else tget 0 t.w n
/-- Write register n of a task, modulo 2^16 (R660, R661). -/
def WdTask.setReg (n v : Nat) (t : WdTask) : WdTask := if n = 0 then t else { t with w := tput 0 t.w n (v % 65536) }
/-- A post is applied to the pending bits of a slot (R706), disarms the timers it beats (R711) and wakes the task (R701). -/
def postBit (r t b : Nat) (s : State) : State :=
  let k := s.task r t
  if !k.live then modRole r (fun x => { x with evdrop := min 0xFFFFFFFF (x.evdrop + 1) }) s
  else
    let beaten (m : WdTimer) : Bool := m.mode == 1 && m.due.isSome && m.task == t && m.guard.testBit b
    let s := modRole r (fun x => { x with timers := tmodAll {} x.timers (x.timers.map (·.1)) fun _ m => if beaten m then { m with due := none } else m }) s
    let all := k.pending ||| 2 ^ b
    let hits := all &&& k.mask
    if k.st == 3 && hits != 0 then
      let s := modTask r t (fun k => { k.setReg k.wreg hits with pending := all - hits, mask := 0 }) s
      sched r (modRole r (fun x => x.ready t false) s)
    else modTask r t (fun k => { k with pending := all }) s
/-- The WDN_ROUTE word of area a (R709): EN 1 and the role and task of the area map; no field of the image gives BIT (log 60). -/
def State.areaRoute (s : State) (a : Nat) : Nat :=
  match s.wdn.areas.lookup a with
  | some (r, t) => 1 + r * 2 + t * 16
  | none => 0
/-- The WDN_ROUTE word of source n as role r sees it. -/
def State.route (s : State) (r n : Nat) : Nat := if inR n 0x11 0x1E then s.areaRoute (n - 0x10) else tget 0 (s.role r).routes n
/-- Post by a WDN_ROUTE word. -/
def routeWord (v : Nat) (s : State) : State := whenS (v % 2 == 1) (postBit (bitsOf v 2 1) (bitsOf v 8 4) (bitsOf v 15 12)) s
/-- A route source's condition (R709): each role's register posts; an area's route, the same for every role, posts once. -/
def routePost (n : Nat) (s : State) : State :=
  if inR n 0x11 0x1E then routeWord (s.areaRoute (n - 0x10)) s
  else forEach (List.range 4) (fun r s => routeWord (s.route r n) s) s

/-! ### Task control and timers (R702, R703, R710-R713) -/

/-- The context block at CREATE (Table 19-5). -/
def freshTask (entry sp slim prio : Nat) (sm ovf : Bool) (epoch : Nat) : WdTask :=
  { WdTask.setReg 15 sp {} with st := 1, pc := entry, slim := slim, prio := prio, sm := sm, ovf := ovf, epoch := epoch }
/-- Put a fresh task into a slot; it is READY. -/
def startTask (r t : Nat) (k : WdTask) (s : State) : State := sched r (modRole r (fun x => { x.ready t false with tasks := tput {} x.tasks t k }) s)
/-- WDN_TC_OP with CREATE, written by role i (R702). -/
def tcCreate (i r t prio : Nat) (sm ovf : Bool) (s : State) : State :=
  let x := s.role i
  if !x.tcDone then s
  else if (s.task r t).live then tcDone i stBusy s
  else tcDone i stOk (startTask r t (freshTask (x.tcArg % 65536) (x.tcArg / 65536 % 65536) x.tcSlim prio sm ovf (s.task r t).epoch) s)
/-- WDN_TC_OP with CANCEL, written by role i (R703). -/
def tcCancel (i r t : Nat) (s : State) : State :=
  if !(s.role i).tcDone then s
  else if t = 0 then tcDone i stDenied s
  else if !(s.task r t).live then tcDone i stNote s
  else if (s.task r t).st == 2 && s.inAccess r then
    modRole i (fun x => { x with tcStatus := 0, tcDone := false }) (modTask r t (fun k => { k with cancel := some i }) s)
  else sched r (tcDone i stOk (park r t stCancelled s))
/-- TMRn_CFG of role r is written (R710, R712); the reserved MODE leaves MODE as it is (R60). -/
def timerArm (r n v : Nat) (s : State) : State :=
  modRole r (fun x => { x with timers := tmod {} x.timers n fun m =>
    let mode := if v % 4 = 3 then m.mode else v % 4
    { m with mode := mode, task := bitsOf v 8 4, bit := bitsOf v 15 12, guard := bitsOf v 31 16
             due := if mode = 0 || m.count = 0 then none else some (s.us + m.count) } }) s
/-- TMRn_COUNT is written; an armed timer with COUNT 0 disarms (R712). -/
def timerCount (r n v : Nat) (s : State) : State :=
  modRole r (fun x => { x with timers := tmod {} x.timers n fun m => { m with count := v % 2 ^ 32, due := if v % 2 ^ 32 = 0 then none else m.due } }) s
/-- A timer expires (R710). -/
def timerExpire (r n : Nat) (s : State) : State :=
  let m := tget {} (s.role r).timers n
  match m.due with
  | none => s
  | some d =>
    let next := if m.mode = 2 then some (d + m.count) else none
    postBit r m.task m.bit (modRole r (fun x => { x with timers := tmod {} x.timers n fun m => { m with due := next } }) s)
/-- The watchdog's period starts (R713). -/
def kick (r : Nat) (s : State) : State :=
  match (s.role r).desc, (s.coreOf r) with
  | some d, some _ => modRole r (fun x => { x with wdDue := some (s.us + 1000 * d.wdogMs) }) s
  | _, _ => s
/-- WDN_EVPOST (R708). -/
def evPost (v : Nat) (s : State) : State :=
  if v % 16 = 15 && bitsOf v 8 4 = 0 then s else postBit (bitsOf v 10 9) (bitsOf v 8 4) (v % 16) s

/-! ### WDN registers (Table 19-2) -/

/-- Word k of a context block (Table 19-5). -/
def WdTask.word (t : WdTask) (k : Nat) : Nat :=
  if k ≤ 15 then t.reg k
  else if inR k 20 35 then tget 0 t.stack (k - 20)
  else match k with
  | 16 => t.pc
  | 17 => t.st + t.prio * 16 + b2n t.sm * 256 + b2n t.ovf * 512
  | 18 => t.slim
  | 19 => t.rsp + t.rsc * 16
  | 36 => t.pending
  | 37 => t.mask
  | 38 => t.park
  | 39 => t.xcause
  | 40 => t.xpc
  | 41 => t.xinfo
  | 42 => t.epoch
  | _ => 0
/-- WDN_MAP. -/
def State.wdnMap (s : State) : Nat :=
  let m (i : Nat) : Nat := s.wdn.map.getD i 7
  m 0 + m 1 * 16 + m 2 * 256 + m 3 * 4096 + s.wdn.spare * 65536
/-- A read of a WDN register by role r; none at a reserved offset. -/
def wdnRead (r off : Nat) (s : State) : Option (Nat × State) :=
  let x := s.role r
  if inR off 0x100 0x1FF then
    let m := tget {} x.timers ((off - 0x100) / 16)
    match off % 16 with
    | 0 => some (m.count, s)
    | 4 => some (m.mode + m.task * 16 + m.bit * 4096 + m.guard * 65536, s)
    | 8 => some ((m.due.map (· - s.us)).getD 0, s)
    | _ => none
  else if inR off 0x200 0x27F then some (s.route r ((off - 0x200) / 4), s)
  else if inR off 0x4000 0x7FFF then
    let t := s.task ((off - 0x4000) / 4096) (off % 4096 / 128)
    let k := off % 128 / 2
    some (t.word k + t.word (k + 1) * 65536, s)
  else match off with
  | 0x000 => some (s.wdnMap, s)
  | 0x004 => some (r, s)
  | 0x008 => some (x.evdrop, modRole r (fun x => { x with evdrop := 0 }) s)
  | 0x00C => some ((x.running.map fun t => (s.task r t).pending).getD 0, s)
  | 0x010 => some (x.tcArg, s)
  | 0x014 => some (x.tcSlim, s)
  | 0x01C => some (x.tcStatus + b2n x.tcDone * 32768, s)
  | 0x018 | 0x020 | 0x024 => some (0, s)
  | 0x028 => some (min 65535 (ceilDiv ((x.wdDue.map (· - s.us)).getD 0) 1000), s)
  | _ => none
/-- A write of a WDN register by role r; none at a reserved offset. -/
def wdnWrite (r off v : Nat) (s : State) : Option State :=
  if inR off 0x100 0x1FF then
    let n := (off - 0x100) / 16
    match off % 16 with
    | 0 => some (timerCount r n v s)
    | 4 => some (timerArm r n v s)
    | 8 => some s
    | _ => none
  else if inR off 0x200 0x27F then
    let n := (off - 0x200) / 4
    some (if inR n 0x11 0x1E then s else modRole r (fun x => { x with routes := tput 0 x.routes n (v &&& 0xF1F7) }) s)
  else if inR off 0x4000 0x7FFF then some s
  else match off with
  | 0x000 | 0x004 | 0x008 | 0x00C | 0x01C | 0x028 => some s
  | 0x010 => some (modRole r (fun x => { x with tcArg := v % 2 ^ 32 }) s)
  | 0x014 => some (modRole r (fun x => { x with tcSlim := v % 65536 }) s)
  | 0x018 => some (match v % 4 with
    | 1 => tcCreate r (bitsOf v 3 2) (bitsOf v 8 4) (bitsOf v 11 9) (v.testBit 12) (v.testBit 13) s
    | 2 => tcCancel r (bitsOf v 3 2) (bitsOf v 8 4) s
    | _ => s)
  | 0x020 => some (evPost v s)
  | 0x024 => some (kick r s)
  | _ => none
/-- A read of an LCK register by a holder; none at a reserved offset (Table 19-7). -/
def lckRead (h off : Nat) (s : State) : Option (Nat × State) :=
  let n := off / 16
  if 0x400 ≤ off then none
  else match off % 16 with
  | 0 => some (lockAcquire h n s)
  | 4 => some (0, s)
  | 8 => some ((s.lock n).state, s)
  | 12 => some ((s.lock n).epoch, s)
  | _ => none
/-- A write of an LCK register by a holder; none at a reserved offset. -/
def lckWrite (h off : Nat) (s : State) : Option State :=
  if 0x400 ≤ off || off % 4 != 0 then none
  else some (if off % 16 = 4 then lockRelease h (off / 16) s else s)

end Sys2Proof.Machine
end

