-- ==== Sys2Proof/Machine/Identity.lean ====
section
/-!
DEFINITION. Sys2Proof/Machine/Identity.lean: what the device says of itself: its identity, an event-log record, the state of charge (ch 03, 02, 20).
-/
namespace Sys2Proof.Machine
open Sys2Proof

/-- The bytes of an event-log record (Table 02-8). -/
def LogRecord.bytes (r : LogRecord) : Bytes :=
  putLe 4 r.rtc.toNat ++ putLe 4 r.tick.toNat ++ putLe 1 r.source ++ putLe 1 r.severity ++ putLe 2 r.code ++ putLe 4 r.seq.toNat
    ++ (r.detail ++ zeros 16).take 16

/-- A charge of mAh in the units of Q_REM (log 66). -/
def Battery.charge (b : Battery) (mah : Nat) : Nat := mah * b.cfg.shunt * 301989888
/-- SOC in 0.1 %, when it is known (R751, R752). -/
def State.soc (s : State) : Option Nat :=
  let full := s.bat.charge s.aon.bat.cap
  if s.bat.known && s.bat.cfg.chem != 3 && full != 0 then some (s.bat.q * 1000 / full) else none

/-- This device's vertex ID, 0 while unassigned (R75). -/
def State.ownVertex (s : State) : Nat := s.lat.id
/-- STACK_ROLE: 0 none, 1 member, 2 leader (Table 03-13). -/
def State.stackRole (s : State) : Nat := s.lat.role
/-- Number of domains FENCED. -/
def State.fencedCount (s : State) : Nat := ((List.range 148).filter fun d => (s.domain d).st == .fenced).length
/-- The reply of DEV_IDENTIFY (Table 03-13). -/
def devIdentity (s : State) : Bytes :=
  let wardens := maskOf ((List.range 5).filter fun c => s.isOn (15 + c) && (s.roleOn c).isSome)
  putLe 4 0x5616 ++ s.otpAt 9 1 ++ s.otpAt 8 1 ++ putLe 1 s.lcyState ++ putLe 1 s.pmc.st.code ++ s.serial ++ putLe 2 s.ownVertex ++ putLe 1 s.stackRole
    ++ putLe 1 s.trustGen ++ putLe 4 s.wdn.fwVersion ++ putLe 1 (s.lcy.running.getD 0) ++ putLe 1 wardens ++ putLe 2 s.fencedCount ++ putLe 4 s.aon.rtcSec.toNat

end Sys2Proof.Machine
end

