-- ==== Sys2Proof/Machine/LblOps.lean ====
section
/-!
DEFINITION. Sys2Proof/Machine/LblOps.lean: the label's memory, its arbiter and the device-side transactions (ch 22).
-/
namespace Sys2Proof.Machine
open Sys2Proof

/-- Change the label. -/
def modLbl (f : Label → Label) (s : State) : State := { s with lbl := f s.lbl }
/-- The block lies in an area that field and wardens may write: NDEF or OPERATOR (Table 22-1). -/
def lblOpen (b : Nat) : Bool := inR b 2 511 || inR b 1152 2047
/-- Store bytes in the label memory. -/
def lblStore (a : Nat) (data : Bytes) (s : State) : State := modLbl (fun x => { x with mem := x.mem.writeN a data }) s
/-- The device side of the label works (R814). -/
def State.lblOn (s : State) : Bool := s.isOn 21
/-- A field transaction runs (R808). -/
def State.lblField (s : State) : Bool := decide (s.us < s.lbl.fieldEnd)
/-- A device-side write runs (R811). -/
def State.lblWriting (s : State) : Bool := s.lbl.jobs.any (·.running)
/-- Set the mailbox STATE (Table 22-5). -/
def lblMailbox (st : Nat) (s : State) : State := lblStore 4352 [BitVec.ofNat 8 st] s

/-! ### Records the device writes -/

/-- The CC area (Table 22-1). -/
def lblCc : Bytes := [0xE2, 0x40, 0x00, 0x01, 0x00, 0x00, 0x03, 0xFF]
/-- IDENT bytes 0-51 with their CRC (Table 22-3). -/
def identCrc (b : Bytes) : Bytes := b ++ putLe 4 (crc32c b).toNat
/-- IDENT bytes 0-40. -/
def identHead (cause : Nat) (s : State) : Bytes := putLe 4 0x4C424C31 ++ devIdentity s ++ putLe 4 s.aon.rtcSec.toNat ++ putLe 1 cause
/-- The records of a mirror: the last 64, oldest first (R67). -/
def State.mirrorRecords (s : State) : List LogRecord := s.log.records.drop (s.log.records.length - 64)
/-- The whole identity record after a mirror of n records (R816). -/
def identFull (n : Nat) (s : State) : Bytes :=
  let seq := ((s.mirrorRecords.head?).map fun r => r.seq.toNat).getD 0
  identCrc (identHead 1 s ++ putLe 1 n ++ zeros 2 ++ putLe 4 seq ++ putLe 2 ((s.soc).getD 0xFFFF) ++ zeros 2) ++ zeros 200
/-- The eight transactions of records and the identity record (R816). -/
def mirrorJobs (s : State) : List LblJob :=
  let recs := s.mirrorRecords
  ((List.range 8).map fun k =>
    let part := (recs.drop (8 * k)).take 8
    ({ use := .mirror (8 * k) part.length, addr := 2304 + 256 * k, data := ((part.map LogRecord.bytes).flatten ++ zeros 256).take 256 } : LblJob))
    ++ [{ use := .mirrorEnd, addr := 2048 }]
/-- The bytes that a job writes, taken when it is accepted. -/
def jobData (j : LblJob) (s : State) : Bytes :=
  match j.use with
  | .ident => if j.data.isEmpty then identCrc (identHead 0 s ++ s.lbl.mem.readN 2089 11) else j.data
  | .mirrorEnd => identFull s.lbl.mirrored s
  | _ => j.data

/-! ### Transactions (R808-R812) -/

/-- The outcome of a warden's operation. -/
def lblDone (status : Nat) (s : State) : State := modLbl (fun x => { x with status := status, done := true }) s
/-- The mirror has ended: SHELF entry goes on (R816). -/
def mirrorOver (s : State) : State :=
  let s := modLbl (fun x => { x with mirrorAt := none }) s
  { s with pmc := { s.pmc with trans := s.pmc.trans.map fun t => { t with mirror := 2 } } }
/-- A device-side transaction ends with a status. -/
def jobEnd (j : LblJob) (status : Nat) (s : State) : State :=
  match j.use with
  | .warden _ => lblDone status s
  | .mirror r n => whenS (status == stOk) (modLbl fun x => { x with mirrored := r + n }) s
  | .mirrorEnd => mirrorOver s
  | _ => s
/-- A block that the job would write is locked: a lock of the field may come between a request and its acceptance (R806). -/
def jobBarred (j : LblJob) (data : Bytes) (s : State) : Bool := s.lbl.locked.any fun b => decide (j.addr < 4 * b + 4) && decide (4 * b < j.addr + data.length)
/-- The first transaction is accepted unless a field transaction runs; then it is deferred (R808, R809). A read ends at once, and a write into a
block that has been locked meanwhile completes with DENIED (R813). -/
def lblPump : Nat → State → State
  | 0, s => s
  | n + 1, s =>
    match s.lbl.jobs with
    | [] => s
    | j :: rest =>
      if j.running then s
      else if s.lblField then modLbl (fun x => { x with jobs := { j with since := some (j.since.getD s.us) } :: rest }) s
      else
        let data := jobData j s
        if data.isEmpty then
          let s := modLbl (fun x => { x with jobs := rest, buf := overwrite x.buf 0 (x.mem.readN j.addr (4 * j.count)) }) s
          lblPump n (jobEnd j stOk s)
        else if jobBarred j data s then lblPump n (jobEnd j stDenied (modLbl (fun x => { x with jobs := rest }) s))
        else modLbl (fun x => { x with jobs := { j with running := true, since := none, data := data } :: rest }) s
/-- Accept what can be accepted. -/
def lblGo (s : State) : State := lblPump (s.lbl.jobs.length + 1) s
/-- A device-side request arrives; with D021 FENCED or GATED it completes with FENCED (R814). -/
def lblSubmit (j : LblJob) (s : State) : State :=
  if s.lblOn then lblGo (modLbl (fun x => { x with jobs := x.jobs ++ [j] }) s) else jobEnd j stFenced s
/-- The running write commits (R811). -/
def lblCommit (s : State) : State :=
  match s.lbl.jobs with
  | j :: rest => if j.running then jobEnd j stOk (lblStore j.addr j.data (modLbl (fun x => { x with jobs := rest }) s)) else s
  | [] => s
/-- The mirror of step 2 of SHELF entry (R67, R816): made in one go when nothing else uses the label, else its transactions wait. -/
def labelMirror (s : State) : State :=
  if !s.lblOn then mirrorOver s
  else
    let s := modLbl (fun x => { x with mirrored := 0 }) s
    let jobs := mirrorJobs s
    if s.lbl.jobs.isEmpty && !s.lblField then
      forEach jobs (fun j s => jobEnd j stOk (lblStore j.addr (jobData j s) s)) s
    else
      let s := modLbl (fun x => { x with jobs := x.jobs ++ jobs, mirrorAt := some s.us }) s
      lblGo { s with pmc := { s.pmc with trans := s.pmc.trans.map fun t => { t with mirror := 1 } } }
/-- What a C or a W does to the label (R812, R820): an accepted write commits, waiting ones are dropped, and a PENDING mailbox becomes EMPTY. -/
def lblReset (s : State) : Label :=
  let x := (lblCommit s).lbl
  let x := if u8 (x.mem.readN 4352 1) 0 = 1 then { x with mem := x.mem.writeN 4352 [0] } else x
  { ({} : Label) with mem := x.mem, locked := x.locked, field := x.field, tag := x.tag, fieldEnd := x.fieldEnd, wrong := x.wrong, barred := x.barred, wokeAt := x.wokeAt }
/-- BOOT_DONE (R802, R815): the CC area if it is not as it should be, and the identity record. -/
def lblBoot (s : State) : State :=
  let s := whenS (s.lbl.mem.readN 0 8 != lblCc) (lblSubmit { use := .ident, addr := 0, data := lblCc }) s
  lblSubmit { use := .ident, addr := 2048 } s
/-- D021 is fenced or gated: what has not been accepted completes with FENCED (R814). -/
def lblFenced (s : State) : State :=
  let gone := s.lbl.jobs.filter fun j => !j.running
  forEach gone (fun j s => jobEnd j stFenced s) (modLbl (fun x => { x with jobs := x.jobs.filter (·.running) }) s)

/-! ### Registers (Table 22-4) -/

/-- A write of LBL_CTL by a core (R813). -/
def lblOp (core op : Nat) (s : State) : State :=
  let x := s.lbl
  let blocks := (List.range x.count).map (x.block + ·)
  if !(op == 1 || op == 2) || !x.done then s
  else if x.count = 0 || 64 < x.count || 2048 < x.block + x.count then lblDone stBadParam s
  else if op == 2 && !(blocks.all fun b => lblOpen b && !x.locked.contains b) then lblDone stDenied s
  else
    let s := modLbl (fun x => { x with done := false, status := 0 }) s
    lblSubmit (if op == 2 then { use := .warden core, addr := 4 * x.block, data := x.buf.take (4 * x.count) }
               else { use := .warden core, addr := 4 * x.block, count := x.count }) s
/-- A read of an LBL register; none at a reserved offset. -/
def lblRead (off : Nat) (s : State) : Option Nat :=
  let x := s.lbl
  if inR off 0x100 0x1FF then (if off % 4 = 0 then some (u32 x.buf (off - 0x100)) else none)
  else match off with
  | 0x000 => some (x.block + x.count * 65536)
  | 0x004 => some 0
  | 0x008 => some (x.status + b2n x.done * 32768 + b2n (x.jobs.any fun j => j.since.isSome) * 65536 + b2n x.field * 131072)
  | _ => none
/-- A write of an LBL register by a core; none at a reserved offset. -/
def lblWrite (core off v : Nat) (s : State) : Option State :=
  if inR off 0x100 0x1FF then
    (if off % 4 = 0 then some (modLbl (fun x => { x with buf := overwrite x.buf (off - 0x100) (putLe 4 v) }) s) else none)
  else match off with
  | 0x000 => some (modLbl (fun x => { x with block := bitsOf v 10 0, count := bitsOf v 22 16 }) s)
  | 0x004 => some (lblOp core (v % 4) s)
  | 0x008 => some s
  | _ => none

end Sys2Proof.Machine
end

