-- ==== Sys2Proof/Machine/Cad.lean ====
section
/-!
DEFINITION. Sys2Proof/Machine/Cad.lean: allocation, release and charging of caddies (ch 09).
-/
namespace Sys2Proof.Machine
open Sys2Proof

/-- Pool p. -/
def State.pool (s : State) (p : Nat) : Pool := tget {} s.cad.pools p
/-- Change pool p. -/
def modPool (p : Nat) (f : Pool → Pool) (s : State) : State := { s with cad := { s.cad with pools := tmod {} s.cad.pools p f } }
/-- Free count. -/
def Pool.free (x : Pool) : Nat := x.n - x.owned.length - x.wiping.length
/-- RSV (R324). -/
def Pool.rsv (x : Pool) : Nat := ceilDiv x.n 20
/-- The free count a class must exceed (Table 09-2): 0 CONTROL, 1 ENGINE, 2 FETCH, 3 INGRESS. -/
def Pool.threshold (x : Pool) (cls : Nat) : Nat := match cls with | 0 => 0 | 1 => x.rsv | _ => 2 * x.rsv
/-- The pool may serve an allocation of a class. -/
def Pool.serves (x : Pool) (cls : Nat) : Bool := x.st == 1 && decide (x.threshold cls < x.free)
/-- The index has left the pool (R340). -/
def Pool.isGone (x : Pool) (i : Nat) : Bool := x.gone.any fun r => inR i r.1 (r.2 - 1)

/-- Handle of a buffer (Table 09-5). -/
def handleOf (store : Bool) (p i : Nat) : Nat := i + p * 2 ^ 22 + (if store then 2 ^ 25 else 0)

/-- Take up to k indices from the free store into the cache (R334, R335). -/
def Pool.refill (x : Pool) : Nat → Pool
  | 0 => x
  | k + 1 =>
    match x.front with
    | i :: t => Pool.refill { x with front := t, cache := x.cache ++ [i] } k
    | [] =>
      if x.fresh < x.made then
        Pool.refill (if x.isGone x.fresh then { x with fresh := x.fresh + 1 } else { x with fresh := x.fresh + 1, cache := x.cache ++ [x.fresh] }) k
      else match x.back with
        | i :: t => Pool.refill { x with back := t, cache := x.cache ++ [i] } k
        | [] => x
/-- Write up to 64 indices of the cache back to the store (R334); a list store takes them at its head (R335). -/
def Pool.spillBack (x : Pool) : Pool :=
  let out := x.cache.take 64
  if x.store == 2 then { x with cache := x.cache.drop 64, front := out ++ x.front } else { x with cache := x.cache.drop 64, back := x.back ++ out }
/-- One index becomes free. -/
def Pool.giveBack (x : Pool) (i : Nat) : Pool :=
  let x := if 512 ≤ x.cache.length then x.spillBack else x
  { x with cache := x.cache ++ [i] }

/-- Bytes charged to an owner (R328). -/
def State.charge (s : State) (owner : Nat) : Nat :=
  let mine (l : List Buf) : Nat := (l.filter fun b => b.owner == owner).length
  s.cad.pools.foldl (fun n p => n + mine p.2.owned * p.2.size) (mine s.cad.ctl * 4096)
/-- A further charge keeps a tenant within its quota (R329). -/
def State.quotaOk (s : State) (owner bytes : Nat) : Bool :=
  decide (16 ≤ owner) || decide (s.charge owner + bytes ≤ (tget {} s.host.tenants owner).quotaKib * 1024)

/-- Created pools from the smallest size up. -/
def State.createdPools (s : State) : List Nat :=
  let ps := (List.range 8).filter fun p => (s.pool p).st != 0
  ps.mergeSort fun a b => decide ((s.pool a).size ≤ (s.pool b).size)
/-- Walk of R321 over created pools that fit. -/
def walkPools (s : State) (cls : Nat) : List Nat → Option Nat
  | [] => none
  | p :: t =>
    if (s.pool p).serves cls then some p
    else if (s.pool p).spill || (s.pool p).mode == 2 then walkPools s cls t else none
/-- The pool that serves a length (R321); in single-size mode the lowest-numbered pool that can (log 21). -/
def State.pickPool (s : State) (cls len : Nat) : Option Nat :=
  walkPools s cls (s.createdPools.filter fun p => decide (len ≤ (s.pool p).size))
/-- Lengths of the buffers of a datum (R322). -/
def State.chainLens (s : State) (len : Nat) : List Nat :=
  let big := s.createdPools.foldl (fun m p => max m (s.pool p).size) 0
  if len ≤ big || big == 0 then [len]
  else let k := (len - 1) / big; List.replicate k big ++ [len - k * big]

/-- POOL_LOW and POOL_EMPTY when an allocation reaches a threshold (R344, Table 09-7). -/
def poolEvents (p before : Nat) (s : State) : State :=
  let x := s.pool p
  let low (code thr : Nat) (s : State) : State :=
    logLimited 8 0x8001 p 1 100000 (detail [(16, 1, p), (19, 1, code), (20, 4, thr)]) s
  let s := whenS (decide (2 * x.rsv < before) && decide (x.free ≤ 2 * x.rsv)) (low 1 x.free) s
  let s := whenS (decide (x.rsv < before) && decide (x.free ≤ x.rsv)) (low 2 x.free) s
  whenS (decide (0 < before) && x.free == 0) (logLimited 8 0x8002 p 1 100000 (detail [(16, 1, p)])) s

/-- Give one buffer of a pool to an owner; the index handed out is any of the cache (log 3). -/
def takeFrom (p owner fn : Nat) (s : State) : Option (Nat × State) :=
  let x := s.pool p
  let x := if x.cache.isEmpty then x.refill 64 else x
  if x.cache.isEmpty then none
  else
    let (k, s) := freeNat x.cache.length s
    let i := x.cache.getD k 0
    let before := x.free
    let s := modPool p (fun _ => { x with cache := x.cache.eraseIdx k, owned := x.owned ++ [⟨i, owner, fn⟩] }) s
    some (handleOf false p i, poolEvents p before s)
/-- First free index of the control store. -/
def State.ctlFree (s : State) : Option Nat := (List.range 512).find? fun i => !(s.cad.ctl.any fun b => b.index == i)

/-- One buffer for a length (R321, R324, R325, R329). -/
def takeOne (cls owner fn len : Nat) (s : State) : Option (Nat × State) :=
  let fromPool : Option (Nat × State) :=
    match s.pickPool cls len with
    | none => none
    | some p => if (cls == 2 || cls == 3) && !s.quotaOk owner (s.pool p).size then none else takeFrom p owner fn s
  if cls == 0 then
    match s.ctlFree with
    | some i => some (handleOf true 0 i, { s with cad := { s.cad with ctl := s.cad.ctl ++ [⟨i, 17, fn⟩] } })
    | none => fromPool
  else fromPool
/-- Every buffer of a chain. -/
def takeChain (cls owner fn : Nat) : List Nat → State → Option (List Nat × State)
  | [], s => some ([], s)
  | l :: t, s =>
    match takeOne cls owner fn l s with
    | none => none
    | some (h, s) => (takeChain cls owner fn t s).map fun r => (h :: r.1, r.2)
/-- The buffers of a datum, or none when one of them is refused. -/
def cadTake (cls owner fn len : Nat) (s : State) : Option (List Nat × State) :=
  takeChain cls owner fn (if cls == 0 && s.ctlFree.isSome then [len] else s.chainLens len) s

/-- The owned buffer a handle names. -/
def State.bufOf (s : State) (h : Nat) : Option Buf :=
  let i := h % 2 ^ 22
  if h.testBit 25 then s.cad.ctl.find? fun b => b.index == i else (s.pool (h / 2 ^ 22 % 8)).owned.find? fun b => b.index == i
/-- A handle names a buffer of a created pool or of the control store (R337). -/
def State.handleOk (s : State) (h : Nat) : Bool :=
  let i := h % 2 ^ 22
  decide (h < 2 ^ 26) && (if h.testBit 25 then decide (i < 512)
    else let x := s.pool (h / 2 ^ 22 % 8); x.st != 0 && decide (i < x.made) && !x.isGone i)

/-- A free by a block or a warden core: its status, with the records of R336 and R337. -/
def cadFree (agent core h : Nat) (s : State) : Nat × State :=
  let p := h / 2 ^ 22 % 8
  let i := h % 2 ^ 22
  let det := detail [(16, 1, if h.testBit 25 then 8 else p), (17, 1, agent), (18, 1, core), (20, 4, h)]
  if !s.handleOk h then (stBadParam, logEvent 8 0x0014 det s)
  else match s.bufOf h with
  | none =>
    let s := if h.testBit 25 then s else modPool p (fun x => { x with doubleFrees := min 0xFFFFFFFF (x.doubleFrees + 1) }) s
    (stDoubleFree, logEvent 8 0x0052 det s)
  | some _ =>
    if h.testBit 25 then (stOk, { s with cad := { s.cad with ctl := s.cad.ctl.filter fun b => b.index != i } })
    else (stOk, modPool p (fun x => { (x.giveBack i) with owned := x.owned.filter (fun b => b.index != i), returned := if x.st == 2 then x.returned + 1 else x.returned }) s)
/-- A block frees the buffers of finished work (R338: whatever the answer, the work goes on). -/
def cadRelease (hs : List Nat) (s : State) : State := forEach hs (fun h s => if (s.bufOf h).isSome then (cadFree 0 0xFF h s).2 else s) s

/-- Move the charge of buffers to another owner, unless that would exceed its quota (R330). -/
def cadMove (hs : List Nat) (owner fn : Nat) (s : State) : Option State :=
  let size (h : Nat) : Nat := if h.testBit 25 then 4096 else (s.pool (h / 2 ^ 22 % 8)).size
  let extra := (hs.filter fun h => (s.bufOf h).any fun b => b.owner != owner).foldl (fun n h => n + size h) 0
  if !s.quotaOk owner extra then none
  else some (forEach hs (fun h s =>
    let f (l : List Buf) : List Buf := modWhere (fun b => b.index == h % 2 ^ 22) (fun b => { b with owner := owner, fn := fn }) l
    if h.testBit 25 then { s with cad := { s.cad with ctl := f s.cad.ctl } } else modPool (h / 2 ^ 22 % 8) (fun x => { x with owned := f x.owned }) s) s)

/-- An F or a T returns the buffers of its scope: they are wiped before they become free (R31, R332). -/
def cadReturn (sel : Buf → Bool) (s : State) : State :=
  let s := forEach (List.range 8) (fun p s =>
    if (s.pool p).owned.any sel then
      modPool p (fun x => { x with owned := x.owned.filter fun b => !sel b,
                                   wiping := x.wiping ++ (x.owned.filter sel).map (·.index),
                                   returned := if x.st == 2 then x.returned + (x.owned.filter sel).length else x.returned }) s
    else s) s
  { s with cad := { s.cad with ctl := s.cad.ctl.filter fun b => !sel b,
                               waits := s.cad.waits.filter fun w => !sel ⟨0, w.owner, w.fn⟩ } }

/-- The bytes a buffer index occupies in its area. -/
def Pool.extent (x : Pool) (i : Nat) : Nat × Nat :=
  let start := if x.store == 1 then ceilDiv (4 * x.made) 4096 * 4096 + i * x.size else i * x.size
  (start, start + x.size)

/-- A bank or a region has a use: a pool's, or the event log or the control store that was moved into it (R343, R978). -/
def State.areaUsed (s : State) (place chan i : Nat) : Bool :=
  ((List.range 8).any fun q => let x := s.pool q; x.st != 0 && x.place == place && (place == 1 || x.chan == chan) && inR i x.first (x.first + x.count - 1))
    || (place == 1 && s.cad.moved.any fun m => m.2 == i)

end Sys2Proof.Machine
end

