-- ==== Sys2Proof/Machine/RingOps.lean ====
section
/-!
DEFINITION. Sys2Proof/Machine/RingOps.lean: DMA checks (ch 06) and the operations of ring pairs (ch 08).
-/
namespace Sys2Proof.Machine
open Sys2Proof

/-! ### DMA (R222-R230) -/

/-- VF f. -/
def State.vf (s : State) (f : Nat) : Vf := tget {} s.host.vfs f
/-- Change VF f. -/
def modVf (f : Nat) (g : Vf → Vf) (s : State) : State := { s with host := { s.host with vfs := tmod {} s.host.vfs f g } }
/-- Tenant t. -/
def State.tenant (s : State) (t : Nat) : Tenant := tget {} s.host.tenants t
/-- Change tenant t. -/
def modTenant (t : Nat) (g : Tenant → Tenant) (s : State) : State :=
  { s with host := { s.host with tenants := tmod {} s.host.tenants t g } }
/-- VF f is enabled under SR-IOV (R210). -/
def State.vfOn (s : State) (f : Nat) : Bool := s.pce.vfEnable && decide (f < s.pce.numVfs)
/-- The participant a function's work is charged to: its tenant, PF0 (16) or, unbound, the device (17). -/
def State.ownerOf (s : State) (f : Nat) : Nat := if f == pf0 then 16 else ((s.vf f).tenant).getD 17

/-- What the check of a transfer says. -/
inductive DmaCheck where
  /-- Issued. -/
  | pass
  /-- Refused, with CAUSE of Table 06-6. -/
  | refused (cause : Nat)
  /-- No transfer is issued and none is counted (R209, R1044). -/
  | silent
  deriving DecidableEq, Repr

/-- R223 and R225 for a transfer of len bytes. -/
def dmaCheck (f addr len : Nat) (write : Bool) (s : State) : DmaCheck :=
  if !s.fnTalks f then .silent
  else if f == pf0 then (if (s.fn f).bme then .pass else .refused 1)
  else if !s.vfOn f || !(s.fn f).bme then .refused 1
  else if (s.vf f).windows.any fun w => w.size4k != 0 && w.perm.testBit (b2n write) && decide (w.base ≤ addr)
      && decide (addr + len ≤ w.base + w.size4k * 4096) then .pass
  else .refused 0

/-- Count, capture and record a refused or failed transfer (R229, R230). -/
def dmaFault (f dir cause addr len : Nat) (s : State) : State :=
  let p := s.pce
  let first := !p.event.testBit 2
  let p := { p with dmafCount := min 0xFFFFFFFF (p.dmafCount + 1) }
  let p := if first then { p with dmafAddr := addr, dmafInfo := f + 128 * dir + 256 * cause, dmafLen := len } else p
  let s := countEv 5 f 17 1 { s with pce := p }
  let s := whenS first (mgtEvent 0x04) s
  logLimited 5 0x8001 f 1 1000 (detail [(16, 1, f), (17, 1, dir), (18, 1, cause), (20, 8, addr), (28, 4, len)]) s

/-- A write transfer: whether it went out. -/
def dmaPut (f addr : Nat) (bytes : Bytes) (s : State) : Bool × State :=
  match dmaCheck f addr bytes.length true s with
  | .pass => (true, countEv 5 f 19 bytes.length (emit (.dmaWrite f addr bytes) s))
  | .refused c => (false, dmaFault f 1 c addr bytes.length s)
  | .silent => (false, s)
/-- A read transfer of a segment whose completion returned data (none: UR, CA or poison): the data, or none with the fault captured. -/
def dmaGet (f addr len : Nat) (returned : Option Bytes) (s : State) : Option Bytes × State :=
  match dmaCheck f addr len false s with
  | .pass =>
    let s := emit (.dmaRead f addr len 0) s
    match returned with
    | some b => (some ((b ++ zeros len).take len), countEv 5 f 18 len s)
    | none => (none, dmaFault f 0 2 addr len s)
  | .refused c => (none, dmaFault f 0 c addr len s)
  | .silent => (none, s)

/-! ### Ring pairs -/

/-- Ring pair g, if it exists. -/
def State.ring (s : State) (g : Nat) : Option Ring := tget none s.host.rings g
/-- Set or remove ring pair g. -/
def setRing (g : Nat) (r : Option Ring) (s : State) : State := { s with host := { s.host with rings := tput none s.host.rings g r } }
/-- Change ring pair g. -/
def modRing (g : Nat) (f : Ring → Ring) (s : State) : State :=
  match s.ring g with
  | some r => setRing g (some (f r)) s
  | none => s
/-- The ring pairs that exist. -/
def State.rings (s : State) : List (Nat × Ring) := s.host.rings.filterMap fun x => x.2.map fun r => (x.1, r)
/-- The ring pair of a function's local index. -/
def State.ringAt (s : State) (f loc : Nat) : Option (Nat × Ring) := s.rings.find? fun x => x.2.fn == f && x.2.loc == loc

/-- Submission depth. -/
def Ring.sqDepth (r : Ring) : Nat := 2 ^ r.sqLog
/-- Completion depth. -/
def Ring.cqDepth (r : Ring) : Nat := 2 ^ r.cqLog
/-- Room in the completion ring (R288). -/
def Ring.room (r : Ring) : Nat :=
  let used := (r.cqTail + r.cqDepth - r.cqHead) % r.cqDepth
  let reserved := r.work.foldl (fun n w => n + w.slots.length) 0 + (r.fetch.map (·.reserve)).getD 0
  r.cqDepth - 1 - used - reserved
/-- The largest reservation an entry of the ring could need (R283). -/
def Ring.maxReserve (r : Ring) : Nat := if r.cls == 3 && r.wide then 8 else 1

/-- The bytes of a completion entry (Table 08-7). -/
def CqEntry.bytes (e : CqEntry) (sqHead : Nat) (phase : Bool) : Bytes :=
  putLe 8 e.user ++ putLe 4 e.length ++ putLe 2 sqHead ++ putLe 2 (e.status + 0x8000 * b2n phase) ++ putLe 1 e.kind
    ++ putLe 1 e.segMask ++ putLe 1 e.segIndex ++ putLe 1 e.flags ++ putLe 4 e.rxInfo ++ putLe 8 e.aux

/-- Announce a written completion (Table 08-8). -/
def announce (g : Nat) (s : State) : State :=
  match s.ring g with
  | none => s
  | some r =>
    match r.notify with
    | 1 => sendMsix r.fn r.vector (setRing g (some { r with unannounced := 0 }) s)
    | 2 =>
      if r.modNow + 1 = r.modCount then
        sendMsix r.fn r.vector (setRing g (some { r with modNow := 0, modTimer := false, unannounced := 0 }) s)
      else setRing g (some { r with modNow := r.modNow + 1, modTimer := true, unannounced := r.unannounced + 1 }) s
    | _ => setRing g (some { r with unannounced := r.unannounced + 1 }) s

/-- RING_DESTROY has stopped the ring pair (R308). -/
def Ring.ending (r : Ring) : Bool := r.st == .draining || r.st == .drainingFaulted
/-- The ring pair is FAULTED: no completion is written and no message sent (R301). -/
def Ring.mute (r : Ring) : Bool := r.st == .faulted || r.st == .drainingFaulted
/-- Counter 5-16 of GROUP 0x05 that a completion status counts in (Table 28-2). -/
def statusCounter (st : Nat) : Nat :=
  5 + (([stOk, stNote, stBadParam, stDenied, stFault, stSpoof, stCharter, stCancelled, stNoResource, stFenced, stAborted].findIdx? (· == st)).getD 11)
/-- Write one completion entry, or move the ring pair to FAULTED when its write is refused (R293, R294, R301). -/
def writeCq (g : Nat) (e : CqEntry) (s : State) : State :=
  match s.ring g with
  | none => s
  | some r =>
    let addr := r.cqBase + r.cqTail * 32
    match dmaCheck r.fn addr 32 true s with
    | .pass =>
      let s := countEv 5 r.fn (statusCounter e.status) 1 (countEv 5 r.fn 3 1 (countEv 5 r.fn 19 32 (emit (.dmaWrite r.fn addr (e.bytes r.head r.phase)) s)))
      let tail := (r.cqTail + 1) % r.cqDepth
      announce g (setRing g (some { r with cqTail := tail, phase := if tail = 0 then !r.phase else r.phase }) s)
    | .refused c =>
      let s := dmaFault r.fn 1 c addr 32 s
      logEvent 7 0x8004 (detail [(16, 1, r.fn), (17, 1, r.loc), (18, 2, g), (20, 4, r.cqTail), (24, 1, c)]) 
        (setRing g (some { r with st := if r.ending then .drainingFaulted else .faulted, modNow := 0, modTimer := false }) s)
    | .silent => s

/-- Take the leading ready completion of a ring, if the first admitted entry has one; an entry without slots leaves. -/
def Ring.popReady (r : Ring) : Option (Option CqEntry × Ring) :=
  match r.work with
  | [] => none
  | w :: t =>
    match w.slots with
    | [] => some (none, { r with work := t })
    | .ready e :: rest => some (some e, { r with work := { w with slots := rest, segBase := w.segBase + 1 } :: t })
    | _ => none
/-- Write every completion whose turn has come (R289); a FAULTED ring writes none. -/
def flushCq (g : Nat) : Nat → State → State
  | 0, s => s
  | n + 1, s =>
    match s.ring g with
    | none => s
    | some r =>
      match r.popReady with
      | none => s
      | some (none, r') => flushCq g n (setRing g (some (if r.ending then { r' with drained := r'.drained + 1 } else r')) s)
      | some (some e, r') =>
        let s := setRing g (some r') s
        flushCq g n (if r.mute then s else writeCq g e s)
/-- Steps that a flush can need. -/
def Ring.flushFuel (r : Ring) : Nat := r.work.foldl (fun n w => n + w.slots.length + 1) 1
/-- Write what is ready. -/
def settle (g : Nat) (s : State) : State := flushCq g ((s.ring g).map (·.flushFuel) |>.getD 0) s

/-- Change the admitted entry seq of a ring. -/
def modWork (g seq : Nat) (f : RingWork → RingWork) (s : State) : State :=
  modRing g (fun r => { r with work := modWhere (fun w => w.seq == seq) f r.work }) s
/-- The admitted entry seq of a ring. -/
def State.workOf (s : State) (g seq : Nat) : Option RingWork := ((s.ring g).bind fun r => r.work.find? fun w => w.seq == seq)

/-- KIND of an entry. -/
def entKind (e : Bytes) : Nat := u8 e 0
/-- BUNDLE. -/
def entBundle (e : Bytes) : Bool := (u8 e 1).testBit 0
/-- SEG_COUNT. -/
def entSegs (e : Bytes) : Nat := u8 e 2
/-- TC. -/
def entTc (e : Bytes) : Nat := u8 e 3 % 8
/-- KEY_INDEX. -/
def entKey (e : Bytes) : Nat := u16 e 4
/-- USER. -/
def entUser (e : Bytes) : Nat := u64 e 8
/-- Offset of segment n (Table 08-4, Table 08-5). -/
def entSegOff (e : Bytes) (n : Nat) : Nat := if entBundle e then 32 + 12 * n else 16 + 12 * n
/-- ADDR of segment n. -/
def entAddr (e : Bytes) (n : Nat) : Nat := u64 e (entSegOff e n)
/-- LEN of segment n. -/
def entLen (e : Bytes) (n : Nat) : Nat := u32 e (entSegOff e n + 8)
/-- NSID. -/
def entNsid (e : Bytes) : Nat := u32 e (if entBundle e then 16 else 40)
/-- KIND_PARAMS. -/
def entParams (e : Bytes) : Bytes := if entBundle e then slice e 20 12 else slice e 44 20
/-- SEG_MASK of an entry-level failure (R296). -/
def entAllMask (e : Bytes) : Nat := 2 ^ (min (entSegs e) (if entBundle e then 8 else 2)) - 1

/-- Complete an entry in one completion: its caddies are freed, its first slot is ready and the others are released. -/
def finishEntry (g seq : Nat) (e : CqEntry) (s : State) : State :=
  match s.workOf g seq with
  | none => s
  | some w => settle g (modWork g seq (fun w => { w with slots := [.ready e], bufs := [] }) (cadRelease w.bufs s))
/-- Fail an entry as a whole (R290, R296). -/
def failEntry (g seq status : Nat) (s : State) : State :=
  match s.workOf g seq with
  | none => s
  | some w => finishEntry g seq { user := entUser w.entry, status := status, kind := entKind w.entry, segMask := entAllMask w.entry } s

/-- Clear a ring pair (R305): cause 0 F, 1 T, 2 unbind. It stays CLEARING until the reset ends; one that RING_DESTROY has stopped stays DRAINING, with
nothing left to complete (R292, R308). The entry of an outstanding fetch is discarded too (R309). -/
def clearRing (g cause : Nat) (s : State) : State :=
  match s.ring g with
  | none => s
  | some r =>
    let s := logEvent 7 0x8002 (detail [(16, 1, r.fn), (17, 1, r.loc), (18, 1, cause), (20, 4, r.work.length + b2n r.fetch.isSome)]) s
    setRing g (some { r with st := if r.ending then .draining else .clearing, head := 0, tail := 0, cqHead := 0, cqTail := 0, phase := true, work := [], fetch := none,
                             pollRead := none, modNow := 0, modTimer := false, unannounced := 0 }) s
/-- The reset of a cleared ring pair has ended. -/
def ringRuns (g : Nat) (s : State) : State := modRing g (fun r => if r.st == .clearing then { r with st := .running } else r) s

end Sys2Proof.Machine
end

