-- ==== Sys2Proof/Machine/Sched.lean ====
section
/-!
DEFINITION. Sys2Proof/Machine/Sched.lean: token buckets, admission, deficit round robin and drops (ch 12).
-/
namespace Sys2Proof.Machine
open Sys2Proof

/-- Scheduling point k: a vport for an egress point, 0x103 host delivery, 0x104-0x106 the engine pools. -/
def State.point (s : State) (k : Nat) : SchPoint := tget {} s.net.points k
/-- Change a scheduling point. -/
def modPoint (k : Nat) (f : SchPoint → SchPoint) (s : State) : State := { s with net := { s.net with points := tmod {} s.net.points k f } }
/-- Port p. -/
def State.port (s : State) (p : Nat) : Port := tget {} s.net.ports p
/-- Change port p. -/
def modPort (p : Nat) (f : Port → Port) (s : State) : State := { s with net := { s.net with ports := tmod {} s.net.ports p f } }
/-- A port that sends: up, and not signalling a fault (R352). -/
def State.portUp (s : State) (p : Nat) : Bool := (s.port p).st == 3
/-- Aggregate a. -/
def State.agg (s : State) (a : Nat) : Agg := tget {} s.net.aggs a
/-- Change aggregate a. -/
def modAgg (a : Nat) (f : Agg → Agg) (s : State) : State := { s with net := { s.net with aggs := tmod {} s.net.aggs a f } }

/-- Ports of a mode (Table 10-1). -/
def modePorts (m : Nat) : Nat := ([0, 1, 2, 4, 8, 8, 8] : List Nat).getD m 0
/-- Port rate of a mode in Mb/s (Table 10-1). -/
def modeRate (m : Nat) : Nat := ([0, 400000, 200000, 100000, 50000, 25000, 10000] : List Nat).getD m 0
/-- Lanes of port p in a mode (Table 10-1). -/
def modeLanes (m p : Nat) : List Nat :=
  let n := modePorts m
  if n = 0 then [] else (List.range (8 / n)).map (· + p * (8 / n))
/-- How many domains of a range are ON. -/
def State.onIn (s : State) (lo hi : Nat) : Nat := ((List.range (hi + 1 - lo)).filter fun i => s.isOn (lo + i)).length
/-- Capacity C of a point in Mb/s (Table 12-1; R459, 13; R509, 14; R558, 15). -/
def State.capacity (s : State) (k : Nat) : Nat :=
  if k == 0x104 then 100000 * s.onIn 65 73
  else if k == 0x105 then 100000 * s.onIn 74 80
  else if k == 0x106 then 50000 * s.onIn 81 85
  else if k == 0x103 then ([0, 2500, 5000, 8000, 16000, 32000] : List Nat).getD s.pce.speed 0 * s.pce.width
  else if inR k 0x58 0x5C then 56250
  else modeRate s.net.mode
/-- QLIMIT of a point in bytes (Table 12-5). -/
def State.qlimit (s : State) (k : Nat) : Nat :=
  let dflt := if k == 0x103 then 65536 else if 0x104 ≤ k then 131072 else if inR k 0x58 0x5C then 12800 else modeRate s.net.mode / 1000 * 256
  ((s.point k).qlimit.getD dflt) * 1024
/-- Weight of a participant; 0 is served as 1 (R445). -/
def State.weight (s : State) (p : Nat) : Nat :=
  let w := if p < 16 then (s.tenant p).weight else tget 0 s.net.weights p
  if w = 0 then 1 else w

/-! ### Token buckets (R435-R437), in 1/8 byte -/

/-- Tokens now. -/
def bucketNow (rate burst : Nat) (tokens : Int) (at_ now : Nat) : Int := min (tokens + (rate * (now - at_) : Nat)) (burst * 8192 : Nat)
/-- Bring a tenant's bucket up to date. -/
def settleTenant (t : Nat) (s : State) : State :=
  modTenant t (fun x => { x with tokens := if x.rate = 0 then x.tokens else bucketNow x.rate x.burst x.tokens x.tokensAt s.us, tokensAt := s.us }) s
/-- Bring a VF's bucket up to date. -/
def settleVf (f : Nat) (s : State) : State :=
  modVf f (fun x => { x with tokens := if x.rate = 0 then x.tokens else bucketNow x.rate x.burst x.tokens x.tokensAt s.us, tokensAt := s.us }) s
/-- Both buckets of a VF hold 0 tokens or more (R436); PF0 has none (R437). -/
def State.bucketsOk (s : State) (f : Nat) : Bool :=
  if f == pf0 then true
  else
    let v := s.vf f
    let vOk := v.rate == 0 || decide (0 ≤ bucketNow v.rate v.burst v.tokens v.tokensAt s.us)
    match v.tenant with
    | none => vOk
    | some t => let x := s.tenant t; vOk && (x.rate == 0 || decide (0 ≤ bucketNow x.rate x.burst x.tokens x.tokensAt s.us))
/-- Take the cost of an entry from both buckets (R436). -/
def takeTokens (f cost : Nat) (s : State) : State :=
  if f == pf0 then s
  else
    let s := settleVf f s
    let s := modVf f (fun x => if x.rate = 0 then x else { x with tokens := x.tokens - (cost * 8 : Nat) }) s
    match (s.vf f).tenant with
    | none => s
    | some t => modTenant t (fun x => if x.rate = 0 then x else { x with tokens := x.tokens - (cost * 8 : Nat) }) (settleTenant t s)
/-- Fill the bucket of a VF that has just been bound (R437). -/
def fillVf (f : Nat) (s : State) : State := modVf f (fun x => { x with tokens := (x.burst * 8192 : Nat), tokensAt := s.us }) s
/-- Fill the bucket of a tenant that has just become ACTIVE (R437). -/
def fillTenant (t : Nat) (s : State) : State := modTenant t (fun x => { x with tokens := (x.burst * 8192 : Nat), tokensAt := s.us }) s

/-! ### Queues -/

/-- The frame of a job. -/
def Job.frame? : Job → Option Frame
  | .send f | .deliver f _ | .crypt f _ _ _ | .openIn f _ | .store f => some f
  | _ => none
/-- Every frame the data path holds. -/
def State.frames (s : State) : List Frame :=
  s.net.inq.map (·.frame)
    ++ (s.net.points.map fun p => (p.2.queue ++ p.2.serving).filterMap fun i => i.job.frame?).flatten
    ++ (s.net.aggs.map fun a => a.2.held).flatten ++ (s.net.swWaits.filter fun w => w.copy.isNone).map (·.frame)
/-- Transmit backlog of a participant (R439). -/
def State.txBacklog (s : State) (p : Nat) : Nat := s.frames.foldl (fun n f => if f.owner == p then n + f.backlog else n) 0
/-- Bytes a participant has queued at the engine points (R439). -/
def State.engQueued (s : State) (p : Nat) : Nat :=
  [0x104, 0x105, 0x106].foldl (fun n k => ((s.point k).queue.filter fun i => i.part == p).foldl (fun n i => n + i.cost) n) 0
/-- TX_CAP of a participant in bytes. -/
def State.txCap (s : State) (p : Nat) : Nat := (if p < 16 then (s.tenant p).txCap else tget 0 s.net.txCaps p) * 1024
/-- ENG_CAP of a participant in bytes. -/
def State.engCap (s : State) (p : Nat) : Nat := (if p < 16 then (s.tenant p).engCap else tget 0 s.net.engCaps p) * 1024
/-- The scheduler admits a fetch from a ring (R436, R439). -/
def State.schAdmits (s : State) (r : Ring) : Bool :=
  let p := s.ownerOf r.fn
  s.bucketsOk r.fn
    && (if r.cls == 2 then decide (s.txBacklog p < s.txCap p) else if r.cls == 4 then decide (s.engQueued p < s.engCap p) else true)

/-- A fresh number for a frame or an item. -/
def newId (s : State) : Nat × State := (s.net.nextId, { s with net := { s.net with nextId := s.net.nextId + 1 } })
/-- Queue work at a point. -/
def enqueueAt (k part cls cost : Nat) (reserved : Bool) (job : Job) (s : State) : State :=
  let (id, s) := newId s
  modPoint k (fun x => { x with queue := x.queue ++ [{ id := id, part := part, cls := cls, cost := cost, reserved := reserved, job := job }] }) s
/-- Cost queued at a point, of one participant or of all. -/
def SchPoint.queued (x : SchPoint) (part : Option Nat) : Nat :=
  (x.queue.filter fun i => part.isNone || part == some i.part).foldl (fun n i => n + i.cost) 0
/-- R442: admission of network work of a participant. -/
def State.netAdmits (s : State) (k part : Nat) : Bool :=
  let x := s.point k
  let lim := s.qlimit k
  let total := x.queued none
  let parts := (List.range 18).filter fun p => p == part || x.queue.any fun i => i.part == p
  let w := parts.foldl (fun n p => n + s.weight p) 0
  decide (total < lim) && (decide (x.queued (some part) * w < lim * s.weight part) || decide (total * 8 < lim * 7))
/-- Account a drop and write ADMIT_DROP, at most once per point in any 1 s (R444, R456). -/
def chargeDrop (k part cost : Nat) (s : State) : State :=
  let x := s.point k
  let recent := x.drops.filter (fun d => decide (s.us < d.1 + 1000000)) ++ [(s.us, part)]
  let count (p : Nat) : Nat := (recent.filter fun d => d.2 == p).length
  let most := (List.range 18).foldl (fun m p => if count m < count p then p else m) 0
  let s := modPoint k (fun x => { x with drops := recent, served := tmod (0, 0, 0, 0) x.served part (fun c => (c.1, c.2.1, c.2.2.1 + cost, c.2.2.2 + 1)) }) s
  let code := if 0x103 ≤ k then k - 0x100 else 2
  let s := countEv 3 (k % 0x100) (18 + part) 1 (countEv 3 (k % 0x100) part cost s)
  logLimited 11 0x8001 k 1 1000000
    (detail [(16, 1, code), (17, 1, if k < 0x100 then k else 0), (18, 1, most), (20, 4, recent.length)]) s

/-! ### Deficit round robin (R445, R447) -/

/-- One round robin over backlogged queues (name, cost of the head): the queue served, and every deficit afterwards. The queue
whose turn it is goes on while its deficit covers its head; otherwise turns follow in cyclic order, each with its quantum. -/
def drrPick (heads : List (Nat × Nat)) (turn : Nat) (deficit quantum : Nat → Nat) : Option (Nat × List (Nat × Nat)) :=
  match heads.find? fun h => h.1 == turn && decide (h.2 ≤ deficit turn) with
  | some h => some (turn, heads.map fun x => (x.1, if x.1 = turn then deficit turn - h.2 else deficit x.1))
  | none =>
    let order := heads.filter (fun h => decide (turn < h.1)) ++ heads.filter fun h => decide (h.1 ≤ turn)
    let rounds (h : Nat × Nat) : Nat := max 1 (ceilDiv (h.2 - deficit h.1) (quantum h.1))
    match order.map rounds with
    | [] => none
    | r :: rs =>
      let k := rs.foldl min r
      match order.findIdx? fun h => rounds h == k with
      | none => none
      | some j =>
        let named := order.mapIdx fun i h =>
          let d := deficit h.1 + (if i ≤ j then k else k - 1) * quantum h.1
          (h.1, if i = j then d - h.2 else d)
        (order[j]?).map fun h => (h.1, named)

/-- The items of a class, or of every class at a point without classes. -/
def SchPoint.ofClass (x : SchPoint) (egress : Bool) (c : Nat) : List QItem := x.queue.filter fun i => !i.reserved && (!egress || i.cls == c)
/-- The head items of the participants, in participant order. -/
def headsOf (l : List QItem) : List (Nat × Nat) :=
  (List.range 18).filterMap fun p => (l.find? fun i => i.part == p).map fun i => (p, i.cost)
/-- The choice within a class: participant and deficits. -/
def State.pickIn (s : State) (x : SchPoint) (egress : Bool) (c : Nat) : Option (Nat × List (Nat × Nat)) :=
  drrPick (headsOf (x.ofClass egress c)) (tget 0 x.turn c) (fun p => tget 0 x.deficit (c * 32 + p)) (fun p => s.weight p * 1024)
/-- The item that the choice within a class serves. -/
def State.itemIn (s : State) (x : SchPoint) (egress : Bool) (c : Nat) : Option QItem :=
  (s.pickIn x egress c).bind fun r => (x.ofClass egress c).find? fun i => i.part == r.1
/-- Write the deficits of a class back; a queue that has become empty has deficit 0. -/
def SchPoint.settleDeficits (x : SchPoint) (egress : Bool) (c : Nat) (ds : List (Nat × Nat)) : SchPoint :=
  let left := x.ofClass egress c
  { x with deficit := (List.range 18).foldl (fun t p =>
      tput 0 t (c * 32 + p) (if left.any fun i => i.part == p then (ds.lookup p).getD 0 else 0)) x.deficit }

/-- Reserve bucket brought up to date (R449). -/
def SchPoint.refreshed (x : SchPoint) (cap now : Nat) : SchPoint :=
  { x with reserve := min (x.reserve + (cap * (now - x.reserveAt) : Nat)) (1000 * cap : Nat), reserveAt := now }
/-- Take an item out of a point's queue and account it. -/
def takeItem (k : Nat) (i : QItem) (s : State) : State :=
  let s := countEv 2 (k % 0x100) (18 + i.part) 1 (countEv 2 (k % 0x100) i.part i.cost s)
  modPoint k (fun x => { x with queue := x.queue.filter (fun j => j.id != i.id),
                                served := tmod (0, 0, 0, 0) x.served i.part (fun c => (c.1 + i.cost, c.2.1 + 1, c.2.2)) }) s

/-- The next item a point serves (R445, R447-R450, R452), taken out of its queue; paused classes are skipped. -/
def popItem (k : Nat) (paused : List Nat) (s : State) : Option (QItem × State) :=
  let cap := s.capacity k
  let egress := decide (k < 0x100)
  let s := modPoint k (fun x => x.refreshed cap s.us) s
  let x := s.point k
  match (if 0 ≤ x.reserve then x.queue.find? fun i => i.reserved else none) with
  | some i => some (i, modPoint k (fun x => { x with reserve := x.reserve - (i.cost * 160 : Nat) }) (takeItem k i s))
  | none =>
    let classes := if egress then (List.range 8).filter fun c => !paused.contains c && !(x.ofClass true c).isEmpty else if (x.ofClass false 0).isEmpty then [] else [0]
    let strict := (classes.filter fun c => x.strict.contains c).getLast?
    let choice : Option (Nat × List (Nat × Nat)) := match strict with
      | some c => some (c, [])
      | none => if !egress then classes.head?.map fun c => (c, []) else
        drrPick (classes.filterMap fun c => (s.itemIn x true c).map fun i => (c, i.cost)) x.cturn (tget 0 x.cdeficit)
          (fun c => (tget 0 x.cweight c + 1) * 1024)
    match choice with
    | none => none
    | some (c, cds) =>
      match s.itemIn x egress c, s.pickIn x egress c with
      | some i, some (p, ds) =>
        let win := if x.capAt + 100 ≤ s.us then (s.us, 0) else (x.capAt, x.capBytes)
        if s.actSet && decide (s.hkp.thrRound.cap * cap < 8 * (win.2 + i.cost)) then none
        else
          let s := takeItem k i s
          some (i, modPoint k (fun x =>
            let x := x.settleDeficits egress c ds
            { x with turn := tput 0 x.turn c p, capAt := win.1, capBytes := win.2 + i.cost,
                     cturn := if strict.isNone && egress then c else x.cturn,
                     cdeficit := cds.foldl (fun t d => tput 0 t d.1 (if (x.ofClass true d.1).isEmpty then 0 else d.2)) x.cdeficit }) s)
      | _, _ => none

/-- Drop what a reset takes out of the data path: items and frames of the functions or participants selected. -/
def purgeFrames (sel : Frame → Bool) (s : State) : State :=
  let keepItem (i : QItem) : Bool := match i.job.frame? with
    | some f => !sel f
    | none => true
  { s with net := { s.net with
      inq := s.net.inq.filter fun x => !sel x.frame
      swWaits := s.net.swWaits.filter fun x => !sel x.frame
      aggs := tmodAll {} s.net.aggs (List.range 4) (fun _ a => { a with held := a.held.filter fun f => !sel f })
      points := tmodAll {} s.net.points (s.net.points.map (·.1)) fun _ x =>
        { x with queue := x.queue.filter keepItem, serving := x.serving.filter keepItem } } }

end Sys2Proof.Machine
end

