-- ==== Sys2Proof/Machine/LatBase.lean ====
section
/-!
DEFINITION. Sys2Proof/Machine/LatBase.lean: lattice links, their queues and the lattice's view of itself (ch 24, 25).
-/
namespace Sys2Proof.Machine
open Sys2Proof

/-- Change the lattice's record. -/
def modLat (f : Lattice → Lattice) (s : State) : State := { s with lat := f s.lat }
/-- Link l. -/
def State.link (s : State) (l : Nat) : LatLink := tget {} s.lat.links l
/-- Change link l. -/
def modLink (l : Nat) (f : LatLink → LatLink) (s : State) : State := modLat (fun x => { x with links := tmod {} x.links l f }) s
/-- MODE: 0 off, 1 LANE, 2 TUNNEL (Table 24-6). -/
def LatLink.mode (x : LatLink) : Nat := u8 x.block 1
/-- PORT of a tunnel. -/
def LatLink.port (x : LatLink) : Nat := u8 x.block 10
/-- The tunnel uses TAG. -/
def LatLink.tagged (x : LatLink) : Bool := beAt x.block 14 2 % 4096 != 4095
/-- This device's serial as a number. -/
def State.ownSerial (s : State) : Nat := leAt s.serial 0 8
/-- Link l is UP. -/
def State.latUp (s : State) (l : Nat) : Bool := (s.link l).st == 5
/-- The vport of a tunnelled link (R880). -/
def State.latTunnelVp (s : State) (vp : Nat) : Bool := inR vp 0x58 0x5B && (s.link (vp - 0x58)).mode == 2
/-- The port or aggregate that carries a tunnel is up (R879). -/
def State.tunnelUp (s : State) (port : Nat) : Bool :=
  if inR port 0x48 0x4F then s.portUp (port - 0x48) else inR port 0x50 0x53 && (s.agg (port - 0x50)).on && (s.agg (port - 0x50)).members.any s.portUp
/-- A link may leave DOWN (Table 24-3, R885, R937). -/
def State.mayTrain (s : State) (l : Nat) : Bool :=
  let x := s.link l
  s.live && s.lcy.bootDone && !s.lcy.rom && s.isOn 58
    && (match x.mode with
      | 1 => s.isOn (59 + l) && s.ckg.ethRef
      | 2 => s.tunnelUp x.port
      | _ => false)
/-- Begin a drain or stay in HOLD: no DATA carriage is begun (R884). -/
def State.latHeld (s : State) : Bool := s.pmc.st == .hold || s.pmc.trans.isSome
/-- A link takes another frame of its egress point: UP, none waiting, and carriages may begin. -/
def State.latReady (s : State) (l : Nat) : Bool := s.latUp l && (s.link l).dataQ.isEmpty && !s.latHeld
/-- A link in DOWN enters TRAINING when it may (R857, R862, R879). A tunnelled link does not search. -/
def latTrain (l : Nat) (s : State) : State :=
  if (s.link l).st == 1 && !(s.link l).retrain && s.mayTrain l then
    modLink l (fun x => { x with st := 2, cand := none, bad := 0, peerSerial := 0, peerLane := 0xFF, peerVertex := 0 }) s
  else s
/-- The parts of a link that a fall to DOWN clears (R862). -/
def LatLink.fallen (x : LatLink) : LatLink :=
  { x with st := 1, cand := none, bad := 0, helloDue := false, nak := false, lastNak := none, replay := [], resend := none, expiries := 0, tx := none, rx := none
           batch := [], sentAck := none, dataQ := [] }
/-- A link goes DOWN with a cause of Table 24-8 and trains again where it may. -/
def linkDown (l cause : Nat) (s : State) : State :=
  let x := s.link l
  if x.st ≤ 1 then s
  else
    let s := cadRelease ((x.rx.map (·.bufs)).getD []) s
    let s := modLink l LatLink.fallen s
    let s := if x.st == 5 then modLat (fun y => { y with lsaDue := true }) (logLimited 26 0x8002 l 1 100000 (detail [(16, 1, l), (17, 1, cause)]) s) else s
    latTrain l s
/-- Every link goes DOWN with a cause. -/
def linksDown (sel : Nat → Bool) (cause : Nat) (s : State) : State := forEach ((List.range 4).filter sel) (fun l s => linkDown l cause s) s
/-- What has changed outside the links takes down those it concerns and lets others train. -/
def latRefresh (s : State) : State :=
  forEach (List.range 4) (fun l s =>
    let x := s.link l
    let s := if x.mode == 0 then modLink l (fun x => { x with st := 0 }) s
      else if x.st == 0 then modLink l (fun x => { x with st := 1 }) s else s
    if x.st ≤ 1 || s.mayTrain l then s
    else linkDown l (if (s.domain 58).st == .fenced || (x.mode == 1 && (s.domain (59 + l)).st == .fenced) then 5
                     else if x.mode == 2 then 7 else if !s.ckg.ethRef then 6 else 8) s) s
/-- Links that may train do. -/
def latStart (s : State) : State := forEach (List.range 4) latTrain (latRefresh s)

/-! ### Routes and classes -/

/-- Route to a vertex ID. -/
def State.routeTo (s : State) (v : Nat) : Option LatRoute := s.lat.routes.find? fun r => r.id == v
/-- Link that lattice-routed traffic for a vertex leaves on; none while this device has no vertex ID (R901). -/
def State.latLinkFor (s : State) (v : Nat) : Option Nat := if s.lat.id = 0 then none else (s.routeTo v).map (·.link)
/-- The serials of the stack's member list (Table 25-6). -/
def Lattice.members (x : Lattice) : List Nat := if x.stack.isEmpty then [] else (List.range (u8 x.stack 3)).map fun i => u64 x.stack (16 + 8 * i)
/-- STACK_ID, 0 for none. -/
def Lattice.stackId (x : Lattice) : Nat := u8 x.stack 1
/-- STACK_HASH (R906). -/
def Lattice.stackHash (x : Lattice) : Nat :=
  if x.stack.isEmpty then 0 else (crc32c (x.stack.drop 3 |>.take 1 |>.append ((x.stack.drop 16).take (8 * u8 x.stack 3)))).toNat
/-- The LSA of a serial counts it as a member (R907). -/
def State.isMember (s : State) (serial : Nat) : Bool :=
  match s.lat.lsdb.lookup serial with
  | some a => !s.lat.stack.isEmpty && u8 a 16 == s.lat.stackId && u32 a 20 == s.lat.stackHash && s.lat.members.contains serial
  | none => false
/-- Class of a lattice source (R904): 0 OTHER, 1 MEMBER, 2 LEADER. -/
def State.latClass (s : State) (link src : Nat) : Nat :=
  if src = 0 then 0
  else match s.routeTo src with
  | none => 0
  | some r =>
    if !s.isMember r.serial then 0
    else if s.lat.leader == some r.serial then (if r.link = link then 2 else 0)
    else 1

/-! ### Queues -/

/-- A carriage header (Table 24-5). -/
def carriageHead (dst src type ttl : Nat) : Bytes := putLe 2 dst ++ putLe 2 src ++ putLe 1 type ++ putLe 1 ttl ++ zeros 2
/-- Queue a CTRL carriage on a link. -/
def latCtrl (l : Nat) (carriage : Bytes) (s : State) : State := if s.latUp l then modLink l (fun x => { x with ctrlQ := x.ctrlQ ++ [carriage] }) s else s
/-- Hand a frame to a link as a DATA carriage (R870, R872, R899, R901): to the neighbour, or on the route to its vertex. -/
def latSend (l : Nat) (f : Frame) (aborted : Bool) (s : State) : State :=
  let b := f.bytes ++ zeros (60 - f.bytes.length)
  let passing := decide (4096 ≤ f.vertex)
  let head := carriageHead (f.vertex % 4096 + f.tc * 4096) (if passing then f.vertex / 4096 % 4096 else s.lat.id) 0 (if passing then f.vertex / 2 ^ 24 else 64)
  modLink l (fun x => { x with dataQ := x.dataQ ++ [(head ++ b ++ putLe 4 (fcs b).toNat, aborted)] }) (cadRelease f.bufs s)

end Sys2Proof.Machine
end

