-- ==== Sys2Proof/Machine/Frames.lean ====
section
/-!
DEFINITION. Sys2Proof/Machine/Frames.lean: what the switch reads in a frame and writes into it: parsing and the lookup key (R396-R398),
spoof checks (Table 07-5), VLAN operations, checksums, decapsulation and encapsulation (R411-R416).
-/
namespace Sys2Proof.Machine
open Sys2Proof

/-- What the parser finds in the first 256 bytes (R396). -/
structure Parsed where
  /-- VLAN tags, outermost first: type and TCI. -/
  tags : List (Nat × Nat)
  /-- EtherType after the tags. -/
  ether : Nat
  /-- Offset of the byte after the EtherType. -/
  l3 : Nat
  /-- IP version, 0 for none. -/
  ver : Nat := 0
  /-- IP_PROTO. -/
  proto : Nat := 0
  /-- Offset of the header after IP, 0 when it is not within reach. -/
  l4 : Nat := 0
  /-- The frame is a non-first fragment. -/
  frag : Bool := false
  /-- It is any fragment, or carries IPv6 extension headers or IPv4 options. -/
  complex : Bool := false
  /-- IP source. -/
  src : Nat := 0
  /-- IP destination. -/
  dst : Nat := 0
  /-- Traffic class or TOS byte. -/
  tos : Nat := 0
  /-- Length of the L2 headers and the IP datagram, as its header states it. -/
  total : Nat := 0
  deriving DecidableEq, Repr

/-- The bytes the parser sees. -/
def seen (b : Bytes) : Bytes := b.take 256
/-- A big-endian field, 0 unless it lies wholly within the bytes seen. -/
def fld (b : Bytes) (off n : Nat) : Nat := if off + n ≤ b.length then beAt b off n else 0

/-- IPv6 extension headers of R396, at most four: next header, offset, fragment seen, non-first. -/
def extHeaders (b : Bytes) : Nat → Nat → Nat → Bool → Bool → Nat × Nat × Bool × Bool
  | 0, nh, off, fr, nf => (nh, off, fr, nf)
  | k + 1, nh, off, fr, nf =>
    if off + 8 ≤ b.length && (nh == 0 || nh == 43 || nh == 60) then extHeaders b k (u8 b off) (off + (u8 b (off + 1) + 1) * 8) true nf
    else if off + 8 ≤ b.length && nh == 44 then extHeaders b k (u8 b off) (off + 8) true (nf || decide (8 ≤ beAt b (off + 2) 2))
    else (nh, off, fr, nf)

/-- The tags of a frame, at most two. -/
def parseTags (b : Bytes) : Nat → Nat → List (Nat × Nat)
  | 0, _ => []
  | k + 1, off =>
    let t := fld b off 2
    if (t == 0x88A8 || t == 0x8100) && decide (off + 4 ≤ b.length) then (t, fld b (off + 2) 2) :: parseTags b k (off + 4) else []

/-- Parse a frame (R396). -/
def parse (frame : Bytes) : Parsed :=
  let b := seen frame
  let tags := parseTags b 2 12
  let eo := 12 + 4 * tags.length
  let ether := fld b eo 2
  let l3 := eo + 2
  if ether == 0x0800 && decide (l3 + 20 ≤ b.length) && u8 b l3 / 16 == 4 then
    let ihl := u8 b l3 % 16 * 4
    let fr := fld b (l3 + 6) 2
    let nonFirst := fr % 0x2000 != 0
    { tags := tags, ether := ether, l3 := l3, ver := 4, proto := u8 b (l3 + 9), l4 := if l3 + ihl ≤ b.length then l3 + ihl else 0,
      frag := nonFirst, complex := ihl != 20 || fr % 0x4000 != 0, src := fld b (l3 + 12) 4, dst := fld b (l3 + 16) 4, tos := u8 b (l3 + 1),
      total := l3 + fld b (l3 + 2) 2 }
  else if ether == 0x86DD && decide (l3 + 40 ≤ b.length) && u8 b l3 / 16 == 6 then
    let (nh, off, ext, nf) := extHeaders b 4 (u8 b (l3 + 6)) (l3 + 40) false false
    { tags := tags, ether := ether, l3 := l3, ver := 6, proto := nh, l4 := if off ≤ b.length then off else 0, frag := nf, complex := ext,
      src := fld b (l3 + 8) 16, dst := fld b (l3 + 24) 16, tos := fld b l3 2 / 16 % 256, total := l3 + 40 + fld b (l3 + 4) 2 }
  else { tags := tags, ether := ether, l3 := l3 }

/-- L4 source and destination ports. -/
def Parsed.ports (p : Parsed) (frame : Bytes) : Nat × Nat :=
  if p.frag || p.l4 == 0 || !(p.proto == 6 || p.proto == 17) then (0, 0) else (fld (seen frame) p.l4 2, fld (seen frame) (p.l4 + 2) 2)

/-- An address in 16 key bytes: IPv4 in the first 4 (Table 11-3). -/
def ipBytes (ver a : Nat) : Bytes := if ver == 4 then putBe 4 a ++ zeros 12 else if ver == 6 then putBe 16 a else zeros 16

/-- The lookup key (Table 11-3). -/
def lookupKey (frame : Bytes) (bd vport tc vni : Nat) (tunnelled : Bool) : Bytes :=
  let p := parse frame
  let ports := p.ports frame
  let b := seen frame
  putLe 2 (bd % 4096) ++ putBe 2 p.ether ++ putLe 1 p.proto ++ putLe 1 vport
    ++ putLe 1 (b2n tunnelled + 2 * b2n p.frag + 4 * b2n (p.ver == 6) + 8 * b2n (!p.tags.isEmpty)) ++ putLe 1 tc
    ++ putBe 4 vni ++ putBe 2 ((p.tags.head?.map fun t => t.2 % 4096).getD 0) ++ putBe 2 ports.1 ++ putBe 2 ports.2 ++ zeros 2
    ++ ipBytes p.ver p.src ++ ipBytes p.ver p.dst ++ (slice b 0 6 ++ zeros 6).take 6 ++ (slice b 6 6 ++ zeros 6).take 6
/-- Conversation hash H (R398). -/
def convHash (key : Bytes) : Nat := (crc32c (overwrite key 5 (zeros 3))).toNat

/-! ### Checksums -/

/-- Sum of 16-bit big-endian words; an odd last byte is padded with 0. -/
def sum16 : Bytes → Nat
  | [] => 0
  | [a] => a.toNat * 256
  | a :: b :: t => a.toNat * 256 + b.toNat + sum16 t
/-- Internet checksum of a sum. -/
def csumOf (sum : Nat) : Nat :=
  let a := sum % 65536 + sum / 65536
  let a := a % 65536 + a / 65536
  let a := a % 65536 + a / 65536
  65535 - a
/-- Put a big-endian field. -/
def putField (b : Bytes) (off n v : Nat) : Bytes := overwrite b off (putBe n v)
/-- The IPv4 header with its checksum computed. -/
def fixIp (b : Bytes) (l3 : Nat) : Bytes :=
  let hdr := slice b l3 (u8 b l3 % 16 * 4)
  putField b (l3 + 10) 2 (csumOf (sum16 (overwrite hdr 10 (zeros 2))))
/-- Bytes of the L4 datagram. -/
def l4Bytes (b : Bytes) (p : Parsed) : Bytes := (b.take p.total).drop p.l4
/-- Pseudo-header sum. -/
def pseudo (p : Parsed) (len : Nat) : Nat :=
  sum16 (if p.ver == 4 then putBe 4 p.src ++ putBe 4 p.dst else putBe 16 p.src ++ putBe 16 p.dst) + p.proto + len
/-- Offset of the L4 checksum field, for TCP and UDP. -/
def l4SumOff (p : Parsed) : Option Nat := if p.l4 == 0 || p.frag then none else if p.proto == 6 then some (p.l4 + 16) else if p.proto == 17 then some (p.l4 + 6) else none
/-- The frame with its TCP or UDP checksum computed. -/
def fixL4 (b : Bytes) (p : Parsed) : Bytes :=
  match l4SumOff p with
  | none => b
  | some o =>
    if o + 2 ≤ min 256 b.length then
      let z := putField b o 2 0
      let d := l4Bytes z p
      let c := csumOf (pseudo p d.length + sum16 d)
      putField b o 2 (if p.proto == 17 && c == 0 then 65535 else c)
    else b
/-- CSUM_IP and CSUM_L4 of TX_META (R428). -/
def metaCsum (b : Bytes) (txMeta : Nat) : Bytes :=
  let p := parse b
  let b := if txMeta.testBit 8 && p.ver == 4 then fixIp b p.l3 else b
  if txMeta.testBit 9 && p.ver != 0 then fixL4 b p else b
/-- L3_CSUM (bits 1:0) and L4_CSUM (bits 3:2) of RX_INFO (Table 11-9). -/
def rxCsum (b : Bytes) : Nat :=
  let p := parse b
  let l3 := if p.ver == 4 then (if csumOf (sum16 (slice b p.l3 (u8 b p.l3 % 16 * 4))) == 0 then 1 else 2) else 0
  let l4 := match l4SumOff p with
    | some o =>
      if b.length < p.total || p.complex then 0
      else if p.proto == 17 && beAt b o 2 == 0 then 0
      else let d := l4Bytes b p; if csumOf (pseudo p d.length + sum16 d) == 0 then 1 else 2
    | none => 0
  l3 + 4 * l4

/-! ### Spoof checks (Table 07-5) -/

/-- Address a lies in a prefix of a list. -/
def inPrefixes (w a : Nat) (l : List (Nat × Nat)) : Bool := l.any fun e => a / 2 ^ (w - e.2) == e.1 / 2 ^ (w - e.2)
/-- Link-layer address options of a neighbour-discovery message: offsets of their addresses. -/
def ndOptions (b : Bytes) : Nat → Nat → List Nat
  | 0, _ => []
  | k + 1, off =>
    if off + 8 ≤ b.length && u8 b (off + 1) != 0 then
      (if u8 b off == 1 || u8 b off == 2 then [off + 2] else []) ++ ndOptions b k (off + u8 b (off + 1) * 8)
    else []
/-- Offset of the options of an ICMPv6 neighbour-discovery message. -/
def ndStart (type : Nat) : Option Nat :=
  match type with | 133 => some 8 | 134 => some 16 | 135 => some 24 | 136 => some 24 | 137 => some 40 | _ => none

/-- The first check of Table 07-5 that a frame fails, with the offset of the failing field. -/
def spoofCheck (t : Tenant) (tc : Nat) (b : Bytes) : Option (Nat × Nat) :=
  let p := parse b
  let macAny := t.flags % 4 == 1
  let macOk (off : Nat) : Bool := macAny || t.macs.contains (slice b off 6)
  let arp := p.ether == 0x0806
  let nd := if p.ver == 6 && p.proto == 58 && p.l4 != 0 && !p.frag then
      match ndStart (u8 b p.l4) with
      | some o => ndOptions b 64 (p.l4 + o)
      | none => []
    else []
  let vmode := t.flags / 4 % 4
  let tagOk (g : Nat × Nat) : Bool := t.vlans.contains (g.2 % 4096, if g.1 == 0x88A8 then 1 else 0)
  let vlanOk : Bool := match vmode with
    | 1 => true
    | 2 => p.tags.isEmpty
    | _ => if p.tags.isEmpty then t.vlans.contains (0, 0) else p.tags.all tagOk
  let m4 := t.flags / 16 % 4; let m6 := t.flags / 64 % 4
  let arpIp := beAt b (p.l3 + 14) 4
  let ns := p.ver == 6 && p.proto == 58 && u8 b p.l4 == 135 && p.src == 0
  if !macOk 6 then some (1, 6)
  else if arp && !macOk (p.l3 + 8) then some (2, p.l3 + 8)
  else match nd.find? fun o => !macOk o with
  | some o => some (2, o)
  | none =>
    if !vlanOk then some (3, 12)
    else if !t.tcMask.testBit tc || p.tags.any (fun g => !t.tcMask.testBit (g.2 / 8192)) then some (4, 12)
    else if (p.ether == 0x0800 || arp) && m4 == 2 then some (5, if arp then p.l3 + 14 else p.l3 + 12)
    else if p.ether == 0x0800 && m4 == 0 && !inPrefixes 32 (beAt b (p.l3 + 12) 4) t.ip4s then some (5, p.l3 + 12)
    else if arp && m4 == 0 && !inPrefixes 32 arpIp t.ip4s then some (5, p.l3 + 14)
    else if p.ether == 0x86DD && m6 == 2 then some (6, p.l3 + 8)
    else if p.ether == 0x86DD && m6 == 0 && !ns && !inPrefixes 128 (beAt b (p.l3 + 8) 16) t.ip6s then some (6, p.l3 + 8)
    else none

/-! ### VLAN operations and tunnels -/

/-- A tag's four bytes. -/
def tagBytes (type tci : Nat) : Bytes := putBe 2 type ++ putBe 2 tci
/-- Put tags after the addresses. -/
def pushTags (b : Bytes) (tags : Bytes) : Bytes := b.take 12 ++ tags ++ b.drop 12
/-- The frame after a VLAN_OP of Table 11-4, with the VID of the outermost tag a pop removed. -/
def vlanOp (op outer inner : Nat) (b : Bytes) : Bytes × Option Nat :=
  let p := parse b
  match op with
  | 1 => (pushTags b (tagBytes 0x8100 outer), none)
  | 2 => (pushTags b (tagBytes 0x88A8 outer ++ tagBytes 0x8100 inner), none)
  | 3 => if p.tags.isEmpty then (b, none) else (b.take 12 ++ b.drop 16, p.tags.head?.map fun t => t.2 % 4096)
  | 4 => (b.take 12 ++ b.drop (12 + 4 * p.tags.length), p.tags.head?.map fun t => t.2 % 4096)
  | 5 => if p.tags.isEmpty then (b, none) else (putField b 14 2 (outer / 8192 * 8192 + outer % 4096 + (beAt b 14 2 / 4096 % 2) * 4096), none)
  | _ => (b, none)

/-- What decapsulation finds (R411-R413). -/
inductive Decap where
  /-- The frame is not a tunnel frame that an entry matches. -/
  | no
  /-- It matches and is dropped, with the TUNNEL_DROP reason. -/
  | drop (reason : Nat)
  /-- It matches: the inner frame, BD, type and VNI. -/
  | yes (inner : Bytes) (bd type vni : Nat)
  deriving DecidableEq, Repr

/-- R413: the inner frame under RFC 6040 normal mode, or none when it is dropped. -/
def ecnInner (outer : Nat) (inner : Bytes) : Option Bytes :=
  let p := parse inner
  if p.ver == 0 || outer % 4 != 3 then some inner
  else if p.tos % 4 == 0 then none
  else if p.ver == 4 then some (fixIp (overwrite inner (p.l3 + 1) (putLe 1 (p.tos / 4 * 4 + 3))) p.l3)
  else some (putField inner p.l3 2 (beAt inner p.l3 2 / 4096 * 4096 + (p.tos / 4 * 4 + 3) * 16 + beAt inner p.l3 2 % 16))

/-- Match a frame against the DECAP entries (R411). -/
def decapMatch (entries : List Bytes) (b : Bytes) : Decap :=
  let p := parse b
  if p.ver == 0 || p.complex || p.proto != 17 || p.l4 == 0 then .no
  else
    let dport := fld (seen b) (p.l4 + 2) 2
    let th := p.l4 + 8
    let vni := fld b (th + 4) 3
    let hit := entries.find? fun e => u8 e 0 == p.ver && slice e 8 16 == ipBytes p.ver p.dst && beAt e 2 2 == dport && beAt e 5 3 == vni
    match hit with
    | none => .no
    | some e =>
      let type := u8 e 1
      let optLen := if type == 2 then u8 b th % 64 * 4 else 0
      let good := if type == 1 then (u8 b th).testBit 3 else u8 b th / 64 == 0 && beAt b (th + 2) 2 == 0x6558
      if !good then .no
      else if type == 2 && (u8 b (th + 1)).testBit 6 then .drop 0
      else if 64 < optLen then .drop 1
      else match ecnInner p.tos (b.drop (th + 8 + optLen)) with
      | none => .drop 2
      | some inner => .yes inner (u16 e 24) type vni

/-- Build the outer headers of a tunnel record around an inner frame (R414). hash is H over the inner frame's key. -/
def encapBytes (t inner : Bytes) (hash ident : Nat) : Bytes :=
  let p := parse inner
  let v6 := u8 t 1 == 6
  let geneve := u8 t 0 == 2
  let optLen := if geneve then u8 t 28 else 0
  let udpDst := if beAt t 4 2 == 0 then (if geneve then 6081 else 4789) else beAt t 4 2
  let tags := match u8 t 2 with
    | 1 => tagBytes 0x8100 (beAt t 20 2)
    | 2 => tagBytes 0x88A8 (beAt t 20 2) ++ tagBytes 0x8100 (beAt t 22 2)
    | _ => []
  let eth := slice t 8 6 ++ slice t 14 6 ++ tags ++ putBe 2 (if v6 then 0x86DD else 0x0800)
  let udpLen := 16 + optLen + inner.length
  let dscp := if (u8 t 3).testBit 2 then u8 t 7 else if p.ver == 0 then 0 else p.tos / 4
  let tos := dscp * 4 + (if p.ver == 0 then 0 else p.tos % 4)
  let tun := if geneve then putLe 1 (optLen / 4) ++ [0] ++ putBe 2 0x6558 ++ slice t 25 3 ++ [0] ++ slice t 64 optLen
    else [0x08, 0, 0, 0] ++ slice t 25 3 ++ [0]
  let udp := putBe 2 (0xC000 + hash % 0x4000) ++ putBe 2 udpDst ++ putBe 2 udpLen ++ [0, 0]
  let ip := if v6 then putBe 4 (6 * 2 ^ 28 + tos * 2 ^ 20 + hash % 2 ^ 20) ++ putBe 2 udpLen ++ [17] ++ putLe 1 (u8 t 6) ++ slice t 32 16 ++ slice t 48 16
    else [0x45] ++ putLe 1 tos ++ putBe 2 (20 + udpLen) ++ putBe 2 ident ++ putBe 2 (if (u8 t 3).testBit 0 then 0x4000 else 0) ++ putLe 1 (u8 t 6)
      ++ [17, 0, 0] ++ slice t 32 4 ++ slice t 48 4
  let all := eth ++ ip ++ udp ++ tun ++ inner
  if v6 then (if (u8 t 3).testBit 1 then all else fixL4 all (parse all)) else fixIp all eth.length

end Sys2Proof.Machine
end

