-- ==== Sys2Proof/Machine/CryOps.lean ====
section
/-!
DEFINITION. Sys2Proof/Machine/CryOps.lean: what passes an SA: MACsec, ESP and TLS record protection, XTS, key slots and the DRBG (ch 13).
-/
namespace Sys2Proof.Machine
open Sys2Proof

/-- Change the crypto side. -/
def modCry (f : CryptoSide → CryptoSide) (s : State) : State := { s with cry := f s.cry }
/-- SA i, one whose deletion waits included. -/
def State.saAny (s : State) (i : Nat) : Option Sa := s.cry.sas.lookup i
/-- SA i for new items. -/
def State.sa (s : State) (i : Nat) : Option Sa := (s.saAny i).filter fun x => !x.going
/-- Change SA i. -/
def modSa (i : Nat) (f : Sa → Sa) (s : State) : State :=
  modCry (fun c => { c with sas := modWhere (fun x => x.1 == i) (fun x => (x.1, f x.2)) c.sas }) s
/-- Key of a device slot. -/
def State.slotKey (s : State) (d : Nat) : Bytes := ((s.cry.slots.lookup d).map (·.key)).getD []
/-- n bytes of DRBG output (R501, R503): free bytes (log 3). -/
def drbgBytes (n : Nat) (s : State) : Bytes × State :=
  let (b, s) := freeBytes n s
  (b, modCry (fun c => { c with drbg := { c.drbg with requests := c.drbg.requests + 1 } }) s)

/-- A number of an SA with its SA_SOFT or SA_EXHAUSTED record (Table 13-8). -/
def saRecord (code i n : Nat) (s : State) : State :=
  logEvent 12 code (detail [(16, 2, i), (18, 1, ((s.saAny i).map (·.kind)).getD 0), (20, 8, n)]) s
/-- The number n of an SA reaches SOFT: SA_SOFT once (R486, R492, R495). -/
def saSoft (i n soft : Nat) (s : State) : State :=
  match s.saAny i with
  | some x => if !x.soft && soft != 0 && decide (soft ≤ n) then saRecord 0x8001 i n (modSa i (fun x => { x with soft := true }) s) else s
  | none => s
/-- SA_EXHAUSTED once (R486, R495). -/
def saSpent (i n : Nat) (s : State) : State :=
  match s.saAny i with
  | some x => if x.spent then s else saRecord 0x8002 i n (modSa i (fun x => { x with spent := true }) s)
  | none => s
/-- The next number of an outbound SA, or none once it has stopped (R462, R486, R492). -/
def takeNum (i limit soft : Nat) (s : State) : Option Nat × State :=
  match s.saAny i with
  | none => (none, s)
  | some x =>
    if limit < x.next then (none, saSpent i limit s)
    else (some x.next, saSoft i x.next soft (modSa i (fun x => { x with next := x.next + 1 }) s))
/-- An item of n bytes has passed an SA. -/
def saCount (i n : Nat) (s : State) : State := modSa i (fun x => { x with items := x.items + 1, bytes := x.bytes + n }) s
/-- An authentication failure or replay on an SA (R490, Table 13-8): reason 0 ICV, 1 replay, 3 pad, 4 fragment, 5 record length. -/
def saFail (i reason : Nat) (s : State) : State :=
  match s.saAny i with
  | none => s
  | some x =>
    let recent := x.fails.filter (fun t => decide (s.us < t + 1000000)) ++ [s.us]
    let s := modSa i (fun x => { x with fails := recent, authFails := if reason == 1 then x.authFails else x.authFails + 1,
                                        replays := if reason == 1 then x.replays + 1 else x.replays }) s
    logLimited 12 0x8003 i 1 1000000 (detail [(16, 2, i), (18, 1, x.kind), (19, 1, reason), (20, 4, recent.length)]) s

/-! ### Key slots (R464-R469, R478, R479) -/

/-- Delete an SA; a SecY loses its active TX SA with it. -/
def removeSa (i : Nat) (s : State) : State :=
  modCry (fun c => { c with sas := (c.sas.filter fun x => x.1 != i).map fun x => (x.1, { x.2 with active := x.2.active.filter (· != i) }) }) s
/-- Wipe device slots, with the SAs that name them (R478, R479). -/
def wipeSlots (sel : Nat → KeySlot → Bool) (s : State) : State :=
  let gone := (s.cry.slots.filter fun x => sel x.1 x.2).map (·.1)
  let s := forEach ((s.cry.sas.filter fun x => gone.contains x.2.slot && x.2.kind != 1).map (·.1)) removeSa s
  modCry (fun c => { c with slots := c.slots.filter fun x => !gone.contains x.1 }) s
/-- Key-encryption keys of an owner. -/
def State.keksOf (s : State) (o : Nat) : Keks := tget {} s.cry.keks o
/-- Set an owner's KEKs. -/
def setKeks (o : Nat) (k : Keks) (s : State) : State := modCry (fun c => { c with keks := tput {} c.keks o k }) s
/-- The device slot that KEY_INDEX names for a function (R465, R466). -/
def State.slotOf (s : State) (fn key : Nat) : Option Nat :=
  if key == 0xFFFF then none
  else if fn == pf0 then (if (s.cry.slots.lookup key).isSome then some key else none)
  else (s.vf fn).tenant.bind fun t => (s.tenant t).keys.lookup key
/-- Key type of the slot that KEY_INDEX names. -/
def State.keyType (s : State) (fn key : Nat) : Option Nat := ((s.slotOf fn key).bind fun d => s.cry.slots.lookup d).map (·.type)

/-! ### MACsec (R480-R487) -/

/-- SecY fields: VPORT, DIR (true TX), XPN, OPTS, SCI, REPLAY_WINDOW (Table 13-6). -/
def Sa.vport (x : Sa) : Nat := u8 x.raw 0
/-- TX direction. -/
def Sa.isTx (x : Sa) : Bool := u8 x.raw 1 == 1
/-- CIPHER is GCM-AES-XPN-256. -/
def Sa.xpn (x : Sa) : Bool := u8 x.raw 2 == 2
/-- SCI of a SecY or of a MACsec SA. -/
def Sa.sci (x : Sa) : Bytes := slice x.raw 4 8
/-- The SecY bound to a vport in a direction (R481). -/
def State.secyAt (s : State) (vp : Nat) (tx : Bool) : Option (Nat × Sa) :=
  s.cry.sas.find? fun x => x.2.kind == 1 && !x.2.going && x.2.vport == vp && x.2.isTx == tx
/-- Destinations that pass a bound SecY unchanged (R482, R485). -/
def macsecExempt (b : Bytes) : Bool := b.take 5 == [0x01, 0x80, 0xC2, 0x00, 0x00] && decide (u8 b 5 < 16)
/-- Bytes that protection by a SecY adds (R485). -/
def secyAdds (y : Sa) : Nat := if (u8 y.raw 3).testBit 0 then 32 else 24
/-- Bytes that leaving a vport adds to a frame (R485). -/
def State.macsecAdds (s : State) (vp : Nat) (b : Bytes) : Nat :=
  if macsecExempt b then 0 else ((s.secyAt vp true).map fun y => secyAdds y.2).getD 0

/-- GCM nonce of a MACsec frame (IEEE 802.1AE). -/
def macsecIv (y x : Sa) (sci : Bytes) (pn : Nat) : Bytes :=
  if y.xpn then ((putBe 4 (u32 x.raw 20) ++ putBe 8 pn).zip (slice x.raw 24 12)).map fun p => p.1 ^^^ p.2 else sci ++ putBe 4 pn
/-- The frame protected with a PN by a TX SA of a SecY. -/
def macsecSeal (key : Bytes) (y x : Sa) (pn : Nat) (b : Bytes) : Bytes :=
  let sc := (u8 y.raw 3).testBit 0
  let conf := (u8 y.raw 3).testBit 1
  let data := b.drop 12
  let tag := putBe 2 0x88E5 ++ putLe 1 (32 * b2n sc + 12 * b2n conf + u8 x.raw 0) ++ putLe 1 (if data.length < 48 then data.length else 0)
    ++ putBe 4 pn ++ (if sc then y.sci else [])
  let iv := macsecIv y x y.sci pn
  if conf then b.take 12 ++ tag ++ (Config.gcmSeal key iv (b.take 12 ++ tag) data ++ zeros (data.length + 16)).take (data.length + 16)
  else b.take 12 ++ tag ++ data ++ (Config.gcmSeal key iv (b.take 12 ++ tag ++ data) [] ++ zeros 16).take 16

/-- The limit of an SA's numbers (R486, R492). -/
def State.numLimit (s : State) (x : Sa) : Nat :=
  let wide := if x.kind == 2 || x.kind == 3 then ((s.saAny x.secy).map (·.xpn)).getD false else x.flags.testBit 1
  if wide then 2 ^ 64 - 1 else 2 ^ 32 - 1
/-- SOFT of an SA (Table 13-6). -/
def Sa.softAt (x : Sa) : Nat := if x.kind == 2 || x.kind == 3 then u64 x.raw 36 else if x.kind == 0x10 || x.kind == 0x11 then u64 x.raw 48 else u32 x.raw 20
/-- The TX SA a SecY protects with now, and the PN it gives (R462, R485, R486). -/
def macsecPn (y : Nat) (s : State) : Option (Nat × Nat) × State :=
  match (s.saAny y).bind (·.active) with
  | none => (none, s)
  | some a =>
    match s.saAny a with
    | none => (none, s)
    | some x =>
      match takeNum a (s.numLimit x) x.softAt s with
      | (some pn, s) => (some (a, pn), s)
      | (none, s) => (none, s)
/-- Protect a frame with the PN that it was given. -/
def macsecProtect (a pn : Nat) (b : Bytes) (s : State) : Option Bytes × State :=
  match s.saAny a with
  | none => (none, s)
  | some x =>
    match s.saAny x.secy with
    | none => (none, s)
    | some y => (some (macsecSeal (s.slotKey x.slot) y x pn b), saCount a b.length s)
/-- Protect a frame that leaves a vport with a bound TX SecY; none drops it. -/
def macsecLeave (vp : Nat) (b : Bytes) (s : State) : Option Bytes × State :=
  if macsecExempt b then (some b, s)
  else match s.secyAt vp true with
  | none => (some b, s)
  | some (y, _) =>
    match macsecPn y s with
    | (some (a, pn), s) => macsecProtect a pn b s
    | (none, s) => (none, s)

/-- A SecTAG: E, AN, PN, SCI when SC, and its length; none unless it is valid. -/
def secTag (b : Bytes) : Option (Bool × Nat × Nat × Option Bytes × Nat) :=
  let tci := u8 b 14
  let sc := tci.testBit 5
  let n := if sc then 16 else 8
  if beAt b 12 2 != 0x88E5 || tci.testBit 7 || decide (b.length < 12 + n + 16) then none
  else some (tci.testBit 3, tci % 4, beAt b 16 4, if sc then some (slice b 20 8) else none, n)
/-- The RX SA of a frame on a SecY, with the whole PN (R484). -/
def State.rxSa (s : State) (y : Nat) (b : Bytes) : Option (Nat × Sa × Nat × Bool × Nat) :=
  match s.saAny y, secTag b with
  | some sy, some (e, an, pn, sci, n) =>
    let sci := sci.getD sy.sci
    match s.cry.sas.find? fun x => x.2.kind == 3 && x.2.secy == y && u8 x.2.raw 0 == an && x.2.sci == sci with
    | none => none
    | some (i, x) =>
      let lo := x.high % 2 ^ 32
      let hi := x.high / 2 ^ 32
      let full := if sy.xpn then (if pn < lo && 2 ^ 31 < lo - pn then hi + 1 else hi) * 2 ^ 32 + pn else pn
      some (i, x, full, e, n)
  | _, _ => none
/-- A PN that the replay check refuses (R484). -/
def replayed (y x : Sa) (pn : Nat) : Bool := decide (pn + u32 y.raw 12 < x.high) || decide (pn < u64 x.raw 12)
/-- Verify, and for E = 1 decrypt, a frame under an RX SA: the frame without SecTAG and ICV. -/
def macsecOpen (s : State) (y : Nat) (b : Bytes) : Option Bytes :=
  match s.saAny y, s.rxSa y b with
  | some sy, some (_, x, pn, e, n) =>
    let head := b.take (12 + n)
    let body := b.drop (12 + n)
    let iv := macsecIv sy x x.sci pn
    let key := s.slotKey x.slot
    if e then (Config.gcmOpen key iv head body).map fun p => b.take 12 ++ p
    else
      let data := body.take (body.length - 16)
      (Config.gcmOpen key iv (head ++ data) (body.drop (body.length - 16))).map fun _ => b.take 12 ++ data
  | _, _ => none
/-- The highest PN of an RX SA advances (R484). -/
def macsecSeen (i pn n : Nat) (s : State) : State :=
  match s.saAny i with
  | none => s
  | some x => saSoft i pn x.softAt (saCount i n (modSa i (fun x => { x with high := max x.high pn }) s))

/-- What a bound RX SecY says of a frame as it arrives (R482-R484). -/
inductive MacsecRx where
  /-- No bound SecY, or an exempt destination. -/
  | pass
  /-- Dropped before a caddy is taken. -/
  | drop
  /-- E = 1: stored and opened by an engine before the lookup. -/
  | sealed (secy : Nat)
  /-- E = 0: verified as it streams: the frame without SecTAG and ICV, RX SA, PN, and whether the ICV holds. -/
  | plain (b : Bytes) (sa pn : Nat) (good : Bool)
  deriving DecidableEq, Repr

/-- Judge a frame by the bound RX SecY of its vport. -/
def macsecArrive (s : State) (vp : Nat) (b : Bytes) : MacsecRx :=
  match s.secyAt vp false with
  | none => .pass
  | some (y, sy) =>
    if macsecExempt b then .pass
    else match s.rxSa y b with
    | none => .drop
    | some (i, x, pn, e, n) =>
      if replayed sy x pn then .drop
      else if e then .sealed y
      else
        let bare := b.take 12 ++ ((b.drop (12 + n)).take (b.length - 28 - n))
        .plain bare i pn (macsecOpen s y b).isSome
/-- Open a frame under an RX SecY once it is stored (R483, R487): none drops it. -/
def macsecTake (y : Nat) (b : Bytes) (s : State) : Option Bytes × State :=
  match s.saAny y, s.rxSa y b with
  | some sy, some (i, x, pn, _, _) =>
    if replayed sy x pn then (none, saFail i 1 s)
    else match macsecOpen s y b with
    | none => (none, saFail i 0 s)
    | some p => (some p, macsecSeen i pn b.length s)
  | _, _ => (none, s)

/-! ### IPsec ESP (R488-R492) -/

/-- Pad bytes 1, 2, 3, … -/
def padBytes (n : Nat) : Bytes := (List.range n).map fun i => BitVec.ofNat 8 (i + 1)
/-- ESP header, IV, protected payload with trailer, and ICV (RFC 4303, RFC 4106). -/
def espSeal (key : Bytes) (x : Sa) (sq : Nat) (payload : Bytes) (next : Nat) : Bytes :=
  let pad := (4 - (payload.length + 2) % 4) % 4
  let plain := payload ++ padBytes pad ++ putLe 1 pad ++ putLe 1 next
  let aad := slice x.raw 0 4 ++ (if x.flags.testBit 1 then putBe 8 sq else putBe 4 sq)
  let iv := putBe 8 sq
  slice x.raw 0 4 ++ putBe 4 sq ++ iv ++ (Config.gcmSeal key (slice x.raw 4 4 ++ iv) aad plain ++ zeros (plain.length + 16)).take (plain.length + 16)
/-- The frame protected by an ESP_OUT SA with its sequence number; none when it may not pass (R489). -/
def espOut (key : Bytes) (x : Sa) (sq : Nat) (b : Bytes) : Option Bytes :=
  let p := parse b
  let v6 := u8 x.raw 9 == 6
  if !(p.ether == 0x0800 || p.ether == 0x86DD) || p.ver == 0 then none
  else
    let packet := (b.take p.total).drop p.l3
    if u8 x.raw 8 == 1 then
      let esp := espSeal key x sq packet (if p.ver == 6 then 41 else 4)
      let tos := (if u8 x.raw 11 == 0xFF then p.tos / 4 else u8 x.raw 11) * 4 + p.tos % 4
      let l2 := b.take (p.l3 - 2)
      if v6 then some (l2 ++ putBe 2 0x86DD ++ putBe 4 (6 * 2 ^ 28 + tos * 2 ^ 20) ++ putBe 2 esp.length ++ [50] ++ putLe 1 (u8 x.raw 10)
        ++ slice x.raw 12 16 ++ slice x.raw 28 16 ++ esp)
      else
        let df := if p.ver == 4 then fld b (p.l3 + 6) 2 / 0x4000 % 2 else 1
        some (fixIp (l2 ++ putBe 2 0x0800 ++ [0x45] ++ putLe 1 tos ++ putBe 2 (20 + esp.length) ++ [0, 0] ++ putBe 2 (df * 0x4000)
          ++ putLe 1 (u8 x.raw 10) ++ [50, 0, 0] ++ slice x.raw 12 4 ++ slice x.raw 28 4 ++ esp) p.l3)
    else if (p.ver == 6) != v6 || p.l4 == 0 then none
    else
      let esp := espSeal key x sq ((b.take p.total).drop p.l4) p.proto
      if v6 then
        -- the last next-header field of the chain names ESP
        let chain := extChain (seen b) 4 (u8 b (p.l3 + 6)) (p.l3 + 6) (p.l3 + 40)
        some (putField (putField (b.take p.l4) chain 1 50) (p.l3 + 4) 2 (p.l4 - p.l3 - 40 + esp.length) ++ esp)
      else some (fixIp (putField (putField (b.take p.l4) (p.l3 + 9) 1 50) (p.l3 + 2) 2 (p.l4 - p.l3 + esp.length) ++ esp) p.l3)
where
  /-- Offset of the next-header field that names the header after the extension headers. -/
  extChain (b : Bytes) : Nat → Nat → Nat → Nat → Nat
    | 0, _, at_, _ => at_
    | k + 1, nh, at_, off =>
      if off + 8 ≤ b.length && (nh == 0 || nh == 43 || nh == 60) then extChain b k (u8 b off) off (off + (u8 b (off + 1) + 1) * 8)
      else if off + 8 ≤ b.length && nh == 44 then extChain b k (u8 b off) off (off + 8)
      else at_
/-- The ESP_IN SA that a frame's SPI selects (R490). -/
def State.espSa (s : State) (b : Bytes) : Option (Nat × Sa) :=
  let p := parse b
  if p.proto == 50 && p.l4 != 0 then s.cry.sas.find? fun x => x.2.kind == 0x11 && !x.2.going && slice x.2.raw 0 4 == slice b p.l4 4 else none
/-- The 64-bit sequence number of a received packet (RFC 4303, appendix A). -/
def esnOf (x : Sa) (low window : Nat) : Nat :=
  if !x.flags.testBit 1 then low
  else
    let w := max window 64
    let tl := x.high % 2 ^ 32; let th := x.high / 2 ^ 32
    if w - 1 ≤ tl then (if tl - (w - 1) ≤ low then th else th + 1) * 2 ^ 32 + low
    else (if 2 ^ 32 + tl - (w - 1) ≤ low then th - 1 else th) * 2 ^ 32 + low
/-- Open a frame under an ESP_IN SA (R490, R491): the frame, or none with its drop counted. -/
def espIn (i : Nat) (b : Bytes) (s : State) : Option Bytes × State :=
  match s.saAny i with
  | none => (none, s)
  | some x =>
    let p := parse b
    let window := u32 x.raw 44
    let low := beAt b (p.l4 + 4) 4
    let sq := esnOf x low window
    let isFrag := if p.ver == 4 then fld b (p.l3 + 6) 2 % 0x4000 != 0 else p.frag || p.proto == 44
    let tunnel := u8 x.raw 8 == 1
    let dst := if p.ver == 4 then putBe 4 p.dst ++ zeros 12 else putBe 16 p.dst
    let old := window != 0 && (decide (sq + window ≤ x.high) || x.seen.contains sq || sq == 0)
    if isFrag then (none, saFail i 4 s)
    else if tunnel && dst != slice x.raw 28 16 then (none, saFail i 2 s)
    else if old then (none, saFail i 1 s)
    else
      let body := (b.take p.total).drop (p.l4 + 16)
      let aad := slice b p.l4 4 ++ (if x.flags.testBit 1 then putBe 8 sq else putBe 4 sq)
      match Config.gcmOpen (s.slotKey x.slot) (slice x.raw 4 4 ++ slice b (p.l4 + 8) 8) aad body with
      | none => (none, saFail i 0 s)
      | some plain =>
        let n := plain.length
        let pad := u8 plain (n - 2)
        let next := u8 plain (n - 1)
        if n < 2 + pad || (plain.drop (n - 2 - pad)).take pad != padBytes pad || next == 59 then (none, saFail i 3 s)
        else
          let top := max x.high sq
          let kept := if window == 0 then [] else (sq :: x.seen).filter fun q => decide (top < q + window)
          let s := saCount i b.length (modSa i (fun x => { x with high := top, seen := kept }) s)
          let data := plain.take (n - 2 - pad)
          if tunnel then (some (b.take (p.l3 - 2) ++ putBe 2 (if u8 data 0 / 16 == 6 then 0x86DD else 0x0800) ++ data), s)
          else if p.ver == 6 then
            let chain := espOut.extChain (seen b) 4 (u8 b (p.l3 + 6)) (p.l3 + 6) (p.l3 + 40)
            (some (putField (putField (b.take p.l4) chain 1 next) (p.l3 + 4) 2 (p.l4 - p.l3 - 40 + data.length) ++ data), s)
          else (some (fixIp (putField (putField (b.take p.l4) (p.l3 + 9) 1 next) (p.l3 + 2) 2 (p.l4 - p.l3 + data.length) ++ data) p.l3), s)

/-! ### Crypto named by a switch action (R404, R487, R490) -/

/-- The SA that CRYPTO_SA selects for a frame, none when it is absent. -/
def State.actionSa (s : State) (sa : Nat) (b : Bytes) : Option (Nat × Sa) :=
  if sa == 0xFFFE then s.espSa b
  else match s.sa sa with
  | some x => if x.kind == 1 || x.kind == 0x10 then some (sa, x) else none
  | none => none
/-- It protects, rather than opens, what passes it. -/
def Sa.encrypts (x : Sa) : Bool := x.kind == 0x10 || x.kind == 2 || (x.kind == 1 && x.isTx)
/-- A frame without a matching ESP_IN SA: the drop is recorded under the value 0xFFFE (R490; log 33). -/
def noSaDrop (s : State) : State := logLimited 12 0x8003 0xFFFE 1 1000000 (detail [(16, 2, 0xFFFE), (18, 1, 0x11), (19, 1, 2), (20, 4, 1)]) s
/-- The item enters the pool: the SA it will use and the number it is given; none drops it (R462). -/
def cryptEnter (i : Nat) (s : State) : Option (Nat × Nat) × State :=
  match s.saAny i with
  | none => (none, s)
  | some x =>
    if x.kind == 1 && x.isTx then macsecPn i s
    else if x.kind == 0x10 then
      match takeNum i (s.numLimit x) x.softAt s with
      | (some n, s) => (some (i, n), s)
      | (none, s) => (none, s)
    else (some (i, 0), s)
/-- The item leaves its engine: the frame it has become, or none. -/
def cryptLeave (i num : Nat) (b : Bytes) (s : State) : Option Bytes × State :=
  match s.saAny i with
  | none => (none, s)
  | some x =>
    if x.kind == 2 then macsecProtect i num b s
    else if x.kind == 1 then macsecTake i b s
    else if x.kind == 0x10 then
      match espOut (s.slotKey x.slot) x num b with
      | some r => (some r, saCount i b.length s)
      | none => (none, s)
    else espIn i b s

/-! ### TLS records (R493-R495) -/

/-- Nonce of a record. -/
def tlsIv (x : Sa) (n : Nat) : Bytes := ((zeros 4 ++ putBe 8 n).zip (slice x.raw 0 12)).map fun p => p.1 ^^^ p.2
/-- LIMIT; 0 means 2^24. -/
def Sa.limit (x : Sa) : Nat := if u32 x.raw 24 == 0 then 2 ^ 24 else u32 x.raw 24
/-- One more record on a TLS SA; none when LIMIT has been reached. -/
def tlsRecord (i n : Nat) (s : State) : Option Nat × State :=
  match s.saAny i with
  | none => (none, s)
  | some x =>
    if x.limit ≤ x.records then (none, s)
    else
      let k := x.records + 1
      let s := saCount i n (modSa i (fun x => { x with records := k, next := x.next + 1 }) s)
      let s := saSoft i k x.softAt s
      (some x.next, if k == x.limit then saSpent i k s else s)
/-- Protect content of a type (23 application data) in records of at most 16,384 bytes; none when the SA refuses a record. -/
def tlsSeal (i type : Nat) : Nat → Bytes → State → Option Bytes × State
  | 0, _, s => (some [], s)
  | k + 1, b, s =>
    if b.isEmpty then (some [], s)
    else
      let part := b.take 16384
      match s.saAny i, tlsRecord i part.length s with
      | some x, (some n, s) =>
        let len := part.length + 17
        let hdr : Bytes := [0x17, 3, 3] ++ putBe 2 len
        let ct := (Config.gcmSeal (s.slotKey x.slot) (tlsIv x n) hdr (part ++ putLe 1 type) ++ zeros len).take len
        match tlsSeal i type k (b.drop 16384) s with
        | (some r, s) => (some (hdr ++ ct ++ r), s)
        | (none, s) => (none, s)
      | _, (_, s) => (none, s)
/-- Content type and content of an inner plaintext (RFC 8446, 5.4): zero padding is removed. -/
def tlsInner (p : Bytes) : Option (Nat × Bytes) :=
  match p.reverse.dropWhile (· == 0) with
  | [] => none
  | t :: r => some (t.toNat, r.reverse)
/-- Open one whole record: its content type and content; none is a record failure (R494, R495). -/
def tlsOpen (i : Nat) (rec : Bytes) (s : State) : Option (Nat × Bytes) × State :=
  let ct := rec.drop 5
  match s.saAny i with
  | none => (none, s)
  | some x =>
    if 16640 < ct.length then (none, saFail i 5 s)
    else match tlsRecord i ct.length s with
    | (none, s) => (none, s)
    | (some n, s) =>
      match (Config.gcmOpen (s.slotKey x.slot) (tlsIv x n) (rec.take 5) ct).bind tlsInner with
      | some r => (some r, s)
      | none => (none, saFail i 0 s)

/-! ### XTS (R496) -/

/-- Process a run of data units of size u from a DUN on. -/
def xtsUnits (enc : Bool) (key : Bytes) (u : Nat) : Nat → Nat → Bytes → Bytes
  | 0, _, _ => []
  | k + 1, dun, b =>
    if b.isEmpty then [] else
      let part := b.take u
      (Config.xtsUnit enc key dun part ++ zeros part.length).take part.length ++ xtsUnits enc key u k (dun + 1) (b.drop u)
/-- XTS over bytes with data units of 2^du bytes. -/
def xts (enc : Bool) (key : Bytes) (du dun : Nat) (b : Bytes) : Bytes := xtsUnits enc key (2 ^ du) (ceilDiv b.length (2 ^ du)) dun b

end Sys2Proof.Machine
end

