-- ==== Sys2Proof/Machine/StoBase.lean ====
section
/-!
DEFINITION. Sys2Proof/Machine/StoBase.lean: attached connections and the steering table (ch 14).
-/
namespace Sys2Proof.Machine
open Sys2Proof

/-- Change the storage side. -/
def modSto (f : StoreSide → StoreSide) (s : State) : State := { s with sto := f s.sto }
/-- Connection h. -/
def State.conn (s : State) (h : Nat) : Option Conn := s.sto.conns.lookup h
/-- Change connection h. -/
def modConn (h : Nat) (f : Conn → Conn) (s : State) : State :=
  modSto (fun x => { x with conns := modWhere (fun c => c.1 == h) (fun c => (c.1, f c.2)) x.conns }) s

/-! Fields of the state block (Table 14-2). -/

/-- PROTO: 1 TCP target, 2 TCP initiator, 3 RoCEv2 target. -/
def Conn.proto (c : Conn) : Nat := u8 c.raw 0
/-- The connection runs TCP. -/
def Conn.tcp (c : Conn) : Bool := c.proto != 3
/-- IPVER. -/
def Conn.ver (c : Conn) : Nat := u8 c.raw 1
/-- A flag of byte 3: 0 HDGST, 1 DDGST, 2 TLS, 3 TIMESTAMPS, 4 SACK_PERMITTED. -/
def Conn.flag (c : Conn) (i : Nat) : Bool := c.tcp && (u8 c.raw 3).testBit i
/-- QD. -/
def Conn.qd (c : Conn) : Nat := u16 c.raw 4
/-- LOCAL_IP and PEER_IP as numbers. -/
def Conn.ip (c : Conn) (off : Nat) : Nat := if c.ver == 4 then beAt c.raw off 4 else beAt c.raw off 16
/-- MAXH2CDATA. -/
def Conn.maxData (c : Conn) : Nat := u32 c.raw 84
/-- LOCAL_QPN. -/
def Conn.qpn (c : Conn) : Nat := beAt c.raw 80 4 % 2 ^ 24
/-- PMTU in bytes. -/
def Conn.pmtu (c : Conn) : Nat := 2 ^ (u8 c.raw 72 + 7)

/-- A frame belongs to a connection: its 5-tuple, or its destination QP (R515). -/
def connMatch (c : Conn) (b : Bytes) : Bool :=
  let p := parse b
  p.ver == c.ver && !p.frag && p.dst == c.ip 24 && p.src == c.ip 40 &&
    (if c.tcp then p.proto == 6 && fld b p.l4 2 == beAt c.raw 58 2 && fld b (p.l4 + 2) 2 == beAt c.raw 56 2
     else p.proto == 17 && fld b (p.l4 + 2) 2 == 4791 && fld b (p.l4 + 13) 3 == c.qpn)
/-- The connection of a function whose frames the steering table diverts (R515). -/
def State.steered (s : State) (fn : Nat) (b : Bytes) : Option (Nat × Conn) := s.sto.conns.find? fun x => x.2.fn == fn && connMatch x.2 b
/-- The connection that a frame at the storage pool belongs to. -/
def State.connOf (s : State) (b : Bytes) : Option (Nat × Conn) := s.sto.conns.find? fun x => connMatch x.2 b

end Sys2Proof.Machine
end

