-- ==== Sys2Proof/Machine/SwitchOps.lean ====
section
/-!
DEFINITION. Sys2Proof/Machine/SwitchOps.lean: the embedded switch: tables, lookup, actions, mirroring, delivery and egress (ch 11, 10, 07, 08).
-/
namespace Sys2Proof.Machine
open Sys2Proof

/-- Entry i of an indexed table; [] when absent. -/
def SwTables.get (t : SwTables) (code i : Nat) : Bytes := tget [] t.indexed (code * 2 ^ 20 + i)
/-- An active entry. -/
def State.sw (s : State) (code i : Nat) : Bytes := s.net.active.get code i
/-- The vport's record has ENABLED = 1 (R392). -/
def State.vpOn (s : State) (vp : Nat) : Bool := (u8 (s.sw 1 vp) 0).testBit 0
/-- The vport of an Ethernet port, an aggregate or a lattice link. -/
def isNetVp (vp : Nat) : Bool := inR vp 0x48 0x4F || inR vp 0x50 0x53 || inR vp 0x58 0x5B
/-- A vport of Table 11-1 that is not reserved. -/
def vpExists (vp : Nat) : Bool := decide (vp ≤ 0x40) || isNetVp vp || vp == 0x5C || vp == 0x60
/-- The aggregate a port belongs to. -/
def State.aggOf (s : State) (p : Nat) : Option Nat := (List.range 4).find? fun a => (s.agg a).on && (s.agg a).members.contains p
/-! ### Lookup (R399) -/

/-- What a lookup ends with. -/
inductive Lookup where
  /-- The frame is dropped: 0 by DROP or a miss, 1 by R412 or R413 with the TUNNEL_DROP reason, 2 otherwise (R417, DECAP_ONLY_MATCHED). -/
  | drop (why reason : Nat)
  /-- An action, the frame as decapsulated, its tunnel type, and the BD. -/
  | act (found : Found) (inner : Bytes) (tunnel : Nat) (key : Bytes)
  deriving DecidableEq, Repr

/-- A ternary entry matches a key. -/
def ternMatch (key e : Bytes) : Bool := ((List.range 64).all fun i => (u8 key i &&& u8 e (64 + i)) == u8 e i)
/-- The matching ternary entry: highest PRIORITY, lowest index. -/
def ternFind (t : SwTables) (key : Bytes) : Option Bytes :=
  let hits := (t.indexed.filter fun e => e.1 / 2 ^ 20 == 9 && ternMatch key e.2).map (·.2)
  hits.foldl (fun m e => match m with
    | none => some e
    | some b => if u16 b 128 < u16 e 128 then some e else some b) none
/-- Action of an L2 entry for a BD and a destination MAC. -/
def l2Find (t : SwTables) (bd : Nat) (mac : Bytes) : Option Nat := (t.l2.find? fun e => u16 e 0 % 4096 == bd && slice e 2 6 == mac).map fun e => u16 e 8
/-- An action index resolved against the tables. -/
def resolve (t : SwTables) (a : Nat) : Option Found :=
  let r := t.get 3 a
  if r.isEmpty then none
  else
    let rep := t.get 5 (u16 r 12)
    some { action := r, tunnel := if (u8 r 1).testBit 1 then t.get 4 (u16 r 4) else [],
           copies := if u8 r 0 == 3 then (List.range (u8 rep 0)).map fun i => u8 rep (4 + i) else [] }

/-- Steps 2 to 5 of R399 for a key. -/
def classify (t : SwTables) (key : Bytes) (bd : Nat) : Option Found :=
  let l2 (bd : Nat) : Option Found :=
    match l2Find t bd (slice key 52 6) with
    | some a => resolve t a
    | none => let e := t.get 2 bd; if e.isEmpty then none else resolve t (u16 e 0)
  let exact : Option Found :=
    match t.exact.find? fun e => e.take 64 == key with
    | some e => resolve t (u16 e 64)
    | none => l2 bd
  match ternFind t key with
  | none => exact
  | some e =>
    match resolve t (u16 e 130) with
    | none => none
    | some f => if u8 f.action 0 == 4 then l2 (u16 f.action 18 % 4096) else some f

/-- The lookup of a frame in a generation (R399, R400, R411-R413, R417). -/
def lookupFrame (t : SwTables) (b : Bytes) (inVp tc : Nat) (tunnelsOff : Bool) : Lookup :=
  let bd0 := u16 (t.get 1 inVp) 2 % 4096
  let judge (found : Option Found) (inner : Bytes) (tun : Nat) (key : Bytes) : Lookup :=
    match found with
    | none => .drop 0 0
    | some f =>
      let k := u8 f.action 0
      if k == 2 || k == 4 then .drop 0 0
      else if (u8 f.action 1).testBit 0 && tun == 0 then .drop 2 0
      else if tunnelsOff && (u8 f.action 1).testBit 1 then .drop 2 0
      else .act f inner tun key
  match (if isNetVp inVp then decapMatch t.decap b else .no) with
  | .drop r => .drop 1 r
  | .yes inner bd type vni =>
    if tunnelsOff then .drop 2 0
    else
      let key := lookupKey inner bd inVp tc vni true
      judge (classify t key bd) inner type key
  | .no =>
    let key := lookupKey b bd0 inVp tc 0 false
    judge (classify t key bd0) b 0 key

/-- Traffic class of a frame that enters by a network vport (R397). -/
def State.classIn (s : State) (vp : Nat) (b : Bytes) : Nat :=
  let r := s.sw 1 vp
  match (parse b).tags.head? with
  | some t => if (u8 r 0).testBit 3 then t.2 / 8192 else u8 r 1 % 8
  | none => u8 r 1 % 8

/-! ### Egress -/

/-- Drop a frame: its caddies are freed (R405), and the drop is charged at a point when one is named. -/
def dropFrame (k : Option Nat) (f : Frame) (s : State) : State :=
  let s := cadRelease f.bufs s
  ifSome k (fun k s => chargeDrop k f.owner (f.bytes.length + 24) s) s
/-- A frame that came from a ring (R441). -/
def Frame.fromHost (f : Frame) : Bool := decide (f.inVp ≤ 0x40)
/-- Queue a frame at an egress point; network frames pass R442. -/
def egressAt (k : Nat) (f : Frame) (s : State) : State :=
  let len := max 64 (f.bytes.length + 4)
  if f.fromHost || f.mirror || s.netAdmits k f.owner then enqueueAt k f.owner f.tc (len + 20) false (.send f) s else dropFrame (some k) f s
/-- Queue a frame at port p (R352, R358, R415). -/
def egressPort (p : Nat) (f : Frame) (s : State) : State :=
  if !s.portUp p then dropFrame (some (0x48 + p)) f s
  else if (s.port p).maxFrame < f.bytes.length + 4 + s.macsecAdds (match s.aggOf p with | some a => 0x50 + a | none => 0x48 + p) f.bytes then dropFrame (some (0x48 + p)) f (countEv 4 (0x48 + p) 8 1 s)
  else egressAt (0x48 + p) f s
/-- Members of an aggregate that carry conversations (R374). -/
def State.activeMembers (s : State) (a : Nat) : List Nat := (s.agg a).members.filter fun p => s.portUp p && (s.port p).park == 0
/-- Conversation of a frame. -/
def Frame.conversation (f : Frame) : Nat := f.hash % 4096
/-- A frame of a conversation is still queued on a member other than p, or held (R374). -/
def State.convBusy (s : State) (a p c : Nat) (held : List Frame) : Bool :=
  held.any (fun f => f.conversation == c)
    || ((s.agg a).members.filter (· != p)).any fun q => ((s.point (0x48 + q)).queue ++ (s.point (0x48 + q)).serving).any fun i =>
      match i.job with
      | .send f => f.conversation == c && f.hash != 0
      | _ => false
/-- The member a conversation uses now, chosen and kept as R374 and R398 state. -/
def memberFor (a c : Nat) (s : State) : Option Nat × State :=
  let g := s.agg a
  let act := s.activeMembers a
  let home := tget 0 g.conv c
  let alt := tget 0 g.alt c
  if act.isEmpty then (none, s)
  else if home != 0 && act.contains (home - 1) then (some (home - 1), modAgg a (fun g => { g with alt := tput 0 g.alt c 0 }) s)
  else if home != 0 && alt != 0 && act.contains (alt - 1) then (some (alt - 1), s)
  else
    let (k, s) := freeNat act.length s
    let p := act.getD k 0
    (some p, modAgg a (fun g => if home = 0 then { g with conv := tput 0 g.conv c (p + 1) } else { g with alt := tput 0 g.alt c (p + 1) }) s)
/-- Send a frame on an aggregate, or hold it behind the frames of its conversation that another member still has. -/
def egressAgg (a : Nat) (f : Frame) (s : State) : State :=
  match memberFor a f.conversation s with
  | (none, s) => dropFrame (some (0x50 + a)) f s
  | (some p, s) =>
    if s.convBusy a p f.conversation (s.agg a).held then modAgg a (fun g => { g with held := g.held ++ [f] }) s else egressPort p f s
/-- Send held frames whose conversation has left its old member. -/
def releaseHeld (a : Nat) (s : State) : State :=
  let frames := (s.agg a).held
  forEach frames (fun f s => egressAgg a f s) (modAgg a (fun g => { g with held := [] }) s)

/-! ### Delivery to a function -/

/-- RX_INFO (Table 11-9). -/
def Frame.rxInfo (f : Frame) (early : Bool) : Nat :=
  f.inVp % 128 + 128 * b2n early + 256 * f.tc + 2048 * b2n (f.tunnel != 0) + 4096 * f.tunnel + 16384 * f.csum
    + 262144 * b2n f.stripped.isSome + 524288 * b2n f.mirror + 1048576 * f.stripped.getD 0
/-- The vport of a function. -/
def vpFn (vp : Nat) : Nat := if vp == 0x40 then pf0 else vp

/-- Posted buffers of a RECEIVE ring in order: entry, slot position, address, length. -/
def Ring.posted (r : Ring) : List (Nat × Nat × Nat × Nat) :=
  (r.work.map fun w => ((List.range w.slots.length).filter fun i => w.slots.getD i .held == .waiting).map fun i =>
    (w.seq, w.segBase + i, entAddr w.entry (w.segBase + i), entLen w.entry (w.segBase + i))).flatten
/-- The buffers a frame of n bytes takes: entry, segment, address, bytes of this buffer; none when there are too few. -/
def takePosted : Nat → List (Nat × Nat × Nat × Nat) → Option (List (Nat × Nat × Nat × Nat))
  | 0, _ => some []
  | _ + 1, [] => none
  | n + 1, (q, i, a, l) :: t => (takePosted (n + 1 - (max l 1)) t).map fun r => (q, i, a, min l (n + 1)) :: r
/-- Change the slot of a segment. -/
def setSlot (g seq seg : Nat) (v : CqSlot) (s : State) : State := modWork g seq (fun w => { w with slots := w.slots.set (seg - w.segBase) v }) s
/-- Write a frame into posted buffers; each gets its completion, at once or (early) when the verdict is known. -/
def writeBuffers (g fn : Nat) (f : Frame) : List (Nat × Nat × Nat × Nat) → Bytes → State → List (Nat × Bool) × State
  | [], _, s => ([], s)
  | (_, _, a, n) :: t, b, s =>
    let (good, s) := dmaPut fn a (b.take n) s
    let (r, s) := writeBuffers g fn f t (b.drop n) s
    ((n, good) :: r, s)
/-- The completion of one receive buffer. -/
def rxEntry (f : Frame) (user seg n status : Nat) (more early : Bool) : CqEntry :=
  { user := user, length := n, status := status, kind := 4, segMask := if status == 0 || status == stCancelled then 0 else 2 ^ seg, segIndex := seg,
    flags := b2n more, rxInfo := f.rxInfo early }

/-- Deliver a frame to the posted buffers of a RECEIVE ring (R298); one without room is dropped before any DMA. -/
def deliverFrame (g : Nat) (f : Frame) (s : State) : State :=
  match s.ring g with
  | none => dropFrame (some 0x103) f s
  | some r =>
    match (if r.st != .clearing then takePosted f.bytes.length r.posted else none) with
    | none => dropFrame (some 0x103) f s
    | some bufs =>
      let (res, s) := writeBuffers g r.fn f bufs f.bytes s
      let last := bufs.length - 1
      let s := forEach ((bufs.zip res).zipIdx) (fun x s =>
        let ((q, seg, _, _), (n, good)) := x.1
        let user := ((s.workOf g q).map fun w => entUser w.entry).getD 0
        setSlot g q seg (.ready (rxEntry f user seg (if good then n else 0) (if good then stOk else stFault) (x.2 != last) false)) s) s
      settle g (cadRelease f.bufs s)

/-- Queue a frame for a function's vport (R393, R394, R424, R330, R442). -/
def toFunction (vp first log : Nat) (f : Frame) (s : State) : State :=
  let fn := vpFn vp
  let t := if fn == pf0 then none else (s.vf fn).tenant
  let vpConn := s.steered fn f.bytes
  let stopped := if fn == pf0 then s.lat.ho.source && inR s.lat.ho.phase 2 4
    else match t with
    | none => true
    | some t => (s.tenant t).state != 1
  let foreign := f.fn < 64 && fn != pf0 && (s.vf f.fn).tenant != t
  if foreign then
    let s := countEv 4 f.inVp 6 1 s
    dropFrame none f (logLimited 10 0x8005 f.fn 1 1000 (detail [(16, 1, f.fn), (17, 1, vp)]) s)
  else if stopped then dropFrame none f s
  else if vpConn.isSome then
    -- the steering table diverts the frame to the storage engines (R515)
    match cadMove f.bufs (s.ownerOf fn) fn s with
    | none => dropFrame (some 0x105) { f with owner := s.ownerOf fn } s
    | some s =>
      let f := { f with owner := s.ownerOf fn, fn := fn }
      if f.fromHost || s.netAdmits 0x105 f.owner then enqueueAt 0x105 f.owner 0 f.bytes.length false (.store f) s else dropFrame (some 0x105) f s
  else
    match s.ringAt fn (first + f.hash % 2 ^ log) with
    | none => dropFrame (some 0x103) { f with owner := s.ownerOf fn } s
    | some (g, r) =>
      if r.cls != 3 then dropFrame (some 0x103) { f with owner := s.ownerOf fn } s
      else match cadMove f.bufs (s.ownerOf fn) fn s with
      | none => dropFrame (some 0x103) { f with owner := s.ownerOf fn } s
      | some s =>
        let f := { f with owner := s.ownerOf fn, fn := fn }
        if f.fromHost || s.netAdmits 0x103 f.owner then enqueueAt 0x103 f.owner 0 f.bytes.length false (.deliver f g) s
        else dropFrame (some 0x103) f s

/-- Deliver a frame to a destination vport (Table 11-1, R391, R392, R395). -/
def toVport (vp first log : Nat) (hairpin : Bool) (f : Frame) (s : State) : State :=
  if !vpExists vp || (vp == f.inVp && !hairpin) then dropFrame none f s
  else if !s.vpOn vp && vp != 0x60 then dropFrame none f (countEv 4 vp 4 1 s)
  else
    let s := countEv 4 vp 3 (f.bytes.length + 4) (countEv 4 vp 2 1 s)
    if vp ≤ 0x40 then toFunction vp first log f s
    else if inR vp 0x48 0x4F then (if (s.aggOf (vp - 0x48)).isSome then dropFrame none f s else egressPort (vp - 0x48) f s)
    else if inR vp 0x50 0x53 then (if (s.agg (vp - 0x50)).on then egressAgg (vp - 0x50) f s else dropFrame none f s)
    else if inR vp 0x58 0x5B then (if s.latUp (vp - 0x58) then egressAt vp { f with vertex := 0 } s else dropFrame (some vp) f s)
    else if vp == 0x5C then
      match s.latLinkFor f.vertex with
      | some l => egressAt (0x58 + l) f s
      | none => dropFrame none f s
    else if f.fromHost || s.netAdmits 0x105 f.owner then enqueueAt 0x105 f.owner 0 f.bytes.length false (.store f) s else dropFrame (some 0x105) f s

/-! ### Mirroring (R429-R431) -/

/-- Encapsulate by a tunnel record; the IPv4 identification counter of the record advances (R414). -/
def encapFrame (index : Nat) (t inner : Bytes) (s : State) : Bytes × State :=
  let hash := convHash (lookupKey inner 0 0 0 0 false)
  if u8 t 1 == 4 && !(u8 t 3).testBit 0 then
    let n := tget 0 s.net.ipIds index
    (encapBytes t inner hash n, { s with net := { s.net with ipIds := tput 0 s.net.ipIds index ((n + 1) % 65536) } })
  else (encapBytes t inner hash 0, s)
/-- A frame is a candidate for session m (R429): every SAMPLE_N-th yields a copy. -/
def mirrorTo (m : Nat) (f : Frame) (s : State) : State :=
  let x : Mirror := tget {} s.net.mirrors m
  let put (x : Mirror) (s : State) : State := { s with net := { s.net with mirrors := tput {} s.net.mirrors m x } }
  if !x.on then s
  else if x.seen + 1 < x.sampleN then put { x with seen := x.seen + 1 } s
  else
    let s := put { x with seen := 0 } s
    let cut := if x.trunc = 0 then f.bytes else f.bytes.take x.trunc
    let (bytes, s) := match x.tunnel with
      | some i => if (s.sw 4 i).isEmpty then (cut, s) else encapFrame i (s.sw 4 i) cut s
      | none => (cut, s)
    let lost (s : State) : State :=
      let n := ((tget {} s.net.mirrors m : Mirror).lost) + 1
      let before := s.log.nextSeq
      let s := countEv 4 f.inVp 13 1 (put { (tget {} s.net.mirrors m : Mirror) with lost := n } s)
      let s := logLimited 10 0x8004 m 1 1000000 (detail [(16, 1, m), (20, 4, n)]) s
      if s.log.nextSeq == before then s else put { (tget {} s.net.mirrors m : Mirror) with lost := 0 } s
    let key := if x.dest == 0x40 then 0x103 else x.dest
    let queued := ((s.point key).queue.filter fun i => (i.job.frame?.map (·.mirror)).getD false).foldl (fun n i => n + i.cost) 0
    if 65536 < queued then lost s
    else match cadTake 3 17 255 bytes.length s with
    | none => lost s
    | some (hs, s) =>
      let (id, s) := newId s
      let c : Frame := { id := id, bytes := bytes, inVp := f.inVp, bufs := hs, mirror := true, hash := f.hash }
      let s := countEv 4 f.inVp 12 1 s
      if x.dest == 0x40 then
        match s.ringAt pf0 x.ring with
        | some (g, _) => enqueueAt 0x103 17 0 bytes.length false (.deliver c g) s
        | none => lost (cadRelease hs s)
      else if s.vpOn x.dest then
        if inR x.dest 0x50 0x53 then egressAgg (x.dest - 0x50) c s else if inR x.dest 0x48 0x4F then egressPort (x.dest - 0x48) c s else egressAt x.dest c s
      else lost (cadRelease hs s)
/-- Sessions named by a vport's MIRROR_IN (byte 4) or MIRROR_OUT (byte 5). -/
def State.mirrorsOf (s : State) (vp byte : Nat) : List Nat := let v := u8 (s.sw 1 vp) byte; if inR v 1 4 then [v - 1] else []

/-! ### Actions (R402) -/

/-- The vports an action delivers to. -/
def Found.dests (x : Found) (inVp : Nat) : List Nat :=
  if u8 x.action 0 == 3 then (if (u8 x.action 1).testBit 4 then x.copies else x.copies.filter (· != inVp)) else [u8 x.action 2]

/-- A frame waits for an ENGINE buffer (Table 09-2); point code 0x102 stands for the switch. -/
def waitEngine (f : Frame) (x : Found) (copy : Option Nat) (len : Nat) (s : State) : State :=
  let (id, s) := newId s
  let f := { f with id := id }
  { s with net := { s.net with swWaits := s.net.swWaits ++ [⟨f, x, copy⟩] }
           cad := { s.cad with waits := s.cad.waits ++ [⟨1, f.owner, f.fn, len, 10, .item 0x102 id⟩] } }
/-- A copy of a replication list takes its own buffer (R403). -/
def copyTo (x : Found) (vp : Nat) (f : Frame) (s : State) : State :=
  match cadTake 1 f.owner f.fn f.bytes.length s with
  | none => waitEngine f x (some vp) f.bytes.length s
  | some (hs, s) => toVport vp (u8 x.action 16) (u8 x.action 17) ((u8 x.action 1).testBit 4) { f with bufs := hs, backlog := 0 } s
/-- Mirroring at egress, delivery or replication (R402, R403, R429). -/
def sendOn (x : Found) (f : Frame) (s : State) : State :=
  let a := x.action
  let f := { f with vertex := u16 a 20 }
  let hair := (u8 a 1).testBit 4
  let done := s.mirrorsOf f.inVp 4 ++ (if (u8 a 1).testBit 2 then [u8 a 7] else [])
  let outs := (((x.dests f.inVp).map fun vp => s.mirrorsOf vp 5).flatten.eraseDups).filter fun m => !done.contains m
  let s := forEach outs (fun m s => mirrorTo m f s) s
  if u8 a 0 == 3 then cadRelease f.bufs (forEach (x.dests f.inVp) (fun vp s => copyTo x vp { f with bufs := [] } s) s)
  else toVport (u8 a 2) (u8 a 16) (u8 a 17) hair f s
/-- After crypto: encapsulation, in a buffer of class ENGINE, then the rest (R402). -/
def finishAction (x : Found) (f : Frame) (s : State) : State :=
  let a := x.action
  if (u8 a 1).testBit 1 then
    let (bytes, s') := encapFrame (u16 a 4) x.tunnel f.bytes s
    match cadTake 1 f.owner f.fn bytes.length s' with
    | none => waitEngine f x none bytes.length s
    | some (hs, s) => sendOn x { f with bytes := bytes, bufs := hs } (cadRelease f.bufs s)
  else sendOn x f s
/-- A frame that waited for an ENGINE buffer goes on. -/
def resumeSwitch (id : Nat) (s : State) : State :=
  match s.net.swWaits.find? fun w => w.frame.id == id with
  | none => s
  | some w =>
    let s := { s with net := { s.net with swWaits := s.net.swWaits.filter fun w => w.frame.id != id } }
    match w.copy with
    | some vp => copyTo w.found vp w.frame s
    | none => finishAction w.found w.frame s
/-- A frame has waited 10 ms for an ENGINE buffer: it is dropped (Table 09-2). -/
def dropWaiting (id : Nat) (s : State) : State :=
  match s.net.swWaits.find? fun w => w.frame.id == id with
  | none => s
  | some w => dropFrame none w.frame { s with net := { s.net with swWaits := s.net.swWaits.filter fun w => w.frame.id != id } }

/-- Sessions for which a frame is a candidate on its way in: MIRROR_IN of its vport and the action's MIRROR flag (R429). -/
def State.mirrorsIn (s : State) (x : Found) (f : Frame) : List Nat :=
  (s.mirrorsOf f.inVp 4 ++ (if (u8 x.action 1).testBit 2 then [u8 x.action 7] else [])).eraseDups
/-- VLAN operation and SET_TC of an action (R402). -/
def Found.edit (x : Found) (f : Frame) : Frame :=
  let a := x.action
  let (bytes, vid) := vlanOp (u8 a 6) (beAt a 8 2) (beAt a 10 2) f.bytes
  { f with bytes := bytes, stripped := vid, tc := if (u8 a 1).testBit 3 then u8 a 3 % 8 else f.tc }

/-- Apply an action to a frame whose checks have passed: mirror candidates, VLAN operation, SET_TC, crypto, then the rest. -/
def applyAction (x : Found) (f : Frame) (s : State) : State :=
  let s := forEach (s.mirrorsIn x f) (fun m s => mirrorTo m f s) s
  let f := x.edit f
  let sa := u16 x.action 14
  if sa == 0xFFFF then finishAction x f s
  else match s.actionSa sa f.bytes with
  | none => dropFrame none f (whenS (sa == 0xFFFE) noSaDrop s)
  | some (i, y) =>
    if f.fromHost || s.netAdmits 0x104 f.owner then enqueueAt 0x104 f.owner 0 f.bytes.length false (.crypt f y.encrypts i x) s
    else dropFrame (some 0x104) f s

/-! ### Cut-through (R418, R419) -/

/-- Ingress rate counted for R418 in Mb/s (Table 11-1). -/
def State.inRate (s : State) (f : Frame) : Nat := if f.arrival.isSome then modeRate s.net.mode else 50000
/-- The egress vport a frame may leave on before its verdict, if every condition of R418 holds. -/
def cutTarget (x : Found) (f : Frame) (s : State) : Option Nat × State :=
  let a := x.action
  let vp := u8 a 2
  let plain := u8 a 0 == 1 && !(u8 a 1).testBit 1 && f.tunnel == 0 && u16 a 14 == 0xFFFF
  let both := isNetVp f.inVp && isNetVp vp && !s.latTunnelVp f.inVp && !s.latTunnelVp vp && (u8 (s.sw 1 f.inVp) 0).testBit 2 && (u8 (s.sw 1 vp) 0).testBit 2
  let allowed := s.vpOn vp && (vp != f.inVp || (u8 a 1).testBit 4) && !(beAt f.bytes 12 2 == 0x88E5 && (u8 f.bytes 14).testBit 3)
  if !(plain && both && allowed && decide (256 ≤ f.bytes.length)) then (none, s)
  else
    let (k, s) := if inR vp 0x48 0x4F then (if (s.aggOf (vp - 0x48)).isSome then (none, s) else (some vp, s))
      else if inR vp 0x50 0x53 then
        if (s.agg (vp - 0x50)).on then
          match memberFor (vp - 0x50) f.conversation s with
          | (some p, s) => (if s.convBusy (vp - 0x50) p f.conversation (s.agg (vp - 0x50)).held then none else some (0x48 + p), s)
          | (none, s) => (none, s)
        else (none, s)
      else if s.latUp (vp - 0x58) then (some vp, s) else (none, s)
    match k with
    | none => (none, s)
    | some k =>
      let pt := s.point k
      let tc := (x.edit f).tc
      let port := inR k 0x48 0x4F
      let fits := !port || (s.portUp (k - 0x48) && decide (((x.edit f).bytes.length + 4) ≤ (s.port (k - 0x48)).maxFrame)
        && !((s.port (k - 0x48)).paused.contains tc || (s.port (k - 0x48)).paused.contains 8) && (s.port (k - 0x48)).park == 0)
      let quiet := pt.serving.isEmpty && !(pt.queue.any fun i => i.cls == tc) && !(s.net.inq.any fun q => q.cut == some k)
      (if fits && quiet && decide ((if port then modeRate s.net.mode else 56250) ≤ s.inRate f) then some k else none, s)

/-! ### Early delivery (R426) -/

/-- Write a frame to host buffers before its verdict: ring, entry, segment, bytes written (0 when the write was refused), MORE. -/
def earlyDeliver (x : Found) (f : Frame) (s : State) : Option (List (Nat × Nat × Nat × Nat × Bool) × State) :=
  let a := x.action
  let vp := u8 a 2
  let fn := vpFn vp
  let t := if fn == pf0 then none else (s.vf fn).tenant
  let able := u8 a 0 == 1 && decide (vp ≤ 0x40) && !(u8 a 1).testBit 1 && u16 a 14 == 0xFFFF && s.vpOn vp && (u8 (s.sw 1 vp) 0).testBit 1
    && isNetVp f.inVp && (fn == pf0 || (match t with
      | some t => (s.tenant t).state == 1
      | none => false)) && (s.point 0x103).queue.isEmpty
  if !able then none
  else match s.ringAt fn (u8 a 16 + f.hash % 2 ^ u8 a 17) with
  | none => none
  | some (g, r) =>
    if r.cls != 3 || r.st != .running then none
    else
      let f := x.edit f
      match takePosted f.bytes.length r.posted, cadMove f.bufs (s.ownerOf fn) fn s with
      | some bufs, some s =>
        let (res, s) := writeBuffers g fn f bufs f.bytes s
        let list := ((bufs.zip res).zipIdx).map fun y => (g, y.1.1.1, y.1.1.2.1, if y.1.2.2 then y.1.2.1 else 0, y.2 + 1 != bufs.length)
        some (list, forEach list (fun e s => setSlot e.1 e.2.1 e.2.2.1 .held s) (countEv 4 vp 3 (f.bytes.length + 4) (countEv 4 vp 2 1 s)))
      | _, _ => none
/-- The verdict of a frame that was written early: every buffer gets its completion (R426, R299). -/
def earlyComplete (list : List (Nat × Nat × Nat × Nat × Bool)) (good : Bool) (f : Frame) (s : State) : State :=
  let s := forEach list (fun e s =>
    let user := ((s.workOf e.1 e.2.1).map fun w => entUser w.entry).getD 0
    let st := if !good then stCancelled else if e.2.2.2.1 == 0 then stFault else stOk
    setSlot e.1 e.2.1 e.2.2.1 (.ready (rxEntry f user e.2.2.1 e.2.2.2.1 st e.2.2.2.2 true)) s) s
  cadRelease f.bufs (ifSome (list.head?.map (·.1)) settle s)

/-- A frame enters the switch through a vport (R392). -/
def enterSwitch (f : Frame) (verdict : Nat) (judged : Bool) (sec : Option (Nat × Nat)) (s : State) : State :=
  let s := countEv 4 f.inVp 1 (f.bytes.length + 4) (countEv 4 f.inVp 0 1 s)
  if !s.vpOn f.inVp then dropFrame none f (countEv 4 f.inVp 4 1 s)
  else { s with net := { s.net with inq := s.net.inq ++ [{ frame := f, verdict := verdict, judged := judged, sec := sec }] } }

end Sys2Proof.Machine
end

