-- ==== Sys2Proof/Machine/Deliver.lean ====
section
/-!
DEFINITION. Sys2Proof/Machine/Deliver.lean: what the command front end asks of the blocks that carry packets.
-/
namespace Sys2Proof.Machine
open Sys2Proof

/-- Secure boot has ended (BOOT_DONE, R951). -/
def State.bootDone (s : State) : Bool := s.lcy.bootDone
/-- ROM service is active (R937). -/
def State.romService (s : State) : Bool := s.lcy.rom
/-- Write a reply to the host buffer of its ring entry and complete the entry (R109, R297). -/
def deliverRing (key entry addr size : Nat) (bytes : Bytes) (s : State) : State :=
  match s.ring key, s.workOf key entry with
  | some r, some w =>
    let (good, s) := dmaPut r.fn addr (bytes.take size) s
    finishEntry key entry
      (if good then { user := entUser w.entry, length := bytes.length, status := u16 bytes 14 % 32768, kind := 2, flags := 2 * b2n (decide (size < bytes.length)) }
        else { user := entUser w.entry, length := bytes.length, status := stFault, kind := 2, segMask := 2 }) s
  | _, _ => s
/-- Complete the entry of a packet that gets no reply (R297). -/
def unanswered (key entry status : Nat) (s : State) : State :=
  match s.workOf key entry with
  | some w => finishEntry key entry { user := entUser w.entry, status := status, kind := 2 } s
  | none => s
/-- Send a reply back over the lattice (R108, R891): to the neighbour on the link of the request, or on the route to its vertex. -/
def deliverLattice (link dst : Nat) (bytes : Bytes) (s : State) : State :=
  if dst = 0 then latCtrl link (carriageHead 0 s.lat.id 1 64 ++ bytes) s
  else ifSome (s.latLinkFor dst) (fun l s => latCtrl l (carriageHead dst s.lat.id 1 64 ++ bytes) s) s
/-- The smallest FD length that holds n bytes (Table 21-2). -/
def fdLength (n : Nat) : Nat := (([0, 1, 2, 3, 4, 5, 6, 7, 8, 12, 16, 20, 24, 32, 48, 64] : List Nat).find? fun l => decide (n ≤ l)).getD 64
/-- The segments of a packet (R793, R795, Table 21-2): the fuel is at least the number of segments. -/
def segments (pkt : Nat) : Nat → Nat → Bytes → List Bytes
  | 0, _, _ => []
  | n + 1, seg, b =>
    let last := b.length ≤ 62
    let body := putLe 1 (seg + (if last then 128 else 0)) ++ putLe 1 pkt ++ b.take 62
    let frame := body ++ zeros (fdLength body.length - body.length)
    if last then [frame] else frame :: segments pkt n (seg + 1) (b.drop 62)
/-- A carriage identifier (Table 21-2). -/
def carryIdent (base dir dst src : Nat) : Nat := base * 2 ^ 21 + dir * 2 ^ 20 + dst * 2 ^ 13 + src * 64
/-- Send a reply to a plant-bus node (R795). -/
def deliverPlant (node pkt : Nat) (bytes : Bytes) (s : State) : State :=
  let c := s.can.cfg
  let frames := (segments pkt 66 0 bytes).map fun d => (carryIdent (u8 c 3) 1 node (u8 c 2), d)
  { s with can := { s.can with carry := s.can.carry ++ frames } }
/-- Put a reply into the label mailbox (R819); without the device side no reply is made (R814). -/
def deliverLabel (bytes : Bytes) (s : State) : State :=
  lblSubmit { use := .mailbox, addr := 4352, data := [2, BitVec.ofNat 8 (b2n (decide (252 < bytes.length)))] ++ s.lbl.mem.readN 4354 2 ++ (bytes ++ zeros 252).take 252 } s

end Sys2Proof.Machine
end

