-- ==== Sys2Proof/Machine/CmdFront.lean ====
section
/-!
DEFINITION. Sys2Proof/Machine/CmdFront.lean: the command front end of ch 03: packets, checks, throttling, chains, result
windows, and how an opcode's interpreter takes and answers a command.
-/
namespace Sys2Proof.Machine
open Sys2Proof

/-! ### Catalogue (Table 03-9) -/

/-- Transports of an opcode: bit 0 M, 1 S, 2 L, 3 P, 4 B; none when the opcode is reserved (R113). -/
def opTransports (op : Nat) : Option Nat :=
  let m := 1; let ms := 3; let ml := 5; let msl := 7; let mslp := 15
  let row : List (Nat × Nat) := match op / 256 with
    | 1 => [(0x0101, 31), (0x0102, msl), (0x0103, msl), (0x0104, mslp), (0x0110, msl), (0x0111, ms), (0x0112, ms)]
    | 2 => [(0x0201, msl), (0x0202, msl), (0x0203, msl), (0x0204, msl), (0x0205, ms), (0x0206, msl), (0x0207, ms)]
    | 3 => [(0x0301, ml), (0x0302, msl), (0x0303, ml), (0x0304, ml), (0x0305, ml)]
    | 4 => [(0x0401, ml), (0x0402, ml), (0x0403, ml), (0x0410, ml), (0x0411, ml), (0x0412, msl)]
    | 5 => [(0x0501, ms), (0x0502, msl), (0x0503, m), (0x0504, ml), (0x0510, ml), (0x0511, ml), (0x0512, m),
            (0x0520, ml), (0x0521, ml)]
    | 6 => [(0x0601, ml), (0x0602, ml), (0x0603, m), (0x0604, m), (0x0605, m), (0x0606, ms)]
    | 7 => [(0x0701, m), (0x0702, ml), (0x0703, ms)]
    | 8 => [(0x0801, m), (0x0802, m), (0x0803, ml), (0x0804, m)]
    | 9 => [(0x0901, ms), (0x0902, ms), (0x0903, ms), (0x0910, 11), (0x0911, 11), (0x0912, mslp)]
    | 10 => [(0x0A01, mslp), (0x0A02, ms), (0x0A03, ms), (0x0A04, ms), (0x0A10, mslp), (0x0A11, mslp), (0x0A12, mslp),
             (0x0A13, ms)]
    | 11 => [(0x0B01, msl), (0x0B02, msl), (0x0B03, msl), (0x0B04, msl), (0x0B05, msl)]
    | 12 => [(0x0C01, 23), (0x0C02, ms), (0x0C03, ms), (0x0C04, ms), (0x0C05, msl), (0x0C06, ms)]
    | 13 => [(0x0D01, msl), (0x0D02, msl), (0x0D03, msl), (0x0D04, msl)]
    | 14 => [(0x0E01, ms), (0x0E02, ms), (0x0E03, ms), (0x0E04, msl)]
    | _ => []
  row.lookup op
/-- Opcodes that accept chains (column Chain). -/
def opChains (op : Nat) : Bool := op == 0x0510 || op == 0x0901 || op == 0x0910 || op == 0x0C04
/-- The transport bit of a class (Table 03-3). -/
def classBit (cls : Nat) : Nat :=
  match cls with
  | 1 | 2 => 0
  | 3 => 1
  | 4 => 2
  | 5 => 3
  | _ => 4
/-- The least lattice class for an opcode marked L (Table 25-1): 0 OTHER, 1 MEMBER, 2 LEADER. -/
def opLatClass (op : Nat) (params : Bytes) : Nat :=
  if [0x0101, 0x0104, 0x0B01].contains op then 0
  else if op == 0x0A12 then (if u8 params 0 == 2 then 2 else 1)
  else if [0x0103, 0x0110, 0x0201, 0x0203, 0x0206, 0x0302, 0x0412, 0x0502, 0x0912, 0x0A01, 0x0A11, 0x0C01, 0x0D01, 0x0E04].contains op then 1
  else 2
/-- Opcodes that a life-cycle state permits (R111, R936, R937, Table 26-2). -/
def opPermitted (lcy : Nat) (rom : Bool) (op : Nat) (params : Bytes) : Bool :=
  let area := op / 256
  if rom then inR op 0x0101 0x0104 || (if lcy == 5 then op == 0x0C01 else inR op 0x0C01 0x0C06)
  else match lcy with
  | 4 =>
    if inR area 3 8 then
      [0x0302, 0x0412, 0x0502, 0x0304].contains op || (op == 0x0303 && decide (4 ≤ params.length) && u8 params 1 == 3)
    else op != 0x0B05
  | 5 => area == 1 || op == 0x0C01
  | _ => true
/-- The block whose fence and power state decide R103 and R102 for an opcode. -/
def opBlock (op : Nat) : Nat :=
  match op / 256 with
  | 1 => if op == 0x0110 || op == 0x0111 then 4 else if op == 0x0112 then 3 else 20
  | 2 => 2
  | 3 => 6
  | 4 => if op < 0x0410 then 7 else 8
  | 5 => if op < 0x0510 then 9 else if op < 0x0520 then 10 else 11
  | 6 => if op == 0x0604 || op == 0x0605 then 12 else 13
  | 7 => 14
  | 8 => 15
  | 9 => 16
  | 10 => if op < 0x0A10 then 21 else if op == 0x0A13 then 23 else 22
  | 11 => 26
  | 12 => 28
  | 13 => 29
  | _ => 30

/-! ### Packets (Table 03-1) -/

/-- A reply packet (R75): request header fields echoed, REPLY set, SOURCE of the answering device. -/
def buildReply (s : State) (cls opcode tag seq status : Nat) (params : Bytes) : Bytes :=
  let hdr := putLe 2 0x4E56 ++ [1, 1] ++ putLe 2 opcode ++ putLe 2 tag ++ putLe 2 (cls * 4096 + s.ownVertex)
    ++ putLe 2 params.length ++ putLe 2 seq ++ putLe 2 status ++ params
  hdr ++ putLe 4 (crc32c hdr).toNat
/-- Error reply parameters (Table 03-7). -/
def errParams (off info : Nat) : Bytes := putLe 2 off ++ putLe 2 info

/-! ### Result windows (R50-R57) -/

/-- The window of a transport class, if it has one (Table 03-8). -/
def getWindow (cls : Nat) (s : State) : ResultWindow :=
  match cls with
  | 2 => s.cmd.dcwResult
  | 3 => s.cmd.crw0
  | 4 => s.cmd.crw1
  | 5 => s.cmd.crw2
  | _ => s.cmd.crw3
/-- Store the window of a transport class. -/
def setWindow (cls : Nat) (w : ResultWindow) (s : State) : State :=
  match cls with
  | 2 => { s with cmd := { s.cmd with dcwResult := w } }
  | 3 => { s with cmd := { s.cmd with crw0 := w } }
  | 4 => { s with cmd := { s.cmd with crw1 := w } }
  | 5 => { s with cmd := { s.cmd with crw2 := w } }
  | 6 => { s with cmd := { s.cmd with crw3 := w } }
  | _ => s
/-- A new command on a window: READY 0 and the new pending tag (R57). -/
def pendWindow (cls tag : Nat) (s : State) : State := setWindow cls { tag := tag } s
/-- Post a reply packet in a window (R107). -/
def postWindow (cls : Nat) (reply : Bytes) (s : State) : State :=
  setWindow cls { tag := u16 reply 6, ready := true, status := u16 reply 14, aux := u16 reply 10, body := reply } s
/-- The 64-bit header a counting read returns to a reader (Table 02-4). -/
def windowHeader (w : ResultWindow) (reader : Nat) : Nat :=
  if w.ready then
    w.tag + 0x10000 + (if w.seen.contains reader then 0x20000 else 0) + (if w.fresh then 0x40000 else 0) + w.status * 2 ^ 32 + w.aux * 2 ^ 48
  else w.tag
/-- A counting read: the reader sees the header and body; REPEAT is kept per reader (R51-R54, R56). -/
def countRead (w : ResultWindow) (reader : Nat) : Bytes × ResultWindow :=
  let content := putLe 8 (windowHeader w reader) ++ w.body
  (content, { w with
    views := upsert (fun v => v.reader == reader) ⟨reader, content⟩ w.views
    seen := if w.ready then nset reader w.seen else w.seen
    fresh := w.fresh && !w.ready })

/-! ### Replies -/

/-- Hand a finished reply packet to its path (R108, R109, Table 03-4). -/
def deliver (path : ReplyPath) (reply : Bytes) (s : State) : State :=
  match path with
  | .ring key entry addr size => deliverRing key entry addr size reply s
  | .dcw => let s := postWindow 2 reply s; { s with cmd := { s.cmd with dcwBusy := false } }
  | .service => postWindow 3 reply s
  | .lattice link dst => postWindow 4 reply (deliverLattice link dst reply s)
  | .plant node pkt => postWindow 5 reply (deliverPlant node pkt reply s)
  | .label => postWindow 6 reply (deliverLabel reply s)

/-! ### Sources, violations, throttling (R84-R89) -/

/-- The source's record. -/
def getSource (k : SrcKey) (s : State) : Source := (s.cmd.sources.find? fun x => x.key == k).getD { key := k }
/-- Store a source's record. -/
def setSource (v : Source) (s : State) : State :=
  { s with cmd := { s.cmd with sources := upsert (fun x => x.key == v.key) v s.cmd.sources } }
/-- DETAIL of a CMD record (Table 03-12). -/
def cmdDetail (k : SrcKey) (opcode tag seq status off last : Nat) : Bytes :=
  detail [(16, 2, k.cls * 4096 + k.ident), (18, 2, opcode), (20, 2, tag), (22, 2, seq), (24, 2, status), (26, 2, off), (28, 4, last)]
/-- Record a violation, and start a throttle with the 16th within 1 s (R86, R87, R89). -/
def violate (k : SrcKey) (bs : Bytes) (status off : Nat) (s : State) : State :=
  let hdr (i : Nat) := if 16 ≤ bs.length then u16 bs i else 0
  let s := logEvent 20 status (cmdDetail k (hdr 4) (hdr 6) (hdr 12) status off 0) s
  let x := getSource k s
  let vs := x.violations.filter (fun t => decide (s.us < t + 1000000)) ++ [s.us]
  if 16 ≤ vs.length then
    setSource { x with violations := vs, throttle := some 0 } (logEvent 20 0x8001 (cmdDetail k (hdr 4) (hdr 6) (hdr 12) 0 0xFFFF 0) s)
  else setSource { x with violations := vs } s

/-- How many commands of a class (and identity, when given) are outstanding (R93). -/
def outstanding (s : State) (cls : Nat) (ident : Option Nat) : Nat :=
  let mine (p : Packet) : Bool := p.cls == cls && (ident.isNone || ident == some p.ident)
  (s.cmd.queue.filter mine).length + (s.cmd.waits.filter fun w => mine w.pkt).length

/-- A packet that gets no reply frees the direct command window (R105); a ring entry completes with a status of its own (R297). -/
def noReply (path : ReplyPath) (status : Nat) (s : State) : State :=
  match path with
  | .dcw => { s with cmd := { s.cmd with dcwBusy := false } }
  | .ring key entry _ _ => unanswered key entry status s
  | .label => lblMailbox 0 s
  | _ => s

/-- Answer a packet that the front end refuses. -/
def refuse (k : SrcKey) (path : ReplyPath) (bs : Bytes) (status off info : Nat) (s : State) : State :=
  deliver path (buildReply s k.cls (u16 bs 4) (u16 bs 6) (u16 bs 12) status (errParams off info)) s

/-- Discard an open chain with one record (R83, R1045). -/
def dropChain (k : SrcKey) (s : State) : State :=
  let x := getSource k s
  match x.chain with
  | none => s
  | some c => logEvent 20 0x8003 (cmdDetail k c.opcode c.tag c.lastSeq stAborted 0xFFFF 0) (setSource { x with chain := none } s)

/-- Put an accepted packet into its area's order: urgent packets go ahead of non-urgent ones of the same area (R97). -/
def enqueue (p : Packet) (q : List Packet) : List Packet :=
  if p.urgent then
    let ahead := q.takeWhile fun x => !(x.opcode / 256 == p.opcode / 256 && !x.urgent)
    ahead ++ [p] ++ q.drop ahead.length
  else q ++ [p]

/-- Steps 12-14 of Table 03-5 and acceptance; the area's route tells its interpreter task (R709). -/
def acceptPacket (k : SrcKey) (path : ReplyPath) (bs : Bytes) (s : State) : State :=
  let op := u16 bs 4; let tag := u16 bs 6; let seq := u16 bs 12
  let more := (u8 bs 3).testBit 1
  let params := slice bs 16 (u16 bs 10)
  let x := getSource k s
  let inChain := match x.chain with
    | some c => c.tag == tag
    | none => false
  -- step 12
  if more && !opChains op then violate k bs stBadLength 0xFFFF (refuse k path bs stBadLength 0xFFFF 0 s)
  else if more && !inChain && x.chain.isSome then violate k bs stBadSequence 0xFFFF (refuse k path bs stBadSequence 0xFFFF 0 s)
  else
    let broken := match x.chain with
      | some c => inChain && (c.opcode != op || seq != (c.lastSeq + 1) % 65536 || decide (64 ≤ c.parts.length))
      | none => false
    if broken then
      violate k bs stBadSequence 0xFFFF (refuse k path bs stBadSequence 0xFFFF 0 (setSource { x with chain := none } s))
    -- step 13
    else if !opPermitted s.lcyState s.romService op params then
      let s := refuse k path bs stLifecycle 0xFFFF (if s.romService then 1 else 0) s
      whenS (more || inChain) (dropChain k) s
    -- step 14
    else
      let full := match k.cls with
        | 3 => decide (1 ≤ outstanding s 3 none)
        | 4 => decide (16 ≤ outstanding s 4 (some k.ident))
        | 5 => decide (4 ≤ outstanding s 5 none)
        | 6 => decide (1 ≤ outstanding s 6 none)
        | _ => false
      if full then
        let s := if k.cls == 4 || k.cls == 5 then refuse k path bs stBusy 0xFFFF 0 s
          else logEvent 20 stBusy (cmdDetail k op tag seq stBusy 0xFFFF 0) s
        whenS (more || inChain) (dropChain k) s
      else
        let soFar : List Nat × Bytes := match x.chain with
          | some c => if inChain then (c.parts, c.params) else ([], [])
          | none => ([], [])
        let parts := soFar.1 ++ [params.length]
        let joined := soFar.2 ++ params
        let s := pendWindow k.cls tag s
        if more then
          let s := setSource { x with chain := some ⟨op, tag, seq, parts, joined, path⟩ } s
          deliver path (buildReply s k.cls op tag seq stNote []) s
        else
          let s := if inChain then setSource { x with chain := none } s else s
          let p : Packet := { cls := k.cls, ident := k.ident, path := path, urgent := (u8 bs 3).testBit 2, opcode := op, tag := tag,
                              seq := seq, params := joined, parts := parts, crc := BitVec.ofNat 32 (u32 bs (bs.length - 4)) }
          routePost (0x10 + op / 256) { s with cmd := { s.cmd with queue := enqueue p s.cmd.queue } }

/-- The transports other than the direct window and the service port run: BOOT_DONE, no ROM service, no reset in progress (R937, R951, R132). -/
def State.transportsUp (s : State) : Bool := s.live && s.bootDone && !s.romService && s.unreset
/-- The front end checks a packet in the order of Table 03-5 (R84). -/
def frontEnd (k : SrcKey) (link : Nat) (path : ReplyPath) (bs : Bytes) (s : State) : State :=
  let x := getSource k s
  let bump (s : State) : State := setSource { x with throttle := x.throttle.map (· + 1) } s
  -- steps 1 and 2
  if bs.length < 16 || u16 bs 0 != 0x4E56 then
    if x.throttle.isSome then noReply path stBadMagic (bump s) else noReply path stBadMagic (violate k bs stBadMagic 0xFFFF s)
  else if x.throttle.isSome then refuse k path bs stThrottled 0xFFFF 0 (bump s)
  else
    let bad (status : Nat) : State := violate k bs status 0xFFFF (refuse k path bs status 0xFFFF 0 s)
    let plen := u16 bs 10
    -- steps 3 to 5
    if bs.length != 20 + plen || plen % 4 != 0 || decide (4064 < plen) then bad stBadLength
    else if u32 bs (16 + plen) != (crc32c (bs.take (16 + plen))).toNat then bad stBadCrc
    else if u8 bs 2 != 1 then bad stBadVersion
    -- step 6
    else if (u8 bs 3).testBit 0 then
      if k.cls == 4 then
        if s.cmd.sentRequests.contains (k.ident, u16 bs 6) then
          { s with cmd := { s.cmd with sentRequests := s.cmd.sentRequests.filter (· != (k.ident, u16 bs 6)) } }
        else logEvent 20 0x8004 (cmdDetail k (u16 bs 4) (u16 bs 6) (u16 bs 12) (u16 bs 14) 0xFFFF 0) s
      else noReply path stBadParam (violate k bs stBadParam 0xFFFF s)
    -- steps 7 to 9
    else if u16 bs 8 != k.cls * 4096 + k.ident then bad stSpoof
    else
      let op := u16 bs 4
      match opTransports op with
      | none => bad stBadOpcode
      | some ts =>
        if !ts.testBit (classBit k.cls) then bad stDenied
        -- step 10
        else if k.cls == 4 && decide (s.latClass link k.ident < opLatClass op (slice bs 16 plen)) then bad stDenied
        -- step 11
        else
          let crc := BitVec.ofNat 32 (u32 bs (16 + plen))
          let again (t q o : Nat) (c : W32) : Bool := t == u16 bs 6 && q == u16 bs 12 && o == op && c == crc
          let keeps := k.cls == 3 || k.cls == 4 || k.cls == 5
          let stored := match x.stored with
            | some r => if keeps && again r.tag r.seq r.opcode r.crc then some r.reply else none
            | none => none
          let running := keeps && (s.cmd.queue ++ s.cmd.waits.map (·.pkt)).any fun p =>
            p.cls == k.cls && p.ident == k.ident && again p.tag p.seq p.opcode p.crc
          match stored with
          | some r => deliver path r s
          | none => if running then s else acceptPacket k path bs s

/-! ### Interpretation -/

/-- A command that would change the state of Table 25-4 while a handover runs on this device (R919). -/
def State.handoverHolds (s : State) (p : Packet) : Bool :=
  let h := s.lat.ho
  inR h.phase 1 4 && ([0x0301, 0x0303, 0x0304, 0x0305, 0x0512, 0x0520, 0x0521, 0x0601, 0x0602, 0x0603, 0x0604, 0x0605, 0x0702, 0x0803, 0x0804].contains p.opcode
    || (p.opcode == 0x0511 && u8 p.params 4 == 1)
    || (h.plant && (p.opcode == 0x0903 || p.opcode == 0x0911 || p.opcode == 0x0A10 || (p.opcode == 0x0902 && inR (u8 p.params 0) 1 3))))
/-- The interpreter of an opcode takes the command at the head of its area's order, when that head carries the opcode and no
command of the area is still being applied (R97). A handover that waits for its peer does not hold its area: R927 has an ABORT act on it. -/
def takeCmd (op : Nat) (s : State) : Option (Packet × State) :=
  if s.cmd.waits.any fun w => w.pkt.opcode / 256 == op / 256 && w.kind != .handover then none
  else match s.cmd.queue.find? fun p => p.opcode / 256 == op / 256 with
    | none => none
    | some p => if p.opcode == op then some (p, { s with cmd := { s.cmd with queue := s.cmd.queue.erase p } }) else none

/-- Complete a command: the reply is built, kept for retransmissions (R94) and delivered, or discarded under R35. -/
def complete (p : Packet) (status : Nat) (params : Bytes) (s : State) : State :=
  let reply := buildReply s p.cls p.opcode p.tag p.seq status params
  let k : SrcKey := ⟨p.cls, p.ident, match p.path with | .lattice link _ => if p.ident == 0 then link + 1 else 0 | _ => 0⟩
  if p.discard then
    logEvent 20 0x8005 (cmdDetail k p.opcode p.tag p.seq status (if 0x10 ≤ status then u16 params 0 else 0xFFFF) 0) s
  else
    let s := if p.cls == 3 || p.cls == 4 || p.cls == 5 then
        setSource { getSource k s with stored := some ⟨p.tag, p.seq, p.opcode, p.crc, reply⟩ } s
      else s
    deliver p.path reply s
/-- Complete with an error (R77, Table 03-7). -/
def fail (p : Packet) (status off info : Nat) (s : State) : State := complete p status (errParams off info) s
/-- Complete with OK and no parameters. -/
def ok (p : Packet) (s : State) : State := complete p stOk [] s
/-- Packet of a chain and offset within it of an offset in the joined parameters (R410, Table 03-7). -/
def packetOf : Nat → List Nat → Nat → Nat × Nat
  | k, [], off => (k, off)
  | k, [_], off => (k, off)
  | k, n :: t, off => if off < n then (k, off) else packetOf (k + 1) t (off - n)
/-- Complete with BAD_PARAM at an offset. -/
def badParam (p : Packet) (off : Nat) (s : State) : State := fail p stBadParam off 0 s
/-- Start waiting for a later event with the reply to come (R100). -/
def waitFor (p : Packet) (kind : WaitKind) (s : State) : State := { s with cmd := { s.cmd with waits := s.cmd.waits ++ [⟨p, kind⟩] } }
/-- Answer every command that waits for an event. -/
def finishWaits (sel : WaitKind → Bool) (status : Nat) (params : Packet → Bytes) (s : State) : State :=
  let done := s.cmd.waits.filter fun w => sel w.kind
  let s := { s with cmd := { s.cmd with waits := s.cmd.waits.filter fun w => !sel w.kind } }
  forEach done (fun w s => complete w.pkt status (params w.pkt) s) s
/-- Answer every command that waits for an event with an error of no field. -/
def failWaits (sel : WaitKind → Bool) (status info : Nat) (s : State) : State :=
  finishWaits sel status (fun _ => errParams 0xFFFF info) s

/-- Length and field checks of an interpreter: BAD_LENGTH, then BAD_PARAM at the first field at fault. -/
def checked (p : Packet) (len : Nat) (fields : List (Nat × Bool)) (k : State → State) (s : State) : State :=
  if p.params.length != len then fail p stBadLength 0xFFFF 0 s
  else match fields.find? fun f => !f.2 with
    | some f => badParam p f.1 s
    | none => k s

/-- The role that interprets an area is lost (R719, 19). -/
def State.areaLost (s : State) (area : Nat) : Bool := (s.wdn.areas.lookup area).any fun a => s.wdn.map.getD a.1 7 == 7
/-- Run an opcode's interpreter on the command it takes: FENCED (R103, R719), then BUSY by the power state (R102) or a handover (R919), then f. With no
command of the opcode at the head of its area nothing happens. -/
def interpret (op : Nat) (f : Packet → State → State) (s : State) : Out :=
  match takeCmd op s with
  | none => .next s
  | some (p, s) =>
    if s.areaLost (op / 256) || s.blockFenced (opBlock op) then .next (fail p stFenced 0xFFFF 0 s)
    else if s.blockOff (opBlock op) then .next (fail p stBusy 0xFFFF s.pmc.st.code s)
    else if s.handoverHolds p then .next (fail p stBusy 0xFFFF 0x00FE s)
    else .next (f p s)

end Sys2Proof.Machine
end

