-- ==== Sys2Proof/Machine/StoOps.lean ====
section
/-!
DEFINITION. Sys2Proof/Machine/StoOps.lean: what a storage engine sends and receives on a connection: TCP, TLS records, NVMe/TCP PDUs, RoCEv2
packets, posted buffers and closes (ch 14). Formats that ch 14 takes from RFC 9293, NVMe/TCP and RoCEv2 are those standards' (log 53).
-/
namespace Sys2Proof.Machine
open Sys2Proof

/-- Difference of sequence numbers. -/
def sub32 (a b : Nat) : Nat := (a + 2 ^ 32 - b % 2 ^ 32) % 2 ^ 32
/-- Difference of PSNs. -/
def sub24 (a b : Nat) : Nat := (a + 2 ^ 24 - b % 2 ^ 24) % 2 ^ 24

/-! ### Frames (R521) -/

/-- Ethernet header with the state block's tag. -/
def Conn.ethHead (c : Conn) : Bytes :=
  let tag := beAt c.raw 20 2
  slice c.raw 14 6 ++ slice c.raw 8 6 ++ (if tag % 4096 == 4095 then [] else tagBytes 0x8100 tag) ++ putBe 2 (if c.ver == 4 then 0x0800 else 0x86DD)
/-- A packet of the connection around an L4 payload. -/
def Conn.packet (c : Conn) (proto ident : Nat) (l4 : Bytes) : Bytes :=
  let eth := c.ethHead
  let hops := putLe 1 Config.stoHops
  if c.ver == 4 then
    fixIp (eth ++ [0x45, 0] ++ putBe 2 (20 + l4.length) ++ putBe 2 ident ++ putBe 2 (if Config.stoDf then 0x4000 else 0) ++ hops ++ putLe 1 proto ++ [0, 0]
      ++ slice c.raw 24 4 ++ slice c.raw 40 4 ++ l4) eth.length
  else eth ++ putBe 4 (6 * 2 ^ 28) ++ putBe 2 l4.length ++ putLe 1 proto ++ hops ++ slice c.raw 24 16 ++ slice c.raw 40 16 ++ l4
/-- Send frames of connection h that wait, while ENGINE buffers are to be had (Table 09-2). -/
def connFlush (h : Nat) : Nat → State → State
  | 0, s => s
  | n + 1, s =>
    match s.conn h with
    | none => s
    | some c =>
      match c.outq with
      | [] => s
      | b :: t =>
        match cadTake 1 (s.ownerOf c.fn) c.fn b.length s with
        | none =>
          if s.cad.waits.any fun w => w.use == .item 0x105 (0x10000 + h) then s
          else { s with cad := { s.cad with waits := s.cad.waits ++ [⟨1, s.ownerOf c.fn, c.fn, b.length, 14, .item 0x105 (0x10000 + h)⟩] } }
        | some (hs, s) =>
          let (id, s) := newId (modConn h (fun c => { c with outq := t }) s)
          let vp := if c.fn == pf0 then 0x40 else c.fn
          let f : Frame := { id := id, bytes := b, inVp := vp, owner := s.ownerOf c.fn, fn := c.fn, tc := u8 c.raw 2, bufs := hs, hash := convHash (lookupKey b 0 0 0 0 false) }
          connFlush h n (enterSwitch f 0 true none s)
/-- Send one frame on connection h, behind those that wait. -/
def connFrame (h proto : Nat) (l4 : Bytes) (fix : Bytes → Bytes) (s : State) : State :=
  match s.conn h with
  | none => s
  | some c =>
    let (ident, s) := if c.ver == 4 then freeNat 65536 s else (0, s)
    let b := fix (c.packet proto ident l4)
    connFlush h (c.outq.length + 1) (modConn h (fun c => { c with outq := c.outq ++ [b] }) s)

/-! ### TCP (R518-R520) -/

/-- Something of the connection waits for a posted buffer (R541). -/
def State.stalled (s : State) (h : Nat) : Bool := s.sto.posts.any fun x => x.handle == h
/-- Send a segment: sequence number, flags, payload. The receive window does not advance while the connection is stalled (R541). -/
def tcpSegment (h seq flags : Nat) (payload : Bytes) (s : State) : State :=
  match s.conn h with
  | none => s
  | some c =>
    let adv := if s.stalled h then c.adv else (c.rcv + Config.stoWindow % 2 ^ 30) % 2 ^ 32
    let win := min 65535 (sub32 adv c.rcv / 2 ^ u8 c.raw 71)
    let opts : Bytes := if c.flag 3 then [1, 1, 8, 10] ++ putBe 4 (s.us % 2 ^ 32) ++ putBe 4 c.tsRecent else []
    let hdr := slice c.raw 56 2 ++ slice c.raw 58 2 ++ putBe 4 seq ++ putBe 4 (if flags.testBit 4 then c.rcv else 0)
      ++ putLe 1 ((20 + opts.length) / 4 * 16) ++ putLe 1 flags ++ putBe 2 win ++ [0, 0, 0, 0] ++ opts
    let s := modConn h (fun c => { c with adv := adv, bytes := (c.bytes.1 + payload.length, c.bytes.2) }) s
    connFrame h 6 (hdr ++ payload) (fun b => fixL4 b (parse b)) s
/-- Send an acknowledgement. -/
def tcpAck (h : Nat) (s : State) : State := match s.conn h with
  | some c => tcpSegment h c.nxt 0x10 [] s
  | none => s
/-- Send a RST. -/
def tcpRst (h : Nat) (s : State) : State := match s.conn h with
  | some c => tcpSegment h c.nxt 0x14 [] s
  | none => s
/-- Send queued bytes as the peer's window allows, in segments of at most MSS. -/
def tcpPush (h : Nat) : Nat → State → State
  | 0, s => s
  | n + 1, s =>
    match s.conn h with
    | none => s
    | some c =>
      let room := c.wnd - sub32 c.nxt c.una
      let k := if c.detach.isSome then 0 else min (u16 c.raw 72) (min c.queue.length room)
      if k = 0 then s
      else
        let part := c.queue.take k
        let s := tcpSegment h c.nxt (if k = c.queue.length then 0x18 else 0x10) part s
        let next := (c.nxt + k) % 2 ^ 32
        tcpPush h n (modConn h (fun c => { c with nxt := next, sent := c.sent ++ part, queue := c.queue.drop k, timed := some (c.timed.getD (next, s.us)) }) s)
/-- Push everything that may go. -/
def tcpGo (h : Nat) (s : State) : State := match s.conn h with
  | some c => tcpPush h (c.queue.length + 1) s
  | none => s
/-- Send the oldest unacknowledged bytes again (R519), past what a SACK block covers. -/
def tcpResend (h : Nat) (s : State) : State :=
  match s.conn h with
  | none => s
  | some c =>
    let start := c.sacked.foldl (fun q r => if sub32 q r.1 < sub32 r.2 r.1 && r.1 == c.una then r.2 else q) c.una
    let off := sub32 start c.una
    let part := (c.sent.drop off).take (u16 c.raw 72)
    if part.isEmpty then s
    else tcpSegment h start 0x10 part (modConn h (fun c => { c with timed := none, errs := (c.errs.1 + 1, c.errs.2) }) s)
/-- An acknowledgement number and window of the peer (RFC 6298, RFC 9293). -/
def tcpAcked (h ack win : Nat) (s : State) : State :=
  match s.conn h with
  | none => s
  | some c =>
    let n := sub32 ack c.una
    let c := { c with wnd := win * 2 ^ u8 c.raw 70 }
    if n = 0 || c.sent.length < n then modConn h (fun _ => c) s
    else
      let c := { c with una := ack, sent := c.sent.drop n, timeouts := 0, sacked := c.sacked.filter fun r => sub32 r.1 ack < 2 ^ 31 }
      let c := match c.timed with
        | some (q, at_) =>
          if sub32 ack q < 2 ^ 31 then
            let r := s.us - at_
            let var := if c.srtt = 0 then r / 2 else (3 * c.rttvar + (max c.srtt r - min c.srtt r)) / 4
            let avg := if c.srtt = 0 then r else (7 * c.srtt + r) / 8
            { c with srtt := avg, rttvar := var, rto := max 5000 (min 1000000 (avg + max 1 (4 * var))), timed := none }
          else c
        | none => c
      modConn h (fun _ => c) s

/-! ### Posted buffers (R540, R541) -/

/-- The next posted STO_POST buffer of a ring. -/
def State.postSlot (s : State) (fn loc : Nat) : Option (Nat × RingWork) :=
  (s.ringAt fn loc).bind fun x => (x.2.work.find? fun w => entKind w.entry == 0x13 && w.slots.head? == some .waiting).map fun w => (x.1, w)
/-- Write an item into posted buffers while there are any: what is left of it. -/
def postItem (x : PostItem) : Nat → Bytes → State → Bytes × State
  | 0, b, s => (b, s)
  | n + 1, b, s =>
    if b.isEmpty then ([], s)
    else match s.postSlot x.fn x.loc with
      | none => (b, s)
      | some (g, w) =>
        let part := b.take (entLen w.entry 0)
        let rest := b.drop (entLen w.entry 0)
        let (good, s) := dmaPut x.fn (entAddr w.entry 0) part s
        let e : CqEntry := { user := entUser w.entry, length := if good then part.length else 0, status := if good then stOk else stFault, kind := 0x13,
                             segMask := b2n !good, flags := b2n !rest.isEmpty, rxInfo := x.handle + 65536 * x.type }
        postItem x n rest (finishEntry g w.seq e s)
/-- Items in order; one that finds no buffer holds back those behind it on its ring. -/
def flushItems : List PostItem → List (Nat × Nat) → State → List PostItem × State
  | [], _, s => ([], s)
  | x :: t, blocked, s =>
    if blocked.contains (x.fn, x.loc) then let (r, s) := flushItems t blocked s; (x :: r, s)
    else
      let (left, s) := postItem x (x.bytes.length + 1) x.bytes s
      if left.isEmpty then flushItems t blocked s
      else let (r, s) := flushItems t ((x.fn, x.loc) :: blocked) s; ({ x with bytes := left } :: r, s)
/-- Fill posted buffers; a connection that no longer waits advances its window. -/
def flushPosts (s : State) : State :=
  let before := (s.sto.posts.map (·.handle)).eraseDups
  let (r, s) := flushItems s.sto.posts [] s
  let s := modSto (fun x => { x with posts := r }) s
  forEach (before.filter fun h => !s.stalled h) (fun h s => if (s.conn h).any Conn.tcp then tcpAck h s else s) s
/-- Post a capsule or an event (Table 14-7). -/
def post (h type cause cid content : Nat) (data : Bytes) (dataLen : Nat) (s : State) : State :=
  match s.conn h with
  | none => s
  | some c =>
    let hdr := layout 16 [(0, 1, type), (1, 1, cause), (2, 2, h), (4, 4, dataLen), (8, 1, content)]
    flushPosts (modSto (fun x => { x with posts := x.posts ++ [{ fn := c.fn, loc := u8 c.raw 6, handle := h, type := type, cid := cid, bytes := hdr ++ data }] }) s)

/-- TLS_SOFT is posted once the TLS_TX SA has reached SOFT (R530). -/
def softNote (h : Nat) (s : State) : State :=
  match s.conn h with
  | none => s
  | some c =>
    if !c.softTold && c.txSa.any (fun i => (s.saAny i).any (·.soft)) then post h 2 8 0 0 [] 0 (modConn h (fun c => { c with softTold := true }) s) else s

/-! ### Sending a byte stream (R527, R531) -/

/-- Protect plaintext that waits, one record at a time, while the SA accepts records. -/
def tlsFlush (h : Nat) : Nat → State → State
  | 0, s => s
  | n + 1, s =>
    match s.conn h with
    | none => s
    | some c =>
      match c.txSa with
      | none => s
      | some sa =>
        if c.held.isEmpty then s
        else match tlsSeal sa 23 1 (c.held.take 16384) s with
          | (none, s) => s
          | (some r, s) => tlsFlush h n (modConn h (fun c => { c with held := c.held.drop 16384, queue := c.queue ++ r }) s)
/-- Send bytes on a TCP connection, under TLS where it has it. -/
def connSend (h : Nat) (b : Bytes) (s : State) : State :=
  match s.conn h with
  | none => s
  | some c =>
    if c.flag 2 then tcpGo h (softNote h (tlsFlush h (c.held.length + b.length + 1) (modConn h (fun c => { c with held := c.held ++ b }) s)))
    else tcpGo h (modConn h (fun c => { c with queue := c.queue ++ b }) s)

/-! ### Closing -/

/-- Remove a connection: entries of an initiator complete with ABORTED (R550), drive results are discarded, and commands with the host are
remembered for TGT_RESP (R542). -/
def connRemove (h : Nat) (s : State) : State :=
  match s.conn h with
  | none => s
  | some c =>
    let s := forEach (c.cmds.filterMap (·.entry) ++ c.detach.toList) (fun e s => failEntry e.1 e.2 stAborted s) s
    let dead (d : DrvCmd) : DrvCmd := if d.handle == h then { d with dead := true } else d
    modSto (fun x => { x with
      conns := x.conns.filter fun y => y.1 != h
      posts := x.posts.filter fun y => !(y.handle == h && y.type == 1)
      ghosts := x.ghosts ++ (c.cmds.filter fun d => d.phase == 2).map fun d => (c.fn, h, d.cid)
      drives := x.drives.map fun y => (y.1, { y.2 with out := y.2.out.map fun o => (o.1, dead o.2), waiting := y.2.waiting.filter fun o => o.handle != h }) }) s
/-- A connection closes with a cause: an event is posted and CONN_CLOSED written (R557, Table 14-7). -/
def connClose (h cause : Nat) (s : State) : State :=
  match s.conn h with
  | none => s
  | some c =>
    let s := post h 2 cause 0 0 [] 0 s
    logLimited 14 0x8001 c.fn 1 1000 (detail [(16, 2, h), (18, 1, c.fn), (19, 1, cause)]) (connRemove h s)
/-- A connection closes with a RST. -/
def connReset (h cause : Nat) (s : State) : State := connClose h cause (tcpRst h s)

/-! ### PDUs (R522-R526) -/

/-- A PDU: type, flags, HLEN, bytes 8 up to HLEN, data (NVMe/TCP), with the digests of the connection. -/
def Conn.pdu (c : Conn) (type flags hlen : Nat) (psh data : Bytes) : Bytes :=
  let hd := c.flag 0; let dd := c.flag 1 && !data.isEmpty
  let pdo := if data.isEmpty then 0 else hlen + 4 * b2n hd
  let hdr := putLe 1 type ++ putLe 1 (flags ||| b2n hd + 2 * b2n dd) ++ putLe 1 hlen ++ putLe 1 pdo
    ++ putLe 4 (hlen + 4 * b2n hd + data.length + 4 * b2n dd) ++ (psh ++ zeros hlen).take (hlen - 8)
  hdr ++ (if hd then putLe 4 (crc32c hdr).toNat else []) ++ data ++ (if dd then putLe 4 (crc32c data).toNat else [])
/-- A TermReq with an FES and the header at fault. -/
def termReq (h fes : Nat) (bad : Bytes) (s : State) : State :=
  match s.conn h with
  | none => s
  | some c =>
    let hdr := putLe 1 (if c.proto == 1 then 3 else 2) ++ [0, 24, 0] ++ putLe 4 (24 + bad.length) ++ putLe 2 fes ++ zeros 14
    connSend h (hdr ++ bad) s
/-- A fatal PDU error (R522, R523). -/
def pduFatal (h fes cause : Nat) (bad : Bytes) (s : State) : State := connClose h cause (termReq h fes bad s)
/-- HLEN of a PDU type that a role receives. -/
def pduHlen (proto type : Nat) : Option Nat :=
  match proto, type with
  | 1, 2 => some 24 | 1, 4 => some 72 | 1, 6 => some 24
  | 2, 3 => some 24 | 2, 5 => some 24 | 2, 7 => some 24 | 2, 9 => some 24
  | _, _ => none
/-- Data of a PDU, and whether its digest holds. -/
def Conn.pduData (c : Conn) (p : Bytes) : Bytes × Bool :=
  let hlen := u8 p 2
  let start := hlen + 4 * b2n (c.flag 0)
  let dd := c.flag 1 && decide (start < p.length)
  let data := (p.drop start).take (p.length - start - 4 * b2n dd)
  (data, !dd || u32 p (p.length - 4) == (crc32c data).toNat)

/-- Command cid of a connection. -/
def State.stoCmd (s : State) (h cid : Nat) : Option StoCmd := (s.conn h).bind fun c => c.cmds.find? fun x => x.cid == cid
/-- Write data of an initiator in H2CData PDUs of at most MAXH2CDATA bytes (R526). -/
def h2cData (h cid ttag : Nat) : Nat → Nat → Bytes → State → State
  | 0, _, _, s => s
  | n + 1, off, b, s =>
    match s.conn h with
    | none => s
    | some c =>
      if b.isEmpty then s
      else
        let part := b.take (max 1 c.maxData); let rest := b.drop (max 1 c.maxData)
        let s := connSend h (c.pdu 6 (4 * b2n rest.isEmpty) 24 (putLe 2 cid ++ putLe 2 ttag ++ putLe 4 off ++ putLe 4 part.length) part) s
        h2cData h cid ttag n (off + part.length) rest s
/-- An R2T asks an initiator for write data (R526); one for no outstanding command or beyond its data is a header fault. -/
def r2tTaken (h : Nat) (p : Bytes) (s : State) : State :=
  let cid := u16 p 8; let off := u32 p 12; let len := u32 p 16
  match s.stoCmd h cid with
  | none => pduFatal h 2 5 (p.take 24) s
  | some x => if x.data.length < off + len then pduFatal h 2 5 (p.take 24) s else h2cData h cid (u16 p 10) (len + 1) off (slice x.data off len) s

/-- Cut plaintext into PDUs; header faults close the connection. An R2T is served at once, other PDUs wait to be handled. -/
def cutPdus (h : Nat) : Nat → State → State
  | 0, s => s
  | n + 1, s =>
    match s.conn h with
    | none => s
    | some c =>
      let b := c.plain
      if b.length < 8 then s
      else
        let hd := c.flag 0
        let type := u8 b 0; let hlen := u8 b 2; let pdo := u8 b 3; let plen := u32 b 4
        let head := hlen + 4 * b2n hd
        let bad := (match pduHlen c.proto type with
          | none => true
          | some n => n != hlen) || decide (c.maxData + 32 < plen) || decide (plen < head) || (decide (head < plen) && !(type == 2 || type == 3) && pdo != head)
        if bad then pduFatal h 2 5 (b.take (min b.length 24)) s
        else if b.length < head then s
        else if hd && u32 b hlen != (crc32c (b.take hlen)).toNat then
          pduFatal h 3 4 (b.take hlen) (modConn h (fun c => { c with digests := (c.digests.1 + 1, c.digests.2) }) s)
        else if b.length < plen then s
        else if type == 9 then cutPdus h n (r2tTaken h (b.take plen) (modConn h (fun c => { c with plain := b.drop plen }) s))
        else cutPdus h n (modConn h (fun c => { c with plain := b.drop plen, pdus := c.pdus ++ [b.take plen] }) s)

/-- A record failure (R528): an alert under the TLS_TX SA, a RST, and the close. -/
def tlsFailed (h : Nat) (s : State) : State :=
  match s.conn h with
  | none => s
  | some c =>
    let s := modConn h (fun c => { c with errs := (c.errs.1, c.errs.2 + 1) }) s
    let s := match c.txSa with
      | none => s
      | some sa => match tlsSeal sa 21 1 [2, 20] s with
        | (some r, s) => tcpGo h (modConn h (fun c => { c with queue := c.queue ++ r }) s)
        | (none, s) => s
    connReset h 6 s
/-- Open complete records; one of another content type pauses reception (R527, R529). -/
def openRecords (h : Nat) : Nat → State → State
  | 0, s => s
  | n + 1, s =>
    match s.conn h with
    | none => s
    | some c =>
      let len := beAt c.rx 3 2
      match c.rxSa with
      | none => s
      | some sa =>
        if c.paused || c.rx.length < 5 || (c.rx.length < 5 + len && len ≤ 16640) then s
        else
          match tlsOpen sa (c.rx.take (5 + len)) s with
          | (none, s) => tlsFailed h s
          | (some (type, data), s) =>
            let s := modConn h (fun c => { c with rx := c.rx.drop (5 + len) }) s
            if type == 23 then openRecords h n (modConn h (fun c => { c with plain := c.plain ++ data }) s)
            else post h 2 7 0 type data data.length (modConn h (fun c => { c with paused := true }) s)
/-- Take what has arrived in order: records, then PDUs. -/
def connTake (h : Nat) (s : State) : State :=
  match s.conn h with
  | none => s
  | some c =>
    let s := if c.flag 2 then openRecords h (c.rx.length + 1) s
      else modConn h (fun c => { c with plain := c.plain ++ c.rx, rx := [] }) s
    match s.conn h with
    | none => s
    | some c => cutPdus h (c.plain.length + 1) s

/-- Options of a TCP header: the timestamp value and the SACK ranges. -/
def tcpOptions (b : Bytes) : Nat → Option Nat × List (Nat × Nat)
  | 0 => (none, [])
  | n + 1 =>
    match b with
    | [] => (none, [])
    | 0 :: _ => (none, [])
    | 1 :: t => tcpOptions t n
    | k :: t =>
      let len := u8 t 0
      if len < 2 then (none, [])
      else
        let r := tcpOptions (t.drop (len - 1)) n
        if k == 8 && len == 10 then (some (beAt t 1 4), r.2)
        else if k == 5 then (r.1, ((List.range ((len - 2) / 8)).map fun i => (beAt t (1 + 8 * i) 4, beAt t (5 + 8 * i) 4)) ++ r.2)
        else r
/-- Bytes in order from the sequence number expected, out of those that arrived early. -/
def drainOoo : Nat → Nat → List (Nat × Bytes) → Bytes × List (Nat × Bytes)
  | 0, _, l => ([], l)
  | n + 1, q, l =>
    match l.find? fun x => sub32 q x.1 < x.2.length with
    | none => ([], l.filter fun x => sub32 x.1 q < 2 ^ 31)
    | some x =>
      let part := x.2.drop (sub32 q x.1)
      let (b, l) := drainOoo n ((q + part.length) % 2 ^ 32) (l.filter fun y => y != x)
      (part ++ b, l)
/-- A TCP segment of an attached connection (R518-R520). -/
def tcpReceive (h : Nat) (b : Bytes) (s : State) : State :=
  match s.conn h with
  | none => s
  | some c =>
    let p := parse b
    let o := p.l4
    let flags := u8 b (o + 13)
    let hl := u8 b (o + 12) / 16 * 4
    let seq := beAt b (o + 4) 4
    let data := (b.take p.total).drop (o + hl)
    let (ts, sacks) := tcpOptions (slice b (o + 20) (hl - 20)) 40
    if rxCsum b / 4 == 2 || hl < 20 then s
    else if flags.testBit 1 || flags.testBit 5 then connReset h 5 s
    else if flags.testBit 2 then connClose h 2 s
    else
      let s := modConn h (fun c => { c with tsRecent := if c.flag 3 then ts.getD c.tsRecent else c.tsRecent, sacked := if c.flag 4 then c.sacked ++ sacks else c.sacked }) s
      let s := if flags.testBit 4 then tcpAcked h (beAt b (o + 8) 4) (beAt b (o + 14) 2) s else s
      let s := if data.isEmpty then s
        else
          let off := sub32 c.rcv seq
          if off < data.length then
            let first := data.drop off
            let (more, ooo) := drainOoo (c.ooo.length + 1) ((c.rcv + first.length) % 2 ^ 32) c.ooo
            let all := first ++ more
            let s := modConn h (fun c => { c with rcv := (c.rcv + all.length) % 2 ^ 32, rx := c.rx ++ all, ooo := ooo, bytes := (c.bytes.1, c.bytes.2 + all.length) }) s
            tcpAck h (connTake h s)
          else if sub32 seq c.rcv < sub32 c.adv c.rcv then tcpAck h (modConn h (fun c => { c with ooo := c.ooo ++ [(seq, data)] }) s)
          else tcpAck h s
      match s.conn h with
      | none => s
      | some c =>
        if flags.testBit 0 && (seq + data.length) % 2 ^ 32 == c.rcv then
          let s := modConn h (fun c => { c with rcv := (c.rcv + 1) % 2 ^ 32 }) s
          connClose h 1 (match s.conn h with
            | some c => tcpSegment h c.nxt 0x11 [] s
            | none => s)
        else tcpGo h s

/-! ### RoCEv2 (R532-R534) -/

/-- ICRC of a RoCEv2 packet: the FCS of IEEE 802.3 over the masked headers and the payload (InfiniBand architecture, annex A17). -/
def icrc (b : Bytes) : Bytes :=
  let p := parse b
  let ip := (b.take p.total).drop p.l3
  let n := p.l4 - p.l3
  let m := if p.ver == 4 then overwrite (overwrite (overwrite ip 1 [0xFF]) 8 [0xFF]) 10 [0xFF, 0xFF] else overwrite (overwrite ip 0 [u8 ip 0 ||| 0x0F, 0xFF, 0xFF, 0xFF]) 7 [0xFF]
  let m := overwrite (overwrite m (n + 6) [0xFF, 0xFF]) (n + 12) [0xFF]
  putLe 4 (fcs (List.replicate 8 0xFF ++ m)).toNat
/-- The UDP datagram of a RoCEv2 packet without its ICRC. -/
def Conn.bth (c : Conn) (op psn : Nat) (ack : Bool) (ext payload : Bytes) : Bytes :=
  let pad := (4 - payload.length % 4) % 4
  let ib := putLe 1 op ++ putLe 1 (16 * pad) ++ [0xFF, 0xFF, 0] ++ slice c.raw 77 3 ++ putLe 1 (128 * b2n ack) ++ putBe 3 psn ++ ext ++ payload ++ zeros pad
  slice c.raw 56 2 ++ putBe 2 4791 ++ putBe 2 (12 + ib.length) ++ [0, 0] ++ ib ++ zeros 4
/-- Put the ICRC at the end of a packet. -/
def sealIcrc (b : Bytes) : Bytes :=
  let p := parse b
  let body := b.take (p.total - 4)
  body ++ icrc (if p.ver == 4 then putField body (p.l3 + 2) 2 (p.total - p.l3) else body)
/-- Send a packet that needs no place in the retransmission list. -/
def rocePlain (h op psn : Nat) (ext payload : Bytes) (s : State) : State :=
  match s.conn h with
  | none => s
  | some c => connFrame h 17 (c.bth op psn false ext payload) sealIcrc s
/-- Send a request packet that takes n PSNs and is kept until it is acknowledged. -/
def roceRequest (h op n : Nat) (ack : Bool) (ext payload : Bytes) (s : State) : State :=
  match s.conn h with
  | none => s
  | some c =>
    let l4 := c.bth op c.nxt ack ext payload
    let s := modConn h (fun d => { d with nxt := (c.nxt + n) % 2 ^ 24, unacked := d.unacked ++ [(c.nxt, n, l4)], bytes := (d.bytes.1 + payload.length, d.bytes.2) }) s
    connFrame h 17 l4 sealIcrc s
/-- Packets of a message: opcodes of first, middle, last and only; ext on the first. -/
def roceMessage (h first mid last only : Nat) (ext : Bytes) : Nat → Bool → Bytes → State → State
  | 0, _, _, s => s
  | n + 1, start, b, s =>
    match s.conn h with
    | none => s
    | some c =>
      let part := b.take c.pmtu; let rest := b.drop c.pmtu
      let op := if rest.isEmpty then (if start then only else last) else if start then first else mid
      let s := roceRequest h op 1 rest.isEmpty (if start then ext else []) part s
      if rest.isEmpty then s else roceMessage h first mid last only ext n false rest s
/-- A SEND message. -/
def roceSend (h : Nat) (b : Bytes) (s : State) : State := roceMessage h 0 1 2 4 [] (b.length + 1) true b s
/-- RETH: address, key, length. -/
def reth (addr key len : Nat) : Bytes := putBe 8 addr ++ putBe 4 key ++ putBe 4 len
/-- An RDMA WRITE. -/
def roceWrite (h addr key : Nat) (b : Bytes) (s : State) : State := roceMessage h 6 7 8 10 (reth addr key b.length) (b.length + 1) true b s
/-- An RDMA READ for a command's data at an offset. -/
def roceRead (h addr key len cid off : Nat) (s : State) : State :=
  match s.conn h with
  | none => s
  | some c =>
    let n := max 1 (ceilDiv len c.pmtu)
    let s := modConn h (fun d => { d with reads := d.reads ++ [(c.nxt, (c.nxt + n - 1) % 2 ^ 24, cid, off)] }) s
    roceRequest h 12 n true (reth addr key len) [] s
/-- An acknowledgement with an AETH syndrome; the credit field grants nothing while the connection is stalled (R541). -/
def roceAck (h psn syndrome : Nat) (s : State) : State :=
  match s.conn h with
  | none => s
  | some c => rocePlain h 17 psn (putLe 1 (if syndrome == 0 then (if s.stalled h then 0 else 31) else syndrome) ++ putBe 3 c.msn) [] s
/-- Send packets from a PSN on again. -/
def roceResend (h psn : Nat) (s : State) : State :=
  match s.conn h with
  | none => s
  | some c =>
    let again := c.unacked.filter fun x => sub24 x.1 psn < 2 ^ 23 || sub24 psn x.1 < x.2.1
    forEach again (fun x s => connFrame h 17 x.2.2 sealIcrc s) (modConn h (fun c => { c with errs := (c.errs.1 + again.length, c.errs.2) }) s)
/-- PSNs up to and with psn are acknowledged. -/
def roceAcked (h psn : Nat) (s : State) : State :=
  modConn h (fun c => { c with unacked := c.unacked.filter fun x => sub24 psn (x.1 + x.2.1 - 1) ≥ 2 ^ 23, una := (psn + 1) % 2 ^ 24, retries := (0, 0) }) s

/-! ### Responses of a target -/

/-- Change command cid of a connection. -/
def modCmd (h cid : Nat) (f : StoCmd → StoCmd) (s : State) : State := modConn h (fun c => { c with cmds := modWhere (fun x => x.cid == cid) f c.cmds }) s
/-- Address and key of the keyed SGL of a capsule. -/
def keyedSgl (sqe : Bytes) : Nat × Nat := (u64 sqe 24, leAt sqe 35 4)
/-- Read data for the initiator in C2HData PDUs of at most MAXH2CDATA bytes. -/
def c2hData (h cid : Nat) : Nat → Nat → Bytes → State → State
  | 0, _, _, s => s
  | n + 1, off, b, s =>
    match s.conn h with
    | none => s
    | some c =>
      if b.isEmpty then s
      else
        let part := b.take (max 1 c.maxData); let rest := b.drop (max 1 c.maxData)
        let s := connSend h (c.pdu 7 (4 * b2n rest.isEmpty) 24 (putLe 2 cid ++ [0, 0] ++ putLe 4 off ++ putLe 4 part.length) part) s
        c2hData h cid n (off + part.length) rest s
/-- Send a command's read data. -/
def sendReadData (h : Nat) (x : StoCmd) (b : Bytes) (s : State) : State :=
  match s.conn h with
  | none => s
  | some c => if c.tcp then c2hData h x.cid (b.length + 1) 0 b s else if b.isEmpty then s else roceWrite h (keyedSgl x.sqe).1 (keyedSgl x.sqe).2 b s
/-- Send a CQE toward the initiator: DW0, DW1 and the NVMe status field; SQHD is a free value. -/
def answer (h cid dw0 dw1 status : Nat) (s : State) : State :=
  match s.conn h with
  | none => s
  | some c =>
    let (sqhd, s) := freeNat 65536 s
    let cqe := putLe 4 dw0 ++ putLe 4 dw1 ++ putLe 2 sqhd ++ [0, 0] ++ putLe 2 cid ++ putLe 2 (2 * status)
    if c.tcp then connSend h (c.pdu 5 0 24 cqe []) s else roceSend h cqe s
/-- Complete a command toward the initiator; its drive commands are discarded when they end. -/
def respond (h cid dw0 dw1 status : Nat) (s : State) : State :=
  let dead (d : DrvCmd) : DrvCmd := if d.handle == h && d.cid == cid then { d with dead := true } else d
  let s := modConn h (fun c => { c with cmds := c.cmds.filter fun x => x.cid != cid }) s
  let s := modSto (fun x => { x with drives := x.drives.map fun y => (y.1, { y.2 with out := y.2.out.map fun o => (o.1, dead o.2), waiting := y.2.waiting.filter fun o => !(o.handle == h && o.cid == cid) }) }) s
  answer h cid dw0 dw1 status s
/-- Admitted commands of an owner on the namespaces selected end as R539 says: the initiator sees Invalid Namespace. -/
def endCommands (owner : Nat) (sel : Nat → Bool) (s : State) : State :=
  let hit := (s.sto.conns.filter fun c => s.ownerOf c.2.fn == owner && c.2.proto != 2).map fun c => (c.2.cmds.filter fun x => sel x.ns).map fun x => (c.1, x.cid)
  forEach hit.flatten (fun y s => respond y.1 y.2 0 0 0x400B s) s

end Sys2Proof.Machine
end

