-- ==== Sys2Proof/Machine/BlockHooks.lean ====
section
/-!
DEFINITION. Sys2Proof/Machine/BlockHooks.lean: what a reset of a function or a tenant does in the engine blocks.
-/
namespace Sys2Proof.Machine
open Sys2Proof

/-- Close the storage connections selected by owner and function (Table 02-2; R551, 14): a RST on each TCP connection, no event. -/
def closeConns (sel : Nat → Nat → Bool) (s : State) : State :=
  let hit := s.sto.conns.filter fun c => sel (s.ownerOf c.2.fn) c.2.fn
  let s := forEach hit (fun c s => connRemove c.1 (if c.2.tcp then tcpRst c.1 s else s)) s
  modSto (fun x => { x with posts := x.posts.filter (fun y => !sel (s.ownerOf y.fn) y.fn), ghosts := x.ghosts.filter fun y => !sel (s.ownerOf y.1) y.1 }) s
/-- Wipe a tenant's key slots and the SAs that name them (R268; Table 13-3). -/
def wipeTenantKeys (t : Nat) (s : State) : State := modTenant t (fun x => { x with keys := [] }) (wipeSlots (fun _ k => k.owner == t) s)
/-- A BLOCK kind: SEG_COUNT of a command entry (none: no command entries) and of a bundle entry (Table 08-1; ch 13-15). -/
def blockKind (kind : Nat) : Option (Option (Nat × Nat) × Option (Nat × Nat)) :=
  match kind with
  | 0x10 | 0x11 | 0x13 => some (some (1, 1), none)
  | 0x12 | 0x14 => some (some (0, 1), none)
  | 0x18 => some (some (1, 2), none)
  | 0x20 | 0x21 | 0x22 => some (none, some (2, 8))
  | 0x23 => some (none, some (4, 8))
  | 0x30 | 0x31 => some (some (1, 1), some (2, 8))
  | _ => none
/-- The kind's bundle takes segments in pairs (R498, Table 15-5). -/
def blockPairs (kind : Nat) : Bool := kind == 0x30 || kind == 0x31 || kind == 0x23
/-- The kind ignores KEY_INDEX: an integrity kind without XTS (R575). FLAGS is byte 21 of the bundle entry. -/
def keyIgnored (kind flags : Nat) : Bool := inR kind 0x20 0x23 && !flags.testBit 0
/-- The key indices that an entry must name with their type, given KEY_INDEX, FLAGS and NEW_KEY_INDEX (R498, R575). -/
def blockKeys (kind key flags newKey : Nat) : List (Nat × Nat) :=
  if kind == 0x30 || kind == 0x31 then [(key, 2)]
  else if inR kind 0x20 0x23 && flags.testBit 0 then (key, 2) :: (if kind == 0x23 then [(newKey, 2)] else [])
  else []
/-- A device key slot holds a key (R464, 13). -/
def State.slotFull (s : State) (slot : Nat) : Bool := (s.cry.slots.lookup slot).isSome

/-- The device root KEK of a generation that R942 accepts, the newest valid slot or the valid slot below it (R472; R942, 26). -/
def State.rootKek (s : State) (gen : Nat) : Option Bytes :=
  if ((s.groupGens 10).reverse.take 2).contains gen then some (s.groupAt 10 gen) else none

end Sys2Proof.Machine
end

