-- ==== Sys2Proof/Machine/Resets.lean ====
section
/-!
DEFINITION. Sys2Proof/Machine/Resets.lean: the F and the T (Table 02-2, 02; R207-R210, 06; R243, R267, 07; R305, 08), and charter changes (R249).
-/
namespace Sys2Proof.Machine
open Sys2Proof

/-- VFs that SR-IOV has enabled. -/
def State.enabledVfs (s : State) : List Nat := (List.range 64).filter s.vfOn
/-- VFs of a tenant. -/
def State.tenantVfs (s : State) (t : Nat) : List Nat := (List.range 64).filter fun f => (s.vf f).tenant == some t
/-- Ring pairs of a function. -/
def State.ringsOf (s : State) (f : Nat) : List Nat := (s.rings.filter fun x => x.2.fn == f).map (·.1)
/-- The rings of a function that were cleared run again. -/
def runRings (f : Nat) (s : State) : State := forEach (s.ringsOf f) ringRuns s

/-- Take the items of a function's ring entries out of the points. -/
def purgeEntries (sel : Nat → Bool) (s : State) : State :=
  let keep (i : QItem) : Bool := match i.job with
    | .entry g _ => !((s.ring g).any fun r => sel r.fn)
    | _ => true
  { s with net := { s.net with points := tmodAll {} s.net.points (s.net.points.map (·.1)) fun _ x =>
      { x with queue := x.queue.filter keep, serving := x.serving.filter keep } } }

/-- What an F does to one function (Table 02-2): its rings, buffers, work, connections and counter banks. cause 0 F, 1 T, 2 unbind. -/
def fnReset (f cause : Nat) (s : State) : State :=
  let s := purgeEntries (· == f) s
  let s := purgeFrames (fun x => x.fn == f) s
  let s := forEach (s.ringsOf f) (fun g s => clearRing g cause s) s
  let s := cadReturn (fun b => b.fn == f) s
  let s := { s with pce := { s.pce with reads := s.pce.reads.filter fun r => r.fn != f } }
  let s := closeConns (fun _ fn => fn == f) s
  forEach (List.range 8) (fun b s =>
    let x : CntBank := tget {} s.cnt.banks b
    if x.on && x.group == 5 && x.scope == f then bankOff b (if cause == 1 then 2 else 1) s else s) s

/-- Commands whose transport belongs to PF0: those not begun are discarded, those begun finish without a reply (R35, R39). -/
def dropPf0Commands (s : State) : State :=
  let mine (p : Packet) : Bool := p.cls == 1 || p.cls == 2
  { s with cmd := { s.cmd with
      queue := s.cmd.queue.filter fun p => !mine p
      waits := s.cmd.waits.map fun w => if mine w.pkt then { w with pkt := { w.pkt with discard := true } } else w
      sources := s.cmd.sources.filter fun x => !(x.key.cls == 1 || x.key.cls == 2)
      dcwReq := [], dcwBusy := false, dcwOverrun := false, dcwResult := {}, crw0 := {}, crw1 := {}, crw2 := {}, crw3 := {} } }

/-- An F of PF0 (R26): also every enabled VF, the windows, the locks PF0 holds and the management registers. -/
def resetPf0 (s : State) : State :=
  let s := forEach s.enabledVfs (fun f s => fnReset f 0 s) s
  let s := dropPf0Commands (fnReset pf0 0 s)
  let s := { s with pce := { s.pce with event := 0, eventEn := 0, dmafAddr := 0, dmafInfo := 0, dmafLen := 0, dmafCount := 0 } }
  advanceEpoch holderPf0 s
/-- An F of a function. -/
def resetFn (f : Nat) (s : State) : State := if f == pf0 then resetPf0 s else fnReset f 0 s

/-- Configuration space of a function at its default (Table 06-1, Table 06-2; log 31 for an FLR). -/
def resetConfig (f : Nat) (s : State) : State :=
  let s := modFn f (fun x => { ({} : PciFn) with flr := x.flr }) s
  { s with pce := { s.pce with msix := s.pce.msix.filter fun v => v.1 / 64 != f, atc := s.pce.atc.filter fun e => e.1 != f } }
/-- Configuration space of PF0 with its SR-IOV capability, and of every VF. -/
def resetAllConfig (s : State) : State :=
  { s with pce := { s.pce with fns := [], msix := [], atc := [], vfEnable := false, numVfs := 0, pageSize := 4096, vfBars := [0, 0] } }

/-- The F of a conventional reset has been applied and PERST_N is deasserted: it is over (R207), and the rings run (R305). -/
def endConvReset (s : State) : State :=
  let s := { s with pce := { s.pce with convReset := false } }
  forEach ((s.rings.map (·.1))) ringRuns s
/-- A source of a conventional reset (R207): 0 PERST_N, 1 hot reset, 2 link down, 3 reference lost. -/
def convReset (source : Nat) (s : State) : State :=
  if s.pce.convReset then s
  else
    let s := resetPf0 s
    let s := resetAllConfig s
    let s := { s with pce := { s.pce with convReset := true, speed := 0, width := 0, reduced := false, training := false, reads := [] } }
    let s := logEvent 5 0x8003 (detail [(16, 1, source)]) s
    if s.pce.perst then s else endConvReset s

/-- The PCIe link changes its speed or width without the host's direction (R236, R237, R980, Table 06-5 LINK): cause 0 training, 1 entry to HOLD,
2 resume, 3 partner (log 83). -/
def linkChange (sp w cause : Nat) (s : State) : State :=
  if s.pce.speed == sp && s.pce.width == w then s
  else mgtEvent 0x08 (logEvent 5 0x8002 (detail [(16, 1, sp), (17, 1, w), (18, 1, cause)]) { s with pce := { s.pce with speed := sp, width := w } })
/-- The widest width that the quads allow: up to the first that is fenced (R980, 27) or, in HOLD, off (R236). -/
def State.quadWidth (s : State) : Nat :=
  if s.pmc.st == .hold || s.domLost 32 then 4 else if s.domLost 33 || s.domLost 34 then 8 else 16

/-- A charter change: CHG_GEN advances by 2 when a field changes (R249). -/
def charter (t : Nat) (f : Tenant → Tenant) (s : State) : State :=
  let x := s.tenant t
  let y := f x
  if y = x then s else modTenant t (fun _ => { y with gen := x.gen + 2 }) s
/-- CHG_GEN advances for a change of a VF's fields. -/
def bumpGen (t : Nat) (s : State) : State := modTenant t (fun x => { x with gen := x.gen + 2 }) s

/-- Complete every admitted entry of a function's rings with a status (R253, R260, R131). -/
def failWorkOf (f status : Nat) (s : State) : State :=
  let s := purgeEntries (· == f) s
  forEach (s.rings.filter fun x => x.2.fn == f) (fun x s => forEach (x.2.work.map (·.seq)) (fun q s => failEntry x.1 q status s) s) s

/-- A T on a tenant, without its generation (R267, R268): every VF, its buffers, connections and key slots. -/
def resetTenant (t : Nat) (s : State) : State :=
  let vfs := s.tenantVfs t
  let s := forEach vfs (fun f s => fnReset f 1 s) s
  let s := cadReturn (fun b => b.owner == t) s
  let s := purgeFrames (fun x => x.owner == t) s
  let s := closeConns (fun o _ => o == t) s
  let s := wipeTenantKeys t s
  let s := modTenant t (fun x => { x with epoch := x.epoch + 1 }) s
  let s := logEvent 6 0x8003 (detail [(16, 1, t), (20, 4, (s.tenant t).epoch.toNat)]) s
  forEach vfs runRings s

end Sys2Proof.Machine
end

