-- ==== Sys2Proof/Machine/Entries.lean ====
section
/-!
DEFINITION. Sys2Proof/Machine/Entries.lean: the arrival of ring entries and the checks of Table 08-9; TX and PACKET entries (ch 08, 07).
-/
namespace Sys2Proof.Machine
open Sys2Proof

/-- SEG_COUNT of a command entry and of a bundle entry for a kind permitted in a class (Table 08-1). -/
def kindSpec (kind cls : Nat) : Option (Option (Nat × Nat) × Option (Nat × Nat)) :=
  match kind with
  | 1 => some (some (0, 0), none)
  | 2 => if cls == 1 then some (some (2, 2), none) else none
  | 3 => if cls == 2 then some (some (1, 1), some (1, 8)) else none
  | 4 => if cls == 3 then some (some (1, 1), some (1, 8)) else none
  | k => if cls == 4 && inR k 0x10 0x3F then blockKind k else none

/-- The entry-level status of Table 08-9, checks 1 to 5. -/
def entryCheck (s : State) (r : Ring) (e : Bytes) : Option Nat :=
  match kindSpec (entKind e) r.cls with
  | none => some stBadParam
  | some (c, b) =>
    let n := entSegs e
    let bundleBad := if entBundle e then !r.wide || b.isNone else c.isNone
    let range := (if entBundle e then b else c).getD (0, 0)
    if bundleBad || !inR n range.1 range.2 || (entBundle e && blockPairs (entKind e) && n % 2 == 1) then some stBadParam
    else
      let flags := u8 (entParams e) 1
      let key := if keyIgnored (entKind e) flags then 0xFFFF else entKey e
      let ns := entNsid e
      let typeBad := (blockKeys (entKind e) key flags (u16 (entParams e) 2)).any fun k => s.keyType r.fn k.1 != some k.2
      if r.fn == pf0 then (if (key != 0xFFFF && !s.slotFull key) || typeBad then some stDenied else none)
      else match (s.vf r.fn).tenant with
      | none => some stDenied
      | some t =>
        let x := s.tenant t
        if !x.tcMask.testBit (entTc e) then some stSpoof
        else if key != 0xFFFF && (decide (x.keyMax ≤ key) || (x.keys.lookup key).isNone) then some stDenied
        else if typeBad || (ns != 0 && !(x.spaces.any fun m => m.nsid == ns)) then some stDenied
        else none

/-- Cost of an entry at point 0x01 (Table 12-1). -/
def entryCost (e : Bytes) : Nat :=
  if entKind e == 3 || 0x10 ≤ entKind e then ((List.range (min (entSegs e) 8)).map (entLen e)).foldl (· + ·) 0 else 0

/-- An entry's data arrives (R284, R288, R290): the head advances, the entry is admitted with its slots, its cost is taken, and it
is checked; f goes on with an entry that passes. -/
def arrive (g kind : Nat) (entry : Bytes) (data : List (Option Bytes)) (f : Nat → State → State) (s : State) : State :=
  match s.ring g with
  | none => s
  | some r =>
    match r.fetch with
    | none => s
    | some q =>
      if q.failed || r.st == .clearing then s
      else
        let size := if r.wide then 128 else 64
        let e := overwrite ((entry ++ zeros size).take size) 0 (putLe 1 kind)
        let n := if r.cls == 3 && kind == 4 && inR (entSegs e) 1 8 then entSegs e else 1
        let w : RingWork := { seq := r.nextSeq, entry := e, slots := List.replicate n .waiting, data := data }
        let s := setRing g (some { r with head := (r.head + 1) % r.sqDepth, fetch := none, work := r.work ++ [w], nextSeq := r.nextSeq + 1 }) s
        let s := { s with pce := { s.pce with reads := s.pce.reads.filter fun x => x.use != .fetch g } }
        let s := countEv 5 r.fn 0 1 s
        let s := takeTokens r.fn (entryCost e) s
        if q.late then failEntry g w.seq stAborted s
        else match entryCheck s r e with
        | some st => failEntry g w.seq st s
        | none => f w.seq s

/-- An entry waits for a buffer (Table 09-2). -/
def waitBuffer (cls owner fn len agent : Nat) (use : CadUse) (s : State) : State :=
  { s with cad := { s.cad with waits := s.cad.waits ++ [⟨cls, owner, fn, len, agent, use⟩] } }

/-- A segment of an entry has failed: SEG_MASK names it, and the lowest-numbered failure gives the status (R296). -/
def failSeg (g seq i status : Nat) (s : State) : State :=
  modWork g seq (fun w => { w with next := i + 1, mask := w.mask ||| 2 ^ i, status := if w.mask = 0 then status else w.status }) s

/-- A spoof refusal (R262-R264). -/
def spoofed (f t check : Nat) (b : Bytes) (off : Nat) (s : State) : State :=
  let s := modVf f (fun x => { x with spoof := min 0xFFFFFFFF (x.spoof + 1) }) s
  let s := countEv 4 f 14 1 s
  logLimited 6 0x8001 f 1 1000 ((detail [(16, 1, f), (17, 1, t), (18, 1, check)]).take 4 ++ (slice b off 8 ++ zeros 8).take 8 ++ zeros 4) s

/-- One TX frame read from the host: spoof checks, the tag of VLAN_MODE INSERT, checksums, and the switch. The status is 0 when it is accepted. -/
def txFrame (r : Ring) (e b : Bytes) (bufs : List Nat) (s : State) : Nat × State :=
  let txMeta := u32 (entParams e) 0
  let owner := s.ownerOf r.fn
  let vp := if r.fn == pf0 then 0x40 else r.fn
  let refused : Option (Nat × Nat) := if r.fn == pf0 then none else spoofCheck (s.tenant owner) (entTc e) b
  match refused with
  | some (c, o) => (stSpoof, cadRelease bufs (spoofed r.fn owner c b o s))
  | none =>
    let x := s.tenant owner
    let (b, s) := if r.fn != pf0 && x.flags / 4 % 4 == 2 then
        let (pcp, s) := freeNat 8 s
        let v := x.vlans.headD (0, 0)
        (pushTags b (tagBytes (if v.2 == 1 then 0x88A8 else 0x8100) (pcp * 8192 + v.1)), s)
      else (b, s)
    let b := metaCsum b txMeta
    let (id, s) := newId s
    let f : Frame := { id := id, bytes := b, inVp := vp, owner := owner, fn := r.fn, tc := entTc e, bufs := bufs, backlog := b.length,
                       hash := convHash (lookupKey b 0 0 0 0 false) }
    let dest := txMeta % 256
    if r.fn == pf0 && dest != 0xFF then
      if !vpExists dest || (dest != 0x60 && !s.vpOn dest) then (stBadParam, cadRelease bufs s)
      else (stOk, toVport dest 0 0 false f s)
    else (stOk, enterSwitch f 0 true none s)

/-- The frames of a TX entry from its first unhandled segment on (R262, R296); an entry without a FETCH buffer waits (Table 09-2). -/
def txRun (g seq : Nat) : Nat → State → State
  | 0, s => s
  | n + 1, s =>
    match s.ring g, s.workOf g seq with
    | some r, some w =>
      let i := w.next
      if entSegs w.entry ≤ i then
        finishEntry g seq { user := entUser w.entry, length := w.length, status := if w.mask = 0 then stOk else w.status, kind := 3, segMask := w.mask } s
      else
        let len := entLen w.entry i
        if !inR len 14 9212 then txRun g seq n (failSeg g seq i stBadParam s)
        else match cadTake 2 (s.ownerOf r.fn) r.fn len s with
        | none => waitBuffer 2 (s.ownerOf r.fn) r.fn len 7 (.entry g seq) s
        | some (hs, s) =>
          match dmaGet r.fn (entAddr w.entry i) len (w.data.getD i none) s with
          | (none, s) => txRun g seq n (failSeg g seq i stFault (cadRelease hs s))
          | (some b, s) =>
            let (st, s) := txFrame r w.entry b hs s
            if st == stOk then txRun g seq n (modWork g seq (fun w => { w with next := i + 1, length := w.length + len }) s)
            else txRun g seq n (failSeg g seq i st s)
    | _, _ => s

/-- A PACKET entry (R297): its request is read into a CONTROL caddy and goes to the front end; the reply path is its segment 1. -/
def packetRun (g seq : Nat) (s : State) : State :=
  match s.ring g, s.workOf g seq with
  | some r, some w =>
    let e := w.entry
    let done (status mask : Nat) (s : State) : State := finishEntry g seq { user := entUser e, status := status, kind := 2, segMask := mask } s
    let bad0 := !inR (entLen e 0) 16 4084; let bad1 := !inR (entLen e 1) 20 4084
    if bad0 || bad1 then done stBadParam (b2n bad0 + 2 * b2n bad1) s
    else match cadTake 0 17 r.fn (entLen e 0) s with
    | none => waitBuffer 0 17 r.fn (entLen e 0) 20 (.entry g seq) s
    | some (hs, s) =>
      match dmaGet r.fn (entAddr e 0) (entLen e 0) (w.data.getD 0 none) s with
      | (none, s) => done stFault 1 (cadRelease hs s)
      | (some b, s) =>
        frontEnd ⟨1, 0xFFF, 0⟩ 0 (.ring g seq (entAddr e 1) (entLen e 1)) b (modWork g seq (fun w => { w with bufs := hs }) s)
  | _, _ => s

end Sys2Proof.Machine
end

