-- ==== Sys2Proof/Machine/PortOps.lean ====
section
/-!
DEFINITION. Sys2Proof/Machine/PortOps.lean: what Ethernet ports and aggregates do, shared by their rows (ch 10).
-/
namespace Sys2Proof.Machine
open Sys2Proof

/-- A type of Table 10-2 may park and sleep in LPI. -/
def typeLpi (t : Nat) : Bool := t == 0x41 || t == 0x42 || t == 0x51
/-- A type without auto-negotiation. -/
def typeC2m (t : Nat) : Bool := t == 1 || t == 0x13 || t == 0x23 || t == 0x33 || t == 0x43 || t == 0x53
/-- The types a mode permits (Table 10-2). -/
def modeTypes (m : Nat) : List Nat :=
  match m with | 1 => [1] | 2 => [0x11, 0x12, 0x13] | 3 => [0x21, 0x22, 0x23] | 4 => [0x31, 0x32, 0x33] | 5 => [0x41, 0x42, 0x43] | 6 => [0x51, 0x53] | _ => []
/-- The FEC settings a type permits (Table 10-2); 0xFF with auto-negotiation. -/
def typeFec (t : Nat) : List Nat := if t < 0x40 then [2] else if t < 0x50 then [0, 1] else [0]
/-- MAC address of port p (R350). -/
def State.portMac (s : State) (p : Nat) : Bytes := putBe 6 (s.net.baseMac + p)
/-- Pause in use: 0 NONE, 1 PAUSE, 2 PFC (R348). -/
def Port.pauseNow (x : Port) : Nat := if x.pause = 1 then (if x.partnerPause then 1 else 0) else x.pause
/-- Resolved wake time, when valid (R371). -/
def Port.wakeTime (x : Port) : Option Nat := if x.eeeAble then x.partnerTw.map fun t => max t (Config.minWakeUs x.type) else none

/-- Vport through which frames of port p pass: the port's own or its aggregate's (R391). -/
def State.portVp (s : State) (p : Nat) : Nat := match s.aggOf p with
  | some a => 0x50 + a
  | none => 0x48 + p
/-- A frame goes out on port p, padded and with its FCS (R358), inverted when it is stomped (R421). A bound TX SecY protects it first
(R485); a frame that finds no active SA, or a stopped one, is dropped (R486). -/
def sendMac (p : Nat) (b : Bytes) (stomp : Bool) (s : State) : State :=
  let b := b ++ zeros (60 - b.length)
  match macsecLeave (s.portVp p) b s with
  | (none, s) => s
  | (some b, s) =>
    let f := (fcs b).toNat
    let w := b ++ putLe 4 (if stomp then 0xFFFFFFFF - f else f)
    let s := modPort p (fun x => { x with winTx := x.winTx + 8 * w.length }) s
    countEv 1 p 8 w.length (countEv 1 p 7 1 (emit (.frame (0x48 + p) w stomp) s))
/-- Write LINK_UP or LINK_DOWN, at most once per port in any 100 ms; the rest are counted (R390). -/
def linkRecord (p code a b c : Nat) (s : State) : State :=
  let before := s.log.nextSeq
  let s := logLimited 9 code p 1 100000 (detail [(16, 1, p), (17, 1, a), (18, 1, b), (19, 1, c)]) s
  if s.log.nextSeq == before then modPort p (fun x => { x with suppressed := min 0xFFFF (x.suppressed + 1) }) s else s

/-- State of an aggregate (R375). -/
def State.aggState (s : State) (a : Nat) : Nat :=
  let g := s.agg a
  if !g.on then 0
  else if !(g.members.any s.portUp) then 3
  else if g.members.any fun p => (s.port p).st == 5 then 2
  else 1
/-- Note a change of an aggregate's state (Table 10-9). -/
def aggCheck (a : Nat) (s : State) : State :=
  let n := s.aggState a
  let o := (s.agg a).st
  if n == o then s
  else logEvent 9 0x8007 (detail [(16, 1, a), (17, 1, o), (18, 1, n)]) (modAgg a (fun g => { g with st := n }) s)

/-- Frames queued on a port that stopped sending are dropped at egress (R352). -/
def flushPort (p : Nat) (s : State) : State :=
  let x := s.point (0x48 + p)
  let s := modPoint (0x48 + p) (fun x => { x with queue := [], serving := [] }) s
  let s := forEach (x.queue ++ x.serving) (fun i s => ifSome i.job.frame? (fun f s => dropFrame (some (0x48 + p)) f s) s) s
  match s.aggOf p with
  | some a => releaseHeld a s
  | none => s
/-- A port changes its state: 1 down, 2 negotiating, 3 up, 4 fault, 5 fenced; cause is that of LINK_DOWN. Tunnelled links follow it (R879). -/
def setPort (p st cause : Nat) (s : State) : State :=
  let old := (s.port p).st
  if old == st then s
  else
    let s := modPort p (fun x => { x with st := st, changedAt := s.us, lldpDirty := true }) s
    let s := if st == 3 then
        let x := s.port p
        linkRecord p 0x8001 x.type x.fecNow x.pauseNow s
      else if old == 3 then
        let s := modPort p (fun x => { x with paused := [], park := if cause == 6 then x.park else 0 }) s
        flushPort p (linkRecord p 0x8002 cause 0 0 s)
      else s
    latStart (ifSome (s.aggOf p) aggCheck s)
/-- An enabled port starts its bring-up: negotiation, or waiting for its signal. -/
def bringUp (p : Nat) (s : State) : State :=
  let x := s.port p
  let lost := (modeLanes s.net.mode p).find? fun l => s.domLost (50 + l) || s.domLost (46 + l / 2)
  if x.type == 0 then modPort p (fun x => { x with st := 0 }) s
  else if lost.isSome then setPort p 5 2 s
  else setPort p (if x.an then 2 else 1) 4 (modPort p (fun x => { x with fecNow := if x.fec == 0xFF then 0 else x.fec, park := 0 }) s)
/-- Ports of the mode. -/
def State.portList (s : State) : List Nat := List.range (modePorts s.net.mode)
/-- Take every port down with a cause. -/
def portsDown (cause : Nat) (s : State) : State := forEach s.portList (fun p s => if (s.port p).st == 0 || (s.port p).st == 5 then s else setPort p 1 cause s) s

/-- Ingress occupancy of a port and class (R365); in PAUSE mode all classes. -/
def State.occupancy (s : State) (p : Nat) (cls : Option Nat) : Nat :=
  let size (h : Nat) : Nat := if h.testBit 25 then 4096 else (s.pool (h / 2 ^ 22 % 8)).size
  s.frames.foldl (fun n f => match f.arrival with
    | some (q, c) => if q == p && (cls.isNone || cls == some c) then f.bufs.foldl (fun n h => n + size h) n else n
    | none => n) 0
/-- A pause frame (entry 0) or a PFC frame for the classes given with their times (R367). -/
def sendPause (p : Nat) (pfc : Bool) (times : List (Nat × Nat)) (s : State) : State :=
  let hdr := putBe 6 0x0180C2000001 ++ s.portMac p ++ putBe 2 0x8808
  let body := if pfc then putBe 2 0x0101 ++ putBe 2 (maskOf (times.map (·.1))) ++ ((List.range 8).map fun c => putBe 2 ((times.lookup c).getD 0)).flatten
    else putBe 2 1 ++ putBe 2 ((times.head?.map (·.2)).getD 0)
  countEv 1 p 9 1 (sendMac p (hdr ++ body) false s)
/-- Entries that pause generation looks at (R366). -/
def Port.entries (x : Port) : List Nat := if x.pauseNow = 1 then [0] else if x.pauseNow = 2 then bitsSet 8 x.txMask else []
/-- Occupancy of an entry. -/
def State.entryOcc (s : State) (p e : Nat) : Nat := s.occupancy p (if (s.port p).pauseNow = 1 then none else some e)

/-- Member domains of a port (lanes D050+, MACs D046+). -/
def State.laneDomains (s : State) (p : Nat) : List Nat := (modeLanes s.net.mode p).map (50 + ·)
/-- Switch domains of the data path on or off at once, unless repair holds them. -/
def powerDomains (ds : List Nat) (on : Bool) (cause : Nat) (s : State) : State :=
  forEach ds (fun d s =>
    let x := s.domain d
    if x.st == .fenced || x.st == .spare || x.forced.isSome then s
    else setDomain d (if on then { x with st := .on, cause := 0 } else { x with st := .gated, cause := cause }) s) s
/-- The port of the mode that uses lane l. -/
def State.lanePort (s : State) (l : Nat) : Option Nat := s.portList.find? fun p => (modeLanes s.net.mode p).contains l
/-- The lane's member is DEEP-parked (R385). -/
def State.laneDeep (s : State) (l : Nat) : Bool := (s.lanePort l).any fun p => (s.port p).park == 4
/-- A lane or MAC domain that a port of the mode needs (PORT_MODE_SET, 10). -/
def State.laneNeeded (s : State) (d : Nat) : Bool :=
  if d < 50 then (s.lanePort (2 * (d - 46))).isSome || (s.lanePort (2 * (d - 46) + 1)).isSome else (s.lanePort (d - 50)).isSome
/-- A lane domain whose member is DEEP-parked, or a MAC domain with each of its lanes so or of no port, which parks it (R385). -/
def State.laneParks (s : State) (d : Nat) : Bool :=
  let idle (l : Nat) : Bool := s.laneDeep l || (s.lanePort l).isNone
  if d < 50 then s.laneNeeded d && idle (2 * (d - 46)) && idle (2 * (d - 46) + 1) else s.laneDeep (d - 50)
/-- A lane does work: its port is neither disabled nor DEEP-parked. -/
def State.laneBusy (s : State) (l : Nat) : Bool := (s.lanePort l).any fun p => (s.port p).type != 0 && (s.port p).park != 4

/-- Build an LACPDU of a port (R373, R913). -/
def lacpdu (s : State) (p : Nat) : Bytes :=
  let x := s.port p
  let a := (s.aggOf p).getD 0
  let g := s.agg a
  let bound := s.lat.bound.contains a
  let system := if bound then slice s.lat.stack 6 6 else putBe 6 s.net.baseMac
  let number := if bound then (((s.lat.members.findIdx? (· == s.ownSerial)).getD 0) + 1) * 256 + p + 1 else p + 1
  putBe 6 0x0180C2000002 ++ s.portMac p ++ putBe 2 0x8809 ++ [1, 1, 1, 20] ++ putBe 2 g.pri ++ system ++ putBe 2 g.key
    ++ putBe 2 Config.lacpPortPriority ++ putBe 2 number ++ putLe 1 x.actor ++ zeros 3
    ++ [2, 20] ++ (x.partnerInfo ++ zeros 15).take 15 ++ zeros 3 ++ [3, 16] ++ putBe 2 Config.lacpMaxDelay ++ zeros 12 ++ zeros 52
/-- Actor state: activity, timeout, aggregation, synchronisation, collecting, distributing (R373). -/
def actorState (fast sync coll dist : Bool) : Nat := 1 + 2 * b2n fast + 4 + 8 * b2n sync + 16 * b2n coll + 32 * b2n dist
/-- Send an LACPDU with the actor state given. -/
def sendLacp (p actor : Nat) (s : State) : State :=
  let s := modPort p (fun x => { x with actor := actor }) s
  if s.portUp p then sendMac p (lacpdu s p) false s else s

/-- Start the wake of a parked member (R381, Table 10-4). -/
def startWake (p : Nat) (s : State) : State :=
  let x := s.port p
  let s := modPort p (fun x => { x with park := 5, deep := decide (3 ≤ x.park), wakeAt := s.us }) s
  if x.park == 4 then
    bringUpWaking p (powerDomains (s.laneDomains p ++ (modeLanes s.net.mode p).map (46 + · / 2)) true 0 s)
  else s
where
  /-- The link of a DEEP-parked member starts again without leaving WAKING. -/
  bringUpWaking (p : Nat) (s : State) : State :=
    modPort p (fun x => { x with st := if x.an then 2 else 1, changedAt := s.us }) s
/-- A member is parked or on its way there. -/
def Port.parking (x : Port) : Bool := inR x.park 2 4
/-- Wake every parked member of an aggregate; one that still drains stays ACTIVE. -/
def wakeAgg (a : Nat) (s : State) : State :=
  let s := modAgg a (fun g => { g with calm := 0 }) s
  forEach (s.agg a).members (fun p s =>
    if (s.port p).parking then startWake p s else if (s.port p).park == 1 then modPort p (fun x => { x with park := 0 }) s else s) s
/-- Wake every parked member (R383). -/
def wakeAll (s : State) : State := forEach (List.range 4) wakeAgg s

end Sys2Proof.Machine
end

