-- ==== Sys2Proof/Machine/Engines.lean ====
section
/-!
DEFINITION. Sys2Proof/Machine/Engines.lean: the engine pools behind the scheduling points, and what BLOCK entries share (ch 08, 12-15).
-/
namespace Sys2Proof.Machine
open Sys2Proof

/-- Domains of a pool's units in order: AES, storage, integrity. -/
def poolDomains (k : Nat) : List Nat :=
  if k == 0x104 then (List.range 9).map (65 + ·) else if k == 0x105 then (List.range 7).map (74 + ·) else (List.range 5).map (81 + ·)
/-- Units of a pool that take new work: ON, and not the unit OUT of a swap (R976, 27). -/
def State.unitsOn (s : State) (k : Nat) : List Nat :=
  (List.range (poolDomains k).length).filter fun u =>
    let d := (poolDomains k).getD u 0
    s.isOn d && !(s.pmc.swap.any fun w => w.1 == d)
/-- Work in a unit. -/
def SchPoint.unitLoad (x : SchPoint) (u : Nat) : Nat := (x.serving.filter fun i => i.unit == u).foldl (fun n i => n + i.cost) 0
/-- The ON unit with the least queued work (R460); the lowest-numbered of several (log 51). -/
def State.leastUnit (s : State) (k : Nat) : Option Nat :=
  (s.unitsOn k).foldl (fun m u => match m with
    | none => some u
    | some v => if (s.point k).unitLoad u < (s.point k).unitLoad v then some u else some v) none
/-- An item goes into a unit. -/
def intoUnit (k u : Nat) (i : QItem) (s : State) : State := modPoint k (fun x => { x with serving := x.serving ++ [{ i with unit := u }] }) s
/-- An item leaves its unit; the counters of GROUP 0x06 see it (Table 28-2). -/
def outOfUnit (k : Nat) (i : QItem) (s : State) : State :=
  let s := modPoint k (fun x => { x with serving := x.serving.filter fun j => j.id != i.id }) s
  countEv 6 (k - 0x100) (2 * i.unit + 1) i.cost (countEv 6 (k - 0x100) (2 * i.unit) 1 s)
/-- The item id in a unit of a point. -/
def State.inUnit (s : State) (k id : Nat) : Option QItem := (s.point k).serving.find? fun i => i.id == id
/-- An item waits for its output buffer of class ENGINE (Table 09-2). -/
def waitOutput (k id owner fn len agent : Nat) (s : State) : State :=
  if s.cad.waits.any fun w => w.use == .item k id then s
  else { s with cad := { s.cad with waits := s.cad.waits ++ [⟨1, owner, fn, len, agent, .item k id⟩] } }

/-- Complete an entry whose trusted fields are inconsistent: its effect is undefined (R291), so status and length are free values (log 52). -/
def malformed (g seq : Nat) (s : State) : State :=
  let (st, s) := freeNat 32768 s
  let (n, s) := freeNat (2 ^ 32) s
  let (m, s) := freeNat 256 s
  match s.workOf g seq with
  | some w => finishEntry g seq { user := entUser w.entry, length := n, status := st, kind := entKind w.entry, segMask := m } s
  | none => s

/-- FETCH buffers for host data of a BLOCK entry; refused, the entry waits (Table 09-2). -/
def fetchBuffers (g seq : Nat) (lens : List Nat) (s : State) : Bool × State :=
  match s.ring g with
  | none => (false, s)
  | some r =>
    let owner := s.ownerOf r.fn
    let rec go : List Nat → List Nat → State → Option (List Nat × State) × Nat
      | [], hs, s => (some (hs, s), 0)
      | n :: t, hs, s => match cadTake 2 owner r.fn n s with
        | some (h, s) => go t (hs ++ h) s
        | none => (none, n)
    match go lens [] s with
    | (some (hs, s), _) => (true, modWork g seq (fun w => { w with bufs := w.bufs ++ hs }) s)
    | (none, n) => (false, waitBuffer 2 owner r.fn n 7 (.entry g seq) s)
/-- Read segments of an entry; what each read returned replaces its data, none where it was refused or failed (R223, R227). -/
def readSegs (g seq : Nat) (segs : List Nat) (s : State) : State :=
  forEach segs (fun i s =>
    match s.ring g, s.workOf g seq with
    | some r, some w =>
      let (b, s) := dmaGet r.fn (entAddr w.entry i) (entLen w.entry i) (w.data.getD i none) s
      modWork g seq (fun w => { w with data := (w.data ++ List.replicate (i + 1 - w.data.length) none).set i b }) s
    | _, _ => s) s

end Sys2Proof.Machine
end

