-- ==== Sys2Proof/Machine/LatOps.lean ====
section
/-!
DEFINITION. Sys2Proof/Machine/LatOps.lean: lattice frames, their sending and receiving, carriages and tunnels (ch 24, 25).
-/
namespace Sys2Proof.Machine
open Sys2Proof

/-! ### Frames (R847-R850) -/

/-- One bit of the scrambler: the next state, and k (R850). -/
def scrBit (s : W32) : W32 × Bool :=
  let k := (s.getLsbD 30) != (s.getLsbD 27)
  (((s <<< 1) ||| (if k then 1#32 else 0#32)) &&& 0x7FFFFFFF#32, k)
/-- One byte, bit 0 first. -/
def scrByte (s : W32) (b : Byte) : W32 × Byte :=
  (List.range 8).foldl (fun a i =>
    let n := scrBit a.1
    (n.1, if n.2 then a.2 ^^^ (1#8 <<< i) else a.2)) (s, b)
/-- Scramble or descramble bytes from a state. -/
def scrFrom : W32 → Bytes → Bytes
  | _, [] => []
  | s, b :: t => let n := scrByte s b; n.2 :: scrFrom n.1 t
/-- Scramble or descramble bytes 8-251 of a frame with its FCNT. -/
def scramble (fcnt : Nat) (b : Bytes) : Bytes := scrFrom (0x2D2D0000#32 ||| BitVec.ofNat 32 (fcnt % 65536)) b
/-- The marker, sent 5B C3 1E 7A (Table 24-1). -/
def latMarker : Bytes := [0x5B, 0xC3, 0x1E, 0x7A]
/-- A lattice frame (Table 24-1, Table 24-2). -/
def latFrame (head fcnt fseq ack valid : Nat) (data : Bytes) : Bytes :=
  let h := putLe 1 head ++ putLe 2 fcnt
  let h := h ++ [hcrc h]
  let body := putLe 4 (fseq % 4096 + ack % 4096 * 4096 + valid * 2 ^ 24) ++ (data ++ zeros 240).take 240
  latMarker ++ h ++ scramble fcnt body ++ putLe 4 (crc32c (h ++ body)).toNat
/-- HELLO data area (Table 24-4, Table 25-2). -/
def State.hello (s : State) (l : Nat) : Bytes :=
  let x := s.link l
  (putLe 1 1 ++ putLe 1 l ++ putLe 2 s.lat.id ++ s.serial ++ putLe 8 x.peerSerial ++ putLe 1 x.peerLane
    ++ putLe 1 (b2n (x.mode == 2) + 2 * b2n (s.pmc.st == PowerState.hold)) ++ slice x.block 2 2 ++ putLe 1 s.trustGen ++ zeros 7
    ++ putLe 1 s.lat.stackId ++ putLe 1 s.lat.role ++ putLe 1 (u8 s.lat.stack 2) ++ [0] ++ putLe 4 s.lat.stackHash ++ zeros 240).take 240

/-! ### Sending (R851, R863-R869, R880) -/

/-- The Ethernet frame of a tunnel without its FCS (Table 24-7). -/
def tunnelFrame (s : State) (l p : Nat) : Bytes :=
  let x := s.link l
  slice x.block 16 6 ++ putBe 6 (s.net.baseMac + p) ++ (if x.tagged then [0x81, 0x00] ++ slice x.block 14 2 else []) ++ slice x.block 12 2
    ++ [1, BitVec.ofNat 8 x.batch.length, 0, 0] ++ x.batch.flatten
/-- Send what a tunnel has queued as DEV traffic at PORT's egress; without a DATA segment it is reserved traffic (R880). -/
def tunnelFlush (l : Nat) (s : State) : State :=
  let x := s.link l
  if x.batch.isEmpty then s
  else
    let reserved := !(x.batch.any fun b => u8 b 0 % 16 == 3)
    let (p, s) := if inR x.port 0x48 0x4F then (some (x.port - 0x48), s) else memberFor (x.port - 0x50) 0 s
    match p with
    | some p =>
      let b := tunnelFrame s l p
      let (id, s) := newId s
      let s := modLink l (fun x => { x with batch := [] }) s
      enqueueAt (0x48 + p) 17 0 (b.length + 24) reserved (.send { id := id, bytes := b, inVp := 0x60 }) s
    | none => modLink l (fun x => { x with batch := [] }) s
/-- Put a frame on a link: on the lane, or into the tunnel's next Ethernet frame. -/
def latPut (l head fseq valid : Nat) (data : Bytes) (s : State) : State :=
  let x := s.link l
  let f := latFrame (head + 64 * b2n x.nak) x.fcnt fseq x.rxSeq valid data
  let s := modLink l (fun x => { x with fcnt := (x.fcnt + 1) % 65536, sentAck := some (x.rxSeq, x.nak) }) s
  if x.mode == 2 then
    let s := modLink l (fun x => { x with batch := x.batch ++ [f.drop 4] }) s
    whenS (decide (u8 x.block 11 ≤ (s.link l).batch.length)) (tunnelFlush l) s
  else emit (.latFrame l f) s
/-- The next segment of the carriage that is being sent. -/
def latSegmentOut (l : Nat) (t : LatTx) (s : State) : State :=
  let x := s.link l
  let part := t.rest.take 240
  let eop := decide (t.rest.length ≤ 240)
  let g : LatSeg := ⟨t.kind + 16 * b2n t.first + 32 * b2n eop + 128 * b2n (eop && t.abort), x.txSeq, part.length, part⟩
  let s := modLink l (fun x => { x with txSeq := (x.txSeq + 1) % 4096, replay := x.replay ++ [g]
                                        tx := if eop then none else some { t with rest := t.rest.drop 240, first := false } }) s
  latPut l g.head g.fseq g.valid g.data s
/-- One frame slot of a transmitter (R851). -/
def latSlot (l : Nat) (s : State) : State :=
  let x := s.link l
  let room := decide (x.replay.length < 1024)
  let again := x.resend.bind fun i => (x.replay[i]?).map fun g => (i, g)
  if x.st < 2 then s
  else match again with
  | some (i, g) =>
    let s := modLink l (fun x => { x with resend := if i + 1 < x.replay.length then some (i + 1) else none, now := { x.now with retx := x.now.retx + 1 } }) s
    latPut l g.head g.fseq g.valid g.data s
  | none =>
    if x.tx.isSome && room then ifSome x.tx (latSegmentOut l) s
    else if x.helloDue && 4 ≤ x.st then latPut l 1 0 0 (s.hello l) (modLink l (fun x => { x with helloDue := false }) s)
    else
      let next : Option (LatTx × LatLink) :=
        if x.st != 5 || !room || x.tx.isSome then none
        else match x.ctrlQ with
        | c :: rest => some (⟨2, c, true, false⟩, { x with ctrlQ := rest })
        | [] => match x.dataQ with
          | (c, ab) :: rest => if s.latHeld then none else some (⟨3, c, true, ab⟩, { x with dataQ := rest })
          | [] => none
      match next with
      | some (t, y) => latSegmentOut l t (modLink l (fun _ => y) s)
      | none => if x.mode == 2 && x.sentAck == some (x.rxSeq, x.nak) then s else latPut l 0 0 0 [] s

/-! ### Link-state advertisements (R892, R893) -/

/-- Queue an LSA on a link. -/
def sendLsa (l : Nat) (a : Bytes) (s : State) : State := latCtrl l (carriageHead 0 s.lat.id 0x10 64 ++ a) s
/-- Flood an LSA on every UP link but one. -/
def floodLsa (but : Option Nat) (a : Bytes) (s : State) : State :=
  forEach ((List.range 4).filter fun l => some l != but && s.latUp l) (fun l s => sendLsa l a s) s

/-! ### Carriages (R868-R874, R899-R901) -/

/-- CARRIAGE_ERR (R870). -/
def carriageErr (l kind why : Nat) (s : State) : State := logLimited 26 0x8006 l 1 1000000 (detail [(16, 1, l), (17, 1, kind), (18, 1, why)]) s
/-- FORWARD_DROP (R899). -/
def forwardDrop (l why dst : Nat) (s : State) : State := logLimited 26 0x800B l 1 1000000 (detail [(16, 1, l), (17, 1, why), (18, 2, dst)]) s
/-- Where a carriage that is not for this device goes: its link and TTL, or the reason of its drop (R899). -/
def State.forward (s : State) (dst ttl : Nat) : Except Nat (Nat × Nat) :=
  if ttl ≤ 1 then .error 0
  else match s.routeTo dst with
  | some r => .ok (r.link, ttl - 1)
  | none => .error 1
/-- The vertex is this device's, or its alias (R899). -/
def State.mine (s : State) (dst : Nat) : Bool := dst != 0 && (dst == s.lat.id || dst == s.lat.alias_)
/-- A CTRL carriage is complete. -/
def ctrlIn (l : Nat) (c : LatRx) (s : State) : State :=
  let dst := u16 c.bytes 0 % 4096; let type := u8 c.bytes 4
  if dst == 0 || s.mine dst then
    if type == 1 || type == 0x10 || type == 0x14 || type == 0x15 then modLat (fun x => { x with inbox := x.inbox ++ [(l, c.bytes, c.bufs)] }) s
    else cadRelease c.bufs (modLink l (fun x => { x with discarded := x.discarded + 1 }) s)
  else
    let s := cadRelease c.bufs s
    match s.forward dst (u8 c.bytes 5) with
    | .ok (r, ttl) => latCtrl r (overwrite c.bytes 5 (putLe 1 ttl)) s
    | .error why => forwardDrop l why dst s
/-- A DATA carriage is complete: into the switch, or on its way (R871-R874, R884, R900, R901). -/
def dataIn (l : Nat) (c : LatRx) (abort : Bool) (s : State) : State :=
  let word := u16 c.bytes 0
  let dst := word % 4096; let tc := word / 4096
  let frame := c.bytes.drop 8
  let n := frame.length
  let body := frame.take (n - 4)
  let good := !abort && decide (64 ≤ n) && u32 frame (n - 4) == (fcs body).toNat
  if s.latHeld then cadRelease c.bufs (modLink l (fun x => { x with discarded := x.discarded + 1 }) s)
  else if dst == 0 || s.mine dst then
    let (id, s) := newId s
    enterSwitch { id := id, bytes := body, inVp := if dst == 0 then 0x58 + l else 0x5C, tc := tc % 8, bufs := c.bufs } (if good then 0 else 1) false none s
  else match s.forward dst (u8 c.bytes 5) with
  | .error why => cadRelease c.bufs (forwardDrop l why dst s)
  | .ok (r, ttl) =>
    if good then
      let (id, s) := newId s
      egressAt (0x58 + r) { id := id, bytes := body, inVp := 0x58 + l, tc := tc % 8, bufs := c.bufs, vertex := dst + u16 c.bytes 2 % 4096 * 4096 + ttl * 2 ^ 24 } s
    else
      let s := cadRelease c.bufs s
      if s.latUp r then modLink r (fun x => { x with dataQ := x.dataQ ++ [(overwrite c.bytes 5 (putLe 1 ttl), true)] }) s else s
/-- Discard the open carriage. -/
def dropRx (l : Nat) (s : State) : State := modLink l (fun x => { x with rx := none }) (cadRelease (((s.link l).rx.map (·.bufs)).getD []) s)
/-- The limit of a carriage with its header (R870). -/
def carriageMax (kind : Nat) : Nat := if kind == 3 then 9480 else 4100
/-- The segment of an accepted sequenced frame joins its carriage; none when no buffer can hold it (R865, R870). -/
def latSegmentIn (l head valid : Nat) (data : Bytes) (s : State) : Option State :=
  let kind := head % 16; let sop := head.testBit 4; let eop := head.testBit 5; let abort := head.testBit 7
  let x := s.link l
  let s := if sop && x.rx.isSome then carriageErr l kind 0 (dropRx l s) else s
  let x := s.link l
  if !sop && x.rx.isNone then some (carriageErr l kind 1 s)
  else if valid = 0 || 240 < valid || (sop && valid < 8) then some (carriageErr l kind 2 (dropRx l s))
  else if valid < 240 && !eop then some (carriageErr l kind 3 (dropRx l s))
  else
    let open_ : LatRx := x.rx.getD ⟨kind, [], []⟩
    let c : LatRx := { open_ with bytes := open_.bytes ++ data.take valid }
    if carriageMax c.kind < c.bytes.length then some (carriageErr l kind 4 (dropRx l s))
    else
      let type := u8 c.bytes 4
      let known := if c.kind == 3 then type == 0 else type == 1 || inR type 0x10 0x3F
      if !known then
        let (why, s) := freeNat 256 s
        some (carriageErr l kind why (dropRx l s))
      else
        let need := if c.kind == 2 then sop else eop
        let room : Option (List Nat × State) :=
          if !need then some (c.bufs, s) else if c.kind == 2 then cadTake 0 17 255 4096 s else cadTake 3 17 255 (c.bytes.length - 8) s
        match room with
        | none => none
        | some (bufs, s) =>
          let c := { c with bufs := bufs }
          if eop then
            let s := modLink l (fun x => { x with rx := none }) s
            some (if c.kind == 2 then ctrlIn l c s else dataIn l c abort s)
          else some (modLink l (fun x => { x with rx := some c }) s)

/-! ### Receiving (R852-R866) -/

/-- Add to the window's counts. -/
def latCount (l : Nat) (f : LatWindow → LatWindow) (s : State) : State := modLink l (fun x => { x with now := f x.now }) s
/-- A bad frame (R854, R865, R879). -/
def latBad (l : Nat) (s : State) : State :=
  let s := latCount l (fun w => { w with rx := w.rx + 1, bad := w.bad + 1 }) s
  let s := modLink l (fun x => { x with bad := x.bad + 1, nak := x.nak || x.st == 5 }) s
  let x := s.link l
  if x.bad < 8 then s
  else if 5 ≤ x.st then linkDown l 0 s
  else modLink l (fun x => { x with st := if x.mode == 2 then 2 else 3, bad := 0, cand := none }) s
/-- A link reaches UP (R860, R893). -/
def latEnterUp (l peer : Nat) (s : State) : State :=
  let s := modLink l (fun x => { x with st := 5, upSerial := peer, txSeq := 0, rxSeq := 0, replay := [], nak := false, lastNak := none, resend := none
                                        expiries := 0, retrain := false, ctrlQ := [], dataQ := [], tx := none }) s
  let s := logLimited 26 0x8001 l 1 100000 (detail [(16, 1, l), (17, 1, (s.link l).peerLane), (20, 8, peer)]) s
  let s := forEach (s.lat.lsdb) (fun e s => sendLsa l e.2 s) s
  modLat (fun x => { x with lsaDue := true }) s
/-- A good HELLO (R860-R862). -/
def helloIn (l : Nat) (d : Bytes) (s : State) : State :=
  if u8 d 0 != 1 then modLink l (fun x => { x with badHello := x.badHello + 1 }) s
  else
    let x := s.link l
    let serial := u64 d 4
    let meets := u64 d 12 == s.ownSerial && u8 d 20 == l
    if x.st == 5 && serial != x.upSerial then linkDown l 2 s
    else
      let s := modLink l (fun x => { x with peerSerial := serial, peerLane := u8 d 1, peerVertex := u16 d 2 % 4096 }) s
      if serial == s.ownSerial then
        (if x.st == 4 then logEvent 26 0x8005 (detail [(16, 1, l)]) (modLink l (fun x => { x with st := 6 }) s) else s)
      else
        let s := if x.st == 6 then modLink l (fun x => { x with st := 4 }) s else s
        if (s.link l).st == 4 && meets then latEnterUp l serial s else s
/-- Acknowledgement and NAK of a good frame (R864, R866). -/
def ackIn (l ack : Nat) (nak : Bool) (s : State) : State :=
  let x := s.link l
  let n := match x.replay with
    | [] => 0
    | g :: _ => (ack + 4096 - g.fseq) % 4096
  let done := if n ≤ x.replay.length then n else 0
  let s := if done = 0 then s
    else modLink l (fun x => { x with replay := x.replay.drop done, expiries := 0
                                      resend := x.resend.bind fun i => if i - done < x.replay.length - done then some (i - done) else none }) s
  if nak && x.lastNak != some ack then
    modLink l (fun x => { x with lastNak := some ack, resend := if x.replay.isEmpty then none else some 0 }) s
  else s
/-- A frame that is not bad: bytes 4-255 of it (R855, R860-R866). -/
def latGood (l : Nat) (b : Bytes) (s : State) : State :=
  let s := latCount l (fun w => { w with rx := w.rx + 1 }) (modLink l (fun x => { x with bad := 0 }) s)
  let head := u8 b 0
  let body := scramble (u16 b 1) (slice b 4 244)
  if u32 b 248 != (crc32c (b.take 4 ++ body)).toNat then
    modLink l (fun x => { x with nak := x.nak || x.st == 5 }) (latCount l (fun w => { w with fcrc := w.fcrc + 1 }) s)
  else
    let word := u32 body 0
    let fseq := word % 4096; let ack := bitsOf word 23 12; let valid := bitsOf word 31 24
    let kind := head % 16
    let s := if (s.link l).st == 5 then ackIn l ack (head.testBit 6) s else s
    let x := s.link l
    if kind == 1 then helloIn l (body.drop 4) s
    else if kind == 0 || x.st != 5 then s
    else if fseq = x.rxSeq then
      match latSegmentIn l head valid (body.drop 4) s with
      | some s => modLink l (fun x => { x with rxSeq := (x.rxSeq + 1) % 4096, nak := false }) s
      | none => modLink l (fun x => { x with nak := true }) s
    else if inR ((x.rxSeq + 4096 - fseq) % 4096) 1 1024 then s
    else modLink l (fun x => { x with nak := true }) s
/-- Header byte 4 to HCRC are valid and KIND is known (R854, Table 24-2). -/
def latHeadOk (b : Bytes) : Bool := b.getD 3 0 == hcrc (b.take 3) && decide (u8 b 0 % 16 < 4)
/-- A frame on a lane at a bit offset (R852-R854). -/
def laneFrame (l offset : Nat) (f : Bytes) (s : State) : State :=
  let x := s.link l
  let marker := f.take 4 == latMarker
  let good := marker && latHeadOk (f.drop 4) && f.length == 256
  if x.st == 3 then
    match x.cand with
    | none => if good then modLink l (fun x => { x with cand := some (offset % 2048, 1) }) s else s
    | some (o, n) =>
      if offset % 2048 != o then s
      else if !good then modLink l (fun x => { x with cand := none }) s
      else if n = 3 then modLink l (fun x => { x with st := 4, offset := o, cand := none, bad := 0, helloDue := true }) s
      else modLink l (fun x => { x with cand := some (o, n + 1) }) s
  else if x.st < 4 || offset % 2048 != x.offset then s
  else if good then latGood l (f.drop 4) s
  else latBad l s
/-- The lattice frames of one Ethernet frame of a tunnel, in order; after a bad one the rest is discarded (R878, R879). -/
def tunnelFrames (l : Nat) : Nat → Bytes → State → State
  | 0, _, s => s
  | n + 1, b, s =>
    let f := b.take 252
    let st := (s.link l).st
    if f.length < 252 || st < 2 then s
    else if latHeadOk f then
      let s := if st == 2 || st == 3 then modLink l (fun x => { x with st := 4, bad := 0, helloDue := true }) s else s
      tunnelFrames l n (b.drop 252) (latGood l f s)
    else if st == 2 then s
    else latBad l s
/-- The tunnelled link that a frame received on port p belongs to (R878). -/
def State.tunnelLink (s : State) (p : Nat) (b : Bytes) : Option Nat :=
  let q := parse b
  (List.range 4).find? fun l =>
    let x := s.link l
    let here := x.port == 0x48 + p || (inR x.port 0x50 0x53 && s.aggOf p == some (x.port - 0x50))
    let tags := q.tags.isEmpty || (x.tagged && q.tags.length == 1 && ((q.tags.head?.map (·.2)).getD 0) % 4096 == beAt x.block 14 2 % 4096)
    x.mode == 2 && here && tags && q.ether == beAt x.block 12 2 && slice b 6 6 == slice x.block 16 6
/-- Take a tunnel frame without its FCS (R878). -/
def tunnelIn (l : Nat) (b : Bytes) (s : State) : State :=
  let d := b.drop (parse b).l3
  if u8 d 0 = 1 then tunnelFrames l (u8 d 1) (d.drop 4) s else s

/-- The source of a handover relays the frames of its ports (R921). -/
def State.relaying (s : State) : Bool := s.lat.ho.source && inR s.lat.ho.phase 2 4
/-- A frame from an Ethernet port goes on after its checks at the MAC: LAT takes those of a tunnel before the lookup (R878), the source of a
handover relays the good ones to the target (R921), and the others enter the switch. -/
def portEnter (f : Frame) (verdict : Nat) (judged : Bool) (sec : Option (Nat × Nat)) (s : State) : State :=
  match f.arrival with
  | none => enterSwitch f verdict judged sec s
  | some (p, _) =>
    match if verdict = 0 then s.tunnelLink p f.bytes else none with
    | some l =>
      let s := ifSome sec (fun x s => macsecSeen x.1 x.2 f.bytes.length s) s
      tunnelIn l f.bytes (cadRelease f.bufs s)
    | none =>
      if !s.relaying then enterSwitch f verdict judged sec s
      else match s.routeTo s.lat.ho.peer with
        | some r => if verdict = 0 then egressAt (0x58 + r.link) { f with vertex := s.lat.ho.peer } s else dropFrame none f s
        | none => dropFrame none f s

end Sys2Proof.Machine
end

