-- ==== Sys2Proof/Machine/LatRoutes.lean ====
section
/-!
DEFINITION. Sys2Proof/Machine/LatRoutes.lean: vertex claims, the link-state database, routes and the stack's leader (ch 25).
-/
namespace Sys2Proof.Machine
open Sys2Proof

/-- SERIAL of an LSA (Table 25-2). -/
def lsaSerial (a : Bytes) : Nat := u64 a 0
/-- VERTEX of an LSA. -/
def lsaVertex (a : Bytes) : Nat := u16 a 8 % 4096
/-- Vertex state of an LSA. -/
def lsaState (a : Bytes) : Nat := bitsOf (u16 a 8) 13 12
/-- ALIAS of an LSA. -/
def lsaAlias (a : Bytes) : Nat := u16 a 10 % 4096
/-- Adjacencies of an LSA: neighbour serial, local link, neighbour link, cost. -/
def lsaAdj (a : Bytes) : List (Nat × Nat × Nat × Nat) :=
  (List.range (min 4 (u8 a 19))).map fun i => let o := 24 + 12 * i; (u64 a o, u8 a (o + 8), u8 a (o + 9), u16 a (o + 10))
/-- LSAs of the other devices. -/
def State.others (s : State) : List Bytes := (s.lat.lsdb.filter fun e => e.1 != s.ownSerial).map (·.2)

/-! ### Own LSA (R892, R894) -/

/-- Build the own LSA (Table 25-2, R898, R923). -/
def State.ownLsa (s : State) : Bytes :=
  let x := s.lat
  let adj := ((List.range 4).filter s.latUp).map fun l =>
    let k := s.link l
    putLe 8 k.upSerial ++ putLe 1 l ++ putLe 1 k.peerLane ++ putLe 2 (min 65535 (k.cost + (if k.degraded then 100 else 0)))
  (s.serial ++ putLe 2 (x.id + x.vst * 4096) ++ putLe 2 x.alias_ ++ putLe 4 x.seq ++ putLe 1 x.stackId ++ putLe 1 x.role ++ putLe 1 (u8 x.stack 2)
    ++ putLe 1 adj.length ++ putLe 4 x.stackHash ++ adj.flatten ++ zeros 48).take 72
/-- An own LSA is to be originated. -/
def lsaDue (s : State) : State := modLat (fun x => { x with lsaDue := true }) s
/-- Originate, at most once in 100 ms (R892). -/
def originate (s : State) : State :=
  if s.lat.lsaAt.any fun t => decide (s.us < t + 100000) then lsaDue s
  else
    let s := modLat (fun x => { x with seq := (x.seq + 1) % 2 ^ 32, lsaDue := false, lsaAt := some s.us }) s
    let a := s.ownLsa
    floodLsa none a (modLat (fun x => { x with lsdb := tins s.ownSerial a x.lsdb }) s)

/-! ### Vertex claims (R887-R890) -/

/-- The ID is claimed or held by another serial. -/
def State.idTaken (s : State) (v : Nat) : Bool := s.others.any fun a => lsaState a != 0 && lsaVertex a == v
/-- The next candidate of AUTO mode that nobody else claims (R888): at most 4,095 steps. -/
def autoFrom (s : State) : Nat → Nat → Nat
  | 0, v => v
  | n + 1, v => if s.idTaken v then autoFrom s n (if v = 4095 then 1 else v + 1) else v
/-- The first candidate of AUTO mode (R888). -/
def State.autoFirst (s : State) : Nat := 1 + (crc32c s.serial).toNat % 4095
/-- Claim an ID (R889). -/
def claim (v : Nat) (s : State) : State := lsaDue (modLat (fun x => { x with id := v, vst := if v = 0 then 0 else 1 }) s)
/-- Begin a claim by the mode (R887, R888). -/
def startClaim (s : State) : State :=
  match s.lat.mode with
  | 1 => claim s.lat.fixed s
  | 2 => claim (autoFrom s 4095 s.autoFirst) s
  | _ => claim 0 s
/-- VERTEX_CONFLICT. -/
def conflictRecord (id kind winner : Nat) (s : State) : State := logEvent 26 0x8007 (detail [(16, 2, id), (18, 1, kind), (20, 8, winner)]) s
/-- The LSA of another device beats this device's claim to its ID (R890). -/
def State.beaten (s : State) (a : Bytes) : Bool :=
  s.lat.id != 0 && lsaState a != 0 && lsaVertex a == s.lat.id && (if lsaState a != s.lat.vst then decide (s.lat.vst < lsaState a) else decide (lsaSerial a < s.ownSerial))
/-- The LSA of another device beats this device's alias. The source of a handover gives its ID up in the step of SWITCH (R923), so what
its LSA said before is no claim. -/
def State.aliasBeaten (s : State) (a : Bytes) : Bool :=
  let source := s.lat.ho.phase == 3 && !s.lat.ho.source && lsaSerial a == (s.link s.lat.ho.link).upSerial
  s.lat.alias_ != 0 && !source && ((lsaState a != 0 && lsaVertex a == s.lat.alias_) || (lsaAlias a == s.lat.alias_ && decide (lsaSerial a < s.ownSerial)))
/-- Settle the conflicts that the database shows (R890). -/
def settleClaims (s : State) : State :=
  let s := match s.others.find? s.aliasBeaten with
    | some a => lsaDue (conflictRecord s.lat.alias_ 1 (lsaSerial a) (modLat (fun x => { x with alias_ := 0 }) s))
    | none => s
  match s.others.find? s.beaten with
  | none => s
  | some a =>
    if s.lat.mode = 2 then claim (autoFrom s 4095 (if s.lat.id = 4095 then 1 else s.lat.id + 1)) s
    else conflictRecord s.lat.id 0 (lsaSerial a) (claim 0 s)

/-! ### Routes (R896, R897) -/

/-- What a search knows of a device: its serial, cost, hops, first link. -/
abbrev Reach := Nat × Nat × Nat × Nat
/-- A path is better than another: cost, hops, first link (R897). -/
def betterPath (a b : Nat × Nat × Nat) : Bool :=
  decide (a.1 < b.1) || (a.1 == b.1 && (decide (a.2.1 < b.2.1) || (a.2.1 == b.2.1 && decide (a.2.2 < b.2.2))))
/-- Adjacencies of a device that both LSAs list (R896). -/
def State.edges (s : State) (u : Nat) : List (Nat × Nat × Nat × Nat) :=
  match s.lat.lsdb.lookup u with
  | none => []
  | some a => (lsaAdj a).filter fun e => match s.lat.lsdb.lookup e.1 with
    | some b => (lsaAdj b).any fun g => g.1 == u && g.2.1 == e.2.2.1 && g.2.2.1 == e.2.1
    | none => false
/-- Take a path into the list when it is the best to its device. -/
def addReach (l : List Reach) (r : Reach) : List Reach :=
  match l.lookup r.1 with
  | none => l ++ [r]
  | some old => if betterPath r.2 old then l.map fun x => if x.1 == r.1 then r else x else l
/-- One round of the search: every path found goes one hop further. -/
def reachRound (s : State) (l : List Reach) : List Reach :=
  l.foldl (fun acc u => (s.edges u.1).foldl (fun acc e =>
    if e.1 == s.ownSerial then acc
    else addReach acc (e.1, u.2.1 + e.2.2.2, u.2.2.1 + 1, if u.1 == s.ownSerial then e.2.1 else u.2.2.2)) acc) l
/-- Best paths to every device. -/
def State.reach (s : State) : List Reach := (List.range s.lat.lsdb.length).foldl (fun l _ => reachRound s l) [(s.ownSerial, 0, 0, 0)]
/-- Take a route into the list when it is the best to its ID. -/
def addRoute (l : List LatRoute) (r : LatRoute) : List LatRoute :=
  match l.find? fun x => x.id == r.id with
  | none => l ++ [r]
  | some o => if betterPath (r.cost, r.hops, r.link) (o.cost, o.hops, o.link) then l.map fun x => if x.id == r.id then r else x else l
/-- The routes that the database gives (R897). -/
def State.computeRoutes (s : State) : List LatRoute :=
  s.reach.foldl (fun l r =>
    if r.1 == s.ownSerial then l
    else match s.lat.lsdb.lookup r.1 with
    | none => l
    | some a =>
      if lsaState a != 2 then l
      else
        let put (v : Nat) (l : List LatRoute) : List LatRoute := if v = 0 then l else addRoute l ⟨v, r.2.2.2, r.2.1, r.2.2.1, r.1⟩
        put (lsaAlias a) (put (lsaVertex a) l)) []

/-! ### Leader (R907-R911) -/

/-- PRIORITY of a member. -/
def State.memberPrio (s : State) (serial : Nat) : Nat :=
  if serial == s.ownSerial then u8 s.lat.stack 2 else ((s.lat.lsdb.lookup serial).map fun a => u8 a 18).getD 0
/-- A member shows ROLE = leader. -/
def State.showsLeader (s : State) (serial : Nat) : Bool :=
  if serial == s.ownSerial then s.lat.role == 2 else (s.lat.lsdb.lookup serial).any fun a => u8 a 17 == 2
/-- The preferred of some members: highest PRIORITY, then lowest serial. -/
def State.preferred (s : State) (l : List Nat) : Option Nat :=
  l.foldl (fun best m => match best with
    | none => some m
    | some b => if s.memberPrio b < s.memberPrio m || (s.memberPrio b == s.memberPrio m && decide (m < b)) then some m else best) none
/-- This device's partition (R908). -/
def State.computePartition (s : State) : List Nat :=
  if s.lat.stack.isEmpty then []
  else s.ownSerial :: (s.lat.members.filter fun m => m != s.ownSerial && s.isMember m && s.lat.routes.any fun r => r.serial == m)
/-- The partition has quorum (R908). -/
def State.quorum (s : State) : Bool :=
  let n := 2 * s.lat.partition.length; let count := s.lat.members.length
  !s.lat.stack.isEmpty && (decide (count < n) || (n == count && (s.lat.members.min?).any fun m => s.lat.partition.contains m))
/-- Vertex of a serial, 0 for none. -/
def State.vertexOf (s : State) (serial : Nat) : Nat := if serial == s.ownSerial then s.lat.id else ((s.lat.lsdb.lookup serial).map lsaVertex).getD 0
/-- Determine the leader (R909, R910). -/
def elect (s : State) : State :=
  let s := modLat (fun x => { x with partition := s.computePartition }) s
  let new := if !s.quorum then none
    else
      let now := s.lat.partition.filter s.showsLeader
      s.preferred (if now.isEmpty then s.lat.partition else now)
  let role := if s.lat.stack.isEmpty then 0 else if new == some s.ownSerial then 2 else 1
  let s := if role = s.lat.role then s else lsaDue (modLat (fun x => { x with role := role }) s)
  if new == s.lat.leader then s
  else logEvent 26 0x8009 (detail [(16, 2, (new.map s.vertexOf).getD 0), (18, 1, s.lat.stackId)]) (modLat (fun x => { x with leader := new }) s)
/-- Recompute routes and leader (R897, R909). -/
def recompute (s : State) : State := elect (modLat (fun x => { x with routes := s.computeRoutes }) s)

/-! ### Receiving an LSA (R893-R895, R907) -/

/-- A SEQ is newer than another, modulo 2^32. -/
def seqNewer (a b : Nat) : Bool := a != b && decide ((a + 2 ^ 32 - b) % 2 ^ 32 < 2 ^ 31)
/-- Take a received LSA. -/
def lsaIn (l : Nat) (a : Bytes) (s : State) : State :=
  if a.length != 72 then s
  else
    let serial := lsaSerial a; let seq := u32 a 12
    if serial == s.ownSerial then
      if seq == s.lat.seq || seqNewer seq s.lat.seq then originate (modLat (fun x => { x with seq := seq }) s) else s
    else
      let old := s.lat.lsdb.lookup serial
      if !(old.all fun o => seqNewer seq (u32 o 12)) then s
      else if old.isNone && 4095 ≤ s.lat.lsdb.length then logLimited 26 0x800D 0 1 60000000 (detail [(20, 8, serial)]) s
      else
        let s := floodLsa (some l) a (modLat (fun x => { x with lsdb := tins serial a x.lsdb }) s)
        let s := if !s.lat.stack.isEmpty && u8 a 16 == s.lat.stackId && u32 a 20 != s.lat.stackHash then
            logLimited 26 0x800A serial 1 60000000 (detail [(16, 1, s.lat.stackId), (20, 8, serial)]) s
          else s
        settleClaims s
/-- BOOT_DONE without ROM service: links may train and the vertex claim begins (R857, R887). -/
def latBoot (s : State) : State := startClaim (latStart s)

end Sys2Proof.Machine
end

