-- ==== Sys2Proof/Machine/Crypto.lean ====
section
/-!
DEFINITION. Sys2Proof/Machine/Crypto.lean: AES engine items, XTS entries, the DRBG, and the key and crypto opcodes (ch 13).
-/
namespace Sys2Proof.Machine
open Sys2Proof

/-! ### XTS entries (R496-R500) -/

/-- A job of an XTS entry: source segment, destination segment, lengths, destination address (Table 13-5). -/
structure XtsJob where
  /-- Source segment. -/
  src : Nat
  /-- Destination segment, the source's in a command entry. -/
  dst : Nat
  /-- Source LEN. -/
  len : Nat
  /-- Destination LEN. -/
  dstLen : Nat
  /-- Destination address. -/
  addr : Nat
  /-- First DUN. -/
  dun : Nat
  deriving DecidableEq, Repr

/-- DU_LOG2 of an entry. -/
def xtsDu (e : Bytes) : Nat := u8 (entParams e) (if entBundle e then 8 else 16)
/-- First DUN of an entry. -/
def xtsDun (e : Bytes) : Nat := u64 (entParams e) (if entBundle e then 0 else 8)
/-- The jobs from segment 2k on. -/
def xtsPairs (e : Bytes) : Nat → Nat → Nat → List XtsJob
  | 0, _, _ => []
  | n + 1, k, dun =>
    let len := entLen e (2 * k)
    ⟨2 * k, 2 * k + 1, len, entLen e (2 * k + 1), entAddr e (2 * k + 1), dun⟩ :: xtsPairs e n (k + 1) (dun + ceilDiv len (2 ^ xtsDu e))
/-- The jobs of an entry in order (R499). -/
def xtsJobs (e : Bytes) : List XtsJob :=
  if entBundle e then xtsPairs e (entSegs e / 2) 0 (xtsDun e)
  else
    let inPlace := (u8 (entParams e) 17).testBit 0
    [⟨0, 0, entLen e 0, entLen e 0, if inPlace then entAddr e 0 else u64 (entParams e) 0, xtsDun e⟩]
/-- A job that both of its segments fail, or a segment out of range (R497, R499). -/
def XtsJob.bad (j : XtsJob) (du : Nat) : Bool := j.len != j.dstLen || inR (j.len % 2 ^ du) 1 15 || !inR j.len 16 16777216

/-- An XTS entry that has passed its checks: FETCH buffers, its reads, and a place at point 0x04. -/
def xtsRun (g seq : Nat) (s : State) : State :=
  match s.ring g, s.workOf g seq with
  | some r, some w =>
    let e := w.entry
    let du := xtsDu e
    if !inR du 9 24 then malformed g seq s
    else
      let jobs := xtsJobs e
      let good := jobs.filter fun j => !j.bad du
      match fetchBuffers g seq (good.map (·.len)) s with
      | (false, s) => s
      | (true, s) =>
        let s := readSegs g seq (good.map (·.src)) s
        let mask := ((jobs.filter fun j => j.bad du).map fun j => [j.src, j.dst]).flatten.eraseDups
        let s := modWork g seq (fun w => { w with mask := maskOf mask, status := if mask.isEmpty then 0 else stBadParam }) s
        enqueueAt 0x104 (s.ownerOf r.fn) 0 ((good.map (·.len)).foldl (· + ·) 0) false (.entry g seq) s
  | _, _ => s

/-- Write one job's output: which segment failed, if any, and the bytes written. -/
def xtsWrite (enc : Bool) (key : Bytes) (du fn : Nat) (data : List (Option Bytes)) (j : XtsJob) (s : State) : Option Nat × State :=
  match data.getD j.src none with
  | none => (some j.src, s)
  | some b =>
    let (put, s) := dmaPut fn j.addr (xts enc key du j.dun b) s
    (if put then none else some j.dst, s)
/-- The engine finishes an XTS entry (R500): outputs written, AUX the DUN after the last unit processed. -/
def xtsFinish (g seq : Nat) (s : State) : State :=
  match s.ring g, s.workOf g seq with
  | some r, some w =>
    let e := w.entry
    let du := xtsDu e
    let key := ((s.slotOf r.fn (entKey e)).map s.slotKey).getD []
    let good := (xtsJobs e).filter fun j => !j.bad du
    let (fails, len, dun, s) := good.foldl (fun (a : List Nat × Nat × Nat × State) j =>
      match xtsWrite (entKind e == 0x30) key du r.fn w.data j a.2.2.2 with
      | (none, s) => (a.1, a.2.1 + j.len, j.dun + ceilDiv j.len (2 ^ du), s)
      | (some i, s) => (a.1 ++ [i], a.2.1, a.2.2.1, s)) ([], 0, xtsDun e, s)
    let mask := w.mask ||| maskOf fails
    let low := ((List.range 8).find? fun i => mask.testBit i).getD 8
    let st := if mask = 0 then stOk else if w.mask.testBit low then stBadParam else stFault
    finishEntry g seq { user := entUser e, length := len, status := st, kind := entKind e, segMask := mask, aux := dun } s
  | _, _ => s

/-- An XTS_ENC entry arrives (R497, R498). -/
def execEntryXtsEnc (g : Nat) (entry : Bytes) (data : List (Option Bytes)) (s : State) : Out := .next (arrive g 0x30 entry data (xtsRun g) s)
/-- An XTS_DEC entry arrives (R497, R498). -/
def execEntryXtsDec (g : Nat) (entry : Bytes) (data : List (Option Bytes)) (s : State) : Out := .next (arrive g 0x31 entry data (xtsRun g) s)

/-! ### Items of the AES engines -/

/-- An item's SA, or the ring of its entry: what fixes its order (R460). -/
def orderKey (j : Job) : Nat × Nat :=
  match j with
  | .crypt _ _ sa _ => (1, sa)
  | .openIn _ y => (1, y)
  | .entry g _ => (2, g)
  | _ => (0, 0)
/-- An item still in the pool uses SA i. -/
def State.saBusy (s : State) (i : Nat) : Bool :=
  ((s.point 0x104).queue ++ (s.point 0x104).serving).any fun q => orderKey q.job == (1, i)
/-- Deletions that waited for the pool are made (R506); the reply carries the final counts. -/
def finishSaDel (s : State) : State :=
  forEach ((s.cry.sas.filter fun x => x.2.going && !s.saBusy x.1).map (·.1)) (fun i s =>
    match s.saAny i with
    | none => s
    | some x => finishWaits (· == .saDel i) stOk (fun _ => putLe 8 x.items ++ putLe 8 x.bytes ++ putLe 8 x.authFails ++ putLe 8 x.replays) (removeSa i s)) s

/-- An item enters an AES engine; a frame whose SA gives it no number is dropped (R462, R486). -/
def enterAes (i : QItem) (s : State) : State :=
  match s.leastUnit 0x104 with
  | none => s
  | some u =>
    match i.job with
    | .crypt f enc sa x =>
      match cryptEnter sa s with
      | (some (sa, n), s) => intoUnit 0x104 u { i with num := n, job := .crypt f enc sa x } s
      | (none, s) => finishSaDel (dropFrame none f s)
    | _ => intoUnit 0x104 u i s
/-- CRYPTO_ITEM_DONE (R460, R483, R487): an item leaves its engine behind every earlier one of its SA or ring. -/
def execCryptoItemDone (id : Nat) (s : State) : Out :=
  match s.inUnit 0x104 id with
  | none => .next s
  | some i =>
    let earlier := (s.point 0x104).serving.takeWhile fun j => j.id != id
    if earlier.any fun j => orderKey j.job == orderKey i.job then .next s
    else match i.job with
    | .crypt f _ sa x =>
      let s := outOfUnit 0x104 i s
      match cryptLeave sa i.num f.bytes s with
      | (some b, s) => .next (finishSaDel (finishAction x { f with bytes := b } s))
      | (none, s) => .next (finishSaDel (dropFrame none f s))
    | .openIn f y =>
      let s := outOfUnit 0x104 i s
      match macsecTake y f.bytes s with
      | (none, s) => .next (finishSaDel (dropFrame none f s))
      | (some b, s) =>
        let q := parse b
        if q.ver != 0 && (decide (b.length + 4 < q.total + 4) || decide (max 64 (q.total + 4) < b.length + 4)) then .next (finishSaDel (dropFrame none f s))
        else .next (finishSaDel (portEnter { f with bytes := b, tc := s.classIn f.inVp b } 0 true none s))
    | .entry g seq =>
      match s.ring g, s.workOf g seq with
      | some r, some _ =>
        match cadTake 1 (s.ownerOf r.fn) r.fn (max 1 i.cost) s with
        | none => .next (waitOutput 0x104 id (s.ownerOf r.fn) r.fn i.cost 12 s)
        | some (hs, s) =>
          let s := modWork g seq (fun w => { w with bufs := w.bufs ++ hs }) s
          .next (xtsFinish g seq (outOfUnit 0x104 i s))
      | _, _ => .next (outOfUnit 0x104 i s)
    | _ => .next (outOfUnit 0x104 i s)

/-! ### DRBG (R501, R502) -/

/-- DRBG_RESEED. -/
def execDrbgReseed (s : State) : Out :=
  .next (if s.cry.drbg.st == 1 && s.isOn 64 then
      modCry (fun c => { c with drbg := { c.drbg with requests := 0, reseeds := c.drbg.reseeds + 1, at_ := s.aon.rtcSec } }) s
    else s)
/-- DRBG_HEALTH_FAILURE: cause 1 repetition count, 2 adaptive proportion, 3 start-up. -/
def execDrbgHealthFailure (cause : Nat) (s : State) : Out :=
  if !(inR cause 1 3 && s.isOn 64) then .next s
  else
    let fresh := s.cry.drbg.st != 2
    let s := modCry (fun c => { c with drbg := { c.drbg with st := 2, cause := if fresh then cause else c.drbg.cause, rct := c.drbg.rct + b2n (cause == 1), apt := c.drbg.apt + b2n (cause == 2) } }) s
    .next (whenS fresh (logEvent 13 0x8005 (detail [(16, 1, cause)])) s)
/-- DRBG_STATUS (Table 13-7). -/
def execDrbgStatus (s : State) : Out :=
  interpret 0x0606 (fun p => checked p 0 [] fun s =>
    let d := s.cry.drbg
    complete p stOk (layout 32 [(0, 1, d.st), (1, 1, d.cause), (4, 4, d.requests), (8, 4, d.reseeds), (12, 4, d.at_.toNat), (16, 4, d.rct), (20, 4, d.apt)]) s) s

/-! ### Keys (R464-R477) -/

/-- Bytes of a key type. -/
def keyBytes (type : Nat) : Nat := if type == 1 || type == 4 then 32 else 64
/-- A record of KEY about a slot. -/
def keyRecord (code owner type slot : Nat) (s : State) : State :=
  logEvent 13 code (detail [(16, 1, owner), (17, 1, type), (18, 2, slot), (20, 4, (tget 0 s.cry.gens slot).toNat)]) s
/-- SLOT_GEN of a slot advances (R468). -/
def bumpSlot (d : Nat) (s : State) : State := modCry (fun c => { c with gens := tmod 0 c.gens d (· + 1) }) s
/-- The key of a blob under the root KEK or an owner's KEK, or ERR_INFO of R474 (log 43). -/
def unwrapBlob (s : State) (owner : Nat) (root : Bool) (blob : Bytes) : Except Nat Bytes :=
  let type := u8 blob 0
  let typeOk := if root then type == 4 && u8 blob 1 == 0xFF else inR type 1 3 && u8 blob 1 == owner
  let gen := u16 blob 2
  let ks := s.keksOf owner
  let kek := if root then s.rootKek gen else ((ks.cur.toList ++ ks.prev.toList).find? fun k => k.gen == gen).map (·.key)
  if !typeOk then .error 4
  else match kek with
  | none => .error 3
  | some k => match Config.kwUnwrap k (blob.drop 8) with
    | none => .error 1
    | some plain => if plain.take 8 != blob.take 8 || plain.length != 8 + keyBytes type then .error 2 else .ok (plain.drop 8)
/-- A key as a blob under a KEK (Table 13-2). -/
def wrapBlob (type owner : Nat) (k : Kek) (key : Bytes) : Bytes :=
  let head := putLe 1 type ++ putLe 1 owner ++ putLe 2 k.gen ++ zeros 4
  let n := key.length + 16
  head ++ (Config.kwWrap k.key (head ++ key) ++ zeros n).take n
/-- UNWRAP_FAIL and the reply of R474. -/
def unwrapFail (p : Packet) (owner info : Nat) (blob : Bytes) (s : State) : State :=
  fail p stBadParam 8 info (logEvent 13 0x8004 (detail [(16, 1, owner), (17, 1, info), (18, 2, u16 blob 2)]) s)
/-- The two halves of an XTS key are equal (R477). -/
def halvesEqual (k : Bytes) : Bool := k.take 32 == k.drop 32
/-- A generated key; the halves of an XTS key differ (R475). -/
def drawKey (type : Nat) (s : State) : Bytes × State :=
  let (k, s) := drbgBytes (keyBytes type) s
  (if type == 2 && halvesEqual k then k.take 63 ++ [k.getD 63 0 ^^^ 1] else k, s)

/-- Why a load into an index may not go on: BAD_PARAM, BUSY or NO_RESOURCE (R465-R467), or the device slot that it takes. -/
def loadSlot (s : State) (owner index : Nat) : Except (Nat × Nat × Nat) Nat :=
  if owner < 16 then
    let x := s.tenant owner
    if x.keyMax ≤ index then .error (stBadParam, 2, 0)
    else if (x.keys.lookup index).isSome then .error (stBusy, 0xFFFF, 0)
    else match (List.range 4096).find? fun d => !s.slotFull d with
      | some d => .ok d
      | none => .error (stNoResource, 0xFFFF, 0)
  else if 4096 ≤ index then .error (stBadParam, 2, 0)
  else if s.slotFull index then .error (stBusy, 0xFFFF, 0)
  else
    let owed := (List.range 16).foldl (fun n t => n + ((s.tenant t).keyMax - (s.tenant t).keys.length)) 0
    if 4096 - s.cry.slots.length < owed + 1 then .error (stNoResource, 0xFFFF, 2) else .ok index
/-- Put a key into a device slot; a tenant's key-slot map and CHG_GEN follow (R465, R469). -/
def putKey (d owner index type : Nat) (key : Bytes) (s : State) : State :=
  let s := bumpSlot d (modCry (fun c => { c with slots := tins d ⟨owner, index, type, key⟩ c.slots }) s)
  let s := if owner < 16 then charter owner (fun x => { x with keys := tins index d x.keys }) s else s
  keyRecord 0x8001 owner type d s

/-- KEY_LOAD (R465-R477). -/
def execKeyLoad (s : State) : Out :=
  interpret 0x0601 (fun p s =>
    let b := p.params
    let act := u8 b 0; let owner := u8 b 1; let index := u16 b 2; let blob := b.drop 8
    let n := b.length
    let lenBad := if act == 2 then n != 8 else n != 64 && n != 96
    if !(n == 8 || n == 64 || n == 96) then fail p stBadLength 0xFFFF 0 s
    else if !inR act 1 3 then badParam p 0 s
    else if lenBad then fail p stBadLength 0xFFFF 0 s
    else if 16 < owner || (act != 3 && decide (owner < 16) && (s.tenant owner).state == 3) then badParam p 1 s
    else if act == 2 && !inR (u8 b 4) 1 3 then badParam p 4 s
    else if act == 3 then
      match unwrapBlob s owner false blob, (s.keksOf owner).cur with
      | .error i, _ => unwrapFail p owner i blob s
      | .ok _, none => fail p stNoResource 0xFFFF 3 s
      | .ok key, some k => complete p stOk (wrapBlob (u8 blob 0) owner k key) s
    else match loadSlot s owner index with
    | .error (st, off, info) => fail p st off info s
    | .ok d =>
      let head (s : State) : Bytes := putLe 2 d ++ zeros 2 ++ putLe 4 (tget 0 s.cry.gens d).toNat
      if act == 1 then
        match unwrapBlob s owner false blob with
        | .error i => unwrapFail p owner i blob s
        | .ok key =>
          if u8 blob 0 == 2 && halvesEqual key then fail p stBadParam 8 5 s
          else let s := putKey d owner index (u8 blob 0) key s; complete p stOk (head s) s
      else if s.domLost 64 then fail p stFenced 0xFFFF 0 s
      else match (s.keksOf owner).cur with
      | none => fail p stNoResource 0xFFFF 3 s
      | some k =>
        if s.cry.drbg.st != 1 then fail p stFault 0xFFFF 0 s
        else
          let (key, s) := drawKey (u8 b 4) s
          let s := putKey d owner index (u8 b 4) key s
          complete p stOk (head s ++ wrapBlob (u8 b 4) owner k key) s) s

/-- Admitted work of an owner that names a slot completes with CHARTER_CHANGED (R253). -/
def failKeyWork (fns : List Nat) (index : Nat) (s : State) : State :=
  forEach (s.rings.filter fun x => fns.contains x.2.fn) (fun x s =>
    forEach ((x.2.work.filter fun w => inR (entKind w.entry) 0x10 0x3F && entKey w.entry == index).map (·.seq)) (fun q s =>
      failEntry x.1 q stCharter { s with net := { s.net with points := tmodAll {} s.net.points (s.net.points.map (·.1)) fun _ y =>
        { y with queue := y.queue.filter (fun i => i.job != .entry x.1 q), serving := y.serving.filter (fun i => i.job != .entry x.1 q) } } }) s) s
/-- Erase one slot (R468, R469). -/
def eraseSlot (d : Nat) (k : KeySlot) (s : State) : State :=
  let s := bumpSlot d (modCry (fun c => { c with slots := c.slots.filter fun x => x.1 != d }) s)
  let s := if k.owner < 16 then charter k.owner (fun x => { x with keys := x.keys.filter fun y => y.1 != k.index }) s else s
  let s := failKeyWork (if k.owner < 16 then s.tenantVfs k.owner else [pf0]) k.index s
  let s := endCommands k.owner (fun n => (s.sto.spaces.lookup n).any fun b => u8 b 1 == k.owner && (u8 b 10).testBit 1 && u16 b 32 == k.index) s
  keyRecord 0x8002 k.owner k.type d s
/-- KEY_ERASE (R469, R507). -/
def execKeyErase (s : State) : Out :=
  interpret 0x0602 (fun p s =>
    let b := p.params
    let owner := u8 b 0; let index := u16 b 2
    checked p 4 [(0, decide (owner ≤ 16)), (1, inR (u8 b 1) 1 2),
        (2, u8 b 1 == 2 || (if owner < 16 then decide (index < (s.tenant owner).keyMax) else decide (index < 4096)))] (fun s =>
      let sel := s.cry.slots.filter fun x => x.2.owner == owner && (u8 b 1 == 2 || x.2.index == index)
      match s.cry.sas.find? fun x => x.2.kind != 1 && sel.any fun y => y.1 == x.2.slot with
      | some (i, _) => fail p stBusy 0xFFFF i s
      | none =>
        if sel.isEmpty && u8 b 1 == 1 then complete p stNote [] s
        else ok p (forEach sel (fun x s => eraseSlot x.1 x.2 s) s)) s) s

/-- KEY_KEK_SET (R471-R474). -/
def execKeyKekSet (s : State) : Out :=
  interpret 0x0603 (fun p s =>
    let b := p.params
    let owner := u8 b 0; let act := u8 b 1; let gen := u16 b 2; let blob := b.drop 8
    let note (g : Nat) (s : State) : State := logEvent 13 0x8003 (detail [(16, 1, owner), (17, 1, act), (18, 2, g)]) s
    if !(b.length == 8 || b.length == 64) then fail p stBadLength 0xFFFF 0 s
    else if 16 < owner then badParam p 0 s
    else if !inR act 1 3 then badParam p 1 s
    else if b.length != (if act == 1 then 64 else 8) then fail p stBadLength 0xFFFF 0 s
    else
      let ks := s.keksOf owner
      let now := (ks.cur.map (·.gen)).getD 0
      if act == 1 then
        if now == 65535 then fail p stNoResource 0xFFFF 0 s
        else if (ks.cur.isSome && gen != now + 1) || gen == 0 then badParam p 2 s
        else match unwrapBlob s owner true blob with
        | .error i => unwrapFail p owner i blob s
        | .ok key => ok p (note gen (setKeks owner ⟨some ⟨gen, key⟩, ks.cur⟩ s))
      else ok p (note now (setKeks owner (if act == 2 then { ks with prev := none } else {}) s))) s

/-! ### Security associations (R505, R506) -/

/-- Fields of CRY_SA_ADD by kind (Table 13-6). -/
def saFields (s : State) (b : Bytes) : List (Nat × Bool) :=
  let kind := u8 b 2
  let limit := if ((s.saAny (u16 b 6)).map (·.xpn)).getD false then 2 ^ 64 - 1 else 2 ^ 32 - 1
  [(0, decide (u16 b 0 < 16384)), (2, [1, 2, 3, 0x10, 0x11, 0x20, 0x21].contains kind)] ++
    (match kind with
    | 1 => [(4, u16 b 4 == 0xFFFF), (6, u16 b 6 == 0), (8, u8 b 8 == 0xFF || (inR (u8 b 8) 0x48 0x53 && (0x50 ≤ u8 b 8 || (s.aggOf (u8 b 8 - 0x48)).isNone))),
            (9, decide (u8 b 9 ≤ 1)), (10, inR (u8 b 10) 1 2), (20, decide (u32 b 20 ≤ 2 ^ 30))]
    | 2 | 3 => [(8, decide (u8 b 8 ≤ 3)), (20, inR (u64 b 20) 1 limit)]
    | 0x10 | 0x11 => [(6, u16 b 6 == 0), (16, inR (u8 b 16) 1 2), (17, u8 b 17 == 4 || u8 b 17 == 6), (18, u8 b 18 != 0), (19, decide (u8 b 19 < 64) || u8 b 19 == 0xFF),
            (52, kind == 0x10 || [0, 64, 128, 256, 512, 1024, 2048, 4096].contains (u32 b 52))]
    | _ => [(6, u16 b 6 == 0), (32, decide (u32 b 32 ≤ 2 ^ 24))])
/-- The limits of Table 13-4. -/
def saRoom (s : State) (kind secy : Nat) : Bool :=
  let n := (s.cry.sas.filter fun x => x.2.kind == kind && (!(kind == 2 || kind == 3) || x.2.secy == secy)).length
  decide (n < (match kind with | 1 | 3 => 64 | 2 => 4 | 0x10 | 0x11 => 4096 | _ => 8192))
/-- CRY_SA_ADD (R481, R486, R505). -/
def execCrySaAdd (s : State) : Out :=
  interpret 0x0604 (fun p s =>
    let b := p.params
    checked p 64 (saFields s b) (fun s =>
      let i := u16 b 0; let kind := u8 b 2; let secy := u16 b 6; let raw := b.drop 8
      let mac := kind == 2 || kind == 3
      let dup := s.cry.sas.any fun x => x.2.kind == kind &&
        ((kind == 0x11 && x.2.raw.take 4 == raw.take 4) || (kind == 3 && x.2.secy == secy && x.2.sci == slice raw 4 8 && u8 x.2.raw 0 == u8 raw 0))
      let bound := kind == 1 && u8 raw 0 != 0xFF && (s.secyAt (u8 raw 0) (u8 raw 1 == 1)).isSome
      if (s.saAny i).isSome then fail p stBusy 0xFFFF 1 s
      else if dup then fail p stBusy 0xFFFF 2 s
      else if bound then fail p stBusy 0xFFFF 3 s
      else if !saRoom s kind secy then fail p stNoResource 0xFFFF 0 s
      else if kind != 1 && ((s.cry.slots.lookup (u16 b 4)).map (·.type)) != some 1 then badParam p 4 s
      else if mac && !((s.sa secy).any fun y => y.kind == 1 && y.isTx == (kind == 2)) then badParam p 6 s
      else
        let first := if mac then u64 raw 12 else if kind == 0x20 || kind == 0x21 then u64 raw 12 else 1
        let x : Sa := { kind := kind, flags := u8 b 3, slot := u16 b 4, secy := secy, raw := raw, next := first }
        let s := modCry (fun c => { c with sas := tins i x c.sas }) s
        ok p (if kind == 2 && (u8 b 3).testBit 0 then modSa secy (fun y => { y with active := some i }) s else s)) s) s

/-- A storage connection names an SA (R506; ch 14). -/
def State.connNames (s : State) (sa : Nat) : Bool := s.sto.conns.any fun c => c.2.txSa == some sa || c.2.rxSa == some sa
/-- CRY_SA_DEL (R506). -/
def execCrySaDel (s : State) : Out :=
  interpret 0x0605 (fun p s =>
    let i := u16 p.params 0
    checked p 4 [(0, (s.sa i).isSome)] (fun s =>
      if s.cry.sas.any fun x => (x.2.kind == 2 || x.2.kind == 3) && x.2.secy == i && ((s.saAny i).map (·.kind)) == some 1 then fail p stBusy 0xFFFF 1 s
      else if s.connNames i then fail p stBusy 0xFFFF 2 s
      else finishSaDel (waitFor p (.saDel i) (modSa i (fun x => { x with going := true }) s))) s) s

end Sys2Proof.Machine
end

