-- ==== Sys2Proof/Machine/PltOps.lean ====
section
/-!
DEFINITION. Sys2Proof/Machine/PltOps.lean: the stop latch, watches and slews at a tick boundary (ch 21).
-/
namespace Sys2Proof.Machine
open Sys2Proof

/-- Change PLT's record. -/
def modPlt (f : Plt → Plt) (s : State) : State := { s with plt := f s.plt }
/-- Watch w. -/
def State.watch (s : State) (w : Nat) : Watch := tget {} s.plt.watches w
/-- Change watch w. -/
def modWatch (w : Nat) (f : Watch → Watch) (s : State) : State := modPlt (fun x => { x with watches := tmod {} x.watches w f }) s
/-- Set bits of PLT_ALERT. -/
def alertBits (m : Nat) (s : State) : State := modPlt (fun x => { x with alert := x.alert ||| m }) s
/-- The stop latch is set (R780): cause, watch or reason, buffer. -/
def setStop (cause what buf : Nat) (s : State) : State :=
  let s := alertBits 0x20000 { s with aon := { s.aon with stopLatch := true, stopCause := if s.aon.stopLatch then s.aon.stopCause else cause } }
  logEvent 22 0x8001 (detail [(16, 1, cause), (17, 1, what), (18, 2, buf)]) s
/-- Why a release is refused (R781). -/
def State.stopRefusal (s : State) : Option Nat :=
  match s.plt.watches.find? fun w => w.2.on && w.2.violating && w.2.action == 1 with
  | some w => some (w.1 + 1)
  | none => if s.can.txreq.any fun b => (tget {} s.can.bufs b : CanBuffer).stop then some 0x80 else none
/-- The latch is released (R781): 0 by command, 1 by register. -/
def releaseStop (who : Nat) (s : State) : State :=
  logEvent 22 0x8002 (detail [(16, 1, who)]) { s with aon := { s.aon with stopLatch := false } }

/-- A watch trips (R778): kind 0 limit, 1 stale. -/
def trip (w kind value : Nat) (s : State) : State :=
  let s := modWatch w (fun x => { x with violating := true, staleTrip := kind == 1 }) (alertBits (2 ^ w) s)
  let s := routePost 5 (logEvent 22 0x8003 (detail [(16, 1, w), (17, 1, kind), (20, 4, value)]) s)
  whenS ((s.watch w).action == 1) (setStop 2 w 0) s
/-- A watch is no longer violating (R778). -/
def untrip (w : Nat) (s : State) : State :=
  logEvent 22 0x8004 (detail [(16, 1, w)]) (modWatch w (fun x => { x with violating := false, staleTrip := false }) s)
/-- The value violates the watch's limits (R777). -/
def Watch.bad (x : Watch) (v : Nat) : Bool :=
  if x.capture then decide (v < x.lo) || decide (x.hi < v)
  else decide (signed 32 v < signed 32 x.lo) || decide (signed 32 x.hi < signed 32 v)
/-- A watch inspects a value (R777, R778). -/
def inspect (w v : Nat) (s : State) : State :=
  let s := whenS ((s.watch w).violating && (s.watch w).staleTrip) (untrip w) s
  let x := s.watch w
  if x.bad v then
    let n := min 65535 (x.count + 1)
    let s := modWatch w (fun x => { x with count := n }) s
    whenS (!x.violating && decide (max 1 x.persist ≤ n)) (trip w 0 v) s
  else whenS x.violating (untrip w) (modWatch w (fun x => { x with count := 0 }) s)
/-- Every watch at a boundary at which the slots of pub are published (R776-R778). -/
def watchAll (pub : List Nat) (s : State) : State :=
  if !s.isOn 23 then s
  else forEach (s.plt.watches.filter fun w => w.2.on) (fun (wx : Nat × Watch) s =>
    let w := wx.1; let x := wx.2
    if x.capture then inspect w (tget 0 s.sio.inputs (0x28 + x.word)) s
    else if pub.contains x.slot then
      inspect w (u32 (tget {} s.sio.slots x.slot : ResultWindow).body (4 * x.word)) (modWatch w (fun x => { x with since := 0 }) s)
    else
      let n := min 65535 (x.since + 1)
      let s := modWatch w (fun x => { x with since := n }) s
      whenS (x.stale != 0 && decide (x.stale ≤ n) && !x.violating) (trip w 1 0) s) s

/-- A leg at a boundary: one that is committed takes effect, one that runs has a tick less (R770, R771). -/
def Leg.step (took : Bool) (l : Leg) : Leg :=
  match l with
  | .waits => .waits
  | .committed r f => if took then .runs r f else .committed r f
  | .runs n f => .runs (n - 1) f
/-- The slews at a boundary; took says that a pour takes effect at it. A slew ends in the last tick of its final leg. -/
def slewsAt (took : Bool) (s : State) : State :=
  let next (p : Setpoint) : Setpoint := { p with slew := p.slew.bind fun w =>
    let l := w.leg.step took
    match l with
    | .runs n true => if n ≤ 1 then none else some { w with leg := l }
    | _ => some { w with leg := l } }
  modPlt (fun x => { x with points := x.points.map fun p => (p.1, next p.2) }) s

end Sys2Proof.Machine
end

