-- ==== Sys2Proof/Machine/SgeOps.lean ====
section
/-!
DEFINITION. Sys2Proof/Machine/SgeOps.lean: numbers, instructions, steeps, boundaries, pours and ramps of the signal engine (ch 16, 17).
-/
namespace Sys2Proof.Machine
open Sys2Proof

/-- Change the engine. -/
def modSge (f : Sge → Sge) (s : State) : State := { s with sge := f s.sge }
/-- Change SIO. -/
def modSio (f : Sio → Sio) (s : State) : State := { s with sio := f s.sio }

/-! ### Rates and budgets (R593) -/

/-- fs of a RATE code in Hz (Table 16-1), 0 for a reserved code. -/
def rateHz (r : Nat) : Nat := ([0, 8000, 16000, 24000, 32000, 48000, 64000, 96000, 128000, 192000] : List Nat).getD r 0
/-- Period P in cycles. -/
def periodOf (r : Nat) : Nat := 192000000 / rateHz r
/-- Window W in cycles. -/
def windowOf (r : Nat) : Nat := periodOf r / 50
/-- Budget B. -/
def budgetOf (r source : Nat) : Nat := if source = 0 then periodOf r - 32 else periodOf r - windowOf r - 32

/-! ### Numbers (R604-R606) -/

/-- Clamp to lo..hi. -/
def clampI (lo hi x : Int) : Int := max lo (min hi x)
/-- SATURATION, at most once in any 1 s (R627). -/
def satRecord (s : State) : State :=
  logLimited 16 0x8005 0 1 1000000 (detail [(16, 2, s.sge.ovf), (18, 1, b2n (s.sge.flags.testBit 1)), (20, 4, s.sge.tick.toNat)]) s
/-- acc a. -/
def State.acc (s : State) (a : Nat) : Int := tget 0 s.sge.acc a
/-- Write an accumulator with saturation (R605). -/
def setAcc (d : Nat) (v : Int) (s : State) : State :=
  let w := clampI (-(2 ^ 71)) (2 ^ 71 - 1) v
  let s := modSge (fun g => { g with acc := tput 0 g.acc d w }) s
  if w = v then s else satRecord (modSge (fun g => { g with ovf := g.ovf ||| 2 ^ d, flags := g.flags ||| 1 }) s)
/-- The Q1.31 value of an accumulator and whether it saturated (R606). -/
def conv (x : Int) : Int × Bool :=
  let y := (x + 2 ^ 29) / 2 ^ 30
  let z := clampI (-(2 ^ 31)) (2 ^ 31 - 1) y
  (z, z != y)
/-- conv of acc a: a conversion that saturates sets SAT. -/
def convAcc (a : Nat) (s : State) : Int × Bool × State :=
  let r := conv (s.acc a)
  (r.1, r.2, if r.2 then satRecord (modSge (fun g => { g with flags := g.flags ||| 2 }) s) else s)

/-! ### Coefficients (R650) -/

/-- The value of a ramp in this tick. -/
def Ramp.value (r : Ramp) : Int := if r.r ≤ r.j + 1 then r.new else r.old + ((r.new - r.old) * (r.j + 1 : Nat)).tdiv (r.r : Nat)
/-- The active bank. -/
def Sio.bank (x : Sio) : List (Nat × Nat) := if x.active1 then x.bank1 else x.bank0
/-- The shadow bank. -/
def Sio.shadow (x : Sio) : List (Nat × Nat) := if x.active1 then x.bank0 else x.bank1
/-- Change the shadow bank. -/
def Sio.modShadow (x : Sio) (f : List (Nat × Nat) → List (Nat × Nat)) : Sio := if x.active1 then { x with bank0 := f x.bank0 } else { x with bank1 := f x.bank1 }
/-- Coefficient that the engine reads (R615, R650). -/
def State.coef (s : State) (a : Nat) : Int :=
  match s.sio.ramps.find? fun r => r.addr == a with
  | some r => r.value
  | none => signed 32 (tget 0 s.sio.bank a)

/-! ### Instructions (Table 16-4, Table 16-5) -/

/-- OP. -/
def sgOp (w : Nat) : Nat := bitsOf w 63 56
/-- D. -/
def sgD (w : Nat) : Nat := bitsOf w 55 52
/-- A. -/
def sgA (w : Nat) : Nat := bitsOf w 51 48
/-- B. -/
def sgB (w : Nat) : Nat := bitsOf w 47 44
/-- MOD. -/
def sgMod (w : Nat) : Nat := bitsOf w 43 40
/-- SH. -/
def sgSh (w : Nat) : Int := signed 8 (bitsOf w 39 32)
/-- LINE. -/
def sgLine (w : Nat) : Nat := bitsOf w 39 34
/-- TAP. -/
def sgTap (w : Nat) : Nat := bitsOf w 33 17
/-- CADDR. -/
def sgCaddr (w : Nat) : Nat := bitsOf w 16 5
/-- IMM. -/
def sgImm (w : Nat) : Int := signed 32 (bitsOf w 39 8)
/-- PORT, SLOT or COUNT − 1. -/
def sgPort (w : Nat) : Nat := bitsOf w 39 32
/-- WORD. -/
def sgWord (w : Nat) : Nat := bitsOf w 31 29

/-- The word at a tap of a line (R613). -/
def State.tapWord (s : State) (line tap : Nat) : Int :=
  match s.sge.active.bind fun p => p.lines[line]? with
  | none => 0
  | some (base, n) =>
    let p := tget 0 s.sge.ptr line
    signed 32 (tget 0 s.sge.delay (base + (p + n - tap) % n))
/-- Write the word at tap 0. -/
def writeLine (line : Nat) (v : Int) (s : State) : State :=
  match s.sge.active.bind fun p => p.lines[line]? with
  | none => s
  | some (base, _) => modSge (fun g => { g with delay := tput 0 g.delay (base + tget 0 g.ptr line) (unsigned 32 v) }) s
/-- A shift by a signed count; right shifts are arithmetic. -/
def ash (x : Int) (sh : Int) : Int := if 0 ≤ sh then x * 2 ^ sh.toNat else x / 2 ^ (-sh).toNat
/-- The condition of CSEL. -/
def cselTest (m : Nat) (d : Int) : Bool :=
  match m % 4 with
  | 0 => decide (d < 0)
  | 1 => decide (0 ≤ d)
  | 2 => decide (d = 0)
  | _ => decide (d ≠ 0)
/-- Iterations of a MAC from tap and coefficient on (R610). -/
def macRun (w : Nat) : Nat → Nat → State → State
  | 0, _, s => s
  | n + 1, i, s =>
    let p := s.tapWord (sgLine w) (sgTap w + i) * s.coef (sgCaddr w + i)
    macRun w n (i + 1) (setAcc (sgD w) (if (sgMod w).testBit 0 then s.acc (sgD w) - p else s.acc (sgD w) + p) s)
/-- What an instruction does (Table 16-5); a word of another OP does nothing, and none is ever loaded (R609). -/
def sgeDo (w : Nat) (s : State) : State :=
  let d := sgD w; let a := s.acc (sgA w); let b := s.acc (sgB w)
  match sgOp w with
  | 0x01 => setAcc d 0 s
  | 0x02 => setAcc d a s
  | 0x03 => setAcc d (a + b) s
  | 0x04 => setAcc d (a - b) s
  | 0x05 => setAcc d (-a) s
  | 0x06 => setAcc d (a.natAbs : Int) s
  | 0x07 => setAcc d (min a b) s
  | 0x08 => setAcc d (max a b) s
  | 0x09 => setAcc d (ash a (sgSh w)) s
  | 0x0A => setAcc d (if cselTest (sgMod w) (s.acc d) then a else b) s
  | 0x0B => setAcc d (min (max a (s.coef (sgCaddr w) * 2 ^ 31)) (s.coef (sgCaddr w + 1) * 2 ^ 31)) s
  | 0x0C => setAcc d (sgImm w * 2 ^ 30) s
  | 0x10 => setAcc d (s.coef (sgCaddr w) * 2 ^ 31) s
  | 0x11 => setAcc d (s.tapWord (sgLine w) (sgTap w) * 2 ^ 30) s
  | 0x12 => let (v, _, s) := convAcc (sgA w) s; writeLine (sgLine w) v s
  | 0x13 => macRun w s.sge.rep 0 s
  | 0x14 => let (v, _, s) := convAcc (sgA w) s; setAcc d (s.acc d + v * s.coef (sgCaddr w)) s
  | 0x15 => let (v, _, s) := convAcc (sgA w) s; setAcc d (v * s.coef (sgCaddr w)) s
  | 0x16 =>
    let (v, _, s) := convAcc (sgA w) s
    let (u, _, s) := convAcc (sgB w) s
    setAcc d (v * u / 2) s
  | 0x20 => setAcc d (signed 32 (tget 0 s.sio.inputs (sgPort w)) * 2 ^ 30) s
  | 0x21 => let (v, _, s) := convAcc (sgA w) s; modSge (fun g => { g with outs := tins (sgPort w) (unsigned 32 v) g.outs }) s
  | 0x22 =>
    let (v, sat, s) := convAcc (sgA w) s
    modSge (fun g => { g with res := tins (sgPort w * 8 + sgWord w) (unsigned 32 v) g.res, resSat := if sat then nset (sgPort w) g.resSat else g.resSat }) s
  | _ => s
/-- Issue the next instruction of the steep (R589, R608, R610). -/
def issueNext (s : State) : State :=
  match s.sge.pos, s.sge.active with
  | some i, some p =>
    match p.code[i]? with
    | none => modSge (fun g => { g with pos := none }) s
    | some w =>
      let s := sgeDo w s
      modSge (fun g => { g with pos := if i + 1 < p.code.length then some (i + 1) else none, rep := if sgOp w = 0x30 then sgPort w + 1 else 1 }) s
  | _, _ => s
/-- The rest of the steep. -/
def finishSteep : Nat → State → State
  | 0, s => s
  | n + 1, s => if s.sge.pos.isNone then s else finishSteep n (issueNext s)
/-- OP of the next instruction. -/
def State.nextOp (s : State) : Option Nat :=
  match s.sge.pos, s.sge.active with
  | some i, some p => (p.code[i]?).map sgOp
  | _, _ => none

/-! ### Port configuration (Table 17-2) -/

/-- A of R634 for a rate. -/
def adcMax (rate : Nat) : Nat := min 16 (192000 / rateHz rate)
/-- TDM input i. -/
def State.tdm (s : State) (i : Nat) : TdmIn := tget {} s.sio.tdmIn i
/-- ADC channel. -/
def State.adcCh (s : State) (i : Nat) : AdcCh := tget {} s.sio.adc i
/-- Capture input. -/
def State.cap (s : State) (i : Nat) : Capture := tget {} s.sio.capture i
/-- PWM output. -/
def State.pwmOut (s : State) (i : Nat) : Pwm := tget {} s.sio.pwm i
/-- Apply one committed configuration record (R645, R648). -/
def applyConfig (u : Nat) (b : Bytes) (x : Sio) : Sio :=
  if u ≤ 1 then { x with tdmIn := tmod {} x.tdmIn u fun t => { t with on := u8 b 1 == 1, slots := u8 b 2, width := u8 b 3, flags := u8 b 4 % 8, frame := [] } }
  else if u = 2 then { x with tdmOut := { x.tdmOut with mode := u8 b 1, slots := u8 b 2, width := u8 b 3, flags := u8 b 4 % 8 } }
  else if inR u 0x10 0x17 then { x with adc := tmod {} x.adc (u - 0x10) fun t => { t with on := u8 b 1 == 1, avg := u8 b 2 } }
  else if inR u 0x20 0x27 then { x with capture := tput {} x.capture (u - 0x20) { mode := u8 b 1, falling := u8 b 2 == 1, filter := u16 b 4 } }
  else { x with pwm := tmod {} x.pwm (u - 0x30) fun t => { t with set := true, mode := u8 b 1, safe := u8 b 2, invert := (u8 b 3).testBit 0, div := u16 b 4, phase := u16 b 6, on := none } }
/-- Channels that A limits, with A and AVG (R635). -/
def State.adcLimited (s : State) : List (Nat × Nat × Nat) :=
  ((List.range 8).filter fun c => (s.adcCh c).on && decide (adcMax s.sge.rate < (s.adcCh c).avg)).map fun c => (c, adcMax s.sge.rate, (s.adcCh c).avg)
/-- ADC_LIMITED once for a change that makes A_c < AVG effective for a channel (R635). -/
def adcNote (before : List (Nat × Nat × Nat)) (s : State) : State :=
  if s.adcLimited.any fun x => !before.contains x then logEvent 17 0x8002 (detail [(16, 1, adcMax s.sge.rate), (17, 1, s.sge.rate), (20, 4, s.sge.tick.toNat)]) s else s

/-! ### Latching and publishing (R628-R641, R654) -/

/-- The word of a capture input at the cycle of a boundary (R637). -/
def Capture.word (c : Capture) (now : Nat) : Nat :=
  match c.mode with
  | 1 => match c.last, c.period with
    | some t, some p => min (2 ^ 31 - 1) (max p (now - t))
    | _, _ => 2 ^ 31 - 1
  | 2 => min (2 ^ 31 - 1) c.high
  | 3 => min (2 ^ 31 - 1) c.count
  | _ => 0
/-- The words of every input port at a boundary of the tick number n. -/
def State.latched (s : State) (n : Nat) : List (Nat × Nat) :=
  let tdm := (List.range 32).map fun k =>
    let t := s.tdm (k / 16)
    (k, if t.on && decide (k % 16 < t.slots) && s.isOn 29 then tget 0 t.frame (k % 16) else 0)
  let adc := (List.range 8).map fun c =>
    let x := s.adcCh c
    (0x20 + c, if x.on && s.isOn 27 then x.sum * 2 ^ 15 / max 1 (min x.avg (adcMax s.sge.rate)) else 0)
  let cap := (List.range 8).map fun c => (0x28 + c, if s.isOn 28 then (s.cap c).word s.sge.cyc else 0)
  let flags := b2n (s.sge.src == .lost) + 2 * b2n (s.sge.src == .acquiring) + 4 * b2n s.sge.first
  (tdm ++ adc ++ cap ++ [(0x30, n % 2 ^ 31), (0x31, flags)]).filter fun x => x.2 != 0
/-- Latch the inputs, and begin the counts of a new tick. -/
def latchInputs (s : State) : State :=
  modSio (fun x => { x with
    inputs := s.latched s.sge.tick.toNat
    adc := tmodAll {} x.adc (List.range 8) fun _ c => { c with sum := 0, count := 0 }
    capture := tmodAll {} x.capture (List.range 8) fun _ c => { c with count := 0 } }) s
/-- A result slot. -/
def State.slot (s : State) (k : Nat) : ResultWindow := tget {} s.sio.slots k
/-- Publish the result slots that the steep of tick n wrote (R654). -/
def publishSlots (n : Nat) (s : State) : State :=
  let written := ((s.sge.res.map fun r => r.1 / 8)).eraseDups
  let s := forEach written (fun k s =>
    let old := (s.slot k).body ++ zeros 32
    let body := (s.sge.res.filter fun r => r.1 / 8 == k).foldl (fun b r => overwrite b (4 * (r.1 % 8)) (putLe 4 r.2)) (old.take 32)
    let w : ResultWindow := { tag := n % 65536, ready := true, status := if s.sge.resSat.contains k then stNote else stOk, aux := n / 65536 % 65536, body := body, fresh := true }
    modSio (fun x => { x with slots := tput {} x.slots k w }) s) s
  modSge (fun g => { g with res := [], resSat := [] }) s
/-- Publish the output words of the last steep (R611, R629). -/
def publishOuts (s : State) : State :=
  let s := forEach s.sge.outs (fun o s =>
    if o.1 < 0x48 then modSio (fun x => { x with tdmOut := { x.tdmOut with words := tput 0 x.tdmOut.words (o.1 - 0x40) o.2 } }) s
    else modSio (fun x => { x with pwm := tmod {} x.pwm (o.1 - 0x48) fun q => { q with word := o.2 } }) s) s
  modSge (fun g => { g with outs := [] }) s

/-! ### Boundaries (R589-R623, R645) -/

/-- SRC_STATE as a number. -/
def SrcState.num : SrcState → Nat
  | .internal => 0
  | .acquiring => 1
  | .locked => 2
  | .lost => 3
/-- Engine status (Table 16-10) with a TICK field. -/
def sgeStatus (s : State) (tick : Nat) : Bytes :=
  let g := s.sge
  let p (o : Option SgeProg) : List Nat := match o with
    | some x => [x.base, x.code.length, x.cost, x.id]
    | none => [0, 0, 0, 0]
  let a := p g.active; let b := p g.staged
  layout 32 [(0, 1, b2n g.running), (1, 1, g.src.num), (2, 1, g.rate), (3, 1, g.source), (4, 2, a.getD 0 0), (6, 2, a.getD 1 0), (8, 2, a.getD 2 0),
    (10, 2, b.getD 0 0), (12, 2, b.getD 1 0), (14, 2, b.getD 2 0), (16, 4, tick), (20, 4, a.getD 3 0), (24, 4, b.getD 3 0), (28, 1, g.flags)]
/-- The pointers that a new program starts with (R619). -/
def keptPtrs (old : Option SgeProg) (ptr : List (Nat × Nat)) (new : SgeProg) : List (Nat × Nat) :=
  new.lines.zipIdx.foldl (fun t l =>
    match old.bind fun p => p.lines.findIdx? fun m => m == l.1 with
    | some j => tput 0 t l.2 (tget 0 ptr j)
    | none => t) []
/-- The staged program becomes active (R619, R620): ACTION 1 SWAP, 2 START. -/
def takeStaged (action : Nat) (s : State) : State :=
  let s := match s.sge.staged with
    | none => s
    | some p => modSge (fun g => { g with active := some p, staged := none, ptr := keptPtrs g.active g.ptr p, acc := if p.clear then [] else g.acc }) s
  let s := modSge (fun g => { g with first := true, acc := if action = 2 then [] else g.acc, running := g.running || action == 2 }) s
  match s.sge.active with
  | none => s
  | some p => logEvent 16 0x8003 (detail [(16, 1, action), (18, 2, p.cost), (20, 4, s.sge.tick.toNat), (24, 4, p.id)]) s
/-- A new rate and source apply (R623). -/
def takeTick (b : Bytes) (s : State) : State :=
  let before := s.adcLimited
  let s := modSge (fun g => { g with rate := u8 b 0, source := u8 b 1, autoReturn := (u8 b 2).testBit 0, src := if u8 b 1 = 0 then .internal else .acquiring,
                                     missed := 0, matched := 0, inWin := false, edge := none, phi := 0, wasLost := false }) s
  adcNote before (logEvent 16 0x8006 (detail [(16, 1, u8 b 0), (17, 1, u8 b 1), (20, 4, s.sge.tick.toNat)]) s)
/-- The engine stops: no steep runs from here on (R621). -/
def stopEngine (cause domain : Nat) (s : State) : State :=
  let s := modSge (fun g => { g with running := false, pos := none, outs := [], rep := 1 }) s
  routePost 9 (logEvent 16 0x8004 (detail [(16, 1, cause), (18, 2, domain), (20, 4, s.sge.tick.toNat)]) s)
/-- What a waiting command asks for at the boundary: 0 SWAP, 1 START, 2 STOP, 3 a new tick. -/
def boundaryWork (what : Nat) (b : Bytes) (s : State) : State :=
  match what with
  | 0 => takeStaged 1 s
  | 1 => takeStaged 2 s
  | 2 => stopEngine 0 0 s
  | _ => takeTick b s
/-- The waiting boundary commands. -/
def State.boundaryWaits (s : State) : List (Nat × Bytes) := s.cmd.waits.filterMap fun w => match w.kind with
  | .boundary what => some (what, w.pkt.params)
  | _ => none
/-- Ramps advance by a boundary; one that has reached NEW ends (R650). -/
def advanceRamps (x : Sio) : Sio := { x with ramps := (x.ramps.map fun r => { r with j := r.j + 1 }).filter fun r => r.j + 1 < r.r }
/-- The converter domain D027 is in use: a channel is enabled (R152). -/
def Sio.adcUsed (x : Sio) : Bool := (List.range 8).any fun c => (tget {} x.adc c).on
/-- The TDM domain D029 is in use: an input is enabled or the output runs. -/
def Sio.tdmUsed (x : Sio) : Bool := (tget {} x.tdmIn 0).on || (tget {} x.tdmIn 1).on || x.tdmOut.mode != 0
/-- D027 and D029 follow the configuration in force (R152). -/
def sioUse (s : State) : State := followUse 29 s.sio.tdmUsed (followUse 27 s.sio.adcUsed s)
/-- The pour's boundary (R645, R650): `before` holds the values that the last steep read. -/
def takePour (before : Nat → Int) (s : State) : State :=
  match s.sio.pour with
  | some (.waiting who) =>
    let lim := s.adcLimited
    let n := s.sio.staged.length
    let s := modSio (fun (x : Sio) =>
      let named := x.staged.map (·.1)
      let fresh := x.staged.filterMap fun r => if 1 < r.2.1 then some (⟨r.1, before r.1, signed 32 r.2.2, r.2.1, 0⟩ : Ramp) else none
      let x : Sio := { x with active1 := !x.active1, ramps := (x.ramps.filter fun r => !named.contains r.addr) ++ fresh, copy := x.staged.map fun r => (r.1, r.2.2), staged := [], gen := x.gen + 1, pour := some (.copying who s.sge.tick) }
      let y := x.configs.foldl (fun x c => applyConfig c.1 c.2 x) x
      { y with configs := [] }) s
    let s := sioUse s
    adcNote lim <| routePost 8 (logEvent 17 0x8001 (detail [(16, 1, who), (18, 2, n), (20, 4, s.sio.gen.toNat), (24, 4, s.sge.tick.toNat)]) s)
  | _ => s
/-- The ticks of a slew from OLD to NEW (R770): ticks of its full legs, and RAMP of its final leg. -/
def slewPlan (rate : Nat) (tickRate : Nat) (old new : Int) : Nat × Nat :=
  let d := (new - old).natAbs
  let fs := rateHz tickRate
  let l := rate * 65535 / fs
  if rate = 0 then (0, 1)
  else
    let full := if l = 0 || d ≤ l then 0 else (d - 1) / l
    (65535 * full, max 1 (ceilDiv ((d - full * l) * fs) rate))
/-- The SETs whose first leg takes effect at this boundary complete (R773). -/
def pltReplies (before : Nat → Int) (s : State) : State :=
  let due := s.plt.points.filter fun p => p.2.slew.any fun w => match w.leg with
    | .committed _ _ => true
    | _ => false
  let b := s.sge.tick.toNat
  forEach due (fun d s => ifSome d.2.slew (fun w s =>
    let plan := slewPlan d.2.rate s.sge.rate (before d.2.addr) w.target
    let reply := putLe 4 (unsigned 32 w.target) ++ putLe 4 b ++ putLe 4 (b + plan.1 + plan.2 - 1)
    let hit := s.cmd.waits.filter fun x => x.kind == .setpoint d.1
    let s := { s with cmd := { s.cmd with waits := s.cmd.waits.filter fun x => x.kind != .setpoint d.1 } }
    forEach hit (fun x s => complete x.pkt (if signed 32 (u32 x.pkt.params 4) = w.target then stOk else stNote) reply s) s) s) s
/-- A boundary at which the tick that ends has lasted len cycles. Nothing falls while D025 is not ON (R590). -/
def boundary (len : Nat) (s : State) : State :=
  if !s.isOn 25 then s
  else
    let s := finishSteep ((s.sge.active.map fun p => p.code.length).getD 0) s
    let old := s.sge.tick.toNat
    let work := s.boundaryWaits ++ (if s.lat.ho.engine = 0 then [] else [(s.lat.ho.engine, [])])
    let s : State := { s with lat := { s.lat with ho := { s.lat.ho with engine := 0 } } }
    let ran := s.sge.active.isSome && ((s.sge.running && !work.any fun w => w.1 == 2) || work.any fun w => w.1 == 1)
    let before := s.coef
    let pub := (s.sge.res.map fun r => r.1 / 8).eraseDups
    let s := publishSlots old s
    let s := if (work.any fun w => w.1 == 2) then modSge (fun g => { g with outs := [] }) s else publishOuts s
    let lines := ((s.sge.active.map (·.lines)).getD []).zipIdx
    let ptr := if ran then lines.foldl (fun t l => tput 0 t l.2 ((tget 0 t l.2 + 1) % l.1.2)) s.sge.ptr else s.sge.ptr
    let s := modSge (fun g => { g with tick := g.tick + 1, cyc := g.cyc + len, first := false, ptr := ptr }) s
    let s := modSio advanceRamps s
    let s := forEach work (fun w s => boundaryWork w.1 w.2 s) s
    let s := latchInputs s
    let s := watchAll pub s
    let took := match s.sio.pour with
      | some (.waiting _) => true
      | _ => false
    let s := takePour before s
    let s := slewsAt took (whenS took (pltReplies before) s)
    let s := modSge (fun g => { g with pos := if g.running && g.active.isSome then some 0 else none, rep := 1, edge := none }) s
    finishWaits (fun k => match k with
      | .boundary _ => true
      | _ => false) stOk (fun _ => sgeStatus s s.sge.tick.toNat) s
/-- TICK_SOURCE_LOST and TICK_SOURCE_BACK. -/
def sourceRecord (code : Nat) (s : State) : State := whenS (code == 0x8001) (routePost 9) <| logEvent 16 code (detail [(16, 1, s.sge.source), (17, 1, s.sge.rate), (20, 4, s.sge.tick.toNat)]) s
/-- A boundary that the engine's own period places: INTERNAL, LOST and ACQUIRING (R596, R598, R600). -/
def ownBoundary (s : State) : State :=
  let g := s.sge
  let p := periodOf g.rate; let w := windowOf g.rate
  if g.src == .acquiring then
    let phi : Int := match g.edge with
      | some d => if d < p / 2 then (d : Int) else (d : Int) - p
      | none => 0
    let shift := clampI (-(w : Int)) w phi
    let run := if g.inWin then g.matched + 1 else 0
    let s := boundary ((p : Int) + shift).toNat s
    if 4 ≤ run then
      let s := modSge (fun g => { g with src := .locked, matched := 0, inWin := false, missed := 0, phi := 0, wasLost := false }) s
      whenS g.wasLost (sourceRecord 0x8002) s
    else modSge (fun g => { g with matched := run, inWin := false, phi := shift }) s
  else boundary p s

/-! ### Pours (R643-R652, R657) -/

/-- Stage coefficient records into the shadow (R643). -/
def stageCoefs (l : List (Nat × Nat × Nat)) (x : Sio) : Sio :=
  l.foldl (fun x r => { (x.modShadow fun t => tput 0 t r.1 r.2.2) with staged := tins r.1 (r.2.1, r.2.2) x.staged }) x
/-- Ramped records that would be staged after a stage (R652). -/
def rampedAfter (x : Sio) (l : List (Nat × Nat × Nat)) : Nat := ((stageCoefs l x).staged.filter fun r => 1 < r.2.1).length
/-- Entries that would ramp after a commit (R652). -/
def rampingAfter (x : Sio) : Nat := (x.ramps.filter fun r => (x.staged.lookup r.addr).isNone).length + (x.staged.filter fun r => 1 < r.2.1).length
/-- TDM input i as a commit would leave it. -/
def Sio.willRun (x : Sio) (i : Nat) : Bool := match x.configs.lookup i with
  | some b => u8 b 1 == 1
  | none => (tget {} x.tdmIn i : TdmIn).on
/-- The TDM output's mode as a commit would leave it. -/
def Sio.willMode (x : Sio) : Nat := match x.configs.lookup 2 with
  | some b => u8 b 1
  | none => x.tdmOut.mode
/-- Why a commit does not go ahead: status, offset, information (R644, R649, R652). -/
def commitFault (x : Sio) (expect : Nat) : Option (Nat × Nat × Nat) :=
  if expect != 0xFFFFFFFF && expect != x.gen.toNat then some (stBusy, 0xFFFF, x.gen.toNat % 65536)
  else if x.staged.isEmpty && x.configs.isEmpty then some (stNote, 0xFFFF, 0)
  else if 2 ≤ x.willMode && !x.willRun (x.willMode - 2) then some (stBadParam, 0xFFFF, 2)
  else if 256 < rampingAfter x then some (stNoResource, 0xFFFF, 0)
  else none
/-- DISCARD (R647). -/
def discardPour (x : Sio) : Sio := { (x.modShadow fun _ => x.bank) with staged := [], configs := [] }
/-- A warden's stage, commit or discard (R657): its outcome in SIO_POUR_RES. -/
def wardenPour (y : LatePour) (s : State) : State :=
  let done (st : Nat) (s : State) : State := modSio (fun x => { x with resStatus := st, resDone := true }) s
  let x := s.sio
  if (s.domain 25).st == .fenced || (s.domain 99).st == .fenced then done stFenced s
  else match y.op with
  | 0 =>
    if y.ramp = 0 then done stBadParam s
    else if 256 < rampedAfter x [(y.addr, y.ramp, y.value)] then done stNoResource s
    else done stOk (modSio (stageCoefs [(y.addr, y.ramp, y.value)]) s)
  | 1 => match commitFault x x.expect.toNat with
    | some (st, _) => done st s
    | none => modSio (fun x => { x with pour := some (.waiting (y.core + 1)), resDone := false }) s
  | _ => done stOk (modSio discardPour s)
/-- A write of a pour register by a warden: without effect while DONE is 0, and put off while a commit runs (R646, R657). -/
def pourWrite (y : LatePour) (s : State) : State :=
  if !s.sio.resDone then s
  else if s.sio.pour.isSome then modSio (fun x => { x with late := some y, resDone := false }) s
  else wardenPour y s
/-- A pour ends without its reply (R624, R659): a boundary still to come does not take it, a copy that runs is done, and a warden's write that made or
awaited it has the outcome FENCED. -/
def endPour (s : State) : State :=
  let who := match s.sio.pour with
    | some (.waiting w) => w
    | some (.copying w _) => w
    | none => 0
  let warden := who != 0 || s.sio.late.isSome
  modSio (fun x => { (x.modShadow fun t => x.copy.foldl (fun t r => tput 0 t r.1 r.2) t) with
    copy := [], pour := none, late := none, resStatus := if warden then stFenced else x.resStatus, resDone := warden || x.resDone }) s

end Sys2Proof.Machine
end

