-- ==== Sys2Proof/Machine/Signal.lean ====
section
/-!
DEFINITION. Sys2Proof/Machine/Signal.lean: boundaries, steeps, loading and control of the signal engine (ch 16).
-/
namespace Sys2Proof.Machine
open Sys2Proof

/-! ### Boundaries and edges (R589-R603) -/

/-- TICK_BOUNDARY (R596, R598, R600). In LOCKED a boundary falls with FRAME_SYNC_EDGE or MISSED_FRAME, and this row leaves the state as it is. -/
def execTickBoundary (s : State) : Out := .next (if s.sge.src == .locked then s else ownBoundary s)
/-- The selected TDM input delivers edges. -/
def State.edgesOn (s : State) : Bool := s.isOn 25 && s.isOn 29 && s.sge.source != 0 && (s.tdm (s.sge.source - 1)).on
/-- A stray edge (R602). -/
def strayEdge (s : State) : State := modSge (fun g => { g with stray := min 0xFFFFFFFF (g.stray + 1), flags := g.flags ||| 8 }) s
/-- FRAME_SYNC_EDGE (R597-R602): an edge d cycles after the last boundary. -/
def execFrameSyncEdge (d : Nat) (s : State) : Out :=
  let g := s.sge
  let p := periodOf g.rate; let w := windowOf g.rate
  if !s.edgesOn then .next s
  else match g.src with
  | .internal => .next s
  | .acquiring =>
    let hit := inR d (p - w) (p + w) || decide ((d : Int) + g.phi ≤ w)
    .next (modSge (fun g => { g with edge := some d, inWin := g.inWin || hit }) s)
  | .locked => if inR d (p - w) (p + w) then .next (boundary d (modSge (fun g => { g with missed := 0 }) s)) else .next (strayEdge s)
  | .lost => if g.autoReturn then .next (modSge (fun g => { g with src := .acquiring, edge := some d, matched := 0, inWin := false, phi := 0, wasLost := true }) s) else .next s
/-- MISSED_FRAME (R599, R600): no edge up to E + W. -/
def execMissedFrame (s : State) : Out :=
  let g := s.sge
  if g.src != .locked then .next s
  else
    let lost := decide (3 ≤ g.missed)
    let s := modSge (fun g => { g with miss := min 0xFFFFFFFF (g.miss + 1), missed := g.missed + 1 }) s
    let s := if lost then modSge (fun g => { g with src := .lost, wasLost := true, missed := 0, flags := g.flags ||| 4 }) s else s
    .next (whenS lost (sourceRecord 0x8001) (boundary (periodOf g.rate + windowOf g.rate) s))

/-! ### Instructions of the steep (R608, Table 16-5) -/

/-- The engine issues its next instruction when that is one of OP op; with another or none nothing happens. -/
def issueRow (op : Nat) (s : State) : Out := .next (if s.nextOp == some op then issueNext s else s)
/-- NOP. -/
def execSgeNop (s : State) : Out := issueRow 0x00 s
/-- CLR. -/
def execSgeClr (s : State) : Out := issueRow 0x01 s
/-- MOV. -/
def execSgeMov (s : State) : Out := issueRow 0x02 s
/-- ADD. -/
def execSgeAdd (s : State) : Out := issueRow 0x03 s
/-- SUB. -/
def execSgeSub (s : State) : Out := issueRow 0x04 s
/-- NEG. -/
def execSgeNeg (s : State) : Out := issueRow 0x05 s
/-- ABS. -/
def execSgeAbs (s : State) : Out := issueRow 0x06 s
/-- MIN. -/
def execSgeMin (s : State) : Out := issueRow 0x07 s
/-- MAX. -/
def execSgeMax (s : State) : Out := issueRow 0x08 s
/-- ASH. -/
def execSgeAsh (s : State) : Out := issueRow 0x09 s
/-- CSEL. -/
def execSgeCsel (s : State) : Out := issueRow 0x0A s
/-- CLAMP. -/
def execSgeClamp (s : State) : Out := issueRow 0x0B s
/-- LDI. -/
def execSgeLdi (s : State) : Out := issueRow 0x0C s
/-- LDC. -/
def execSgeLdc (s : State) : Out := issueRow 0x10 s
/-- RDD. -/
def execSgeRdd (s : State) : Out := issueRow 0x11 s
/-- WRD. -/
def execSgeWrd (s : State) : Out := issueRow 0x12 s
/-- MAC, all iterations after a REP. -/
def execSgeMac (s : State) : Out := issueRow 0x13 s
/-- MACA. -/
def execSgeMaca (s : State) : Out := issueRow 0x14 s
/-- MULA. -/
def execSgeMula (s : State) : Out := issueRow 0x15 s
/-- MULAB. -/
def execSgeMulab (s : State) : Out := issueRow 0x16 s
/-- IN. -/
def execSgeIn (s : State) : Out := issueRow 0x20 s
/-- OUT. -/
def execSgeOut (s : State) : Out := issueRow 0x21 s
/-- RES. -/
def execSgeRes (s : State) : Out := issueRow 0x22 s
/-- REP. -/
def execSgeRep (s : State) : Out := issueRow 0x30 s

/-! ### Images (R594, R609-R618, Table 16-7, Table 16-8) -/

/-- An input port, an output port (Table 16-6). -/
def isInPort (p : Nat) : Bool := decide (p ≤ 0x31)
/-- An output port. -/
def isOutPort (p : Nat) : Bool := inR p 0x40 0x57
/-- Word i of an image with n lines. -/
def imageWord (b : Bytes) (n i : Nat) : Nat := u64 b (64 + 8 * n + 8 * i)
/-- Line L of an image. -/
def imageLine (b : Bytes) (l : Nat) : Nat × Nat := (u32 b (64 + 8 * l), u32 b (68 + 8 * l))
/-- The M-format fields of an instruction that uses a line at a tap: the line exists and the last tap lies in it (R614). -/
def tapOk (lines : List (Nat × Nat)) (w count : Nat) : Bool := (lines[sgLine w]?).any fun l => decide (sgTap w + count - 1 < l.2)
/-- One instruction (R609, R610, R614, R615): `rep` is the COUNT of the REP before it, 0 without one; `next` is the OP after it, if any. -/
def instrOk (lines : List (Nat × Nat)) (w rep : Nat) (next : Option Nat) : Bool :=
  let noD := sgD w == 0; let noA := sgA w == 0; let noB := sgB w == 0; let noM := sgMod w == 0
  let low (n : Nat) : Bool := w % 2 ^ n == 0
  let count := max 1 rep
  (rep == 0 || sgOp w == 0x13) && match sgOp w with
  | 0x00 => noD && noA && noB && noM && low 40
  | 0x01 => noA && noB && noM && low 40
  | 0x02 | 0x05 | 0x06 => noB && noM && low 40
  | 0x03 | 0x04 | 0x07 | 0x08 | 0x16 => noM && low 40
  | 0x09 => noB && noM && low 32 && decide (-64 ≤ sgSh w) && decide (sgSh w ≤ 64)
  | 0x0A => decide (sgMod w < 4) && low 40
  | 0x0B => noB && noM && low 5 && decide (sgCaddr w ≤ 4094)
  | 0x0C => noA && noB && noM && low 8
  | 0x10 => noA && noB && noM && low 5
  | 0x11 => noA && noB && noM && low 5 && tapOk lines w 1
  | 0x12 => noD && noB && noM && low 5 && sgTap w == 0 && sgCaddr w == 0 && tapOk lines w 1
  | 0x13 => noA && noB && decide (sgMod w < 2) && low 5 && tapOk lines w count && decide (sgCaddr w + count - 1 ≤ 4095)
  | 0x14 | 0x15 => noB && noM && low 5
  | 0x20 => noA && noB && noM && low 32 && isInPort (sgPort w)
  | 0x21 => noD && noB && noM && low 32 && isOutPort (sgPort w)
  | 0x22 => noD && noB && noM && low 29 && decide (sgPort w < 64)
  | 0x30 => noD && noA && noB && noM && low 32 && inR (sgPort w) 1 255 && next == some 0x13
  | _ => false
/-- The first instruction at fault, and the cost (R594). -/
def checkCode (lines : List (Nat × Nat)) : Nat → Nat → List Nat → Except Nat Nat
  | _, _, [] => .ok 0
  | i, rep, w :: t =>
    if !instrOk lines w rep ((t.head?).map sgOp) then .error i
    else
      let next := if sgOp w == 0x30 then sgPort w + 1 else 0
      (checkCode lines (i + 1) next t).map fun c => c + (if rep == 0 then 1 else rep)
/-- Lines of a table that overlap, or leave the memory (R612): the offset within the table of the first field at fault, BASE or N (log 57). -/
def badLine (lines : List (Nat × Nat)) : Option Nat :=
  (List.range lines.length).findSome? fun i =>
    let l := lines.getD i (0, 0)
    if 131071 < l.1 then some (8 * i)
    else if !inR l.2 1 131072 || decide (131072 < l.1 + l.2) then some (8 * i + 4)
    else if (lines.take i).any fun m => decide (m.1 < l.1 + l.2) && decide (l.1 < m.1 + m.2) then some (8 * i)
    else none
/-- The checks of Table 16-8 on an image for slots from base: the program, or status, offset and information. -/
def checkImage (s : State) (base : Nat) (b : Bytes) : Except (Nat × Nat × Nat) SgeProg :=
  let n := u16 b 6; let ln := u8 b 13
  let lines := (List.range (min ln 64)).map (imageLine b)
  let code := (List.range n).map (imageWord b ln)
  let headBad := ([(0, u32 b 0 == 0x53475031), (4, u16 b 4 == 1), (6, inR n 1 4096), (12, u8 b 12 < 2), (13, decide (ln ≤ 64)), (14, u16 b 14 == 0),
    (24, (slice b 24 40).all (· == 0))] : List (Nat × Bool)).find? fun f => !f.2
  match headBad with
  | some f => .error (stBadParam, f.1, 1)
  | none =>
    if b.length != 64 + 8 * (ln + n) then .error (stBadLength, 6, 0)
    else if u32 b 20 != (crc32c (b.take 20 ++ b.drop 24)).toNat then .error (stBadParam, 20, 2)
    else match badLine lines with
    | some o => .error (stBadParam, 64 + o, 3)
    | none => match checkCode lines 0 0 code with
      | .error i => .error (stBadParam, 64 + 8 * ln + 8 * i, 4)
      | .ok cost =>
        if u32 b 8 != cost then .error (stBadParam, 8, 5)
        else if budgetOf s.sge.rate s.sge.source < cost then .error (stBadParam, 8, 6)
        else if 4096 < base + n then .error (stBadParam, 6, 0)
        else
          let p : SgeProg := { base := base, code := code, cost := cost, id := u32 b 16, clear := (u8 b 12).testBit 0, lines := lines }
          match s.sge.active with
          | none => .ok p
          | some a =>
            if base < a.base + a.code.length && a.base < base + n then .error (stBusy, 6, 1)
            else match lines.findIdx? fun l => a.lines.any fun m => m != l && decide (m.1 < l.1 + l.2) && decide (l.1 < m.1 + m.2) with
              | some l => .error (stBusy, 64 + 8 * l, 2)
              | none => .ok p
/-- Cut joined parameters into the packets of a chain. -/
def cutParts : List Nat → Bytes → List Bytes
  | [], _ => []
  | n :: t, b => b.take n :: cutParts t (b.drop n)
/-- The chunks of a load follow one another: the offset within the parameters of the first field at fault, or the image. -/
def joinChunks (base : Nat) : Nat → List Bytes → Bytes → Except Nat Bytes
  | _, [], acc => .ok acc
  | at_, c :: t, acc =>
    if u16 c 0 != base || 4095 < base then .error 0
    else if u32 c 4 != at_ then .error 4
    else joinChunks base (at_ + (c.length - 8)) t (acc ++ c.drop 8)
/-- Wipe the delay words of new lines that are not identical to an active line (R618). -/
def wipeLines (p : SgeProg) (s : State) : State :=
  let kept := (s.sge.active.map (·.lines)).getD []
  let fresh := p.lines.filter fun l => !kept.contains l
  modSge (fun g => { g with delay := g.delay.filter fun w => !(fresh.any fun l => decide (l.1 ≤ w.1) && decide (w.1 < l.1 + l.2)) }) s
/-- SGE_PROGRAM_LOAD (R616-R618). -/
def execSgeProgramLoad (s : State) : Out :=
  interpret 0x0901 (fun p s =>
    let parts := cutParts p.parts p.params
    if parts.any fun c => decide (c.length < 8) then fail p stBadLength 0xFFFF 0 s
    else match joinChunks (u16 p.params 0) 0 parts [] with
    | .error off => badParam p off s
    | .ok b => match checkImage s (u16 p.params 0) b with
      | .error (st, off, info) => fail p st off info s
      | .ok g => complete p stOk (putLe 2 g.base ++ putLe 2 g.code.length ++ putLe 4 g.cost) (modSge (fun x => { x with staged := some g }) (wipeLines g s))) s
/-- SGE_PROGRAM_SWAP (R619-R622). -/
def execSgeProgramSwap (s : State) : Out :=
  interpret 0x0902 (fun p s =>
    let act := u8 p.params 0
    let g := s.sge
    let now (st : Nat) (s : State) : State := complete p st (sgeStatus s s.sge.tick.toNat) s
    checked p 4 [(0, inR act 1 5)] (fun s =>
      match act with
      | 1 => if g.staged.isNone then fail p stNoResource 0xFFFF 0 s else waitFor p (.boundary 0) s
      | 2 => if g.running then fail p stBusy 0xFFFF 1 s else if g.staged.isNone && g.active.isNone then fail p stNoResource 0xFFFF 0 s else waitFor p (.boundary 1) s
      | 3 => if g.running then waitFor p (.boundary 2) s else now stOk s
      | 4 => now (if g.staged.isNone then stNote else stOk) (modSge (fun g => { g with staged := none }) s)
      | _ => now stOk s) s) s
/-- SGE_TICK_SET (R595, R623). -/
def execSgeTickSet (s : State) : Out :=
  interpret 0x0903 (fun p s =>
    let b := p.params
    checked p 8 [(0, inR (u8 b 0) 1 9), (1, decide (u8 b 1 ≤ 2))] (fun s =>
      let room := budgetOf (u8 b 0) (u8 b 1)
      let exceeds (o : Option SgeProg) : Bool := o.any fun x => decide (room < x.cost)
      if exceeds s.sge.active then fail p stBadParam 0 1 s
      else if exceeds s.sge.staged then fail p stBadParam 0 2 s
      else waitFor p (.boundary 3) s) s) s

/-- A read of a register returns data to its reader. -/
def answerRead (reader : Nat) (b : Bytes) (s : State) : State := emit (.readData reader b) s
/-- SGE_STRAY_COUNT_READ: the count is returned and cleared (Table 16-3). -/
def execSgeStrayCountRead (reader : Nat) (s : State) : Out := .next (modSge (fun g => { g with stray := 0 }) (answerRead reader (putLe 4 s.sge.stray) s))
/-- SGE_MISS_COUNT_READ: the count is returned and cleared (Table 16-3). -/
def execSgeMissCountRead (reader : Nat) (s : State) : Out := .next (modSge (fun g => { g with miss := 0 }) (answerRead reader (putLe 4 s.sge.miss) s))

end Sys2Proof.Machine
end

