-- ==== Sys2Proof/Machine/Slews.lean ====
section
/-!
DEFINITION. Sys2Proof/Machine/Slews.lean: the legs of a setpoint's slew (ch 21, R769-R774).
-/
namespace Sys2Proof.Machine
open Sys2Proof

/-- Setpoint n, where it is defined. -/
def State.setpointAt (s : State) (n : Nat) : Option Setpoint := s.plt.points.lookup n
/-- Set or undefine setpoint n. -/
def setPoint (n : Nat) (p : Option Setpoint) (s : State) : State :=
  modPlt (fun x => { x with points := match p with
    | some p => tins n p x.points
    | none => tdel n x.points }) s
/-- The leg from OLD toward NEW (R770): its target, its RAMP, and whether it is the final one. -/
def legOf (rate tickRate : Nat) (old new : Int) : Int × Nat × Bool :=
  let d := (new - old).natAbs
  let fs := rateHz tickRate
  let l := rate * 65535 / fs
  if rate = 0 then (new, 1, true)
  else if l != 0 && decide (l < d) then (if old < new then old + l else old - l, 65535, false)
  else (new, max 1 (ceilDiv (d * fs) rate), true)
/-- The slew of setpoint n ends. -/
def endSlew (n : Nat) (s : State) : State := ifSome (s.setpointAt n) (fun p => setPoint n (some { p with slew := none })) s
/-- Commit the next leg of setpoint n (R771-R773): it waits while another commit is pending or copying (R646). -/
def commitLeg (n : Nat) (s : State) : State :=
  match s.setpointAt n with
  | none => s
  | some p => match p.slew with
    | none => s
    | some w =>
      if s.sio.pour.isSome then setPoint n (some { p with slew := some { w with leg := .waits } }) s
      else
        let old := s.coef p.addr
        let leg := legOf p.rate s.sge.rate old w.target
        let rec_ := [(p.addr, leg.2.1, unsigned 32 leg.1)]
        let x := stageCoefs rec_ s.sio
        let fault := if 256 < rampedAfter s.sio rec_ then some (stNoResource, 0xFFFF, 0) else commitFault x 0xFFFFFFFF
        match fault with
        | none => setPoint n (some { p with slew := some { w with leg := .committed leg.2.1 leg.2.2 } }) (modSio (fun _ => { x with pour := some (.waiting 0) }) s)
        | some f =>
          let s := logEvent 22 0x8005 (detail [(16, 1, n), (20, 4, unsigned 32 old)]) (endSlew n s)
          failWaits (· == .setpoint n) f.1 f.2.2 s
/-- Legs that waited for a copy. -/
def lateLegs (s : State) : State :=
  forEach (s.plt.points.filter fun p => p.2.slew.any fun w => w.leg == .waits) (fun p s => commitLeg p.1 s) s
/-- A fence of D025, D099 or D023 ends every slew (R773, R799). -/
def endSlews (s : State) : State :=
  let s := modPlt (fun x => { x with points := x.points.map fun p => (p.1, { p.2 with slew := none }) }) s
  failWaits (fun k => match k with
    | .setpoint _ => true
    | _ => false) stFenced 0 s

end Sys2Proof.Machine
end

