-- ==== Sys2Proof/Machine/StoDrive.lean ====
section
/-!
DEFINITION. Sys2Proof/Machine/StoDrive.lean: namespaces, drives and their commands, fixity namespaces, and the backends of a target (ch 14, 15).
-/
namespace Sys2Proof.Machine
open Sys2Proof

/-! ### Namespaces, profiles and scrub sessions -/

/-- Parameters of namespace i of the device table (Table 14-9). -/
def State.space (s : State) (i : Nat) : Option Bytes := s.sto.spaces.lookup i
/-- Block size of a namespace. -/
def nsBlock (b : Bytes) : Nat := 2 ^ u8 b 11
/-- A namespace's data lie under XTS. -/
def nsXts (b : Bytes) : Bool := (u8 b 10).testBit 1
/-- The namespace list of a function's owner (R535, R536). -/
def State.spacesOf (s : State) (fn : Nat) : List Namespace :=
  if fn == pf0 then s.host.pf0Spaces else match (s.vf fn).tenant with
    | some t => (s.tenant t).spaces
    | none => []
/-- Profile n. -/
def State.profile (s : State) (n : Nat) : Option Profile := s.sto.profiles.lookup n
/-- The profile of a fixity namespace. -/
def State.nsProfile (s : State) (b : Bytes) : Option Profile := if u8 b 34 = 0 then none else s.profile (u8 b 34)
/-- The HMAC slot of a profile holds a PF0 key of its type (R565). -/
def State.hmacOk (s : State) (p : Profile) : Bool := p.digest != 3 || (s.cry.slots.lookup p.slot).any fun k => k.owner == 16 && k.type == 3
/-- OBJECT_ID of a fixity namespace (R580). -/
def nsObject (b : Bytes) : Nat := u32 b 4 + 2 ^ 32 * u8 b 1
/-- Data blocks of a stripe, and all its blocks (Table 15-7). -/
def stripeBlocks (p : Profile) (b : Bytes) : Nat × Nat := (p.k * p.chunk / nsBlock b, p.n * p.chunk / nsBlock b)
/-- Address of the record of chunk j (Table 15-7). -/
def recordAddr (p : Profile) (index stripe j : Nat) : Nat := p.base + ((index * p.spn + stripe) * p.n + j) * 64
/-- Drive LBA of a stripe's first block. -/
def stripeLba (p : Profile) (b : Bytes) (stripe : Nat) : Nat := u64 b 16 + stripe * (stripeBlocks p b).2
/-- CHUNK_FAULT, at most 100 in any 1 s (R588). -/
def chunkFault (cls index outcome path oid stripe : Nat) (s : State) : State :=
  logLimited 15 0x8001 0 100 1000000 (detail [(16, 1, cls), (17, 1, index), (18, 1, outcome), (19, 1, path), (20, 8, oid), (28, 4, stripe)]) s
/-- Scrub session n. -/
def State.scrub (s : State) (n : Nat) : Scrub := tget {} s.sto.scrubs n
/-- Change a scrub session. -/
def modScrub (n : Nat) (f : Scrub → Scrub) (s : State) : State := modSto (fun x => { x with scrubs := tmod {} x.scrubs n f }) s
/-- A session ends (R584): SCRUB_END with its reason. -/
def endScrub (n reason : Nat) (s : State) : State :=
  let x := s.scrub n
  if x.on then
    logEvent 15 0x8002 (detail [(16, 1, n), (17, 1, reason), (20, 4, x.done), (24, 4, x.unrepaired)]) (modScrub n (fun x => { x with on := false, waiting := false }) s)
  else s
/-- Sessions of the namespaces selected end. -/
def endScrubs (sel : Nat → Bool) (reason : Nat) (s : State) : State := forEach ((List.range 16).filter fun n => (s.scrub n).on && sel (s.scrub n).ns) (fun n s => endScrub n reason s) s

/-! ### Drives (R543-R548) -/

/-- Drive d. -/
def State.drive (s : State) (d : Nat) : Option Drive := s.sto.drives.lookup d
/-- Change drive d. -/
def modDrive (d : Nat) (f : Drive → Drive) (s : State) : State :=
  modSto (fun x => { x with drives := modWhere (fun y => y.1 == d) (fun y => (y.1, f y.2)) x.drives }) s
/-- Commands that may be outstanding on a drive (R545). -/
def Drive.limit (x : Drive) : Nat := min (u32 x.raw 48 * 1024 / 1052672) (u16 x.raw 6 - 1)
/-- Address of a slot. -/
def Drive.slotAddr (x : Drive) (k : Nat) : Nat := u64 x.raw 40 + k * 1052672
/-- Two commands that may not overlap on a stripe (R585). -/
def clash (a b : DrvCmd) : Bool := a.stripe.isSome && a.ns == b.ns && a.stripe == b.stripe && !(a.op == 2 && b.op == 2)
/-- The first waiting command that no earlier one holds back. -/
def nextCmd : List DrvCmd → List DrvCmd → Option DrvCmd
  | _, [] => none
  | before, c :: t => if before.any (clash c) then nextCmd (before ++ [c]) t else some c
/-- A drive becomes FAILED (R548): its commands end with Internal Error and its scrub sessions end. Reason 0 timeouts, 1 transfer fault. -/
def failDrive (d reason : Nat) (s : State) : State :=
  match s.drive d with
  | none => s
  | some x =>
    if x.failed then s
    else
      let hit := (x.waiting ++ x.out.map (·.2)).filter fun c => !c.dead
      let s := modDrive d (fun x => { x with failed := true, waiting := [], out := x.out.map fun o => (o.1, { o.2 with late := true }) }) s
      let s := logEvent 14 0x8002 (detail [(16, 1, d), (17, 1, reason)]) s
      let s := forEach hit (fun c s => if (s.stoCmd c.handle c.cid).isSome then respond c.handle c.cid 0 0 0x06 s else s) s
      endScrubs (fun i => (s.space i).any fun b => u8 b 8 == 2 && u8 b 9 == d) 3 s
/-- Writes of PF0 in order until one is refused. -/
def putAll : List (Nat × Bytes) → State → Bool × State
  | [], s => (true, s)
  | w :: t, s => match dmaPut pf0 w.1 w.2 s with
    | (true, s) => putAll t s
    | (false, s) => (false, s)
/-- PRP1, PRP2 and the list for len bytes in a slot (R545). -/
def prps (slot len : Nat) : Nat × Nat × Bytes :=
  let pages := ceilDiv len 4096
  if pages < 2 then (slot, 0, []) else if pages = 2 then (slot, slot + 4096, [])
  else (slot, slot + 1048576, ((List.range (pages - 1)).map fun i => putLe 8 (slot + 4096 * (i + 1))).flatten)
/-- The SQE for a drive (R546). -/
def driveSqe (d : Nat) (c : DrvCmd) (slot p1 p2 : Nat) : Bytes :=
  layout 64 [(0, 1, c.op), (2, 2, slot), (4, 4, Config.driveNsid d), (24, 8, p1), (32, 8, p2), (40, 8, c.lba), (48, 2, c.blocks - 1)]
/-- A command goes to its drive in slot k (R546). -/
def driveIssue (d : Nat) (x : Drive) (c : DrvCmd) (k : Nat) (s : State) : State :=
  let (p1, p2, list) := prps (x.slotAddr k) (c.blocks * 2 ^ u8 x.raw 2)
  let tail := (x.tail + 1) % u16 x.raw 6
  let writes := (if c.data.isEmpty then [] else [(x.slotAddr k, c.data)]) ++ (if list.isEmpty then [] else [(x.slotAddr k + 1048576, list)])
    ++ [(u64 x.raw 8 + 64 * x.tail, driveSqe d c k p1 p2), (u64 x.raw 16, putLe 4 tail)]
  match putAll writes s with
  | (true, s) => modDrive d (fun y => { y with tail := tail, waiting := y.waiting.erase c, out := y.out ++ [(k, { c with data := [] })] }) s
  | (false, s) => failDrive d 1 s
/-- DRIVE_SUBMIT (R545, R546): the first command that may go takes the lowest free slot. -/
def execDriveSubmit (d : Nat) (s : State) : Out :=
  match s.drive d with
  | none => .next s
  | some x =>
    if x.failed || decide (x.limit ≤ x.out.length) then .next s
    else match nextCmd (x.out.map (·.2)) x.waiting, (List.range x.limit).find? fun k => !(x.out.any fun o => o.1 == k) with
      | some c, some k => .next (driveIssue d x c k s)
      | _, _ => .next s

/-- A command of a connection that has ended in all its parts is answered: read data, then the status with DW0 and DW1. -/
def partDone (h cid status dw0 dw1 : Nat) (s : State) : State :=
  match s.stoCmd h cid with
  | none => s
  | some x =>
    let st := if x.status = 0 then status else x.status
    if 1 < x.left then modCmd h cid (fun x => { x with left := x.left - 1, status := st }) s
    else respond h cid dw0 dw1 st (if st = 0 && u8 x.sqe 0 == 2 then sendReadData h x x.data s else s)
/-- Plaintext of a command's range. -/
def putRange (h : Nat) (c : DrvCmd) (plain : Bytes) (s : State) : State :=
  partDone h c.cid 0 0 0 (modCmd h c.cid (fun x => { x with data := overwrite x.data c.at_ ((plain.drop c.skip).take c.take) }) s)
/-- Device slot of a namespace's key (R538). -/
def State.nsSlot (s : State) (b : Bytes) : Option Nat := if u8 b 1 < 16 then (s.tenant (u8 b 1)).keys.lookup (u16 b 32) else some (u16 b 32)
/-- XTS of blocks that start at a drive LBA, or the bytes themselves (R538). -/
def nsCrypt (s : State) (enc : Bool) (b : Bytes) (lba : Nat) (x : Bytes) : Bytes :=
  if nsXts b then xts enc (((s.nsSlot b).map s.slotKey).getD []) (u8 b 11) lba x else x
/-- Data that a drive has read (R582 for a fixity namespace): the records that cover it are read and judged. -/
def readDone (c : DrvCmd) (x : Bytes) (recs : Option Bytes) (s : State) : State :=
  match s.space c.ns with
  | none => s
  | some b =>
    let plain := nsCrypt s false b c.lba x
    match c.stripe, s.nsProfile b with
    | some k, some p =>
      let j0 := (c.lba - stripeLba p b k) * nsBlock b / p.chunk
      let n := plain.length / p.chunk
      match dmaGet pf0 (recordAddr p c.ns k j0) (64 * n) recs s with
      | (none, s) => partDone c.handle c.cid 0x06 0 0 s
      | (some r, s) =>
        let cls (i : Nat) : Nat := classify1 p (s.slotKey p.slot) (identity p (u8 b 34) (j0 + i) (nsObject b) k) (slice r (64 * i) 64) (slice plain (p.chunk * i) p.chunk) false
        let bad := (List.range n).filter fun i => cls i != 0
        if bad.isEmpty then putRange c.handle c plain s
        else partDone c.handle c.cid 0x06 0 0 (forEach bad (fun i s => chunkFault (cls i) (j0 + i) 0 2 (nsObject b) k s) s)
    | _, _ => putRange c.handle c plain s
/-- Work of DEV is accounted at a point (R456, R583). -/
def chargeDev (k cost : Nat) (s : State) : State := modPoint k (fun x => { x with served := tmod (0, 0, 0, 0) x.served 17 (fun c => (c.1 + cost, c.2.1 + 1, c.2.2)) }) s
/-- The stripe that session n has read from its drive is classified and, with AUTO_REPAIR, repaired (R583): records go to host memory at once,
chunks to the drive ahead of every other command. -/
def scrubRead (d n : Nat) (c : DrvCmd) (x : Bytes) (recs : Option Bytes) (s : State) : State :=
  match s.space c.ns, (s.space c.ns).bind s.nsProfile, c.stripe with
  | some b, some p, some k =>
    match dmaGet pf0 (recordAddr p c.ns k 0) (64 * p.n) recs s with
    | (none, s) => s
    | (some r, s) =>
      let plain := nsCrypt s false b c.lba x
      let st : Stripe := { p := p, num := u8 b 34, oid := nsObject b, stripe := k, key := s.slotKey p.slot, data := chunksOf p.chunk p.n plain, recs := chunksOf 64 p.n r, missing := [] }
      let l := st.judge ((s.scrub n).flags.testBit 0)
      let rows := l.zipIdx
      let s := chargeDev 0x106 x.length (chargeDev 0x105 x.length s)
      let s := forEach (rows.filter fun y => y.1.1 != 0) (fun y s => chunkFault y.1.1 y.2 y.1.2.1 3 (nsObject b) k s) s
      let s := forEach rows (fun y s => match y.1.2.2.1 with
        | some rec => (dmaPut pf0 (recordAddr p c.ns k y.2) rec s).2
        | none => s) s
      let cb := p.chunk / nsBlock b
      let back := rows.filterMap fun y => y.1.2.2.2.map fun data =>
        let lba := c.lba + y.2 * cb
        ({ handle := c.handle, cid := 0, op := 1, ns := c.ns, lba := lba, blocks := cb, data := nsCrypt s true b lba data, stripe := some k } : DrvCmd)
      let s := modDrive d (fun y => { y with waiting := back ++ y.waiting }) s
      let total := u64 b 24 / (stripeBlocks p b).1
      let bad := (l.filter fun y => y.1 != 0).length
      let mended := (l.filter fun y => y.2.1 == 1).length
      let last := decide (total ≤ k + 1)
      let s := modScrub n (fun z => { z with next := if last then 0 else k + 1, done := z.done + 1, passes := z.passes + b2n last, found := z.found + bad,
                                             repaired := z.repaired + mended, unrepaired := z.unrepaired + (bad - mended), waiting := false, reads := [(s.us, x.length)] }) s
      whenS (last && !(s.scrub n).flags.testBit 1) (endScrub n 0) s
  | _, _, _ => s
/-- A CQE of a command in slot k has been taken (R547, R581, R583): its status, and what reading its slot and its records returned. -/
def cqeTaken (d k : Nat) (c : DrvCmd) (status dw0 dw1 : Nat) (data recs : Option Bytes) (s : State) : State :=
  let scrub := decide (0x10000 ≤ c.handle)
  if c.late then s
  else if c.op == 2 then
    if c.dead then s
    else if status != 0 then (if scrub then s else partDone c.handle c.cid status dw0 dw1 s)
    else match s.drive d with
    | none => s
    | some x => match dmaGet pf0 (x.slotAddr k) (c.blocks * 2 ^ u8 x.raw 2) data s with
      | (none, s) => failDrive d 1 (if scrub then s else partDone c.handle c.cid 0x06 0 0 s)
      | (some b, s) => if scrub then scrubRead d (c.handle - 0x10000) c b recs s else readDone c b recs s
  else
    let (good, s) := match c.stripe, (s.space c.ns).bind s.nsProfile with
      | some n, some p => if status = 0 && !c.recs.isEmpty then dmaPut pf0 (recordAddr p c.ns n 0) c.recs.flatten s else (true, s)
      | _, _ => (true, s)
    if c.dead || scrub then s else partDone c.handle c.cid (if good then status else 0x06) dw0 dw1 s
/-- New CQEs of what the poll returned, up to the end of the queue: whether one was taken. -/
def takeCqes (d : Nat) : Nat → Bytes → List (Option Bytes) → List (Option Bytes) → Bool → State → Bool × State
  | 0, _, _, _, took, s => (took, s)
  | n + 1, b, data, recs, took, s =>
    match s.drive d with
    | none => (took, s)
    | some x =>
      if u16 b 14 % 2 != b2n x.phase then (took, s)
      else
        let k := u16 b 12
        let head := (x.head + 1) % u16 x.raw 6
        let s := modDrive d (fun x => { x with head := head, phase := if head = 0 then !x.phase else x.phase, out := x.out.filter fun o => o.1 != k }) s
        match x.out.lookup k with
        | none => if head = 0 then (true, s) else takeCqes d n (b.drop 16) data recs true s
        | some c =>
          let s := cqeTaken d k c (u16 b 14 / 2) (u32 b 0) (u32 b 4) (data.headD none) (recs.headD none) s
          if head = 0 then (true, s) else takeCqes d n (b.drop 16) (data.drop 1) (recs.drop 1) true s
/-- DRIVE_CQ_POLL (R547): cqes is what the 64-byte read returned, data and recs what the reads of slots and records returned, one of each per CQE. -/
def execDriveCqPoll (d : Nat) (cqes : Option Bytes) (data recs : List (Option Bytes)) (s : State) : Out :=
  match s.drive d with
  | none => .next s
  | some x =>
    if x.out.isEmpty then .next s
    else match dmaGet pf0 (u64 x.raw 24 + 16 * x.head) 64 cqes s with
    | (none, s) => .next (failDrive d 1 s)
    | (some b, s) =>
      match takeCqes d 4 b data recs false s with
      | (false, s) => .next s
      | (true, s) =>
        let head := ((s.drive d).map (·.head)).getD 0
        match dmaPut pf0 (u64 x.raw 32) (putLe 4 head) s with
        | (true, s) => .next s
        | (false, s) => .next (failDrive d 1 s)
/-- DRIVE_TIMEOUT (R548) of the command in a slot. -/
def execDriveTimeout (d slot : Nat) (s : State) : Out :=
  match s.drive d with
  | none => .next s
  | some x =>
    match x.out.lookup slot with
    | none => .next s
    | some c =>
      if c.late then .next s
      else
        let late (o : Nat × DrvCmd) : Nat × DrvCmd := if o.1 == slot then (o.1, { o.2 with late := true }) else o
        let s := modDrive d (fun x => { x with timeouts := x.timeouts + 1, out := x.out.map late }) s
        let s := logEvent 14 0x8003 (detail [(16, 1, d), (20, 2, c.cid)]) s
        let s := if c.dead then s else partDone c.handle c.cid 0x06 0 0 s
        .next (whenS (decide (3 ≤ x.timeouts + 1)) (failDrive d 0) s)

/-! ### Backends of a target (R536-R541, R546, R581, R582) -/

/-- SLBA and number of blocks of an SQE. -/
def sqeRange (sqe : Bytes) : Nat × Nat := (u64 sqe 40, u16 sqe 48 + 1)
/-- Drive commands of a write to whole stripes. -/
def stripeWrites (s : State) (h : Nat) (x : StoCmd) (b : Bytes) (p : Profile) : List DrvCmd :=
  let sd := (stripeBlocks p b).1
  let (lba, n) := sqeRange x.sqe
  (List.range (n / sd)).map fun i =>
    let k := lba / sd + i
    let all := rsEncode p (chunksOf p.chunk p.k (x.data.drop (i * p.k * p.chunk)))
    let key := s.slotKey p.slot
    { handle := h, cid := x.cid, op := 1, ns := x.ns, lba := stripeLba p b k, blocks := (stripeBlocks p b).2,
      data := nsCrypt s true b (stripeLba p b k) all.flatten, stripe := some k,
      recs := all.zipIdx.map fun y => freshRecord p (u8 b 34) y.2 (nsObject b) k key y.1 }
/-- Drive commands of a read: the whole chunks that cover its range, one command for each stripe touched. -/
def stripeReads (h : Nat) (x : StoCmd) (b : Bytes) (p : Profile) : List DrvCmd :=
  let sd := (stripeBlocks p b).1
  let cb := p.chunk / nsBlock b
  let (lba, n) := sqeRange x.sqe
  (List.range ((lba + n - 1) / sd + 1 - lba / sd)).map fun i =>
    let k := lba / sd + i
    let from_ := max lba (k * sd); let to_ := min (lba + n) ((k + 1) * sd)
    let c0 := (from_ - k * sd) / cb; let c1 := (to_ - 1 - k * sd) / cb
    { handle := h, cid := x.cid, op := 2, ns := x.ns, lba := stripeLba p b k + c0 * cb, blocks := (c1 - c0 + 1) * cb,
      at_ := (from_ - lba) * nsBlock b, skip := (from_ - k * sd - c0 * cb) * nsBlock b, take := (to_ - from_) * nsBlock b, stripe := some k }
/-- The drive commands of a command. -/
def driveCmds (s : State) (h : Nat) (x : StoCmd) (b : Bytes) : List DrvCmd :=
  let (lba, n) := sqeRange x.sqe
  match u8 x.sqe 0, s.nsProfile b with
  | 1, some p => stripeWrites s h x b p
  | 2, some p => stripeReads h x b p
  | 1, none => [{ handle := h, cid := x.cid, op := 1, ns := x.ns, lba := u64 b 16 + lba, blocks := n, data := nsCrypt s true b (u64 b 16 + lba) x.data }]
  | 2, none => [{ handle := h, cid := x.cid, op := 2, ns := x.ns, lba := u64 b 16 + lba, blocks := n, take := n * nsBlock b }]
  | _, _ => [{ handle := h, cid := x.cid, op := 0, ns := x.ns, lba := 0, blocks := 0 }]
/-- A command whose data are complete goes to its backend. -/
def toBackend (h cid : Nat) (s : State) : State :=
  match s.conn h, s.stoCmd h cid with
  | some _, some x =>
    match s.space x.ns with
    | none => respond h cid 0 0 0x400B s
    | some b =>
      if x.badData then respond h cid 0 0 0x22 s
      else if u8 b 8 == 1 then post h 1 0 cid 0 (x.sqe ++ x.data) x.data.length (modCmd h cid (fun x => { x with phase := 2 }) s)
      else if (s.drive (u8 b 9)).all (·.failed) || (nsXts b && ((s.nsSlot b).bind fun d => s.cry.slots.lookup d).map (·.type) != some 2) || (s.nsProfile b).any (fun p => !s.hmacOk p) then
        respond h cid 0 0 0x06 s
      else
        let l := driveCmds s h x b
        let s := modCmd h cid (fun y => { y with phase := 1, left := l.length, data := if u8 x.sqe 0 == 2 then zeros y.len else [] }) s
        modDrive (u8 b 9) (fun y => { y with waiting := y.waiting ++ l }) s
  | _, _ => s
/-- Ask for write data that is still to come: R2Ts, at most MAXR2T at a time, or an RDMA READ (R525, R532). -/
def askData (h cid : Nat) : Nat → State → State
  | 0, s => s
  | n + 1, s =>
    match s.conn h, s.stoCmd h cid with
    | some c, some x =>
      if x.len ≤ x.asked then s
      else if !c.tcp then
        roceRead h (keyedSgl x.sqe).1 (keyedSgl x.sqe).2 (x.len - x.asked) cid x.asked (modCmd h cid (fun x => { x with asked := x.len }) s)
      else if u8 c.raw 7 ≤ x.r2ts.length then s
      else
        let k := min c.maxData (x.len - x.asked)
        let tag := x.asked / max 1 c.maxData
        let s := modCmd h cid (fun y => { y with asked := x.asked + k, r2ts := y.r2ts ++ [(tag, x.asked, k)] }) s
        askData h cid n (connSend h (c.pdu 9 0 24 (putLe 2 cid ++ putLe 2 tag ++ putLe 4 x.asked ++ putLe 4 k) []) s)
    | _, _ => s
/-- Ask for more, or go on when all has come. -/
def gather (h cid : Nat) (s : State) : State :=
  match s.stoCmd h cid with
  | none => s
  | some x => if x.len ≤ x.got then toBackend h cid s else askData h cid 17 s
/-- Put received write data at an offset. -/
def takeData (h cid off : Nat) (data : Bytes) (good : Bool) (s : State) : State :=
  gather h cid (modCmd h cid (fun x => { x with data := overwrite x.data off data, got := x.got + data.length, badData := x.badData || !good }) s)
/-- The checks of R536 and Table 14-6 on a capsule, in the table's order after the tenant's state: an NVMe status. -/
def capsuleFault (s : State) (c : Conn) (sqe : Bytes) (good : Bool) : Option Nat :=
  let op := u8 sqe 0
  let (lba, n) := sqeRange sqe
  let active := c.fn == pf0 || (match (s.vf c.fn).tenant with
    | some t => (s.tenant t).state == 1
    | none => false)
  match (s.spacesOf c.fn).find? fun e => e.nsid == u32 sqe 4 with
  | none => if active then some 0x400B else some 0x82
  | some e =>
    match s.space e.index with
    | none => some 0x400B
    | some b =>
      let ranged := [1, 2, 4, 5, 8, 12].contains op
      let moves := if op == 1 || op == 2 then n * nsBlock b else if op % 4 == 0 then 0 else if c.tcp then u32 sqe 32 else leAt sqe 32 3
      let aligned := (s.nsProfile b).all fun p => lba % (stripeBlocks p b).1 == 0 && n % (stripeBlocks p b).1 == 0
      if !active then some 0x82
      else if e.flags.testBit 0 && [1, 4, 8, 9].contains op then some 0x4020
      else if ranged && decide (u64 b 24 < lba + n) then some 0x4080
      else if 1048576 < moves then some 0x4002
      else if u8 b 8 == 2 && 2 < op then some 0x4001
      else if op == 1 && !aligned then some 0x4002
      else if !good then some 0x22
      else none
/-- A capsule on a target connection (R525, R536). -/
def capsule (h : Nat) (p : Bytes) (s : State) : State :=
  match s.conn h with
  | none => s
  | some c =>
    let sqe := slice p 8 64
    let cid := u16 sqe 2
    let (data, good) := c.pduData p
    if 8192 < data.length then pduFatal h 2 5 (p.take 24) s
    else if c.cmds.any fun x => x.cid == cid then let (st, s) := freeNat 32768 s; answer h cid 0 0 st s
    else match capsuleFault s c sqe good with
    | some st => answer h cid 0 0 st s
    | none =>
      match (s.spacesOf c.fn).find? fun e => e.nsid == u32 sqe 4 with
      | none => s
      | some e =>
        let op := u8 sqe 0
        let block := ((s.space e.index).map nsBlock).getD 0
        let len := if op == 1 || op == 2 then (sqeRange sqe).2 * block else if op % 4 == 0 then 0 else if c.tcp then u32 sqe 32 else leAt sqe 32 3
        let want := if op % 4 == 1 then len else 0
        let x : StoCmd := { cid := cid, sqe := sqe, ns := e.index, len := if want = 0 then len else want, data := (data ++ zeros want).take want,
                            got := if want = 0 then len else min want data.length, asked := if want = 0 then len else min want data.length }
        gather h cid (modConn h (fun c => { c with cmds := c.cmds ++ [x] }) s)

end Sys2Proof.Machine
end

