-- ==== Sys2Proof/Machine/StoConn.lean ====
section
/-!
DEFINITION. Sys2Proof/Machine/StoConn.lean: the storage ring entries and what arrives on connections (ch 14).
-/
namespace Sys2Proof.Machine
open Sys2Proof

/-! ### Entries (Table 14-1) -/

/-- HANDLE of a storage entry. -/
def entHandle (e : Bytes) : Nat := u16 (entParams e) 0
/-- Complete a storage entry. -/
def stoFinish (g seq status len mask aux info : Nat) (s : State) : State :=
  match s.workOf g seq with
  | some w => finishEntry g seq { user := entUser w.entry, length := len, status := status, kind := entKind w.entry, segMask := mask, rxInfo := info, aux := aux } s
  | none => s
/-- LEN range of a segment of a storage kind. -/
def stoLen (kind i : Nat) : Nat × Nat :=
  match kind with
  | 0x10 | 0x11 => (128, 128)
  | 0x12 => (1, 256)
  | 0x13 => (4096, 65536)
  | 0x18 => if i = 0 then (64, 64) else (1, 1048576)
  | _ => (1, 1048576)
/-- Segments that the engine reads: the buffers of CONN_DETACH and STO_POST, and the data of an INI_CMD that reads, are written. -/
def stoReads (e : Bytes) : List Nat :=
  match entKind e with
  | 0x11 | 0x13 => []
  | _ => List.range (min 2 (entSegs e))
/-- A storage entry that has passed its checks goes to point 0x05 with what its segments hold; one with a segment at fault fails. -/
def stoRun (g seq : Nat) (s : State) : State :=
  match s.ring g, s.workOf g seq with
  | some r, some w =>
    let e := w.entry
    let segs := List.range (min 2 (entSegs e))
    let bad := segs.filter fun i => !inR (entLen e i) (stoLen (entKind e) i).1 (stoLen (entKind e) i).2
    if !bad.isEmpty then stoFinish g seq stBadParam 0 (maskOf bad) 0 0 s
    else if entNsid e != 0 then malformed g seq s
    else if entKind e == 0x13 then flushPosts s
    else match fetchBuffers g seq ((stoReads e).map (entLen e)) s with
    | (false, s) => s
    | (true, s) => enqueueAt 0x105 (s.ownerOf r.fn) 0 (entryCost e) false (.entry g seq) (readSegs g seq (stoReads e) s)
  | _, _ => s

/-- Values of a state block within the ranges of Table 14-2. -/
def blockOk (b : Bytes) : Bool :=
  let tcp := u8 b 0 == 1 || u8 b 0 == 2
  inR (u8 b 0) 1 3 && (u8 b 1 == 4 || u8 b 1 == 6) && decide (u8 b 2 < 8) && inR (u16 b 4) 1 1024 &&
    (if tcp then inR (u8 b 7) 1 16 && decide (u8 b 70 ≤ 14) && decide (u8 b 71 ≤ 14) && inR (u16 b 72) 536 9160 && inR (u32 b 84) 4096 1048576 && u32 b 84 % 4 == 0
     else decide (u8 b 70 ≤ 7) && decide (u8 b 71 ≤ 7) && inR (u8 b 72) 3 5 && inR (u8 b 73) 1 20 && decide (0x100 ≤ beAt b 80 4 % 2 ^ 24))
/-- A connection as its state block describes it. -/
def freshConn (fn engine : Nat) (b : Bytes) : Conn :=
  let c : Conn := { fn := fn, raw := b, engine := engine }
  if c.tcp then
    { c with una := u32 b 60, nxt := u32 b 60, rcv := u32 b 64, adv := u32 b 64, wnd := u16 b 68 * 2 ^ u8 b 70, tsRecent := u32 b 76,
             txSa := if c.flag 2 then some (u16 b 88) else none, rxSa := if c.flag 2 then some (u16 b 90) else none }
  else { c with una := beAt b 60 4 % 2 ^ 24, nxt := beAt b 60 4 % 2 ^ 24, rcv := beAt b 64 4 % 2 ^ 24 }
/-- An SA is of a TLS kind, and its key slot belongs to the connection's owner. -/
def State.tlsSa (s : State) (fn i kind : Nat) : Bool :=
  (s.sa i).any fun x => x.kind == kind && (s.cry.slots.lookup x.slot).any fun k => k.owner == s.ownerOf fn
/-- A connection other than h names an SA. -/
def State.saNamed (s : State) (h : Option Nat) (i : Nat) : Bool := s.sto.conns.any fun c => some c.1 != h && (c.2.txSa == some i || c.2.rxSa == some i)
/-- The address fields of two connections collide (Table 14-3, check 5). -/
def sameConn (a b : Conn) : Bool :=
  if a.tcp != b.tcp then false
  else if a.tcp then a.ver == b.ver && a.ip 24 == b.ip 24 && a.ip 40 == b.ip 40 && slice a.raw 56 4 == slice b.raw 56 4
  else a.qpn == b.qpn
/-- The checks of Table 14-3 in order. -/
def attachCheck (s : State) (fn : Nat) (c : Conn) : Option Nat :=
  let b := c.raw
  let saBad := c.flag 2 && !(s.tlsSa fn (u16 b 88) 0x20 && s.tlsSa fn (u16 b 90) 0x21)
  let busy := s.sto.conns.any (fun x => sameConn c x.2) || (c.flag 2 && (s.saNamed none (u16 b 88) || s.saNamed none (u16 b 90)))
  let qd := s.sto.conns.foldl (fun n x => n + x.2.qd) 0
  if !blockOk b then some stBadParam
  else if !((s.ringAt fn (u8 b 6)).any fun r => r.2.cls == 4) then some stBadParam
  else if fn != pf0 && (spoofCheck (s.tenant (s.ownerOf fn)) (u8 b 2) (c.packet (if c.tcp then 6 else 17) 0 (zeros 20))).isSome then some stSpoof
  else if saBad then some stDenied
  else if busy then some stBusy
  else if decide (8192 ≤ s.sto.conns.length) || decide (65536 < qd + c.qd) then some stNoResource
  else none
/-- The ON engine with the fewest attached connections, the lowest number on a tie (R510). -/
def State.connEngine (s : State) : Option Nat :=
  let load (u : Nat) : Nat := (s.sto.conns.filter fun c => c.2.engine == u).length
  (s.unitsOn 0x105).foldl (fun m u => match m with
    | none => some u
    | some v => if load u < load v then some u else some v) none
/-- The k-th free handle. -/
def State.freeHandle (s : State) (k : Nat) : Nat := s.sto.conns.foldl (fun v c => if c.1 ≤ v then v + 1 else v) k
/-- CONN_ATTACH at its engine (R514, R515): the handle is a free one (log 53). -/
def attach (g seq : Nat) (r : Ring) (w : RingWork) (s : State) : State :=
  match w.data.getD 0 none with
  | none => stoFinish g seq stFault 0 1 0 0 s
  | some b =>
    let c := freshConn r.fn 0 b
    match attachCheck s r.fn c, s.connEngine with
    | some st, _ => stoFinish g seq st 0 1 0 0 s
    | none, none => stoFinish g seq stFenced 0 1 0 0 s
    | none, some u =>
      let (k, s) := freeNat (8192 - s.sto.conns.length) s
      let h := s.freeHandle k
      stoFinish g seq stOk 0 0 h 0 (modSto (fun x => { x with conns := tins h { c with engine := u } x.conns }) s)

/-- Everything a connection has sent is acknowledged. -/
def Conn.quiet (c : Conn) : Bool := c.sent.isEmpty && c.unacked.isEmpty
/-- The final state block of a connection (R516). -/
def Conn.finalBlock (c : Conn) : Bytes :=
  if c.tcp then
    let b := overwrite (overwrite c.raw 60 (putLe 4 c.nxt ++ putLe 4 c.rcv ++ putLe 2 (c.wnd / 2 ^ u8 c.raw 70))) 76 (putLe 4 c.tsRecent)
    overwrite b 88 (putLe 2 (c.txSa.getD (u16 b 88)) ++ putLe 2 (c.rxSa.getD (u16 b 90)))
  else overwrite c.raw 60 (putBe 4 c.nxt ++ putBe 4 c.rcv)
/-- CONN_DETACH at its engine (R516): the entry waits for DETACH_ACKED or DETACH_TIMEOUT. -/
def detachStart (g seq h : Nat) (c : Conn) (s : State) : State :=
  if !c.cmds.isEmpty || c.detach.isSome then stoFinish g seq stBusy 0 1 0 0 s else modConn h (fun c => { c with detach := some (g, seq) }) s
/-- DETACH_ACKED (R516): the final state block is written and the steering entry removed. -/
def execDetachAcked (h : Nat) (s : State) : Out :=
  match s.conn h with
  | none => .next s
  | some c =>
    match c.detach with
    | none => .next s
    | some (g, seq) =>
      if !c.quiet then .next s
      else
        let s := connRemove h (modConn h (fun c => { c with detach := none }) s)
        match s.workOf g seq with
        | none => .next s
        | some w =>
          let (good, s) := dmaPut c.fn (entAddr w.entry 0) c.finalBlock s
          .next (if good then stoFinish g seq stOk 128 0 0 0 s else stoFinish g seq stFault 0 1 0 0 s)
/-- DETACH_TIMEOUT (R516): 1 s has passed without the acknowledgement. -/
def execDetachTimeout (h : Nat) (s : State) : Out :=
  match s.conn h with
  | none => .next s
  | some c =>
    match c.detach with
    | none => .next s
    | some (g, seq) =>
      if c.quiet then .next s
      else
        let s := if c.tcp then tcpRst h s else s
        .next (stoFinish g seq stTimeout 0 1 0 0 (connRemove h (modConn h (fun c => { c with detach := none }) s)))

/-- CONN_REKEY at its engine (R530): DIR 1 sends the KeyUpdate under the old SA first. -/
def rekey (g seq h : Nat) (c : Conn) (w : RingWork) (s : State) : State :=
  let p := entParams w.entry
  let dir := u8 p 2; let sa := u16 p 4
  let n := min 2 (entSegs w.entry)
  if !c.flag 2 || 1 < dir || (dir == 0 && n != 0) then malformed g seq s
  else if !(s.tlsSa c.fn sa (if dir == 1 then 0x20 else 0x21)) || s.saNamed (some h) sa then stoFinish g seq stDenied 0 (2 ^ n - 1) 0 0 s
  else if dir == 0 then stoFinish g seq stOk 0 0 0 0 (connTake h (modConn h (fun c => { c with rxSa := some sa, paused := false }) s))
  else
    let r : Option (Bytes × State) := if n = 0 then some ([], s) else match w.data.getD 0 none, c.txSa with
      | some b, some old => match tlsSeal old 22 1 b s with
        | (some r, s) => some (r, s)
        | (none, s) => some ([], s)
      | _, _ => none
    match r with
    | none => stoFinish g seq stFault 0 1 0 0 s
    | some (r, s) =>
      let s := modConn h (fun c => { c with queue := c.queue ++ r, txSa := some sa, softTold := false }) s
      stoFinish g seq stOk 0 0 0 0 (tcpGo h (softNote h (tlsFlush h (c.held.length + 1) s)))

/-- TGT_RESP at its engine (R542). -/
def tgtResp (g seq fn : Nat) (w : RingWork) (s : State) : State :=
  let p := entParams w.entry
  let h := u16 p 0; let cid := u16 p 2
  let n := min 1 (entSegs w.entry)
  let ghost := s.sto.ghosts.contains (fn, h, cid)
  let unghost (s : State) : State := modSto (fun x => { x with ghosts := x.ghosts.filter (· != (fn, h, cid)) }) s
  match s.conn h with
  | none => if ghost then stoFinish g seq stAborted 0 n 0 0 (unghost s) else stoFinish g seq stDenied 0 n 0 0 s
  | some c =>
    if c.fn != fn then (if ghost then stoFinish g seq stAborted 0 n 0 0 (unghost s) else stoFinish g seq stDenied 0 n 0 0 s)
    else match (s.stoCmd h cid).filter fun x => x.phase == 2 with
    | none => if ghost then stoFinish g seq stAborted 0 n 0 0 (unghost s) else stoFinish g seq stBadParam 0 n 0 0 s
    | some x =>
      if n = 1 && (w.data.getD 0 none).isNone then stoFinish g seq stFault 0 1 0 0 s
      else
        let b := (w.data.getD 0 none).getD []
        let s := sendReadData h x b s
        let s := respond h cid (u32 p 4) (u32 p 8) (u16 p 12 % 32768) s
        stoFinish g seq stOk b.length 0 0 0 s

/-- INI_CMD at its engine (R549): the SQE goes out in a CapsuleCmd, with its data where R526 lets it. -/
def iniCmd (g seq h : Nat) (c : Conn) (w : RingWork) (s : State) : State :=
  let e := w.entry
  match w.data.getD 0 none with
  | none => stoFinish g seq stFault 0 1 0 0 s
  | some sqe =>
    let cid := u16 sqe 2
    let two := entSegs e == 2
    let out := u8 sqe 0 % 4 == 1 && two
    if c.proto != 2 || (c.cmds.any fun x => x.cid == cid) || decide (c.qd ≤ c.cmds.length) then malformed g seq s
    else if out && (w.data.getD 1 none).isNone then stoFinish g seq stFault 0 2 0 0 s
    else
      let data := if out then (w.data.getD 1 none).getD [] else []
      let inline := out && decide (data.length ≤ 8192) && decide (64 + data.length ≤ 16 * u32 c.raw 80)
      let x : StoCmd := { cid := cid, sqe := sqe, len := if two then entLen e 1 else 0, data := data, phase := 3, entry := some (g, seq) }
      let s := modConn h (fun c => { c with cmds := c.cmds ++ [x] }) s
      connSend h (c.pdu 4 0 72 sqe (if inline then data else [])) s
/-- A storage entry at its engine (R517). -/
def stoEntry (g seq : Nat) (s : State) : State :=
  match s.ring g, s.workOf g seq with
  | some r, some w =>
    let e := w.entry
    let h := entHandle e
    let denied := stoFinish g seq stDenied 0 (2 ^ min 2 (entSegs e) - 1) 0 0 s
    if entKind e == 0x10 then attach g seq r w s
    else if entKind e == 0x14 then tgtResp g seq r.fn w s
    else match s.conn h with
    | none => denied
    | some c =>
      if c.fn != r.fn then denied
      else match entKind e with
      | 0x11 => detachStart g seq h c s
      | 0x12 => rekey g seq h c w s
      | _ => iniCmd g seq h c w s
  | _, _ => s

/-- A CONN_ATTACH entry arrives. -/
def execEntryConnAttach (g : Nat) (entry : Bytes) (data : List (Option Bytes)) (s : State) : Out := .next (arrive g 0x10 entry data (stoRun g) s)
/-- A CONN_DETACH entry arrives. -/
def execEntryConnDetach (g : Nat) (entry : Bytes) (data : List (Option Bytes)) (s : State) : Out := .next (arrive g 0x11 entry data (stoRun g) s)
/-- A CONN_REKEY entry arrives. -/
def execEntryConnRekey (g : Nat) (entry : Bytes) (data : List (Option Bytes)) (s : State) : Out := .next (arrive g 0x12 entry data (stoRun g) s)
/-- A STO_POST entry arrives: its buffer is posted, and what waits is written (R540, R541). -/
def execEntryStoPost (g : Nat) (entry : Bytes) (data : List (Option Bytes)) (s : State) : Out := .next (arrive g 0x13 entry data (stoRun g) s)
/-- A TGT_RESP entry arrives. -/
def execEntryTgtResp (g : Nat) (entry : Bytes) (data : List (Option Bytes)) (s : State) : Out := .next (arrive g 0x14 entry data (stoRun g) s)
/-- An INI_CMD entry arrives. -/
def execEntryIniCmd (g : Nat) (entry : Bytes) (data : List (Option Bytes)) (s : State) : Out := .next (arrive g 0x18 entry data (stoRun g) s)

/-! ### TCP (R518-R520) -/

/-- A frame leaves its engine, behind every earlier one of its connection; f goes on with the connection's handle and the frame. -/
def takeFrame (id : Nat) (sel : Conn → Bytes → Bool) (f : Nat → Conn → Bytes → State → State) (s : State) : State :=
  match s.inUnit 0x105 id with
  | none => s
  | some i =>
    match i.job with
    | .store fr =>
      match s.connOf fr.bytes with
      | none => cadRelease fr.bufs (outOfUnit 0x105 i s)
      | some (h, c) =>
        let earlier := ((s.point 0x105).serving.takeWhile fun j => j.id != id).filterMap fun j => j.job.frame?
        if !sel c fr.bytes || earlier.any fun e => connMatch c e.bytes then s
        else f h c fr.bytes (cadRelease fr.bufs (outOfUnit 0x105 i s))
    | _ => s
/-- TCP_SEGMENT_RECEIVED (R518): the segment of item id. -/
def execTcpSegmentReceived (id : Nat) (s : State) : Out := .next (takeFrame id (fun c _ => c.tcp) (fun h _ b s => tcpReceive h b s) s)
/-- RETRANSMISSION_TIMEOUT (R519). -/
def execRetransmissionTimeout (h : Nat) (s : State) : Out :=
  match s.conn h with
  | none => .next s
  | some c =>
    if !c.tcp || c.sent.isEmpty then .next s
    else if c.timeouts + 1 = 8 then .next (connReset h 3 s)
    else .next (tcpResend h (modConn h (fun c => { c with timeouts := c.timeouts + 1, rto := min 1000000 (2 * c.rto) }) s))

/-! ### PDUs (R522-R526, R536-R540, R549) -/

/-- Take the first waiting PDU when it is of a type. -/
def takePdu (h : Nat) (types : List Nat) (f : Conn → Bytes → State → State) (s : State) : State :=
  match s.conn h with
  | none => s
  | some c =>
    match c.pdus with
    | [] => s
    | p :: t => if types.contains (u8 p 0) then f c p (modConn h (fun c => { c with pdus := t }) s) else s
/-- A data digest that does not match is counted. -/
def digestSeen (h : Nat) (good : Bool) (s : State) : State := if good then s else modConn h (fun c => { c with digests := (c.digests.1, c.digests.2 + 1) }) s
/-- CAPSULE_CMD (R536). -/
def execCapsuleCmd (h : Nat) (s : State) : Out := .next (takePdu h [4] (fun c p s => capsule h p (digestSeen h (c.pduData p).2 s)) s)
/-- H2C_DATA (R525): data for an R2T. -/
def execH2cData (h : Nat) (s : State) : Out :=
  .next (takePdu h [6] (fun c p s =>
    let cid := u16 p 8; let tag := u16 p 10; let off := u32 p 12; let len := u32 p 16
    let (data, good) := c.pduData p
    match (s.stoCmd h cid).bind fun x => x.r2ts.find? fun r => r.1 == tag with
    | none => pduFatal h 2 5 (p.take 24) s
    | some r =>
      if len != data.length || off != r.2.1 || decide (r.2.2 < len) then pduFatal h 2 5 (p.take 24) s
      else
        let next := if len = r.2.2 then [] else [(tag, off + len, r.2.2 - len)]
        let s := modCmd h cid (fun x => { x with r2ts := x.r2ts.filter (fun y => y.1 != tag) ++ next }) (digestSeen h good s)
        takeData h cid off data good s) s)
/-- An initiator command ends with what a CQE says, or after C2HData with SUCCESS: DW0, DW1 and the status field (R549, R524). -/
def iniDone (h : Nat) (x : StoCmd) (dw0 dw1 status : Nat) (s : State) : State :=
  let s := modConn h (fun c => { c with cmds := c.cmds.filter fun y => y.cid != x.cid }) s
  match x.entry with
  | none => s
  | some (g, seq) =>
    let len := if x.data.isEmpty then x.got else x.data.length
    if x.gone then stoFinish g seq stFault len 2 0 dw0 s
    else stoFinish g seq stOk len 0 (x.cid + 65536 * (if x.badData then 0x22 else status) + 2 ^ 32 * dw1) dw0 s
/-- C2H_DATA (R526): read data go to the entry's data buffer. -/
def execC2hData (h : Nat) (s : State) : Out :=
  .next (takePdu h [7] (fun c p s =>
    let cid := u16 p 8; let off := u32 p 12; let len := u32 p 16
    let (data, good) := c.pduData p
    match s.stoCmd h cid with
    | none => pduFatal h 2 5 (p.take 24) s
    | some x =>
      if len != data.length || decide (x.len < off + len) then pduFatal h 2 5 (p.take 24) s
      else
        let addr := (x.entry.bind fun e => (s.workOf e.1 e.2).map fun w => entAddr w.entry 1).getD 0
        let (put, s) := if data.isEmpty then (true, s) else dmaPut c.fn (addr + off) data (digestSeen h good s)
        let s := modCmd h cid (fun x => { x with got := x.got + data.length, badData := x.badData || !good, gone := x.gone || !put }) s
        if (u8 p 1).testBit 3 then (match s.stoCmd h cid with
          | some x => iniDone h x 0 0 0 s
          | none => s)
        else s) s)
/-- CAPSULE_RESP (R549). -/
def execCapsuleResp (h : Nat) (s : State) : Out :=
  .next (takePdu h [5] (fun _ p s =>
    match s.stoCmd h (u16 p 20) with
    | none => pduFatal h 2 5 (p.take 24) s
    | some x => iniDone h x (u32 p 8) (u32 p 12) (u16 p 22 / 2) s) s)
/-- TERM_REQ (R522): the connection closes with FATAL_PDU. -/
def execTermReq (h : Nat) (s : State) : Out := .next (takePdu h [2, 3] (fun _ _ s => connClose h 5 s) s)

/-! ### RoCEv2 (R532-R534) -/

/-- A retry of a QP: it closes when its count is exhausted (R534), otherwise everything from a PSN on is sent again. -/
def roceRetry (h psn : Nat) (rnr : Bool) (s : State) : State :=
  match s.conn h with
  | none => s
  | some c =>
    let n := (if rnr then c.retries.2 else c.retries.1) + 1
    if u8 c.raw (if rnr then 71 else 70) < n then connClose h 0x0B s
    else roceResend h psn (modConn h (fun c => { c with retries := if rnr then (c.retries.1, n) else (n, c.retries.2) }) s)
/-- A congestion notification for a marked frame, at most one in any 50 µs (R533). -/
def roceMarked (h : Nat) (c : Conn) (b : Bytes) (s : State) : State :=
  let q := parse b
  let tos := if q.ver == 4 then u8 b (q.l3 + 1) else beAt b q.l3 2 / 16 % 256
  if tos % 4 == 3 && c.cnpAt.all (fun t => decide (t + 50 ≤ s.us)) then
    rocePlain h 0x81 0 [] (zeros 16) (modConn h (fun c => { c with cnpAt := some s.us }) s)
  else s
/-- A SEND packet of the peer: in order it extends the message, whose last packet makes a capsule (R532). -/
def roceSendIn (h : Nat) (c : Conn) (op psn : Nat) (ackReq : Bool) (payload : Bytes) (s : State) : State :=
  if psn != c.rcv then
    (if sub24 c.rcv psn < 2 ^ 23 then roceAck h ((c.rcv + 2 ^ 24 - 1) % 2 ^ 24) 0 s else roceAck h c.rcv 0x60 s)
  else
    let last := op == 2 || op == 4
    let msg := (if op == 0 || op == 4 then [] else c.msg) ++ payload
    let pdu := [4, 0, 72, 72] ++ putLe 4 (8 + msg.length) ++ msg
    let s := modConn h (fun c => { c with rcv := (psn + 1) % 2 ^ 24, msg := if last then [] else msg, msn := if last then (c.msn + 1) % 2 ^ 24 else c.msn,
                                          pdus := if last then c.pdus ++ [pdu] else c.pdus, bytes := (c.bytes.1, c.bytes.2 + payload.length) }) s
    if ackReq then roceAck h psn 0 s else s
/-- A response to an RDMA READ: data for the command that asked (R532). -/
def roceReadIn (h : Nat) (c : Conn) (psn : Nat) (payload : Bytes) (s : State) : State :=
  match c.reads.find? fun r => r.1 == psn with
  | none => s
  | some r =>
    let rest := c.reads.filter (· != r)
    let done := psn == r.2.1
    let s := modConn h (fun c => { c with reads := if done then rest else ((psn + 1) % 2 ^ 24, r.2.1, r.2.2.1, r.2.2.2 + payload.length) :: rest,
                                          bytes := (c.bytes.1, c.bytes.2 + payload.length) }) s
    takeData h r.2.2.1 r.2.2.2 payload true (if done then roceAcked h psn s else s)
/-- An acknowledgement with its AETH. -/
def roceAckIn (h psn syndrome : Nat) (s : State) : State :=
  match syndrome / 32 % 4 with
  | 0 => roceAcked h psn s
  | 1 => roceRetry h psn true s
  | 3 => if syndrome % 32 = 0 then roceRetry h psn false (roceAcked h ((psn + 2 ^ 24 - 1) % 2 ^ 24) s) else connClose h 0x0B s
  | _ => s
/-- A RoCEv2 packet whose ICRC holds; operations that Table 14-4 does not support are dropped. -/
def roceReceive (h : Nat) (c : Conn) (b : Bytes) (s : State) : State :=
  let q := parse b
  let o := q.l4 + 8
  let op := u8 b o
  let psn := beAt b (o + 9) 3
  let ext := if [13, 15, 16, 17].contains op then 4 else 0
  let pad := u8 b (o + 1) / 16 % 4
  let body := (b.take (q.total - 4)).drop (o + 12 + ext)
  let payload := body.take (body.length - pad)
  if (b.take q.total).drop (q.total - 4) != icrc b then s
  else
    let s := roceMarked h c b s
    match op with
    | 0 | 1 | 2 | 4 => roceSendIn h c op psn ((u8 b (o + 8)).testBit 7) payload s
    | 13 | 14 | 15 | 16 => roceReadIn h c psn payload s
    | 17 => roceAckIn h psn (u8 b (o + 12)) s
    | _ => s
/-- The packet is a CNP. -/
def isCnp (b : Bytes) : Bool := u8 b ((parse b).l4 + 8) == 0x81
/-- ROCE_PACKET_RECEIVED (R532): the packet of item id. -/
def execRocePacketReceived (id : Nat) (s : State) : Out := .next (takeFrame id (fun c b => !c.tcp && !isCnp b) roceReceive s)
/-- Port rate in Mb/s, the full transmit rate of a QP. -/
def State.portRate (s : State) : Nat := modeRate s.net.mode
/-- CNP_RECEIVED (R533): the rate halves. -/
def execCnpReceived (id : Nat) (s : State) : Out :=
  .next (takeFrame id (fun c b => !c.tcp && isCnp b) (fun h c _ s => modConn h (fun x => { x with rate := max 1 ((if c.rate = 0 then s.portRate else c.rate) / 2) }) s) s)
/-- ROCE_RATE_RECOVERY (R533): 5 % of the port rate, up to the port rate. -/
def execRoceRateRecovery (h : Nat) (s : State) : Out :=
  .next (modConn h (fun c => if c.rate = 0 then c else
    let r := c.rate + s.portRate / 20
    { c with rate := if s.portRate ≤ r then 0 else r }) s)
/-- ROCE_ACK_TIMEOUT (R534). -/
def execRoceAckTimeout (h : Nat) (s : State) : Out :=
  match s.conn h with
  | none => .next s
  | some c => if c.unacked.isEmpty then .next s else .next (roceRetry h c.una false s)

end Sys2Proof.Machine
end

