-- ==== Sys2Proof/Machine/Host.lean ====
section
/-!
DEFINITION. Sys2Proof/Machine/Host.lean: the PCIe endpoint (ch 06).
-/
namespace Sys2Proof.Machine
open Sys2Proof

/-- PERST_N assertion (R207). -/
def execPerstNAssert (s : State) : Out :=
  let s := { s with pce := { s.pce with perst := true } }
  .next (whenS (s.awake && s.unreset) (convReset 0) s)
/-- PERST_N deassertion: a conventional reset whose F has been applied is over (R207). -/
def execPerstNDeassert (s : State) : Out :=
  let s := { s with pce := { s.pce with perst := false } }
  .next (whenS s.pce.convReset endConvReset s)
/-- The link is up. -/
def State.linkUp (s : State) : Bool := s.pce.speed != 0 && s.awake
/-- Received hot reset (R207). -/
def execHotResetReceived (s : State) : Out := .next (whenS s.linkUp (convReset 1) s)
/-- DL_Active to DL_Down (R207). -/
def execLinkDlDown (s : State) : Out := .next (whenS s.linkUp (convReset 2) s)
/-- The three events of R202 have all happened and training starts. -/
def execLinkTrainingStart (s : State) : Out :=
  let ready := !s.pce.perst && s.ckg.pcieRef && s.awake && s.unreset && !s.pce.convReset && s.pce.speed == 0 && !s.domLost 30 && !s.domLost 31
  .next (if ready then { s with pce := { s.pce with training := true, trainedAt := s.us } } else s)
/-- A width the endpoint forms: 16, 8, 4 or 1 (R199). -/
def formedWidth (w : Nat) : Nat := if 16 ≤ w then 16 else if 8 ≤ w then 8 else if 4 ≤ w then 4 else 1
/-- Training ends in DL_Active (R202, R1044): MGT_LINK shows the link, and LINK_CHANGE is written with cause 0. On a link that is up, the partner has
taken it through Recovery (cause 3, log 83). -/
def execLinkDlActive (speed width : Nat) (upcfg : Bool) (s : State) : Out :=
  let sp := max 1 (min 5 speed)
  let w := min s.quadWidth (formedWidth width)
  if s.pce.training && s.awake && s.unreset then
    let s := { s with pce := { s.pce with training := false, speed := sp, width := w, upcfg := upcfg } }
    .next (logEvent 5 0x8002 (detail [(16, 1, sp), (17, 1, w), (18, 1, 0)]) s)
  else if s.linkUp then .next (linkChange sp w 3 { s with pce := { s.pce with upcfg := upcfg } })
  else .next s

/-- The value of a configuration field (Table 06-1, Table 06-2). -/
def cfgValue (s : State) (f : Nat) (reg : CfgReg) : Nat :=
  let x := s.fn f
  let pf := f == pf0
  match reg with
  | .vendorId => if pf then 0x1F3C else 0xFFFF
  | .deviceId => if pf then 0x5616 else 0xFFFF
  | .revisionId => 0xB0
  | .classCode => 0x020000
  | .subVendor => s.pce.ssvid
  | .subDevice => s.pce.ssid
  | .busMaster => b2n x.bme
  | .memSpace => b2n x.mse
  | .msixEnable => b2n x.msixEn
  | .msixMask => b2n x.msixMask
  | .relaxedOrdering => b2n x.relaxed
  | .maxPayload => x.mps
  | .maxReadRequest => x.mrrs
  | .completionTimeout => x.ctoValue
  | .powerState => if x.d3hot then 3 else 0
  | .atsEnable => b2n x.atsEn
  | .tphEnable => b2n x.tphEn
  | .bar0 => x.bars.getD 0 0
  | .bar2 => x.bars.getD 1 0
  | .totalVfs | .initialVfs => if pf then 64 else 0
  | .vfOffset | .vfStride => if pf then 1 else 0
  | .vfDeviceId => if pf then 0x5617 else 0
  | .vfEnable => if pf then b2n s.pce.vfEnable else 0
  | .numVfs => if pf then s.pce.numVfs else 0
  | .supportedPageSizes => if pf then 0x11 else 0
  | .systemPageSize => if pf then s.pce.pageSize else 0
  | .vfBar0 => if pf then s.pce.vfBars.getD 0 0 else 0
  | .vfBar2 => if pf then s.pce.vfBars.getD 1 0 else 0
  | .other => 0

/-- Clear VF Enable: an F on every VF that was enabled (R210), whose rings run again once it is applied (R305). -/
def clearVfEnable (s : State) : State :=
  let vfs := s.enabledVfs
  let s := forEach vfs (fun f s => resetConfig f (resetFn f s)) s
  let s := { s with pce := { s.pce with vfEnable := false } }
  forEach vfs runRings s

/-- A configuration write. Identity fields are read-only; a reserved value leaves its field as it is (R60). -/
def cfgWrite (f : Nat) (reg : CfgReg) (v : Nat) (s : State) : State :=
  let bit := v % 2 == 1
  let pf := f == pf0
  match reg with
  | .busMaster => modFn f (fun x => { x with bme := bit }) s
  | .memSpace => modFn f (fun x => { x with mse := bit }) s
  | .msixEnable => modFn f (fun x => { x with msixEn := bit }) s
  | .msixMask => modFn f (fun x => { x with msixMask := bit }) s
  | .relaxedOrdering => modFn f (fun x => { x with relaxed := bit }) s
  | .maxPayload => modFn f (fun x => if [128, 256, 512].contains v then { x with mps := v } else x) s
  | .maxReadRequest => modFn f (fun x => if [128, 256, 512, 1024, 2048, 4096].contains v then { x with mrrs := v } else x) s
  | .completionTimeout => modFn f (fun x => { x with ctoValue := v % 16 }) s
  | .powerState => modFn f (fun x => if v == 0 then { x with d3hot := false } else if v == 3 then { x with d3hot := true } else x) s
  | .atsEnable => modFn f (fun x => { x with atsEn := bit }) s
  | .tphEnable => modFn f (fun x => { x with tphEn := bit }) s
  | .bar0 => modFn f (fun x => if pf then { x with bars := x.bars.set 0 (v / 0x100000 * 0x100000) } else x) s
  | .bar2 => modFn f (fun x => if pf then { x with bars := x.bars.set 1 (v / 0x4000 * 0x4000) } else x) s
  | .vfEnable => if !pf then s else if bit then { s with pce := { s.pce with vfEnable := true } } else whenS s.pce.vfEnable clearVfEnable s
  | .numVfs => if pf && !s.pce.vfEnable && decide (v ≤ 64) then { s with pce := { s.pce with numVfs := v } } else s
  | .systemPageSize => if pf then { s with pce := { s.pce with pageSize := if v == 65536 then 65536 else 4096 } } else s
  | .vfBar0 => if pf then { s with pce := { s.pce with vfBars := s.pce.vfBars.set 0 (v / 0x80000 * 0x80000) } } else s
  | .vfBar2 => if pf then { s with pce := { s.pce with vfBars := s.pce.vfBars.set 1 (v / max 0x4000 s.pce.pageSize * max 0x4000 s.pce.pageSize) } } else s
  | _ => s

/-- CONFIG_REQUEST (R203, R212): Request Retry Status until boot has loaded the defaults, or for 1.0 s from the start of training; no answer without a link; UR for a function
that is not there. -/
def execConfigRequest (f : Nat) (reg : CfgReg) (write : Option Nat) (s : State) : Out :=
  if !s.linkUp || s.pce.convReset then .next s
  else if !s.bootDone && decide (s.us < s.pce.trainedAt + 1000000) then .next (emit (.cfgReply f 2 0) s)
  else if f != pf0 && !s.vfOn f then .next (emit (.cfgReply f 1 0xFFFFFFFF) s)
  else match write with
  | none => .next (emit (.cfgReply f 0 (cfgValue s f reg)) s)
  | some v => .next (emit (.cfgReply f 0 0) (cfgWrite f reg v s))

/-- FLR_START (R208, R209): one in progress is not started again. -/
def execFlrStart (f : Nat) (s : State) : Out :=
  if s.pce.convReset || (f != pf0 && !s.vfOn f) || (s.fn f).flr then .next s
  else
    let vfs := if f == pf0 then s.enabledVfs else []
    let s := resetFn f s
    let s := forEach vfs (fun v s => modFn v (fun x => { x with flr := true }) (resetConfig v s)) s
    let s := modFn f (fun x => { x with flr := true }) (resetConfig f s)
    .next (if f == pf0 then { s with pce := { s.pce with vfEnable := false, numVfs := 0 } } else s)

/-- An unbind that waited for the end of an FLR (R243): the command is answered by its interpreter once it runs again. -/
def flrDone (f : Nat) (s : State) : State := runRings f (modFn f (fun x => { x with flr := false }) s)

/-- VF_ENABLE_CLEAR (R210). -/
def execVfEnableClear (s : State) : Out := .next (whenS s.pce.vfEnable clearVfEnable s)

/-- A read has failed: the transfer is captured, and what waited for it learns of it (R227, R281, R284). -/
def readFailed (r : DmaRead) (cause : Nat) (s : State) : State :=
  let s := dmaFault r.fn 0 cause r.addr r.len s
  match r.use with
  | .fetch g => modRing g (fun x => { x with fetch := x.fetch.map fun q => { q with failed := true } }) s
  | .poll g => modRing g (fun x => { x with pollRead := none }) s
  | .data _ _ => s
/-- Take a read out of the outstanding ones. -/
def takeRead (tag : Nat) (s : State) : Option (DmaRead × State) :=
  (s.pce.reads.find? fun r => r.tag == tag).map fun r => (r, { s with pce := { s.pce with reads := s.pce.reads.erase r } })
/-- DMA_READ_COMPLETION (R227): a good completion leaves its data to the row that takes it; a bad one fails the transfer. -/
def execDmaReadCompletion (tag : Nat) (good : Bool) (s : State) : Out :=
  match takeRead tag s with
  | none => .next s
  | some (r, s) => .next (if good then s else readFailed r 2 s)
/-- COMPLETION_TIMEOUT (R227, R228). -/
def execCompletionTimeout (tag : Nat) (s : State) : Out :=
  match takeRead tag s with
  | none => .next s
  | some (r, s) => .next (readFailed r 3 s)

/-- ATS_INVALIDATION of one page or of every page of a function (R232). -/
def execAtsInvalidation (f tag : Nat) (page : Option Nat) (s : State) : Out :=
  let gone (e : Nat × Nat) : Bool := e.1 == f && (page.isNone || page == some e.2)
  .next (emit (.atsDone f tag) { s with pce := { s.pce with atc := s.pce.atc.filter fun e => !gone e } })

/-- MSIX_PENDING_SEND (R220). -/
def execMsixPendingSend (f v : Nat) (s : State) : Out :=
  if (s.vec f v).pending && (s.fn f).msixEn && s.vecOpen f v && s.fnTalks f then
    .next (sendMsix f v (modVec f v (fun x => { x with pending := false }) s))
  else .next s

/-- MGT_EVENT_WRITE (R221): bits are cleared; a setting that falls together with the clear wins and counts as a new transition. -/
def execMgtEventWrite (bits also : Nat) (s : State) : Out :=
  let kept := maskOf ((bitsSet 6 s.pce.event).filter fun i => !bits.testBit i)
  .next (mgtEvent (also % 64) { s with pce := { s.pce with event := kept } })
/-- MGT_DMAF_COUNT_READ (R229, Table 02-5 RC). -/
def execMgtDmafCountRead (reader : Nat) (s : State) : Out :=
  .next (emit (.readData reader (putLe 4 s.pce.dmafCount)) { s with pce := { s.pce with dmafCount := 0 } })

end Sys2Proof.Machine
end

