-- ==== Sys2Proof/Machine/Tenants.lean ====
section
/-!
DEFINITION. Sys2Proof/Machine/Tenants.lean: the tenant opcodes (ch 07).
-/
namespace Sys2Proof.Machine
open Sys2Proof

/-- The n entries of a list section, each of size bytes. -/
def entriesAt (b : Bytes) (off size n : Nat) : List Bytes := (List.range n).map fun i => slice b (off + i * size) size
/-- Every byte is 0. -/
def allZero (b : Bytes) : Bool := b.all (· == 0)
/-- The first entry beyond a count that is not all zero: its offset. -/
def beyondCount (b : Bytes) (off size count : Nat) : Option Nat :=
  ((List.range 16).find? fun i => decide (count ≤ i) && !allZero (slice b (off + i * size) size)).map fun i => off + i * size
/-- The first list entry with a fault: its offset and the offset of the field in it. -/
def badEntry (b : Bytes) (off size count : Nat) (bad : Bytes → Option Nat) : Option Nat :=
  (List.range count).findSome? fun i => (bad (slice b (off + i * size) size)).map fun o => off + i * size + o

/-- MAC entry: the group bit must be 0 (Table 07-2). -/
def macBad (e : Bytes) : Option Nat := if (u8 e 0).testBit 0 then some 0 else none
/-- VLAN entry: VID 4,095 is reserved. -/
def vlanBad (e : Bytes) : Option Nat := if u16 e 0 % 4096 == 4095 then some 0 else none
/-- IP entry of w bits: prefix length in range, bits below it 0. -/
def ipBad (w : Nat) (e : Bytes) : Option Nat :=
  let p := u8 e (w / 8)
  if w < p then some (w / 8) else if beAt e 0 (w / 8) % 2 ^ (w - p) != 0 then some 0 else none

/-- The first field of TNT_CHARTER_SET at fault (Table 07-6, R270). -/
def charterFault (b : Bytes) (old : Tenant) : Option Nat :=
  let sec := u16 b 2
  let fl := u32 b 4 % 256
  let vmode := if sec.testBit 0 then fl / 4 % 4 else old.flags / 4 % 4
  let vcount := if sec.testBit 2 then u8 b 21 else old.vlans.length
  let head : List (Nat × Bool) :=
    [(0, decide (u8 b 0 ≤ 15))]
    ++ (if sec.testBit 0 then
        [(4, decide (fl % 4 ≤ 1) && decide (fl / 4 % 4 ≤ 2) && decide (fl / 16 % 4 ≤ 2) && decide (fl / 64 ≤ 2)), (8, decide (u16 b 8 ≤ 1024)),
         (10, decide (u16 b 10 ≤ 256)), (12, decide (u8 b 12 ≤ 64)), (13, decide (1 ≤ u8 b 13)), (16, decide (u32 b 16 ≤ 16777216))] else [])
    ++ (List.range 4).filterMap (fun i => if sec.testBit (i + 1) then some (20 + i, decide (u8 b (20 + i) ≤ 16)) else none)
    ++ [(21, !((sec.testBit 0 || sec.testBit 2) && vmode == 2 && vcount != 1))]
  match head.find? fun f => !f.2 with
  | some f => some f.1
  | none =>
    let sect (i off size : Nat) (bad : Bytes → Option Nat) : Option Nat :=
      if sec.testBit (i + 1) then (badEntry b off size (u8 b (20 + i)) bad).or (beyondCount b off size (u8 b (20 + i))) else none
    ((sect 0 24 8 macBad).or (sect 1 152 4 vlanBad)).or ((sect 2 216 8 (ipBad 32)).or (sect 3 344 20 (ipBad 128)))

/-- The charter that TNT_CHARTER_SET leaves (R271). -/
def charterNew (b : Bytes) (x : Tenant) : Tenant :=
  let sec := u16 b 2
  let x := if sec.testBit 0 then { x with flags := u32 b 4 % 256, ringMax := u16 b 8, keyMax := u16 b 10, nsMax := u8 b 12, tcMask := u8 b 13, quotaKib := u32 b 16 } else x
  let x := if sec.testBit 1 then { x with macs := (entriesAt b 24 8 (u8 b 20)).map (·.take 6) } else x
  let x := if sec.testBit 2 then { x with vlans := (entriesAt b 152 4 (u8 b 21)).map fun e => (u16 e 0 % 4096, u16 e 0 / 4096 % 2) } else x
  let x := if sec.testBit 3 then { x with ip4s := (entriesAt b 216 8 (u8 b 22)).map fun e => (beAt e 0 4, u8 e 4) } else x
  if sec.testBit 4 then { x with ip6s := (entriesAt b 344 20 (u8 b 23)).map fun e => (beAt e 0 16, u8 e 16) } else x

/-- Ring pairs a tenant's VFs have. -/
def State.ringsUsed (s : State) (t : Nat) : Nat := ((s.tenantVfs t).map fun f => (s.ringsOf f).length).foldl (· + ·) 0
/-- Sum of a charter field over the tenants. -/
def State.sumTenants (s : State) (f : Tenant → Nat) : Nat := (List.range 16).foldl (fun n t => n + f (s.tenant t)) 0

/-- TNT_CHARTER_SET (R252, R270, R271). -/
def execTntCharterSet (s : State) : Out :=
  interpret 0x0301 (fun p s =>
    let b := p.params
    if b.length != 664 then fail p stBadLength 0xFFFF 0 s
    else
      let t := u8 b 0
      let old := s.tenant t
      match charterFault b old with
      | some o => badParam p o s
      | none =>
        let new := charterNew b old
        let low := [(8, decide (s.ringsUsed t ≤ new.ringMax)), (10, decide (old.keys.length ≤ new.keyMax) && old.keys.all fun k => decide (k.1 < new.keyMax)),
                    (12, decide (old.spaces.length ≤ new.nsMax)), (16, decide (s.charge t ≤ new.quotaKib * 1024))]
        match (if (u16 b 2).testBit 0 then low.find? fun f => !f.2 else none) with
        | some f => fail p stBusy f.1 0 s
        | none =>
          if 4096 < s.sumTenants (·.ringMax) - old.ringMax + new.ringMax || 4096 < s.sumTenants (·.keyMax) - old.keyMax + new.keyMax then
            fail p stNoResource 0xFFFF 0 s
          else ok p (charter t (fun _ => new) s)) s

/-- Bytes of a list padded to 16 entries. -/
def padList (size : Nat) (l : List Bytes) : Bytes := ((l.map fun e => (e ++ zeros size).take size).flatten ++ zeros (16 * size)).take (16 * size)
/-- The charter in the layout of Table 07-6. -/
def charterBytes (t : Nat) (x : Tenant) : Bytes :=
  putLe 1 t ++ [0] ++ putLe 2 0x1F ++ putLe 4 x.flags ++ putLe 2 x.ringMax ++ putLe 2 x.keyMax ++ putLe 1 x.nsMax ++ putLe 1 x.tcMask ++ [0, 0]
    ++ putLe 4 x.quotaKib ++ putLe 1 x.macs.length ++ putLe 1 x.vlans.length ++ putLe 1 x.ip4s.length ++ putLe 1 x.ip6s.length
    ++ padList 8 x.macs ++ padList 4 (x.vlans.map fun v => putLe 4 (v.1 + 4096 * v.2)) ++ padList 8 (x.ip4s.map fun v => putBe 4 v.1 ++ putLe 1 v.2)
    ++ padList 20 (x.ip6s.map fun v => putBe 16 v.1 ++ putLe 1 v.2)
/-- TNT_CHARTER_GET (Table 07-7). -/
def execTntCharterGet (s : State) : Out :=
  interpret 0x0302 (fun p => checked p 4 [(0, decide (u8 p.params 0 ≤ 15))] fun s =>
    let t := u8 p.params 0
    let x := s.tenant t
    let vfs := s.tenantVfs t
    complete p stOk (charterBytes t x ++ putLe 4 x.gen.toNat ++ putLe 1 x.state ++ [0, 0, 0] ++ putLe 4 x.epoch.toNat ++ putLe 8 (maskOf vfs)
      ++ putLe 2 (s.ringsUsed t) ++ putLe 2 x.keys.length ++ putLe 2 x.spaces.length ++ [0, 0]
      ++ ((vfs.map fun f => putLe 4 (s.vf f).spoof).flatten ++ zeros 64).take 64) s) s

/-- TENANT_STATE record (Table 07-8). -/
def tenantRecord (t from_ to_ : Nat) (s : State) : State := logEvent 6 0x8002 (detail [(16, 1, t), (17, 1, from_), (18, 1, to_)]) s
/-- Move a tenant to a state (R257-R260); a move to REVOKED ends its work with CHARTER_CHANGED and performs a T. -/
def setTenantState (t st : Nat) (s : State) : State :=
  let old := (s.tenant t).state
  if old == st then s
  else if st == 3 then
    let s := forEach (s.tenantVfs t) (fun f s => failWorkOf f stCharter s) s
    let s := setKeks t {} (resetTenant t s)
    tenantRecord t old 3 (bumpGen t (modTenant t (fun x => { x with state := 3 }) s))
  else
    let s := whenS (st == 1) (fillTenant t) s
    tenantRecord t old st (bumpGen t (modTenant t (fun x => { x with state := st }) s))
/-- TNT_STATE_SET (R257). -/
def execTntStateSet (s : State) : Out :=
  interpret 0x0303 (fun p s =>
    let t := u8 p.params 0; let st := u8 p.params 1
    checked p 4 [(0, decide (t ≤ 15)), (1, inR st 1 3), (2, st != 3 || u8 p.params 2 == 0xA5)] (fun s =>
      if (s.tenant t).state == st then ok p s
      else if st != 3 && (s.tenantVfs t).isEmpty then fail p stBadParam 1 1 s
      else ok p (setTenantState t st s)) s) s
/-- TNT_RESET (R267). -/
def execTntReset (s : State) : Out :=
  interpret 0x0304 (fun p s =>
    checked p 4 [(0, decide (u8 p.params 0 ≤ 15)), (1, u8 p.params 1 == 0xA5)] (fun s =>
      let t := u8 p.params 0
      ok p (bumpGen t (resetTenant t s))) s) s

/-- A window of TNT_VF_BIND (Table 06-7). -/
def windowAt (b : Bytes) (i : Nat) : DmaWin := ⟨u64 b (4 + 16 * i), u32 b (12 + 16 * i), u8 b (16 + 16 * i) % 4⟩
/-- The first window field at fault. -/
def windowFault (b : Bytes) : Option Nat :=
  (List.range 8).findSome? fun i =>
    let w := windowAt b i
    if w.base % 4096 != 0 then some (4 + 16 * i)
    else if 2 ^ 64 < w.base + w.size4k * 4096 then some (12 + 16 * i)
    else if w.perm == 0 && w.size4k != 0 then some (16 + 16 * i)
    else none
/-- VF_BIND record (Table 07-8). -/
def bindRecord (f old new : Nat) (s : State) : State := logEvent 6 0x8004 (detail [(16, 1, f), (17, 1, old), (18, 1, new)]) s
/-- Unbind a VF (R243): the effects of an F, windows disabled, counts cleared; the rings run in the next cycle (R305). -/
def unbindVf (f t : Nat) (s : State) : State :=
  let s := fnReset f 2 s
  let s := runRings f (modVf f (fun x => { x with tenant := none, windows := [], spoof := 0 }) s)
  bindRecord f t 0xFF (bumpGen t s)
/-- Code of the wait for the end of an FLR of a VF. -/
def flrWait (f : Nat) : WaitKind := .other (0x600 + f)
/-- The unbind of a VF whose FLR is not running. -/
def doUnbind (p : Packet) (f : Nat) (s : State) : State :=
  match (s.vf f).tenant with
  | none => ok p s
  | some t => if (s.tenantVfs t).length == 1 && (s.tenant t).state != 3 then fail p stBusy 0xFFFF t s else ok p (unbindVf f t s)
/-- TNT_VF_BIND (R241-R244). -/
def execTntVfBind (s : State) : Out :=
  interpret 0x0305 (fun p s =>
    let b := p.params
    let f := u8 b 0; let t := u8 b 1
    checked p 132 [(0, decide (f ≤ 63)), (1, decide (t ≤ 15) || t == 0xFF)] (fun s =>
      if t == 0xFF then
        if !allZero (slice b 4 128) then badParam p 4 s
        else if (s.fn f).flr then waitFor p (flrWait f) s
        else doUnbind p f s
      else match windowFault b with
      | some o => badParam p o s
      | none =>
        let wins := (List.range 8).map (windowAt b)
        match (s.vf f).tenant with
        | some u =>
          if u != t then fail p stBusy 0xFFFF u s
          else if (s.vf f).windows = wins then ok p s
          else ok p (bumpGen t (modVf f (fun x => { x with windows := wins }) s))
        | none =>
          if 16 ≤ (s.tenantVfs t).length then fail p stNoResource 0xFFFF 0 s
          else
            let s := modVf f (fun x => { x with tenant := some t, windows := wins }) s
            ok p (bindRecord f 0xFF t (bumpGen t (fillVf f s)))) s) s

/-- FLR_COMPLETE (R208): the rings run again, and an unbind that waited acts (R243). -/
def execFlrComplete (f : Nat) (s : State) : Out :=
  if !(s.fn f).flr then .next s
  else
    let vfs := if f == pf0 then (List.range 64).filter fun v => (s.fn v).flr else []
    let s := flrDone f (forEach vfs flrDone s)
    let due := s.cmd.waits.filter fun w => (f :: vfs).any fun v => w.kind == flrWait v
    let s := { s with cmd := { s.cmd with waits := s.cmd.waits.filter fun w => !due.contains w } }
    .next (forEach due (fun w s => doUnbind w.pkt (u8 w.pkt.params 0) s) s)

end Sys2Proof.Machine
end

