-- ==== Sys2Proof/Machine/Handover.lean ====
section
/-!
DEFINITION. Sys2Proof/Machine/Handover.lean: the handover of a whole device (R916-R928, 25).
-/
namespace Sys2Proof.Machine
open Sys2Proof

/-- Change the handover's record. -/
def modHo (f : LatHandover → LatHandover) (s : State) : State := modLat (fun x => { x with ho := f x.ho }) s
/-- A message to the other device. -/
def hoSend (m : HoMsg) (s : State) : State := if s.latUp s.lat.ho.link then emit (.handover s.lat.ho.link m) s else s
/-- HANDOVER record (Table 25-9). -/
def hoRecord (aborted : Bool) (s : State) : State :=
  let h := s.lat.ho
  logEvent 26 0x800C (detail [(16, 1, h.phase), (17, 1, b2n aborted), (18, 2, h.peer), (20, 4, h.pause)]) s
/-- The reply of LAT_HANDOVER (Table 25-7). -/
def hoReply (s : State) : Bytes :=
  let h := s.lat.ho
  layout 24 [(0, 1, h.phase), (2, 2, h.peer), (4, 4, h.kib), (8, 4, h.bytes), (12, 4, h.pause), (16, 2, h.moved), (18, 2, h.closed), (20, 4, h.aborted)]
/-- The key in HO_SLOT, an AES-256 key (R917, R918). -/
def State.hoKey (s : State) : Option Bytes :=
  if s.lat.stack.isEmpty then none else (s.cry.slots.lookup (u16 s.lat.stack 4)).bind fun k => if k.type == 1 then some k.key else none
/-- Device slot of HO_SLOT. -/
def State.hoSlot (s : State) : Option Nat := if s.lat.stack.isEmpty then none else some (u16 s.lat.stack 4)
/-- Tenants whose VFs hold work. -/
def State.boundVfs (s : State) : List Nat := (List.range 64).filter fun f => (s.vf f).tenant.isSome
/-- Members of the aggregates bound to the stack send an LACPDU with an actor state (R921, R922). -/
def boundLacp (sync : Bool) (s : State) : State :=
  forEach s.lat.bound (fun a s => forEach (s.agg a).members (fun p s => sendLacp p (actorState (s.agg a).fast sync false false) s) s) s

/-! ### What is copied (Table 25-4, R918) -/

/-- A KEK with its key wrapped. -/
def wrapKek (ho : Bytes) (k : Kek) : Kek := { k with key := Config.kwWrap ho k.key }
/-- The static state, keys wrapped under HO_SLOT. -/
def hoStatic (ho : Bytes) (plant : Bool) (s : State) : HoStatic :=
  { active := s.net.active, gen := s.net.gen, mirrors := s.net.mirrors, tenants := s.host.tenants, vfs := s.host.vfs
    weights := s.net.weights, txCaps := s.net.txCaps, engCaps := s.net.engCaps
    points := s.net.points.map fun x => (x.1, x.2.qlimit, x.2.strict, x.2.cweight)
    slots := s.cry.slots.map fun x => (x.1, { x.2 with key := Config.kwWrap ho x.2.key })
    keks := s.cry.keks.map fun x => (x.1, ⟨x.2.cur.map (wrapKek ho), x.2.prev.map (wrapKek ho)⟩)
    sas := s.cry.sas, profiles := s.sto.profiles, spaces := s.sto.spaces, pf0Spaces := s.host.pf0Spaces, scrubs := s.sto.scrubs
    plant := if plant then some ⟨s.sge.active, s.sio.bank, s.sge.rate, s.sge.source, s.sge.autoReturn, s.plt.points, s.plt.watches⟩ else none }
/-- Unwrap a list of keys under HO_SLOT; none when one fails. -/
def unwrapSlots (ho : Bytes) : List (Nat × KeySlot) → Option (List (Nat × KeySlot))
  | [] => some []
  | x :: t => match Config.kwUnwrap ho x.2.key, unwrapSlots ho t with
    | some k, some r => some ((x.1, { x.2 with key := k }) :: r)
    | _, _ => none
/-- Unwrap a KEK. -/
def unwrapKek (ho : Bytes) : Option Kek → Option (Option Kek)
  | none => some none
  | some k => (Config.kwUnwrap ho k.key).map fun key => some { k with key := key }
/-- Unwrap the KEKs of every owner. -/
def unwrapKeks (ho : Bytes) : List (Nat × Keks) → Option (List (Nat × Keks))
  | [] => some []
  | x :: t => match unwrapKek ho x.2.cur, unwrapKek ho x.2.prev, unwrapKeks ho t with
    | some a, some b, some r => some ((x.1, ⟨a, b⟩) :: r)
    | _, _, _ => none

/-- The tenants, VFs and limits of the source (PREPARE, Table 25-3): VFs bound, tenants that are not REVOKED SUSPENDED. -/
def takeTenants (st : HoStatic) (s : State) : State :=
  let s := forEach st.tenants (fun e s =>
    let old := s.tenant e.1
    let new := if e.2.state == 3 then 3 else 2
    let s := modTenant e.1 (fun _ => { e.2 with state := new, gen := old.gen + 2, epoch := old.epoch, tokens := 0, tokensAt := s.us }) s
    if new == old.state then s else tenantRecord e.1 old.state new s) s
  forEach st.vfs (fun e s =>
    let s := modVf e.1 (fun _ => { e.2 with spoof := 0 }) s
    ifSome e.2.tenant (fun t s => bindRecord e.1 0xFF t (fillVf e.1 s)) s) s
/-- The keys, SAs and KEKs of the source; the slot of HO_SLOT keeps its key. -/
def takeKeys (slots : List (Nat × KeySlot)) (keks : List (Nat × Keks)) (sas : List (Nat × Sa)) (s : State) : State :=
  let slots := slots.filter fun x => some x.1 != s.hoSlot
  let s := forEach slots (fun x s => bumpSlot x.1 (modCry (fun c => { c with slots := tins x.1 x.2 c.slots }) s)) s
  modCry (fun c => { c with keks := keks, sas := sas }) s
/-- The signal engine of the source: program, coefficients, tick setting, setpoints, watches. -/
def takePlant (p : HoPlant) (s : State) : State :=
  let s := match p.prog with
    | some g => modSge (fun x => { x with active := some g, ptr := [] }) (wipeLines g s)
    | none => modSge (fun x => { x with active := none, ptr := [] }) s
  let s := modSio (fun x => { x with bank0 := p.coefs, bank1 := p.coefs, staged := [], ramps := [] }) s
  let s := takeTick ([BitVec.ofNat 8 p.rate, BitVec.ofNat 8 p.source, BitVec.ofNat 8 (b2n p.autoReturn)]) s
  modPlt (fun x => { x with points := p.points.map fun e => (e.1, { e.2 with slew := none }), watches := p.watches }) s
/-- The static state applies at the target. -/
def takeStatic (st : HoStatic) (slots : List (Nat × KeySlot)) (keks : List (Nat × Keks)) (s : State) : State :=
  let s : State := { s with net := { s.net with active := st.active, gen := st.gen, mirrors := st.mirrors, weights := st.weights, txCaps := st.txCaps, engCaps := st.engCaps } }
  let s := forEach st.points (fun x s => modPoint x.1 (fun p => { p with qlimit := x.2.1, strict := x.2.2.1, cweight := x.2.2.2 }) s) s
  let s := takeKeys slots keks st.sas (takeTenants st s)
  let s : State := { s with host := { s.host with pf0Spaces := st.pf0Spaces } }
  let s := modSto (fun x => { x with profiles := st.profiles, spaces := st.spaces, scrubs := st.scrubs.map fun e => (e.1, { e.2 with on := false }) }) s
  let s := followUse 98 (st.mirrors.any fun m => m.2.on) s
  ifSome st.plant takePlant s

/-! ### Phases -/

/-- The handover aborts (R922, R927). -/
def hoAbort (s : State) : State :=
  let h := s.lat.ho
  if !inR h.phase 1 2 then s
  else
    let s := hoRecord true s
    let s := if h.source then
        let s := forEach h.states.zipIdx (fun x s => if x.1 = 3 then s else setTenantState x.2 x.1 s) s
        whenS (h.phase == 2) (boundLacp true) s
      else
        let s := forEach (List.range 16) (fun t s => setTenantState t 3 s) s
        forEach s.boundVfs (fun f s => unbindVf f ((s.vf f).tenant.getD 0) s) s
    let s := hoSend .abort (modHo (fun h => { h with phase := 6 }) s)
    failWaits (· == .handover) stAborted h.phase s
/-- The joining link has left UP before SWITCH (R922). -/
def hoCheck (s : State) : State := if inR s.lat.ho.phase 1 2 && !s.latUp s.lat.ho.link then hoAbort s else s

/-- START at the source (R916, R917): its own cases first, then the static state goes to the target, which answers. -/
def hoStart (p : Packet) (s : State) : State :=
  let target := u16 p.params 2
  let plant := (u8 p.params 4).testBit 0
  match (s.routeTo target).filter fun r => s.isMember r.serial && r.serial != s.ownSerial with
  | none => fail p stDenied 0xFFFF 0 s
  | some r =>
    let link := (List.range 4).find? fun l => (s.link l).mode == 1 && s.latUp l && (s.link l).upSerial == r.serial
    if inR s.lat.ho.phase 1 4 then fail p stBusy 0xFFFF 0x82 s
    else match link, s.hoKey with
    | none, _ => fail p stBusy 0xFFFF 0x83 s
    | some l, key =>
      if !s.dataOn then fail p stBusy 0xFFFF s.pmc.st.code s
      else match key with
      | none => fail p stNoResource 0xFFFF 0 s
      | some ho =>
        let (kib, s) := freeNat (2 ^ 32) s
        let (test, s) := freeBytes 16 s
        let s := modHo (fun _ => { phase := 1, source := true, peer := target, link := l, plant := plant, kib := kib }) s
        waitFor p .handover (hoSend (.prepare s.lat.id plant (Config.kwWrap ho test) (hoStatic ho plant s)) s)
/-- PREPARE at the target (R917, R918). -/
def hoPrepare (l src : Nat) (plant : Bool) (test : Bytes) (st : HoStatic) (s : State) : State :=
  let refuse (status info : Nat) (s : State) : State := emit (.handover l (.refuse status info)) s
  let held := !s.boundVfs.isEmpty || (List.range 16).any (fun t => (s.tenant t).state != 3) || !s.sto.conns.isEmpty
  if held then refuse stBusy 0x81 s
  else if inR s.lat.ho.phase 1 4 then refuse stBusy 0x82 s
  else if st.spaces.any fun e => u8 e.2 8 == 2 && (s.drive (u8 e.2 9)).isNone then refuse stBusy 0x84 s
  else if plant && s.sge.running then refuse stBusy 0x85 s
  else if !s.dataOn then refuse stBusy s.pmc.st.code s
  else match s.hoKey with
  | none => refuse stNoResource 0 s
  | some ho => match Config.kwUnwrap ho test, unwrapSlots ho st.slots, unwrapKeks ho st.keks with
    | some _, some slots, some keks =>
      let (kib, s) := freeNat (2 ^ 32) s
      let s := modHo (fun _ => { phase := 1, source := false, peer := src, link := l, plant := plant, kib := kib }) s
      hoSend .ready (takeStatic st slots keks s)
    | _, _, _ => refuse stFault 0 s
/-- STOP at the source (R921). -/
def hoStop (s : State) : State :=
  let h := s.lat.ho
  if !(h.source && h.phase == 1 && h.ready) then s
  else
    let states := (List.range 16).map fun t => (s.tenant t).state
    let s := forEach (List.range 16) (fun t s => if (s.tenant t).state == 1 then setTenantState t 2 s else s) s
    boundLacp false (modHo (fun h => { h with phase := 2, stopAt := s.us, states := states }) s)
/-- The volatile state (Table 25-4). -/
def hoFinal (s : State) : HoFinal :=
  { conns := s.sto.conns.map fun c => (c.1, c.2.fn, c.2.finalBlock), sas := s.cry.sas
    tenantTokens := (List.range 16).map fun t => (t, ((settleTenant t s).tenant t).tokens)
    vfTokens := (List.range 64).map fun f => (f, ((settleVf f s).vf f).tokens)
    scrubs := s.sto.scrubs, states := s.lat.ho.states }
/-- The final copy leaves the source once the work admitted before STOP has ended; what is left of it ends with ABORTED (R921). -/
def hoCopy (s : State) : State :=
  let h := s.lat.ho
  if !(h.source && h.phase == 2 && !h.sent) then s
  else
    let left (f : Nat) : Nat := s.rings.foldl (fun n x => if x.2.fn == f then n + x.2.work.length else n) 0
    let n := s.boundVfs.foldl (fun n f => n + left f) 0
    let s := forEach s.boundVfs (fun f s => failWorkOf f stAborted s) s
    let (b, s) := freeNat (2 ^ 32) s
    hoSend (.final (hoFinal s)) (modHo (fun h => { h with sent := true, aborted := n, bytes := b }) s)
/-- SWITCH at the target (R923, R924, R926). -/
def hoSwitch (s : State) : State :=
  let h := s.lat.ho
  match h.final with
  | none => s
  | some f =>
    if h.source || h.phase != 2 then s
    else
      let s := forEach f.states.zipIdx (fun x s => if x.1 = 3 then s else setTenantState x.2 x.1 s) s
      let s := forEach f.tenantTokens (fun x s => modTenant x.1 (fun t => { t with tokens := x.2, tokensAt := s.us }) s) s
      let s := forEach f.vfTokens (fun x s => modVf x.1 (fun v => { v with tokens := x.2, tokensAt := s.us }) s) s
      let taken := f.conns.filter fun c => ((s.ringAt c.2.1 (u8 c.2.2 6)).any fun r => r.2.cls == 4) && s.connEngine.isSome
      let s := forEach taken (fun c s => modSto (fun x => { x with conns := tins c.1 (freshConn c.2.1 (s.connEngine.getD 0) c.2.2) x.conns }) s) s
      let s := modSto (fun x => { x with scrubs := f.scrubs }) s
      let s := lsaDue (modLat (fun x => { x with alias_ := h.peer }) s)
      let s := modHo (fun h => { h with phase := 3, engine := b2n (h.plant && s.sge.active.isSome), moved := taken.length, closed := f.conns.length - taken.length, final := none }) s
      hoSend (.switched (taken.map (·.1))) s
/-- The source learns that SWITCH is done (R923, R926). -/
def hoSwitched (handles : List Nat) (s : State) : State :=
  let h := s.lat.ho
  let n := s.sto.conns.length
  let s := modSto (fun x => { x with conns := x.conns.filter (fun c => !handles.contains c.1), posts := x.posts.filter fun y => !handles.contains y.handle }) s
  let s := lsaDue (modLat (fun x => { x with id := 0, vst := 0, mode := 0 }) s)
  modHo (fun y => { y with phase := 3, pause := s.us - h.stopAt, moved := n - s.sto.conns.length, closed := s.sto.conns.length
                           engine := if h.plant && s.sge.running then 2 else 0 }) s
/-- RELEASE at the source (R924, R925). -/
def hoRelease (s : State) : State :=
  let h := s.lat.ho
  if !(h.source && h.phase == 3) then s
  else
    let s := modHo (fun h => { h with phase := 4, held := true }) s
    let s := closeConns (fun _ _ => true) s
    let s := forEach (List.range 16) (fun t s => setTenantState t 3 s) s
    let s := forEach s.boundVfs (fun f s => unbindVf f ((s.vf f).tenant.getD 0) s) s
    let (cause, s) := freeNat 6 s
    let s := hoSend .released (hoRecord false (portsDown cause s))
    let s := modHo (fun h => { h with phase := 5 }) s
    finishWaits (· == .handover) stOk (fun _ => hoReply s) s
/-- The target refuses; nothing has changed (R917). -/
def hoRefused (status info : Nat) (s : State) : State := failWaits (· == .handover) status info (modHo (fun _ => {}) s)

/-- A message of the other device (R920). -/
def hoTake (l : Nat) (m : HoMsg) (s : State) : State :=
  let h := s.lat.ho
  let mine := h.link == l
  match m with
  | .prepare src plant test st => hoPrepare l src plant test st s
  | .refuse status info => if mine && h.source && h.phase == 1 && !h.ready then hoRefused status info s else s
  | .ready => if mine && h.source && h.phase == 1 then modHo (fun h => { h with ready := true }) s else s
  | .final f =>
    if mine && !h.source && h.phase == 1 then
      let (b, s) := freeNat (2 ^ 32) s
      hoSend .applied (modCry (fun c => { c with sas := f.sas }) (modHo (fun h => { h with phase := 2, final := some f, bytes := b }) s))
    else s
  | .applied => if mine && h.source && h.phase == 2 then modHo (fun h => { h with applied := true }) s else s
  | .switched handles => if mine && h.source && h.phase == 2 && h.applied then hoSwitched handles s else s
  | .released => if mine && !h.source && h.phase == 3 then modHo (fun h => { h with phase := 5 }) s else s
  | .abort => if mine then hoAbort s else s

end Sys2Proof.Machine
end

