-- ==== Sys2Proof/Machine/StoCfg.lean ====
section
/-!
DEFINITION. Sys2Proof/Machine/StoCfg.lean: the storage opcodes (ch 14).
-/
namespace Sys2Proof.Machine
open Sys2Proof

/-- STO_TARGET_CFG (R543, R554, R556). -/
def execStoTargetCfg (s : State) : Out :=
  interpret 0x0701 (fun p s =>
    let b := p.params
    let d := u8 b 0; let set := u8 b 1 == 1
    let when (x : Bool) : Bool := !set || x
    checked p 64 [(0, decide (d ≤ 23)), (1, inR (u8 b 1) 1 2), (2, when (u8 b 2 == 9 || u8 b 2 == 12)), (4, when (u16 b 4 != 0)), (6, when (inR (u16 b 6) 2 4096)),
        (8, when (u64 b 8 % 4096 == 0)), (24, when (u64 b 24 % 4096 == 0)), (40, when (u64 b 40 % 4096 == 0)), (48, when (inR (u32 b 48) 1028 16777216)),
        (52, when (u16 b 52 == u16 b 6)), (54, when (inR (u16 b 54) 1 60000)), (56, when (inR (u64 b 56) 1 (2 ^ 48)))] (fun s =>
      if !set && s.sto.spaces.any fun n => u8 n.2 8 == 2 && u8 n.2 9 == d then fail p stBusy 0xFFFF 0 s
      else
        let hit := match s.drive d with
          | some x => (x.waiting ++ x.out.map (·.2)).filter fun c => !c.dead
          | none => []
        let s := modSto (fun x => { x with drives := x.drives.filter fun y => y.1 != d }) s
        let s := forEach hit (fun c s => if (s.stoCmd c.handle c.cid).isSome then respond c.handle c.cid 0 0 0x06 s else s) s
        ok p (if set then modSto (fun x => { x with drives := tins d { raw := b } x.drives }) s else s)) s) s

/-- FLAGS of a list entry (Table 14-5). -/
def listFlags (b : Bytes) : Nat := u8 b 10 % 4 + 4 * b2n (u8 b 34 != 0) + 8 * b2n (u8 b 8 == 2)
/-- Change an owner's namespace list: a charter change for a tenant (R535). -/
def modSpaces (owner : Nat) (f : List Namespace → List Namespace) (s : State) : State :=
  if owner < 16 then charter owner (fun x => { x with spaces := f x.spaces }) s else { s with host := { s.host with pf0Spaces := f s.host.pf0Spaces } }
/-- The namespace list of an owner. -/
def State.ownSpaces (s : State) (owner : Nat) : List Namespace := if owner < 16 then (s.tenant owner).spaces else s.host.pf0Spaces
/-- Drive blocks that a namespace covers: its stripes with their parity for a fixity namespace. -/
def nsExtent (s : State) (b : Bytes) : Nat :=
  match s.nsProfile b with
  | some p => u64 b 24 * p.n / p.k
  | none => u64 b 24
/-- R579 for a namespace with a profile. -/
def fixityOk (s : State) (b : Bytes) : Bool :=
  match s.nsProfile b, s.drive (u8 b 9) with
  | some p, some x =>
    let sd := (stripeBlocks p b).1
    u8 b 8 == 2 && p.base != 0 && decide (p.n * p.chunk ≤ 1048576) && decide (nsBlock b ≤ p.chunk) && u64 b 24 % sd == 0 && decide (u64 b 24 / sd ≤ p.spn)
      && decide (u64 b 16 + nsExtent s b ≤ u64 x.raw 56)
  | _, _ => false
/-- A namespace leaves the device table: its admitted commands end (R539) and its scrub session (R584). -/
def dropSpace (i : Nat) (s : State) : State :=
  match s.space i with
  | none => s
  | some b => endScrubs (· == i) 2 (endCommands (u8 b 1) (· == i) (modSto (fun x => { x with spaces := x.spaces.filter fun y => y.1 != i }) s))
/-- An owner's list without index i. -/
def withoutSpace (i : Nat) (l : List Namespace) : List Namespace := l.filter fun e => e.index != i
/-- Why a namespace may not be set (R555, R579): status, offset, information. -/
def spaceFault (s : State) (b : Bytes) : Option (Nat × Nat × Nat) :=
  let owner := u8 b 1; let i := u16 b 2
  let drive := u8 b 8 == 2
  let others := s.sto.spaces.filter fun n => n.1 != i && u8 n.2 1 != owner && u8 n.2 8 == 2 && u8 n.2 9 == u8 b 9
  let overlap := others.any fun n => decide (u64 b 16 < u64 n.2 16 + nsExtent s n.2) && decide (u64 n.2 16 < u64 b 16 + nsExtent s b)
  let mine := (s.ownSpaces owner).filter fun e => e.index != i
  let room := if owner < 16 then (s.tenant owner).nsMax else 64
  match (if drive then s.drive (u8 b 9) else none) with
  | none => if drive then some (stBadParam, 9, 0) else if u8 b 34 != 0 then some (stBadParam, 34, 0)
    else if mine.any fun e => e.nsid == u32 b 4 then some (stBusy, 0xFFFF, 1) else if room ≤ mine.length then some (stNoResource, 0xFFFF, 0) else none
  | some x =>
    if u8 x.raw 2 != u8 b 11 then some (stBadParam, 11, 0)
    else if u8 b 34 != 0 && !fixityOk s b then some (stBadParam, 34, 0)
    else if u64 x.raw 56 < u64 b 16 + u64 b 24 then some (stBadParam, 16, 0)
    else if mine.any fun e => e.nsid == u32 b 4 then some (stBusy, 0xFFFF, 1)
    else if overlap then some (stBusy, 0xFFFF, 2)
    else if room ≤ mine.length then some (stNoResource, 0xFFFF, 0)
    else none
/-- STO_NS_SET (R535, R555, R579). -/
def execStoNsSet (s : State) : Out :=
  interpret 0x0702 (fun p s =>
    let b := p.params
    let set := u8 b 0 == 1; let owner := u8 b 1; let i := u16 b 2
    let when (x : Bool) : Bool := !set || x
    checked p 36 [(0, inR (u8 b 0) 1 2), (1, decide (owner ≤ 16)), (2, decide (i < 1024)), (4, when (inR (u32 b 4) 1 0xFFFFFFFE)), (8, when (inR (u8 b 8) 1 2)),
        (9, when (u8 b 8 != 2 || decide (u8 b 9 ≤ 23))), (11, when (u8 b 11 == 9 || u8 b 11 == 12)), (24, when (inR (u64 b 24) 1 (2 ^ 48))), (34, when (decide (u8 b 34 ≤ 15)))] (fun s =>
      if !set then
        if (s.space i).any fun x => u8 x 1 == owner then ok p (modSpaces owner (withoutSpace i) (dropSpace i s)) else complete p stNote [] s
      else match spaceFault s b with
      | some (st, off, info) => fail p st off info s
      | none =>
        if s.space i == some b then ok p s
        else
          let entry : Namespace := ⟨u32 b 4, i, listFlags b⟩
          let old := ((s.space i).map fun x => u8 x 1).getD owner
          let s := modSto (fun x => { x with spaces := tins i b x.spaces }) (dropSpace i s)
          let s := if old = owner then s else modSpaces old (withoutSpace i) s
          ok p (modSpaces owner (fun l => withoutSpace i l ++ [entry]) s)) s) s

/-- STATE of a connection (Table 14-10). -/
def State.connState (s : State) (h : Nat) (c : Conn) : Nat := if c.detach.isSome then 2 else if s.stalled h then 3 else if c.paused then 4 else 1
/-- An entry of STO_CONN_STATUS (Table 14-10). -/
def connEntry (s : State) (h : Nat) (c : Conn) : Bytes :=
  layout 64 [(0, 2, h), (2, 1, c.fn), (3, 1, if c.fn == pf0 then 0xFF else ((s.vf c.fn).tenant).getD 0xFF), (4, 1, c.proto), (5, 1, s.connState h c), (6, 1, c.engine),
    (7, 1, if c.tcp then u8 c.raw 3 else 0), (8, 2, c.qd), (10, 2, c.cmds.length), (16, 8, c.bytes.1), (24, 8, c.bytes.2), (32, 4, c.digests.1), (36, 4, c.digests.2),
    (40, 4, c.errs.1), (44, 4, c.errs.2)]
/-- STO_CONN_STATUS (Table 14-10). -/
def execStoConnStatus (s : State) : Out :=
  interpret 0x0703 (fun p s =>
    let b := p.params
    let first := u16 b 0; let count := u16 b 2
    checked p 4 [(0, decide (first ≤ 8191)), (2, inR count 1 63)] (fun s =>
      let l := (s.sto.conns.filter fun c => first ≤ c.1).take count
      let head := ((l.head?.map (·.1)).getD first)
      complete p stOk (putLe 2 head ++ putLe 2 l.length ++ putLe 2 s.sto.conns.length ++ zeros 2 ++ (l.map fun c => connEntry s c.1 c.2).flatten) s) s) s

end Sys2Proof.Machine
end

