-- ==== Sys2Proof/Machine/Integrity.lean ====
section
/-!
DEFINITION. Sys2Proof/Machine/Integrity.lean: integrity entries and jobs, scrub sessions and the integrity opcodes (ch 15).
-/
namespace Sys2Proof.Machine
open Sys2Proof

/-! ### Image jobs (R573-R578) -/

/-- PROFILE of an integrity entry. -/
def fixProfile (e : Bytes) : Nat := u8 (entParams e) 0
/-- FLAGS. -/
def fixFlags (e : Bytes) : Nat := u8 (entParams e) 1
/-- A segment: address and length. -/
abbrev Seg := Nat × Nat
/-- The segments of an entry. -/
def entSegments (e : Bytes) : List Seg := (List.range (min 8 (entSegs e))).map fun i => (entAddr e i, entLen e i)
/-- Length of the chunk stream of an image. -/
def streamLen (segs : List Seg) : Nat := (segs.drop 1).foldl (fun n x => n + x.2) 0
/-- What an image job reads of each segment: all of it, or for FIX_ENCODE the block and the data chunks. -/
def readLens (limit : Nat) : List Seg → List Nat
  | [] => []
  | x :: t => min x.2 limit :: readLens (limit - x.2) t
/-- Pieces of a write of bytes at an offset of the stream: segment number, address, bytes. -/
def pieces : Nat → List Seg → Nat → Bytes → List (Nat × Nat × Bytes)
  | _, [], _, _ => []
  | i, x :: t, off, b =>
    if b.isEmpty then []
    else if x.2 ≤ off then pieces (i + 1) t (off - x.2) b
    else (i, x.1 + off, b.take (x.2 - off)) :: pieces (i + 1) t 0 (b.drop (x.2 - off))
/-- Write pieces of a function; the failed segments and the bytes written. -/
def putPieces (fn : Nat) (l : List (Nat × Nat × Bytes)) (s : State) : (List Nat × Nat) × State :=
  l.foldl (fun a x => match dmaPut fn x.2.1 x.2.2 a.2 with
    | (true, s) => ((a.1.1, a.1.2 + x.2.2.length), s)
    | (false, s) => ((a.1.1 ++ [x.1], a.1.2), s)) (([], 0), s)
/-- DUN of the first unit of chunk j of an image (R568). -/
def imageDun (p : Profile) (oid stripe j : Nat) : Nat := oid * 2 ^ 64 + (stripe * p.n + j) * 2 ^ (p.log - p.du)
/-- XTS of chunk j under a key, or the bytes themselves. -/
def imageCrypt (p : Profile) (enc : Bool) (key : Option Bytes) (oid stripe j : Nat) (b : Bytes) : Bytes :=
  match key with
  | some k => xts enc k p.du (imageDun p oid stripe j) b
  | none => b
/-- What a job makes of an image: the outcome of each chunk and the writes at the source or the destination. -/
structure JobDone where
  /-- Outcome list of Stripe.judge; [] for FIX_ENCODE. -/
  rows : List (Nat × Nat × Option Bytes × Option Bytes)
  /-- Writes into the record block: offset, bytes. -/
  block : List (Nat × Bytes)
  /-- Writes into the chunk stream: offset, bytes. -/
  stream : List (Nat × Bytes)
  deriving DecidableEq, Repr
/-- FIX_ENCODE (R566, R567): block bytes 64-2,663, the parity, and with XTS the data. -/
def encodeJob (p : Profile) (num : Nat) (hkey : Bytes) (key : Option Bytes) (block stream : Bytes) : JobDone :=
  let oid := u64 block 0; let stripe := u32 block 8
  let all := rsEncode p (chunksOf p.chunk p.k stream)
  let recs := (all.zipIdx.map fun y => freshRecord p num y.2 oid stripe hkey y.1).flatten
  let out := (all.zipIdx.filter fun y => key.isSome || p.k ≤ y.2).map fun y => (y.2 * p.chunk, imageCrypt p true key oid stripe y.2 y.1)
  { rows := [], block := [(64, overwrite (slice block 64 2560) 0 recs ++ zeros 40)], stream := out }
/-- The stripe of an image. -/
def imageStripe (p : Profile) (num : Nat) (hkey : Bytes) (key : Option Bytes) (block stream : Bytes) : Stripe :=
  let oid := u64 block 0; let stripe := u32 block 8
  { p := p, num := num, oid := oid, stripe := stripe, key := hkey,
    data := (chunksOf p.chunk p.n stream).zipIdx.map fun y => imageCrypt p false key oid stripe y.2 y.1
    recs := chunksOf 64 p.n (block.drop 64), missing := (List.range p.n).filter fun j => u8 block (2624 + j) == 7 }
/-- FIX_VERIFY and FIX_REPAIR (R569-R572): verdicts, and with repair the records and the rebuilt chunks. -/
def checkJob (x : Stripe) (repair : Bool) (key : Option Bytes) (block : Bytes) : JobDone :=
  let l := x.judge repair
  if !repair then { rows := l, block := [(2624, verdictBytes l)], stream := [] }
  else
    let recs := overwrite (slice block 64 2560) 0 (x.recsAfter l).flatten
    let out := l.zipIdx.filterMap fun y => y.1.2.2.2.map fun d => (y.2 * x.p.chunk, imageCrypt x.p true key x.oid x.stripe y.2 d)
    { rows := l, block := [(64, recs ++ verdictBytes l)], stream := out }
/-- FIX_MIGRATE (R578): the outcome without REPAIR leaves every chunk that is not GOOD unrepaired; the destination image in full. -/
def migrateJob (x : Stripe) (repair : Bool) (newKey : Option Bytes) (block : Bytes) : JobDone :=
  let l := if repair then x.judge true else (x.judge false).map fun y => if y.1 == 0 then y else (y.1, 2, none, none)
  let b := overwrite (overwrite block 64 (x.recsAfter l).flatten) 2624 (verdictBytes l)
  let out := (x.dataAfter l).zipIdx.map fun y => (y.2 * x.p.chunk, imageCrypt x.p true newKey x.oid x.stripe y.2 y.1)
  { rows := l, block := [(0, b)], stream := out }
/-- CHUNK_FAULT records of an outcome (R588). -/
def faultRecords (path oid stripe : Nat) (l : List (Nat × Nat × Option Bytes × Option Bytes)) (s : State) : State :=
  forEach (l.zipIdx.filter fun y => y.1.1 != 0) (fun y s => chunkFault y.1.1 y.2 y.1.2.1 path oid stripe s) s
/-- Writes of a job to an image whose block is segment `base`; the failed segments and the bytes written. -/
def putImage (fn base : Nat) (segs : List Seg) (x : JobDone) (s : State) : (List Nat × Nat) × State :=
  let blk := segs.headD (0, 0)
  putPieces fn ((x.stream.map fun w => pieces (base + 1) (segs.drop 1) w.1 w.2).flatten ++ x.block.map fun w => (base, blk.1 + w.1, w.2)) s

/-- Complete an integrity entry. -/
def fixFinish (g seq status len mask aux info : Nat) (s : State) : State := stoFinish g seq status len mask aux info s
/-- An integrity entry that has passed its checks (R574): its source image is read and the job goes to point 0x06. -/
def fixRun (g seq : Nat) (s : State) : State :=
  match s.ring g, s.workOf g seq with
  | some r, some w =>
    let e := w.entry
    let all := entSegments e
    let n := if entKind e == 0x23 then all.length / 2 else all.length
    let segs := all.take n
    let long := (List.range all.length).filter fun i => !inR (entLen e i) 1 16777216 || (i % n == 0 && entLen e i != 4096)
    let failAll := fixFinish g seq stBadParam 0 (2 ^ all.length - 1) 0 0 s
    match s.profile (fixProfile e) with
    | none => failAll
    | some p =>
      if entNsid e != 0 || streamLen segs != p.n * p.chunk || (entKind e == 0x23 && (all.drop n).map (·.2) != segs.map (·.2)) then failAll
      else if !long.isEmpty then fixFinish g seq stBadParam 0 (maskOf long) 0 0 s
      else if !s.hmacOk p then fixFinish g seq stDenied 0 (2 ^ all.length - 1) 0 0 s
      else
        let lens := readLens (if entKind e == 0x20 then 4096 + p.k * p.chunk else 4096 + p.n * p.chunk) segs
        match fetchBuffers g seq (lens.filter (0 < ·)) s with
        | (false, s) => s
        | (true, s) =>
          let s := forEach ((segs.zip lens).zipIdx.filter fun y => 0 < y.1.2) (fun y s =>
            match s.workOf g seq with
            | none => s
            | some w =>
              let (b, s) := dmaGet r.fn y.1.1.1 y.1.2 (w.data.getD y.2 none) s
              modWork g seq (fun w => { w with data := (w.data ++ List.replicate (y.2 + 1 - w.data.length) none).set y.2 b }) s) s
          enqueueAt 0x106 (s.ownerOf r.fn) 0 (lens.foldl (· + ·) 0) false (.entry g seq) s
  | _, _ => s
/-- The engine finishes an integrity entry (R576, R577). -/
def fixEntryDone (g seq : Nat) (s : State) : State :=
  match s.ring g, s.workOf g seq with
  | some r, some w =>
    let e := w.entry
    let all := entSegments e
    let kind := entKind e
    let n := if kind == 0x23 then all.length / 2 else all.length
    match s.profile (fixProfile e) with
    | none => fixFinish g seq stBadParam 0 (2 ^ all.length - 1) 0 0 s
    | some p =>
      let lens := readLens (if kind == 0x20 then 4096 + p.k * p.chunk else 4096 + p.n * p.chunk) (all.take n)
      let failed := (List.range n).filter fun i => 0 < lens.getD i 0 && (w.data.getD i none).isNone
      if !failed.isEmpty then fixFinish g seq stFault 0 (maskOf failed) 0 0 s
      else
        let block := (w.data.getD 0 none).getD []
        let stream := ((List.range n).drop 1).foldl (fun b i => b ++ (w.data.getD i none).getD []) []
        let key := if (fixFlags e).testBit 0 then some (((s.slotOf r.fn (entKey e)).map s.slotKey).getD []) else none
        let newKey := if (fixFlags e).testBit 0 then some (((s.slotOf r.fn (u16 (entParams e) 2)).map s.slotKey).getD []) else none
        let hkey := s.slotKey p.slot
        let x := imageStripe p (fixProfile e) hkey key block stream
        let repair := kind == 0x22 || kind == 0x23
        let job := if kind == 0x20 then encodeJob p (fixProfile e) hkey key block stream
          else if kind == 0x23 then migrateJob x ((fixFlags e).testBit 1) newKey block else checkJob x repair key block
        let st := if kind == 0x20 then stOk else judgeStatus job.rows repair
        let s := faultRecords 0 x.oid x.stripe job.rows s
        let base := if kind == 0x23 then n else 0
        let (job, s) := if kind == 0x23 && st == stFault then
            let (b, s) := freeBytes 4096 s
            let (c, s) := freeBytes (p.n * p.chunk) s
            ({ job with block := [(0, b)], stream := [(0, c)] }, s)
          else (job, s)
        let ((bad, len), s) := putImage r.fn base (if kind == 0x23 then all.drop n else all) job s
        let info := if kind == 0x20 then 0xFF else judgeInfo job.rows
        let aux := if kind == 0x20 then 0 else judgeAux job.rows
        fixFinish g seq (if bad.isEmpty then st else stFault) len (maskOf bad.eraseDups) aux info s
  | _, _ => s

/-- A FIX_ENCODE entry arrives (Table 15-5). -/
def execEntryFixEncode (g : Nat) (entry : Bytes) (data : List (Option Bytes)) (s : State) : Out := .next (arrive g 0x20 entry data (fixRun g) s)
/-- A FIX_VERIFY entry arrives. -/
def execFixVerifyEntry (g : Nat) (entry : Bytes) (data : List (Option Bytes)) (s : State) : Out := .next (arrive g 0x21 entry data (fixRun g) s)
/-- A FIX_REPAIR entry arrives. -/
def execFixRepairEntry (g : Nat) (entry : Bytes) (data : List (Option Bytes)) (s : State) : Out := .next (arrive g 0x22 entry data (fixRun g) s)
/-- A FIX_MIGRATE entry arrives. -/
def execEntryFixMigrate (g : Nat) (entry : Bytes) (data : List (Option Bytes)) (s : State) : Out := .next (arrive g 0x23 entry data (fixRun g) s)

/-! ### Image jobs by command (R587) -/

/-- Segments of FIX_VERIFY and FIX_REPAIR (Table 15-8). -/
def cmdSegments (b : Bytes) : List Seg := (List.range (min 8 (u8 b 4))).map fun i => (u64 b (8 + 12 * i), u32 b (16 + 12 * i))
/-- Read the segments of a PF0 image: their bytes, or the CAUSE of the transfer that failed. -/
def readImage : List Seg → List (Option Bytes) → State → Except Nat (List Bytes) × State
  | [], _, s => (.ok [], s)
  | x :: t, data, s =>
    let cause := match dmaCheck pf0 x.1 x.2 false s with
      | .refused c => c
      | _ => 2
    match dmaGet pf0 x.1 x.2 (data.headD none) s with
    | (none, s) => (.error cause, s)
    | (some b, s) => match readImage t (data.drop 1) s with
      | (.ok l, s) => (.ok (b :: l), s)
      | (.error c, s) => (.error c, s)
/-- The engine finishes a job by command: its reply (R587). -/
def fixCmdDone (j : FixJob) (data : List (Option Bytes)) (s : State) : State :=
  let b := j.params
  let s := modSto (fun x => { x with jobs := x.jobs.filter fun y => y.id != j.id }) s
  let reply (st : Nat) (body : Bytes) (s : State) : State := finishWaits (· == .fixJob j.id) st (fun _ => body) s
  match s.profile (u8 b 0) with
  | none => reply stBadParam (errParams 0 0) s
  | some p =>
    let segs := cmdSegments b
    match readImage segs data s with
    | (.error c, s) => reply stFault (errParams 0xFFFF c) s
    | (.ok l, s) =>
      let block := l.headD []
      let key := if (u8 b 1).testBit 0 then some (s.slotKey (u16 b 2)) else none
      let x := imageStripe p (u8 b 0) (s.slotKey p.slot) key block (l.drop 1).flatten
      let job := checkJob x j.repair key block
      let s := faultRecords 1 x.oid x.stripe job.rows s
      let cause := if (s.fn pf0).bme then 2 else 1
      let ((bad, _), s) := putImage pf0 0 segs job s
      if bad.isEmpty then
        reply (judgeStatus job.rows j.repair) (putLe 8 (judgeAux job.rows) ++ putLe 4 (judgeInfo job.rows) ++ zeros 4 ++ verdictBytes job.rows) s
      else reply stFault (errParams 0xFFFF cause) s
/-- FIX_JOB_DONE (R576, R587): the engine finishes the job of item id; data is what a command job's reads returned. -/
def execFixJobDone (id : Nat) (data : List (Option Bytes)) (s : State) : Out :=
  match s.inUnit 0x106 id with
  | none => .next s
  | some i =>
    let s := outOfUnit 0x106 i s
    match i.job with
    | .entry g seq => .next (fixEntryDone g seq s)
    | .fix n => match s.sto.jobs.find? fun j => j.id == n with
      | some j => .next (fixCmdDone j data s)
      | none => .next s
    | _ => .next s

/-- FIX_VERIFY and FIX_REPAIR by command (Table 15-8). -/
def fixCommand (op : Nat) (repair : Bool) (s : State) : Out :=
  interpret op (fun p s =>
    let b := p.params
    let n := u8 b 4
    let x := s.profile (u8 b 0)
    let segs := cmdSegments b
    let total := (x.map fun y => y.n * y.chunk).getD 0
    let lens := (List.range n).map fun i => (16 + 12 * i, inR (u32 b (16 + 12 * i)) 1 16777216 && (i != 0 || u32 b 16 == 4096))
    let rest := (List.range (8 - n)).map fun i => (8 + 12 * (n + i), (slice b (8 + 12 * (n + i)) 12).all (· == 0))
    let keyOk := if (u8 b 1).testBit 0 then ((s.cry.slots.lookup (u16 b 2)).map (·.type)) == some 2 else u16 b 2 == 0xFFFF
    checked p 104 ([(0, x.isSome), (2, keyOk), (4, inR n 2 8)] ++ lens ++ rest ++ [(28, streamLen segs == total)]) (fun s =>
      if x.any fun y => !s.hmacOk y then fail p stDenied 0xFFFF 0 s
      else
        let (id, s) := newId s
        let s := modSto (fun y => { y with jobs := y.jobs ++ [⟨id, repair, b⟩] }) s
        waitFor p (.fixJob id) (enqueueAt 0x106 16 0 (4096 + total) false (.fix id) s)) s) s
/-- FIX_VERIFY (0x0801). -/
def execFixVerify (s : State) : Out := fixCommand 0x0801 false s
/-- FIX_REPAIR (0x0802). -/
def execFixRepair (s : State) : Out := fixCommand 0x0802 true s

/-! ### Scrubbing (R583-R585) -/

/-- A drive command of session n is on its way. -/
def Drive.scrubs (x : Drive) (n : Nat) : Bool := (x.waiting ++ (x.out.map (·.2)).filter fun c => !c.late).any fun c => c.handle == 0x10000 + n
/-- SCRUB_STRIPE (R583, R560): session n asks its drive for the next stripe, when its rate allows and its engines are on. -/
def execScrubStripe (n : Nat) (s : State) : Out :=
  let x := s.scrub n
  match s.space x.ns, (s.space x.ns).bind s.nsProfile with
  | some b, some p =>
    match s.drive (u8 b 9) with
    | none => .next s
    | some d =>
      let paced := x.reads.all fun r => decide (r.1 + ceilDiv (r.2 * 8) x.rate ≤ s.us)
      if !x.on || d.failed || d.scrubs n || !paced || (s.unitsOn 0x105).isEmpty || (s.unitsOn 0x106).isEmpty then .next s
      else
        let c : DrvCmd := { handle := 0x10000 + n, cid := 0, op := 2, ns := x.ns, lba := stripeLba p b x.next, blocks := (stripeBlocks p b).2, stripe := some x.next }
        let held := (d.waiting ++ d.out.map (·.2)).any (clash c)
        .next (modDrive (u8 b 9) (fun d => { d with waiting := d.waiting ++ [c] }) (modScrub n (fun x => { x with waiting := held }) s))
  | _, _ => .next s
/-- STATE of a session (Table 15-9). -/
def State.scrubState (s : State) (x : Scrub) : Nat := if !x.on then 0 else if s.pmc.st == .hold then 2 else if x.waiting then 3 else 1
/-- FIX_SCRUB_SET (Table 15-9). -/
def execFixScrubSet (s : State) : Out :=
  interpret 0x0803 (fun p s =>
    let b := p.params
    let n := u8 b 0; let ns := u16 b 2
    let start := u8 b 1 == 1
    let fix := (s.space ns).bind s.nsProfile
    let count := match s.space ns, fix with
      | some x, some q => u64 x 24 / (stripeBlocks q x).1
      | _, _ => 0
    checked p 16 [(0, decide (n ≤ 15)), (1, inR (u8 b 1) 1 3), (2, !start || fix.isSome), (8, !start || inR (u32 b 8) 1 100000), (12, !start || decide (u32 b 12 < count))] (fun s =>
      let other := (List.range 16).any fun m => (s.scrub m).on && (m == n || (s.scrub m).ns == ns)
      if start && other then fail p stBusy 0xFFFF 0 s
      else
        let s := if start then modScrub n (fun _ => { on := true, ns := ns, flags := u8 b 4, rate := u32 b 8, next := u32 b 12 }) s
          else if u8 b 1 == 2 then endScrub n 1 s else s
        let x := s.scrub n
        complete p stOk (layout 32 [(0, 1, s.scrubState x), (2, 2, x.ns), (4, 4, x.next), (8, 4, x.done), (12, 4, x.passes), (16, 4, x.found), (20, 4, x.repaired), (24, 4, x.unrepaired)]) s) s) s

/-! ### Profiles (R561-R563) -/

/-- A job in the pool names a profile. -/
def State.jobNames (s : State) (n : Nat) : Bool :=
  ((s.point 0x106).queue ++ (s.point 0x106).serving).any fun i => match i.job with
    | .entry g seq => (s.workOf g seq).any fun w => fixProfile w.entry == n
    | .fix j => s.sto.jobs.any fun y => y.id == j && u8 y.params 0 == n
    | _ => false
/-- FIX_RS_CFG (Table 15-6). -/
def execFixRsCfg (s : State) : Out :=
  interpret 0x0804 (fun p s =>
    let b := p.params
    let n := u8 b 0; let set := u8 b 1 == 1
    let when (x : Bool) : Bool := !set || x
    checked p 32 [(0, inR n 1 15), (1, inR (u8 b 1) 1 2), (2, when (inR (u8 b 2) 1 32)), (3, when (decide (u8 b 3 ≤ 8))), (4, when (inR (u8 b 4) 16 24)), (5, when (inR (u8 b 5) 1 3)),
        (6, when (inR (u8 b 6) 9 (u8 b 4))), (8, when (u8 b 5 != 3 || decide (u16 b 8 < 4096))), (16, when (u64 b 16 % 4096 == 0)), (24, when (u64 b 16 == 0 || u32 b 24 != 0))] (fun s =>
      let named := s.sto.spaces.filter fun x => u8 x.2 34 == n
      if !set && (s.profile n).isNone then complete p stNote [] s
      else if !named.isEmpty then fail p stBusy 0xFFFF 1 s
      else if (List.range 16).any fun m => (s.scrub m).on && named.any fun x => x.1 == (s.scrub m).ns then fail p stBusy 0xFFFF 2 s
      else if s.jobNames n then fail p stBusy 0xFFFF 3 s
      else
        let l := s.sto.profiles.filter fun x => x.1 != n
        let x : Profile := ⟨u8 b 2, u8 b 3, u8 b 4, u8 b 5, u8 b 6, u16 b 8, u64 b 16, u32 b 24⟩
        ok p (modSto (fun y => { y with profiles := if set then tins n x l else l }) s)) s) s

end Sys2Proof.Machine
end

