-- ==== Sys2Proof/Machine/Ports.lean ====
section
/-!
DEFINITION. Sys2Proof/Machine/Ports.lean: Ethernet ports (ch 10).
-/
namespace Sys2Proof.Machine
open Sys2Proof

/-- The MACs admit frames: RUN or TRIM with no drain in progress and ETH_REFCLK present (R131, R351). -/
def State.macsOpen (s : State) : Bool := s.dataOn && s.ckg.ethRef && s.pmc.trans.isNone && s.unreset
/-- A port that exists and can receive. -/
def State.portOpen (s : State) (p : Nat) : Bool := s.macsOpen && decide (p < modePorts s.net.mode) && s.portUp p

/-- Register a pause or PFC frame (R361, R362, R364): b is the frame without its FCS. -/
def registerPause (p : Nat) (b : Bytes) (s : State) : State :=
  let x := s.port p
  let dst := b.take 6
  let mine := dst == putBe 6 0x0180C2000001 || dst == s.portMac p
  let op := beAt b 14 2
  if !mine then s
  else if op == 1 && x.pauseNow == 1 then
    let s := countEv 1 p 10 1 s
    modPort p (fun x => { x with paused := if beAt b 16 2 == 0 then [] else [8] }) s
  else if op == 0x0101 && x.pauseNow == 2 then
    let vec := beAt b 16 2 % 256
    let s := forEach (bitsSet 8 vec) (fun c s => countEv 1 p (10 + c) 1 s) s
    let take := bitsSet 8 (vec &&& x.rxMask)
    modPort p (fun x => { x with paused := take.foldl (fun l c => if beAt b (18 + 2 * c) 2 == 0 then nclr c l else nset c l) x.paused }) s
  else s

/-- EEE TLV of an LLDPDU: the partner's Transmit Tw and Receive Tw (R370, R371). -/
def eeeTlv : Nat → Bytes → Option (Nat × Nat)
  | 0, _ => none
  | n + 1, b =>
    let t := beAt b 0 2 / 512; let l := beAt b 0 2 % 512
    if b.length < 2 || t == 0 then none
    else if t == 127 && l == 14 && beAt b 2 3 == 0x00120F && u8 b 5 == 5 then some (beAt b 6 2, beAt b 8 2)
    else eeeTlv n (b.drop (2 + l))

/-- The caddies of a received frame (R320, R323, R354): those it got, and whether a further one was refused. -/
def ingressBuffers (b : Bytes) (maxFrame : Nat) (s : State) : Option (List Nat × Bool × State) :=
  let p := parse b
  let sel := if p.ver == 0 then maxFrame else p.total + 4
  let len := b.length
  match cadTake 3 17 255 sel s with
  | none => none
  | some (hs, s) =>
    let room := hs.foldl (fun n h => n + (s.pool (h / 2 ^ 22 % 8)).size) 0
    if len ≤ room then some (hs, false, s)
    else match cadTake 3 17 255 (maxFrame - room) s with
    | some (more, s) => some (hs ++ more, false, s)
    | none => some (hs, true, s)

/-- n bytes come in at port p; fec: the codewords that its FEC has corrected and could not correct since the frame before (Table 10-8). -/
def wireIn (p n : Nat) (fec : Nat × Nat) (s : State) : State :=
  let sat (a b : Nat) : Nat := min 0xFFFFFFFF (a + b)
  modPort p (fun x => { x with winRx := x.winRx + 8 * n, corrected := if x.fecNow = 0 then x.corrected else sat x.corrected fec.1,
                               uncorrectable := if x.fecNow = 0 then x.uncorrectable else sat x.uncorrectable fec.2 }) s
/-- FRAME_RECEIVED (R353-R357, Table 10-3): bytes with the FCS; the first row of the table that matches decides. -/
def execFrameReceived (p : Nat) (bytes : Bytes) (phyErr : Bool) (fec : Nat × Nat) (s : State) : Out :=
  if !s.portOpen p then .next s
  else
    let x := s.port p
    let n := bytes.length
    let s := wireIn p n fec s
    if n < 64 then .next (countEv 1 p 1 1 s)
    else
      let body := bytes.take (n - 4)
      let exceeds := decide (x.maxFrame < n)
      let bad := phyErr || u32 bytes (n - 4) != (fcs body).toNat
      if !exceeds && !bad && beAt body 12 2 == 0x8808 then .next (registerPause p body (countEv 1 p 4 1 s))
      else
        let kept := if exceeds then (bytes.take x.maxFrame).take (x.maxFrame - 4) else body
        let s := countEv 1 p (if exceeds then 2 else if bad then 3 else 0) 1 s
        match macsecArrive s (s.portVp p) kept with
        | .drop => .next (chargeDrop (0x48 + p) 17 (n + 20) s)
        | sec =>
          match ingressBuffers (if exceeds then bytes.take x.maxFrame else bytes) x.maxFrame s with
          | none => .next (chargeDrop (0x48 + p) 17 (n + 20) (if exceeds || bad then s else countEv 1 p 5 1 s))
          | some (hs, short, s) =>
            let s := if exceeds || bad then s else countEv 1 p 6 n s
            let (kept, icv, sa) := match sec with
              | .plain b i pn good => (b, good, some (i, pn))
              | _ => (kept, true, none)
            let (early, isSealed) := match sec with
              | .sealed y => (none, some y)
              | _ => (some (), none)
            let q := parse kept
            let m := kept.length + 4
            let lenBad := early.isSome && q.ver != 0 && (decide (m < q.total + 4) || decide (max 64 (q.total + 4) < m))
            let verdict := if exceeds then 2 else if bad then 1 else if short then 5 else if !icv then 4 else if lenBad then 3 else 0
            let s := if verdict == 0 && q.ether == 0x88CC then
                match eeeTlv 32 (kept.drop q.l3) with
                | some (tx, rx) => modPort p (fun x => { x with partnerTw := some rx, partnerTxTw := tx, lldpDirty := true }) s
                | none => s
              else s
            let vp := s.portVp p
            let (id, s) := newId s
            let cls := (q.tags.head?.map fun t => t.2 / 8192).getD 0
            let f : Frame := { id := id, bytes := kept, inVp := vp, tc := s.classIn vp kept, bufs := hs, arrival := some (p, cls) }
            match isSealed with
            | some y => .next { s with net := { s.net with inq := s.net.inq ++ [{ frame := f, verdict := verdict, sealed := some y }] } }
            | none => .next (portEnter f verdict false sa s)

/-- PAUSE_TIME_EXPIRY (R362): class 0-7, or 8 for the port. -/
def execPauseTimeExpiry (p cls : Nat) (s : State) : Out := .next (modPort p (fun x => { x with paused := nclr cls x.paused }) s)
/-- Frames that ingress occupancy calls for now: entries that cross XOFF, and entries that fall to XON (R366). -/
def pauseNeeds (s : State) (p : Nat) : List (Nat × Nat) :=
  let x := s.port p
  x.entries.filterMap fun e =>
    let occ := s.entryOcc p e
    if x.xoffSent.contains e then (if occ ≤ x.xon.getD e 0 * 1024 then some (e, 0) else none)
    else if x.xoff.getD e 0 * 1024 < occ then some (e, x.quanta) else none
/-- PAUSE_GENERATION (R366, R367). -/
def execPauseGeneration (p : Nat) (s : State) : Out :=
  let needs := pauseNeeds s p
  if needs.isEmpty || !s.portUp p then .next s
  else
    let sent := needs.foldl (fun l e => if e.2 == 0 then nclr e.1 l else nset e.1 l) (s.port p).xoffSent
    .next (sendPause p ((s.port p).pauseNow == 2) needs (modPort p (fun x => { x with xoffSent := sent }) s))
/-- PAUSE_REFRESH (R366): occupancy is still above XON_KIB. -/
def execPauseRefresh (p : Nat) (s : State) : Out :=
  let x := s.port p
  let due := (x.xoffSent.filter fun e => decide (x.xon.getD e 0 * 1024 < s.entryOcc p e)).map fun e => (e, x.quanta)
  .next (if due.isEmpty || !s.portUp p then s else sendPause p (x.pauseNow == 2) due s)

/-- The frame whose turn it is at an egress point leaves (R358, R363, R445). -/
def transmit (k : Nat) (s : State) : State :=
  let port := inR k 0x48 0x4F
  let p := k - 0x48
  let x := s.port p
  let paused := if port then x.paused else []
  let able := if port then s.portUp p && x.park ≤ 1 else inR k 0x58 0x5B && s.latReady (k - 0x58)
  if !able || paused.contains 8 then s
  else
    let next : Option (QItem × State) := match (s.point k).serving with
      | i :: _ => if paused.contains i.cls then none else some (i, modPoint k (fun x => { x with serving := [] }) s)
      | [] => popItem k paused s
    match next with
    | none => s
    | some (i, s) =>
      match i.job.frame? with
      | none => s
      | some f =>
        let s := if port then sendMac p f.bytes false (cadRelease f.bufs s) else latSend (k - 0x58) f false s
        match (if port then s.aggOf p else none) with
        | some a => releaseHeld a s
        | none => s
/-- FRAME_TRANSMIT. -/
def execFrameTransmit (k : Nat) (s : State) : Out := .next (transmit k s)

/-- AN_COMPLETE (R347, R348): result 0 agreed, 1 no common technology, 2 no common FEC, 3 training failed. -/
def execAnComplete (p result fec : Nat) (pause eee : Bool) (s : State) : Out :=
  let x := s.port p
  if x.st != 2 || !x.an then .next s
  else if result == 0 then
    let s := modPort p (fun x => { x with partnerPause := pause, eeeAble := eee && typeLpi x.type, fecNow := if x.fec == 0xFF then fec else x.fec }) s
    .next (setPort p 3 0 s)
  else .next (setPort p 1 0 (logEvent 9 0x8003 (detail [(16, 1, p), (17, 1, result - 1)]) s))
/-- AN_RESTART (R347). -/
def execAnRestart (p : Nat) (s : State) : Out :=
  let x := s.port p
  .next (if x.an && x.st == 1 && s.macsOpen && !s.lat.ho.held then setPort p 2 0 s else s)
/-- PORT_LINK_CHANGE (R352): 0 signal lost, 1 link up, 2 local fault, 3 remote fault. -/
def execPortLinkChange (p what : Nat) (s : State) : Out :=
  let x := s.port p
  if x.st == 0 || x.st == 5 || !s.macsOpen || s.lat.ho.held then .next s
  else match what with
  | 0 => .next (hoCheck (setPort p (if x.an then 2 else 1) 0 s))
  | 1 => .next (if x.an && x.st == 2 then s else setPort p 3 0 s)
  | 2 => .next (hoCheck (setPort p 4 1 (modPort p (fun x => { x with remoteFault := false }) s)))
  | _ => .next (hoCheck (setPort p 4 1 (modPort p (fun x => { x with remoteFault := true }) s)))

/-- The LLDPDU of a port (R370, R371). -/
def lldpdu (s : State) (p : Nat) : Bytes :=
  let x := s.port p
  let tlv (t : Nat) (b : Bytes) : Bytes := putBe 2 (t * 512 + b.length) ++ b
  let rxTw := Config.minWakeUs x.type + (match s.aggOf p with
    | some a => (s.agg a).twExtra
    | none => 0)
  putBe 6 0x0180C200000E ++ s.portMac p ++ putBe 2 0x88CC ++ tlv 1 ([4] ++ putBe 6 s.net.baseMac) ++ tlv 2 ([3] ++ s.portMac p) ++ tlv 3 (putBe 2 120)
    ++ (if typeLpi x.type then
        tlv 127 (putBe 3 0x00120F ++ [5] ++ putBe 2 (x.partnerTw.getD 0) ++ putBe 2 rxTw ++ putBe 2 rxTw ++ putBe 2 x.partnerTxTw ++ putBe 2 (x.partnerTw.getD 0))
      else []) ++ [0, 0]
/-- LLDP_TIMER (R370). -/
def execLldpTimer (p : Nat) (s : State) : Out :=
  .next (if (s.port p).flags.testBit 1 && s.portUp p && s.macsOpen then sendMac p (lldpdu s p) false (modPort p (fun x => { x with lldpDirty := false }) s) else s)

/-- LACPDU_RECEIVED (R373): the partner's actor fields are kept, and this side synchronises, collects and distributes in turn. -/
def execLacpduReceived (p : Nat) (pdu : Bytes) (s : State) : Out :=
  match s.aggOf p with
  | none => .next s
  | some a =>
    if !s.portOpen p then .next s
    else
      let info := (slice pdu 18 15 ++ zeros 15).take 15
      let ps := u8 info 14
      let s := modPort p (fun x => { x with partner := ps, partnerInfo := info }) s
      let x := s.port p
      let away := x.park == 3
      let act := actorState (s.agg a).fast true (ps.testBit 3 && !away) (ps.testBit 3 && ps.testBit 4 && !away && x.park != 1 && x.park != 2)
      .next (if act == x.actor then s else sendLacp p act s)
/-- LACP_PERIODIC (R373). -/
def execLacpPeriodic (p : Nat) (s : State) : Out :=
  match s.aggOf p with
  | none => .next s
  | some a =>
    if !s.portOpen p then .next s
    else .next (sendLacp p (if (s.port p).actor == 0 then actorState (s.agg a).fast true false false else (s.port p).actor) s)

/-! ### Parking (R376-R385) -/

/-- The members that parking may act on. -/
def State.parkable (s : State) (a : Nat) : List Nat := (s.agg a).members.filter fun p => (s.port p).st != 5 && (s.port p).park != 6
/-- PARK_WINDOW_END (R377, R378, R381). -/
def execParkWindowEnd (a : Nat) (s : State) : Out :=
  let g := s.agg a
  let ms := g.members
  let act := s.activeMembers a
  let rate := modeRate s.net.mode * 1000
  let n := act.length
  let sum (l : List Nat) (f : Port → Nat) : Nat := l.foldl (fun t p => t + f (s.port p)) 0
  let lpi := ms.filter fun p => (s.port p).park == 2
  let b := max (sum act (·.winTx)) (sum (act ++ lpi) (·.winRx))
  let queued (p : Nat) : Nat := (s.point (0x48 + p)).queued none
  let s := forEach ms (fun p s => modPort p (fun x => { x with winTx := 0, winRx := 0 }) s) s
  if !g.on || !g.parkEn || s.lat.bound.contains a || s.pmc.st != .trim || s.pmc.trans.isSome then .next (modAgg a (fun g => { g with calm := 0 }) s)
  else if decide (g.wakePct * n * rate ≤ 100 * b) || act.any (fun p => decide (g.wakeQueue * 1024 < queued p)) then
    let waking := (ms.filter fun p => (s.port p).park == 5).length
    let parked := (s.parkable a).filter fun p => (s.port p).parking
    let enough (k : Nat) : Bool := decide (200 * b ≤ (g.parkPct + g.wakePct) * (n + waking + k) * rate)
    let k := ((List.range (parked.length + 1)).find? enough).getD parked.length
    let s := forEach (ms.filter fun p => (s.port p).park == 1) (fun p s => modPort p (fun x => { x with park := 0 }) s) s
    .next (forEach (parked.take k) startWake (modAgg a (fun g => { g with calm := 0 }) s))
  else if decide (g.minActive < n) && decide (100 * b < g.parkPct * (n - 1) * rate) then
    let busy := ms.any fun p => (s.port p).park == 1 || (s.port p).park == 3
    if g.holdMs ≤ g.calm + 1 && !busy then
      match ((act.filter fun p => (s.parkable a).contains p)).getLast? with
      | some p => .next (modPort p (fun x => { x with park := 1 }) (modAgg a (fun g => { g with calm := 0 }) s))
      | none => .next s
    else .next (modAgg a (fun g => { g with calm := g.calm + 1 }) s)
  else .next (modAgg a (fun g => { g with calm := 0 }) s)

/-- PARK_DRAIN_DONE (R379, Table 10-4): the member's queue is empty. -/
def execParkDrainDone (p : Nat) (s : State) : Out :=
  match s.aggOf p with
  | none => .next s
  | some a =>
    let x := s.port p
    if x.park != 1 || !((s.point (0x48 + p)).queue.isEmpty && (s.point (0x48 + p)).serving.isEmpty) then .next s
    else
      let lpi := typeLpi x.type && (s.agg a).lpi && x.wakeTime.isSome
      let s := logEvent 9 0x8004 (detail [(16, 1, a), (17, 1, p), (18, 1, b2n (!lpi))]) s
      let s := releaseHeld a (modPort p (fun x => { x with park := if lpi then 2 else 3 }) s)
      .next (if lpi then countEv 1 p 20 1 s else sendLacp p (actorState (s.agg a).fast true false false) s)
/-- DEEP_PENDING_END (Table 10-4): the link goes down and the lanes, and MAC domains that no other port uses, are gated. -/
def execDeepPendingEnd (p : Nat) (s : State) : Out :=
  if (s.port p).park != 3 then .next s
  else
    let s := setPort p 1 6 (modPort p (fun x => { x with park := 4 }) s)
    let s := powerDomains (s.laneDomains p) false 3 s
    .next (powerDomains ([46, 47, 48, 49].filter s.laneParks) false 3 s)
/-- MEMBER_ACTIVE (R382): a waking, or a failed, member carries traffic again. -/
def execMemberActive (p : Nat) (s : State) : Out :=
  let x := s.port p
  match s.aggOf p with
  | none => .next s
  | some a =>
    if !(x.park == 5 || x.park == 6) || !s.macsOpen then .next s
    else
      let s := if x.st == 3 then s else setPort p 3 0 s
      let s := modPort p (fun x => { x with park := 0, actor := actorState (s.agg a).fast true true true }) s
      .next (aggCheck a (logEvent 9 0x8005 (detail [(16, 1, a), (17, 1, p), (18, 1, b2n x.deep), (20, 4, s.us - x.wakeAt)]) s))
/-- WAKE_LATE (R382): the member is FAILED and the lowest-numbered parked member wakes in its place. -/
def execWakeLate (p : Nat) (s : State) : Out :=
  match s.aggOf p with
  | none => .next s
  | some a =>
    if (s.port p).park != 5 then .next s
    else
      let s := logEvent 9 0x8006 (detail [(16, 1, a), (17, 1, p), (18, 1, b2n (s.port p).deep)]) (modPort p (fun x => { x with park := 6 }) s)
      match (s.parkable a).find? fun q => (s.port q).parking with
      | some q => .next (startWake q s)
      | none => .next s
/-- FAILED_MEMBER_RETRY (R382): bring-up runs again; MEMBER_ACTIVE follows when it succeeds. -/
def execFailedMemberRetry (p : Nat) (s : State) : Out :=
  let x := s.port p
  .next (if x.park == 6 && x.st != 3 && x.st != 5 then modPort p (fun x => { x with st := if x.an then 2 else 1 }) s else s)
/-- EEE_TLV_EXPIRY (R371, R379). -/
def execEeeTlvExpiry (p : Nat) (s : State) : Out :=
  let s := modPort p (fun x => { x with partnerTw := none }) s
  .next (if (s.port p).park == 2 then startWake p s else s)

/-! ### Port opcodes -/

/-- The settings of port p in PORT_MODE_SET parameters (Table 10-5). -/
def portCfg (b : Bytes) (p : Nat) : Port :=
  let o := 8 + 8 * p
  if u8 b o == 0 then {} else { type := u8 b o, fec := u8 b (o + 1), an := u8 b (o + 2) == 1, flags := u8 b (o + 3) % 4, maxFrame := u16 b (o + 4) }
/-- The fields of PORT_MODE_SET (Table 10-5). -/
def portCfgFields (b : Bytes) : List (Nat × Bool) :=
  let m := u8 b 0
  (0, decide (m ≤ 6)) :: ((List.range 8).map fun p =>
    let o := 8 + 8 * p
    let t := u8 b o; let fec := u8 b (o + 1); let an := u8 b (o + 2)
    if t == 0 then [] else
    [(o, decide (p < modePorts m) && (modeTypes m).contains t), (o + 1, (typeFec t).contains fec || (fec == 0xFF && an == 1)),
     (o + 2, decide (an ≤ 1) && (an == 0 || !typeC2m t)), (o + 4, inR (u16 b (o + 4)) 1518 9216)]).flatten
/-- Apply a mode with its ports (R387, R389): domains that the mode needs are ON, the others GATED. -/
def applyMode (b : Bytes) (s : State) : State :=
  let m := u8 b 0
  let s := { s with net := { s.net with mode := m, ports := [] } }
  let s := forEach (List.range (modePorts m)) (fun p s => modPort p (fun _ => { portCfg b p with changedAt := s.us }) s) s
  let lanes := ((List.range (modePorts m)).filter fun p => (s.port p).type != 0).map (modeLanes m) |>.flatten
  let s := powerDomains ((List.range 8).filterMap fun l => if lanes.contains l then some (50 + l) else none) true 0 s
  let s := powerDomains ((List.range 8).filterMap fun l => if lanes.contains l then none else some (50 + l)) false 7 s
  let used (k : Nat) : Bool := lanes.contains (2 * k) || lanes.contains (2 * k + 1)
  let s := powerDomains ((List.range 4).filterMap fun k => if used k then some (46 + k) else none) true 0 s
  powerDomains ((List.range 4).filterMap fun k => if used k then none else some (46 + k)) false 7 s
/-- PORT_MODE_SET (R386, R387). -/
def execPortModeSet (s : State) : Out :=
  interpret 0x0501 (fun p => checked p 72 (portCfgFields p.params) fun s =>
    let b := p.params
    let m := u8 b 0
    let need := (((List.range (modePorts m)).filter fun q => u8 b (8 + 8 * q) != 0).map (modeLanes m)).flatten
    if (List.range 4).any (fun a => (s.agg a).on) then fail p stBusy 0xFFFF 1 s
    else match need.find? fun l => s.domLost (50 + l) || s.domLost (46 + l / 2) with
    | some l => fail p stFenced 0xFFFF l s
    | none =>
      let s := portsDown 4 s
      let s := modLat (fun x => { x with ho := { x.ho with held := false } }) (applyMode b s)
      ok p (forEach (List.range (modePorts m)) bringUp s)) s

/-- One port's 32 bytes of PORT_STATUS (Table 10-8). -/
def portBytes (s : State) (p : Nat) : Bytes :=
  let x := s.port p
  putLe 1 x.st ++ putLe 1 x.type ++ putLe 1 x.fecNow ++ putLe 1 x.pauseNow ++ putLe 1 x.park ++ putLe 1 ((s.aggOf p).getD 0xFF) ++ putLe 1 x.actor
    ++ putLe 1 x.partner ++ putLe 2 (x.wakeTime.getD 0xFFFF) ++ putLe 2 x.suppressed ++ putLe 4 x.corrected ++ putLe 4 x.uncorrectable
    ++ putLe 4 ((s.us - x.changedAt) / 1000000) ++ zeros 8
/-- PORT_STATUS (Table 10-8). -/
def execPortStatus (s : State) : Out :=
  interpret 0x0502 (fun p => checked p 0 [] fun s =>
    complete p stOk (putLe 1 s.net.mode ++ zeros 3 ++ ((List.range 4).map fun a => putLe 1 (s.aggState a)).flatten
      ++ ((List.range 8).map (portBytes s)).flatten) s) s

/-- PORT_PAUSE_SET (R388, Table 10-6). -/
def execPortPauseSet (s : State) : Out :=
  interpret 0x0503 (fun p s =>
    let b := p.params
    let q := u8 b 0; let m := u8 b 1
    checked p 40 ([(0, decide (q < modePorts s.net.mode)), (1, decide (m ≤ 2)), (2, m == 2 || u8 b 2 == 0), (3, m == 2 || u8 b 3 == 0), (4, decide (1 ≤ u16 b 4))]
      ++ ((List.range 8).map fun c => [(8 + 4 * c, decide (16 ≤ u16 b (8 + 4 * c))), (10 + 4 * c, decide (u16 b (10 + 4 * c) < u16 b (8 + 4 * c)))]).flatten) (fun s =>
      let x := s.port q
      let s := if x.xoffSent.isEmpty || x.st != 3 then s else sendPause q (x.pauseNow == 2) (x.xoffSent.map fun e => (e, 0)) s
      let row (o : Nat) : List Nat := (List.range 8).map fun c => u16 b (o + 4 * c)
      ok p (modPort q (fun x => { x with pause := m, rxMask := u8 b 2, txMask := u8 b 3, quanta := u16 b 4, xoff := row 8, xon := row 10, paused := [], xoffSent := [] }) s)) s) s

/-- The fields of PORT_PARK_SET (Table 10-7). -/
def parkFields (s : State) (b : Bytes) : List (Nat × Bool) :=
  if u8 b 1 == 2 then [(0, decide (u8 b 0 ≤ 3))]
  else
    let ms := bitsSet 8 (u8 b 2)
    [(0, decide (u8 b 0 ≤ 3)), (1, u8 b 1 == 1), (2, !ms.isEmpty && ms.all fun p => decide (p < modePorts s.net.mode) && (s.port p).type != 0),
     (4, decide (1 ≤ u16 b 4)), (8, inR (u8 b 8) 1 ms.length), (9, inR (u8 b 9) 5 85), (10, inR (u8 b 10) 15 95 && decide (u8 b 9 + 10 ≤ u8 b 10)),
     (12, inR (u16 b 12) 10 60000), (14, inR (u16 b 14) 16 4096), (16, decide (u16 b 16 ≤ 100))]
/-- Ports that leave an aggregate lose their LACP state. -/
def dissolve (a : Nat) (s : State) : State :=
  let s := wakeAgg a s
  let frames := (s.agg a).held
  let ms := (s.agg a).members
  let s := forEach frames (fun f s => dropFrame (some (0x50 + a)) f s) s
  let s := forEach ms (fun p s => modPort p (fun x => { x with actor := 0, partner := 0, partnerInfo := [] }) s) s
  modLat (fun x => { x with bound := nclr a x.bound }) (modAgg a (fun _ => {}) s)
/-- PORT_PARK_SET (R373, R383, Table 10-7). -/
def execPortParkSet (s : State) : Out :=
  interpret 0x0504 (fun p s =>
    let b := p.params
    checked p 20 (parkFields s b) (fun s =>
      let a := u8 b 0
      if u8 b 1 == 2 then ok p (dissolve a s)
      else
        let ms := bitsSet 8 (u8 b 2)
        match ms.findSome? fun q => (s.aggOf q).filter (· != a) with
        | some o => fail p stBusy 0xFFFF o s
        | none =>
          let s := wakeAgg a s
          let old := s.agg a
          let fl := u8 b 3
          let g : Agg := { old with on := true, members := ms, parkEn := fl.testBit 0, fast := fl.testBit 1, lpi := fl.testBit 2, key := u16 b 4, pri := u16 b 6, minActive := u8 b 8, parkPct := u8 b 9, wakePct := u8 b 10, holdMs := u16 b 12, wakeQueue := u16 b 14, twExtra := u16 b 16, calm := 0 }
          let gone (e : Nat × Nat) : Bool := ms.contains (e.2 - 1)
          let s := modAgg a (fun _ => { g with conv := old.conv.filter gone, alt := old.alt.filter gone }) s
          -- class scheduling and queue limit set for the aggregate hold for its members (Table 12-3, R458)
          let set := s.point (0x50 + a)
          let s := if set.strict.isEmpty && set.cweight.isEmpty && set.qlimit.isNone then s
            else forEach ms (fun q s => modPoint (0x48 + q) (fun x => { x with strict := set.strict, cweight := set.cweight, qlimit := set.qlimit }) s) s
          ok p (aggCheck a s)) s) s

end Sys2Proof.Machine
end

