-- ==== Sys2Proof/Machine/Roles.lean ====
section
/-!
DEFINITION. Sys2Proof/Machine/Roles.lean: the start, restart and moves of roles, and their exceptions (ch 18, ch 19).
-/
namespace Sys2Proof.Machine
open Sys2Proof

/-- A memory that holds a section from address 0 on (R726). -/
def section_ (l : List Nat) : List (Nat × Nat) := (List.range l.length).foldl (fun t i => tput 0 t i (l.getD i 0 % 65536)) []
/-- Every task of a role ends, with its pending bits, timers and watchdog (R715); its slots are EMPTY. -/
def clearRole (r : Nat) (s : State) : State :=
  let s := forEach (List.range 32) (fun t s =>
    let k := s.task r t
    let s := ifSome k.cancel (fun i s => tcDone i stOk s) s
    if k.live then endTask r t s else s) s
  let s := modRole r (fun x => { x with order := [], running := none, ran := 0, timers := [], wdDue := none }) s
  modRole r (fun x => { x with tasks := tmodAll {} x.tasks (x.tasks.map (·.1)) fun _ k => { epoch := k.epoch } }) s
/-- Commands that the role's interpreters had begun complete with ABORTED (R715). -/
def abortRoleCommands (r : Nat) (s : State) : State :=
  let mine (w : Waiting) : Bool := (s.wdn.areas.lookup (w.pkt.opcode / 256)).any fun a => a.1 == r
  let hit := s.cmd.waits.filter mine
  let s := { s with cmd := { s.cmd with waits := s.cmd.waits.filter fun w => !mine w } }
  forEach hit (fun w s => fail w.pkt stAborted 0xFFFF 0 s) s
/-- A role starts on its core: data memory from its section, task 0 from its descriptor (R715, R728). -/
def startRole (r : Nat) (s : State) : State :=
  match s.coreOf r, (s.role r).desc with
  | some c, some d =>
    let s := modCore c (fun x => { ({} : WdCore) with code := x.code, codeBad := x.codeBad, data := section_ d.data, cyc := x.cyc, cycleH := x.cycleH }) s
    kick r (startTask r 0 (freshTask d.entry d.initSp d.slim d.prio d.sm d.ovf (s.task r 0).epoch) s)
  | _, _ => s
/-- A role restart (R715): cause 0 watchdog, 1 exception of task 0. -/
def restartRole (r cause : Nat) (s : State) : State :=
  let s := clearRole r s
  let s := logEvent 18 0x8002 (detail [(16, 1, r), (17, 1, cause), (18, 1, s.wdn.map.getD r 7)]) s
  startRole r (abortRoleCommands r s)
/-- The image's code is in place and each role starts (R726, R728). -/
def bootRole (r : Nat) (d : RoleDesc) (s : State) : State :=
  match s.coreOf r with
  | none => modRole r (fun x => { x with desc := some d }) s
  | some c => startRole r (modCore c (fun x => { x with code := section_ d.code }) (modRole r (fun x => { x with desc := some d }) s))

/-- An exception of task t of role r on core c (R689, R690, R704). -/
def exception (c r t cause info : Nat) (s : State) : State :=
  let k := s.task r t
  let s := modCore c (fun x => { x with xcause := cause, xtask := t, xpc := k.pc, xinfo := info % 65536 }) s
  let s := modTask r t (fun k => { k with xcause := cause, xpc := k.pc, xinfo := info % 65536 }) s
  let s := if cause = 6 then s
    else logLimited 18 0x8001 (r * 32 + t) 1 1000 (detail [(16, 1, c), (17, 1, t), (18, 1, cause), (20, 2, k.pc), (22, 2, info)]) s
  if k.cancel.isSome then sched r (park r t stCancelled s)
  else if t = 0 then restartRole r 1 s
  else sched r (postBit r 0 15 (park r t stFault s))

end Sys2Proof.Machine
end

