-- ==== Sys2Proof/Machine/Settings.lean ====
section
/-!
DEFINITION. Sys2Proof/Machine/Settings.lean: the configuration blocks that commands and OTP share, and their load from OTP (ch 26, Table 26-4).
-/
namespace Sys2Proof.Machine
open Sys2Proof

/-- One threshold at an offset: RATE, WINDOW. -/
def rorOf (b : Bytes) (i : Nat) : Ror := ⟨u16 b i, u8 b (i + 2)⟩
/-- The thresholds of HKP_THRESHOLDS_SET (Table 05-5, 05). -/
def thresholdsOf (b : Bytes) : Thresholds := ⟨rorOf b 0, rorOf b 4, rorOf b 8, u8 b 12⟩
/-- Their fields: rates and windows, then the order of thresholds over one window (R195). -/
def thresholdFields (b : Bytes) : List (Nat × Bool) :=
  let okRate (i : Nat) := u16 b i == 0 || inR (u16 b i) 10 5000
  let okWin (i : Nat) := decide (u8 b (i + 2) ≤ 1)
  let ordered (x y : Nat) := (rorOf b x).rate == 0 || (rorOf b y).rate == 0 || (rorOf b x).win != (rorOf b y).win || decide ((rorOf b x).rate ≤ (rorOf b y).rate)
  [(0, okRate 0), (2, okWin 0), (4, okRate 4 && (!okWin 4 || ordered 0 4)), (6, okWin 4),
   (8, okRate 8 && (!okWin 8 || (ordered 0 8 && ordered 4 8))), (10, okWin 8), (12, inR (u8 b 12) 10 100)]
/-- The limits of CELL_OV_MV and CELL_UV_MV and the greatest N of a chemistry (Table 20-1). -/
def chemRange (chem : Nat) : Nat × (Nat × Nat) × (Nat × Nat) :=
  match chem with
  | 1 => (16, (3400, 3800), (2000, 3000))
  | 2 => (14, (4000, 4300), (2500, 3400))
  | _ => (16, (1000, 16000), (500, 15000))
/-- The configuration in 48 bytes of subject 0x01. -/
def batCfgOf (b : Bytes) : BatCfg :=
  { chem := u8 b 1, n := u8 b 2, ntc := ((u8 b 3).testBit 0, (u8 b 3).testBit 1), ov := u16 b 4, uv := u16 b 6, ovRel := u16 b 8, uvRel := u16 b 10,
    empty := u16 b 12, fallback := u16 b 14, balDelta := u16 b 16, balMin := u16 b 18, ocdMa := u32 b 20, ocdMs := u16 b 24, shunt := u16 b 26,
    rated := u32 b 28, dsgT := (signed 16 (u16 b 32), signed 16 (u16 b 34)), chgT := (signed 16 (u16 b 36), signed 16 (u16 b 38)), owPeriod := u16 b 40 }
/-- Its fields in order (Table 20-3, R765). -/
def batCfgFields (b : Bytes) : List (Nat × Bool) :=
  let c := batCfgOf b
  let r := chemRange c.chem
  let any := c.chem = 0
  let temp (o : Nat) : Bool := decide (-400 ≤ signed 16 (u16 b o)) && decide (signed 16 (u16 b o) ≤ 800)
  [(1, decide (c.chem ≤ 3)), (2, any || inR c.n 3 r.1), (4, any || inR c.ov r.2.1.1 r.2.1.2), (6, any || (inR c.uv r.2.2.1 r.2.2.2 && decide (c.uv < c.ov))),
   (8, any || decide (c.ovRel < c.ov)), (10, any || decide (c.uv < c.uvRel)), (12, any || decide (c.uv ≤ c.empty)), (14, inR c.fallback 20 500),
   (16, inR c.balDelta 5 200), (20, inR c.ocdMa 100 1000000), (24, inR c.ocdMs 1 1000), (26, inR c.shunt 50 10000), (28, inR c.rated 1000 1000000),
   (32, temp 32), (34, temp 34 && decide (c.dsgT.1 < c.dsgT.2)), (36, temp 36), (38, temp 38 && decide (c.chgT.1 < c.chgT.2)),
   (40, c.owPeriod = 0 || decide (60 ≤ c.owPeriod))]
/-- The OCV table at an offset. -/
def ocvOf (b : Bytes) (o : Nat) : List Nat := (List.range 21).map fun p => u16 b (o + 2 * p)
/-- The charger in 20 bytes of BAT_CHARGER_SET. -/
def chargerOf (b : Bytes) : ChargerCfg :=
  { auto := u8 b 0 == 1, addr := u8 b 1, ma := u32 b 4, cell := u16 b 8, termMa := u16 b 10, recharge := u8 b 12, termMin := u16 b 14 }
/-- CAN_CFG fields (Table 21-7, R784). -/
def canFields (b : Bytes) : List (Nat × Bool) :=
  let n := u16 b 4; let t1 := u16 b 6; let t2 := u8 b 8
  let d := u8 b 10; let e1 := u8 b 11; let e2 := u8 b 12
  let nom := n * (1 + t1 + t2); let dat := d * (1 + e1 + e2)
  [(0, decide (u8 b 0 ≤ 2)), (2, decide (u8 b 2 ≤ 127)), (4, inR n 1 512 && decide (50 ≤ nom)), (6, inR t1 2 256), (8, inR t2 1 128), (9, inR (u8 b 9) 1 t2),
   (10, inR d 1 32 && decide (10 ≤ dat) && decide (dat ≤ nom)), (11, inR e1 1 32), (12, inR e2 1 16), (13, inR (u8 b 13) 1 e2), (14, decide (u8 b 14 ≤ 127))]

/-! ### OTP settings groups (Table 26-4) -/

/-- The settable range of a rail in mV (Table 04-2), by index VIB, VIO18, VCORE, VSRAM, VSERDES, VDDQ0, VDDQ1. -/
def railRange (i : Nat) : Nat × Nat :=
  [(10800, 12600), (1710, 1890), (650, 850), (800, 900), (850, 950), (1067, 1133), (1067, 1133)].getD i (0, 0)
/-- The index of rail r in the order VSRAM, VSERDES, VDDQ0, VDDQ1, VIO18 (Table 04-14). -/
def railIndex (r : Nat) : Nat := [3, 4, 5, 6, 1].getD r 7
/-- The power settings of group 0x01. -/
def powerOf (b : Bytes) (x : Pmc) : Pmc :=
  let five := (List.range 5).foldl (fun l r => l.set (railIndex r) ⟨u8 b (16 + 4 * r), u16 b (18 + 4 * r), 0⟩) x.rails
  { x with bootState := u8 b 0, rails := (five.set 0 ⟨u8 b 4, u16 b 6, 0⟩).set 2 ⟨0, u16 b 10, 0⟩, phases := u8 b 8, ilim := u16 b 12,
           pfailMv := u16 b 36, autoResume := (u16 b 38).testBit 0, graceMs := u32 b 40, holdLimitS := u32 b 44 }
/-- Shift the offsets of a field list. -/
def atOffset (o : Nat) (l : List (Nat × Bool)) : List (Nat × Bool) := l.map fun f => (f.1 + o, f.2)
/-- The fields of a link configuration block that do not depend on the ports (Table 24-6). -/
def linkBlockFields (b : Bytes) : List (Nat × Bool) :=
  let tunnel := u8 b 1 == 2
  let ether := beAt b 12 2
  [(0, decide (u8 b 0 ≤ 3)), (1, decide (u8 b 1 ≤ 2)), (2, inR (u8 b 2) 1 250), (3, inR (u8 b 3) 3 16), (4, inR (u16 b 4) 2 10000), (6, inR (u16 b 6) 1 10000),
   (8, decide (u16 b 6 < u16 b 8) && decide (u16 b 8 ≤ 100000)), (10, !tunnel || inR (u8 b 10) 0x48 0x53), (11, inR (u8 b 11) 1 32),
   (12, decide (0x600 ≤ ether) && !([0x8100, 0x88A8, 0x8808, 0x88E5, 0x88CC].contains ether)), (14, !(beAt b 14 2).testBit 12), (16, !(u8 b 16).testBit 0),
   (22, inR (u16 b 22) 1 1000)]
/-- The fields of a group's payload with the ranges of the tables it holds (Table 26-4, R964). A lattice stack of all zeros is none, and so is a battery
of CHEM NONE or an OCV table of all zeros. -/
def groupFields (g : Nat) (b : Bytes) : List (Nat × Bool) :=
  match g with
  | 1 =>
    let rail (o i : Nat) : List (Nat × Bool) := [(o, inR (u8 b o) 8 0x77), (o + 2, inR (u16 b (o + 2)) (railRange i).1 (railRange i).2)]
    [(0, u8 b 0 == 1 || u8 b 0 == 3)] ++ rail 4 0 ++ [(8, inR (u8 b 8) 1 8), (10, inR (u16 b 10) 650 850), (12, inR (u16 b 12) 10 80)]
      ++ ((List.range 5).map fun r => rail (16 + 4 * r) (railIndex r)).flatten
      ++ [(36, inR (u16 b 36) 9000 58000), (40, decide (u32 b 40 ≤ 3600000)), (44, decide (u32 b 44 ≤ 86400))]
  | 2 => atOffset 42 (thresholdFields (b.drop 42))
  | 4 => atOffset 8 (portCfgFields (b.drop 8))
  | 5 => [(0, inR (u8 b 0) 1 9), (1, decide (u8 b 1 ≤ 2)), (2, decide (u8 b 2 ≤ 1))]
      ++ (List.range 16).map fun o => (4 + o / 4, bitsOf (u32 b 4) (2 * o + 1) (2 * o) != 3)
  | 6 => batCfgFields b ++ (if (slice b 52 42).all (· == 0) then [] else
        (List.range 21).map fun i => (52 + 2 * i, inR ((ocvOf b 52).getD i 0) 1000 5000 && (i = 0 || decide ((ocvOf b 52).getD (i - 1) 0 ≤ (ocvOf b 52).getD i 0))))
  | 7 => canFields b
  | 9 => ((List.range 4).map fun l => atOffset (24 * l) (linkBlockFields (b.drop (24 * l)))).flatten ++ [(96, decide (u8 b 97 ≤ 2))]
  | 11 => [(1, inR (u8 b 1) 1 15), (3, decide (u8 b 3 ≤ 31))]
  | _ => []

/-- Change the link l of the lattice by its OTP block (R882, R898). -/
def loadLink (b : Bytes) (l : Nat) (s : State) : State :=
  let block := slice b (24 * l) 24
  modLink l (fun x => { x with block := block, cost := if u8 block 1 == 2 then 40 else 10, st := if u8 block 1 == 0 then 0 else 1 }) s
/-- The lattice settings of group 0x09 (R882, R887, R906). -/
def loadLattice (b : Bytes) (s : State) : State :=
  let s := forEach (List.range 4) (loadLink b) s
  modLat (fun x => { x with mode := u8 b 97, fixed := u16 b 98, stack := if u8 b 100 == 1 then slice b 100 80 else [], role := if u8 b 100 == 1 then 1 else 0 }) s
/-- What group 0x06 gives the battery (Table 20-3, Table 26-4). An OCV table of all zeros is not loaded. -/
def batterySettings (b : Bytes) : BatCfg × ChargerCfg :=
  let ocv := if (slice b 52 42).all (· == 0) then none else some (ocvOf b 52)
  ({ batCfgOf b with ocv := ocv }, chargerOf (b.drop 96))
/-- Load the settings in force in OTP (Table 02-2, R939): a group without a valid slot leaves the BLANK values. The battery's are separate, as a W keeps
what they do not change. -/
def loadOtp (s : State) : State :=
  let s := ifSome (s.group 1) (fun b s => { s with pmc := powerOf b s.pmc }) s
  let s := ifSome (s.group 2) (fun b s =>
    { s with ckg := { s.ckg with trims := (List.range 5).map fun i => signed 16 (u16 b (2 * i)) }
             hkp := { s.hkp with k := (List.range 16).map fun i => u16 b (10 + 2 * i), thr := thresholdsOf (b.drop 42), thrRound := thresholdsOf (b.drop 42) } }) s
  let s := ifSome (s.group 3) (fun b s => { s with pce := { s.pce with ssvid := u16 b 0, ssid := u16 b 2 } }) s
  let s := ifSome (s.group 4) (fun b s =>
    let s := { s with net := { s.net with baseMac := beAt b 0 6, mode := u8 b 8 } }
    forEach (List.range (modePorts (u8 b 8))) (fun p s => modPort p (fun _ => portCfg (b.drop 8) p) s) s) s
  let s := ifSome (s.group 5) (fun b s =>
    let s := modSge (fun g => { g with rate := u8 b 0, source := u8 b 1, autoReturn := (u8 b 2).testBit 0, src := if u8 b 1 = 0 then .internal else .acquiring }) s
    modSio (fun x => { x with pwm := (List.range 16).foldl (fun t o => tmod {} t o fun q => { q with safe := bitsOf (u32 b 4) (2 * o + 1) (2 * o) }) x.pwm }) s) s
  let s := ifSome (s.group 7) (fun b s => { s with can := { s.can with cfg := b, st := if u8 b 0 = 0 then 0 else 5 } }) s
  ifSome (s.group 9) loadLattice s

end Sys2Proof.Machine
end

