-- ==== Sys2Proof/Machine/PowerHooks.lean ====
section
/-!
DEFINITION. Sys2Proof/Machine/PowerHooks.lean: what a change of power state or a reset does in the other blocks.
-/
namespace Sys2Proof.Machine
open Sys2Proof

/-- Raise the PF0 power-event interrupt for PFAIL (R137; MGT_EVENT.PWR, Table 06-5). -/
def powerEvent (s : State) : State := mgtEvent 0x01 s
/-- Raise the PF0 power-event interrupt for a rate of rise (R191; MGT_EVENT.THERMAL, Table 06-5). -/
def thermalEvent (s : State) : State := mgtEvent 0x02 s
/-- A domain marked use is in use (R152), and so is a lattice lane pair whose link runs in LANE mode (R845), and a lane
or MAC that the port mode needs (10). -/
def State.domInUse (s : State) (d : Nat) : Bool :=
  if d == 9 then s.cnt.session
  else if d == 20 then s.xsp.target || s.xsp.xfer.isSome
  else if d == 24 then u8 s.can.cfg 0 != 0
  else if d == 27 then s.sio.adcUsed
  else if d == 29 then s.sio.tdmUsed
  else if d == 98 then s.net.mirrors.any fun m => m.2.on
  else if inR d 90 97 then (tget {} s.cnt.banks (d - 90)).on
  else if inR d 59 62 then (s.link (d - 59)).mode == 1
  else if inR d 46 57 then s.laneNeeded d
  else true
/-- A domain holds work or an allocation (R150, R341, Table 04-13): an engine with items or connections, a lane or a MAC of a port that is not
parked, a bank with a use (log 81). -/
def State.domBusy (s : State) (d : Nat) : Bool :=
  if inR d 65 73 then (s.point 0x104).serving.any fun i => i.unit == d - 65
  else if inR d 74 80 then ((s.point 0x105).serving.any fun i => i.unit == d - 74) || s.sto.conns.any fun c => c.2.engine == d - 74
  else if inR d 81 85 then (s.point 0x106).serving.any fun i => i.unit == d - 81
  else if inR d 46 49 then s.laneBusy (2 * (d - 46)) || s.laneBusy (2 * (d - 46) + 1)
  else if inR d 50 57 then s.laneBusy (d - 50)
  else if inR d 100 147 then d == 100 || d == 101 || s.areaUsed 1 0 (d - 100)
  else false

/-! ### Drain and HOLD (R131, R384, R552) -/

/-- Start of a drain (R131): fetching stops, the MACs admit no frame and the Ethernet links go down, and with them tunnelled lattice links (R884). -/
def drainBegin (s : State) : State := latRefresh (portsDown 5 s)
/-- A posted receive buffer of an entry kind, which no work uses yet (R552; log 82). -/
def postedBuffer (w : RingWork) : Bool := (entKind w.entry == 4 || entKind w.entry == 0x13) && w.slots.all fun x => x == .waiting
/-- Frames selected are dropped inside the device and their buffers return. -/
def discardFrames (sel : Frame → Bool) (s : State) : State :=
  let hit := (s.frames.filter sel).map (·.bufs)
  cadRelease hit.flatten (purgeFrames sel s)
/-- The items of an entry leave the points. -/
def purgeEntry (g seq : Nat) (s : State) : State :=
  let keep (i : QItem) : Bool := i.job != .entry g seq
  { s with net := { s.net with points := tmodAll {} s.net.points (s.net.points.map (·.1)) fun _ x =>
      { x with queue := x.queue.filter keep, serving := x.serving.filter keep } } }
/-- Work still unfinished at a drain's end completes with ABORTED; the number of items: entries, image jobs by command, and frames still queued
(R131; log 82). A fetch still outstanding is late (R309). -/
def drainAbort (s : State) : Nat × State :=
  let work := (s.rings.map fun x => (x.2.work.filter fun w => !postedBuffer w).map fun w => (x.1, w.seq)).flatten
  let n := work.length + s.sto.jobs.length + s.frames.length
  let s := forEach work (fun e s => failEntry e.1 e.2 stAborted (purgeEntry e.1 e.2 s)) s
  let s := failWaits (fun k => match k with
    | .fixJob _ => true
    | _ => false) stAborted 0 (modSto (fun x => { x with jobs := [] }) s)
  let s := discardFrames (fun _ => true) s
  let s := modPoint 0x106 (fun x => { x with queue := [], serving := [] }) s
  let s := forEach (s.rings.map (·.1)) (fun g s => modRing g (fun r => { r with fetch := r.fetch.map fun f => { f with late := true } }) s) s
  (n, s)
/-- A debug session ends (R1004): D009 is gated. -/
def closeSession (cause : Nat) (s : State) : State :=
  if s.cnt.session then followUse 9 false (logEvent 30 0x8004 (detail [(16, 1, cause)]) { s with cnt := { s.cnt with session := false, dbg := ⟨0, 0⟩ } }) else s
/-- The PCIe link changes its width. -/
def linkWidth (w cause : Nat) (s : State) : State := linkChange s.pce.speed w cause s
/-- The other blocks at entry to HOLD: every connection closes with cause HOLD, and events without a buffer are lost (R552); every park ends (R384);
the PCIe link falls to four lanes (R236); a debug session ends (R1004). -/
def holdEntered (s : State) : State :=
  let s := forEach (s.sto.conns.map (·.1)) (fun h s => connClose h 0x0A s) s
  let s := modSto (fun x => { x with posts := [] }) s
  let s := forEach s.portList (fun p s => modPort p (fun x => { x with park := 0 }) s) s
  let s := { s with pce := { s.pce with preHold := s.pce.width } }
  closeSession 4 (linkWidth (min 4 s.pce.width) 1 s)
/-- The DRBG is instantiated (R501): at boot and on return from HOLD. -/
def drbgStart (s : State) : State :=
  modCry (fun c => { c with drbg := if c.drbg.st == 2 then c.drbg else { c.drbg with st := 1, requests := 0 } }) s
/-- The other blocks when HOLD is left for RUN or TRIM: every configured port is brought up unparked (R384), the PCIe width returns (R237), the DRBG is
instantiated (R501). -/
def holdLeft (s : State) : State :=
  let s := forEach s.portList bringUp (drbgStart s)
  let full := min s.pce.preHold s.quadWidth
  if s.pce.speed == 0 || decide (full ≤ s.pce.width) then s
  else if s.pce.upcfg then linkWidth full 2 s
  else { s with pce := { s.pce with reduced := true } }
/-- A domain that is ON only while it is in use. -/
def useDomain (d : Nat) : Bool := trimOf d == 3 || inR d 46 57 || inR d 59 62
/-- A domain has left ON: the service port's epoch advances with D020 (R724). -/
def leftOn (before : Bool) (s : State) : State := if before && !s.isOn 20 then advanceEpoch holderService s else s

/-- HKP's notice to the warden thermal task (R192, 05; route source 0x00, Table 19-3). -/
def thermalNotice (s : State) : State := routePost 0 s
/-- The links that depend on a reference clock go down (R172, R206, R886): 0 ETH_REFCLK, 1 PCIe reference. -/
def refclkLost (which : Nat) (s : State) : State :=
  if which == 0 then hoCheck (latRefresh (portsDown 3 s)) else convReset 3 s
/-- The links may restart (R172). -/
def refclkBack (which : Nat) (s : State) : State :=
  if which == 0 then latStart (forEach s.portList (fun p s => if (s.port p).st == 1 && s.dataOn && s.pmc.trans.isNone then bringUp p s else s) s) else s

/-- The state of the pools and of banks 0 and 1 at a C or a W with the domains of a list fenced (R154, R155, R969): the delivery spares are SPARE unless
they replace a fenced unit, roles n on WDn but on the spare for the first fenced core, and substitutes chosen again (log 80). -/
def repairAtReset (fence : List Nat) (s : State) : State :=
  let lost (d : Nat) : Bool := fence.contains d
  let rest (units : List Nat) (spare : Nat) (s : State) : State :=
    if lost spare || units.any lost then s else setDomain spare { st := .spare, cause := 5 } s
  let s := rest [15, 16, 17, 18] 19 <| rest ((List.range 8).map (65 + ·)) 73 <| rest ((List.range 6).map (74 + ·)) 80 <| rest ((List.range 4).map (81 + ·)) 85 s
  let first := ([0, 1, 2, 3] : List Nat).find? fun c => lost (15 + c)
  let core (r : Nat) : Nat := if !lost (15 + r) then r else if first == some r && !lost 19 then 4 else 7
  let s := modWdn (fun x => { x with map := [core 0, core 1, core 2, core 3], spare := if first.isNone && !lost 19 then 4 else 7 }) s
  let quad (d : Nat) : Bool := match meshOf d with
    | some q => q != 0 && lost (11 + q)
    | none => false
  let good := ((List.range 48).drop 2).filter fun b => !lost (100 + b) && !quad (100 + b)
  let banks := [0, 1].filter fun b => lost (100 + b)
  let moved := banks.zip good.reverse
  { s with cad := { s.cad with moved := moved } }
/-- A C or a W wipes what Table 02-2 names and keeps the rest (R24-R37). AON, OTP, the label memory and what stands outside
the die stay; the settings are loaded from OTP, and the repair records in force set their fence flags (R155, R966). -/
def wipeCW (kind : ResetKind) (s : State) : State :=
  let fence := (List.range 148).filter fun d => s.aon.fence.contains d || s.repairBits.testBit d
  repairAtReset fence <| loadOtp { State.reset with
    pending := s.pending, free := s.free, out := s.out, us := s.us
    aon := { s.aon with fence := fence }
    lbl := lblReset s
    xsp := { target := s.pmc.strapPin }
    otp := s.otp
    flash := s.flash
    lcy := if kind == .w then { ({} : Lcy) with halves := s.lcy.halves, slotSt := s.lcy.slotSt, pendSlot := s.lcy.pendSlot, pendRec := s.lcy.pendRec } else {}
    bat := if kind == .w then s.bat else {}
    rst := { s.rst with active := none, wPending := none }
    pmc := { ({} : Pmc) with ibEn := s.pmc.ibEn, pfail := s.pmc.pfail, vinOv := s.pmc.vinOv, vinLow := s.pmc.vinLow,
                             vin := s.pmc.vin, vbus := s.pmc.vbus, strapPin := s.pmc.strapPin, wakeNLow := s.pmc.wakeNLow }
    ckg := match kind with
      | .w => { s.ckg with relocking := [], unlocked := [] }
      | .c => { ({} : Ckg) with ethRef := s.ckg.ethRef, pcieRef := s.ckg.pcieRef }
    ddr0 := { gib := s.ddr0.gib, dirty := List.range s.ddr0.gib }
    ddr1 := { gib := s.ddr1.gib, dirty := List.range s.ddr1.gib } }

end Sys2Proof.Machine
end

