-- ==== Sys2Proof/Machine/PowerOps.lean ====
section
/-!
DEFINITION. Sys2Proof/Machine/PowerOps.lean: power-state transitions, resets and the initial band (ch 04, 02, 05).
-/
namespace Sys2Proof.Machine
open Sys2Proof

/-- PMC's STATE_CHANGE record (Table 04-16), which sets MGT_EVENT.STATE (Table 06-5, 06) and is route source 0x03. -/
def stateChange (from_ to_ cause : Nat) (s : State) : State :=
  routePost 3 <| mgtEvent 0x20 (logEvent 2 0x8004 (detail [(16, 1, from_), (17, 1, to_), (18, 1, cause)]) s)

/-- The state a domain takes in a power state (R127, Table 04-4, Table 04-12); repair comes first, then overrides and use. -/
def domainFor (s : State) (st : PowerState) (d : Nat) : Domain :=
  let x := s.domain d
  let off (c : Nat) : Domain := { x with st := .gated, cause := c, switchingOn := false, switchingOff := false }
  let on : Domain := { x with st := .on, cause := 0, switchingOn := false, switchingOff := false }
  if s.aon.fence.contains d then { x with st := .fenced, cause := 5, switchingOn := false, switchingOff := false }
  else if x.st == .spare then x
  else match st with
  | .off | .shelf => off 1
  | .boot => if [0, 1, 2, 3, 4, 5, 10, 11].contains d then on else off 1
  | .hold =>
    if s.quadFenced d then off 6
    else if useDomain d && (holdOf d != .gated || trimOf d == 3) && !s.domInUse d && x.forced != some true then off (if x.forced == some false then 4 else 7)
    else match holdOf d with
    | .on => if x.forced == some false then off 4 else on
    | .ret => if inR d 102 147 && !s.domBusy d then off 1 else { on with st := .ret, cause := 1 }
    | _ => off 1
  | .run | .trim =>
    if s.quadFenced d then off 6
    else if x.forced == some false then off 4
    else if useDomain d && !s.domInUse d && x.forced != some true then off 7
    else if st == .trim && inR d 46 57 && s.laneParks d && x.forced != some true then off 3
    else on
/-- A domain marked use follows its use, while the power state lets it (R152). -/
def syncUse (d : Nat) (s : State) : State := if s.live then leftOn (s.isOn 20) (setDomain d (domainFor s s.pmc.st d) s) else s
/-- Switch every domain as a power state asks. -/
def applyDomains (st : PowerState) (s : State) : State :=
  leftOn (s.isOn 20) (forEach (List.range 148) (fun d s => setDomain d (domainFor s st d) s) s)

/-- Milliseconds to microseconds. -/
def usOfMs (ms : Nat) : Nat := ms * 1000
/-- Start the hold limit, where HOLD_LIMIT_S sets one (R135). -/
def startLimit (s : State) : State :=
  { s with pmc := { s.pmc with limitEnd := if s.pmc.holdLimitS == 0 then none else some (s.us + s.pmc.holdLimitS * 1000000) } }
/-- Start the grace timer (R134). -/
def startGrace (s : State) : State := { s with pmc := { s.pmc with graceEnd := some (s.us + usOfMs s.pmc.graceMs) } }

/-- Reach RUN or TRIM (R128): domains switch, PCIe, rings and links return, and under PFAIL the grace timer starts (R134). No cause of
Table 04-16 fits the end of power-up, so that it writes no STATE_CHANGE (log 14). -/
def enterRunTrim (target : PowerState) (cause : Nat) (s : State) : State :=
  let old := s.pmc.st
  let s := { s with pmc := { s.pmc with st := target, trans := none, holdBy := none, holdupDrain := false, limitEnd := none } }
  let s := applyDomains target s
  let s := whenS (old == .hold || old == .boot) holdLeft s
  let s := whenS (old == .trim && target == .run) wakeAll s
  let s := whenS (s.pmc.pfail && s.pmc.graceEnd.isNone) startGrace s
  if old == .boot then s else stateChange old.code target.code cause s

/-- Reach HOLD: a SHELF entry goes on once its reply is delivered, or at once when no command waits for it (R139, R160). -/
def reachHold (s : State) : State :=
  let old := s.pmc.st
  let t := s.pmc.trans.getD { phase := .drain, toShelf := false, cause := 0, from_ := old.code }
  let s := { s with pmc := { s.pmc with st := .hold, graceEnd := none, holdupDrain := false } }
  let s := applyDomains .hold s
  let s := holdEntered s
  let s := stateChange t.from_ 3 t.cause s
  let byHoldup := t.cause == 1
  let s := { s with pmc := { s.pmc with holdBy := if byHoldup then some t.from_ else none } }
  let s := whenS s.pmc.pfail startLimit s
  let served := s.cmd.waits.any fun w => w.kind == .power 0x10
  let s := { s with pmc := { s.pmc with trans := if t.toShelf then some { t with phase := if served then .held else .entry } else none } }
  finishWaits (fun k => k == .power 3 || k == .power 0x10) stOk (fun _ => []) s

/-- Start a drain toward HOLD or SHELF (R131). -/
def startDrain (toShelf : Bool) (cause mask alarm drainMs : Nat) (s : State) : State :=
  let t : Transition := { phase := .drain, toShelf := toShelf, cause := cause, shelfCause := cause, mask := mask, alarm := alarm, drainMs := drainMs,
                          from_ := s.pmc.st.code }
  drainBegin { s with pmc := { s.pmc with trans := some t, graceEnd := none } }

/-- A call for HOLD or SHELF that is never refused (R1043). The drain is at most limit ms long. A call for SHELF that finds a SHELF entry past its drain
waits; a call for HOLD then has no effect. -/
def callDown (toShelf : Bool) (cause mask alarm limit : Nat) (s : State) : State :=
  match s.pmc.trans with
  | none =>
    if s.dataOn then startDrain toShelf cause mask alarm limit s
    else if s.pmc.st == .hold && toShelf then
      let served := s.cmd.waits.any fun w => w.kind == .power 0x10
      let t : Transition := { phase := if served then .held else .entry, toShelf := true, cause := cause, shelfCause := cause, mask := mask, alarm := alarm, from_ := 3 }
      { s with pmc := { s.pmc with trans := some t } }
    else s
  | some t =>
    if t.phase == .drain then
      let joined := { t with drainMs := min t.drainMs limit
                             toShelf := t.toShelf || toShelf
                             shelfCause := if toShelf then cause else t.shelfCause
                             mask := if toShelf then (if t.toShelf then t.mask ||| mask else mask) else t.mask
                             alarm := if toShelf then alarm else t.alarm }
      { s with pmc := { s.pmc with trans := some joined } }
    else if toShelf && t.phase != .falling then
      { s with pmc := { s.pmc with calls := s.pmc.calls ++ [{ target := 0x10, cause := cause, mask := mask, alarm := alarm, drainMs := limit }] } }
    else s

/-- Change the battery's record. -/
def modBat (f : Battery → Battery) (s : State) : State := { s with bat := f s.bat }
/-- Change what AON keeps of the battery. -/
def modKeep (f : BatKeep → BatKeep) (s : State) : State := { s with aon := { s.aon with bat := f s.aon.bat } }
/-- DSG_BLOCK. -/
def Aon.dsgBlock (a : Aon) : Bool := a.dsgVolt || a.dsgTemp
/-- Steps 2 and 4 of SHELF entry (R737, R741): Q_REM goes to AON, and a blocked discharge switch opens. -/
def batShelf (s : State) : State :=
  let s := modKeep (fun k => { k with saved := if s.bat.known then some s.bat.q else none }) s
  { s with aon := { s.aon with dsgEn := s.aon.dsgEn && !s.aon.dsgBlock } }
/-- SHELF entry without HOLD, by rail fault, clock loss or thermal shutdown (R124, R169, R188): the commit mark is written at
once, waiting calls are dropped, every domain is gated and IB_EN goes low. -/
def shelfNow (cause : Nat) (mirror : Bool) (s : State) : State :=
  let old := s.pmc.st.code
  let s := batShelf (stateChange old 0x10 cause (linksDown (fun _ => true) 8 s))
  let s := whenS mirror labelMirror s
  let mask := s.aon.wakeMask ||| 2
  let t : Transition := { phase := .falling, toShelf := true, cause := cause, mask := mask, alarm := s.aon.rtcAlarm, from_ := old }
  let s := { s with aon := { s.aon with commitMark := true, wakeMask := mask }
                    pmc := { s.pmc with st := .shelf, trans := some t, calls := [], ibEn := false, graceEnd := none, limitEnd := none,
                                        holdBy := none, holdupDrain := false, upStep := 0 }
                    cmd := { s.cmd with waits := [], queue := [] } }
  applyDomains .shelf (latRefresh s)

/-- A wake source acts (R140, R141): before the commit mark it ends SHELF entry, later it is latched. The VIN-recovery wake needs no mask. -/
def wakeEvent (cause maskBit : Nat) (s : State) : State :=
  let allowed := match s.pmc.trans with
    | some t => t.toShelf && t.mask.testBit maskBit
    | none => s.pmc.st == .shelf && s.aon.wakeMask.testBit maskBit
  if !allowed then s
  else match s.pmc.trans with
  | some t =>
    match t.phase with
    | .falling => { s with aon := { s.aon with wakePending := some (s.aon.wakePending.getD cause) } }
    | .drain => { s with pmc := { s.pmc with trans := some { t with toShelf := false } } }
    | _ => whenS (s.pmc.limitEnd.isSome || (t.fromLimit && s.pmc.pfail)) startLimit { s with pmc := { s.pmc with trans := none } }
  | none => { s with aon := { s.aon with wakePending := some (s.aon.wakePending.getD cause) } }

/-- Latch and take a C or a W (R37): everything in its scope is wiped. -/
def takeReset (kind : ResetKind) (cause : Nat) (s : State) : State :=
  let s := { s with rst := { s.rst with latch := some ⟨kind, cause, s.aon.rtcSec⟩ } }
  wipeCW kind (endScrubs (fun _ => true) 4 (closeSession 2 s))

/-- Band of a temperature by Table 05-2, with exactly a boundary in the lower band (R177). -/
def bandOf (t : Int) : Nat := if t < 0 then 0 else if t ≤ 4500 then 1 else if t ≤ 8500 then 2 else if t ≤ 10000 then 3 else 4
/-- The initial band from the diode alone, or B3 in sensor fault (R177, R181). -/
def initialBand (diode : Int) (s : State) : State :=
  let fault := if (s.domain 3).st == .fenced then some 3 else if diode < -5500 ∨ diode > 15000 then some 0 else none
  let band := if fault.isSome then 3 else bandOf diode
  let s := { s with hkp := { s.hkp with band := band, fault := fault, okRounds := 0, started := 0, conv := 32 } }
  ifSome fault (fun c s => logEvent 4 0x8006 (detail [(16, 1, 1), (17, 1, c)]) s) s

/-- What a C or a W leaves done before LCY starts secure boot: the reset record first (R38), CLOCK_FAULT (R171), CONVERTER_FAULT of a
latched IBC_FAIL (R123), the wake record, the initial band (R177) and, at a C, the trim in one step (R167). -/
def endReset (diode : Int) (s : State) : State :=
  let s := { s with rst := { s.rst with active := none }
                    pmc := { s.pmc with st := .boot, upStep := 7 } }
  let s := applyDomains .boot s
  let l := s.rst.latch.getD ⟨.c, 1, 0⟩
  let cold := l.kind == .c
  let s := logEvent 2 0x8001 (detail [(16, 1, if cold then 1 else 2), (17, 1, l.cause), (20, 4, l.rtc.toNat)]) s
  let s := ifSome s.aon.clkFail (fun c s => logEvent 3 0x8001 (detail [(16, 1, c)]) { s with aon := { s.aon with clkFail := none } }) s
  let s := whenS s.aon.ibcFail (fun s => logEvent 2 0x8006 (detail [(17, 1, 8)]) { s with aon := { s.aon with ibcFail := false } }) s
  let s := whenS cold (logEvent 2 0x800A (detail [(16, 1, s.aon.wakeCause)])) s
  let s := ifSome s.lbl.wokeAt (fun rtc s => logEvent 24 0x8001 (detail [(20, 4, rtc)]) (modLbl (fun x => { x with wokeAt := none }) s)) s
  let s := initialBand diode s
  let s := { s with ckg := { s.ckg with trimBand := s.hkp.band, trim := if cold then s.ckg.trims.getD s.hkp.band 0 else s.ckg.trim } }
  { s with aon := { s.aon with brownOut := false } }

/-- Go to SHELF from power-up after a failed start (R123, R170). -/
def abandonPowerUp (s : State) : State :=
  applyDomains .shelf { s with pmc := { s.pmc with st := .shelf, upStep := 0, ibEn := false, trans := none }
                               ckg := { s.ckg with xtal := false, pll := false } }

/-- SCH notes that an ACT condition, and with it the thermal cap of R452 (12), has begun or has ended (Table 12-6). -/
def capRecord (was : Bool) (s : State) : State :=
  if s.actSet == was then s else logEvent 11 0x8002 (detail [(16, 1, b2n s.actSet), (17, 1, s.hkp.thrRound.cap)]) s
/-- The diode is in sensor fault (R181, 05): SENSOR_FAULT when it begins, the rate-of-rise flags and counts fall, and the history restarts. -/
def sensorFault (c : Nat) (s : State) : State :=
  let s := whenS s.hkp.fault.isNone (logEvent 4 0x8006 (detail [(16, 1, 1), (17, 1, c)])) s
  capRecord s.actSet { s with hkp := { s.hkp with fault := some c, okRounds := 0, warn := false, act := false, trip := false, history := [], r1 := none, r10 := none, rise := [0, 0, 0, 0], fall := [0, 0, 0, 0], shut := 0 } }

/-- Start switching a domain on; its completion is DOMAIN_SWITCH_DONE (R149). -/
def switchOn (d : Nat) (s : State) : State :=
  if s.isOn d || s.domLost d then s else modDomain d (fun x => { x with switchingOn := true, switchingOff := false }) s

end Sys2Proof.Machine
end

