-- ==== Sys2Proof/Machine/BatOps.lean ====
section
/-!
DEFINITION. Sys2Proof/Machine/BatOps.lean: measurement, protection, state of charge and charging of the battery string (ch 20).
-/
namespace Sys2Proof.Machine
open Sys2Proof

/-- A BAT record (Table 20-7) with route source 0x04 (R767). -/
def batEvent (code : Nat) (fields : List (Nat × Nat × Nat)) (s : State) : State := routePost 4 (logEvent 21 code (detail fields) s)
/-- The scan logic runs (R730, R734, R764). -/
def State.batRuns (s : State) : Bool := s.live && s.bat.cfg.chem != 0 && s.isOn 22
/-! ### Readings -/

/-- Cells 1 to N. -/
def Battery.all (b : Battery) : List Nat := (List.range b.cfg.n).map (· + 1)
/-- Cell i in 0.1 mV. -/
def Battery.cell (b : Battery) (i : Nat) : Nat := b.cells.getD (i - 1) 0 * (if b.cfg.chem = 3 then 5 else 1)
/-- Tap n borders cell i (R748). -/
def borders (n i : Nat) : Bool := n == i || n + 1 == i
/-- An OPEN tap makes the cell UNKNOWN (R748). -/
def Battery.unknown (b : Battery) (i : Nat) : Bool := b.open_.any fun n => borders n i
/-- The cell is held by the test in progress (R747). -/
def Battery.held (b : Battery) (i : Nat) : Bool := b.tests.head?.any fun n => borders n i
/-- Cells that the cell limits cover. -/
def Battery.knowns (b : Battery) : List Nat := b.all.filter fun i => !b.unknown i && !b.held i
/-- Lowest and highest known cell in 0.1 mV. -/
def Battery.lowest (b : Battery) : Option Nat := ((b.all.filter fun i => !b.unknown i).map b.cell).min?
/-- Highest known cell. -/
def Battery.highest (b : Battery) : Option Nat := ((b.all.filter fun i => !b.unknown i).map b.cell).max?
/-- Sum of cells in 0.1 mV. -/
def Battery.sum (b : Battery) (l : List Nat) : Nat := (l.map b.cell).foldl (· + ·) 0
/-- I in mA, toward zero (R735, log 66). -/
def Battery.amps (b : Battery) : Int := (b.sample * 100000000).tdiv (8388608 * (b.cfg.shunt : Int))
/-- Units of Q_REM in mAh. -/
def Battery.mah (b : Battery) (q : Nat) : Nat := q / (b.cfg.shunt * 301989888)
/-! ### Outputs and the charger (R744, R759-R763) -/

/-- A PMBus write to the charger. -/
def toCharger (cmd data : Nat) (s : State) : State := emit (.pmbus s.bat.chg.addr cmd data) s
/-- Charging ends: OPERATION off and BAT_CHG_EN low. -/
def stopCharge (s : State) : State :=
  if s.bat.charging then toCharger 0x01 0 (modBat (fun b => { b with charging := false, term := 0 }) { s with aon := { s.aon with chgEn := false } })
  else { s with aon := { s.aon with chgEn := false } }
/-- The conditions of R760 other than the state of charge. -/
def State.chargeAllowed (s : State) : Bool :=
  s.batRuns && s.bat.chg.auto && !s.pmc.pfail && !s.bat.ovBlock && s.bat.open_.isEmpty && !s.bat.chgTBlock && !s.bat.fault
/-- The current limit of R760. -/
def State.chargeMa (s : State) : Nat := if s.aon.dsgBlock then s.bat.chg.ma / 10 else s.bat.chg.ma
/-- Start or stop charging (R760, R763). -/
def chargeEval (s : State) : State :=
  if !s.chargeAllowed then stopCharge s
  else if s.bat.charging then s
  else if decide (1 ≤ s.bat.scans) && (s.soc.all fun x => decide (x < 10 * s.bat.chg.recharge)) then
    let s := toCharger 0x21 (s.bat.cfg.n * s.bat.chg.cell) s
    let s := toCharger 0x01 0x80 (toCharger 0x47 0 (toCharger 0x46 s.chargeMa s))
    modBat (fun b => { b with charging := true, term := 0 }) { s with aon := { s.aon with chgEn := true } }
  else s
/-- BAT_DSG_EN (R744): a protection cut-off keeps it until step 4 of SHELF entry (R741). -/
def dsgEval (s : State) : State :=
  if !s.isOn 22 then s
  else
    let may := s.bat.cfg.chem != 0 && !s.aon.ocdLatch && decide (3 ≤ s.bat.scans)
    let cutoff := s.aon.dsgEn && (s.pmc.trans.any fun t => t.toShelf)
    { s with aon := { s.aon with dsgEn := may && (!s.aon.dsgBlock || cutoff) } }
/-- DSG_BLOCK is set by a crossing (R741, R742): the record, then SHELF entry under PFAIL or the output low. -/
def blockDischarge (cell temp mv : Nat) (s : State) : State :=
  let s := { s with aon := if temp = 1 then { s.aon with dsgTemp := true } else { s.aon with dsgVolt := true } }
  let s := batEvent 0x8002 [(16, 1, cell), (17, 1, temp), (18, 1, b2n s.pmc.pfail), (20, 2, mv)] s
  if s.pmc.pfail then callDown true 3 6 0 50 s else dsgEval s

/-! ### State of charge (R735, R751-R755) -/

/-- The state of charge is lost (R732, R737). -/
def loseCharge (s : State) : State := modBat (fun b => { b with known := false, stale := false, pass := none, drifting := false }) s
/-- Q_REM is set by a mark. -/
def setCharge (q : Nat) (s : State) : State := modBat (fun b => { b with q := q, known := true, stale := false }) s
/-- The full mark (R753, R755). -/
def fullMark (s : State) : State :=
  modBat (fun b => { b with pass := some (0, 0) }) (modKeep (fun k => { k with drift := 0, counterDrift := false }) (setCharge (s.bat.charge s.aon.bat.cap) s))
/-- The empty mark, and the end of a pass (R753, R755). -/
def emptyMark (s : State) : State :=
  let p := s.bat.pass
  let s := modBat (fun b => { b with pass := none }) (setCharge 0 s)
  match p with
  | none => s
  | some (dis, _) =>
    let m := s.bat.mah dis
    if decide (s.bat.cfg.rated * 50 ≤ m * 100) && decide (m * 100 ≤ s.bat.cfg.rated * 110) then
      batEvent 0x8009 [(20, 4, m)] (modKeep (fun k => { k with cap := m, relearn := false }) s)
    else batEvent 0x800A [(20, 4, m)] s
/-- One ΣΔ sample of 1 ms (R735, R752, R754, R755). -/
def coulomb (v : Int) (s : State) : State :=
  let b := s.bat
  let full := b.charge s.aon.bat.cap
  let amount := 1000 * v.natAbs
  let drifting := decide (b.q = 0) && decide (v < 0)
  let fresh := drifting && !b.drifting && b.cfg.chem != 3
  let q := if v < 0 then b.q - amount else min full (b.q + amount)
  let pass := b.pass.bind fun p =>
    let p := if v < 0 then (p.1 + amount, p.2) else (p.1, p.2 + amount)
    if full < 100 * p.2 then none else some p
  let busy := decide (s.aon.bat.cap * 8388608 * b.cfg.shunt ≤ v.natAbs * 5000000000)
  let s := modBat (fun b => { b with sample := v, q := q, drifting := drifting, pass := pass, rested := b.rested && !busy }) s
  let s := whenS drifting (modKeep fun k => { k with drift := k.drift + amount, counterDrift := true }) s
  whenS fresh (batEvent 0x8007 [(20, 4, s.aon.rtcSec.toNat)]) s
/-- SOC_LO in 0.1 % (Table 20-6); t in 0.1 mV, table in mV (log 66). -/
def socLo (table : List Nat) (t : Nat) : Nat :=
  match table.findIdx? fun x => decide (t ≤ 10 * x) with
  | none => 1000
  | some 0 => 0
  | some (p + 1) =>
    let a := 10 * table.getD p 0; let b := 10 * table.getD (p + 1) 0
    50 * p + 50 * (t - a) / (b - a)
/-- SOC_HI in 0.1 %. -/
def socHi (table : List Nat) (t : Nat) : Nat :=
  let n := (table.takeWhile fun x => decide (10 * x ≤ t)).length
  if n = 0 then 0
  else if table.length ≤ n then 1000
  else
    let a := 10 * table.getD (n - 1) 0; let b := 10 * table.getD n 0
    50 * (n - 1) + 50 * (t - a) / (b - a)
/-- A rebase evaluation (R754). -/
def rebase (s : State) : State :=
  let b := s.bat
  match b.cfg.ocv, b.lowest with
  | some table, some v =>
    if !b.rested || !b.open_.isEmpty || !inR b.cfg.chem 1 2 then s
    else
      let lo := socLo table (v - 100); let hi := socHi table (v + 100)
      let now := s.soc
      let target : Option Nat := match now with
        | none => some lo
        | some x => if x < lo then some lo else if hi < x then some hi else none
      match target with
      | none => s
      | some x =>
        let s' := modKeep (fun k => { k with relearn := true }) (setCharge (b.charge s.aon.bat.cap * x / 1000) s)
        batEvent 0x8008 [(16, 2, now.getD 0xFFFF), (18, 2, x)] s'
  | _, _ => s

/-! ### A scan (R734, R736, R740-R748, R757, R758) -/

/-- Put taps at the end of the tests, each once. -/
def queueTests (taps : List Nat) (s : State) : State := modBat (fun b => { b with tests := b.tests ++ taps.filter fun n => !b.tests.contains n }) s
/-- Every tap of the string. -/
def Battery.taps (b : Battery) : List Nat := List.range (b.cfg.n + 1)
/-- Tap n fits the signature against the scan 100 scans earlier (R746). -/
def Battery.fitsSign (b : Battery) (old : List Nat × Nat) (n : Nat) : Bool :=
  let unit : Nat := if b.cfg.chem = 3 then 5 else 1
  let d (i : Nat) : Int := (b.cell i : Int) - (old.1.getD (i - 1) 0 * unit : Nat)
  let ds : Int := ((b.stack : Int) - old.2) * 100
  let x := d n; let y := d (n + 1)
  decide (x ≤ -1000) && decide (1000 ≤ y) && decide (((x + y) * b.cfg.n - 2 * ds).natAbs ≤ 200 * b.cfg.n)
/-- The readings of a scan; cells under test keep theirs (R747). -/
def takeScan (cells : List Nat) (stack : Nat) (temps : Int × Int) (s : State) : State :=
  modBat (fun b =>
    let now := b.all.map fun i => if b.held i then b.cells.getD (i - 1) 0 else cells.getD (i - 1) 0 % 65536
    { b with history := (b.cells, b.stack) :: b.history.take 99, cells := now, stack := stack, temps := temps, scans := min 3 (b.scans + 1) }) s
/-- Open-tap signatures of a scan (R745, R746). -/
def scanTaps (s : State) : State :=
  let b := s.bat
  match b.history[99]? with
  | none => s
  | some old =>
    if old.1.isEmpty then s
    else
      let fit := (b.taps.filter fun n => n != 0 && n != b.cfg.n && !b.open_.contains n).filter (b.fitsSign old)
      let fresh := fit.filter fun n => !b.fits.contains n
      queueTests fresh (modBat (fun b => { b with fits := fit, suspects := b.suspects ++ fresh.filter fun n => !b.suspects.contains n }) s)
/-- The sum against the stack (R736). -/
def scanSum (s : State) : State :=
  let b := s.bat
  let d : Int := (b.sum b.all : Int) - (b.stack * 100 : Nat)
  let bad := decide (b.stack * 100 + 100000 < 200 * d.natAbs)
  let b' := { b with sumBad := if bad then min 10 (b.sumBad + 1) else 0, sumGood := if bad then 0 else min 10 (b.sumGood + 1) }
  let s := modBat (fun _ => b') s
  if b'.sumBad = 10 && !b.sumFlag then
    queueTests [0, b.cfg.n] (batEvent 0x8006 [(20, 4, unsigned 32 (d.tdiv 10))] (modBat (fun b => { b with sumFlag := true }) s))
  else if b'.sumGood = 10 then modBat (fun b => { b with sumFlag := false }) s
  else s
/-- The readings that cell limits apply to: known cells, and S_U as cell 0 with its limits (R748), each with voltage, upper and lower limit in 0.1 mV. -/
def Battery.limits (b : Battery) : List (Nat × Nat × Nat × Nat) :=
  let ks := b.knowns
  let k := b.cfg.n - ks.length
  let su := b.stack * 100 - b.sum ks
  (ks.map fun i => (i, b.cell i, 10 * b.cfg.ov, 10 * b.cfg.uv))
    ++ (if k = 0 then [] else [(0, su, 10 * k * (b.cfg.ov - b.cfg.fallback), 10 * k * (b.cfg.uv + b.cfg.fallback))])
/-- Cell over- and under-voltage (R740, R741, R745, R748, R750). -/
def scanLimits (s : State) : State :=
  let b := s.bat
  let lim := b.limits
  let overs := (lim.filter fun l => decide (l.2.2.1 < l.2.1)).map fun l => (l.1, min 3 (tget 0 b.overs l.1 + 1))
  let under := (lim.filter fun l => decide (l.2.1 < l.2.2.2)).map fun l => (l.1, min 3 (tget 0 b.under l.1 + 1))
  let waits (i : Nat) : Bool := i != 0 && b.suspects.any fun n => borders n i
  let due (l : List (Nat × Nat)) (done : List Nat) : List Nat := (l.filter fun x => x.2 == 3 && !waits x.1 && !done.contains x.1).map (·.1)
  let ovs := due overs b.overDone; let uvs := due under b.underDone
  let mv (i : Nat) : Nat := ((lim.find? fun l => l.1 == i).map fun l => l.2.1 / 10).getD 0
  let keep (l : List (Nat × Nat)) (done : List Nat) : List Nat := done.filter fun i => l.any fun x => x.1 == i
  let s := modBat (fun b => { b with overs := overs, under := under, overDone := keep overs b.overDone ++ ovs, underDone := keep under b.underDone ++ uvs }) s
  let s := forEach ovs (fun i s => batEvent 0x8001 [(16, 1, i), (20, 2, mv i)] (stopCharge (modBat (fun b => { b with ovBlock := true }) s))) s
  let s := forEach uvs (fun i s => blockDischarge i 0 (mv i) s) s
  -- releases
  let ks := s.bat.knowns
  let s := whenS (s.bat.ovBlock && s.bat.overDone.isEmpty && ks.all fun i => decide (b.cell i ≤ 10 * b.cfg.ovRel)) (modBat fun b => { b with ovBlock := false }) s
  whenS (s.aon.dsgVolt && s.bat.underDone.isEmpty && ks.all fun i => decide (10 * b.cfg.uvRel ≤ b.cell i)) (fun s => { s with aon := { s.aon with dsgVolt := false } }) s
/-- Thermistors that are fitted. -/
def Battery.fitted (b : Battery) : List Int := (if b.cfg.ntc.1 then [b.temps.1] else []) ++ (if b.cfg.ntc.2 then [b.temps.2] else [])
/-- Temperatures (R742). -/
def scanTemps (s : State) : State :=
  let b := s.bat
  let out := b.fitted.any fun t => decide (t < 10 * b.cfg.dsgT.1) || decide (10 * b.cfg.dsgT.2 < t)
  let hot := if out then min 3 (b.hot + 1) else 0
  let inside := b.fitted.all fun t => decide (10 * b.cfg.dsgT.1 + 200 ≤ t) && decide (t ≤ 10 * b.cfg.dsgT.2 - 200)
  let blocked := b.fitted.any fun t => decide (t < 10 * b.cfg.chgT.1) || decide (10 * b.cfg.chgT.2 < t)
  let s := modBat (fun b => { b with hot := hot, chgTBlock := blocked }) s
  let s := whenS (hot == 3 && !s.aon.dsgTemp) (blockDischarge 0 1 0) s
  whenS (s.aon.dsgTemp && inside) (fun s => { s with aon := { s.aon with dsgTemp := false } }) s
/-- The empty mark (R753). -/
def scanEmpty (s : State) : State :=
  let b := s.bat
  let at_ := decide (b.sample < 0) && b.lowest.any fun v => decide (v ≤ 10 * b.cfg.empty)
  let low := if at_ then min 3 (b.low + 1) else 0
  let s := modBat (fun b => { b with low := low }) s
  whenS (low == 3 && b.low != 3) emptyMark s
/-- Cells chosen to bleed (R758). -/
def scanBleed (s : State) : State :=
  let b := s.bat
  let may := inR b.cfg.chem 1 2 && (b.charging || b.rested)
  let base := b.lowest.getD 0
  let pick (i : Nat) : Bool :=
    !b.unknown i && decide (10 * b.cfg.balMin ≤ b.cell i) && (if b.bleed.contains i then decide (base + 5 * b.cfg.balDelta < b.cell i) else decide (base + 10 * b.cfg.balDelta < b.cell i))
  modBat (fun b => { b with bleed := if may then b.all.filter pick else [] }) s
/-- A whole scan. -/
def scan (cells : List Nat) (stack : Nat) (temps : Int × Int) (s : State) : State :=
  scanBleed (chargeEval (dsgEval (scanEmpty (scanTemps (scanLimits (scanSum (scanTaps (takeScan cells stack temps s))))))))
/-- A cell bleeds now (R747, R757). -/
def State.bleeds (s : State) (i : Nat) : Bool := s.bat.bleed.contains i && !s.bat.held i && i % 2 != s.aon.rtcSec.toNat % 2

/-! ### Power (R737, R749, R764) -/

/-- Power-up (R737, R749): Q_REM returns with SOC_STALE, and every tap is tested. -/
def batPowerUp (s : State) : State :=
  let s := match s.aon.bat.saved with
    | some q => modBat (fun b => { b with q := q, known := true, stale := true }) s
    | none => s
  let s := modKeep (fun k => { k with saved := none, cap := if k.cap = 0 then s.bat.cfg.rated else k.cap }) s
  whenS (s.bat.cfg.chem != 0) (fun s => queueTests s.bat.taps s) s
/-- A configuration is set (R730, R732). -/
def setBatCfg (c : BatCfg) (s : State) : State :=
  let o := s.bat.cfg
  let lost := c.chem != o.chem || c.n != o.n || c.shunt != o.shunt || c.rated != o.rated
  let s := modBat (fun b => { b with cfg := { c with ocv := if c.chem = o.chem then o.ocv else none } }) s
  let s := if lost then modKeep (fun k => { k with cap := c.rated, relearn := false, drift := 0, counterDrift := false }) (loseCharge s) else s
  let s := if c.chem != o.chem || c.n != o.n then
      modBat (fun b => { b with cells := [], history := [], overs := [], under := [], overDone := [], underDone := [], open_ := [], suspects := [], fits := [], tests := [], bleed := [], sumBad := 0, sumGood := 0 }) s
    else s
  let s := if c.chem = 0 then stopCharge { s with aon := { s.aon with dsgEn := false } } else s
  chargeEval s
/-- At a C or a W the battery's settings load from BAT_CFG (R733); a W keeps what they do not change. -/
def batLoad (cold : Bool) (s : State) : State :=
  let c : BatCfg × ChargerCfg := ((s.group 6).map batterySettings).getD ({}, {})
  if cold then
    let s := modBat (fun b => { b with cfg := c.1, chg := c.2 }) s
    batPowerUp (whenS (c.1.chem == 0) (fun s => stopCharge { s with aon := { s.aon with dsgEn := false } }) s)
  else chargeEval (modBat (fun b => { b with cfg := { b.cfg with ocv := c.1.ocv }, chg := c.2 }) (setBatCfg c.1 s))
/-- A C or a W ends: endReset, and the battery's settings. -/
def resetDone (diode : Int) (s : State) : State := batLoad ((s.rst.latch.map (·.kind)) == some .c) (endReset diode s)

end Sys2Proof.Machine
end

