-- ==== Sys2Proof/Machine/Battery.lean ====
section
/-!
DEFINITION. Sys2Proof/Machine/Battery.lean: the rows of the battery string (ch 20).
-/
namespace Sys2Proof.Machine
open Sys2Proof

/-- BAT_SCAN (R734): readings of cells, stack in 10 mV and thermistors in 0.01 °C. -/
def execBatScan (cells : List Nat) (stack : Nat) (t0 t1 : Int) (s : State) : Out := .next (if s.batRuns then scan cells stack (t0, t1) s else s)
/-- COULOMB_SAMPLE (R735): a 24-bit sample of the shunt voltage. -/
def execCoulombSample (sample : Int) (s : State) : Out :=
  .next (if s.batRuns && decide (-8388608 ≤ sample) && decide (sample < 8388608) then coulomb sample s else s)
/-- OCD (R743): the discharge current has exceeded OCD_MA for OCD_MS. -/
def execOcd (ma : Nat) (s : State) : Out :=
  .next (if s.batRuns && !s.aon.ocdLatch && decide (s.bat.cfg.ocdMa < ma) then
    batEvent 0x8003 [(20, 4, ma)] { s with aon := { s.aon with ocdLatch := true, dsgEn := false } } else s)
/-- The reply of a BAT_OPEN_WIRE_TEST (Table 20-4). -/
def openWireReply (b : Battery) (first count : Nat) : Bytes :=
  putLe 1 count ++ zeros 3 ++ ((List.range count).map fun i =>
    let n := first + i
    match b.results.lookup n with
    | some r => if n ≤ b.cfg.n then putLe 1 n ++ putLe 1 (b2n r.1) ++ putLe 2 (unsigned 16 r.2) else putLe 1 n ++ [2, 0, 0]
    | none => putLe 1 n ++ [2, 0, 0]).flatten
/-- Test commands whose taps are all tested complete. -/
def endOpenWire (s : State) : State :=
  let b := s.bat
  let ready (k : WaitKind) : Bool := match k with
    | .openWire first count => !(b.tests.any fun n => inR n first (first + count - 1))
    | _ => false
  let done := s.cmd.waits.filter fun w => ready w.kind
  let s := { s with cmd := { s.cmd with waits := s.cmd.waits.filter fun w => !ready w.kind } }
  forEach done (fun w s => match w.kind with
    | .openWire first count => complete w.pkt stOk (openWireReply b first count) s
    | _ => s) s
/-- OPEN_WIRE_TEST (R747-R749): the tap under test has changed its cell by `change`, in 0.1 mV. -/
def execOpenWireTest (change : Int) (s : State) : Out :=
  match s.batRuns, s.bat.tests with
  | true, n :: rest =>
    let open_ := decide (400 < change.natAbs)
    let was := s.bat.open_.contains n
    let s := modBat (fun b => { b with tests := rest, suspects := nclr n b.suspects, open_ := if open_ then nset n b.open_ else nclr n b.open_
                                       results := upsert (fun r => r.1 == n) (n, (open_, change)) b.results }) s
    let s := if open_ && !was then batEvent 0x8004 [(16, 1, n), (18, 2, unsigned 16 change)] s
      else if !open_ && was then batEvent 0x8005 [(16, 1, n)] s
      else s
    .next (endOpenWire (chargeEval s))
  | _, _ => .next s
/-- OPEN_WIRE_PERIOD (R749). -/
def execOpenWirePeriod (s : State) : Out := .next (if s.batRuns && s.bat.cfg.owPeriod != 0 then queueTests s.bat.taps s else s)
/-- REST_REACHED (R754). -/
def execRestReached (s : State) : Out :=
  let quiet := decide (s.bat.sample.natAbs * 5000000000 < s.aon.bat.cap * 8388608 * s.bat.cfg.shunt)
  .next (if s.batRuns && quiet then modBat (fun b => { b with rested := true }) s else s)
/-- REBASE_EVALUATION (R754). -/
def execRebaseEvaluation (s : State) : Out := .next (if s.batRuns then rebase s else s)
/-- CHARGE_UPDATE (R761-R763): `answered` says whether the charger took the transaction. -/
def execChargeUpdate (answered : Bool) (s : State) : Out :=
  let b := s.bat
  if !s.batRuns || !b.charging then .next s
  else if !answered then
    let s := modBat (fun b => { b with fails := b.fails + 1 }) s
    if 3 ≤ s.bat.fails then .next (batEvent 0x800C [(16, 1, b.chg.addr)] (modBat (fun b => { b with charging := false, fault := true, fails := 0, term := 0 }) { s with aon := { s.aon with chgEn := false } }))
    else .next s
  else
    let top := b.highest.getD 0
    let aim := b.cfg.n * b.chg.cell
    let volts := min aim (((b.stack * 10 + aim : Nat) : Int) - (b.cfg.n * top / 10 : Nat)).toNat
    let full := decide (0 ≤ b.amps) && decide (b.amps < b.chg.termMa) && decide (10 * b.chg.cell ≤ top + 200)
    let term := if full then b.term + 1 else 0
    let s := toCharger 0x21 volts (modBat (fun b => { b with fails := 0, term := term }) s)
    if b.chg.termMin * 600 ≤ term then
      let s := stopCharge (fullMark s)
      .next (batEvent 0x800B [(20, 4, s.bat.mah s.bat.q)] s)
    else .next s
/-- CHARGER_RETRY (R763): BAT tries a faulty charger again. -/
def execChargerRetry (answered : Bool) (s : State) : Out :=
  .next (if s.bat.fault && answered then chargeEval (modBat (fun b => { b with fault := false }) s) else s)

/-! ### Opcodes (R765, R766) -/

/-- BAT_LIMITS_SET. -/
def execBatLimitsSet (s : State) : Out :=
  interpret 0x0A02 (fun p s =>
    let b := p.params
    match u8 b 0 with
    | 1 => checked p 48 (batCfgFields b) (fun s => ok p (setBatCfg (batCfgOf b) s)) s
    | 2 =>
      let t := ocvOf b 4
      checked p 48 ((0, s.bat.cfg.chem != 3) :: (List.range 21).map fun i => (4 + 2 * i, inR (t.getD i 0) 1000 5000 && (i = 0 || decide (t.getD (i - 1) 0 ≤ t.getD i 0))))
        (fun s => ok p (modBat (fun x => { x with cfg := { x.cfg with ocv := some t } }) s)) s
    | 3 => checked p 4 [] (fun s => ok p (dsgEval { s with aon := { s.aon with ocdLatch := false } })) s
    | _ => if b.isEmpty then fail p stBadLength 0xFFFF 0 s else badParam p 0 s) s
/-- BAT_OPEN_WIRE_TEST (R766). -/
def execBatOpenWireTest (s : State) : Out :=
  interpret 0x0A03 (fun p s =>
    let first := u8 p.params 0; let last := u8 p.params 1
    checked p 4 [(0, decide (first ≤ 16)), (1, inR last first 16)] (fun s =>
      if s.bat.cfg.chem = 0 then fail p stBusy 0xFFFF 1 s
      else
        let taps := s.bat.taps.filter fun n => inR n first last
        endOpenWire (waitFor p (.openWire first (last + 1 - first)) (queueTests taps (modBat (fun b => { b with results := [] }) s)))) s) s
/-- The PMBus address is one of a rail's converter. -/
def railAddr (addr : Nat) (s : State) : Bool := (List.range 7).any fun j => j != 2 && (s.pmc.rails.getD j {}).addr == addr
/-- BAT_CHARGER_SET (R759, R765). -/
def execBatChargerSet (s : State) : Out :=
  interpret 0x0A04 (fun p s =>
    let c := chargerOf p.params
    checked p 20 [(0, decide (u8 p.params 0 ≤ 1)), (1, inR c.addr 8 0x77 && !railAddr c.addr s), (4, inR c.ma 100 200000),
                  (8, s.bat.cfg.chem = 0 || decide (c.cell + 50 ≤ s.bat.cfg.ov)), (10, inR c.termMa 10 20000), (12, inR c.recharge 50 99),
                  (14, inR c.termMin 1 120)] (fun s => ok p (chargeEval (modBat (fun b => { b with chg := c }) s))) s) s
/-- The entry of cell i in BAT_STATUS. -/
def cellEntry (s : State) (i : Nat) : Bytes :=
  let b := s.bat
  if b.cfg.chem = 0 || b.cfg.n < i then zeros 4
  else
    let st := if b.unknown i then 2 else if 10 * b.cfg.ov < b.cell i then 3 else if b.cell i < 10 * b.cfg.uv then 4 else 1
    putLe 2 (b.cells.getD (i - 1) 0) ++ putLe 1 st ++ putLe 1 (b2n (s.bleeds i))
/-- BAT_STATUS (Table 20-5). -/
def execBatStatus (s : State) : Out :=
  interpret 0x0A01 (fun p => checked p 0 [] fun s =>
    let b := s.bat; let k := s.aon.bat
    let flags := maskOf (((([s.aon.dsgEn, s.aon.chgEn, b.charging, b.rested, k.counterDrift, k.relearn, s.aon.ocdLatch, b.stale, s.aon.dsgBlock, b.sumFlag,
      b.cfg.ocv.isSome, b.fault] : List Bool).zipIdx.filter fun x => x.1)).map (·.2))
    let unit := b.cfg.shunt * 301989888
    let ntc (fit : Bool) (t : Int) : Nat := if fit then unsigned 16 t else 0x8000
    complete p stOk (layout 32 [(0, 1, b.cfg.chem), (1, 1, b.cfg.n), (2, 2, flags), (4, 2, b.stack), (8, 4, unsigned 32 b.amps), (12, 4, b.q * 1000 / unit),
      (16, 4, k.cap), (20, 2, s.soc.getD 0xFFFF), (24, 2, ntc b.cfg.ntc.1 b.temps.1), (26, 2, ntc b.cfg.ntc.2 b.temps.2), (28, 4, b.mah k.drift)]
      ++ ((List.range 16).map fun i => cellEntry s (i + 1)).flatten) s) s

end Sys2Proof.Machine
end

