-- ==== Sys2Proof/Machine/Caddy.lean ====
section
/-!
DEFINITION. Sys2Proof/Machine/Caddy.lean: the warden registers, the free store and the caddy opcodes (ch 09).
-/
namespace Sys2Proof.Machine
open Sys2Proof

/-- Registers of warden core n at CAD. -/
def State.cadWarden (s : State) (n : Nat) : CadWarden := tget {} s.cad.wardens n
/-- Set them. -/
def setCadWarden (n : Nat) (v : CadWarden) (s : State) : State := { s with cad := { s.cad with wardens := tput {} s.cad.wardens n v } }
/-- Base address and length of the buffer a handle names (R318, Table 01-7; of the control store in index order, log 88). -/
def State.bufRange (s : State) (h : Nat) : Nat × Nat :=
  let i := h % 2 ^ 22
  if h.testBit 25 then (((s.cad.moved.lookup 1).getD 1) * 0x200000 + i * 4096, 4096)
  else
    let x := s.pool (h / 2 ^ 22 % 8)
    let area := if x.place == 1 then x.first * 0x200000 else 0x1000000000 * (1 + x.chan) + x.first * 0x40000000
    (area + (if x.store == 1 then ceilDiv (4 * x.made) 4096 * 4096 else 0) + i * x.size, x.size)
/-- What a warden wrote in a buffer is no longer known: the buffer changes hands. -/
def forgetBuf (h : Nat) (s : State) : State :=
  let r := s.bufRange h
  { s with mem := { s.mem with known := s.mem.known.filter fun a => !inR a r.1 (r.1 + r.2 - 1) } }
/-- Banks and regions that a pool uses from now on. -/
def markUsed (units : List Nat) (s : State) : State := { s with mem := { s.mem with used := s.mem.used ++ units.filter fun i => !s.mem.used.contains i } }
/-- CAD_W_OP = ALLOC (R325, Table 09-6): class CONTROL, never a chain, NO_RESOURCE when nothing can serve it. -/
def execCadWAlloc (core len256 : Nat) (s : State) : Out :=
  if 4 < core || !(s.cadWarden core).done then .next s
  else match takeOne 0 17 254 ((len256 % 256 + 1) * 256) s with
  | some (h, s) => .next (setCadWarden core ⟨BitVec.ofNat 32 h, stOk, true⟩ (forgetBuf h s))
  | none => .next (setCadWarden core { s.cadWarden core with status := stNoResource } s)
/-- CAD_W_OP = FREE (R336, R337). -/
def execCadWFree (core : Nat) (s : State) : Out :=
  if 4 < core || !(s.cadWarden core).done then .next s
  else
    let (st, s') := cadFree 18 core (s.cadWarden core).handle.toNat (forgetBuf (s.cadWarden core).handle.toNat s)
    .next (setCadWarden core { s.cadWarden core with status := st } s')

/-- CACHE_REFILL (R334, R335). -/
def execCacheRefill (pool : Nat) (s : State) : Out :=
  let x := s.pool pool
  if x.st == 0 then .next s
  else if x.store == 2 then .next (modPool pool (fun x => if x.cache.length < 512 then x.refill (min 16 (512 - x.cache.length)) else x) s)
  else .next (modPool pool (fun x => if x.cache.length < x.low then x.refill 64 else if x.high < x.cache.length then x.spillBack else x) s)
/-- CADDY_WIPE_DONE (R332): the buffer wiped longest is free. -/
def execCaddyWipeDone (pool : Nat) (s : State) : Out :=
  match (s.pool pool).wiping with
  | [] => .next s
  | i :: t => .next (modPool pool (fun x => { (x.giveBack i) with wiping := t }) s)

/-- The largest N of R318 for an area, by the ring's size in whole 4 KiB pages. -/
def maxBuffers (area size : Nat) (ring : Bool) : Nat :=
  if !ring then area / size
  else
    -- the count with the ring rounded up to pages: start from the bound without rounding and step down
    let est := area / (size + 4)
    ((List.range 4100).find? fun d => decide ((est - d) * size + ceilDiv (4 * (est - d)) 4096 * 4096 ≤ area)).map (est - ·) |>.getD 0
/-- Regions named by a command that are dirty move to the head of the wipe order, behind the one being wiped (R33). -/
def hurryWipe (c first count : Nat) (s : State) : State :=
  let f (d : DdrChannel) : DdrChannel :=
    let named := d.dirty.filter fun r => inR r first (first + count - 1)
    match d.dirty with
    | [] => d
    | h :: t => { d with dirty := h :: (named.filter (· != h) ++ t.filter fun r => !named.contains r) }
  if c == 0 then { s with ddr0 := f s.ddr0 } else { s with ddr1 := f s.ddr1 }

/-- The first field of CAD_POOL_CREATE at fault (Table 09-3). -/
def poolFields (s : State) (b : Bytes) : List (Nat × Bool) :=
  let mode := u8 b 1; let place := u8 b 2; let store := u8 b 3; let kib := u16 b 4
  [(0, decide (u8 b 0 ≤ 7)), (1, inR mode 1 2), (2, inR place 1 2), (3, inR store 1 2), (4, if mode == 2 then inR kib 2 64 else kib == 0),
   (6, mode == 1 || !(u8 b 6).testBit 0)]
  ++ (if place == 1 then [(8, inR (u8 b 8) 2 47), (9, decide (1 ≤ u8 b 9) && decide (u8 b 8 + u8 b 9 ≤ 48))]
      else [(8, decide (u8 b 8 ≤ 1)), (10, decide (u16 b 10 < (s.ddr (u8 b 8)).gib)), (12, inR (u16 b 12) 1 64 && decide (u16 b 10 + u16 b 12 ≤ (s.ddr (u8 b 8)).gib))])
  ++ (if store == 1 then [(16, inR (u16 b 16) 64 320), (18, inR (u16 b 18) (u16 b 16 + 128) 448)] else [])
  ++ [(20, u32 b 20 == 0 || inR (u32 b 20) 16 4194304)]
/-- CAD_POOL_CREATE (R316-R319, R333, R342, R343). -/
def execCadPoolCreate (s : State) : Out :=
  interpret 0x0410 (fun p s =>
    let b := p.params
    checked p 24 (poolFields s b) (fun s =>
      let q := u8 b 0; let mode := u8 b 1; let place := u8 b 2; let store := u8 b 3
      let size := if mode == 1 then ([256, 512, 1024, 2048, 4096, 9472, 16384, 65536] : List Nat).getD q 0 else u16 b 4 * 1024
      let chan := if place == 1 then 0 else u8 b 8
      let first := if place == 1 then u8 b 8 else u16 b 10
      let count := if place == 1 then u8 b 9 else u16 b 12
      let units := (List.range count).map (· + first)
      let others := s.createdPools
      let differs := others.any fun o => (s.pool o).mode != mode || (mode == 2 && (s.pool o).size != size)
      let fenced := if place == 1 then units.any fun i => s.domLost (100 + i) else s.domLost (86 + chan) || s.domLost (88 + chan)
      let left := 4194304 - others.foldl (fun n o => n + (s.pool o).n) 0
      let max := u32 b 20
      let area := if place == 1 then count * 0x200000 else count * 2 ^ 30
      let n0 := min (maxBuffers area size (store == 1)) left
      let n := if max == 0 then n0 else min n0 max
      if (s.pool q).st != 0 then fail p stBusy 0xFFFF 1 s
      else if differs then fail p stBusy 0xFFFF 2 s
      else if fenced then fail p stFenced 0xFFFF 0 s
      else if units.any (fun i => s.areaUsed place chan i) then fail p stBusy 0xFFFF 3 s
      else if place == 2 && units.any (fun i => (s.ddr chan).dirty.contains i) then fail p stBusy 0xFFFF 4 (hurryWipe chan first count s)
      else if max != 0 && left < max then fail p stNoResource 0xFFFF 1 s
      else if n < 16 then fail p stNoResource 0xFFFF 2 s
      else
        let x : Pool := { st := 1, mode := mode, place := place, store := store, size := size, spill := mode == 1 && (u8 b 6).testBit 0, chan := chan, first := first, count := count, n := n, made := n, low := u16 b 16, high := u16 b 18, cache := List.range (min 512 n), fresh := min 512 n }
        complete p stOk (putLe 4 n ++ putLe 4 x.rsv) (modPool q (fun _ => x) (markUsed (units.map fun i => if place == 1 then i else 64 + 64 * chan + i) s))) s) s

/-- Release a DRAINING pool whose last buffer has returned (R339). -/
def releasePool (q : Nat) (s : State) : State :=
  let x := s.pool q
  if x.st == 2 && x.owned.isEmpty && x.wiping.isEmpty then
    let s := logEvent 8 0x8005 (detail [(16, 1, q), (20, 4, x.returned)]) (modPool q (fun _ => {}) s)
    finishWaits (fun k => k == .pool q) stOk (fun _ => []) s
  else s
/-- CAD_POOL_DESTROY (R339). -/
def execCadPoolDestroy (s : State) : Out :=
  interpret 0x0411 (fun p s =>
    let q := u8 p.params 0
    checked p 4 [(0, decide (q ≤ 7) && (s.pool q).st != 0)] (fun s =>
      releasePool q (waitFor p (.pool q) (modPool q (fun x => { x with st := 2 }) s))) s) s
/-- POOL_RELEASED (R339). -/
def execPoolReleased (pool : Nat) (s : State) : Out := .next (releasePool pool s)

/-- A pool entry of CAD_POOL_STATUS (Table 09-4). -/
def poolBytes (x : Pool) : Bytes :=
  if x.st == 0 then zeros 32
  else putLe 1 x.st ++ putLe 1 x.mode ++ putLe 1 x.place ++ putLe 1 x.store ++ putLe 2 (x.size / 256) ++ putLe 1 (b2n x.spill + 2 * b2n x.degraded) ++ [0]
    ++ putLe 4 x.n ++ putLe 4 x.free ++ putLe 4 x.rsv ++ putLe 4 x.wiping.length ++ putLe 2 x.cache.length ++ [0, 0] ++ putLe 4 x.doubleFrees
/-- CAD_POOL_STATUS (Table 09-4). -/
def execCadPoolStatus (s : State) : Out :=
  interpret 0x0412 (fun p => checked p 0 [] fun s =>
    let kib (o : Nat) : Bytes := putLe 4 (ceilDiv (s.charge o) 1024)
    complete p stOk (((List.range 8).map fun q => poolBytes (s.pool q)).flatten ++ ((List.range 16).map kib).flatten
      ++ putLe 2 (512 - s.cad.ctl.length) ++ [0, 0] ++ kib 16 ++ kib 17) s) s

end Sys2Proof.Machine
end

