-- ==== Sys2Proof/Machine/RprOps.lean ====
section
/-!
DEFINITION. Sys2Proof/Machine/RprOps.lean: pools and their spares, what a fence does to each part, and role moves (ch 27; R714-R719, 19).
-/
namespace Sys2Proof.Machine
open Sys2Proof

/-! ### Pools (R969) -/

/-- Domains of pool p in order: 0 warden cores, 1 AES, 2 storage, 3 integrity engines. -/
def poolUnits (p : Nat) : List Nat := if p == 0 then [15, 16, 17, 18, 19] else poolDomains (0x103 + p)
/-- Units a pool requires. -/
def poolNeed (p : Nat) : Nat := [4, 8, 6, 4].getD p 0
/-- The pool a domain belongs to. -/
def poolOfDomain (d : Nat) : Option Nat := (List.range 4).find? fun p => (poolUnits p).contains d
/-- The SPARE unit's domain, if the pool holds a usable one. -/
def State.spareOf (s : State) (p : Nat) : Option Nat := (poolUnits p).find? fun d => (s.domain d).st == .spare && !s.domLost d
/-- Active units: neither SPARE nor lost. -/
def State.activeUnits (s : State) (p : Nat) : List Nat := (poolUnits p).filter fun d => (s.domain d).st != .spare && !s.domLost d
/-- State of a pool: 0 FULL, 1 NO_SPARE, 2 REDUCED, 3 EMPTY. -/
def State.poolState (s : State) (p : Nat) : Nat :=
  let n := (s.activeUnits p).length
  if n = 0 then 3 else if n < poolNeed p then 2 else if (s.spareOf p).isSome then 0 else 1
/-- The four states. -/
def State.poolStates (s : State) : List Nat := (List.range 4).map s.poolState
/-- POOL_STATE for every pool whose state differs from the one before (R969). -/
def poolRecords (before : List Nat) (s : State) : State :=
  forEach (List.range 4) (fun p s =>
    if before.getD p 0 == s.poolState p then s else logEvent 29 0x8004 (detail [(16, 1, p), (17, 1, before.getD p 0), (18, 1, s.poolState p)]) s) s
/-- A unit leaves SPARE and takes a role: it switches on where the power state lets it (R969). -/
def activate (d : Nat) (s : State) : State :=
  let s := modDomain d (fun x => { x with st := .gated, cause := 1, forced := none }) s
  let want := domainFor s s.pmc.st d
  if want.st == .on then switchOn d s else setDomain d want s

/-! ### Items of an engine (R968) -/

/-- Take an item out of a point. -/
def removeItem (k id : Nat) (s : State) : State := modPoint k (fun x => { x with queue := x.queue.filter (·.id != id), serving := x.serving.filter (·.id != id) }) s
/-- Replace an item in its unit, in its place. -/
def replaceItem (k : Nat) (i : QItem) (s : State) : State := modPoint k (fun x => { x with serving := x.serving.map fun j => if j.id == i.id then i else j }) s
/-- An item completes with FENCED (R968): its frame is dropped, its entry or command completes. -/
def fenceItem (k : Nat) (i : QItem) (s : State) : State :=
  let s := removeItem k i.id s
  match i.job with
  | .entry g seq => failEntry g seq stFenced s
  | .fix id => failWaits (· == .fixJob id) stFenced 0 (modSto (fun x => { x with jobs := x.jobs.filter fun j => j.id != id }) s)
  | j => ifSome j.frame? (fun f s => dropFrame (some k) f s) s
/-- A job as it stood before an engine took it: a frame under a SecY names the SecY again (R462). -/
def unentered (s : State) (j : Job) : Job :=
  match j with
  | .crypt f enc sa x => .crypt f enc (match s.saAny sa with
    | some y => if y.kind == 2 then y.secy else sa
    | none => sa) x
  | j => j
/-- A moved item goes into another ON unit in its place in the order, with a new number (R462, R559, R968). -/
def reenter (k : Nat) (i : QItem) (s : State) : State :=
  match s.leastUnit k, unentered s i.job with
  | some u, .crypt f enc sa x => match cryptEnter sa s with
    | (some (sa, n), s) => replaceItem k { i with unit := u, num := n, job := .crypt f enc sa x } s
    | (none, s) => dropFrame none f (removeItem k i.id s)
  | some u, _ => replaceItem k { i with unit := u } s
  | none, _ => s
/-- A unit of a pool switches on. -/
def State.poolWaking (s : State) (k : Nat) : Bool := (poolDomains k).any fun d => (s.domain d).switchingOn && !s.domLost d
/-- Work for a pool without an ON unit switches a gated one on (R151). -/
def wakeUnit (k : Nat) (s : State) : State :=
  if !(s.unitsOn k).isEmpty || s.poolWaking k || !s.dataOn then s
  else match (poolDomains k).find? fun d => (s.domain d).st == .gated && !s.domLost d && (s.domain d).forced.isNone with
    | some d => switchOn d s
    | none => s
/-- Move the items of unit u (R968): to the other ON units, else ahead of what waits for a unit that switches on, else they and all that wait complete
with FENCED. -/
def moveItems (k u : Nat) (s : State) : State :=
  let items := (s.point k).serving.filter fun i => i.unit == u
  let s := wakeUnit k (forEach items (fun _ s => countEv 6 (k - 0x100) 18 1 s) s)
  let s := if !(s.unitsOn k).isEmpty then forEach items (reenter k) s
    else if s.poolWaking k then
      modPoint k (fun x => { x with queue := (items.map fun i => { i with job := unentered s i.job }) ++ x.queue, serving := x.serving.filter fun i => i.unit != u }) s
    else forEach (items ++ (s.point k).queue) (fenceItem k) s
  finishSaDel s

/-- Work queued at a pool that has no unit ON or switching on completes with FENCED (R968). -/
def poolCheck (k : Nat) (s : State) : State :=
  let s := wakeUnit k s
  if !s.dataOn || !(s.unitsOn k).isEmpty || s.poolWaking k then s else forEach (s.point k).queue (fenceItem k) s

/-! ### What a part's loss does (Table 27-1) -/

/-- Storage engine u is lost (R512): its connections close with cause FENCED, without a segment, and what it held goes. -/
def storageLost (u : Nat) (s : State) : State :=
  let s := forEach ((s.sto.conns.filter fun c => c.2.engine == u).map (·.1)) (fun h s => connClose h 9 s) s
  let s := forEach ((s.point 0x105).serving.filter fun i => i.unit == u) (fenceItem 0x105) s
  moveItems 0x105 u s
/-- The slice that serves a vport: v mod S of the S slices ON, in ascending order (R401). -/
def sliceFor (on : List Nat) (v : Nat) : Option Nat := on[v % on.length]?
/-- Switch slices ON. -/
def State.slices (s : State) : List Nat := [0, 1, 2, 3].filter fun i => s.isOn (41 + i)
/-- Slice i is lost (R432): a provisional frame in it ends with an inverted FCS, the others are dropped; its vports move. before: the slices ON before. -/
def sliceLost (before : List Nat) (i : Nat) (s : State) : State :=
  let hit (q : InFrame) : Bool := sliceFor before q.frame.inVp == some i && q.sealed.isNone && !q.judged
  let going (q : InFrame) : Bool := q.cut.isSome || !q.early.isEmpty
  let gone := (s.net.inq.filter fun q => hit q && !going q).map fun q => q.frame
  let s := { s with net := { s.net with inq := (s.net.inq.filter fun q => !(hit q && !going q)).map fun q => if hit q then { q with verdict := 5 } else q } }
  let s := forEach gone (dropFrame none) s
  let moved := ((List.range 256).filter fun v => vpExists v && sliceFor before v == some i).length
  if before.contains i then logEvent 10 0x8002 (detail [(16, 1, i), (17, 1, moved)]) s else s
/-- Half h is lost (R977): its ring pairs go without a completion. -/
def halfLost (h : Nat) (s : State) : State :=
  forEach (s.rings.filter fun x => x.1 / 2048 == h) (fun x s =>
    let s := forEach x.2.work (fun w s => cadRelease w.bufs (purgeEntry x.1 w.seq s)) s
    let s := failWaits (· == .ring x.1) stFenced 0 (setRing x.1 none s)
    { s with cad := { s.cad with waits := s.cad.waits.filter fun w => match w.use with
      | .entry g _ => g != x.1
      | _ => true } }) s
/-- Buffers leave pool p (R340): the range from a to b of indices; work that holds one completes with FENCED, and a pool without buffers is absent. -/
def poolLoses (p a b : Nat) (s : State) : State :=
  let x := s.pool p
  let b := min b x.made
  if b ≤ a || x.st == 0 then s
  else
    let out (i : Nat) : Bool := inR i a (b - 1)
    let n := ((List.range (b - a)).filter fun i => !x.isGone (a + i)).length
    let lost := (x.owned.filter fun y => out y.index).map fun y => handleOf false p y.index
    let held (l : List Nat) : Bool := l.any lost.contains
    let s := modPool p (fun x => { x with n := x.n - n, degraded := true, gone := x.gone ++ [(a, b)], cache := x.cache.filter (!out ·), front := x.front.filter (!out ·),
                                          back := x.back.filter (!out ·), wiping := x.wiping.filter (!out ·), owned := x.owned.filter fun y => !out y.index }) s
    let work := (s.rings.map fun r => (r.2.work.filter fun w => held w.bufs).map fun w => (r.1, w.seq)).flatten
    let s := forEach work (fun e s => failEntry e.1 e.2 stFenced (purgeEntry e.1 e.2 s)) s
    let s := discardFrames (fun f => held f.bufs) s
    let s := forEach (List.range 4) (fun l s => whenS ((s.link l).rx.any fun r => held r.bufs) (dropRx l) s) s
    let gone := (s.lat.inbox.filter fun m => held m.2.2).map (·.2.2)
    let s := cadRelease gone.flatten (modLat (fun y => { y with inbox := y.inbox.filter fun m => !held m.2.2 }) s)
    if (s.pool p).n == 0 then finishWaits (· == .pool p) stOk (fun _ => []) (modPool p (fun _ => {}) s) else s
/-- The indices of a pool with a byte in the range from a to b of its area. -/
def Pool.indices (x : Pool) (a b : Nat) : Nat × Nat :=
  let base := (x.extent 0).1
  ((a - base) / x.size, if b ≤ base then 0 else (b - base - 1) / x.size + 1)
/-- SRAM bank b is lost (R340). -/
def bankLost (b : Nat) (s : State) : State :=
  forEach (List.range 8) (fun p s =>
    let x := s.pool p
    if x.st != 0 && x.place == 1 && inR b x.first (x.first + x.count - 1) then
      let r := x.indices ((b - x.first) * 0x200000) ((b - x.first + 1) * 0x200000)
      poolLoses p r.1 r.2 s
    else s) s
/-- DDR5 channel ch is lost (R340). -/
def channelLost (ch : Nat) (s : State) : State :=
  forEach (List.range 8) (fun p s =>
    let x := s.pool p
    if x.st != 0 && x.place == 2 && x.chan == ch then poolLoses p 0 x.made s else s) s
/-- Lanes or a MAC domain are lost (R375): the port goes down with cause fenced. -/
def lanesLost (d : Nat) (s : State) : State :=
  let lanes := if d < 50 then [2 * (d - 46), 2 * (d - 46) + 1] else [d - 50]
  hoCheck (forEach ((lanes.filterMap s.lanePort).eraseDups) (fun p s => if (s.port p).st == 0 then s else setPort p 5 2 s) s)
/-- D025, D026 or D099 is lost (R624, R30): the engine stops without a program, its slews and a pour in progress end, and the memory's contents go. -/
def signalLost (d : Nat) (s : State) : State :=
  let s := endPour (endSlews (stopEngine 1 d s))
  let s := modSge (fun g => { g with active := none, staged := none }) s
  if d == 26 then modSge (fun g => { g with delay := [] }) s
  else if d == 99 then modSio (fun x => { discardPour x with bank0 := [], bank1 := [], ramps := [] }) s
  else modSio (fun x => { x with slots := [] }) s
/-- What the loss of domain d does to its part (Table 27-1). before: the switch slices ON before. -/
def partLost (before : List Nat) (d : Nat) (s : State) : State :=
  if d == 3 then
    let h := s.hkp
    let dead := List.range 32 |>.map fun c => if c == 0 || c == 29 || c == 30 then 0x8000 else 0
    sensorFault 3 { s with hkp := { h with chan := dead, tz := List.replicate 16 (-32768), gov := -32768, govZone := 0 } }
  else if d == 9 then closeSession 5 s
  else if d == 20 then (if s.xsp.xfer.isSome then { s with xsp := { s.xsp with xfer := none, status := stFenced } } else s)
  else if d == 21 then lblFenced s
  else if d == 22 then stopCharge s
  else if d == 23 then endSlews s
  else if d == 25 || d == 26 || d == 99 then signalLost d s
  else if d == 30 || d == 31 then convReset 2 s
  else if inR d 32 34 then linkWidth (min s.pce.width s.quadWidth) 0 s
  else if d == 36 || d == 37 then halfLost (d - 36) s
  else if inR d 41 44 then sliceLost before (d - 41) s
  else if inR d 46 57 then lanesLost d s
  else if d == 58 then hoCheck (latRefresh (modLat (fun x => { x with lsdb := [], inbox := [], routes := [] }) (cadRelease ((s.lat.inbox.map (·.2.2)).flatten) s)))
  else if inR d 59 62 then hoCheck (latRefresh s)
  else if d == 63 then
    let s := wipeSlots (fun _ _ => true) s
    let s := { s with host := { s.host with tenants := tmodAll {} s.host.tenants (List.range 16) fun _ t => { t with keys := [] } } }
    modCry (fun c => { c with slots := [], keks := [], sas := [] }) s
  else if d == 64 then modCry (fun c => { c with drbg := {} }) s
  else if inR d 65 73 then moveItems 0x104 (d - 65) s
  else if inR d 74 80 then storageLost (d - 74) s
  else if inR d 81 85 then moveItems 0x106 (d - 81) s
  else if inR d 86 89 then channelLost (d % 2) s
  else if inR d 90 97 then bankOff (d - 90) 3 s
  else if inR d 100 147 then bankLost (d - 100) s
  else s
/-- Commands begun whose target is fenced now complete with FENCED (R967, R970 step 1). -/
def failFenced (s : State) : State :=
  let hit (w : Waiting) : Bool := s.blockFenced (opBlock w.pkt.opcode) || match w.kind with
    | .domain d => s.domLost d
    | _ => false
  let gone := s.cmd.waits.filter hit
  forEach gone (fun w s => fail w.pkt stFenced 0xFFFF 0 s) { s with cmd := { s.cmd with waits := s.cmd.waits.filter fun w => !hit w } }

/-! ### Fencing (R970, Table 27-3) -/

/-- The domains fenced with d: both of a DDR5 channel (R979). -/
def fencePair (d : Nat) : List Nat := if inR d 86 89 then [86 + d % 2, 88 + d % 2] else [d]
/-- The substitute of bank 0 or 1: the highest-numbered of 2-47 that is ON, unused and not fenced (R978). -/
def State.substitute (s : State) : Option Nat := (((List.range 48).drop 2).filter fun b => s.isOn (100 + b) && !s.areaUsed 1 0 b).getLast?
/-- The bank that holds the event log (0) or the control store (1). -/
def State.bankHome (s : State) (b : Nat) : Nat := (s.cad.moved.lookup b).getD b
/-- The contents of banks 0 and 1 leave a bank that is about to be fenced (R978; DESIGN CHOICE for a substitute itself, log 85). -/
def moveBank (b : Nat) (s : State) : State :=
  forEach ([0, 1].filter fun x => s.bankHome x == b) (fun x s => match s.substitute with
    | some t => logEvent 29 0x8007 (detail [(16, 1, b), (17, 1, t)]) { s with cad := { s.cad with moved := tins x t s.cad.moved } }
    | none => s) s
/-- Fence domain d (Table 27-3 but for step 5 and for a role's move): the spare switched in, and the state. FENCE names the persistence asked for.
pools: the pools' states before. -/
def fenceDomain (pools : List Nat) (d cause : Nat) (persist : Bool) (s : State) : Option Nat × State :=
  let slices := s.slices
  let spare := match poolOfDomain d with
    | some p => if p == 0 || (s.domain d).st == .spare then none else (s.spareOf p).filter (· != d)
    | none => none
  let s := whenS (inR d 100 147) (moveBank (d - 100)) s
  let s := { s with aon := { s.aon with fence := nset d s.aon.fence } }
  let s := leftOn (s.isOn 20) (modDomain d (fun x => { x with st := .fenced, cause := 5, switchingOn := false, switchingOff := false }) s)
  let s := ifSome spare activate s
  let s := if inR d 12 14 then forEach ((List.range 148).filter fun x => x != d && meshOf x == meshOf d && !s.aon.fence.contains x) (partLost slices) s else partLost slices d s
  let s := whenS (inR d 15 19 && s.wdn.spare == d - 15) (modWdn fun x => { x with spare := 7 }) s
  let s := failFenced s
  let s := logEvent 29 0x8001 (detail [(16, 2, d), (18, 1, cause), (19, 1, b2n persist + 2 * b2n spare.isSome), (20, 2, spare.getD 0xFFFF)]) s
  (spare, poolRecords pools (routePost 0x0C s))
/-- Fence the domains of a list. -/
def fenceAll (ds : List Nat) (cause : Nat) (persist : Bool) (s : State) : Option Nat × State :=
  ds.foldl (fun a d => if a.2.aon.fence.contains d then a else
    let r := fenceDomain a.2.poolStates d cause persist a.2
    (r.1.orElse fun _ => a.1, r.2)) (none, s)

/-! ### Roles (R714-R719) -/

/-- A role interprets the commands of area 0x0D. -/
def State.mindsRepair (s : State) (r : Nat) : Bool := (s.wdn.areas.lookup 0x0D).any fun a => a.1 == r
/-- A core is working: ON, without a memory error (R718). -/
def State.coreWorks (s : State) (c : Nat) : Bool := s.isOn (15 + c) && (s.core c).codeBad.isEmpty && (s.core c).dataBad.isEmpty
/-- A role's core goes while no spare is available (R719): the role is lost. -/
def loseRole (r : Nat) (s : State) : State :=
  let c := s.wdn.map.getD r 7
  let s := clearRole r (modRole r (fun x => { x with move := none }) s)
  let s := modCore c (fun _ => {}) (modWdn (fun x => { x with map := x.map.set r 7 }) s)
  let mine (w : Waiting) : Bool := (s.wdn.areas.lookup (w.pkt.opcode / 256)).any fun a => a.1 == r
  let gone := s.cmd.waits.filter mine
  let s := forEach gone (fun w s => fail w.pkt stFenced 0xFFFF 0 s) { s with cmd := { s.cmd with waits := s.cmd.waits.filter fun w => !mine w } }
  logEvent 18 0x8004 (detail [(16, 1, r), (17, 1, c)]) s
/-- Start a move of role r to the spare (R716, R717): the spare's domain switches on. fence: the cause with which the outgoing core is then fenced. -/
def startMove (r spare : Nat) (warm : Bool) (fence : Option Nat) (s : State) : State :=
  activate spare (modRole r (fun x => { x with move := some ⟨warm, spare - 15, !warm, s.us, fence⟩ }) s)
/-- Fence a core automatically, or by command without a spare (R717, R719, R973): a cold move of its role first, where a spare is available. -/
def fenceCore (d cause : Nat) (s : State) : State :=
  match s.roleOn (d - 15), s.spareOf 0 with
  | some r, some u =>
    if (s.role r).move.isSome then modRole r (fun x => { x with move := x.move.map fun m => { m with warm := false, frozen := true, fence := some cause } }) s
    else startMove r u false (some cause) s
  | some r, none =>
    if (s.role r).move.isSome then modRole r (fun x => { x with move := x.move.map fun m => { m with warm := false, frozen := true, fence := some cause } }) s
    else if cause != 0 && s.mindsRepair r then logEvent 29 0x8008 (detail [(16, 2, d), (18, 1, cause)]) s
    else (fenceDomain s.poolStates d cause false (loseRole r s)).2
  | none, _ => (fenceDomain s.poolStates d cause false s).2
/-- An automatic fence (R972). -/
def autoFence (d cause : Nat) (s : State) : State :=
  if s.aon.fence.contains d || !fenceable d then s
  else if inR d 15 19 then fenceCore d cause s
  else (fenceAll (fencePair d) cause false s).2
/-- A channel's PLL fails to relock, or it fails otherwise (Table 27-2, cause 6). -/
def fenceChannel (ch : Nat) (s : State) : State := autoFence (86 + ch) 6 s
/-- DOMAIN_FAULT of a domain: the second within 24 h fences it (Table 27-2, cause 1). -/
def domainFaultSeen (d : Nat) (s : State) : State :=
  let again := (s.pmc.faults.lookup d).any fun t => decide (s.us < t + 86400000000)
  let s := { s with pmc := { s.pmc with faults := tins d s.us s.pmc.faults } }
  if again then autoFence d 1 s else s

/-! ### Repair records (R943, R971) -/

/-- Lowest unwritten repair slot. -/
def State.repairFree (s : State) : Option Nat := [1, 2, 3, 4, 5, 6, 7, 8].find? fun n => !s.otpWritten (repairSlot n) 32
/-- Write the record in force with FENCE changed into a slot; good: it reads back (R971). -/
def writeRepair (n bits : Nat) (good : Bool) (s : State) : State :=
  let body := putLe 19 bits ++ zeros 5 ++ putLe 4 s.aon.rtcSec.toNat
  let s := otpProgram good (repairSlot n) (repairSlot n) (body ++ putLe 4 (crc32c body).toNat) s
  logEvent 27 (if good then 0x8001 else 0x8002) (detail [(16, 1, 0x32), (17, 1, n)]) s

/-! ### Commands and moves that wait for a switch (R974, R976, R716-R718) -/

/-- The wait of a repair command for the move of role r. -/
def moveWait (r : Nat) : WaitKind := .other (0xD200 + r)
/-- The wait of RPR_SPARE_SWAP for an engine that switches on. -/
def swapWait : WaitKind := .other 0xD300
/-- The wait of RPR_UNFENCE for the first switch-on of its domain: the slot written and whether the record still fences it. -/
def unfenceWait (d slot : Nat) (note : Bool) : WaitKind := .other (0xD0000 + d * 32 + slot * 2 + b2n note)
/-- The domain, slot and note of such a wait. -/
def WaitKind.unfence (k : WaitKind) : Option (Nat × Nat × Bool) :=
  match k with
  | .other c => if inR c 0xD0000 0xD1FFF then some ((c - 0xD0000) / 32, c % 32 / 2, c % 2 == 1) else none
  | _ => none
/-- The first switch-on after an unfence has succeeded. -/
def finishUnfence (d : Nat) (s : State) : State :=
  forEach (s.cmd.waits.filterMap fun w => (w.kind.unfence.filter fun u => u.1 == d).map fun u => (w.kind, u)) (fun w s =>
    finishWaits (· == w.1) (if w.2.2.2 then stNote else stOk) (fun _ => layout 4 [(0, 1, w.2.2.1)]) s) s
/-- The first switch-on after an unfence has failed (R974): fenced again; the record's cause is open. -/
def refence (d : Nat) (s : State) : State :=
  if s.cmd.waits.any fun w => w.kind.unfence.any fun u => u.1 == d then
    let (c, s) := freeNat 2 s
    let s := (fenceAll [d] c false s).2
    failWaits (fun k => k.unfence.any fun u => u.1 == d) stFault 0 s
  else s
/-- The pools' states as they were before domain d left SPARE. -/
def State.withSpare (s : State) (d : Nat) : List Nat := (modDomain d (fun x => { x with st := .spare }) s).poolStates
/-- A unit becomes SPARE. -/
def makeSpare (d : Nat) (s : State) : State :=
  let s := modDomain d (fun _ => { st := .spare, cause := 5 }) s
  if inR d 15 19 then modWdn (fun x => { x with spare := d - 15 }) s else s
/-- RPR_SPARE_SWAP of an engine ends (R976): what is left in OUT is moved, its connections are IN's, and OUT becomes SPARE or FENCED. -/
def finishSwap (w : Nat × Nat × Nat) (s : State) : State :=
  let out := w.1; let in_ := w.2.1
  let p := (poolOfDomain out).getD 1
  let k := 0x103 + p
  let base := (poolUnits p).headD 0
  let before := s.withSpare in_
  let s := { s with pmc := { s.pmc with swap := none } }
  let s := if p == 2 then
      let s := modSto (fun x => { x with conns := x.conns.map fun c => if c.2.engine == out - base then (c.1, { c.2 with engine := in_ - base }) else c }) s
      modPoint k (fun x => { x with serving := x.serving.map fun i => if i.unit == out - base then { i with unit := in_ - base } else i }) s
    else s
  let s := if w.2.2 == 1 then (let s := makeSpare out s; if p == 2 then s else moveItems k (out - base) s) else (fenceDomain before out 0 false s).2
  let s := whenS (w.2.2 == 1) (poolRecords before) s
  let s := logEvent 29 0x8003 (detail [(16, 1, p), (17, 1, out - base), (18, 1, in_ - base), (19, 1, w.2.2)]) s
  finishWaits (· == swapWait) stOk (fun _ => layout 4 [(0, 1, in_ - base)]) s
/-- The spare of a swap does not switch on: OUT keeps its role (R156). -/
def dropSwap (d : Nat) (s : State) : State :=
  if s.pmc.swap.any fun w => w.2.1 == d then failWaits (· == swapWait) stFault 0 (makeSpare d { s with pmc := { s.pmc with swap := none } }) else s
/-- The spare of a move does not switch on: the move ends, the fault may fence the spare, and an automatic fence of the outgoing core tries again (R156,
R972). -/
def dropMoves (d : Nat) (s : State) : State :=
  let moving := (List.range 4).filter fun r => (s.role r).move.any fun m => m.dest + 15 == d
  let again := moving.map fun r => (r, ((s.role r).move.bind (·.fence)).filter (· != 0))
  let s := forEach moving (fun r s =>
    let s := makeSpare d (modRole r (fun x => { x with move := none }) s)
    sched r (failWaits (· == moveWait r) stFault 0 s)) s
  forEach again (fun a s => match a.2, s.coreOf a.1 with
    | some cause, some c => fenceCore (15 + c) cause s
    | _, _ => s) (domainFaultSeen d s)

end Sys2Proof.Machine
end

