-- ==== Sys2Proof/Machine/Clocks.lean ====
section
/-!
DEFINITION. Sys2Proof/Machine/Clocks.lean: clocks, the housekeeping round, bands and rates of rise (ch 05).
-/
namespace Sys2Proof.Machine
open Sys2Proof

/-- The channels whose encoding is signed (Table 05-3). -/
def hkSigned (ch : Nat) : Bool := ch == 0 || ch == 29 || ch == 30
/-- A round starts with the thresholds in force (R174, R176). -/
def execHkRoundStart (s : State) : Out :=
  if s.live && s.unreset then
    .next { s with hkp := { s.hkp with started := s.hkp.started + 1, conv := 0, raw := [], thrRound := s.hkp.thr } }
  else .next s
/-- A PMBus telemetry transaction of a rail fails or succeeds; the third failure in a row writes CONVERTER_FAULT and leaves the rail at its
last setting (R125, 04). -/
def pmbusResult (rail : Nat) (good : Bool) (s : State) : State :=
  let r := s.pmc.rails.getD rail {}
  let n := if good then 0 else r.fails + 1
  let s := { s with pmc := { s.pmc with rails := s.pmc.rails.set rail { r with fails := if n == 3 then 0 else n } } }
  whenS (n == 3) (logEvent 2 0x8006 (detail [(16, 1, rail), (17, 1, 3)])) s
/-- One channel is converted (R175); while D003 is FENCED none is (R197). The PMBus result, if any, is a rail's telemetry of this round. -/
def execHkConversion (value : Nat) (pmb : Option (Nat × Bool)) (s : State) : Out :=
  if s.hkp.conv < 32 && s.live then
    let ch := s.hkp.conv
    let v := if (s.domain 3).st == .fenced then (if hkSigned ch then 0x8000 else 0) else if ch == 31 then 0 else value % 65536
    let s := { s with hkp := { s.hkp with conv := ch + 1, raw := s.hkp.raw ++ [v] } }
    let s := if ch == 1 then { s with pmc := { s.pmc with vin := v } } else if ch == 2 then { s with pmc := { s.pmc with vbus := v } } else s
    .next (ifSome pmb (fun r s => pmbusResult r.1 r.2 s) s)
  else .next s

/-- Offset of zone z in 0.01 °C (R178); P in 10 mW, K in 0.01 °C/W; fractions of 0.01 °C are rounded down (log 8). -/
def zoneOffset (k raw : List Nat) (z : Nat) : Int :=
  if z == 0 then 0
  else
    let kp (i : Nat) : Int := (k.getD i 0 * raw.getD (10 + i) 0 : Nat)
    max (-2000) (min 3000 ((kp z - kp 0) / 100))
/-- Estimates of the 16 zones (R178). -/
def zoneTemps (k raw : List Nat) : List Int := (List.range 16).map fun z => signed 16 (raw.getD 0 0) + zoneOffset k raw z
/-- The highest estimate and the lowest zone that has it (R179). -/
def governing (tz : List Int) : Int × Nat :=
  let top := tz.foldl max (tz.headD 0)
  (top, tz.findIdx (· == top))
/-- Sensor fault of a round (R181): 3 fenced, 0 range, 1 bandgap, 2 ground. -/
def sensorCheck (fenced : Bool) (raw : List Nat) : Option Nat :=
  let t := signed 16 (raw.getD 0 0); let g := signed 16 (raw.getD 29 0)
  if fenced then some 3
  else if t < -5500 ∨ t > 15000 then some 0
  else if !inR (raw.getD 28 0) 11880 12120 then some 1
  else if g < -20 ∨ g > 20 then some 2
  else none
/-- The four band boundaries in 0.01 °C (R182). -/
def bandEdges : List Int := [0, 4500, 8500, 10000]
/-- The band in force for refresh and margin: B3 in sensor fault (R181). -/
def State.effBand (s : State) : Nat := if s.hkp.fault.isSome then 3 else s.hkp.band
/-- VCORE margin of a band in mV (Table 05-2). -/
def bandMargin (b : Nat) : Int := [25, 0, 0, 10, 20].getD b 0
/-- The VCORE target in mV (R184). -/
def State.vcoreTarget (s : State) : Int := max 650 (min 850 (((s.pmc.rails.getD 2 {}).mv : Int) + bandMargin s.effBand))
/-- DDR5 refresh interval of a channel in ns (R185). -/
def State.refreshNs (s : State) (ch : Nat) : Nat := if 3 ≤ s.effBand || s.hkp.mr4Short.getD ch false then 1950 else 3900
/-- SerDes preset set: 0 cold, 1 nominal, 2 hot (R186, Table 05-2). A sensor fault holds the refresh and the margin alone at B3 (R181). -/
def State.presetSet (s : State) : Nat := [0, 1, 1, 2, 2].getD s.hkp.band 1

/-- One step of the band (R182): counts per boundary, then one band up or down. -/
def bandStep (s : State) : State :=
  let h := s.hkp
  let rise := (List.range 4).map fun i => if h.gov > bandEdges.getD i 0 then min 2 (h.rise.getD i 0 + 1) else 0
  let fall := (List.range 4).map fun i => if h.gov ≤ bandEdges.getD i 0 - 300 then min 10 (h.fall.getD i 0 + 1) else 0
  let s := { s with hkp := { h with rise := rise, fall := fall } }
  let to_ := if h.band < 4 ∧ 2 ≤ rise.getD h.band 0 then h.band + 1
    else if 0 < h.band ∧ 10 ≤ fall.getD (h.band - 1) 0 then h.band - 1 else h.band
  if to_ == h.band then s
  else logEvent 4 0x8001 (detail [(16, 1, h.band), (17, 1, to_), (18, 1, h.govZone)])
    { s with hkp := { s.hkp with band := to_ }, ckg := { s.ckg with trimBand := to_ } }

/-- Difference behind a rate over a window: over 100 rounds, or over 1,000 rounds. -/
def rateDiff (h : Hkp) (win : Nat) : Option Int :=
  let n := if win == 0 then 100 else 1000
  match h.history[n]? with
  | some old => some (h.history.headD 0 - old)
  | none => none
/-- The rate in 0.01 °C/s over a window, rounded down (log 8). -/
def rateOver (h : Hkp) (win : Nat) : Option Int := (rateDiff h win).map fun d => if win == 0 then d else d / 10
/-- A condition's next value at a publication, and whether a clearing is recorded (R191, R198). -/
def rorNext (h : Hkp) (t : Ror) (set : Bool) : Bool :=
  let scale : Int := if t.win == 0 then 1 else 10
  if t.rate == 0 then false
  else match rateDiff h t.win with
  | none => set
  | some d => if set then !decide (2 * d < (t.rate : Int) * scale) else decide ((t.rate : Int) * scale ≤ d)
/-- Judge one condition: code 2 WARN, 3 ACT, 4 TRIP. -/
def rorJudge (code : Nat) (t : Ror) (set : Bool) (s : State) : State :=
  let now := rorNext s.hkp t set
  let rate := unsigned 16 ((rateOver s.hkp t.win).getD 0)
  if now && !set then thermalEvent (logEvent 4 (0x8000 + code) (detail [(16, 1, t.win), (18, 2, rate)]) s)
  else if set && !now then logEvent 4 0x8005 (detail [(16, 1, code), (17, 1, t.win), (18, 2, rate)]) s
  else s
/-- Rate-of-rise evaluation of a publication (R190, R191, R198). -/
def rorStep (s : State) : State :=
  let h := { s.hkp with history := (s.hkp.gov :: s.hkp.history).take 1001 }
  let h := { h with r1 := rateOver h 0, r10 := rateOver h 1 }
  let s := { s with hkp := h }
  let w := rorNext h h.thrRound.warn h.warn; let a := rorNext h h.thrRound.act h.act; let t := rorNext h h.thrRound.trip h.trip
  let s := rorJudge 2 h.thrRound.warn h.warn s
  let s := rorJudge 3 h.thrRound.act h.act s
  let s := rorJudge 4 h.thrRound.trip h.trip s
  capRecord s.actSet { s with hkp := { s.hkp with warn := w, act := a, trip := t } }

/-- ACT sends a device in RUN to TRIM, unless it is between states (R193). -/
def actTrim (s : State) : State := whenS (s.actSet && s.pmc.st == .run && s.pmc.trans.isNone) (enterRunTrim .trim 6) s

/-- The state actions of a publication (R187, R188, R193, R194): shutdown first, then HOLD by TRIP or B4, then TRIM by ACT. -/
def thermalActions (s : State) : State :=
  let limit : Int := if s.gradeX then 11500 else 10500
  let n := if s.hkp.gov > limit then min 3 (s.hkp.shut + 1) else 0
  let fresh := s.hkp.shut < 3
  let s := { s with hkp := { s.hkp with shut := n } }
  if n == 3 && fresh then
    shelfNow 6 true (logEvent 4 0x8007 (detail [(16, 2, unsigned 16 s.hkp.gov), (18, 1, s.hkp.govZone)]) s)
  else
    let s := whenS (s.dataOn && (s.hkp.trip || (!s.gradeX && s.hkp.band == 4))) (callDown false 6 0 0 50) s
    actTrim s

/-- What MR4 says of a device above its high operating limit: DDR_OVERTEMP when it begins, and the cap of an ACT condition (R185). -/
def overtempStep (hot : Option (Nat × Nat × Nat)) (s : State) : State :=
  let was := s.hkp.overtemp
  let cap := s.actSet
  let s := { s with hkp := { s.hkp with overtemp := hot.isSome } }
  let s := whenS (!was) (ifSome hot fun h s => logEvent 31 0x8001 (detail [(16, 1, h.1), (17, 1, h.2.1), (18, 1, h.2.2)]) s) s
  capRecord cap s
/-- While a condition is set, HKP notifies the warden's thermal task at each publication (R192, R185, Table 19-3). -/
def conditionNotice (s : State) : State := whenS (s.hkp.warn || s.hkp.trip || s.actSet) thermalNotice s

/-- Publication at 6.4 ms (R175, R176). The operands are what MR4 of the DRAMs says (R185): a device above its high operating limit, and
which channels need the shorter interval. -/
def execHkPublication (hot : Option (Nat × Nat × Nat)) (short0 short1 : Bool) (s : State) : Out :=
  if !(s.hkp.conv == 32 && s.hkp.raw.length == 32 && s.live) then .next s
  else
    let raw := s.hkp.raw
    let bad := sensorCheck ((s.domain 3).st == .fenced) raw
    let fenced := bad == some 3
    let tz := if fenced then List.replicate 16 (-32768) else zoneTemps s.hkp.k raw
    let g := if fenced then (-32768, 0) else governing tz
    let s := { s with hkp := { s.hkp with round := s.hkp.started, chan := raw, raw := [], tz := tz, gov := g.1, govZone := g.2,
                                          mr4Short := [short0, short1] } }
    let s := routePost 1 (overtempStep hot s)
    match bad with
    | some c => .next (conditionNotice (actTrim (sensorFault c s)))
    | none =>
      match s.hkp.fault with
      | some c =>
        let n := s.hkp.okRounds + 1
        if n < 10 then .next (conditionNotice (actTrim { s with hkp := { s.hkp with okRounds := n } }))
        else .next (conditionNotice (thermalActions (bandStep
          (logEvent 4 0x8006 (detail [(17, 1, c)]) { s with hkp := { s.hkp with fault := none, okRounds := 0 } }))))
      | none => .next (conditionNotice (thermalActions (rorStep (bandStep s))))

/-- The applied trim moves 0.1 ppm toward the band's trim, but not in sensor fault (R167, R181). -/
def execTrimSlewStep (s : State) : Out :=
  let target := s.ckg.trims.getD s.ckg.trimBand 0
  let d := max (-10) (min 10 (target - s.ckg.trim))
  if s.live && s.hkp.fault.isNone then .next { s with ckg := { s.ckg with trim := s.ckg.trim + d } } else .next s
/-- Loss of the crystal or of the root PLL (R168-R170). -/
def execClockLoss (pll : Bool) (s : State) : Out :=
  let latch (s : State) : State := { s with aon := { s.aon with clkFail := some (b2n pll) } }
  if s.live || s.rst.active == some .w then
    let s := shelfNow 7 false s
    .next (latch { s with rst := { s.rst with active := none } })
  else if s.pmc.st == .boot && 6 ≤ s.pmc.upStep then .next (latch (abandonPowerUp s))
  else if (s.pmc.trans.map (·.phase)) == some .falling then .next (latch s)
  else .next s
/-- Loss of ETH_REFCLK (0) or of the PCIe reference (1) is registered (R172). -/
def execRefclkLost (which : Nat) (s : State) : Out :=
  let s := if which == 0 then { s with ckg := { s.ckg with ethRef := false } } else { s with ckg := { s.ckg with pcieRef := false } }
  .next (refclkLost which (logEvent 3 0x8002 (detail [(16, 1, which)]) s))
/-- The clock has run for 1 ms again (R172). -/
def execRefclkReturn (which : Nat) (s : State) : Out :=
  let s := if which == 0 then { s with ckg := { s.ckg with ethRef := true } } else { s with ckg := { s.ckg with pcieRef := true } }
  .next (refclkBack which (logEvent 3 0x8003 (detail [(16, 1, which)]) s))
/-- A DDR PHY PLL loses lock and relocks; accesses to the channel wait (R173). -/
def execDdrPllUnlock (ch : Nat) (s : State) : Out := .next { s with ckg := { s.ckg with relocking := nset ch s.ckg.relocking } }
/-- The end of the 1 ms: relocked, the accesses proceed; otherwise they complete with FAULT, DDR_PLL_UNLOCK is written and RPR fences the
channel (R173). -/
def execDdrPllRelockTimeout (ch : Nat) (relocked : Bool) (s : State) : Out :=
  if s.ckg.relocking.contains ch then
    let s := { s with ckg := { s.ckg with relocking := nclr ch s.ckg.relocking } }
    if relocked then .next s
    else .next (fenceChannel ch (logEvent 3 0x8004 (detail [(16, 1, ch)]) { s with ckg := { s.ckg with unlocked := nset ch s.ckg.unlocked } }))
  else .next s

/-- HKP_STATUS (R197, Table 05-5). -/
def execHkpStatus (s : State) : Out :=
  interpret 0x0110 (fun p => checked p 0 [] fun s =>
    let h := s.hkp
    let fenced := (s.domain 3).st == .fenced
    let flags := b2n h.warn + 2 * b2n h.act + 4 * b2n h.trip + 8 * b2n h.fault.isSome + 16 * b2n h.r1.isSome + 32 * b2n h.r10.isSome + 64 * b2n h.overtemp
    let head := layout 16 [(0, 2, h.chan.getD 0 0), (2, 2, unsigned 16 h.gov), (4, 1, if fenced then 3 else h.band), (5, 1, h.govZone),
      (6, 2, unsigned 16 (h.r1.getD 0)), (8, 2, unsigned 16 (h.r10.getD 0)), (10, 1, flags), (12, 4, h.round)]
    complete p stOk (head ++ (h.chan.map (putLe 2)).flatten ++ (h.tz.map fun t => putLe 2 (unsigned 16 t)).flatten) s) s
/-- HKP_THRESHOLDS_SET (R198, Table 05-5). -/
def execHkpThresholdsSet (s : State) : Out :=
  interpret 0x0111 (fun p =>
    checked p 16 (thresholdFields p.params) fun s =>
      ok p { s with hkp := { s.hkp with thr := thresholdsOf p.params } }) s
/-- CLK_STATUS (R197, Table 05-5). -/
def execClkStatus (s : State) : Out :=
  interpret 0x0112 (fun p => checked p 0 [] fun s =>
    let c := s.ckg
    let ddrLocked (ch : Nat) := s.isOn (88 + ch) && !c.relocking.contains ch && !c.unlocked.contains ch
    let flags := b2n c.pll + 2 * b2n c.xtal + 4 * b2n c.ethRef + 8 * b2n c.pcieRef + 16 * b2n (ddrLocked 0) + 32 * b2n (ddrLocked 1)
      + 64 * b2n s.aon.powered + 128 * b2n s.aon.clkFail.isSome
    complete p stOk (layout 16 [(0, 1, flags), (1, 1, c.trimBand), (2, 2, unsigned 16 c.trim), (4, 2, unsigned 16 (c.trims.getD c.trimBand 0)),
      (6, 2, s.hkp.chan.getD 30 0)]) s) s

end Sys2Proof.Machine
end

