-- ==== Sys2Proof/Machine/Device.lean ====
section
/-!
DEFINITION. Sys2Proof/Machine/Device.lean: the direct command window, the timers of the front end and result reads (ch 03).
-/
namespace Sys2Proof.Machine
open Sys2Proof

/-- The command transports run: BOOT_DONE in RUN, TRIM or HOLD with no reset in progress (R951, R132). -/
def State.transportsRun (s : State) : Bool := s.live && s.bootDone && s.unreset

/-- DCW_GO (R105, R106): a write while BUSY, or of a size outside 16-4,084, sets OVERRUN and nothing else; otherwise the packet is
copied from the request area and checked. -/
def execDcwGo (size : Nat) (s : State) : Out :=
  if !s.transportsRun then .next s
  else if s.cmd.dcwBusy || decide (size < 16) || decide (4084 < size) then .next { s with cmd := { s.cmd with dcwOverrun := true } }
  else
    let bs := s.cmd.dcwReq.readN 0 size
    .next (frontEnd ⟨2, 0xFFF, 0⟩ 0 .dcw bs { s with cmd := { s.cmd with dcwBusy := true } })

/-- End of a source's throttle (R88, R89): its history clears and CMD writes THROTTLE_END with the packets refused. -/
def execThrottleEnd (cls ident sub : Nat) (s : State) : Out :=
  let k : SrcKey := ⟨cls, ident, sub⟩
  let x := getSource k s
  match x.throttle with
  | none => .next s
  | some n => .next (logEvent 20 0x8002 (cmdDetail k 0 0 0 0 0xFFFF n) (setSource { x with throttle := none, violations := [] } s))

/-- 1 s without the next packet of a chain (R83): the chain is discarded with one record and, where R83 says, an ABORTED reply. -/
def execChainTimeout (cls ident sub : Nat) (s : State) : Out :=
  let k : SrcKey := ⟨cls, ident, sub⟩
  match (getSource k s).chain with
  | none => .next s
  | some c =>
    let s := dropChain k s
    let reply := buildReply s cls c.opcode c.tag c.lastSeq stAborted (errParams 0xFFFF 0)
    let free := outstanding s cls none == 0
    match cls with
    | 4 | 5 => .next (deliver c.path reply s)
    | 2 => .next (if free then postWindow 2 reply s else s)
    | 3 => .next (if free then postWindow 3 reply s else s)
    | _ => .next s

/-- A command's bound runs out before its target finishes: it completes with TIMEOUT (R100, R101). -/
def execCommandTimeout (opcode : Nat) (s : State) : Out :=
  match s.cmd.waits.find? fun w => w.pkt.opcode == opcode with
  | none => .next s
  | some w => .next (fail w.pkt stTimeout 0xFFFF 0 { s with cmd := { s.cmd with waits := s.cmd.waits.erase w } })

/-- DEV_ECHO (Table 03-11): the request's parameters, unchanged. -/
def execDevEcho (s : State) : Out := interpret 0x0104 (fun p s => complete p stOk p.params s) s

/-- DEV_RESET (R112, Table 03-11): the reply is sent and a W with cause 0x04 is pending its delivery. -/
def execDevReset (s : State) : Out :=
  interpret 0x0102 (fun p => checked p 4 [(0, u8 p.params 0 == 2), (1, u8 p.params 1 == 0xA5)] fun s =>
    ok p { s with rst := { s.rst with wPending := some 4 } }) s

/-- LOG_READ (Table 03-11): OK_NOTE when START_SEQ is older than the oldest record held, N = 0 when it is newer than the newest. -/
def execLogRead (s : State) : Out :=
  interpret 0x0103 (fun p => checked p 8 [(4, inR (u16 p.params 4) 1 126)] fun s =>
    let recs := s.log.records
    let oldest := (recs.head?.map (·.seq)).getD s.log.nextSeq
    let start := BitVec.ofNat 32 (u32 p.params 0)
    let fromOldest := (u16 p.params 6).testBit 0
    -- the distance of a SEQ from the oldest record held, in the 32-bit circle
    let pos := (start - oldest).toNat
    let held := recs.length
    let older := !fromOldest && decide (start.toNat < oldest.toNat)
    let skip := if fromOldest || older then 0 else min pos held
    let taken := (recs.drop skip).take (u16 p.params 4)
    let first := (taken.head?.map (·.seq)).getD s.log.nextSeq
    complete p (if older then stNote else stOk)
      (putLe 4 first.toNat ++ putLe 2 taken.length ++ putLe 2 0 ++ (taken.map LogRecord.bytes).flatten) s) s

end Sys2Proof.Machine
end

