-- ==== Sys2Proof/Machine/FenOps.lean ====
section
/-!
DEFINITION. Sys2Proof/Machine/FenOps.lean: decoding, execution and issue of Fenuith-16 instructions (ch 18).
-/
namespace Sys2Proof.Machine
open Sys2Proof

/-- The instructions of Table 18-3; the six branches are one operation with the condition of Table 18-2. -/
inductive FenOp where
  | add | sub | and | or | xor | slt | sltu | mul | mulhu | shli | shri | sari
  | branch (cond : Nat)
  | not | neg | jr | callr | ret | push | pop | yield | wait | exit | trap
  | addi | andi | ori | xori | slti | sltiu | ld | st | ldp | xld | xst | rdl | wrl | jmp | call
  deriving DecidableEq, Repr
/-- A decoded instruction: operation, D, A, B (or N), second word. -/
structure FenIns where
  /-- Operation. -/
  op : FenOp
  /-- D; TRAP's N. -/
  d : Nat := 0
  /-- A. -/
  a : Nat := 0
  /-- B or N. -/
  b : Nat := 0
  /-- IMM, TARGET or NUM. -/
  imm : Nat := 0
  deriving DecidableEq, Repr
/-- A word that starts an instruction of two words (Table 18-1). -/
def fenTwo (w : Nat) : Bool := w / 4096 == 14 || w / 4096 == 12 || w / 4096 == 15
/-- Format Z (Table 18-3). -/
def fenZ (w : Nat) : Option FenIns :=
  let d := bitsOf w 11 8; let a := bitsOf w 7 4
  match w % 16 with
  | 1 => some { op := .not, d := d, a := a }
  | 2 => some { op := .neg, d := d, a := a }
  | 3 => if d = 0 then some { op := .jr, a := a } else none
  | 4 => if d = 0 then some { op := .callr, a := a } else none
  | 5 => if d = 0 && a = 0 then some { op := .ret } else none
  | 6 => if d = 0 then some { op := .push, a := a } else none
  | 7 => if a = 0 then some { op := .pop, d := d } else none
  | 8 => if d = 0 && a = 0 then some { op := .yield } else none
  | 9 => if d = 0 then some { op := .wait, a := a } else none
  | 10 => if d = 0 && a = 0 then some { op := .exit } else none
  | 11 => if a = 0 then some { op := .trap, d := d } else none
  | _ => none
/-- Format E (Table 18-3). -/
def fenE (w imm : Nat) : Option FenIns :=
  let i (op : FenOp) : Option FenIns := some { op := op, d := bitsOf w 11 8, a := bitsOf w 7 4, imm := imm }
  match w % 16 with
  | 1 => i .addi
  | 2 => i .andi
  | 3 => i .ori
  | 4 => i .xori
  | 5 => i .slti
  | 6 => i .sltiu
  | 7 => i .ld
  | 8 => i .st
  | 9 => i .ldp
  | 10 => i .xld
  | 11 => i .xst
  | 12 => if bitsOf w 7 4 = 0 then i .rdl else none
  | 13 => if bitsOf w 11 8 = 0 then i .wrl else none
  | _ => none
/-- Decode an instruction; none where it raises ILLEGAL by its encoding (R691). -/
def fenDecode (w imm : Nat) : Option FenIns :=
  let i (op : FenOp) : Option FenIns := some { op := op, d := bitsOf w 11 8, a := bitsOf w 7 4, b := w % 16 }
  match w / 4096 with
  | 0 => fenZ w
  | 1 => i .add
  | 2 => i .sub
  | 3 => i .and
  | 4 => i .or
  | 5 => i .xor
  | 6 => i .slt
  | 7 => i .sltu
  | 8 => i .mul
  | 9 => i .mulhu
  | 10 => i .shli
  | 11 => i .shri
  | 12 => if bitsOf w 11 8 ≤ 5 then some { op := .branch (bitsOf w 11 8), a := bitsOf w 7 4, b := w % 16, imm := imm } else none
  | 13 => i .sari
  | 14 => fenE w imm
  | 15 => if w = 0xF000 then some { op := .jmp, imm := imm } else if w = 0xF100 then some { op := .call, imm := imm } else none
  | _ => none

/-- A branch condition (Table 18-2). -/
def fenCond (cond x y : Nat) : Bool :=
  match cond with
  | 0 => x == y
  | 1 => x != y
  | 2 => decide (signed 16 x < signed 16 y)
  | 3 => decide (signed 16 y ≤ signed 16 x)
  | 4 => decide (x < y)
  | _ => decide (y ≤ x)
/-- The results of the register and immediate instructions: x is w_A, y is w_B, N or IMM (Table 18-3, modulo 2^16). -/
def fenAlu (op : FenOp) (x y : Nat) : Option Nat :=
  match op with
  | .add | .addi => some (x + y)
  | .sub => some (x + 65536 - y)
  | .and | .andi => some (x &&& y)
  | .or | .ori => some (x ||| y)
  | .xor | .xori => some (x ^^^ y)
  | .slt | .slti => some (b2n (decide (signed 16 x < signed 16 y)))
  | .sltu | .sltiu => some (b2n (decide (x < y)))
  | .mul => some (x * y)
  | .mulhu => some (x * y / 65536)
  | .shli => some (x * 2 ^ y)
  | .shri => some (x / 2 ^ y)
  | .sari => some (unsigned 16 (signed 16 x / (2 ^ y : Nat)))
  | .not => some (65535 - x)
  | .neg => some (65536 - x)
  | _ => none
/-- The operation takes its second operand from the second word. -/
def fenWide (op : FenOp) : Bool := op == .addi || op == .andi || op == .ori || op == .xori || op == .slti || op == .sltiu
/-- The operation takes its second operand from a register. -/
def fenReg (op : FenOp) : Bool := !(fenWide op || op == .shli || op == .shri || op == .sari)

/-- What an instruction does. -/
inductive FenEff where
  /-- The task and the core after it; the cycles it took. -/
  | go (t : WdTask) (c : WdCore) (cycles : Nat)
  /-- An exception: cause and information. -/
  | trap (cause info : Nat)
  /-- A device access. -/
  | access (a : WdAccess)
  /-- YIELD. -/
  | yield
  /-- WAIT with its register. -/
  | wait (a : Nat)
  /-- EXIT. -/
  | exit
  deriving DecidableEq, Repr

/-- A push (R671-R676): the task and the core after it, or RSTACK with its information. -/
def fenPush (v : Nat) (t : WdTask) (c : WdCore) : Except Nat (WdTask × WdCore) :=
  if t.sm then
    let sp := t.reg 15
    if t.ovf && decide (sp ≤ t.slim) then .error 3
    else
      let q := (sp + 65535) % 65536
      .ok (t.setReg 15 q, { c with data := tput 0 c.data q v, dataBad := nclr q c.dataBad })
  else if t.ovf && t.rsc = 16 then .error 1
  else .ok ({ t with stack := tput 0 t.stack t.rsp v, rsp := (t.rsp + 1) % 16, rsc := min (t.rsc + 1) 16 }, c)
/-- A pop (R671-R676): the value and the task after it; cause and information otherwise. -/
def fenPop (t : WdTask) (c : WdCore) : Except (Nat × Nat) (Nat × WdTask) :=
  if t.sm then
    let sp := t.reg 15
    if c.dataBad.contains sp then .error (5, sp) else .ok (tget 0 c.data sp, t.setReg 15 ((sp + 1) % 65536))
  else if t.ovf && t.rsc = 0 then .error (2, 2)
  else
    let p := (t.rsp + 15) % 16
    .ok (tget 0 t.stack p, { t with rsp := p, rsc := t.rsc - 1 })

/-- A warden-local register (Table 18-5): its value and the core after the read. now is the WDCLK cycle count. -/
def fenLocal (core task n now : Nat) (t : WdTask) (c : WdCore) : Option (Nat × WdCore) :=
  if inR n 0x20 0x2F then some (tget 0 c.win (n - 0x20), c)
  else match n with
  | 0x000 => some (core, c)
  | 0x001 => some (task, c)
  | 0x002 => some (now % 65536, { c with cycleH := now / 65536 % 65536 })
  | 0x003 => some (c.cycleH, c)
  | 0x010 => some (b2n t.sm + 2 * b2n t.ovf, c)
  | 0x011 => some (t.slim, c)
  | 0x012 => some (t.rsp + t.rsc * 16, c)
  | 0x018 => some (c.xcause + c.xtask * 256, c)
  | 0x019 => some (c.xpc, c)
  | 0x01A => some (c.xinfo, c)
  | _ => none

/-- The effect of an instruction (Table 18-3). w is its first word, next the address after it. -/
def fenEffect (i : FenIns) (core task w next now : Nat) (t : WdTask) (c : WdCore) : FenEff :=
  let x := t.reg i.a
  let mem := (x + i.imm) % 65536
  let goOn (pc : Nat) (t : WdTask) (c : WdCore) (n : Nat) : FenEff := .go { t with pc := pc } c n
  let call (target n : Nat) : FenEff := match fenPush next t c with
    | .ok (t, c) => goOn target t c (n + b2n t.sm)
    | .error info => .trap 2 info
  match i.op with
  | .branch cond => if fenCond cond x (t.reg i.b) then goOn i.imm t c 3 else goOn next t c 2
  | .jr => goOn x t c 2
  | .callr => call x 2
  | .call => call i.imm 3
  | .jmp => goOn i.imm t c 3
  | .ret => match fenPop t c with
    | .ok (v, t) => goOn v t c (2 + b2n t.sm)
    | .error (cause, info) => .trap cause info
  | .push => if !t.sm then .trap 1 w else match fenPush x t c with
    | .ok (t, c) => goOn next t c 2
    | .error info => .trap 2 info
  | .pop => if !t.sm then .trap 1 w else match fenPop t c with
    | .ok (v, t) => goOn next (t.setReg i.d v) c 2
    | .error (cause, info) => .trap cause info
  | .yield => .yield
  | .wait => .wait i.a
  | .exit => .exit
  | .trap => .trap 6 i.d
  | .ld => if c.dataBad.contains mem then .trap 5 mem else goOn next (t.setReg i.d (tget 0 c.data mem)) c 3
  | .st => goOn next t { c with data := tput 0 c.data mem (t.reg i.d), dataBad := nclr mem c.dataBad } 2
  | .ldp => if c.codeBad.contains mem then .trap 4 mem else goOn next (t.setReg i.d (tget 0 c.code mem)) c 3
  | .xld | .xst =>
    let n := i.imm / 8192
    if i.d % 2 = 1 then .trap 1 w
    else .access ⟨task, tget 0 c.win (2 * n) * 2 ^ 16 + tget 0 c.win (2 * n + 1) * 2 ^ 32 + 4 * ((x + i.imm % 8192) % 65536), i.op == .xst, i.d,
      t.reg i.d + t.reg (i.d + 1) * 65536⟩
  | .rdl => match fenLocal core task i.imm now t c with
    | some (v, c) => goOn next (t.setReg i.d v) c 2
    | none => .trap 1 w
  | .wrl =>
    if i.imm = 0x011 then goOn next { t with slim := x } c 2
    else if inR i.imm 0x20 0x2F then goOn next t { c with win := tput 0 c.win (i.imm - 0x20) x } 2
    else .trap 1 w
  | op =>
    let y := if fenWide op then i.imm else if fenReg op then t.reg i.b else i.b
    goOn next (t.setReg i.d ((fenAlu op x y).getD 0)) c (if fenWide op then 2 else 1)

/-- The cycle count of a core (R685): cycles of its instructions and of the time that passed (log 61). -/
def State.wdCycles (s : State) (c : Nat) : Nat := (s.core c).cyc + 400 * s.log.tick.toNat
/-- The core issues: cycles pass, and the role is at a boundary. -/
def fenDone (c r n : Nat) (s : State) : State :=
  sched r (modRole r (fun x => { x with ran := if x.running.isSome then x.ran + n else x.ran }) (modCore c (fun k => { k with cyc := k.cyc + n }) s))
/-- WAIT A (R701). -/
def fenWait (c r t a next : Nat) (s : State) : State :=
  let k := s.task r t
  let mask := k.reg a
  let hits := k.pending &&& mask
  let s := modTask r t (fun k => { k with pc := next }) s
  if mask = 0 then fenDone c r 1 (modRole r (fun x => x.ready t false) s)
  else if hits != 0 then fenDone c r 1 (modTask r t (fun k => { k.setReg a hits with pending := k.pending - hits }) s)
  else fenDone c r 1 (modRole r (fun x => { x with running := none }) (modTask r t (fun k => { k with st := 3, mask := mask, wreg := a }) s))

/-- The task that issues next on core c, with its role: the core is ON, its role is not frozen, no access is in progress. -/
def State.issuer (s : State) (c : Nat) : Option (Nat × Nat) :=
  match s.roleOn c with
  | none => none
  | some r =>
    let x := s.role r
    if !s.isOn (15 + c) || x.move.any (·.frozen) || (s.core c).access.isSome then none else x.running.map fun t => (r, t)
/-- What stands at the PC of a task: MEMERR_CODE with its address, ILLEGAL with the word, or an instruction with its first word and
its length (R662, R688). -/
def fenFetch (k : WdCore) (pc : Nat) : Except (Nat × Nat) (FenIns × Nat × Nat) :=
  let w := tget 0 k.code pc
  let pc2 := (pc + 1) % 65536
  if k.codeBad.contains pc then .error (4, pc)
  else if fenTwo w && k.codeBad.contains pc2 then .error (4, pc2)
  else match fenDecode w (if fenTwo w then tget 0 k.code pc2 else 0) with
  | none => .error (1, w)
  | some i => .ok (i, w, if fenTwo w then 2 else 1)
/-- Core c issues its next instruction when that is one of operation op. A word that is no instruction, or that cannot be read, raises its
exception whichever row asks (log 62). -/
def issueFen (op : FenOp) (c : Nat) (s : State) : State :=
  match s.issuer c with
  | none => s
  | some (r, t) =>
    let k := s.task r t; let core := s.core c
    match fenFetch core k.pc with
    | .error (cause, info) => exception c r t cause info s
    | .ok (i, w, len) =>
      if i.op != op then s
      else
        let next := (k.pc + len) % 65536
        match fenEffect i c t w next (s.wdCycles c) k core with
        | .go k' core' n => fenDone c r n (modTask r t (fun _ => k') (modCore c (fun _ => core') s))
        | .trap cause info => exception c r t cause info s
        | .access a => emit (.deviceAccess c a.addr a.write (if a.write then a.value else 0)) (modCore c (fun x => { x with access := some a }) s)
        | .yield => fenDone c r 1 (modRole r (fun x => x.ready t false) (modTask r t (fun k => { k with pc := next }) s))
        | .wait a => fenWait c r t a next s
        | .exit => fenDone c r 1 (park r t stOk (modTask r t (fun k => { k with pc := next }) s))
/-- A device access ends (R680-R682): the data of an XLD, or a status that raises DEVICE. -/
def endAccess (c : Nat) (res : Except Nat Nat) (s : State) : State :=
  match (s.core c).access, s.roleOn c with
  | some a, some r =>
    let k := s.task r a.task
    let s := modCore c (fun x => { x with access := none }) s
    match res with
    | .error st => exception c r a.task 3 st s
    | .ok v =>
      let s := modTask r a.task (fun k =>
        let k := if a.write then k else (k.setReg a.d (v % 65536)).setReg (a.d + 1) (v / 65536)
        { k with pc := (k.pc + 2) % 65536 }) s
      if k.cancel.isSome then fenDone c r 2 (park r a.task stCancelled s) else fenDone c r 2 s
  | some _, none => modCore c (fun x => { x with access := none }) s
  | _, _ => s

end Sys2Proof.Machine
end

