-- ==== Sys2Proof/Machine/Fenuith.lean ====
section
/-!
DEFINITION. Sys2Proof/Machine/Fenuith.lean: the instructions of the warden cores (Table 18-3). Each row makes core `core` issue its next
instruction when that is the row's.
-/
namespace Sys2Proof.Machine
open Sys2Proof
/-- ADD (R661). -/
def execFenAdd (core : Nat) (s : State) : Out := .next (issueFen .add core s)
/-- SUB (R661). -/
def execFenSub (core : Nat) (s : State) : Out := .next (issueFen .sub core s)
/-- AND (R661). -/
def execFenAnd (core : Nat) (s : State) : Out := .next (issueFen .and core s)
/-- OR (R661). -/
def execFenOr (core : Nat) (s : State) : Out := .next (issueFen .or core s)
/-- XOR (R661). -/
def execFenXor (core : Nat) (s : State) : Out := .next (issueFen .xor core s)
/-- SLT (R661). -/
def execFenSlt (core : Nat) (s : State) : Out := .next (issueFen .slt core s)
/-- SLTU (R661). -/
def execFenSltu (core : Nat) (s : State) : Out := .next (issueFen .sltu core s)
/-- MUL (R661). -/
def execFenMul (core : Nat) (s : State) : Out := .next (issueFen .mul core s)
/-- MULHU (R661). -/
def execFenMulhu (core : Nat) (s : State) : Out := .next (issueFen .mulhu core s)
/-- SHLI (R661). -/
def execFenShli (core : Nat) (s : State) : Out := .next (issueFen .shli core s)
/-- SHRI (R661). -/
def execFenShri (core : Nat) (s : State) : Out := .next (issueFen .shri core s)
/-- SARI (R661). -/
def execFenSari (core : Nat) (s : State) : Out := .next (issueFen .sari core s)
/-- BEQ (R691). -/
def execFenBeq (core : Nat) (s : State) : Out := .next (issueFen (.branch 0) core s)
/-- BNE (R691). -/
def execFenBne (core : Nat) (s : State) : Out := .next (issueFen (.branch 1) core s)
/-- BLT (R691). -/
def execFenBlt (core : Nat) (s : State) : Out := .next (issueFen (.branch 2) core s)
/-- BGE (R691). -/
def execFenBge (core : Nat) (s : State) : Out := .next (issueFen (.branch 3) core s)
/-- BLTU (R691). -/
def execFenBltu (core : Nat) (s : State) : Out := .next (issueFen (.branch 4) core s)
/-- BGEU (R691). -/
def execFenBgeu (core : Nat) (s : State) : Out := .next (issueFen (.branch 5) core s)
/-- NOT (R661). -/
def execFenNot (core : Nat) (s : State) : Out := .next (issueFen .not core s)
/-- NEG (R661). -/
def execFenNeg (core : Nat) (s : State) : Out := .next (issueFen .neg core s)
/-- JR (R662). -/
def execFenJr (core : Nat) (s : State) : Out := .next (issueFen .jr core s)
/-- CALLR (R671). -/
def execFenCallr (core : Nat) (s : State) : Out := .next (issueFen .callr core s)
/-- RET (R671). -/
def execFenRet (core : Nat) (s : State) : Out := .next (issueFen .ret core s)
/-- PUSH (R675). -/
def execFenPush (core : Nat) (s : State) : Out := .next (issueFen .push core s)
/-- POP (R675). -/
def execFenPop (core : Nat) (s : State) : Out := .next (issueFen .pop core s)
/-- YIELD (R700). -/
def execFenYield (core : Nat) (s : State) : Out := .next (issueFen .yield core s)
/-- WAIT (R701). -/
def execFenWait (core : Nat) (s : State) : Out := .next (issueFen .wait core s)
/-- EXIT (R700). -/
def execFenExit (core : Nat) (s : State) : Out := .next (issueFen .exit core s)
/-- TRAP (R692). -/
def execFenTrap (core : Nat) (s : State) : Out := .next (issueFen .trap core s)
/-- ADDI (R661). -/
def execFenAddi (core : Nat) (s : State) : Out := .next (issueFen .addi core s)
/-- ANDI (R661). -/
def execFenAndi (core : Nat) (s : State) : Out := .next (issueFen .andi core s)
/-- ORI (R661). -/
def execFenOri (core : Nat) (s : State) : Out := .next (issueFen .ori core s)
/-- XORI (R661). -/
def execFenXori (core : Nat) (s : State) : Out := .next (issueFen .xori core s)
/-- SLTI (R661). -/
def execFenSlti (core : Nat) (s : State) : Out := .next (issueFen .slti core s)
/-- SLTIU (R661). -/
def execFenSltiu (core : Nat) (s : State) : Out := .next (issueFen .sltiu core s)
/-- LD (R667). -/
def execFenLd (core : Nat) (s : State) : Out := .next (issueFen .ld core s)
/-- ST (R667). -/
def execFenSt (core : Nat) (s : State) : Out := .next (issueFen .st core s)
/-- LDP (R666). -/
def execFenLdp (core : Nat) (s : State) : Out := .next (issueFen .ldp core s)
/-- XLD (R678). -/
def execFenXld (core : Nat) (s : State) : Out := .next (issueFen .xld core s)
/-- XST (R678). -/
def execFenXst (core : Nat) (s : State) : Out := .next (issueFen .xst core s)
/-- RDL (R684). -/
def execFenRdl (core : Nat) (s : State) : Out := .next (issueFen .rdl core s)
/-- WRL (R684). -/
def execFenWrl (core : Nat) (s : State) : Out := .next (issueFen .wrl core s)
/-- JMP (R662). -/
def execFenJmp (core : Nat) (s : State) : Out := .next (issueFen .jmp core s)
/-- CALL (R671). -/
def execFenCall (core : Nat) (s : State) : Out := .next (issueFen .call core s)

end Sys2Proof.Machine
end

