-- ==== Sys2Proof/Machine/Sio.lean ====
section
/-!
DEFINITION. Sys2Proof/Machine/Sio.lean: signal inputs and outputs, pours and result slots (ch 17).
-/
namespace Sys2Proof.Machine
open Sys2Proof

/-- TDM_FRAME_COMPLETE (R630, R631): the slots of an input's frame, each the WIDTH bits that were sampled. -/
def execTdmFrameComplete (i : Nat) (words : List Nat) (s : State) : Out :=
  let t := s.tdm i
  if 1 < i || !t.on || !s.isOn 29 then .next s
  else
    let frame := (List.range t.slots).foldl (fun f k => tput 0 f k (words.getD k 0 % 2 ^ t.width * 2 ^ (32 - t.width))) []
    .next (modSio (fun x => { x with tdmIn := tmod {} x.tdmIn i fun t => { t with frame := frame } }) s)
/-- ADC_CONVERSION (R634): a 16-bit code; at most A_c conversions count in a tick. -/
def execAdcConversion (c code : Nat) (s : State) : Out :=
  let x := s.adcCh c
  if 7 < c || !x.on || !s.isOn 27 || decide (min x.avg (adcMax s.sge.rate) ≤ x.count) then .next s
  else .next (modSio (fun y => { y with adc := tmod {} y.adc c fun x => { x with sum := x.sum + code % 65536, count := x.count + 1 } }) s)
/-- CAPTURE_EDGE (R636, R637): a qualified edge, first seen `at_` cycles after the last boundary. -/
def execCaptureEdge (c : Nat) (rising : Bool) (at_ : Nat) (s : State) : Out :=
  let x := s.cap c
  let t := s.sge.cyc + at_
  if 7 < c || x.mode = 0 || !s.isOn 28 then .next s
  else
    let y := if rising != x.falling then
        { x with last := some t, period := x.last.map (fun l => t - l), open_ := true, count := x.count + 1 }
      else { x with high := if x.open_ then t - x.last.getD t else x.high, open_ := false }
    .next (modSio (fun z => { z with capture := tput {} z.capture c y }) s)
/-- What a PWM pin carries (R638, R640, R641). -/
inductive PwmPin where
  /-- Low. -/
  | low
  /-- High. -/
  | high
  /-- High-impedance. -/
  | hiZ
  /-- A carrier: cycles of the period before the active part, and active cycles (the whole period inactive: 0 active); levels exchanged. -/
  | carrier (start on : Nat) (invert : Bool)
  deriving DecidableEq, Repr
/-- The pin of output k (R638, R640, R641). -/
def State.pwmPin (s : State) (k : Nat) : PwmPin :=
  let x := s.pwmOut k
  if !s.isOn 28 then .hiZ
  else if !x.set || x.mode = 0 || !s.sge.running then (match x.safe with
    | 0 => .low
    | 1 => .high
    | _ => .hiZ)
  else match x.on with
  | none => .carrier 0 0 x.invert
  | some n => .carrier (if x.mode = 2 then (x.div - n) / 2 else 0) n x.invert
/-- PWM_PERIOD_START (R638, R639): the period that starts takes the word published last. -/
def execPwmPeriodStart (k : Nat) (s : State) : Out :=
  let x := s.pwmOut k
  if 15 < k || !x.set || x.mode = 0 || !s.sge.running || !s.isOn 28 then .next s
  else
    let d := (signed 32 x.word).toNat
    .next (modSio (fun y => { y with pwm := tmod {} y.pwm k fun x => { x with on := some (d * x.div / 2 ^ 31) } }) s)

/-! ### Pours -/

/-- Fields of a configuration record at an offset of the parameters (Table 17-2). -/
def configFields (b : Bytes) (o : Nat) : List (Nat × Bool) :=
  let u := u8 b o
  let width (i : Nat) : Nat × Bool := (o + i, u8 b (o + i) == 16 || u8 b (o + i) == 24 || u8 b (o + i) == 32)
  if u ≤ 1 then [(o + 1, decide (u8 b (o + 1) ≤ 1)), (o + 2, inR (u8 b (o + 2)) 1 16), width 3]
  else if u = 2 then [(o + 1, decide (u8 b (o + 1) ≤ 3)), (o + 2, inR (u8 b (o + 2)) 1 8), width 3]
  else if inR u 0x10 0x17 then [(o + 1, decide (u8 b (o + 1) ≤ 1)), (o + 2, inR (u8 b (o + 2)) 1 16)]
  else if inR u 0x20 0x27 then [(o + 1, decide (u8 b (o + 1) ≤ 3)), (o + 2, decide (u8 b (o + 2) ≤ 1))]
  else if inR u 0x30 0x3F then [(o + 1, decide (u8 b (o + 1) ≤ 2)), (o + 2, decide (u8 b (o + 2) ≤ 2)), (o + 4, decide (960 ≤ u16 b (o + 4))), (o + 6, decide (u16 b (o + 6) < u16 b (o + 4)))]
  else [(o, false)]
/-- SGE_POUR_STAGE once no copy runs (R643, R652, R658). -/
def stageCommand (p : Packet) (s : State) : State :=
  let b := p.params
  let target := u8 b 0; let n := u16 b 2
  let size := if target == 1 then 8 else 16
  let parts := p.parts
  let straddles := (parts.headD 0 < 4) || (parts.headD 0 - 4) % size != 0 || (parts.drop 1).any fun l => l % size != 0
  let coef := ((List.range n).map fun i => [(4 + 8 * i, decide (u16 b (4 + 8 * i) < 4096)), (6 + 8 * i, u16 b (6 + 8 * i) != 0)]).flatten
  let conf := ((List.range n).map fun i => configFields b (4 + 16 * i)).flatten
  let fields : List (Nat × Bool) := [(0, target == 1 || target == 2), (2, inR n 1 (if target == 1 then 4096 else 35))]
  if b.length < 4 then fail p stBadLength 0xFFFF 0 s
  else match fields.find? fun f => !f.2 with
  | some f => badParam p f.1 s
  | none =>
    if straddles || b.length != 4 + size * n then fail p stBadLength 0xFFFF 0 s
    else match ((if target == 1 then coef else conf).find? fun f => !f.2) with
    | some f => badParam p (packetOf 0 parts f.1).2 s
    | none =>
      let l := (List.range n).map fun i => (u16 b (4 + 8 * i), u16 b (6 + 8 * i), u32 b (8 + 8 * i))
      if target == 1 then
        if 256 < rampedAfter s.sio l then fail p stNoResource 0xFFFF 0 s
        else complete p stOk (putLe 4 s.sio.gen.toNat) (modSio (stageCoefs l) s)
      else
        let recs := (List.range n).map fun i => slice b (4 + 16 * i) 16
        complete p stOk (putLe 4 s.sio.gen.toNat) (modSio (fun x => { x with configs := recs.foldl (fun c r => tins (u8 r 0) r c) x.configs }) s)
/-- SGE_POUR_COMMIT once no copy runs (R644, R647). The boundary that a commit with nothing staged answers is not stated (log 99). -/
def commitCommand (p : Packet) (s : State) : State :=
  let b := p.params
  checked p 8 [(4, inR (u8 b 4) 1 2)] (fun s =>
    if u8 b 4 == 2 then let s := modSio discardPour s; complete p stOk (putLe 4 s.sio.gen.toNat ++ zeros 4) s
    else match commitFault s.sio (u32 b 0) with
    | some (st, off, info) =>
      if st == stNote then
        let (b, s) := freeNat (2 ^ 32) s
        complete p stNote (putLe 4 s.sio.gen.toNat ++ putLe 4 b) s
      else fail p st off info s
    | none => waitFor p .pour (modSio (fun x => { x with pour := some (.waiting 0) }) s)) s
/-- A pour command runs, or waits until a warden's commit has ended (R646). -/
def pourCommand (p : Packet) (f : Packet → State → State) (s : State) : State := if s.sio.pour.isSome then waitFor p (.other 0x910) s else f p s
/-- SGE_POUR_STAGE (R643, R658). -/
def execSgePourStage (s : State) : Out := interpret 0x0910 (fun p s => pourCommand p stageCommand s) s
/-- SGE_POUR_COMMIT (R644-R647). -/
def execSgePourCommit (s : State) : Out := interpret 0x0911 (fun p s => pourCommand p commitCommand s) s
/-- Pour commands that waited for a copy run. -/
def latePours (s : State) : State :=
  let late := s.cmd.waits.filter fun w => w.kind == .other 0x910
  let s := { s with cmd := { s.cmd with waits := s.cmd.waits.filter fun w => w.kind != .other 0x910 } }
  forEach late (fun w s => if w.pkt.opcode == 0x0910 then stageCommand w.pkt s else commitCommand w.pkt s) s
/-- POUR_COPY_DONE (R646): the new shadow holds the pour's coefficients, the commit replies, and what waited goes on. -/
def execPourCopyDone (s : State) : Out :=
  match s.sio.pour with
  | some (.copying who b) =>
    let s := modSio (fun x => { (x.modShadow fun t => x.copy.foldl (fun t r => tput 0 t r.1 r.2) t) with copy := [], pour := none }) s
    let s := if who = 0 then finishWaits (· == .pour) stOk (fun _ => putLe 4 s.sio.gen.toNat ++ putLe 4 b.toNat) s else modSio (fun x => { x with resStatus := stOk, resDone := true }) s
    let s := match s.sio.late with
      | some y => wardenPour y (modSio (fun x => { x with late := none }) s)
      | none => s
    .next (lateLegs (latePours s))
  | _ => .next s
/-- SIO_POUR_VALUE (R657): a warden core writes VALUE. -/
def execSioPourValue (core value : Nat) (s : State) : Out := .next (pourWrite ⟨0, core, s.sio.entry, s.sio.ramp, value % 2 ^ 32⟩ s)
/-- POUR_COMMIT: a warden core writes OP 1 to SIO_POUR_CTL. -/
def execPourCommit (core : Nat) (s : State) : Out := .next (pourWrite ⟨1, core, 0, 0, 0⟩ s)
/-- POUR_DISCARD: a warden core writes OP 2 to SIO_POUR_CTL. -/
def execPourDiscard (core : Nat) (s : State) : Out := .next (pourWrite ⟨2, core, 0, 0, 0⟩ s)

/-! ### Result slots (R653-R656) -/

/-- Header and words of a slot, 40 bytes. -/
def slotBytes (w : ResultWindow) (reader : Nat) : Bytes := putLe 8 (windowHeader w reader) ++ (w.body ++ zeros 32).take 32
/-- A counting read of a slot. -/
def countSlot (k reader : Nat) (s : State) : Bytes × State :=
  let w := s.slot k
  (slotBytes w reader, modSio (fun x => { x with slots := tput {} x.slots k (countRead w reader).2 }) s)
/-- Counting reads of n slots from k on. -/
def countSlots : Nat → Nat → Nat → State → Bytes × State
  | 0, _, _, s => ([], s)
  | n + 1, k, reader, s =>
    let (b, s) := countSlot k reader s
    let (c, s) := countSlots n (k + 1) reader s
    (b ++ c, s)
/-- SGE_SLOT_READ (R655): a counting read by the service-port reader on S. -/
def execSgeSlotRead (s : State) : Out :=
  interpret 0x0912 (fun p s =>
    let b := p.params
    let first := u8 b 0; let n := u8 b 1
    checked p 4 [(0, decide (first < 64)), (1, inR n 1 64 && decide (first + n ≤ 64))] (fun s =>
      if p.cls == 3 then let (r, s) := countSlots n first 1 s; complete p stOk r s
      else complete p stOk ((List.range n).map fun i => slotBytes { s.slot (first + i) with seen := [] } 0).flatten s) s) s


end Sys2Proof.Machine
end

