-- ==== Sys2Proof/Machine/Plant.lean ====
section
/-!
DEFINITION. Sys2Proof/Machine/Plant.lean: setpoints, the stop latch and the plant bus by their rows (ch 21).
-/
namespace Sys2Proof.Machine
open Sys2Proof

/-! ### Setpoints (R768-R774) -/

/-- PLT_SETPOINT_SET with SET (R769, R770, R773). -/
def setpointSet (p : Packet) (n : Nat) (s : State) : State :=
  match s.setpointAt n with
  | none => badParam p 1 s
  | some x =>
    if s.domLost 25 || s.domLost 99 then fail p stFenced 0xFFFF 0 s
    else
      let target := clampI x.lo x.hi (signed 32 (u32 p.params 4))
      commitLeg n (waitFor p (.setpoint n) (setPoint n (some { x with slew := some ⟨target, .waits⟩ }) s))
/-- PLT_SETPOINT_SET with DEFINE (R768, R774). -/
def setpointDefine (p : Packet) (n : Nat) (s : State) : State :=
  let addr := u16 p.params 2
  match s.plt.points.find? fun x => x.1 != n && x.2.addr == addr with
  | some x => fail p stBusy 0xFFFF x.1 s
  | none => ok p (setPoint n (some { addr := addr, lo := signed 32 (u32 p.params 4), hi := signed 32 (u32 p.params 8), rate := u32 p.params 12 }) s)
/-- PLT_SETPOINT_SET (R796, R797). -/
def execPltSetpointSet (s : State) : Out :=
  interpret 0x0A10 (fun p s =>
    let b := p.params
    let act := u8 b 0; let n := u8 b 1
    checked p 16 [(0, inR act 1 3), (1, decide (n ≤ 31)), (2, act != 2 || decide (u16 b 2 ≤ 4095)),
                  (8, act != 2 || decide (signed 32 (u32 b 4) ≤ signed 32 (u32 b 8)))] (fun s =>
      if p.cls == 5 && act != 1 then fail p stDenied 0xFFFF 0 s
      else match act with
      | 1 => setpointSet p n s
      | 2 => setpointDefine p n s
      | _ => if (s.setpointAt n).isNone then complete p stNote [] s else ok p (setPoint n none s)) s) s
/-- SETPOINT_LEG_COMMIT (R771): the last tick of a leg of setpoint n. -/
def execSetpointLegCommit (n : Nat) (s : State) : Out :=
  match (s.setpointAt n).bind (·.slew) with
  | some w => match w.leg with
    | .runs left false => .next (if left ≤ 1 && s.isOn 23 then commitLeg n s else s)
    | _ => .next s
  | none => .next s

/-! ### PLANT_STOP_N (R779-R781) -/

/-- PLT_STOP. -/
def execPltStop (s : State) : Out :=
  interpret 0x0A12 (fun p s =>
    let b := p.params
    let act := u8 b 0
    checked p 4 [(0, inR act 1 2), (1, act == 1 || u8 b 1 == 0xA5)] (fun s =>
      if act == 1 then ok p (setStop 1 (u8 b 2) 0 s)
      else if p.cls == 5 then fail p stDenied 0xFFFF 0 s
      else match s.stopRefusal with
      | some i => fail p stBusy 0xFFFF i s
      | none => ok p (releaseStop 0 s)) s) s
/-- A write of PLT_STOP_CTL (R780, R781). -/
def stopCtl (v : Nat) (s : State) : State :=
  if v % 4 = 1 then setStop 4 0 0 s
  else if v % 4 = 2 && bitsOf v 15 8 = 0xA5 && s.stopRefusal.isNone then releaseStop 1 s
  else s
/-- STOP_CTL_ASSERT. -/
def execStopCtlAssert (s : State) : Out := .next (if s.isOn 23 then stopCtl 1 s else s)
/-- STOP_CTL_RELEASE, with the KEY that is written. -/
def execStopCtlRelease (key : Nat) (s : State) : Out := .next (if s.isOn 23 then stopCtl (2 + key % 256 * 256) s else s)

/-! ### The plant bus (R783-R791) -/

/-- Change the plant bus. -/
def modCan (f : Can → Can) (s : State) : State := { s with can := f s.can }
/-- MODE. -/
def Can.mode (c : Can) : Nat := u8 c.cfg 0
/-- FLAGS. -/
def Can.flag (c : Can) (i : Nat) : Bool := (u8 c.cfg 1).testBit i
/-- Carriage runs (R792). -/
def Can.carriage (c : Can) : Bool := c.flag 3 && c.flag 0 && u8 c.cfg 2 != 0
/-- Buffer b. -/
def Can.buf (c : Can) (b : Nat) : CanBuffer := tget {} c.bufs b
/-- The controller takes part in the bus; the first frame ends the integration (log 69). -/
def State.canOn (s : State) : Bool := s.live && s.isOn 24 && s.can.mode != 0 && (s.can.st == 1 || s.can.st == 2 || s.can.st == 5)
/-- The controller has integrated. -/
def integrated (c : Can) : Can := { c with st := if c.st == 5 then 1 else c.st }
/-- Arbitration rank of an identifier: the 11 most significant bits first, then IDE, then the rest (R789, log 69). -/
def canRank (id : Nat) (ide : Bool) : Nat := if ide then id / 2 ^ 18 * 2 ^ 19 + 2 ^ 18 + id % 2 ^ 18 else id % 2048 * 2 ^ 19
/-- The messages that may be sent: rank and buffer, 64 for the carriage segment. -/
def Can.offers (c : Can) : List (Nat × Nat) :=
  ((c.txreq.filter fun b => (c.buf b).mode == 1).map fun b => (canRank (c.buf b).id (c.buf b).ide, b))
    ++ (match c.carry with
      | [] => []
      | x :: _ => [(canRank x.1 true, 64)])
/-- The message offered first (R789, R790). -/
def Can.offered (c : Can) : Option Nat :=
  let o := c.offers
  match c.resume with
  | some b => if o.any fun x => x.2 == b then some b else none
  | none => (o.foldl (fun m x => match m with
    | some y => if x.1 < y.1 || (x.1 == y.1 && decide (x.2 < y.2)) then some x else m
    | none => some x) none).map (·.2)
/-- Bytes of a DLC. -/
def dlcLen (fdf : Bool) (d : Nat) : Nat := if fdf then ([0, 1, 2, 3, 4, 5, 6, 7, 8, 12, 16, 20, 24, 32, 48, 64] : List Nat).getD d 0 else min d 8
/-- Apply a plant-bus configuration (R785, R790). -/
def applyCan (b : Bytes) (s : State) : State :=
  let s := modCan (fun c => { c with cfg := b, tec := 0, rec_ := 0, st := if u8 b 0 = 0 then 0 else if c.st == 3 || c.st == 4 then 4 else 5 }) s
  syncUse 24 s
/-- CAN_CFG (R785): between rows the bus is idle. -/
def execCanCfg (s : State) : Out := interpret 0x0A13 (fun p s => checked p 16 (canFields p.params) (fun s => ok p (applyCan (p.params.take 16) s)) s) s
/-- CARRIAGE_DROP (R794). -/
def carriageDrop (node reason : Nat) (s : State) : State := logEvent 23 0x8005 (detail [(16, 1, node), (17, 1, reason)]) s
/-- A segment of a request from a node (R793, R794). -/
def carriageSegment (node : Nat) (data : Bytes) (s : State) : State :=
  let seg := u8 data 0 % 128; let last := (u8 data 0).testBit 7; let pkt := u8 data 1
  let body := data.drop 2
  let old := s.can.parts.find? fun x => x.node == node
  let drop (s : State) : State := modCan (fun c => { c with parts := c.parts.filter fun x => x.node != node }) s
  let take (bytes : Bytes) (s : State) : State :=
    if last then
      let size := 20 + u16 bytes 10
      frontEnd ⟨5, node, 0⟩ 0 (.plant node pkt) (if 16 ≤ bytes.length && decide (size ≤ bytes.length) then bytes.take size else bytes) (drop s)
    else modCan (fun c => { c with parts := upsert (fun x => x.node == node) ⟨node, pkt, seg + 1, bytes⟩ c.parts }) s
  match old with
  | some x =>
    if seg == x.next && pkt == x.pkt then take (x.bytes ++ body) s
    else
      let s := carriageDrop node 0 (drop s)
      if seg == 0 then take body s else s
  | none =>
    if seg != 0 then carriageDrop node 0 s
    else if !last && decide (4 ≤ s.can.parts.length) then carriageDrop node 2 s
    else take body s
/-- CARRIAGE_SEGMENT (R793): an FD frame from node src for this node. -/
def execCarriageSegment (src : Nat) (data : Bytes) (s : State) : Out :=
  .next (if s.canOn && s.can.carriage && s.transportsUp then carriageSegment (src % 128) data (modCan (fun c => { integrated c with received := (c.received + 1) % 2 ^ 32 }) s) else s)
/-- CARRIAGE_GAP_TIMEOUT (R794). -/
def execCarriageGapTimeout (node : Nat) (s : State) : Out :=
  .next (if s.can.parts.any fun x => x.node == node then carriageDrop node 1 (modCan (fun c => { c with parts := c.parts.filter fun x => x.node != node }) s) else s)
/-- CAN_FRAME_RECEIVED (R787, R788): a data frame; carriage requests for this node take their own path (R792). -/
def execCanFrameReceived (ident : Nat) (ide fdf brs esi : Bool) (dlc : Nat) (data : Bytes) (s : State) : Out :=
  let c := s.can
  if !s.canOn || (fdf && !c.flag 0) then .next s
  else
    let s := modCan (fun c => { integrated c with received := (c.received + 1) % 2 ^ 32 }) s
    let toUs := ide && fdf && c.carriage && ident / 2 ^ 21 % 256 == u8 c.cfg 3 && ident / 2 ^ 13 % 128 == u8 c.cfg 2 && ident % 64 == 0
    if toUs then .next (if ident.testBit 20 || !s.transportsUp then s else carriageSegment (ident / 64 % 128) (data.take (dlcLen fdf dlc)) s)
    else
      let fits (b : Nat) : Bool := let x := c.buf b; x.mode == 2 && x.ide == ide && (x.id &&& x.mask) == (ident &&& x.mask)
      let hits := (List.range 64).filter fits
      match hits.find? fun b => !c.rxnew.contains b || (c.buf b).overOk with
      | some b =>
        let bytes := (data ++ zeros 64).take (dlcLen fdf dlc)
        let put (x : CanBuffer) : CanBuffer := { x with id := ident % 2 ^ 29, ide := ide, fdf := fdf, brs := brs, esi := esi, dlc := dlc % 16, data := Mem.writeN x.data 0 bytes }
        let s := modCan (fun c => { c with bufs := tmod {} c.bufs b put, rxnew := nset b c.rxnew }) s
        .next (whenS (c.buf b).notify (routePost 6) s)
      | none =>
        if hits.isEmpty then .next s
        else
          let recent := (c.lostAt.filter fun t => decide (s.us < t + 1000000)) ++ [s.us]
          .next (logLimited 23 0x8004 0 1 1000000 (detail [(20, 4, recent.length)]) (modCan (fun c => { c with lost := min 0xFFFFFFFF (c.lost + 1), lostAt := recent }) s))
/-- CAN_TX_DONE (R789): the message offered first is transmitted. -/
def execCanTxDone (s : State) : Out :=
  let c := s.can
  if !s.canOn || c.mode != 1 then .next s
  else match c.offered with
  | none => .next s
  | some b =>
    let s := modCan (fun c => { integrated c with sent := (c.sent + 1) % 2 ^ 32, resume := none }) s
    if b = 64 then
      match c.carry with
      | [] => .next s
      | x :: rest => .next (emit (.canFrame x.1 7 x.2) (modCan (fun c => { c with carry := rest }) s))
    else
      let x := c.buf b
      let brs := x.brs && x.fdf && c.flag 1
      let data := Mem.readN x.data 0 (dlcLen (x.fdf && c.flag 0) x.dlc)
      let s := emit (.canFrame x.id (b2n x.ide + 2 * b2n (x.fdf && c.flag 0) + 4 * b2n brs) data) (modCan (fun c => { c with txreq := nclr b c.txreq }) s)
      .next (whenS x.notify (routePost 7) s)
/-- A change of error state (R790). -/
def canChange (s : State) : State := routePost 5 (alertBits 0x10000 s)
/-- CAN_ERROR_STATE_CHANGE (R790): the counters after an error; bus-off takes the message that was offered. -/
def execCanErrorStateChange (tec rec_ : Nat) (s : State) : Out :=
  let c := s.can
  if !s.canOn then .next s
  else
    let st := if 255 < tec then (if c.flag 2 then 4 else 3) else if 128 ≤ tec || 128 ≤ rec_ then 2 else 1
    let s := modCan (fun c => { c with tec := min 255 tec, rec_ := min 255 rec_, st := st, resume := if 255 < tec then c.offered else c.resume }) s
    if st == (integrated c).st then .next s
    else
      let s := canChange s
      .next (if 3 ≤ st then logEvent 23 0x8002 (detail [(16, 1, min 255 tec)]) s
        else if st == 2 then logEvent 23 0x8001 (detail [(16, 1, min 255 tec), (17, 1, min 255 rec_)]) s
        else s)
/-- CAN_RECOVERED (R790). -/
def execCanRecovered (s : State) : Out :=
  .next (if s.can.st == 4 && s.isOn 24 then logEvent 23 0x8003 (zeros 16) (canChange (modCan (fun c => { c with st := 1, tec := 0, rec_ := 0 }) s)) else s)
/-- A write of CAN_TXREQ (R789, R791): base 0 or 32. -/
def canTxreq (base v : Nat) (s : State) : State :=
  let bits := (bitsSet 32 v).map (· + base)
  let s := modCan (fun c => { c with txreq := bits.foldl (fun l b => nset b l) c.txreq }) s
  forEach (bits.filter fun b => (s.can.buf b).stop) (fun b s => setStop 3 0 b s) s
/-- A write of CAN_TXABORT (R789). -/
def canTxabort (base v : Nat) (s : State) : State :=
  let bits := (bitsSet 32 v).map (· + base)
  modCan (fun c => { c with txreq := c.txreq.filter fun b => !bits.contains b, resume := if c.resume.any bits.contains then none else c.resume }) s
/-- CAN_TXREQ: register 0 or 1 and the value written. -/
def execCanTxreq (reg value : Nat) (s : State) : Out := .next (if s.domLost 24 then s else canTxreq (32 * (reg % 2)) value s)
/-- CAN_TXABORT. -/
def execCanTxabort (reg value : Nat) (s : State) : Out := .next (if s.domLost 24 then s else canTxabort (32 * (reg % 2)) value s)
/-- A write of CAN_RECOVER (R790). -/
def canRecover (s : State) : State := modCan (fun c => { c with st := if c.st == 3 then 4 else c.st }) s
/-- CAN_RECOVER. -/
def execCanRecover (s : State) : Out := .next (if s.domLost 24 then s else canRecover s)
/-- CAN_RX_LOST_READ (R787). -/
def execCanRxLostRead (reader : Nat) (s : State) : Out :=
  .next (if s.domLost 24 then s else modCan (fun c => { c with lost := 0 }) (answerRead reader (putLe 4 s.can.lost) s))

/-! ### Status and registers (Tables 21-3, 21-4, 21-6) -/

/-- PLT_STATUS. -/
def execPltStatus (s : State) : Out :=
  interpret 0x0A11 (fun p => checked p 0 [] fun s =>
    let viol := maskOf ((s.plt.watches.filter fun w => w.2.violating).map (·.1))
    let slewing := maskOf ((s.plt.points.filter fun x => x.2.slew.isSome).map (·.1))
    let c := s.can
    complete p stOk (layout 32 [(0, 1, b2n s.aon.stopLatch + 2 * b2n !s.aon.stopLatch), (1, 1, s.aon.stopCause), (2, 1, c.st), (4, 1, c.tec), (5, 1, c.rec_),
      (8, 2, viol), (10, 2, s.plt.alert % 65536), (12, 4, c.lost), (16, 4, c.sent), (20, 4, c.received), (24, 4, slewing)]
      ++ ((List.range 32).map fun n => putLe 4 (match s.setpointAt n with
        | some x => unsigned 32 (s.coef x.addr)
        | none => 0)).flatten) s) s
/-- PLT_WATCHn_CFG as a word. -/
def Watch.word0 (x : Watch) : Nat := b2n x.on + 2 * b2n x.capture + 4 * x.slot + 256 * x.word + 2048 * x.action + 65536 * x.persist
/-- A read of a PLT register; none at a reserved offset. -/
def pltRead (off : Nat) (s : State) : Option Nat :=
  if inR off 0x100 0x1FF then
    let x := s.watch ((off - 0x100) / 16)
    match off % 16 with
    | 0 => some x.word0
    | 4 => some x.lo
    | 8 => some x.hi
    | 12 => some (x.stale + 65536 * b2n x.violating)
    | _ => none
  else match off with
  | 0x000 => some 0
  | 0x004 => some (b2n s.aon.stopLatch + 2 * b2n (!s.aon.stopLatch) + 256 * s.aon.stopCause)
  | 0x008 => some s.plt.alert
  | _ => none
/-- A write of a PLT register; none at a reserved offset. A write of CFG begins the watch's counts anew (log 69). -/
def pltWrite (off v : Nat) (s : State) : Option State :=
  if inR off 0x100 0x1FF then
    let w := (off - 0x100) / 16
    match off % 16 with
    | 0 => some (modWatch w (fun x => { x with on := v.testBit 0, capture := v.testBit 1, slot := bitsOf v 7 2, word := bitsOf v 10 8, persist := bitsOf v 31 16
                                               action := if bitsOf v 12 11 ≤ 1 then bitsOf v 12 11 else x.action
                                               violating := false, staleTrip := false, count := 0, since := 0 }) s)
    | 4 => some (modWatch w (fun x => { x with lo := v }) s)
    | 8 => some (modWatch w (fun x => { x with hi := v }) s)
    | 12 => some (modWatch w (fun x => { x with stale := v % 65536 }) s)
    | _ => none
  else match off with
  | 0x000 => some (stopCtl v s)
  | 0x004 => some s
  | 0x008 => some (modPlt (fun x => { x with alert := x.alert &&& (x.alert ^^^ (v &&& x.alert)) }) s)
  | _ => none
/-- A read of a CAN register; none at a reserved offset. CAN_RX_LOST clears by the read. -/
def canRead (off : Nat) (s : State) : Option (Nat × State) :=
  let c := s.can
  let word (l : List Nat) (base : Nat) : Nat := maskOf ((l.filter fun b => inR b base (base + 31)).map (· - base))
  if inR off 0x1000 0x23FF then
    let x := c.buf ((off - 0x1000) / 0x50); let r := (off - 0x1000) % 0x50
    if r = 0 then some (x.id + 2 ^ 29 * b2n x.ide, s)
    else if r = 4 then some (x.mode + 4 * b2n x.fdf + 8 * b2n x.brs + 16 * b2n x.stop + 32 * b2n x.overOk + 64 * b2n x.notify + 128 * b2n x.esi + 256 * x.dlc, s)
    else if r = 8 then some (x.mask, s)
    else if inR r 0x0C 0x4B then some (leAt (Mem.readN x.data (r - 12) 4) 0 4, s)
    else none
  else match off with
  | 0x000 => some (c.st + 256 * c.tec + 65536 * c.rec_, s)
  | 0x004 => some (0, s)
  | 0x008 => some (c.lost, modCan (fun c => { c with lost := 0 }) s)
  | 0x010 => some (word c.txreq 0, s)
  | 0x014 => some (word c.txreq 32, s)
  | 0x018 | 0x01C => some (0, s)
  | 0x020 => some (word c.rxnew 0, s)
  | 0x024 => some (word c.rxnew 32, s)
  | _ => none
/-- A write of a CAN register; none at a reserved offset. -/
def canWrite (off v : Nat) (s : State) : Option State :=
  if inR off 0x1000 0x23FF then
    let b := (off - 0x1000) / 0x50; let r := (off - 0x1000) % 0x50
    let put (f : CanBuffer → CanBuffer) : Option State := some (modCan (fun c => { c with bufs := tmod {} c.bufs b f }) s)
    if r = 0 then put fun x => { x with id := v % 2 ^ 29, ide := v.testBit 29 }
    else if r = 4 then put fun x => { x with mode := if v % 4 = 3 then x.mode else v % 4, fdf := v.testBit 2, brs := v.testBit 3, stop := v.testBit 4, overOk := v.testBit 5,
                                             notify := v.testBit 6, dlc := bitsOf v 11 8 }
    else if r = 8 then put fun x => { x with mask := v % 2 ^ 29 }
    else if inR r 0x0C 0x4B then put fun x => { x with data := Mem.writeN x.data (r - 12) (putLe 4 v) }
    else none
  else
    let clear (base : Nat) : Option State := some (modCan (fun c => { c with rxnew := c.rxnew.filter fun b => !(inR b base (base + 31) && v.testBit (b - base)) }) s)
    match off with
    | 0x000 | 0x008 => some s
    | 0x004 => some (canRecover s)
    | 0x010 => some (canTxreq 0 v s)
    | 0x014 => some (canTxreq 32 v s)
    | 0x018 => some (canTxabort 0 v s)
    | 0x01C => some (canTxabort 32 v s)
    | 0x020 => clear 0
    | 0x024 => clear 32
    | _ => none

end Sys2Proof.Machine
end

