-- ==== Sys2Proof/Machine/Service.lean ====
section
/-!
DEFINITION. Sys2Proof/Machine/Service.lean: the expansion and service port (ch 23). A row of the target side carries the header word that the BMC
sent (Table 23-1); a row whose header names another operation leaves the state as it is, and a reserved operation is refused (R840).
-/
namespace Sys2Proof.Machine
open Sys2Proof

/-- Change the port. -/
def modXsp (f : Xsp → Xsp) (s : State) : State := { s with xsp := f s.xsp }
/-- The port is ready (R827). -/
def State.xspReady (s : State) : Bool := s.bootDone && s.isOn 20 && s.live && s.unreset

/-! ### Master side -/

/-- A transfer ends (R833). -/
def xspEnd (status : Nat) (s : State) : State := syncUse 20 (routePost 0x0D (modXsp (fun x => { x with status := status, xfer := none }) s))
/-- A write of XSP_MCMD (R831); a LEN above 256 is refused like an odd one (log 75). -/
def xspCommand (v : Nat) (s : State) : State :=
  let sel := v % 4; let len := bitsOf v 29 21
  if s.xsp.xfer.isSome then s
  else if (s.xsp.target && (s.bootDone || sel == 1)) || len % 2 == 1 || 256 < len then xspEnd stBadParam s
  else
    let op := BitVec.ofNat 8 (bitsOf v 15 8)
    let addr := if v.testBit 3 then putBe 4 s.xsp.addr else []
    let data := if v.testBit 2 then s.xsp.buf.take len else []
    syncUse 20 (emit (.xspOut ([op, ~~~op] ++ addr ++ data)) (modXsp (fun x => { x with xfer := some v, status := 0 }) s))
/-- MASTER_READ (R830, R831): a write of XSP_MCMD with DIR = 0. -/
def execXspMasterRead (cmd : Nat) (s : State) : Out := .next (xspCommand (cmd - (if cmd.testBit 2 then 4 else 0)) s)
/-- MASTER_WRITE (R830, R831): a write of XSP_MCMD with DIR = 1. -/
def execXspMasterWrite (cmd : Nat) (s : State) : Out := .next (xspCommand (cmd + (if cmd.testBit 2 then 0 else 4)) s)
/-- MASTER_TRANSFER_DONE (R832, R833): the data that a read returned fill XSP_MBUF. -/
def execXspMasterTransferDone (data : Bytes) (s : State) : Out :=
  match s.xsp.xfer with
  | none => .next s
  | some v =>
    let got := if v.testBit 2 then [] else data.take (bitsOf v 29 21)
    .next (xspEnd stOk (modXsp (fun x => { x with buf := overwrite x.buf 0 got }) s))
/-- MASTER_TIMEOUT (R832). -/
def execXspMasterTimeout (s : State) : Out :=
  match s.xsp.xfer with
  | none => .next s
  | some v =>
    if v.testBit 2 then .next s
    else .next (xspEnd stTimeout (logEvent 25 0x8004 (detail [(16, 1, v % 4), (17, 1, bitsOf v 15 8)]) s))
/-- A read of a master register; none at a reserved offset. -/
def xspRead (off : Nat) (s : State) : Option Nat :=
  let x := s.xsp
  if inR off 0x100 0x1FF then (if off % 4 = 0 then some (u32 x.buf (off - 0x100)) else none)
  else match off with
  | 0x000 => some 0
  | 0x004 => some x.addr
  | 0x008 => some (x.status + b2n x.xfer.isNone * 32768 + b2n x.target * 65536)
  | _ => none
/-- A write of a master register; none at a reserved offset. -/
def xspWrite (off v : Nat) (s : State) : Option State :=
  if inR off 0x100 0x1FF then
    (if off % 4 = 0 then some (modXsp (fun x => { x with buf := overwrite x.buf (off - 0x100) (putLe 4 v) }) s) else none)
  else match off with
  | 0x000 => some (xspCommand v s)
  | 0x004 => some (modXsp (fun x => { x with addr := v % 2 ^ 32 }) s)
  | 0x008 => some s
  | _ => none

/-! ### Target side -/

/-- The LEN and ARG that an operation takes (Table 23-1, Table 23-2); false for a reserved operation. -/
def xspHeaderOk (h : Nat) : Bool :=
  let op := h % 256; let arg := bitsOf h 15 8; let len := bitsOf h 31 16
  match op with
  | 1 => inR len 4 1021
  | 2 => inR len 2 1023
  | 3 => len == 1 && decide (arg < 64)
  | 4 => len == 0 && decide (arg < 64)
  | 5 => len == 1
  | 6 => len == 0 && arg == 0xA5
  | _ => false
/-- A header word of operation op is complete: f runs on its ARG and LEN, or the operation is refused (R840). -/
def xspOp (op h : Nat) (f : Nat → Nat → State → State) (s : State) : Out :=
  if !s.xsp.target || !s.xspReady || s.xsp.deaf || s.xsp.write.isSome then .next s
  else if xspHeaderOk h then (if h % 256 = op then .next (f (bitsOf h 15 8) (bitsOf h 31 16) s) else .next s)
  else if h % 256 = op || h % 256 = 0 || 6 < h % 256 then
    let s := modXsp (fun x => { x with err := true, deaf := true }) s
    .next (logLimited 25 0x8003 0 1 1000000 (detail [(16, 1, h % 256), (17, 1, bitsOf h 15 8), (18, 2, bitsOf h 31 16)]) s)
  else .next s
/-- PKT_WRITE (R835): data holds the words complete when the row is taken; a packet with fewer words than LEN stays unfinished. -/
def execXspPktWrite (header : Nat) (data : Bytes) (s : State) : Out :=
  xspOp 1 header (fun _ len s =>
    let got := data.take (4 * len)
    if got.length = 4 * len then frontEnd ⟨3, 0, 0⟩ 0 .service got s
    else modXsp (fun x => { x with write := some ⟨len, got.take (got.length / 4 * 4)⟩ }) s) s
/-- RESULT_READ (R837): a counting read once the first data word is complete; words is how many the BMC clocks, 0 beyond LEN (R836). -/
def execXspResultRead (header words : Nat) (s : State) : Out :=
  xspOp 2 header (fun _ len s =>
    if words = 0 then s
    else
      let (content, w) := countRead s.cmd.crw0 1
      emit (.xspOut ((content ++ zeros (4 * len)).take (4 * min len words) ++ zeros (4 * (words - len)))) (setWindow 3 w s)) s
/-- LOCK_ACQ (R838). -/
def execXspLockAcq (header : Nat) (s : State) : Out :=
  xspOp 3 header (fun n _ s => let (v, s) := lockAcquire holderService n s; emit (.xspOut (putLe 4 v)) s) s
/-- LOCK_REL (R838). -/
def execXspLockRel (header : Nat) (s : State) : Out := xspOp 4 header (fun n _ s => lockRelease holderService n s) s
/-- The target STATUS word (Table 23-3). -/
def State.xspStatus (s : State) : Nat :=
  b2n s.xspReady + 2 * b2n (outstanding s 3 none != 0) + 4 * b2n s.cmd.crw0.ready + 8 * b2n s.xsp.err + 16 * b2n s.xsp.aborted + 256 * s.pmc.st.code
/-- STATUS (Table 23-3): the read clears ERR and ABORTED; words is how many the BMC clocks. -/
def execXspStatus (header words : Nat) (s : State) : Out :=
  xspOp 5 header (fun _ _ s =>
    if words = 0 then s
    else emit (.xspOut (putLe 4 s.xspStatus ++ zeros (4 * (words - 1)))) (modXsp (fun x => { x with err := false, aborted := false }) s)) s
/-- TARGET_RESET (R839). -/
def execXspTargetReset (header : Nat) (s : State) : Out :=
  xspOp 6 header (fun _ _ s =>
    logEvent 25 0x8002 [] (advanceEpoch holderService (modXsp (fun x => { x with err := false, aborted := false, write := none }) s))) s
/-- SELECT_RELEASE (R841, R842): an unfinished PKT_WRITE is discarded, with an ABORTED reply when no service-port command is outstanding. -/
def execXspSelectRelease (s : State) : Out :=
  let w := s.xsp.write
  let s := modXsp (fun x => { x with deaf := false, write := none }) s
  match w with
  | none => .next s
  | some w =>
    let field (i : Nat) : Nat := if 16 ≤ w.bytes.length then u16 w.bytes i else 0
    let s := whenS (outstanding s 3 none == 0) (postWindow 3 (buildReply s 3 (field 4) (field 6) (field 12) stAborted (errParams 0xFFFF 0))) s
    let s := modXsp (fun x => { x with aborted := true }) s
    .next (logEvent 25 0x8001 (detail [(16, 1, 1), (18, 2, w.bytes.length / 4), (20, 2, field 6)]) s)

end Sys2Proof.Machine
end

