-- ==== Sys2Proof/Machine/Warden.lean ====
section
/-!
DEFINITION. Sys2Proof/Machine/Warden.lean: tasks, timers and locks by their rows (ch 19).
-/
namespace Sys2Proof.Machine
open Sys2Proof

/-- Run f for the role of a core; a core without a role reaches no role's registers. -/
def asRole (core : Nat) (f : Nat → State → State) (s : State) : State := ifSome (s.roleOn core) f s
/-- TIME_SLICE_EXPIRY (R698). -/
def execTimeSliceExpiry (core : Nat) (s : State) : Out :=
  .next (asRole core (fun r s => sched r (modRole r (fun x => { x with ran := if x.running.isSome then max x.ran 10000 else x.ran }) s)) s)
/-- EVENT_POST (R706): a post of a block's condition or of another role is applied. -/
def execEventPost (role task bit : Nat) (s : State) : Out := .next (postBit (role % 4) (task % 32) (bit % 16) s)
/-- TASK_CREATE (R702). -/
def execTaskCreate (core role task prio : Nat) (sm ovf : Bool) (s : State) : Out :=
  .next (asRole core (fun i s => tcCreate i (role % 4) (task % 32) (prio % 8) sm ovf s) s)
/-- TASK_CANCEL (R703). -/
def execTaskCancel (core role task : Nat) (s : State) : Out := .next (asRole core (fun i s => tcCancel i (role % 4) (task % 32) s) s)
/-- WDN_EVPOST (R708). -/
def execWdnEvpost (core role task bit : Nat) (s : State) : Out :=
  .next (asRole core (fun _ s => evPost (bit % 16 + task % 32 * 16 + role % 4 * 512) s) s)
/-- WDN_WDOG_KICK (R713). -/
def execWdnWdogKick (core : Nat) (s : State) : Out := .next (asRole core kick s)
/-- WDN_EVDROP_READ (R706). -/
def execWdnEvdropRead (core : Nat) (s : State) : Out :=
  .next (asRole core (fun r s => modRole r (fun x => { x with evdrop := 0 }) (answerRead (16 + core) (putLe 4 (s.role r).evdrop) s)) s)
/-- TIMER_ARM (R710, R712). -/
def execTimerArm (core timer value : Nat) (s : State) : Out := .next (asRole core (fun r s => timerArm r (timer % 16) value s) s)
/-- TIMER_EXPIRY (R710). -/
def execTimerExpiry (role timer : Nat) (s : State) : Out := .next (timerExpire (role % 4) (timer % 16) s)
/-- The holder identity of a reader (R721): 0 PF0, 1 the service port, 16 + n the running task of core n's role. -/
def State.holderOf (s : State) (reader : Nat) : Option Nat :=
  if reader = 0 then some holderPf0
  else if reader = 1 then some holderService
  else if 16 ≤ reader then (s.roleOn (reader - 16)).bind fun r => (s.role r).running.map fun t => holderTask r t
  else none
/-- LCK_ACQ (R722). -/
def execLckAcq (reader lock : Nat) (s : State) : Out :=
  match s.holderOf reader with
  | none => .next s
  | some h => let (v, s) := lockAcquire h (lock % 64) s; .next (answerRead reader (putLe 4 v) s)
/-- LCK_REL (R723). -/
def execLckRel (reader lock : Nat) (s : State) : Out :=
  match s.holderOf reader with
  | none => .next s
  | some h => .next (lockRelease h (lock % 64) s)

end Sys2Proof.Machine
end

