-- ==== Sys2Proof/Machine/DevSpace.lean ====
section
/-!
DEFINITION. Sys2Proof/Machine/DevSpace.lean: device space (Table 01-7), as wardens and debug sessions access it (R20-R22, R34).
-/
namespace Sys2Proof.Machine
open Sys2Proof

/-- Who makes an access: a warden core with its task, or a debug session (core 6). -/
structure DevAgent where
  /-- WD0-WD4, or 6 for a debug session. -/
  core : Nat
  /-- The task. -/
  task : Nat
  deriving DecidableEq, Repr
/-- The debug session. -/
def debugAgent : DevAgent := ⟨6, 0⟩
/-- Where an address lies. -/
inductive DevPlace where
  /-- Register space of a block, at an offset. -/
  | reg (block off : Nat)
  /-- An SRAM bank. -/
  | sram (bank : Nat)
  /-- A region of a DDR5 channel. -/
  | ddr (ch region : Nat)
  /-- Reserved. -/
  | reserved
  deriving DecidableEq, Repr
/-- Table 01-7. -/
def State.devPlace (s : State) (a : Nat) : DevPlace :=
  if a < 0x06000000 then .sram (a / 0x200000)
  else if inR a 0x10000000 0x101FFFFF then .reg ((a - 0x10000000) / 0x10000) (a % 0x10000)
  else if inR a 0x1000000000 0x2FFFFFFFFF then
    let ch := a / 0x1000000000 - 1
    let r := a % 0x1000000000 / 0x40000000
    if r < (s.ddr ch).gib then .ddr ch r else .reserved
  else .reserved

/-! ### Block registers (R9) -/

/-- The role of the core that makes an access. -/
def State.agentRole (s : State) (a : DevAgent) : Option Nat := s.roleOn a.core
/-- The program word at a slot; 0 for a free slot (Table 16-3). -/
def Sge.pmWord (g : Sge) (slot : Nat) : Nat :=
  let at_ (p : Option SgeProg) : Option Nat := p.bind fun p => if p.base ≤ slot then p.code[slot - p.base]? else none
  (at_ g.active <|> at_ g.staged).getD 0
/-- SGE_STATE. -/
def Sge.stateWord (g : Sge) : Nat :=
  let src := match g.src with
    | .internal => 0
    | .acquiring => 1
    | .locked => 2
    | .lost => 3
  b2n g.running + 2 * src + 8 * b2n g.staged.isSome + 16 * g.rate + 256 * g.source
/-- A read of an SGE-local register (Table 16-2); none at a reserved offset. -/
def sgeRead (off : Nat) (s : State) : Option (Nat × State) :=
  let g := s.sge
  let cost (p : Option SgeProg) : Nat := (p.map (·.cost)).getD 0
  match off with
  | 0x000 => some (g.stateWord, s)
  | 0x004 => some (g.tick.toNat, s)
  | 0x008 => some (cost g.active + 65536 * cost g.staged, s)
  | 0x00C => some (g.flags, s)
  | 0x010 => some (g.ovf, s)
  | 0x014 => some (g.stray, modSge (fun g => { g with stray := 0 }) s)
  | 0x018 => some (g.miss, modSge (fun g => { g with miss := 0 }) s)
  | 0x020 => some (g.pmAddr, s)
  | 0x028 => some (g.pmWord g.pmAddr % 2 ^ 32, modSge (fun x => { x with pmSnap := g.pmWord g.pmAddr / 2 ^ 32 }) s)
  | 0x02C => some (g.pmSnap, s)
  | _ => none
/-- A write of an SGE-local register; none at a reserved offset. -/
def sgeWrite (off v : Nat) (s : State) : Option State :=
  match off with
  | 0x000 | 0x004 | 0x008 | 0x014 | 0x018 | 0x028 | 0x02C => some s
  | 0x00C => some (modSge (fun g => { g with flags := maskOf ((bitsSet 4 g.flags).filter fun i => !v.testBit i) }) s)
  | 0x010 => some (modSge (fun g => { g with ovf := maskOf ((bitsSet 16 g.ovf).filter fun i => !v.testBit i) }) s)
  | 0x020 => some (modSge (fun g => { g with pmAddr := v % 4096 }) s)
  | _ => none
/-- What a reader's last counting read of a window returned, from the header's low word on (R56). -/
def ResultWindow.viewOf (w : ResultWindow) (reader : Nat) : Bytes := ((w.views.find? fun v => v.reader == reader).map (·.content)).getD []
/-- A read of an SIO register (Table 17-3); none at a reserved offset. A slot's header low word is a counting read (R56). -/
def sioRead (a : DevAgent) (off : Nat) (s : State) : Option (Nat × State) :=
  let x := s.sio
  if inR off 0x1000 0x1FFF then
    let k := (off - 0x1000) / 64; let o := off % 64
    if o = 0 then let (b, s) := countSlot k (16 + a.core) s; some (u32 b 0, s)
    else if o < 0x28 then some (u32 ((s.slot k).viewOf (16 + a.core)) o, s)
    else none
  else match off with
  | 0x000 => some (x.entry + 65536 * x.ramp, s)
  | 0x004 | 0x00C => some (0, s)
  | 0x008 => some (x.expect.toNat, s)
  | 0x010 => some (x.resStatus + 32768 * b2n x.resDone, s)
  | 0x014 => some (x.gen.toNat, s)
  | _ => none
/-- A write of an SIO register; none at a reserved offset. -/
def sioWrite (a : DevAgent) (off v : Nat) (s : State) : Option State :=
  if inR off 0x1000 0x1FFF then (if off % 64 < 0x28 then some s else none)
  else match off with
  | 0x000 => some (modSio (fun x => { x with entry := v % 4096, ramp := v / 65536 % 65536 }) s)
  | 0x004 => some (pourWrite ⟨0, a.core, s.sio.entry, s.sio.ramp, v % 2 ^ 32⟩ s)
  | 0x008 => some (modSio (fun x => { x with expect := BitVec.ofNat 32 v }) s)
  | 0x00C => some (if v % 4 = 1 || v % 4 = 2 then pourWrite ⟨v % 4, a.core, 0, 0, 0⟩ s else s)
  | 0x010 | 0x014 => some s
  | _ => none
/-- The register of a core at CAD: its number and the offset (Table 09-6). -/
def cadReg (off : Nat) : Option (Nat × Nat) := if off / 256 ≤ 4 && off % 256 ≤ 8 then some (off / 256, off % 256) else none
/-- A read of a CAD register; none at a reserved offset. -/
def cadRead (off : Nat) (s : State) : Option Nat :=
  (cadReg off).bind fun r =>
    let w := s.cadWarden r.1
    match r.2 with
    | 0 => some 0
    | 4 => some w.handle.toNat
    | 8 => some (w.status + 32768 * b2n w.done)
    | _ => none
/-- A write of a CAD register; none at a reserved offset. -/
def cadWrite (off v : Nat) (s : State) : Option State :=
  (cadReg off).bind fun r =>
    match r.2 with
    | 0 => some (match v % 4 with
      | 1 => stateOf (execCadWAlloc r.1 (bitsOf v 15 8) s) s
      | 2 => stateOf (execCadWFree r.1 s) s
      | _ => s)
    | 4 => some (setCadWarden r.1 { s.cadWarden r.1 with handle := BitVec.ofNat 32 v } s)
    | 8 => some s
    | _ => none
/-- A read of a block's register; none where the block has no register there. KEY returns 0 at every offset (R470, log 87). -/
def regRead (a : DevAgent) (b off : Nat) (s : State) : Option (Nat × State) :=
  match b with
  | 8 => (cadRead off s).map fun v => (v, s)
  | 13 => some (0, s)
  | 16 => sgeRead off s
  | 17 => sioRead a off s
  | 18 => (s.agentRole a).bind fun r => wdnRead r off s
  | 19 => (match s.agentRole a with
    | some r => lckRead (holderTask r a.task) off s
    | none => if off % 16 = 0 then none else lckRead 0 off s)
  | 22 => (pltRead off s).map fun v => (v, s)
  | 23 => canRead off s
  | 24 => (lblRead off s).map fun v => (v, s)
  | 25 => (xspRead off s).map fun v => (v, s)
  | _ => none
/-- A write of a block's register; none where the block has no register there. -/
def regWrite (a : DevAgent) (b off v : Nat) (s : State) : Option State :=
  match b with
  | 8 => cadWrite off v s
  | 16 => sgeWrite off v s
  | 17 => sioWrite a off v s
  | 18 => (s.agentRole a).bind fun r => wdnWrite r off v s
  | 19 => (match s.agentRole a with
    | some r => lckWrite (holderTask r a.task) off s
    | none => if off % 16 = 4 then none else lckWrite 0 off s)
  | 22 => pltWrite off v s
  | 23 => canWrite off v s
  | 24 => lblWrite a.core off v s
  | 25 => xspWrite off v s
  | _ => none
/-- The domain that holds a block's registers (Table 04-12). -/
def regDomain (b : Nat) : Nat := match b with
  | 8 => 38
  | 13 => 63
  | 16 => 25
  | 17 => 28
  | 19 => 8
  | 22 => 23
  | 23 => 24
  | 24 => 21
  | 25 => 20
  | _ => 7
/-- The registers of a block can be reached: OK, FENCED, or FAULT where its domain is off (R22). The master registers stay reachable while D020 is
gated for want of use alone (log 87). -/
def State.regStatus (s : State) (b : Nat) : Nat :=
  let d := regDomain b
  if s.domLost d || s.blockFenced b then stFenced
  else if s.isOn d || (d == 20 && (s.domain 20).cause == 7) then stOk
  else stFault

/-! ### Memory -/

/-- A warden holds the buffer that an address lies in. -/
def State.wardenHeld (s : State) (addr : Nat) : Bool :=
  let at_ (h : Nat) : Bool := let r := s.bufRange h; inR addr r.1 (r.1 + r.2 - 1)
  (s.cad.ctl.any fun b => b.fn == 254 && at_ (handleOf true 0 b.index))
    || s.cad.pools.any fun p => p.2.owned.any fun b => b.fn == 254 && at_ (handleOf false p.1 b.index)
/-- The device's own work has used the bank or region since it was last wiped: its pools, the event log, the control store. -/
def State.memUsed (s : State) (pl : DevPlace) : Bool := match pl with
  | .sram b => s.mem.used.contains b || s.bankHome 0 == b || s.bankHome 1 == b
  | .ddr c r => s.mem.used.contains (64 + 64 * c + r)
  | _ => false
/-- A 32-bit read of memory: what stands there, or a free value where the device's work has used it (log 88). -/
def memRead (pl : DevPlace) (addr : Nat) (s : State) : Nat × State :=
  if s.memUsed pl && !s.mem.known.contains addr then freeNat (2 ^ 32) s else (leAt (s.mem.bytes.readN addr 4) 0 4, s)
/-- A 32-bit write of memory. -/
def memWrite (pl : DevPlace) (addr v : Nat) (s : State) : State :=
  let known := if s.memUsed pl && s.wardenHeld addr then nset addr s.mem.known else s.mem.known
  { s with mem := { s.mem with bytes := s.mem.bytes.writeN addr (putLe 4 v), known := known } }
/-- The status of a memory access, none while it waits for a PLL (R22, R34, R173). -/
def State.memStatus (s : State) (pl : DevPlace) : Option Nat := match pl with
  | .sram b => some (if s.domLost (100 + b) then stFenced else if s.isOn (100 + b) then stOk else stFault)
  | .ddr c r =>
    if s.domLost (86 + c) || s.domLost (88 + c) then some stFenced
    else if !s.isOn (86 + c) || !s.isOn (88 + c) || s.ckg.unlocked.contains c then some stFault
    else if s.ckg.relocking.contains c then none
    else if (s.ddr c).dirty.contains r then some stBusy
    else some stOk
  | _ => some stFault

/-! ### Accesses -/

/-- An access that does not complete as one: BUSY without a record, anything else with one (R22, R34). -/
def devFault (a : DevAgent) (addr st : Nat) (s : State) : Except Nat Nat × State :=
  (.error st, if st == stBusy then s else logEvent (if a.core == 6 then 30 else 18) st (detail [(16, 6, addr), (22, 1, a.core)]) s)
/-- A 32-bit read of device space; none while it cannot complete. -/
def devRead (a : DevAgent) (addr : Nat) (s : State) : Option (Except Nat Nat × State) :=
  match s.devPlace addr with
  | .reserved => some (devFault a addr stFault s)
  | .reg b off =>
    if s.regStatus b != stOk then some (devFault a addr (s.regStatus b) s)
    else match regRead a b off s with
    | some r => some (.ok r.1, r.2)
    | none => some (devFault a addr stFault s)
  | pl => (s.memStatus pl).map fun st => if st != stOk then devFault a addr st s else let r := memRead pl addr s; (.ok r.1, r.2)
/-- A 32-bit write of device space; none while it cannot complete. -/
def devWrite (a : DevAgent) (addr v : Nat) (s : State) : Option (Except Nat Nat × State) :=
  match s.devPlace addr with
  | .reserved => some (devFault a addr stFault s)
  | .reg b off =>
    if s.regStatus b != stOk then some (devFault a addr (s.regStatus b) s)
    else match regWrite a b off v s with
    | some s => some (.ok 0, s)
    | none => some (devFault a addr stFault s)
  | pl => (s.memStatus pl).map fun st => if st != stOk then devFault a addr st s else (.ok 0, memWrite pl addr v s)

/-- DEVICE_ACCESS_COMPLETE (R680, R682): the access that a core has issued reaches its target and completes. -/
def execDeviceAccessComplete (core : Nat) (s : State) : Out :=
  match (s.core core).access with
  | none => .next s
  | some x =>
    let a : DevAgent := ⟨core, x.task⟩
    match if x.write then devWrite a x.addr x.value s else devRead a x.addr s with
    | none => .next s
    | some (res, s) => .next (endAccess core res s)
/-- DEVICE_ACCESS_TIMEOUT (R681, R682): whether a write that timed out has reached its target is free (R687, log 65). -/
def execDeviceAccessTimeout (core : Nat) (s : State) : Out :=
  match (s.core core).access with
  | none => .next s
  | some x =>
    let (k, s) := freeNat 2 s
    let s := if x.write && k == 1 then ((devWrite ⟨core, x.task⟩ x.addr x.value s).map (·.2)).getD s else s
    .next (endAccess core (.error stTimeout) s)

/-! ### Host registers (R61) -/

/-- One 32-bit write in PF0 BAR0 (Table 01-5, Table 06-4, Table 03-8, Table 19-7); a reserved offset and a read-only field take nothing (R18). -/
def bar0Write (off v : Nat) (s : State) : State :=
  if inR off 0x1000 0x1FF3 then { s with cmd := { s.cmd with dcwReq := s.cmd.dcwReq.writeN (off - 0x1000) (putLe 4 v) } }
  else if inR off 0x3000 0x33FF then (lckWrite holderPf0 (off - 0x3000) s).getD s
  else match off with
  | 0x010 => stateOf (execMgtEventWrite v 0 s) s
  | 0x014 => { s with pce := { s.pce with eventEn := v % 64 } }
  | 0x0F0 => { s with pce := { s.pce with scratch := v % 2 ^ 32 } }
  | 0x1FF8 => stateOf (execDcwGo (v % 2 ^ 13) s) s
  | 0x1FFC => if v.testBit 1 then { s with cmd := { s.cmd with dcwOverrun := false } } else s
  | _ => s
/-- One 32-bit write in the MSI-X table of a function (Table 06-3; entries as PCIe lays them out, log 20). -/
def bar2Write (f off v : Nat) (s : State) : State :=
  let n := off / 16
  if (if f == pf0 then 64 else 31) ≤ n || 0x2000 ≤ off then s
  else modVec f n (fun x => match off % 16 / 4 with
    | 0 => { x with addr := x.addr / 2 ^ 32 * 2 ^ 32 + v % 2 ^ 32 / 4 * 4 }
    | 1 => { x with addr := x.addr % 2 ^ 32 + v % 2 ^ 32 * 2 ^ 32 }
    | 2 => { x with data := v % 2 ^ 32 }
    | _ => { x with masked := v.testBit 0, st := bitsOf v 31 16 }) s
/-- REGISTER_WRITE (R17, R18, R61): a write of 4 or 8 bytes by the host, or of 4 by a warden core, to a register without a row of its own. A 64-bit
write is two 32-bit writes, the lower address first. -/
def execRegisterWrite (space : RegSpace) (addr size value : Nat) (s : State) : Out :=
  let both (f : Nat → Nat → State → State) : Out :=
    if addr % size != 0 then .next s
    else if size == 4 then .next (f addr (value % 2 ^ 32) s)
    else if size == 8 then .next (f (addr + 4) (value / 2 ^ 32 % 2 ^ 32) (f addr (value % 2 ^ 32) s))
    else .next s
  match space with
  | .bar0 => if s.fnTalks pf0 then both bar0Write else .next s
  | .bar2 f => if s.fnTalks f && (f == pf0 || decide (f < 64)) then both (bar2Write f) else .next s
  | .core c => .next (if c < 5 && size == 4 && addr % 4 == 0 then ((devWrite ⟨c, ((s.roleOn c).bind fun r => (s.role r).running).getD 0⟩ addr (value % 2 ^ 32) s).map (·.2)).getD s else s)

end Sys2Proof.Machine
end

