-- ==== Sys2Proof/Machine/Counters.lean ====
section
/-!
DEFINITION. Sys2Proof/Machine/Counters.lean: result reads, the identity, the counter banks and the test access port (ch 02, 03, 28).
-/
namespace Sys2Proof.Machine
open Sys2Proof

/-- RESULT_COUNTING_READ (R50-R56): win 2 the direct window, 3-6 CRW0-CRW3, 16 + k result slot k. -/
def execResultCountingRead (win reader : Nat) (s : State) : Out :=
  if 16 ≤ win then
    if 80 ≤ win then .next s else let (b, s) := countSlot (win - 16) reader s; .next (answerRead reader b s)
  else if inR win 2 6 then
    let (b, w) := countRead (getWindow win s) reader
    .next (answerRead reader b (setWindow win w s))
  else .next s
/-- DEV_IDENTIFY (R110, Table 03-13). -/
def execDevIdentify (s : State) : Out := interpret 0x0101 (fun p => checked p 0 [] fun s => complete p stOk (devIdentity s) s) s

/-! ### Counter banks -/

/-- Bank b. -/
def State.bank (s : State) (b : Nat) : CntBank := tget {} s.cnt.banks b
/-- A group and a scope of Table 28-2: the group is listed, the scope lies in its range. -/
def scopeOk (group scope : Nat) : Bool :=
  match group with
  | 1 => decide (scope < 8)
  | 2 | 3 => inR scope 3 6 || inR scope 0x48 0x4F || inR scope 0x58 0x5B
  | 4 => vpExists scope
  | 5 => decide (scope < 64) || scope == 0x7F
  | 6 => inR scope 4 6
  | 7 => decide (scope < 4)
  | _ => false
/-- The counters that Table 28-2 defines for a group and scope. -/
def counterDefined (group scope i : Nat) : Bool :=
  match group with
  | 1 => decide (i ≤ 20)
  | 2 | 3 => decide (i ≤ 35)
  | 4 => decide (i ≤ 14)
  | 5 => decide (i ≤ 19)
  | 6 => i == 18 || decide (i < 2 * (match scope with
    | 4 => 9
    | 5 => 7
    | _ => 5))
  | 7 => decide (i ≤ 10)
  | _ => false
/-- The entry of counter i of a bank (Table 28-1). -/
def CntBank.entry (b : CntBank) (i : Nat) : Nat :=
  if b.on then
    let c : Nat × Nat := tget (0, 0) b.counts i
    c.1 + 2 ^ 48 * c.2 + 2 ^ 63 * b2n (counterDefined b.group b.scope i)
  else 0
/-- CNT_BANK_ENABLE (R988, R993): the bank's domain is switched on, which wipes the counters. -/
def execCntBankEnable (s : State) : Out :=
  interpret 0x0E01 (fun p =>
    let b := p.params; let k := u8 b 0; let g := u8 b 1; let sc := u16 b 2
    checked p 4 [(0, decide (k < 8)), (1, inR g 1 7), (2, scopeOk g sc)] fun s =>
      if s.domLost (90 + k) then fail p stFenced 0xFFFF 0 s
      else if (s.bank k).on then fail p stBusy 0xFFFF 1 s
      else
        let s := followUse (90 + k) true { s with cnt := { s.cnt with banks := tput {} s.cnt.banks k { on := true, group := g, scope := sc } } }
        ok p (logEvent 30 0x8001 (detail [(16, 1, k), (17, 1, g), (18, 2, sc)]) s)) s
/-- CNT_BANK_DISABLE (R991). -/
def execCntBankDisable (s : State) : Out :=
  interpret 0x0E02 (fun p => checked p 4 [(0, decide (u8 p.params 0 < 8))] fun s =>
    if (s.bank (u8 p.params 0)).on then ok p (bankOff (u8 p.params 0) 0 s) else complete p stNote [] s) s
/-- The banks that are ON. -/
def State.onBanks (s : State) : Nat := maskOf ((List.range 8).filter fun b => (s.bank b).on)
/-- The window after a copy of the banks of a mask (R995). -/
def State.copied (s : State) (mask : Nat) : List (Nat × Nat) :=
  let kept := s.cnt.window.filter fun e => !mask.testBit (e.1 / 64)
  (bitsSet 8 mask).foldl (fun w b => (List.range 64).foldl (fun w i => tput 0 w (64 * b + i) ((s.bank b).entry i)) w) kept
/-- CNT_SNAPSHOT (R995). -/
def execCntSnapshot (s : State) : Out :=
  interpret 0x0E03 (fun p => checked p 4 [(0, u8 p.params 0 != 0)] fun s =>
    complete p stOk (putLe 4 s.log.tick.toNat ++ putLe 4 s.aon.rtcSec.toNat ++ putLe 1 s.onBanks ++ zeros 3)
      { s with cnt := { s.cnt with window := s.copied (u8 p.params 0) } }) s
/-- CNT_READ (R997). -/
def execCntRead (s : State) : Out :=
  interpret 0x0E04 (fun p =>
    let k := u8 p.params 0; let first := u8 p.params 1; let n := u8 p.params 2
    checked p 4 [(0, decide (k < 8)), (1, decide (first < 64)), (2, inR n 1 64 && decide (first + n ≤ 64))] fun s =>
      let x := s.bank k
      complete p stOk (putLe 4 s.log.tick.toNat ++ putLe 1 x.group ++ zeros 1 ++ putLe 2 x.scope ++ zeros 4
        ++ ((List.range n).map fun i => putLe 8 (x.entry (first + i))).flatten) s) s

/-! ### JTAG (R1000-R1004) -/

/-- VIO18 is in its window: the port works (R1000; Table 04-4: from step 6 of the power-up on). -/
def State.tapWorks (s : State) : Bool := s.live || (s.pmc.st == .boot && decide (6 ≤ s.pmc.upStep))
/-- Debug is permitted (R963). -/
def State.debugAllowed (s : State) : Bool := s.lcyState == 1 || (s.lcyState == 2 && s.debugEn)
/-- An instruction other than DBG_ACCESS is loaded; it ends a session (R1004). -/
def loadIr (code : Nat) (s : State) : Out := .next (if s.tapWorks then closeSession 0 { s with cnt := { s.cnt with ir := code } } else s)
/-- EXTEST. The boundary scan register itself is the pins' (log 89). -/
def execJtagExtest (s : State) : Out := loadIr 0x00 s
/-- IDCODE. -/
def execJtagIdcode (s : State) : Out := loadIr 0x01 s
/-- SAMPLE/PRELOAD. -/
def execJtagSamplePreload (s : State) : Out := loadIr 0x02 s
/-- CLAMP. -/
def execJtagClamp (s : State) : Out := loadIr 0x03 s
/-- HIGHZ. -/
def execJtagHighz (s : State) : Out := loadIr 0x04 s
/-- EXTEST_PULSE. -/
def execJtagExtestPulse (s : State) : Out := loadIr 0x05 s
/-- EXTEST_TRAIN. -/
def execJtagExtestTrain (s : State) : Out := loadIr 0x06 s
/-- BYPASS. -/
def execJtagBypass (s : State) : Out := loadIr 0xFF s
/-- DBG_ACCESS (R1002): a session opens where R963 permits, D009 is switched on, and CNT writes DEBUG_OPEN; else DEBUG_DENIED. In HOLD D009 is off and
no session opens (R1004, log 89). -/
def execDbgAccess (s : State) : Out :=
  if !s.tapWorks || s.cnt.session then .next s
  else
    let s := { s with cnt := { s.cnt with ir := 0x10 } }
    if s.debugAllowed then
      if s.live && s.pmc.st != .hold && !s.domLost 9 && s.unreset then
        let s := followUse 9 true { s with cnt := { s.cnt with session := true, dbg := ⟨0, 0⟩ } }
        .next (logEvent 30 0x8003 (detail [(16, 1, s.lcyState)]) s)
      else .next s
    else .next (logEvent 30 0x8005 (detail [(16, 1, s.lcyState)]) s)
/-- What the next Capture-DR returns. -/
def setDbg (data st : Nat) (s : State) : State := { s with cnt := { s.cnt with dbg := ⟨data, st⟩ } }
/-- An operation of the DBG register in a session; one that has not completed by the Capture-DR returns BUSY (R1003). -/
def dbgOp (late : Bool) (f : State → State) (s : State) : Out :=
  if !s.cnt.session then .next s else if late then .next (setDbg 0 stBusy (f s)) else .next (f s)
/-- The register space of KEY, which holds the DRBG too (R1003). -/
def inKeySpace (addr : Nat) : Bool := addr / 0x10000 == 0x100D
/-- An access by the session. -/
def dbgAnswer (o : Option (Except Nat Nat × State)) (s : State) : State :=
  match o with
  | none => setDbg 0 stBusy s
  | some (.ok v, s) => setDbg v stOk s
  | some (.error st, s) => setDbg 0 st s
/-- DEBUG_DEVICE_READ (R1003). -/
def execDebugDeviceRead (addr : Nat) (late : Bool) (s : State) : Out :=
  dbgOp late (fun s =>
    if addr % 4 != 0 || 2 ^ 48 ≤ addr then setDbg 0 stBadParam s
    else if inKeySpace addr then setDbg 0 stDenied s
    else dbgAnswer (devRead debugAgent addr s) s) s
/-- DEBUG_DEVICE_WRITE (R1003). -/
def execDebugDeviceWrite (addr value : Nat) (late : Bool) (s : State) : Out :=
  dbgOp late (fun s =>
    if addr % 4 != 0 || 2 ^ 48 ≤ addr then setDbg 0 stBadParam s
    else if inKeySpace addr then setDbg 0 stDenied s
    else dbgAnswer (devWrite debugAgent addr (value % 2 ^ 32) s) s) s
/-- DEBUG_WARDEN_MEMORY_READ (R1003, Table 28-5): a word of a core's code or data memory; a core whose domain is off answers as R22 (log 89). -/
def execDebugWardenMemoryRead (core space addr : Nat) (late : Bool) (s : State) : Out :=
  dbgOp late (fun s =>
    if 4 < core then setDbg 0 stBadParam s
    else if s.domLost (15 + core) then setDbg 0 stFenced s
    else if !s.isOn (15 + core) then setDbg 0 stFault s
    else setDbg (tget 0 (if space % 2 = 0 then (s.core core).code else (s.core core).data) (addr % 65536)) stOk s) s
/-- TAP_RESET (R1004): TRST_N or Test-Logic-Reset; IDCODE is selected (log 22). -/
def execTapReset (s : State) : Out := .next (closeSession 1 { s with cnt := { s.cnt with ir := 1 } })

end Sys2Proof.Machine
end

