-- ==== Sys2Proof/Machine/LabelShelf.lean ====
section
/-!
DEFINITION. Sys2Proof/Machine/LabelShelf.lean: the label's field side and its timers (ch 22). A row of the field side carries a whole request of
ISO/IEC 15693 as the reader sent it, from the flags to the CRC, and how many microseconds the field transaction runs; the row of another
command code leaves the state as it is.
-/
namespace Sys2Proof.Machine
open Sys2Proof

/-- A request as the label has taken it apart. -/
structure FieldReq where
  /-- Request flags. -/
  flags : Nat
  /-- Command code. -/
  code : Nat
  /-- Parameters behind the code, the manufacturer code and the UID. -/
  args : Bytes
  deriving DecidableEq, Repr

/-- The UID, byte 0 first (R804). -/
def State.lblUid (s : State) : Bytes := s.serial.take 6 ++ [BitVec.ofNat 8 s.lblMfg, 0xE0]
/-- Answer the reader. -/
def lblAnswer (b : Bytes) (s : State) : State := emit (.labelReply (b ++ putLe 2 (crc16 b).toNat)) s
/-- Answer with an error. -/
def lblErr (code : Nat) (s : State) : State := lblAnswer [1, BitVec.ofNat 8 code] s
/-- Flags the label recognises (R803; ISO/IEC 15693, log 73): no protocol extension, bit 8 clear, not both selected and addressed. -/
def flagsKnown (f : Nat) : Bool := !f.testBit 3 && !f.testBit 7 && (f.testBit 2 || !(f.testBit 4 && f.testBit 5))
/-- A command code of Table 22-2. -/
def fieldCode (c : Nat) : Bool := [0x01, 0x02, 0x25, 0x26, 0x2B, 0x2C, 0x3B, 0x3C, 0xA0, 0xA1].contains c || inR c 0x20 0x24 || inR c 0x30 0x34
/-- Take a request of one of the codes and run f on it when the label is powered and the request is for it; a request with a CRC error, with
flags the label does not recognise or for another tag gets no answer (R803). -/
def fieldRun (mine : Nat → Bool) (req : Bytes) (f : FieldReq → State → State) (s : State) : Out :=
  let n := req.length
  let flags := u8 req 0; let code := u8 req 1
  let custom := decide (0xA0 ≤ code)
  let addressed := flags.testBit 5 && !flags.testBit 2
  let uidAt := if custom then 3 else 2
  let head := uidAt + (if addressed then 8 else 0)
  if !(s.aon.powered || s.lbl.field) || n < 4 || u16 req (n - 2) != (crc16 (req.take (n - 2))).toNat || !mine code then .next s
  else if !flagsKnown flags || flags.testBit 2 != (code == 1) || n < head + 2 then .next s
  else if addressed && slice req uidAt 8 != s.lblUid then
    .next (whenS (code == 0x25 && s.lbl.tag == 2) (modLbl fun x => { x with tag := 0 }) s)
  else if !addressed && ((flags.testBit 4 && !flags.testBit 2 && s.lbl.tag != 2) || s.lbl.tag == 1) then .next s
  else if custom && fieldCode code && u8 req 2 != s.lblMfg then .next (lblErr 0x01 s)
  else .next (f ⟨flags, code, slice req head (n - 2 - head)⟩ s)
/-- A request that reaches the memory: BUSY while a device-side write runs (R811), else a field transaction of so many microseconds. -/
def fieldTx (busy : Nat) (f : State → State) (s : State) : State :=
  if s.lblWriting then lblErr 0xA1 s else f (modLbl (fun x => { x with fieldEnd := s.us + busy }) s)

/-- Security status of a block. -/
def lockByte (s : State) (b : Nat) : Byte := BitVec.ofNat 8 (b2n (s.lbl.locked.contains b))
/-- First block and the number of blocks of a request: w bytes a block number; a multiple form carries the number minus one. -/
def blockRange (w : Nat) (multi : Bool) (a : Bytes) : Nat × Nat := (leAt a 0 w, if multi then leAt a w w + 1 else 1)
/-- A range check: the block (0x10), then the count (0x0F) (R805). -/
def rangeErr (ext : Bool) (most : Nat) (r : Nat × Nat) : Option Nat :=
  if (if ext then 2048 else 256) < r.1 + r.2 then some 0x10 else if most < r.2 then some 0x0F else none
/-- The request's parameters have the length they need (log 73). -/
def sized (n : Nat) (q : FieldReq) (f : State → State) (s : State) : State := if q.args.length = n then f s else lblErr 0x02 s
/-- Read blocks (R805). -/
def fieldRead (ext multi : Bool) (busy : Nat) (q : FieldReq) : State → State :=
  let w := if ext then 2 else 1
  sized (if multi then 2 * w else w) q fun s =>
    let r := blockRange w multi q.args
    match rangeErr ext 64 r with
    | some e => lblErr e s
    | none => fieldTx busy (fun s =>
      lblAnswer (0 :: ((List.range r.2).map fun i =>
        (if q.flags.testBit 6 then [lockByte s (r.1 + i)] else []) ++ s.lbl.mem.readN (4 * (r.1 + i)) 4).flatten) s) s
/-- Write blocks: all or none (R805-R807). -/
def fieldWrite (ext multi : Bool) (busy : Nat) (q : FieldReq) (s : State) : State :=
  let w := if ext then 2 else 1
  let head := if multi then 2 * w else w
  if q.args.length < head then lblErr 0x02 s
  else
    let r := blockRange w multi q.args
    match rangeErr ext 8 r with
    | some e => lblErr e s
    | none => sized (head + 4 * r.2) q (fieldTx (min busy 2000) fun s =>
        if (List.range r.2).all fun i => lblOpen (r.1 + i) && !s.lbl.locked.contains (r.1 + i) then
          lblAnswer [0] (lblStore (4 * r.1) (q.args.drop head) s)
        else lblErr 0x12 s) s
/-- Lock a block for good (R806). -/
def fieldLock (ext : Bool) (busy : Nat) (q : FieldReq) : State → State :=
  let w := if ext then 2 else 1
  sized w q fun s =>
    let b := leAt q.args 0 w
    match rangeErr ext 1 (b, 1) with
    | some e => lblErr e s
    | none => fieldTx (min busy 2000) (fun s =>
      if !lblOpen b then lblErr 0x12 s
      else if s.lbl.locked.contains b then lblErr 0x11 s
      else lblAnswer [0] (modLbl (fun x => { x with locked := nset b x.locked }) s)) s
/-- Block security status. -/
def fieldSecurity (ext : Bool) (busy : Nat) (q : FieldReq) : State → State :=
  let w := if ext then 2 else 1
  sized (2 * w) q fun s =>
    let r := blockRange w true q.args
    match rangeErr ext 2048 r with
    | some e => lblErr e s
    | none => fieldTx busy (fun s => lblAnswer (0 :: (List.range r.2).map fun i => lockByte s (r.1 + i)) s) s

/-- INVENTORY: answered unless the tag is quiet, the mask differs or another AFI is asked for (ISO/IEC 15693, log 73). -/
def execLblInventory (req : Bytes) (s : State) : Out :=
  fieldRun (· == 1) req (fun q s =>
    let afi := q.flags.testBit 4
    let a := if afi then q.args.drop 1 else q.args
    let len := u8 a 0
    let bytes := ceilDiv len 8
    if a.length != 1 + bytes || decide (64 < len) then lblErr 0x02 s
    else if (afi && u8 q.args 0 != 0) || leAt (a.drop 1) 0 bytes % 2 ^ len != u64 s.lblUid 0 % 2 ^ len then s
    else lblAnswer ([0, 0] ++ s.lblUid) s) s
/-- STAY_QUIET: addressed only, and never answered. -/
def execLblStayQuiet (req : Bytes) (s : State) : Out :=
  fieldRun (· == 2) req (fun q s => whenS (q.flags.testBit 5) (modLbl fun x => { x with tag := 1 }) s) s
/-- READ_SINGLE_BLOCK. -/
def execLblReadSingleBlock (req : Bytes) (busy : Nat) (s : State) : Out := fieldRun (· == 0x20) req (fieldRead false false busy) s
/-- WRITE_SINGLE_BLOCK. -/
def execLblWriteSingleBlock (req : Bytes) (busy : Nat) (s : State) : Out := fieldRun (· == 0x21) req (fieldWrite false false busy) s
/-- LOCK_BLOCK. -/
def execLblLockBlock (req : Bytes) (busy : Nat) (s : State) : Out := fieldRun (· == 0x22) req (fieldLock false busy) s
/-- READ_MULTIPLE_BLOCKS. -/
def execLblReadMultipleBlocks (req : Bytes) (busy : Nat) (s : State) : Out := fieldRun (· == 0x23) req (fieldRead false true busy) s
/-- WRITE_MULTIPLE_BLOCKS. -/
def execLblWriteMultipleBlocks (req : Bytes) (busy : Nat) (s : State) : Out := fieldRun (· == 0x24) req (fieldWrite false true busy) s
/-- SELECT: addressed only. -/
def execLblSelect (req : Bytes) (s : State) : Out :=
  fieldRun (· == 0x25) req (fun q s => whenS (q.flags.testBit 5) (fun s => lblAnswer [0] (modLbl (fun x => { x with tag := 2 }) s)) s) s
/-- RESET_TO_READY. -/
def execLblResetToReady (req : Bytes) (s : State) : Out :=
  fieldRun (· == 0x26) req (fun _ s => lblAnswer [0] (modLbl (fun x => { x with tag := 0 }) s)) s
/-- GET_SYSTEM_INFO: DSFID, AFI and memory size of 256 blocks of 4 bytes; no IC reference (log 73). -/
def execLblGetSystemInfo (req : Bytes) (s : State) : Out :=
  fieldRun (· == 0x2B) req (fun q => sized 0 q fun s => lblAnswer ([0, 0x07] ++ s.lblUid ++ [0, 0, 0xFF, 3]) s) s
/-- GET_MULTIPLE_BLOCK_SECURITY_STATUS. -/
def execLblGetMultipleBlockSecurityStatus (req : Bytes) (busy : Nat) (s : State) : Out := fieldRun (· == 0x2C) req (fieldSecurity false busy) s
/-- EXTENDED_READ_SINGLE_BLOCK. -/
def execExtendedReadSingleBlock (req : Bytes) (busy : Nat) (s : State) : Out := fieldRun (· == 0x30) req (fieldRead true false busy) s
/-- EXTENDED_WRITE_SINGLE_BLOCK. -/
def execExtendedWriteSingleBlock (req : Bytes) (busy : Nat) (s : State) : Out := fieldRun (· == 0x31) req (fieldWrite true false busy) s
/-- EXTENDED_LOCK_SINGLE_BLOCK. -/
def execExtendedLockSingleBlock (req : Bytes) (busy : Nat) (s : State) : Out := fieldRun (· == 0x32) req (fieldLock true busy) s
/-- EXTENDED_READ_MULTIPLE_BLOCKS. -/
def execExtendedReadMultipleBlocks (req : Bytes) (busy : Nat) (s : State) : Out := fieldRun (· == 0x33) req (fieldRead true true busy) s
/-- EXTENDED_WRITE_MULTIPLE_BLOCKS. -/
def execExtendedWriteMultipleBlocks (req : Bytes) (busy : Nat) (s : State) : Out := fieldRun (· == 0x34) req (fieldWrite true true busy) s
/-- EXTENDED_GET_SYSTEM_INFO and the extended block security status, codes 0x3B and 0x3C: 2,048 blocks (log 73). -/
def execExtendedGetSystemInfo (req : Bytes) (busy : Nat) (s : State) : Out :=
  fieldRun (fun c => c == 0x3B || c == 0x3C) req (fun q s =>
    if q.code = 0x3C then fieldSecurity true busy q s
    else sized 1 q (fun s =>
      let ask := u8 q.args 0 % 8
      lblAnswer ([0, BitVec.ofNat 8 ask] ++ s.lblUid ++ (if ask.testBit 0 then [0] else []) ++ (if ask.testBit 1 then [0] else [])
        ++ (if ask.testBit 2 then putLe 2 2047 ++ [3] else [])) s) s) s
/-- UNSUPPORTED_FIELD_COMMAND (R803). -/
def execUnsupportedFieldCommand (req : Bytes) (s : State) : Out := fieldRun (fun c => !fieldCode c) req (fun _ s => lblErr 0x01 s) s

/-- MBX_SUBMIT (R817-R819). -/
def execMbxSubmit (req : Bytes) (busy : Nat) (s : State) : Out :=
  fieldRun (· == 0xA0) req (fun q s =>
    let p := q.args
    if !inR p.length 20 64 || p.length % 4 != 0 || u16 p 8 != 0x6000 then lblErr 0xA6 s
    else if !s.transportsUp || !s.lblOn then lblErr 0xA2 s
    else fieldTx (min busy 2000) (fun s =>
      if u8 (s.lbl.mem.readN 4352 1) 0 = 1 then
        lblErr 0xA3 (logEvent 20 stBusy (cmdDetail ⟨6, 0, 0⟩ (u16 p 4) (u16 p 6) (u16 p 12) stBusy 0xFFFF 0) s)
      else
        let s := lblStore 4352 ([1, 0] ++ slice p 6 2 ++ zeros 252) s
        frontEnd ⟨6, 0, 0⟩ 0 .label p (routePost 0x0B (lblAnswer [0] s))) s) s
/-- WAKE (R821, R822). -/
def execLblWake (req : Bytes) (s : State) : Out :=
  fieldRun (· == 0xA1) req (fun q => sized 4 q fun s =>
    if s.pmc.st == .off then lblErr 0xA2 s
    else if s.us < s.lbl.barred then lblErr 0xA4 s
    else if u32 q.args 0 != s.lblWakeCode then
      let w := s.lbl.wrong.filter (fun t => decide (s.us < t + 60000000)) ++ [s.us]
      lblErr 0xA4 (modLbl (fun x => if 4 ≤ w.length then { x with wrong := [], barred := s.us + 60000000 } else { x with wrong := w }) s)
    else if s.pmc.st == .shelf then
      if s.aon.wakeMask.testBit 3 then wakeEvent 4 3 (modLbl (fun x => { x with wokeAt := some s.aon.rtcSec.toNat }) (lblAnswer [0] s))
      else lblErr 0xA5 s
    else lblAnswer [0] s) s

/-- READER_FIELD: a field appears or leaves; a tag without a field is ready when it is powered again (ISO/IEC 15693, log 73). An accepted
transaction completes all the same (R812). -/
def execReaderField (present : Bool) (s : State) : Out :=
  .next (modLbl (fun x => { x with field := present, tag := if present then x.tag else 0 }) s)
/-- LABEL_DEVICE_READ (R813): the warden's write of OP = READ. -/
def execLabelDeviceRead (core : Nat) (s : State) : Out := .next (lblOp core 1 s)
/-- LABEL_DEVICE_WRITE (R813): the warden's write of OP = WRITE. -/
def execLabelDeviceWrite (core : Nat) (s : State) : Out := .next (lblOp core 2 s)
/-- LABEL_DEFERRED_RETRY (R809): the field transaction has ended and the deferred request is tried again. -/
def execLabelDeferredRetry (s : State) : Out := .next (lblGo (modLbl (fun x => { x with fieldEnd := min x.fieldEnd s.us }) s))
/-- LABEL_DEFER_TIMEOUT (R810): the deferred operation completes with TIMEOUT. The core of an operation that no warden issued is open (log 74). -/
def execLabelDeferTimeout (s : State) : Out :=
  match s.lbl.jobs with
  | j :: rest =>
    if j.running || j.since.isNone then .next s
    else
      let (core, s) := match j.use with
        | .warden c => (c, s)
        | _ => freeNat 256 s
      let s := logEvent 24 0x8003 (detail [(16, 1, core), (18, 2, j.addr / 4)]) s
      .next (lblGo (jobEnd j stTimeout (modLbl (fun x => { x with jobs := rest }) s)))
  | [] => .next s
/-- LABEL_WRITE_COMMIT (R811): the running write commits and the next transaction is accepted. -/
def execLabelWriteCommit (s : State) : Out := .next (lblGo (lblCommit s))
/-- MIRROR_TIMEOUT (R816): the remaining records are not written; the identity record is. -/
def execMirrorTimeout (s : State) : Out :=
  if s.lbl.mirrorAt.isNone then .next s
  else
    let mine (j : LblJob) : Bool := match j.use with
      | .mirror _ _ | .mirrorEnd => !j.running
      | _ => false
    let coming := (s.lbl.jobs.filter fun j => j.running).foldl (fun n j => match j.use with | .mirror r k => r + k | _ => n) s.lbl.mirrored
    let short := decide (coming < s.mirrorRecords.length)
    let s := modLbl (fun x => { x with jobs := x.jobs.filter fun j => !mine j }) s
    let s := whenS short (logEvent 24 0x8002 (detail [(16, 1, coming)])) s
    let s := if s.lblWriting || s.lblField then lblSubmit { use := .mirrorEnd, addr := 2048 } s else lblStore 2048 (identFull s.lbl.mirrored s) s
    .next (mirrorOver s)

end Sys2Proof.Machine
end

