-- ==== Sys2Proof/Machine/Lattice.lean ====
section
/-!
DEFINITION. Sys2Proof/Machine/Lattice.lean: lattice links, vertices, routes, stacks and the lattice opcodes (ch 24, 25).
-/
namespace Sys2Proof.Machine
open Sys2Proof

/-! ### Frames -/

/-- LATTICE_FRAME_RECEIVED (R852-R855): 256 bytes that start at a bit offset of a lane. -/
def execLatticeFrameReceived (link offset : Nat) (bytes : Bytes) (s : State) : Out :=
  .next (if link < 4 && (s.link link).mode == 1 && s.isOn 58 && s.isOn (59 + link) then hoCheck (laneFrame link offset bytes s) else s)
/-- LATTICE_FRAME_SLOT (R851). -/
def execLatticeFrameSlot (link : Nat) (s : State) : Out := .next (if link < 4 then latSlot link s else s)
/-- TUNNEL_FRAME_RECEIVED (R878): a frame of port p with its FCS. -/
def execTunnelFrameReceived (p : Nat) (bytes : Bytes) (s : State) : Out :=
  let body := bytes.take (bytes.length - 4)
  let good := decide (64 ≤ bytes.length) && decide (bytes.length ≤ (s.port p).maxFrame) && u32 bytes (bytes.length - 4) == (fcs body).toNat
  match if good && s.portUp p && s.dataOn && s.pmc.trans.isNone then s.tunnelLink p body else none with
  | some l => .next (hoCheck (tunnelIn l body (countEv 1 p 6 bytes.length (countEv 1 p 0 1 s))))
  | none => .next s
/-- TUNNEL_FLUSH (R880). -/
def execTunnelFlush (link : Nat) (s : State) : Out := .next (if link < 4 && (s.link link).mode == 2 then tunnelFlush link s else s)
/-- Take the first received control carriage that a test selects. -/
def takeInbox (sel : Nat → Bytes → Bool) (s : State) : Option (Nat × Bytes × State) :=
  match s.lat.inbox.find? fun x => sel x.1 x.2.1 with
  | none => none
  | some x => some (x.1, x.2.1, cadRelease x.2.2 (modLat (fun y => { y with inbox := y.inbox.erase x }) s))
/-- COMMAND_CARRIAGE (R874, R891): the oldest carriage of TYPE 0x01 goes to the front end. -/
def execCommandCarriage (s : State) : Out :=
  match takeInbox (fun _ b => u8 b 4 == 1) s with
  | none => .next s
  | some (l, b, s) =>
    let src := u16 b 2 % 4096
    .next (if s.transportsUp && !s.domLost 58 then frontEnd ⟨4, src, if src = 0 then l + 1 else 0⟩ l (.lattice l src) (b.drop 8) s else s)

/-! ### Link states (Table 24-3, R857-R862) -/

/-- SYMBOL_LOCK: a lane goes from TRAINING to SEARCHING. -/
def execSymbolLock (link : Nat) (s : State) : Out :=
  let x := s.link link
  .next (if link < 4 && x.mode == 1 && x.st == 2 then modLink link (fun x => { x with st := 3, cand := none }) s else s)
/-- A training fails (R858): DOWN, and a new one after 1 s. -/
def trainFailed (link : Nat) (s : State) : State :=
  logLimited 26 0x8003 link 1 10000000 (detail [(16, 1, link)]) (modLink link (fun x => { x.fallen with retrain := true }) s)
/-- SYMBOL_LOCK_TIMEOUT: 20 ms of TRAINING without symbol lock. -/
def execSymbolLockTimeout (link : Nat) (s : State) : Out :=
  let x := s.link link
  .next (if link < 4 && x.mode == 1 && x.st == 2 then trainFailed link s else s)
/-- TRAINING_TIMEOUT (R858): 100 ms since TRAINING without UP. -/
def execTrainingTimeout (link : Nat) (s : State) : Out := .next (if link < 4 && inR (s.link link).st 2 4 then trainFailed link s else s)
/-- LINK_RETRAIN (R858). -/
def execLinkRetrain (link : Nat) (s : State) : Out :=
  .next (if link < 4 && (s.link link).retrain then latTrain link (modLink link (fun x => { x with retrain := false }) s) else s)
/-- HELLO_TIMER (R859). -/
def execHelloTimer (link : Nat) (s : State) : Out := .next (if link < 4 && 4 ≤ (s.link link).st then modLink link (fun x => { x with helloDue := true }) s else s)
/-- DEAD_TIMER (R862). -/
def execDeadTimer (link : Nat) (s : State) : Out := .next (if link < 4 && s.latUp link then hoCheck (linkDown link 1 s) else s)
/-- REPLAY_TIMER (R866, R867). -/
def execReplayTimer (link : Nat) (s : State) : Out :=
  let x := s.link link
  if link < 4 && x.st == 5 && !x.replay.isEmpty then
    .next (if 8 ≤ x.expiries + 1 then hoCheck (linkDown link 3 s) else modLink link (fun x => { x with expiries := x.expiries + 1, resend := some 0 }) s)
  else .next s
/-- QUALITY_WINDOW (R875, R876). A window without a frame has no ratio, and changes nothing. -/
def execQualityWindow (link : Nat) (s : State) : Out :=
  let x := s.link link
  if 4 ≤ link then .next s
  else
    let w := x.now
    let s := modLink link (fun x => { x with last := w, now := {} }) s
    if w.rx = 0 || x.st < 4 then .next s
    else
      let fer := (w.bad + w.fcrc) * 1000000 / w.rx
      let exceeds (limit : Nat) : Bool := decide (limit * w.rx ≤ (w.bad + w.fcrc) * 1000000)
      let degrade := u16 x.block 6; let down := u16 x.block 8
      let note (v : Nat) (s : State) : State := logEvent 26 0x8004 (detail [(16, 1, link), (17, 1, v), (20, 4, fer)]) s
      let s := if exceeds degrade then
          (if x.degraded then modLink link (fun x => { x with calm := 0 }) s
           else lsaDue (note 1 (modLink link (fun x => { x with degraded := true, calm := 0 }) s)))
        else if x.degraded then
          let calm := if (w.bad + w.fcrc) * 2000000 < degrade * w.rx then x.calm + 1 else 0
          (if 10 ≤ calm then lsaDue (note 0 (modLink link (fun x => { x with degraded := false, calm := 0 }) s)) else modLink link (fun x => { x with calm := calm }) s)
        else s
      .next (if exceeds down && x.st == 5 then hoCheck (linkDown link 4 s) else s)

/-! ### Vertices and routes (R887-R897) -/

/-- LSA_RECEIVED (R893-R895): the oldest carriage of TYPE 0x10. -/
def execLsaReceived (s : State) : Out :=
  match takeInbox (fun _ b => u8 b 4 == 0x10) s with
  | none => .next s
  | some (l, b, s) => .next (if s.domLost 58 then s else lsaIn l (b.drop 8) s)
/-- LSA_ORIGINATE (R892). -/
def execLsaOriginate (s : State) : Out := .next (if s.transportsUp && s.isOn 58 then originate s else s)
/-- LSA_AGE_EXPIRY (R895). -/
def execLsaAgeExpiry (serial : Nat) (s : State) : Out :=
  .next (if serial == s.ownSerial then s else modLat (fun x => { x with lsdb := tdel serial x.lsdb }) s)
/-- VERTEX_CLAIM_HELD (R889). -/
def execVertexClaimHeld (s : State) : Out :=
  .next (if s.lat.vst = 1 then lsaDue (logEvent 26 0x8008 (detail [(16, 2, s.lat.id)]) (modLat (fun x => { x with vst := 2 }) s)) else s)
/-- ROUTE_RECOMPUTE (R897, R909). -/
def execRouteRecompute (s : State) : Out := .next (recompute s)

/-! ### Handover (R916-R928) -/

/-- HANDOVER_STATE_RECEIVED (R920): a message that its carriages, TYPE 0x14 and 0x15, have brought on a link. -/
def execHandoverStateReceived (link : Nat) (msg : HoMsg) (s : State) : Out :=
  let s := match takeInbox (fun l b => l == link && (u8 b 4 == 0x14 || u8 b 4 == 0x15)) s with
    | some (_, _, s) => s
    | none => s
  .next (if s.latUp link then hoTake link msg s else s)
/-- HANDOVER_STOP (R921). -/
def execHandoverStop (s : State) : Out := .next (hoStop s)
/-- HANDOVER_WORK_DEADLINE (R921). -/
def execHandoverWorkDeadline (s : State) : Out := .next (hoCopy s)
/-- HANDOVER_STOP_TIMEOUT (R922). -/
def execHandoverStopTimeout (s : State) : Out :=
  .next (if s.lat.ho.source && s.lat.ho.phase == 2 && !s.lat.ho.applied then hoAbort s else s)
/-- HANDOVER_SWITCH (R923). -/
def execHandoverSwitch (s : State) : Out := .next (hoSwitch s)
/-- HANDOVER_RELEASE (R925). -/
def execHandoverRelease (s : State) : Out := .next (hoRelease s)

/-! ### Opcodes (Tables 25-5 to 25-8) -/

/-- A link's status entry (Table 24-9). -/
def linkEntry (s : State) (l : Nat) : Bytes :=
  let x := s.link l
  putLe 1 x.st ++ putLe 1 (b2n x.degraded) ++ putLe 1 x.mode ++ putLe 1 x.peerLane ++ putLe 8 x.peerSerial ++ putLe 2 x.peerVertex ++ zeros 2
    ++ putLe 4 x.last.rx ++ putLe 4 x.last.bad ++ putLe 4 x.last.fcrc ++ putLe 4 x.last.retx
/-- LAT_STATUS (Table 25-8). -/
def execLatStatus (s : State) : Out :=
  interpret 0x0B01 (fun p => checked p 0 [] fun s =>
    let x := s.lat
    complete p stOk (putLe 2 (x.id + 4096 * x.vst) ++ putLe 2 x.alias_ ++ putLe 1 x.stackId ++ putLe 1 x.role ++ putLe 1 x.partition.length ++ putLe 1 (b2n s.quorum)
      ++ putLe 2 ((x.leader.map s.vertexOf).getD 0) ++ putLe 2 x.lsdb.length ++ putLe 2 x.routes.length ++ putLe 1 x.ho.phase ++ [0]
      ++ ((List.range 4).map (linkEntry s)).flatten) s) s
/-- MAX_FRAME of a tunnel's PORT; of an aggregate, its members' least (R881). -/
def State.tunnelMax (s : State) (port : Nat) : Nat :=
  if inR port 0x48 0x4F then (s.port (port - 0x48)).maxFrame else (((s.agg (port - 0x50)).members.map fun p => (s.port p).maxFrame).min?).getD 0
/-- The fields of a link configuration block at an offset of the parameters (Table 24-6, R881). -/
def linkFields (s : State) (b : Bytes) : List (Nat × Bool) :=
  let o := 4
  let tunnel := u8 b (o + 1) == 2
  let ether := beAt b (o + 12) 2
  let vid := beAt b (o + 14) 2 % 4096
  let tag := b2n (vid != 4095)
  [(o, decide (u8 b o ≤ 3)), (o + 1, decide (u8 b (o + 1) ≤ 2)), (o + 2, inR (u8 b (o + 2)) 1 250), (o + 3, inR (u8 b (o + 3)) 3 16), (o + 4, inR (u16 b (o + 4)) 2 10000),
   (o + 6, inR (u16 b (o + 6)) 1 10000), (o + 8, decide (u16 b (o + 6) < u16 b (o + 8)) && decide (u16 b (o + 8) ≤ 100000)),
   (o + 10, !tunnel || inR (u8 b (o + 10)) 0x48 0x53),
   (o + 11, inR (u8 b (o + 11)) 1 32 && (!tunnel || decide (u8 b (o + 11) ≤ (s.tunnelMax (u8 b (o + 10)) - 22 - 4 * tag) / 252))),
   (o + 12, decide (0x600 ≤ ether) && !([0x8100, 0x88A8, 0x8808, 0x88E5, 0x88CC].contains ether)), (o + 14, !(beAt b (o + 14) 2).testBit 12),
   (o + 16, !(u8 b (o + 16)).testBit 0), (o + 22, inR (u16 b (o + 22)) 1 1000), (28, decide (1 ≤ u16 b 28))]
/-- Store a link's configuration (R882). -/
def setLinkCfg (l cost : Nat) (block : Bytes) (s : State) : State :=
  let x := s.link l
  let key (b : Bytes) : Nat × Nat × Bytes × Bytes × Bytes := (u8 b 1, if u8 b 1 == 2 then u8 b 10 else 0, if u8 b 1 == 2 then slice b 16 6 else [], if u8 b 1 == 2 then slice b 14 2 else [], if u8 b 1 == 2 then slice b 12 2 else [])
  let s := if key x.block == key block then s else linkDown l 9 (modLink l (fun x => { x with retrain := true }) s)
  let s := modLink l (fun x => { x with block := block, cost := cost, retrain := if key x.block == key block then x.retrain else false }) s
  let s := syncUse (59 + l) s
  latStart (if x.cost = cost then s else lsaDue s)
/-- LAT_VERTEX_SET (R887, R898, R928, Table 25-5). -/
def execLatVertexSet (s : State) : Out :=
  interpret 0x0B02 (fun p s =>
    let b := p.params
    match u8 b 0 with
    | 1 => checked p 4 [(1, decide (u8 b 1 ≤ 2)), (2, if u8 b 1 == 1 then inR (u16 b 2) 1 4095 else u16 b 2 == 0)] (fun s =>
        let mode := u8 b 1
        let same := mode == s.lat.mode && (mode != 1 || u16 b 2 == s.lat.fixed)
        let s := modLat (fun x => { x with mode := mode, fixed := u16 b 2, alias_ := if mode = 0 || !same then 0 else x.alias_ }) s
        ok p (if same && s.lat.vst != 0 then s else startClaim (lsaDue s))) s
    | 2 => checked p 32 (linkFields s b) (fun s => ok p (hoCheck (setLinkCfg (u8 b 4) (u16 b 28) (slice b 4 24) s))) s
    | _ => if b.length != 4 && b.length != 32 then fail p stBadLength 0xFFFF 0 s else badParam p 0 s) s
/-- The serials of a JOIN: no serial twice, 0 beyond COUNT. -/
def serialsBad (b : Bytes) : Option Nat :=
  let n := u8 b 3
  let at_ (i : Nat) : Nat := u64 b (16 + 8 * i)
  ((List.range 8).find? fun i => if n ≤ i then at_ i != 0 else (List.range i).any fun j => at_ j == at_ i).map fun i => 16 + 8 * i
/-- LAT_STACK_JOIN (R906, R912, R913, R915, Table 25-6). -/
def execLatStackJoin (s : State) : Out :=
  interpret 0x0B03 (fun p s =>
    let b := p.params
    match u8 b 0 with
    | 1 =>
      let slot := u16 b 4
      let slotOk := slot == 0xFFFF || (s.cry.slots.lookup slot).any fun k => k.type == 1
      checked p 80 [(1, decide (1 ≤ u8 b 1)), (3, inR (u8 b 3) 2 8), (4, slotOk), (6, !(u8 b 6).testBit 0)] (fun s =>
        match serialsBad b with
        | some o => badParam p o s
        | none =>
          if !((List.range (u8 b 3)).any fun i => u64 b (16 + 8 * i) == s.ownSerial) then badParam p 16 s
          else if s.lat.stackId != 0 && s.lat.stackId != u8 b 1 then fail p stBusy 0xFFFF 1 s
          else ok p (lsaDue (modLat (fun x => { x with stack := b, role := max 1 x.role }) s))) s
    | 2 => checked p 8 [(1, decide (u8 b 1 ≤ 3)), (2, inR (u8 b 2) 1 2)] (fun s =>
        let a := u8 b 1
        if u8 b 2 == 2 then ok p (modLat (fun x => { x with bound := nclr a x.bound }) s)
        else if !(s.agg a).on then badParam p 1 s
        else if s.lat.stack.isEmpty then fail p stBusy 0xFFFF 2 s
        else ok p (modLat (fun x => { x with bound := nset a x.bound }) (wakeAgg a s))) s
    | _ => if b.length != 80 && b.length != 8 then fail p stBadLength 0xFFFF 0 s else badParam p 0 s) s
/-- LAT_STACK_LEAVE (R912). -/
def execLatStackLeave (s : State) : Out :=
  interpret 0x0B04 (fun p s => checked p 4 [(0, u8 p.params 0 == 0xA5)] (fun s =>
    ok p (lsaDue (elect (modLat (fun x => { x with stack := [], bound := [] }) s)))) s) s
/-- LAT_HANDOVER (R916, R917, R927, Table 25-7). -/
def execLatHandover (s : State) : Out :=
  interpret 0x0B05 (fun p s =>
    let b := p.params
    let act := u8 b 0
    checked p 8 ((0, inR act 1 3) :: (if act == 1 then [(1, u8 b 1 == 0xA5), (2, inR (u16 b 2) 1 4095)] else [])) (fun s =>
      match act with
      | 1 => hoStart p s
      | 2 => if inR s.lat.ho.phase 3 5 then fail p stBusy 0xFFFF 0x86 s else let s := hoAbort s; complete p stOk (hoReply s) s
      | _ => complete p stOk (hoReply s) s) s) s

end Sys2Proof.Machine
end

