-- ==== Sys2Proof/Machine/BootOps.lean ====
section
/-!
DEFINITION. Sys2Proof/Machine/BootOps.lean: signed containers, warden images, the boot record and the slots (ch 26, ch 19 R726-R727).
-/
namespace Sys2Proof.Machine
open Sys2Proof

/-- Change the life-cycle controller. -/
def modLcy (f : Lcy → Lcy) (s : State) : State := { s with lcy := f s.lcy }
/-- The port runs in TARGET mode, where flash writes after BOOT_DONE wait (R955). -/
def State.flashWaits (s : State) : Bool := s.xsp.target && s.lcy.bootDone

/-! ### Warden images (Table 19-8, Table 19-9) -/

/-- Offset of role r's descriptor. -/
def descAt (r : Nat) : Nat := 64 + 32 * r
/-- The sections of role r: code, data. -/
def imageSections (b : Bytes) (r : Nat) : Bytes × Bytes :=
  let o := descAt r
  (slice b (u32 b o) (2 * u32 b (o + 4)), slice b (u32 b (o + 8)) (2 * u32 b (o + 12)))
/-- The checks of R727: MAGIC and VERSION, every range (a reserved field's range is 0, log 90), sections within the image, SECTION_CRC. -/
def imageOk (b : Bytes) : Bool :=
  let zero (o n : Nat) : Bool := (slice b o n).all (· == 0)
  let role (r : Nat) : Bool :=
    let o := descAt r
    let sec := imageSections b r
    u32 b o % 2 == 0 && inR (u32 b (o + 4)) 1 65536 && u32 b (o + 8) % 2 == 0 && decide (u32 b (o + 12) ≤ 65536)
      && decide (u8 b (o + 22) < 4) && decide (u8 b (o + 23) ≤ 7) && inR (u16 b (o + 24)) 10 10000 && zero (o + 26) 2
      && decide (u32 b o + 2 * u32 b (o + 4) ≤ b.length) && decide (u32 b (o + 8) + 2 * u32 b (o + 12) ≤ b.length)
      && u32 b (o + 28) == (crc32c (sec.1 ++ sec.2)).toNat
  u32 b 0 == 0x57444E31 && u16 b 4 == 1 && zero 6 2 && zero 12 4 && zero 30 34 && decide (192 ≤ b.length)
    && ((List.range 14).all fun i => decide (u8 b (16 + i) < 128)) && ([0, 1, 2, 3] : List Nat).all role
/-- The words of a section. -/
def wordsOf (b : Bytes) : List Nat := (List.range (b.length / 2)).map fun i => u16 b (2 * i)
/-- What the image gives role r. -/
def imageRole (b : Bytes) (r : Nat) : RoleDesc :=
  let o := descAt r
  let sec := imageSections b r
  { code := wordsOf sec.1, data := wordsOf sec.2, entry := u16 b (o + 16), initSp := u16 b (o + 18), slim := u16 b (o + 20),
    sm := (u8 b (o + 22)).testBit 0, ovf := (u8 b (o + 22)).testBit 1, prio := u8 b (o + 23), wdogMs := u16 b (o + 24) }
/-- AREA_MAP: area, role, task. -/
def imageAreas (b : Bytes) : List (Nat × (Nat × Nat)) :=
  (List.range 14).map fun i => (i + 1, (bitsOf (u8 b (16 + i)) 6 5, bitsOf (u8 b (16 + i)) 4 0))

/-! ### Signed containers (Table 26-5, Table 26-6) -/

/-- KIND. -/
def conKind (c : Bytes) : Nat := u8 c 6
/-- TRUST_GEN. -/
def conGen (c : Bytes) : Nat := u8 c 7
/-- SVN. -/
def conSvn (c : Bytes) : Nat := u32 c 16
/-- PAYLOAD. -/
def conPayload (c : Bytes) : Bytes := slice c 96 (u32 c 20)
/-- The type codes of R945 in the public key and the signature, where RFC 8554 places them (log 32). -/
def conTypes (key sig : Bytes) : Bool :=
  beAt key 0 4 == 2 && beAt key 4 4 == 6 && beAt key 8 4 == 4
    && beAt sig 0 4 == 1 && beAt sig 8 4 == 4 && beAt sig 1132 4 == 6 && beAt sig 1456 4 == 7 && beAt sig 1460 4 == 4 && beAt sig 1516 4 == 4 && beAt sig 2640 4 == 7
/-- The checks of Table 26-6 on a container of a KIND, with what check 7 asks of its payload: the reason of the first failure. -/
def State.conFault (s : State) (kind : Nat) (c : Bytes) (payload : Bytes → Bool) : Option Nat :=
  let n := u32 c 20
  let g := conGen c
  let key := slice c 32 60
  let sig := slice c (96 + n) 3124
  let gens : Bool := inR g 1 12 && (match kind with
    | 1 => decide (s.trustGen ≤ g)
    | 2 => g == s.trustGen
    | _ => decide (s.trustGen < g))
  let serial := slice c 8 8
  let checks : List (Nat × Bool) :=
    [(1, u32 c 0 == 0x53544331 && u16 c 4 == 1 && conKind c == kind && u32 c 28 == 0 && u32 c 92 == 0 && u32 c 24 == 3124
        && decide (conSvn c ≤ if kind == 1 then 64 else 0)),
     (2, n % 4 == 0 && (match kind with
        | 1 => inR n 16 2093932
        | 2 => n == 48
        | _ => n == 16) && c.length == 96 + n + 3124),
     (3, gens && s.hashWritten g && Config.sha256 key == s.trustHash g),
     (4, conTypes key sig && Config.hssVerify key (c.take (96 + n)) sig),
     (5, serial == s.serial || (kind == 1 && serial == zeros 8)),
     (6, kind != 1 || decide (s.minSvn ≤ conSvn c)),
     (7, payload (conPayload c)),
     (8, kind == 1 || slice (conPayload c) 8 8 == s.lcy.nonce)]
  (checks.find? fun x => !x.2).map (·.1)
/-- A new NONCE (R947): its value is open. -/
def drawNonce (s : State) : State := let (b, s) := freeBytes 8 s; modLcy (fun l => { l with nonce := b }) s
/-- A container is accepted: SIGNATURE (R961), and a new NONCE where it names one (R947). -/
def acceptCon (c : Bytes) (s : State) : State :=
  let sig := slice c (96 + u32 c 20) 3124
  let s := logEvent 28 0x8007 (detail [(16, 1, conKind c), (17, 1, conGen c), (20, 4, beAt sig 4 4), (24, 4, beAt sig 1512 4)]) s
  if conKind c == 1 then s else drawNonce s
/-- What check 7 asks of an authorisation: OP, ARG, GEN, DIGEST and zeros (Table 26-7). -/
def authPayload (op arg gen : Nat) (digest b : Bytes) : Bool :=
  u8 b 0 == op && u8 b 1 == arg && u8 b 2 == gen && (slice b 3 5).all (· == 0) && slice b 16 32 == digest
/-- What check 7 asks of a roll. -/
def rollPayload (c b : Bytes) : Bool := u32 b 0 == conGen c && u32 b 4 == 0

/-! ### Slots -/

/-- The container in a flash slot, with erased bytes beyond what was programmed (Table 26-8). -/
def State.slotCon (s : State) (k : Nat) : Bytes :=
  let b := s.flash.slots.getD k []
  let n := min 2097152 (96 + u32 b 20 + 3124)
  (b ++ List.replicate (n - b.length) 0xFF).take n
/-- Why a slot in flash does not verify. -/
def State.slotFault (s : State) (k : Nat) : Option Nat := let c := s.slotCon k; s.conFault 1 c imageOk
/-- Set the state of a slot. -/
def markSlot (k st : Nat) (s : State) : State := modLcy (fun l => { l with slotSt := l.slotSt.set k st }) s
/-- The slot that is not running; in ROM service the one that is not ACTIVE (R954, log 90). -/
def State.inactiveSlot (s : State) : Nat := 1 - (s.lcy.running.getD s.lcy.rec_.active)
/-- Slots whose images no longer pass checks 3 and 6 become invalid (R958, R960). -/
def recheckSlots (s : State) : State :=
  forEach [0, 1] (fun k s =>
    let c := if (s.lcy.halves.getD k []).isEmpty then s.slotCon k else s.lcy.halves.getD k []
    if s.lcy.slotSt.getD k 0 == 1 && (conGen c < s.trustGen || conSvn c < s.minSvn) then markSlot k 2 s else s) s

/-! ### Boot record (Table 26-8, R949) -/

/-- The valid copy with the higher SEQ. -/
def Flash.best (f : Flash) : Option BootRec :=
  match f.recs.getD 0 none, f.recs.getD 1 none with
  | some a, some b => some (if a.seq < b.seq then b else a)
  | some a, none => some a
  | none, b => b
/-- A record write: to the copy with the lower SEQ, with SEQ increased by 1. A copy that is not valid counts as the lower (log 90). -/
def writeRec (r : BootRec) (s : State) : State :=
  let seq := (s.flash.best.map fun b => b.seq + 1).getD 1
  let low := match s.flash.recs.getD 0 none, s.flash.recs.getD 1 none with
    | some a, some b => if a.seq ≤ b.seq then 0 else 1
    | some _, none => 1
    | _, _ => 0
  let r : BootRec := { r with seq := seq % 2 ^ 32 }
  modLcy (fun l => { l with rec_ := r }) { s with flash := { s.flash with recs := s.flash.recs.set low (some r) } }
/-- A record write after BOOT_DONE: in TARGET mode it waits (R955). -/
def putRec (r : BootRec) (s : State) : State :=
  if s.flashWaits then modLcy (fun l => { l with rec_ := r, pendRec := some r }) s else writeRec r s
/-- Flash writes that waited are made (R955). -/
def flushFlash (s : State) : State :=
  let s := ifSome s.lcy.pendSlot (fun k s => { s with flash := { s.flash with slots := s.flash.slots.set k (s.lcy.halves.getD k []) } }) s
  let s := ifSome s.lcy.pendRec writeRec s
  modLcy (fun l => { l with pendSlot := none, pendRec := none }) s

/-! ### Secure boot (R937, R949-R951) -/

/-- A slot that verifies boots: it is copied into its half, its roles start, and its identity is kept (R951, R726, R728). -/
def bootSlot (k : Nat) (s : State) : State :=
  let c := s.slotCon k
  let b := conPayload c
  let s := acceptCon c s
  let s := modLcy (fun l => { l with running := some k, svn := conSvn c, gen := conGen c, halves := l.halves.set k c }) s
  let s := modWdn (fun w => { w with areas := imageAreas b, fwVersion := u32 b 8 }) s
  forEach [0, 1, 2, 3] (fun r s => bootRole r (imageRole b r) s) s
/-- A slot is tried: it boots, or BOOT_FAIL is written. -/
def trySlot (k : Nat) (s : State) : Bool × State :=
  match s.slotFault k with
  | none => (true, bootSlot k s)
  | some r => (false, logEvent 28 0x8002 (detail [(16, 1, k), (17, 1, r)]) s)
/-- The slot that the boot record chooses, with the writes of R949; true where it is on trial. -/
def chooseSlot (s : State) : (Nat × Bool) × State :=
  let r : BootRec := s.flash.best.getD {}
  let s := modLcy (fun l => { l with rec_ := r }) s
  if r.trial == 0xFF then ((r.active, false), s)
  else if r.tries == 0 then ((r.active, false), logEvent 28 0x8004 (detail [(16, 1, r.trial)]) (writeRec { r with trial := 0xFF } s))
  else ((r.trial, true), writeRec { r with tries := r.tries - 1 } s)
/-- The device goes to ROM service (R937). -/
def romService (s : State) : State := modLcy (fun l => { l with rom := true }) s
/-- States of the slots as LCY finds them at boot (log 90). -/
def scanSlots (s : State) : State :=
  forEach [0, 1] (fun k s => markSlot k (if (s.flash.slots.getD k []).isEmpty then 0 else if (s.slotFault k).isNone then 1 else 2) s) s
/-- Secure boot from the choice of the slot on. -/
def bootImages (s : State) : State :=
  let ((k, trial), s) := chooseSlot (scanSlots (flushFlash s))
  let (good, s) := trySlot k s
  if good then modLcy (fun l => { l with trial := trial }) s
  else if (s.policy 0).testBit 1 then
    let (good, s) := trySlot (1 - k) s
    if good then modLcy (fun l => { l with fallback := true }) s else romService s
  else romService s

end Sys2Proof.Machine
end

