-- ==== Sys2Proof/Machine/Lifecycle.lean ====
section
/-!
DEFINITION. Sys2Proof/Machine/Lifecycle.lean: secure boot, life-cycle transitions, OTP settings, firmware images and trust generations (ch 26). A row
that programs OTP carries whether every word reads back as programmed.
-/
namespace Sys2Proof.Machine
open Sys2Proof

/-! ### Boot -/

/-- SECURE_BOOT (step 8 of Table 04-3; R937, R947-R951). -/
def execSecureBoot (s : State) : Out :=
  if s.pmc.st != .boot || s.pmc.upStep != 7 || s.rst.pinLow then .next s
  else
    let s := drawNonce { s with pmc := { s.pmc with upStep := 8 } }
    let s := modLcy (fun l => { l with step8 := s.us }) s
    let noHash := !((List.range 12).any fun i => s.hashWritten (i + 1))
    .next (if s.lcyState == 5 || noHash || s.policy 2 == 0 then romService (scanSlots (flushFlash s)) else bootImages s)
/-- The boot state is reached (R129, R134, R135, R138): HOLD by its own column without a drain. -/
def enterBootState (s : State) : State :=
  let s :=
    if s.pmc.bootState == 3 then
      let s := applyDomains .hold { s with pmc := { s.pmc with st := .hold } }
      whenS s.pmc.pfail startLimit s
    else enterRunTrim .run 0 s
  whenS s.pmc.vinLow (callDown true 2 6 0 50) s
/-- BOOT_DONE (R951, R957): transports run, the boot state is reached, the label and the lattice start, and a trial's confirm timer is armed. -/
def execBootDone (s : State) : Out :=
  if s.pmc.st != .boot || s.pmc.upStep != 8 || s.rst.pinLow then .next s
  else
    let s := modLcy (fun l => { l with bootDone := true }) s
    let s := ifSome s.lcy.running (fun k s =>
      logEvent 28 0x8001 (detail [(16, 1, k), (17, 1, s.lcy.gen), (18, 1, s.lcy.svn), (19, 1, b2n s.lcy.fallback + 2 * b2n s.lcy.trial), (20, 4, s.us - s.lcy.step8)]) s) s
    let s := lblBoot (enterBootState s)
    let s := if s.lcy.rom then s else latBoot s
    .next (modLcy (fun l => { l with confirmEnd := if l.trial then some (s.us + l.rec_.confirm * 1000000) else none }) s)
/-- CONFIRM_TIMER_EXPIRY (R957). -/
def execConfirmTimerExpiry (diode : Int) (s : State) : Out :=
  if s.lcy.trial && s.lcy.confirmEnd.isSome then .next (resetDone diode (takeReset .w 7 s)) else .next s
/-- TRANSITION_W_START (R933). -/
def execTransitionWStart (diode : Int) (s : State) : Out :=
  if s.rst.wPending == some 6 && s.live then .next (resetDone diode (takeReset .w 6 s)) else .next s
/-- ACTIVATION_W_START (R956). -/
def execActivationWStart (diode : Int) (s : State) : Out :=
  if s.rst.wPending == some 7 && s.live then .next (resetDone diode (takeReset .w 7 s)) else .next s

/-- LCY_STATE_GET (Table 26-10). -/
def execLcyStateGet (s : State) : Out :=
  interpret 0x0C01 (fun p => checked p 0 [] fun s =>
    let l := s.lcy
    let hashes := maskOf ((List.range 12).filter fun i => s.hashWritten (i + 1))
    let flags := b2n l.rom + 2 * b2n l.fallback + 4 * b2n l.trial + 8 * b2n s.cnt.session + 16 * b2n (l.pendSlot.isSome || l.pendRec.isSome)
    let left := match l.confirmEnd with
      | some e => ceilDiv (e - s.us) 1000000
      | none => 0xFFFFFFFF
    complete p stOk
      (putLe 1 s.lcyState ++ putLe 1 s.trustGen ++ putLe 2 hashes ++ putLe 1 (l.running.getD 0xFF) ++ putLe 1 l.rec_.active ++ putLe 1 l.rec_.trial
        ++ putLe 1 l.rec_.tries ++ putLe 1 (l.slotSt.getD 0 0) ++ putLe 1 (l.slotSt.getD 1 0) ++ putLe 1 s.minSvn ++ putLe 1 l.svn ++ putLe 1 l.gen
        ++ putLe 1 (124 - s.lcChanges) ++ putLe 1 flags ++ zeros 1 ++ l.nonce.take 8 ++ ((List.range 11).map fun i => putLe 1 (s.groupGen (i + 1))).flatten
        ++ putLe 1 s.repairInForce ++ putLe 4 left ++ zeros 8) s) s

/-! ### Transitions (R931-R935, Table 26-1) -/

/-- A row of Table 26-1 exists for a pair of states. -/
def transitionKnown (from_ to_ : Nat) : Bool :=
  to_ == 5 && from_ < 5 || (from_, to_) == (1, 2) || (from_, to_) == (2, 3) || (from_, to_) == (3, 4) || (from_, to_) == (4, 3)
/-- It needs an authorisation. -/
def transitionAuth (from_ to_ : Nat) : Bool := (to_ == 5 && (from_ == 3 || from_ == 4)) || (from_, to_) == (4, 3)
/-- Why it is refused: status and information. -/
def State.transitionRefused (s : State) (from_ to_ : Nat) : Option (Nat × Nat) :=
  if (from_, to_) == (1, 2) then
    if !s.hashWritten 1 then some (stBusy, 1) else if s.groupGen 10 == 0 then some (stBusy, 2) else if s.groupGen 11 == 0 then some (stBusy, 3) else none
  else if (from_, to_) == (2, 3) then (if s.lcy.rom then some (stBusy, 4) else none)
  else if to_ != 5 && s.lcChanges == 124 then some (stNoResource, 0)
  else none
/-- The bit of the LC field that it sets (R932): quarantine changes take bits 2-125 in ascending order. -/
def State.transitionBit (s : State) (from_ to_ : Nat) : Nat :=
  if to_ == 5 then 127 else if (from_, to_) == (1, 2) then 0 else if (from_, to_) == (2, 3) then 1
  else ((List.range 124).find? fun i => !s.lcField.testBit (2 + i)).getD 0 + 2
/-- OTP_WRITE or OTP_FAULT (Table 26-11). -/
def otpEvent (good : Bool) (group slot : Nat) (s : State) : State :=
  logEvent 27 (if good then 0x8001 else 0x8002) (detail [(16, 1, group), (17, 1, slot)]) s
/-- A transition that has passed its checks (R933). -/
def doTransition (good : Bool) (to_ : Nat) (p : Packet) (s : State) : State :=
  let old := s.lcyState
  let bit := s.transitionBit old to_
  let s := otpProgram good 0x40 0x40 (putLe 16 (2 ^ bit)) s
  let s := if to_ == 5 then modLcy (fun l => { l with halves := [[], []] }) (otpProgram good 0xE54 0xE54 (List.replicate 180 0xFF) s) else s
  let s := otpEvent good 0x30 0 s
  let new := s.lcyState
  let s := if new == old then s
    else closeSession 3 (logEvent 28 0x8003 (detail [(16, 1, old), (17, 1, new)]) { s with rst := { s.rst with wPending := some 6 } })
  if good then ok p s else fail p stFault 0xFFFF 0 s
/-- LCY_TRANSITION (R931-R935). -/
def execLcyTransition (good : Bool) (s : State) : Out :=
  interpret 0x0C02 (fun p s =>
    let b := p.params
    let to_ := u8 b 0; let n := u16 b 2
    let now := s.lcyState
    if b.length < 4 then fail p stBadLength 0xFFFF 0 s
    else checked p (if n == 0 || n == 3268 then 4 + n else b.length) [(0, inR to_ 2 5), (1, u8 b 1 == 0xA5), (2, n == 0 || n == 3268)] (fun s =>
      if to_ == now then complete p stNote [] s
      else if !transitionKnown now to_ then badParam p 0 s
      else match s.transitionRefused now to_ with
      | some (st, info) => fail p st 0xFFFF info s
      | none =>
        if transitionAuth now to_ then
          let c := b.drop 4
          if n != 3268 then badParam p 2 s
          else match s.conFault 2 c (authPayload 1 to_ 0 (zeros 32)) with
          | some r => fail p stBadParam 4 r s
          | none => doTransition good to_ p (acceptCon c s)
        else doTransition good to_ p s) s) s

/-! ### Settings (R939-R942, R959) -/

/-- Bytes of the payload of OTP_SETTINGS_WRITE. -/
def State.payloadSize (s : State) (g : Nat) : Nat := if g == 0x20 then 32 else if g == 10 && 3 ≤ s.lcyState then 56 else ((otpGroup g).map (·.2)).getD 0
/-- The lowest slot of a group that is not written (R940). -/
def State.freeSlot (s : State) (base size : Nat) : Option Nat := ([1, 2, 3, 4, 5] : List Nat).find? fun n => !s.otpWritten (groupSlot base size n) (size + 4)
/-- A checked payload is programmed with its CRC, and the reply names the slot (R939, R940). -/
def writeGroup (good : Bool) (g : Nat) (data : Bytes) (p : Packet) (s : State) : State :=
  match otpGroup g with
  | none => badParam p 0 s
  | some (base, size) => match s.freeSlot base size with
    | none => fail p stNoResource 0xFFFF 0 s
    | some n =>
      let a := groupSlot base size n
      let s := otpEvent good g n (otpProgram good a a (data ++ putLe 4 (crc32c data).toNat) s)
      if good then complete p stOk [BitVec.ofNat 8 n, 0, 0, 0] s else fail p stFault 0xFFFF 0 s
/-- A trust hash is programmed (R959). -/
def writeHash (good : Bool) (gen : Nat) (data : Bytes) (p : Packet) (s : State) : State :=
  let a := 0x80 + 32 * (gen - 1)
  let s := otpEvent good 0x20 gen (otpProgram good a a data s)
  if good then complete p stOk [BitVec.ofNat 8 gen, 0, 0, 0] s else fail p stFault 0xFFFF 0 s
/-- Why the slots refuse a write: status and information. -/
def State.settingsRefused (s : State) (g gen : Nat) : Option (Nat × Nat) :=
  if g == 0x20 then (if s.hashWritten gen then some (stBusy, 1) else if gen < s.trustGen then some (stBusy, 2) else none)
  else match otpGroup g with
  | some (base, size) => if (s.freeSlot base size).isNone then some (stNoResource, 0) else none
  | none => none
/-- OTP_SETTINGS_WRITE (R939-R942, R959). A ROOT_KEK blob names the newest valid generation (R942). -/
def execOtpSettingsWrite (good : Bool) (s : State) : Out :=
  interpret 0x0C03 (fun p s =>
    let b := p.params
    let g := u8 b 0; let gen := u8 b 1; let n := u16 b 2
    let size := s.payloadSize g
    let data := slice b 4 size
    let locked := decide (3 ≤ s.lcyState)
    if b.length < 4 then fail p stBadLength 0xFFFF 0 s
    else match ([(0, inR g 1 11 || g == 0x20), (1, if g == 0x20 then inR gen 1 12 else gen == 0), (2, n == if locked then 3268 else 0)] : List (Nat × Bool)).find? fun f => !f.2 with
    | some f => badParam p f.1 s
    | none =>
      let shape := if g == 0x20 || g == 10 then [] else atOffset 4 (groupFields g data)
      checked p (4 + size + n) shape (fun s =>
        match s.settingsRefused g gen with
        | some (st, info) => fail p st 0xFFFF info s
        | none =>
          let auth := if locked then s.conFault 2 (b.drop (4 + size)) (authPayload 2 g gen (Config.sha256 data)) else none
          match auth with
          | some r => fail p stBadParam 4 r s
          | none =>
            let accepted (s : State) : State := if locked then acceptCon (b.drop (4 + size)) s else s
            if g == 0x20 then writeHash good gen data p (accepted s)
            else if g == 10 && locked then
              if s.domLost 63 then fail p stFenced 0xFFFF 0 s
              else if u16 data 2 != s.groupGen 10 then unwrapFail p 0xFF 3 data s
              else match unwrapBlob s 0xFF true data with
              | .error i => unwrapFail p 0xFF i data s
              | .ok key => writeGroup good g key p (accepted s)
            else writeGroup good g data p (accepted s)) s) s

/-! ### Firmware images (R953-R958) -/

/-- The container of slot k is complete: it is verified, and the slot is valid or invalid (R954, Table 26-11). -/
def finishLoad (k : Nat) (s : State) : Option Nat × State :=
  let c := s.lcy.halves.getD k []
  let fault := s.conFault 1 c imageOk
  let s := if fault.isNone then acceptCon c s else s
  let s := markSlot k (if fault.isNone then 1 else 2) s
  (fault, logEvent 28 0x8006 (detail [(16, 1, k), (17, 1, conGen c), (18, 1, conSvn c), (19, 1, fault.getD 0)]) s)
/-- What flash holds follows the half that fills: at once in MASTER mode, at the next boot in TARGET mode (R954, R955). -/
def syncFlash (k : Nat) (s : State) : State :=
  if s.flashWaits then modLcy (fun l => { l with pendSlot := some k }) s
  else { s with flash := { s.flash with slots := s.flash.slots.set k (s.lcy.halves.getD k []) } }
/-- The packets of a load in order: none, or status, offset and information of the first at fault. -/
def loadParts (k : Nat) : List Bytes → State → Option (Nat × Nat × Nat) × State
  | [], s => (none, s)
  | c :: t, s =>
    let off := u32 c 4
    let half := if off == 0 then [] else s.lcy.halves.getD k []
    let discard (s : State) : State := markSlot k 0 (modLcy (fun l => { l with halves := l.halves.set k [] }) s)
    if c.length < 8 then (some (stBadLength, 0xFFFF, 0), s)
    else if off != half.length || (off != 0 && s.lcy.slotSt.getD k 0 != 3) || 2097152 < half.length + (c.length - 8) then (some (stBadParam, 4, 0), discard s)
    else
      let s := syncFlash k (markSlot k 3 (modLcy (fun l => { l with halves := l.halves.set k (half ++ c.drop 8) }) s))
      if (u8 c 0).testBit 0 then
        match finishLoad k s with
        | (some r, s) => (some (stBadParam, 0xFFFF, r), s)
        | (none, s) => loadParts k t s
      else loadParts k t s
/-- FW_IMAGE_LOAD (R954, R955). -/
def execFwImageLoad (s : State) : Out :=
  interpret 0x0C04 (fun p s =>
    let k := s.inactiveSlot
    match loadParts k (cutParts p.parts p.params) s with
    | (some (st, off, info), s) => fail p st off info s
    | (none, s) => complete p stOk (putLe 4 (s.lcy.halves.getD k []).length ++ putLe 1 k ++ putLe 1 (s.lcy.slotSt.getD k 0) ++ zeros 2) s) s
/-- FW_IMAGE_ACTIVATE (R956-R958); COMMIT_SVN programs OTP. -/
def execFwImageActivate (good : Bool) (s : State) : Out :=
  interpret 0x0C05 (fun p s =>
    let b := p.params
    let act := u8 b 0
    let zero (i n : Nat) : Nat × Bool := (i, act == 1 || (slice b i n).all (· == 0))
    checked p 8 [(0, inR act 1 3), zero 1 1, zero 2 1, zero 3 1, zero 4 4, (1, decide (u8 b 1 ≤ 1)), (2, act != 1 || inR (u8 b 2) 1 8), (4, act != 1 || inR (u32 b 4) 10 3600)] (fun s =>
      match act with
      | 1 =>
        let k := s.inactiveSlot
        if s.lcy.slotSt.getD k 0 != 1 then fail p stBusy 0xFFFF 1 s
        else
          let s := putRec { s.lcy.rec_ with trial := k, tries := u8 b 2, confirm := u32 b 4 } s
          ok p (if u8 b 1 == 1 then { s with rst := { s.rst with wPending := some 7 } } else s)
      | 2 =>
        if !s.lcy.trial then complete p stNote [] s
        else ok p (modLcy (fun l => { l with trial := false, confirmEnd := none }) (putRec { s.lcy.rec_ with active := s.lcy.running.getD 0, trial := 0xFF } s))
      | _ =>
        if s.lcy.trial then fail p stBusy 0xFFFF 2 s
        else if s.lcy.svn ≤ s.minSvn then complete p stNote [] s
        else
          let old := leAt (s.otpAt 0x54 8) 0 8
          let bits := ((List.range 64).filter fun i => !old.testBit i).take (s.lcy.svn - s.minSvn)
          let s := recheckSlots (otpEvent good 0x31 0 (otpProgram good 0x54 0x54 (putLe 8 (maskOf bits)) s))
          if good then ok p s else fail p stFault 0xFFFF 0 s) s) s

/-! ### Trust generations (R959, R960) -/

/-- TRUST_ROLL (R960). -/
def execTrustRoll (good : Bool) (s : State) : Out :=
  interpret 0x0C06 (fun p s =>
    let c := p.params.drop 4
    checked p 3240 [(0, u8 p.params 0 == 0xA5)] (fun s =>
      let old := s.trustGen
      if old == 12 then fail p stNoResource 0xFFFF 0 s
      else match s.conFault 3 c (rollPayload c) with
      | some r => fail p stBadParam 4 r s
      | none =>
        let new := conGen c
        if s.lcy.running.isSome && s.lcy.gen < new then fail p stBusy 0xFFFF 3 s
        else if s.lcy.trial then fail p stBusy 0xFFFF 4 s
        else
          let s := otpProgram good 0x50 0x50 (putLe 2 (2 ^ (new - 1) - 1)) (acceptCon c s)
          if good then
            complete p stOk (putLe 1 old ++ putLe 1 new ++ zeros 2) (recheckSlots (logEvent 28 0x8005 (detail [(16, 1, old), (17, 1, new)]) s))
          else fail p stFault 0xFFFF 0 (recheckSlots (otpEvent false 0x20 new s))) s) s

end Sys2Proof.Machine
end

