-- ==== Sys2Proof/Machine/Power.lean ====
section
/-!
DEFINITION. Sys2Proof/Machine/Power.lean: power input, power-up, transitions, SHELF, wakes, rails, domains and the power opcodes (ch 04).
-/
namespace Sys2Proof.Machine
open Sys2Proof

/-- AON starts: the RTC counts from 0 with RTC_LOST, and a wake of cause 0x00 is pending (R120, R145). -/
def execPowerOn (s : State) : Out :=
  if s.pmc.st == .off then
    .next { s with aon := { ({} : Aon) with powered := true, wakePending := some 0 }
                   pmc := { s.pmc with st := .shelf }
                   dom := [] }
  else .next s
/-- VIN below the AON power-on level: OFF. AON with its latches and the RTC is lost (R116, R145). -/
def execAonPowerLoss (s : State) : Out :=
  let s := wipeCW .c s
  .next { s with aon := {}
                 rst := { s.rst with latch := none, active := none, wPending := none }
                 pmc := { s.pmc with st := .off, ibEn := false, upStep := 0 }
                 dom := [] }
/-- VIN_OK has held for its filter (R120). -/
def execVinOkHold (s : State) : Out :=
  if s.aon.powered then .next { s with aon := { s.aon with vinOk := true }, pmc := { s.pmc with vinLow := false } } else .next s
/-- VIN falls below the VIN_OK threshold: it stops holding at once; an attempt under way goes on (R120). -/
def execVinOkLoss (s : State) : Out := .next { s with aon := { s.aon with vinOk := false } }
/-- Step 1 of Table 04-3: a C with cause 0x01, or the C of a brown-out that stands latched (R122, R142). -/
def execPowerUpStart (s : State) : Out :=
  match s.aon.wakePending with
  | some w =>
    if s.pmc.st == .shelf && s.pmc.trans.isNone && s.aon.vinOk then
      let latch := s.rst.latch
      let brown := s.aon.brownOut
      let s := takeReset .c 1 s
      let s := { s with rst := { s.rst with latch := if brown then latch else s.rst.latch }
                        aon := { s.aon with wakePending := none, wakeCause := w, commitMark := false }
                        pmc := { s.pmc with st := .boot, upStep := 1, ibEn := true, ibcTries := 0 } }
      .next s
    else .next s
  | none => .next s
/-- IB_PGOOD is not high within 20 ms: IB_EN goes low; the eighth failure latches IBC_FAIL and the device stays in SHELF (R123). -/
def execIbPgoodTimeout (s : State) : Out :=
  if s.pmc.st == .boot && s.pmc.upStep == 1 && s.pmc.ibEn then
    let n := s.pmc.ibcTries + 1
    if 8 ≤ n then
      let s := abandonPowerUp s
      .next { s with aon := { s.aon with ibcFail := true } }
    else .next { s with pmc := { s.pmc with ibEn := false, ibcTries := n } }
  else .next s
/-- 1 s after a failed attempt IB_EN is asserted again (R123). -/
def execIbcRetry (s : State) : Out :=
  if s.pmc.st == .boot && s.pmc.upStep == 1 && !s.pmc.ibEn then .next { s with pmc := { s.pmc with ibEn := true } } else .next s
/-- PMC gives every converter with a PMBus address its output voltage (R121, R122; command code 0x21, log 18). -/
def railsSet (s : State) : State :=
  forEach ((List.range 7).filter (· != 2)) (fun i s =>
    let r := s.pmc.rails.getD i {}
    emit (.pmbus r.addr 0x21 r.mv) s) s
/-- Steps 2-7 of Table 04-3: PMC writes the rail settings over PMBus and the rails rise; without crystal or lock the device returns to
SHELF with CLK_FAIL latched (R170); at step 7 the settings are loaded, the reset record is written and the initial band is set. -/
def execIbPgoodHigh (xtalOk pllOk : Bool) (diode : Int) (s : State) : Out :=
  if s.pmc.st == .boot && s.pmc.upStep == 1 && s.pmc.ibEn then
    let s := railsSet s
    if !xtalOk || !pllOk then
      let s := abandonPowerUp s
      .next { s with aon := { s.aon with clkFail := some (if xtalOk then 1 else 0) } }
    else
      let s := { s with pmc := { s.pmc with upStep := 6 }, ckg := { s.ckg with xtal := true, pll := true, trim := 0 } }
      .next (resetDone diode s)
  else .next s
/-- BOR: IB_EN goes low and the device takes a C with cause 0x02; AON keeps the VIN-recovery wake pending (R119, R120). -/
def execBrownOut (s : State) : Out :=
  if !s.aon.powered then .next s
  else
    let s := takeReset .c 2 s
    .next { s with aon := { s.aon with vinOk := false, brownOut := true, wakePending := some 5, commitMark := false }
                   pmc := { s.pmc with st := .shelf, ibEn := false, upStep := 0, trans := none, calls := [] }
                   ckg := { s.ckg with xtal := false, pll := false } }
/-- VIN_OK holds again after a brown-out: the VIN-recovery wake is pending, whatever the mask (R141). -/
def execVinRecoveryWake (s : State) : Out :=
  if s.aon.brownOut && s.pmc.st == .shelf then
    .next { s with aon := { s.aon with vinOk := true, wakePending := some (s.aon.wakePending.getD 5) } }
  else .next s
/-- VIN_LOW (R138): SHELF entry at once with the wake mask VBUS return and WAKE_N, the drain at most 50 ms. -/
def execVinLow (vin : Nat) (s : State) : Out :=
  if !s.aon.powered then .next s
  else
    let s := { s with pmc := { s.pmc with vinLow := true, vin := vin } }
    let s := logEvent 2 0x8008 (detail [(16, 2, vin)]) s
    .next (whenS s.live (callDown true 2 6 0 50) s)
/-- VIN_OV crosses its set or clear threshold: flag and event only (R116, R118). -/
def execVinOv (set : Bool) (vin : Nat) (s : State) : Out :=
  if set == s.pmc.vinOv then .next s
  else .next (logEvent 2 0x8007 (detail [(16, 2, vin)]) { s with pmc := { s.pmc with vinOv := set, vin := vin } })
/-- PFAIL is set (R134, R135, R137). -/
def execPfailSet (vbus : Nat) (s : State) : Out :=
  if s.pmc.pfail || !s.aon.powered then .next s
  else
    let s := chargeEval { s with pmc := { s.pmc with pfail := true, vbus := vbus } }
    let s := routePost 2 (powerEvent (logEvent 2 0x8002 (detail [(16, 2, vbus)]) s))
    let s := whenS (s.dataOn && s.pmc.trans.isNone) startGrace s
    .next (whenS (s.pmc.st == .hold && s.pmc.limitEnd.isNone) startLimit s)
/-- The state a state code names. -/
def stateOfCode (c : Nat) : PowerState := if c == 2 then .trim else if c == 3 then .hold else .run
/-- PFAIL clears (R136, R137). -/
def execPfailClear (vbus : Nat) (s : State) : Out :=
  if !s.pmc.pfail then .next s
  else
    let s := chargeEval { s with pmc := { s.pmc with pfail := false, vbus := vbus, graceEnd := none, limitEnd := none } }
    let s := routePost 2 (powerEvent (logEvent 2 0x8003 (detail [(16, 2, vbus)]) s))
    match s.pmc.holdBy with
    | some old =>
      if !s.pmc.autoResume || s.pmc.st != .hold then .next s
      else if s.pmc.trans.isNone then .next (enterRunTrim (stateOfCode old) 5 s)
      else .next { s with pmc := { s.pmc with calls := s.pmc.calls ++ [{ target := old, cause := 5 }] } }
    | none =>
      if s.pmc.holdupDrain && s.pmc.autoResume then
        let old := (s.pmc.trans.map (·.from_)).getD 1
        .next { s with pmc := { s.pmc with calls := s.pmc.calls ++ [{ target := old, cause := 5 }] } }
      else .next s
/-- The grace timer expires: the device starts its drain toward HOLD (R134). -/
def execGraceTimerExpiry (s : State) : Out :=
  if s.pmc.graceEnd.isSome && s.pmc.pfail && s.dataOn then
    let s := { s with pmc := { s.pmc with graceEnd := none, holdupDrain := true } }
    .next (callDown false 1 0 0 s.pmc.drainMs s)
  else .next s
/-- HOLD_LIMIT_S elapses: SHELF entry with VBUS return and WAKE_N, plus the RTC alarm if one is set (R135). -/
def execHoldLimitExpiry (s : State) : Out :=
  if s.pmc.limitEnd.isSome && s.pmc.st == .hold && s.pmc.trans.isNone then
    let s := callDown true 1 (6 + b2n (s.aon.rtcAlarm != 0)) s.aon.rtcAlarm s.pmc.drainMs { s with pmc := { s.pmc with limitEnd := none } }
    .next { s with pmc := { s.pmc with trans := s.pmc.trans.map fun t => { t with fromLimit := true } } }
  else .next s
/-- The drain ends: work still unfinished completes with ABORTED, DRAIN_FORCED counts it, and HOLD is reached (R131). -/
def execDrainEnd (s : State) : Out :=
  match s.pmc.trans with
  | some t =>
    if t.phase == .drain then
      let r := drainAbort s
      let s := whenS (r.1 != 0) (logEvent 2 0x8005 (detail [(16, 4, r.1)])) r.2
      .next (reachHold s)
    else .next s
  | none => .next s
/-- A SHELF command that finds HOLD reached is answered at once (R160). -/
def answerHeld (s : State) : State :=
  whenS (s.pmc.st == .hold) (finishWaits (fun k => k == .power 0x10) stOk fun _ => []) s
/-- A waiting call is taken once the transition before it has completed, if its condition still holds (R1043). -/
def execWaitingTransitionTaken (s : State) : Out :=
  match s.pmc.trans, s.pmc.calls with
  | none, c :: rest =>
    let s := { s with pmc := { s.pmc with calls := rest } }
    let holds := match c.cause with
      | 2 => s.pmc.vinLow
      | 3 => s.pmc.pfail
      | 5 => !s.pmc.pfail && s.pmc.st == .hold && s.pmc.holdBy.isSome
      | 6 => s.hkp.fault.isNone && (s.hkp.trip || (!s.gradeX && s.hkp.band == 4))
      | _ => true
    if !holds || !s.live then .next s
    else if c.target == 1 || c.target == 2 then
      let s := if s.pmc.st.code == c.target then s else enterRunTrim (stateOfCode c.target) c.cause s
      .next (finishWaits (fun k => k == .power c.target) stOk (fun _ => []) s)
    else .next (answerHeld (callDown (c.target == 0x10) c.cause c.mask c.alarm c.drainMs s))
  | _, _ => .next s
/-- The SHELF reply has been delivered: step 2 of Table 04-6 may start (R160). -/
def execShelfReplyDelivered (s : State) : Out :=
  match s.pmc.trans with
  | some t => if t.phase == .held then .next { s with pmc := { s.pmc with trans := some { t with phase := .entry } } } else .next s
  | none => .next s
/-- Steps 2-4 of Table 04-6: the log is mirrored, mask and alarm go to AON, the commit mark is written, every domain is gated and
IB_EN goes low (R139). -/
def execShelfEntry (s : State) : Out :=
  match s.pmc.trans with
  | some t =>
    if t.phase == .entry && s.pmc.st == .hold then
      let s := whenS (t.mirror == 0) labelMirror s
      if s.lbl.mirrorAt.isSome then .next s
      else
      let s := stateChange 3 0x10 t.shelfCause (linksDown (fun _ => true) 8 s)
      let s := { s with aon := { s.aon with wakeMask := t.mask, rtcAlarm := t.alarm, commitMark := true }
                        pmc := { s.pmc with st := .shelf, ibEn := false, upStep := 0, limitEnd := none, holdBy := none,
                                            calls := [], trans := some { t with phase := .falling } }
                        cmd := { s.cmd with waits := [], queue := [] } }
      .next (applyDomains .shelf (batShelf (latRefresh s)))
    else .next s
  | none => .next s
/-- Step 5: AON alone runs; a latched wake may now start power-up (R139, R140). -/
def execShelfRailsDown (s : State) : Out :=
  match s.pmc.trans with
  | some t =>
    if t.phase == .falling then
      let s := modLbl (fun x => { x with jobs := x.jobs.filter (·.running), mirrorAt := none }) s
      .next { s with pmc := { s.pmc with trans := none, st := .shelf }, ckg := { s.ckg with xtal := false, pll := false } }
    else .next s
  | none => .next s
/-- Rail fault (R124): CONVERTER_FAULT and SHELF entry with no drain; the mirror is made when VIO18 and VCORE are in their windows. -/
def execRailFault (rail : Nat) (mirrorOk : Bool) (s : State) : Out :=
  if s.live then .next (shelfNow 4 mirrorOk (logEvent 2 0x8006 (detail [(16, 1, rail)]) s)) else .next s
/-- A VCORE phase is added when an active one exceeds 70 % of ILIM (R126). -/
def execVcorePhaseAdd (s : State) : Out :=
  if (s.live || s.pmc.st == .boot) && s.pmc.phasesOn + s.aon.phaseShed.length < s.pmc.phases then
    .next { s with pmc := { s.pmc with phasesOn := s.pmc.phasesOn + 1 } }
  else .next s
/-- A VCORE phase is shed and marked in AON; with fewer than half left the device enters HOLD within a 50 ms drain (R981, 27). -/
def execVcorePhaseShed (phase : Nat) (s : State) : Out :=
  if s.aon.phaseShed.contains phase || decide (s.pmc.phases ≤ phase) || !s.live then .next s
  else
    let s := { s with aon := { s.aon with phaseShed := nset phase s.aon.phaseShed } }
    let left := s.pmc.phases - s.aon.phaseShed.length
    let s := { s with pmc := { s.pmc with phasesOn := min s.pmc.phasesOn left } }
    let few := decide (left < ceilDiv s.pmc.phases 2)
    let s := logEvent 29 0x8005 (detail [(16, 1, phase), (17, 1, left)]) s
    if few then .next (callDown false 8 0 0 50 (logEvent 2 0x8006 (detail [(16, 1, 2)]) s))
    else .next s
/-- RTC seconds reach RTC_ALARM with mask bit 0 set (R141). -/
def execRtcAlarmWake (s : State) : Out := .next (wakeEvent 1 0 s)
/-- WAKE_N low for 1 ms with mask bit 1 set (R141). -/
def execWakeNWake (s : State) : Out := .next (wakeEvent 2 1 s)
/-- The once-per-second sample of VBUS_SNS: PFAIL clear condition with mask bit 2 set (R141). -/
def execVbusReturnSample (clear : Bool) (s : State) : Out := .next (whenS clear (wakeEvent 3 2) s)
/-- A domain's switch is complete, its wipe included (R149, R30): the command that needed it completes, a swap goes on (R976, 27), and a role that moves to
the core warm freezes (R716, 19). -/
def execDomainSwitchDone (d : Nat) (s : State) : Out :=
  let x := s.domain d
  if x.switchingOn then
    let s := setDomain d { x with st := .on, cause := 0, switchingOn := false } s
    let s := finishUnfence d (finishWaits (fun k => k == .domain d) stOk (fun _ => []) s)
    let s := forEach (List.range 4) (fun r s => modRole r (fun y => { y with move := y.move.map fun m => if m.dest + 15 == d && !m.frozen then { m with frozen := true, since := s.us } else m }) s) s
    .next (ifSome (s.pmc.swap.filter fun w => w.2.1 == d) finishSwap s)
  else if x.switchingOff then
    let s := leftOn (s.isOn 20) (setDomain d { x with st := .gated, switchingOff := false } s)
    .next (finishWaits (fun k => k == .domain d) stOk (fun _ => []) s)
  else .next s
/-- A domain does not report power-good: it is gated again, DOMAIN_FAULT is written and its command or work completes with FAULT or, moved, with FENCED
(R156; R968, R974, 27). A spare that was to take a role is SPARE again. -/
def execDomainPowerGoodTimeout (d : Nat) (s : State) : Out :=
  let x := s.domain d
  if x.switchingOn then
    let s := setDomain d { x with st := .gated, cause := 5, switchingOn := false } s
    let s := logEvent 2 0x8009 (detail [(16, 2, d)]) s
    let s := dropMoves d (refence d (dropSwap d (failWaits (fun k => k == .domain d) stFault 0 s)))
    .next (poolCheck 0x104 (poolCheck 0x105 (poolCheck 0x106 s)))
  else .next s
/-- The engines of the pool that domain d belongs to. -/
def poolOf (d : Nat) : List Nat :=
  if inR d 65 73 then blockDomains 12 else if inR d 74 80 then blockDomains 14 else if inR d 81 85 then blockDomains 15 else []
/-- In TRIM an idle domain without allocation is gated, but never the last ON engine of a pool (R150). -/
def execIdleGateTimeout (d : Nat) (s : State) : Out :=
  let last := inR d 65 85 && ((poolOf d).filter fun e => s.isOn e).length ≤ 1
  if s.pmc.st == .trim && trimOf d == 1 && s.isOn d && !s.domBusy d && !last && (s.domain d).forced != some true then
    .next (modDomain d (fun x => { x with st := .gated, cause := 2 }) s)
  else .next s
/-- The region being wiped is clean and the next one in the wipe order begins (R32). -/
def execDdrRegionWiped (ch : Nat) (s : State) : Out := .next (modDdr ch (fun c => { c with dirty := c.dirty.tail }) s)
/-- The device reset pin is registered low: a W with cause 0x03, but in SHELF and OFF nothing, and during power-up it only holds
step 7 (R1015, R1016, 29). -/
def execResetNRegistered (s : State) : Out :=
  if s.pmc.st == .off || s.pmc.st == .shelf then .next s
  else if s.live || (s.pmc.st == .boot && decide (8 ≤ s.pmc.upStep)) then
    let s := takeReset .w 3 s
    .next { s with rst := { s.rst with active := some .w, pinLow := true }, pmc := { s.pmc with st := .boot, upStep := 6 } }
  else .next { s with rst := { s.rst with pinLow := true } }
/-- RESET_N has been high for 10 µs: the W ends, or power-up goes on (R1015, R1016, 29). -/
def execResetNReleased (diode : Int) (s : State) : Out :=
  let s := { s with rst := { s.rst with pinLow := false } }
  if s.rst.active == some .w then .next (resetDone diode s) else .next s
/-- The W of an accepted DEV_RESET starts once its reply is delivered (R112, 03). -/
def execDevResetWStart (diode : Int) (s : State) : Out :=
  if s.rst.wPending == some 4 && s.live then .next (resetDone diode (takeReset .w 4 s)) else .next s

/-! ### Power opcodes (Table 04-13) -/

/-- The TARGET that PWR_STATE_GET reports. -/
def State.powerTarget (s : State) : Nat :=
  match s.pmc.trans with
  | some t => if t.toShelf then 0x10 else 3
  | none => s.pmc.st.code
/-- Milliseconds left of a timer that ends at e. -/
def State.msLeft (s : State) (e : Nat) : Nat := (e - s.us) / 1000
/-- PWR_STATE_GET. -/
def execPwrStateGet (s : State) : Out :=
  interpret 0x0201 (fun p => checked p 0 [] fun s =>
    let left := match s.pmc.graceEnd, s.pmc.limitEnd with
      | some e, _ => s.msLeft e
      | none, some e => s.msLeft e
      | none, none => 0xFFFFFFFF
    let flags := b2n s.pmc.pfail + 2 * b2n s.pmc.vinOv + 4 * b2n s.pmc.vinLow + 8 * b2n s.pmc.graceEnd.isSome + 16 * b2n s.pmc.holdBy.isSome
    complete p stOk (layout 16 [(0, 1, s.pmc.st.code), (1, 1, s.powerTarget), (2, 1, s.aon.wakeCause), (3, 1, flags),
                                (4, 2, s.pmc.vin), (6, 2, s.pmc.vbus), (8, 4, left)]) s) s
/-- PWR_STATE_SET (R159-R161, R1043). -/
def execPwrStateSet (s : State) : Out :=
  interpret 0x0202 (fun p =>
    let q := p.params
    let target := u8 q 0; let mask := u16 q 2 % 16; let alarm := u32 q 4; let ms := u32 q 8
    let shelf := target == 0x10
    checked p 16 [(0, target == 1 || target == 2 || target == 3 || shelf), (1, !shelf || u8 q 1 == 0xA5), (2, !shelf || mask != 0),
                  (4, !shelf || !mask.testBit 0 || decide (s.aon.rtcSec.toNat < alarm)), (8, decide (ms ≤ 1000))] fun s =>
      let drain := if ms == 0 then 200 else ms
      let down := target == 3 || shelf
      let past := s.pmc.trans.any fun t => t.phase != .drain
      if target == s.pmc.st.code && (s.pmc.trans.isNone || down) then ok p s
      else
        let s := if down then { s with pmc := { s.pmc with drainMs := drain } } else s
        if down then
          let s := callDown shelf 0 mask alarm drain (waitFor p (.power target) s)
          if past then s else answerHeld s
        else match s.pmc.trans with
        | some _ => waitFor p (.power target) { s with pmc := { s.pmc with calls := s.pmc.calls ++ [{ target := target, cause := 0 }] } }
        | none => ok p (enterRunTrim (stateOfCode target) 0 s)) s
/-- Code of a domain state (Table 04-9). -/
def DomState.code : DomState → Nat
  | .on => 1
  | .ret => 2
  | .gated => 3
  | .spare => 4
  | .fenced => 5
/-- The entry of a domain in the reply of PWR_DOMAIN_GET. -/
def domainEntry (s : State) (d : Nat) : Bytes :=
  let x := s.domain d
  [BitVec.ofNat 8 x.st.code, BitVec.ofNat 8 (if x.st == .on then 0 else if x.st == .gated && s.quadFenced d then 6 else x.cause),
   BitVec.ofNat 8 (b2n (x.switchingOn && x.st != .ret) + 2 * b2n (x.forced == some true) + 4 * b2n (x.forced == some false)), 0]
/-- PWR_DOMAIN_GET. -/
def execPwrDomainGet (s : State) : Out :=
  interpret 0x0203 (fun p =>
    let first := u16 p.params 0; let count := u16 p.params 2
    checked p 4 [(0, decide (first < 148)), (2, inR count 1 148 && decide (first + count ≤ 148))] fun s =>
      complete p stOk (putLe 2 first ++ putLe 2 count ++ ((List.range count).map fun i => domainEntry s (first + i)).flatten) s) s
/-- PWR_DOMAIN_SET: FENCED, then DENIED, then BUSY (Table 04-13). -/
def execPwrDomainSet (s : State) : Out :=
  interpret 0x0204 (fun p =>
    let d := u16 p.params 0; let act := u8 p.params 2
    checked p 4 [(0, decide (d < 148)), (2, inR act 1 3)] fun s =>
      let x := s.domain d
      let held := s.domBusy d || (trimOf d == 3 && s.domInUse d)
      if s.domLost d then fail p stFenced 0xFFFF 0 s
      else if x.st == .spare || (act == 2 && trimOf d == 0) then fail p stDenied 0xFFFF 0 s
      else if act == 2 && held then fail p stBusy 0xFFFF 0 s
      else if act == 1 && s.pmc.st == .hold && holdOf d != .on then fail p stBusy 0xFFFF 3 s
      else
        let forced := if act == 1 then some true else if act == 2 then some false else none
        let s := modDomain d (fun y => { y with forced := forced }) s
        let want := domainFor s s.pmc.st d
        if want.st == .on && x.st != .on then waitFor p (.domain d) (switchOn d s)
        else if want.st == .gated && x.st == .on then
          waitFor p (.domain d) (modDomain d (fun y => { y with switchingOff := true, cause := want.cause }) s)
        else ok p (setDomain d want s)) s
/-- Set rail i. -/
def setRail (i : Nat) (addr mv : Nat) (s : State) : State :=
  { s with pmc := { s.pmc with rails := s.pmc.rails.set i { (s.pmc.rails.getD i {}) with addr := addr, mv := mv } } }
/-- Another configured converter than rail i has this PMBus address. -/
def addrTaken (s : State) (i addr : Nat) : Bool :=
  s.bat.chg.addr == addr || (List.range 7).any fun j => j != i && j != 2 && (s.pmc.rails.getD j {}).addr == addr
/-- PWR_CONVERTER_CFG (Table 04-14). -/
def execPwrConverterCfg (s : State) : Out :=
  interpret 0x0205 (fun p s =>
    let q := p.params
    match u8 q 0 with
    | 1 => checked p 8 [(4, inR (u8 q 4) 8 0x77 && !addrTaken s 0 (u8 q 4)), (6, inR (u16 q 6) 10800 12600)] (fun s =>
        ok p (emit (.pmbus (u8 q 4) 0x21 (u16 q 6)) (setRail 0 (u8 q 4) (u16 q 6) s))) s
    | 2 => checked p 12 [(4, inR (u8 q 4) 1 8), (6, inR (u16 q 6) 650 850), (8, inR (u16 q 8) 10 80)] (fun s =>
        let s := setRail 2 0 (u16 q 6) s
        ok p { s with pmc := { s.pmc with phases := u8 q 4, ilim := u16 q 8, phasesOn := min s.pmc.phasesOn (u8 q 4) } }) s
    | 3 =>
      let i := railIndex (u8 q 4)
      checked p 8 [(4, decide (u8 q 4 < 5)), (5, inR (u8 q 5) 8 0x77 && !addrTaken s i (u8 q 5)),
                   (6, inR (u16 q 6) (railRange i).1 (railRange i).2)] (fun s =>
        ok p (emit (.pmbus (u8 q 5) 0x21 (u16 q 6)) (setRail i (u8 q 5) (u16 q 6) s))) s
    | 0x10 => checked p 16 [(4, inR (u16 q 4) 9000 58000), (8, decide (u32 q 8 ≤ 3600000)), (12, decide (u32 q 12 ≤ 86400))] (fun s =>
        ok p { s with pmc := { s.pmc with pfailMv := u16 q 4, autoResume := (u16 q 6).testBit 0, graceMs := u32 q 8, holdLimitS := u32 q 12 } }) s
    | _ => if p.params.isEmpty then fail p stBadLength 0xFFFF 0 s else badParam p 0 s) s
/-- RTC_GET. -/
def execRtcGet (s : State) : Out :=
  interpret 0x0206 (fun p => checked p 0 [] fun s =>
    complete p stOk (layout 8 [(0, 4, s.aon.rtcSec.toNat), (4, 2, s.aon.rtcSub), (6, 1, b2n s.aon.rtcLost)]) s) s
/-- RTC_SET (R163): TICK does not change. -/
def execRtcSet (s : State) : Out :=
  interpret 0x0207 (fun p => checked p 8 [] fun s =>
    ok p { s with aon := { s.aon with rtcSec := BitVec.ofNat 32 (u32 p.params 0), rtcSub := 0, rtcAcc := 0, rtcLost := false } }) s

end Sys2Proof.Machine
end

