-- ==== Sys2Proof/Machine/Repair.lean ====
section
/-!
DEFINITION. Sys2Proof/Machine/Repair.lean: the repair opcodes, automatic fences, known-answer tests and role moves (ch 27; R714-R719, 19).
-/
namespace Sys2Proof.Machine
open Sys2Proof

/-! ### Fence and unfence (Table 27-9) -/

/-- The reply of RPR_FENCE. -/
def fenceReply (spare : Option Nat) (slot : Nat) : Bytes := layout 4 [(0, 2, spare.getD 0xFFFF), (2, 1, slot)]
/-- The record in force with the bits of ds set or cleared. -/
def State.repairWith (s : State) (ds : List Nat) (on : Bool) : Nat :=
  ds.foldl (fun m d => if m.testBit d == on then m else m ^^^ 2 ^ d) s.repairBits
/-- Step 5 of a fence by command, and its answer (R971, R975). -/
def finishFence (p : Packet) (d : Nat) (spare : Option Nat) (persist good : Bool) (s : State) : State :=
  let bits := s.repairWith (fencePair d) true
  let short := (poolOfDomain d).any fun q => (s.spareOf q).isNone
  let done (slot : Nat) (s : State) : State := complete p (if short then stDegraded else stOk) (fenceReply spare slot) s
  match (if persist && bits != s.repairBits then s.repairFree else none) with
  | some n =>
    let s := writeRepair n bits good s
    if good then done n s else fail p stFault 0xFFFF 0 s
  | none => done 0 s
/-- RPR_FENCE (R970-R975). good: a repair record reads back. -/
def execRprFence (good : Bool) (s : State) : Out :=
  interpret 0x0D02 (fun p s =>
    let d := u16 p.params 0; let persist := (u8 p.params 2).testBit 0; let force := (u8 p.params 2).testBit 1
    checked p 8 [(0, decide (d < 148)), (3, u8 p.params 3 == 0xA5)] (fun s =>
      let role := if inR d 15 19 then s.roleOn (d - 15) else none
      let spare := s.spareOf 0
      let pair := fencePair d
      let need := persist && s.repairWith pair true != s.repairBits
      let lastOn := (poolOfDomain d).any fun q => q != 0 && s.isOn d && ((poolUnits q).filter s.isOn).length ≤ 1
      let home := inR d 100 147 && (s.bankHome 0 == d - 100 || s.bankHome 1 == d - 100)
      if !fenceable d then fail p stDenied 0xFFFF 0 s
      else if s.aon.fence.contains d then
        match (if need then s.repairFree else none) with
        | some n =>
          let s := writeRepair n (s.repairWith pair true) good s
          if good then complete p stNote (fenceReply none n) s else fail p stFault 0xFFFF 0 s
        | none => if need then fail p stNoResource 0xFFFF 0 s else complete p stNote (fenceReply none 0) s
      else if role.any s.mindsRepair && spare.isNone then fail p stDenied 0xFFFF 0 s
      else if !force && (lastOn || (role.isSome && spare.isNone)) then fail p stBusy 0xFFFF 2 s
      else if home && s.substitute.isNone then fail p stBusy 0xFFFF 3 s
      else if !force && (d == 30 || d == 31) then fail p stBusy 0xFFFF 4 s
      else if need && s.repairFree.isNone then fail p stNoResource 0xFFFF 0 s
      else match role, spare with
      | some r, some u =>
        let warm := s.coreWorks (d - 15)
        waitFor p (moveWait r) (if (s.role r).move.isSome then modRole r (fun x => { x with move := x.move.map fun m => { m with fence := some 0 } }) s else startMove r u warm (some 0) s)
      | some r, none =>
        let before := s.poolStates
        finishFence p d none persist good (fenceDomain before d 0 persist (loseRole r s)).2
      | none, _ =>
        let f := fenceAll pair 0 persist s
        finishFence p d f.1 persist good f.2) s) s
/-- What an unfence makes of the part (R974): memories are wiped before their first use (R30), links may start, and the battery is tested again (R764). -/
def partBack (d : Nat) (s : State) : State :=
  if inR d 86 89 then modDdr (d % 2) (fun c => { c with dirty := List.range c.gib }) s
  else if d == 22 then whenS (s.bat.cfg.chem != 0) (fun s => dsgEval (queueTests s.bat.taps s)) s
  else if d == 64 then drbgStart s
  else if inR d 46 57 then
    let lanes := if d < 50 then [2 * (d - 46), 2 * (d - 46) + 1] else [d - 50]
    whenS s.dataOn (forEach ((lanes.filterMap s.lanePort).eraseDups) (fun p s => if (s.port p).st == 5 then bringUp p s else s)) s
  else if inR d 58 62 then latStart s
  else s
/-- A domain whose flag has been cleared takes its state: SPARE if its pool holds none, else as the power state asks, GATED until it has switched on. -/
def settleUnfenced (d : Nat) (s : State) : State :=
  let none_ (q : Nat) : Bool := !((poolUnits q).any fun u => u != d && (s.domain u).st == .spare)
  let s := modDomain d (fun x => { x with st := .gated, cause := 1 }) s
  if (poolOfDomain d).any none_ then makeSpare d s
  else
    let want := domainFor s s.pmc.st d
    if want.st == .on then switchOn d s else setDomain d want s
/-- RPR_UNFENCE (R974, Table 27-9). -/
def execRprUnfence (good : Bool) (s : State) : Out :=
  interpret 0x0D03 (fun p s =>
    let b := p.params
    let subject := u8 b 0; let i := u16 b 2; let persist := (u8 b 1).testBit 0
    let answer (st slot : Nat) (s : State) : State := complete p st (layout 4 [(0, 1, slot)]) s
    let room := if subject == 1 then 148 else if subject == 2 then 8 else 2
    checked p 8 [(0, inR subject 1 3), (2, decide (i < room)), (4, u8 b 4 == 0xA5)] (fun s =>
      if subject == 2 then
        if s.aon.phaseShed.contains i then answer stOk 0 { s with aon := { s.aon with phaseShed := nclr i s.aon.phaseShed } } else answer stNote 0 s
      else if subject == 3 then
        if s.aon.ddrSpent.any fun x => x / 256 == i then answer stOk 0 { s with aon := { s.aon with ddrSpent := s.aon.ddrSpent.filter fun x => x / 256 != i } }
        else answer stNote 0 s
      else if !s.aon.fence.contains i then answer stNote 0 s
      else if s.quadFenced i then fail p stBusy 0xFFFF 1 s
      else
        let set := s.repairBits.testBit i
        let slot := if persist && set then s.repairFree else none
        if persist && set && slot.isNone then fail p stNoResource 0xFFFF 0 s
        else
          let pools := s.poolStates
          let s := { s with aon := { s.aon with fence := nclr i s.aon.fence } }
          let s := partBack i (settleUnfenced i s)
          let s := if inR i 12 14 then
              let part := (List.range 148).filter fun x => x != i && meshOf x == meshOf i
              forEach part partBack (forEach part (fun x s => setDomain x (domainFor s s.pmc.st x) s) s)
            else s
          let s := logEvent 29 0x8002 (detail [(16, 2, i), (18, 1, b2n (persist && set))]) s
          let s := poolRecords pools (routePost 0x0C s)
          let note := set && !persist
          let wait (n : Nat) (s : State) : State :=
            if (s.domain i).switchingOn then waitFor p (unfenceWait i n note) s else answer (if note then stNote else stOk) n s
          match slot with
          | some n =>
            let s := writeRepair n (s.repairWith [i] false) good s
            if good then wait n s else fail p stFault 0xFFFF 0 s
          | none => wait 0 s) s) s

/-! ### Status and swap -/

/-- RPR_STATUS (Table 27-10). -/
def execRprStatus (s : State) : Out :=
  interpret 0x0D01 (fun p => checked p 0 [] (fun s =>
    let used := ([1, 2, 3, 4, 5, 6, 7, 8] : List Nat).filter fun n => s.otpWritten (repairSlot n) 32
    let pool (q : Nat) : List (Nat × Nat × Nat) :=
      [(4 + 4 * q, 1, (s.activeUnits q).length), (5 + 4 * q, 1, ((s.spareOf q).map (· - (poolUnits q).headD 0)).getD 0xFF),
       (6 + 4 * q, 1, ((poolUnits q).filter fun d => (s.domain d).st == .fenced).length), (7 + 4 * q, 1, s.poolState q)]
    let spent (ch : Nat) : Nat := (s.aon.ddrSpent.filter fun x => x / 256 == ch).length
    complete p stOk (layout 64 ([(0, 2, s.fencedCount), (2, 1, s.repairInForce), (3, 1, 8 - used.length)] ++ ((List.range 4).map pool).flatten
      ++ [(20, 1, maskOf s.aon.phaseShed), (21, 1, s.pmc.phases), (22, 1, spent 0), (23, 1, spent 1), (24, 19, maskOf s.aon.fence), (44, 19, s.repairBits)])) s)) s
/-- RPR_SPARE_SWAP (R976, R718). -/
def execRprSpareSwap (s : State) : Out :=
  interpret 0x0D04 (fun p s =>
    let q := u8 p.params 0 - 1; let action := u8 p.params 2
    let out := (poolUnits q)[u8 p.params 1]?
    checked p 4 [(0, inR (u8 p.params 0) 1 4), (1, out.any (s.activeUnits q).contains), (2, inR action 1 2)] (fun s =>
      match out, s.spareOf q with
      | some d, some u =>
        match (if q == 0 then s.roleOn (d - 15) else none) with
        | some r => waitFor p (moveWait r) (startMove r u (s.coreWorks (d - 15)) (if action == 2 then some 0 else none) s)
        | none =>
          let s := { s with pmc := { s.pmc with swap := some (d, u, action) } }
          let s := activate u (waitFor p swapWait s)
          if (s.domain u).switchingOn then s else finishSwap (d, u, action) s
      | _, _ => fail p stNoResource 0xFFFF 0 s) s) s

/-! ### Automatic fences -/

/-- Domains that a cause of Table 27-2 can name. -/
def causeFits (cause d : Nat) : Bool :=
  match cause with
  | 1 => fenceable d
  | 2 => inR d 65 85
  | 3 => inR d 100 147
  | 4 | 5 => inR d 15 19
  | 6 => inR d 86 89
  | 7 => inR d 50 57 || inR d 59 62
  | 8 => d == 63
  | _ => false
/-- AUTO_FENCE (R972): the condition of a cause of Table 27-2 holds for domain d. -/
def execAutoFence (d cause : Nat) (s : State) : Out := .next (whenS (s.live && causeFits cause d) (autoFence d cause) s)
/-- KNOWN_ANSWER_TEST (R972): an idle engine, or the unwrap unit of the key store, runs its test; a failure fences it. -/
def execKnownAnswerTest (d : Nat) (passed : Bool) (s : State) : Out :=
  .next (if s.isOn d && !passed && ((inR d 65 85 && !s.domBusy d) || d == 63) then autoFence d (if d == 63 then 8 else 2) s else s)
/-- DDR_SPENT (R979): a device is marked SPENT; the second of a channel fences it (Table 27-2, cause 6). -/
def execDdrSpent (ch device : Nat) (s : State) : Out :=
  let x := ch % 2 * 256 + device % 256
  if !s.live || s.aon.ddrSpent.contains x then .next s
  else
    let s := { s with aon := { s.aon with ddrSpent := nset x s.aon.ddrSpent } }
    let s := logEvent 29 0x8006 (detail [(16, 1, ch % 2), (17, 1, device % 256)]) s
    .next (whenS (decide (1 < (s.aon.ddrSpent.filter fun y => y / 256 == ch % 2).length)) (fenceChannel (ch % 2)) s)

/-! ### Watchdogs and moves (R714-R719) -/

/-- The code section of a role's image is in a core, whose other memories are wiped (R717). -/
def loadCore (r c : Nat) (s : State) : State :=
  modCore c (fun x => { ({} : WdCore) with code := section_ (((s.role r).desc.map (·.code)).getD []), cyc := x.cyc, cycleH := x.cycleH }) s
/-- The old core's memories are in the new one (R716). -/
def copyCore (from_ dest : Nat) (s : State) : State :=
  let old := s.core from_
  modCore dest (fun x => { ({} : WdCore) with code := old.code, data := old.data, codeBad := old.codeBad, dataBad := old.dataBad, cyc := x.cyc, cycleH := x.cycleH }) s
/-- ROLE_MOVE_COMPLETE (R716-R718): WDN_MAP changes, the role resumes or starts on the new core, and the old core leaves. good: a repair record reads back. -/
def execRoleMoveComplete (r : Nat) (good : Bool) (s : State) : Out :=
  match (s.role r).move, s.coreOf r with
  | some m, some c =>
    if !s.isOn (15 + m.dest) || !m.frozen || (m.warm && (s.core c).access.isSome) then .next s
    else
      let before := s.withSpare (15 + m.dest)
      let s := if m.warm then copyCore c m.dest s else abortRoleCommands r (clearRole r s)
      let s := modCore c (fun _ => {}) s
      let s := modWdn (fun x => { x with map := x.map.set r m.dest, spare := if x.spare == m.dest then 7 else x.spare }) s
      let s := modRole r (fun x => { x with move := none }) s
      let s := if m.warm then sched r s else startRole r (loadCore r m.dest s)
      let s := logEvent 18 0x8003 (detail [(16, 1, r), (17, 1, c), (18, 1, m.dest), (19, 1, b2n (!m.warm)), (20, 4, s.us - m.since)]) s
      let cmd := (s.cmd.waits.find? fun w => w.kind == moveWait r).map (·.pkt)
      let s := { s with cmd := { s.cmd with waits := s.cmd.waits.filter fun w => w.kind != moveWait r } }
      let persist := cmd.any fun p => p.opcode == 0x0D02 && (u8 p.params 2).testBit 0
      let s := match m.fence with
        | some cause => (fenceDomain before (15 + c) cause persist s).2
        | none => poolRecords before (makeSpare (15 + c) s)
      .next (match cmd with
      | some p =>
        if p.opcode == 0x0D02 then finishFence p (15 + c) (some (15 + m.dest)) persist good s
        else
          let s := logEvent 29 0x8003 (detail [(16, 1, 0), (17, 1, c), (18, 1, m.dest), (19, 1, if m.fence.isSome then 2 else 1)]) s
          complete p stOk (layout 4 [(0, 1, m.dest), (1, 1, if m.warm then 1 else 2)]) s
      | none => s)
  | _, _ => .next s
/-- WATCHDOG_EXPIRY (R714): the role restarts; the second time within 60 s it moves cold to the spare, and without one the device takes a W with cause
0x05. -/
def execWatchdogExpiry (r : Nat) (diode : Int) (s : State) : Out :=
  let x := s.role r
  if !s.live || (x.wdDue.all fun t => decide (s.us < t)) || (s.coreOf r).isNone then .next s
  else if !(x.lastWd.any fun t => decide (s.us < t + 60000000)) then
    .next (restartRole r 0 (modRole r (fun y => { y with lastWd := some s.us }) s))
  else match s.spareOf 0, s.coreOf r with
    | some u, some _ => .next (if x.move.isSome then s else startMove r u false (some 5) (modRole r (fun y => { y with wdDue := none }) s))
    | _, _ => .next (resetDone diode (takeReset .w 5 s))

end Sys2Proof.Machine
end

