-- ==== Sys2Proof/Machine/Rings.lean ====
section
/-!
DEFINITION. Sys2Proof/Machine/Rings.lean: ring pairs (ch 08).
-/
namespace Sys2Proof.Machine
open Sys2Proof

/-- A doorbell value or a polled value is taken (R277): one of depth or above is discarded with a DB_RANGE record. which: 0 tail, 1 head. -/
def takeIndex (g which source value : Nat) (s : State) : State :=
  match s.ring g with
  | none => s
  | some r =>
    let depth := if which = 0 then r.sqDepth else r.cqDepth
    if depth ≤ value then
      logLimited 7 0x8001 g 1 1000 (detail [(16, 1, r.fn), (17, 1, r.loc), (18, 1, which), (19, 1, source), (20, 4, value)]) s
    else setRing g (some (if which = 0 then { r with tail := value } else { r with cqHead := value })) s
/-- Doorbell writes of a function act: not during its reset, and not for an unbound VF or a REVOKED tenant (R208, R245, Table 07-4). -/
def State.doorbells (s : State) (f : Nat) : Bool :=
  s.fnTalks f && (f == pf0 || (match (s.vf f).tenant with
    | some t => (s.tenant t).state != 3
    | none => false))
/-- A write to a doorbell register (R277, R280). -/
def doorbell (which f loc value : Nat) (s : State) : State :=
  if !s.doorbells f then s
  else match s.ringAt f loc with
  | none => s
  | some (g, r) =>
    if r.st == .clearing then s
    else
      let stale (p : Poll) : Poll := if which = 0 then { p with tailStale := true } else { p with headStale := true }
      takeIndex g which 0 (value % 65536) (countEv 5 f 1 1 (setRing g (some { r with pollRead := r.pollRead.map stale }) s))
/-- QEN_DB. -/
def execQenDb (f loc value : Nat) (s : State) : Out := .next (doorbell 0 f loc value s)
/-- QEN_CQ_DB. -/
def execQenCqDb (f loc value : Nat) (s : State) : Out := .next (doorbell 1 f loc value s)

/-- Issue a read transfer with a tag, if fewer than 768 are outstanding (R233). -/
def issueRead (f addr len : Nat) (use : ReadUse) (s : State) : State :=
  let t := s.pce.nextTag
  let s := countEv 5 f 18 len (emit (.dmaRead f addr len t) s)
  { s with pce := { s.pce with reads := s.pce.reads ++ [⟨t, f, addr, len, use⟩], nextTag := (t + 1) % 1024 } }

/-- POLL_TIMER_EXPIRY (R278): one 8-byte read of the ring header. -/
def execPollTimerExpiry (g : Nat) (s : State) : Out :=
  match s.ring g with
  | none => .next s
  | some r =>
    if !r.poll || r.st == .clearing || !s.dataOn || r.pollRead.isSome || 768 ≤ s.pce.reads.length then .next s
    else match dmaCheck r.fn r.hdr 8 false s with
    | .pass => .next (issueRead r.fn r.hdr 8 (.poll g) (countEv 5 r.fn 2 1 (setRing g (some { r with pollRead := some {} }) s)))
    | .refused c => .next (dmaFault r.fn 0 c r.hdr 8 s)
    | .silent => .next s
/-- POLL_READ_COMPLETION (R280): each index is taken as a doorbell write unless a doorbell write of it came after the read was issued. -/
def execPollReadCompletion (g tail head : Nat) (s : State) : Out :=
  match s.ring g with
  | none => .next s
  | some r =>
    match r.pollRead with
    | none => .next s
    | some p =>
      let s := { s with pce := { s.pce with reads := s.pce.reads.filter fun x => x.use != .poll g } }
      let s := setRing g (some { r with pollRead := none }) s
      let s := whenS (!p.tailStale) (takeIndex g 0 1 (tail % 65536)) s
      .next (whenS (!p.headStale) (takeIndex g 1 1 (head % 65536)) s)

/-- The conditions of R283. -/
def State.mayFetch (s : State) (g : Nat) (r : Ring) : Bool :=
  let half := (s.rings.filter fun x => x.1 / 2048 == g / 2048 && x.2.fetch.isSome).length
  let active := r.fn == pf0 || (match (s.vf r.fn).tenant with
    | some t => (s.tenant t).state == 1
    | none => false)
  let stalled := s.cad.waits.any fun w => match w.use with
    | .entry h _ => w.cls == 2 && h == g
    | _ => false
  r.st == .running && active && s.dataOn && s.pmc.trans.isNone && r.head != r.tail && decide (r.work.length < 64) && decide (r.maxReserve ≤ r.room)
    && r.fetch.isNone && decide (half < 128) && !stalled && s.schAdmits r && s.isOn (36 + g / 2048)
/-- FETCH_ISSUE (R283, R284). -/
def execFetchIssue (g : Nat) (s : State) : Out :=
  match s.ring g with
  | none => .next s
  | some r =>
    if !s.mayFetch g r || 768 ≤ s.pce.reads.length then .next s
    else
      let size := if r.wide then 128 else 64
      let addr := r.sqBase + r.head * size
      match dmaCheck r.fn addr size false s with
      | .pass => .next (issueRead r.fn addr size (.fetch g) (setRing g (some { r with fetch := some { reserve := r.maxReserve } }) s))
      | .refused c => .next (dmaFault r.fn 0 c addr size (setRing g (some { r with fetch := some { reserve := r.maxReserve, failed := true } }) s))
      | .silent => .next s
/-- FETCH_READ_FAILED (R284): the unread entry completes with FAULT and the head advances. -/
def execFetchReadFailed (g : Nat) (s : State) : Out :=
  match s.ring g with
  | none => .next s
  | some r =>
    if !((r.fetch.map (·.failed)).getD false) then .next s
    else
      let w : RingWork := { seq := r.nextSeq, entry := [], slots := [.ready { status := stFault }] }
      .next (settle g (setRing g (some { r with head := (r.head + 1) % r.sqDepth, fetch := none, work := r.work ++ [w], nextSeq := r.nextSeq + 1 }) s))

/-- NOP (Table 08-1). -/
def execEntryNop (g : Nat) (entry : Bytes) (s : State) : Out :=
  .next (arrive g 1 entry [] (fun q s => finishEntry g q { user := ((s.workOf g q).map fun w => entUser w.entry).getD 0, kind := 1 } s) s)
/-- PACKET (R297). -/
def execEntryPacket (g : Nat) (entry : Bytes) (data : List (Option Bytes)) (s : State) : Out := .next (arrive g 2 entry data (packetRun g) s)
/-- TX (R261, R262). -/
def execEntryTx (g : Nat) (entry : Bytes) (data : List (Option Bytes)) (s : State) : Out := .next (arrive g 3 entry data (fun q s => txRun g q 9 s) s)
/-- The slots of an RX_POST entry: a segment whose LEN is out of range completes with BAD_PARAM in its turn (R290). -/
def rxSlots (e : Bytes) : List CqSlot :=
  (List.range (entSegs e)).map fun i =>
    if inR (entLen e i) 256 65536 then .waiting
    else .ready { user := entUser e, status := stBadParam, kind := 4, segMask := 2 ^ i, segIndex := i }
/-- RX_POST: buffers are posted (R298). -/
def execEntryRxPost (g : Nat) (entry : Bytes) (s : State) : Out :=
  .next (arrive g 4 entry [] (fun q s => settle g (modWork g q (fun w => { w with slots := rxSlots w.entry }) s)) s)

/-- MODERATION_TIMER_EXPIRY (Table 08-8). -/
def execModerationTimerExpiry (g : Nat) (s : State) : Out :=
  match s.ring g with
  | none => .next s
  | some r =>
    if !r.modTimer then .next s
    else
      let s := setRing g (some { r with modNow := 0, modTimer := false, unannounced := 0 }) s
      .next (whenS (decide (0 < r.modNow)) (sendMsix r.fn r.vector) s)

/-- How many ring pairs a QEN half has. -/
def State.halfUsed (s : State) (h : Nat) : Nat := (s.rings.filter fun x => x.1 / 2048 == h).length
/-- The lowest free number of a half. -/
def State.freeRing (s : State) (h : Nat) : Option Nat := ((List.range 2048).find? fun i => (s.ring (h * 2048 + i)).isNone).map (· + h * 2048)
/-- A function code of Table 08-11. -/
def fnCode (f : Nat) : Bool := decide (f ≤ 63) || f == 127
/-- The range checks that RING_CREATE and RING_NOTIFY_SET share: offsets of FETCH_MODE, HDR_ADDR, POLL_US, NOTIFY, VECTOR, MOD_COUNT, MOD_US. -/
def notifyChecks (f mode hdr pollUs notify vec mc mu : Nat) (oMode oHdr oPoll oNot oVec oMc oMu : Nat) : List (Nat × Bool) :=
  [(oMode, decide (mode ≤ 1)), (oHdr, hdr % 64 == 0 && (mode != 1 || hdr != 0)), (oPoll, mode != 1 || inR pollUs 1 10000), (oNot, decide (notify ≤ 2)),
   (oVec, notify == 0 || (if f == pf0 then inR vec 1 63 else decide (vec ≤ 30))), (oMc, notify != 2 || decide (1 ≤ mc)),
   (oMu, notify != 2 || inR mu 1 1000)]
/-- RING_CREATE (R276, R311, R312, R314; R977, 27). -/
def execRingCreate (s : State) : Out :=
  interpret 0x0401 (fun p s =>
    let b := p.params
    let f := u8 b 0; let loc := u8 b 1; let cls := u8 b 2; let half := u8 b 3; let vfTenant := (s.vf f).tenant
    let fnOk := f == pf0 || (match vfTenant with
      | some t => (s.tenant t).state != 3
      | none => false)
    checked p 40 ([(0, fnCode f && fnOk), (1, decide (loc ≤ 63)), (2, inR cls 1 4 && (cls != 1 || (f == pf0 && !(s.rings.any fun x => x.2.cls == 1)))),
        (3, half == 0 || half == 1 || half == 0xFF), (4, decide (u8 b 4 ≤ 1) && (cls != 1 || u8 b 4 == 0)), (5, inR (u8 b 5) 4 16), (6, inR (u8 b 6) 4 16)]
        ++ (notifyChecks f (u8 b 7) (u64 b 24) (u16 b 32) (u8 b 34) (u8 b 35) (u8 b 36) (u16 b 38) 7 24 32 34 35 36 38).take 1
        ++ [(8, u64 b 8 % 4096 == 0), (16, u64 b 16 % 4096 == 0)]
        ++ (notifyChecks f (u8 b 7) (u64 b 24) (u16 b 32) (u8 b 34) (u8 b 35) (u8 b 36) (u16 b 38) 7 24 32 34 35 36 38).drop 1) (fun s =>
      let exceeds := f != pf0 && (match vfTenant with
        | some t => decide ((s.tenant t).ringMax ≤ s.ringsUsed t)
        | none => false)
      if (s.ringAt f loc).isSome then fail p stBusy 0xFFFF 0 s
      else if exceeds then fail p stNoResource 0xFFFF 1 s
      else if 4096 ≤ s.rings.length then fail p stNoResource 0xFFFF 2 s
      else
        let h := if half != 0xFF then half else if s.domLost 36 then 1 else if s.domLost 37 then 0 else if s.halfUsed 1 < s.halfUsed 0 then 1 else 0
        if s.domLost (36 + h) then fail p stFenced 0xFFFF 0 s
        else match s.freeRing h with
        | none => fail p stNoResource 0xFFFF 3 s
        | some g =>
          let r : Ring := { fn := f, loc := loc, cls := cls, wide := u8 b 4 == 1, sqLog := u8 b 5, cqLog := u8 b 6, poll := u8 b 7 == 1, sqBase := u64 b 8, cqBase := u64 b 16, hdr := u64 b 24, pollUs := u16 b 32, notify := u8 b 34, vector := u8 b 35, modCount := u8 b 36, modUs := u16 b 38, tph := (u8 b 37).testBit 0 }
          complete p stOk (putLe 2 g ++ [0, 0]) (setRing g (some r) s)) s) s

/-- Free a ring pair whose admitted work is finished and answer RING_DESTROY (R308). -/
def freeRingPair (g : Nat) (s : State) : State :=
  match s.ring g with
  | none => s
  | some r =>
    let s := logEvent 7 0x8003 (detail [(16, 1, r.fn), (17, 1, r.loc), (18, 2, g), (20, 4, r.drained)]) (setRing g none s)
    finishWaits (fun k => k == .ring g) stOk (fun _ => []) s
/-- RING_DESTROY (R308, R313). -/
def execRingDestroy (s : State) : Out :=
  interpret 0x0402 (fun p s =>
    let f := u8 p.params 0; let loc := u8 p.params 1
    checked p 4 [(0, fnCode f), (1, decide (loc ≤ 63) && (s.ringAt f loc).isSome)] (fun s =>
      match s.ringAt f loc with
      | none => s
      | some (g, r) =>
        if r.cls == 1 && p.cls == 1 then fail p stBusy 0xFFFF 0 s
        else
          let s := modRing g (fun r => { r with st := if r.mute then .drainingFaulted else .draining }) s
          let s := waitFor p (.ring g) s
          if r.work.isEmpty && r.fetch.isNone then freeRingPair g s else s) s) s
/-- RING_DRAINED (R308): the last admitted work has completed. -/
def execRingDrained (g : Nat) (s : State) : Out :=
  match s.ring g with
  | none => .next s
  | some r =>
    .next (if r.ending && r.work.isEmpty && r.fetch.isNone then freeRingPair g s else s)

/-- RING_NOTIFY_SET (R304, R311). -/
def execRingNotifySet (s : State) : Out :=
  interpret 0x0403 (fun p s =>
    let b := p.params
    let f := u8 b 0; let loc := u8 b 1
    checked p 24 ([(0, fnCode f), (1, decide (loc ≤ 63) && (s.ringAt f loc).isSome)]
        ++ (let l := notifyChecks f (u8 b 2) (u64 b 16) (u16 b 8) (u8 b 3) (u8 b 4) (u8 b 5) (u16 b 6) 2 16 8 3 4 5 6
            l.filter (fun x => x.1 < 6) ++ l.filter fun x => 6 ≤ x.1)) (fun s =>
      match s.ringAt f loc with
      | none => s
      | some (g, r) =>
        let n : Ring := { r with poll := u8 b 2 == 1, notify := u8 b 3, vector := u8 b 4, modCount := u8 b 5, modUs := u16 b 6, pollUs := u16 b 8,
                                 tph := (u8 b 10).testBit 0, hdr := u64 b 16, modNow := 0, modTimer := false }
        let tell := decide (0 < r.unannounced) && n.notify != 0 && !r.mute
        let s := setRing g (some (if tell then { n with unannounced := 0 } else n)) s
        ok p (whenS tell (sendMsix f n.vector) s)) s) s

end Sys2Proof.Machine
end

