-- ==== Sys2Proof/Machine/SchedRows.lean ====
section
/-!
DEFINITION. Sys2Proof/Machine/SchedRows.lean: the scheduling opcodes (ch 12).
-/
namespace Sys2Proof.Machine
open Sys2Proof

/-- The points that a VPORT names: an aggregate stands for its members, and keeps the values for members to come (Table 12-3, R458). -/
def State.pointsOf (s : State) (vp : Nat) : List Nat :=
  if inR vp 0x50 0x53 then vp :: ((s.agg (vp - 0x50)).members.map fun p => 0x48 + p) else [vp]
/-- An egress point is fenced (R458). -/
def State.egressFenced (s : State) (vp : Nat) : Bool :=
  if inR vp 0x48 0x4F then (s.port (vp - 0x48)).st == 5 else inR vp 0x58 0x5B && (s.domLost 58 || ((s.link (vp - 0x58)).mode == 1 && s.domLost (59 + (vp - 0x58))))
/-- Change the PF0 or DEV value of a table, 0 leaving it unchanged. -/
def keepZero (k v : Nat) (t : List (Nat × Nat)) : List (Nat × Nat) := if v = 0 then t else tput 0 t k v

/-- SCH_WEIGHTS_SET (R454, R457, Table 12-3). -/
def execSchWeightsSet (s : State) : Out :=
  interpret 0x0520 (fun p s =>
    let b := p.params
    let classes := if u8 b 0 == 2 then (1, isNetVp (u8 b 1)) :: ((List.range 8).map fun i => (4 + i, decide (u8 b (4 + i) ≤ 1)))
      ++ (List.range 8).map fun i => (12 + i, u8 b (12 + i) != 0) else []
    checked p 24 ((0, inR (u8 b 0) 1 2) :: classes) (fun s =>
      if u8 b 0 == 1 then
        let s := forEach (List.range 16) (fun t s =>
          let w := u8 b (4 + t)
          if w = 0 then s else charter t (fun x => { x with weight := w }) s) s
        ok p { s with net := { s.net with weights := keepZero 17 (u8 b 21) (keepZero 16 (u8 b 20) s.net.weights) } }
      else if s.egressFenced (u8 b 1) then fail p stFenced 0xFFFF 0 s
      else
        let strict := (List.range 8).filter fun i => u8 b (4 + i) == 1
        let weights := (List.range 8).foldl (fun t i => tput 0 t i (u8 b (12 + i) - 1)) []
        ok p (forEach (s.pointsOf (u8 b 1)) (fun k s => modPoint k (fun x => { x with strict := strict, cweight := weights }) s) s)) s) s

/-- The fields of SCH_LIMITS_SET (Table 12-4). -/
def limitFields (s : State) (b : Bytes) : List (Nat × Bool) :=
  let rate := [(4, decide (u32 b 4 ≤ 800000)), (8, u32 b 4 == 0 || inR (u32 b 8) 64 16777215)]
  let caps := [(12, inR (u32 b 12) 64 65536), (16, inR (u32 b 16) 64 1048576)]
  (0, inR (u8 b 0) 1 4) :: (match u8 b 0 with
    | 1 => (1, decide (u8 b 1 < 16)) :: rate ++ caps
    | 2 => (1, decide (u8 b 1 < 64) && (s.vf (u8 b 1)).tenant.isSome) :: rate
    | 3 => (1, decide (u8 b 1 ≤ 1)) :: caps
    | _ => [(1, inR (u8 b 1) 2 6), (4, if u8 b 1 == 2 then isNetVp (u16 b 4) else u16 b 4 == 0), (8, inR (u32 b 8) 256 1048576)])

/-- SCH_LIMITS_SET (R437, R454, R457, R458, Table 12-4). -/
def execSchLimitsSet (s : State) : Out :=
  interpret 0x0521 (fun p s =>
    let b := p.params
    let rate := u32 b 4; let burst := u32 b 8 % 2 ^ 24
    checked p 24 (limitFields s b) (fun s =>
      match u8 b 0 with
      | 1 =>
        let t := u8 b 1
        let s := settleTenant t s
        let x := s.tenant t
        let s := if x.rate == rate && x.burst == burst then s
          else charter t (fun x => { x with rate := rate, burst := burst, tokens := min x.tokens (burst * 8192 : Nat) }) s
        ok p (modTenant t (fun x => { x with txCap := u32 b 12, engCap := u32 b 16 }) s)
      | 2 =>
        let f := u8 b 1
        let s := settleVf f s
        let x := s.vf f
        if x.rate == rate && x.burst == burst then ok p s
        else ok p (ifSome x.tenant bumpGen (modVf f (fun x => { x with rate := rate, burst := burst, tokens := min x.tokens (burst * 8192 : Nat) }) s))
      | 3 =>
        let k := 16 + u8 b 1
        ok p { s with net := { s.net with txCaps := tput 0 s.net.txCaps k (u32 b 12), engCaps := tput 0 s.net.engCaps k (u32 b 16) } }
      | _ =>
        let lim := some (u32 b 8)
        if u8 b 1 == 2 then
          if s.egressFenced (u16 b 4) then fail p stFenced 0xFFFF 0 s
          else ok p (forEach (s.pointsOf (u16 b 4)) (fun k s => modPoint k (fun x => { x with qlimit := lim }) s) s)
        else
          let blk := match u8 b 1 with | 4 => 12 | 5 => 14 | 6 => 15 | _ => 11
          if blk != 11 && s.blockFenced blk then fail p stFenced 0xFFFF 0 s
          else ok p (modPoint (0x100 + u8 b 1) (fun x => { x with qlimit := lim }) s)) s) s

end Sys2Proof.Machine
end

