-- ==== Sys2Proof/Machine/Serve.lean ====
section
/-!
DEFINITION. Sys2Proof/Machine/Serve.lean: a scheduling point serves its queue, and allocations that waited are served or given up (ch 09, 12).
-/
namespace Sys2Proof.Machine
open Sys2Proof

/-- POINT_SERVE (R445, R447-R450, R452): the next item of point k goes to where the point leads. Delivery needs a link that carries transfers, an engine point a unit
that is ON (R151, R968). -/
def execPointServe (k : Nat) (s : State) : Out :=
  if k < 0x100 then
    if !(s.point k).serving.isEmpty || s.net.inq.any fun q => q.cut == some k then .next s
    else match popItem k (if inR k 0x48 0x4F then (s.port (k - 0x48)).paused else []) s with
    | some (i, s) => .next (modPoint k (fun x => { x with serving := [i] }) s)
    | none => .next s
  else if k == 0x103 then
    if s.pce.convReset then .next s
    else match popItem k [] s with
    | some (i, s) => match i.job with
      | .deliver f g => .next (deliverFrame g f s)
      | _ => .next s
    | none => .next s
  else if !inR k 0x104 0x106 then .next s
  else if (s.unitsOn k).isEmpty then .next (poolCheck k s)
  else match popItem k [] s with
  | none => .next s
  | some (i, s) =>
    if k == 0x104 then .next (enterAes i s)
    else if k == 0x106 then .next (match s.leastUnit k with
      | some u => intoUnit k u i s
      | none => s)
    else match i.job with
    | .store f => .next (match s.connOf f.bytes with
      | some (_, c) => intoUnit k c.engine i s
      | none => dropFrame (some k) f s)
    | .entry g seq => .next (stoEntry g seq s)
    | _ => .next s

/-- What waited for a buffer goes on. -/
def resume (u : CadUse) (s : State) : State :=
  match u with
  | .entry g seq =>
    match s.workOf g seq with
    | none => s
    | some w =>
      let k := entKind w.entry
      if k == 2 then packetRun g seq s else if k == 3 then txRun g seq 9 s
      else if k < 0x20 then stoRun g seq s else if k < 0x30 then fixRun g seq s else xtsRun g seq s
  | .item k id =>
    if k == 0x102 then resumeSwitch id s
    else if k == 0x104 then stateOf (execCryptoItemDone id s) s
    else connFlush (id - 0x10000) (((s.conn (id - 0x10000)).map fun c => c.outq.length).getD 0 + 1) s
  | .packet => s
/-- The waits in the order in which they are served (R326): CONTROL, ENGINE, FETCH, and within a class as registered. -/
def State.waitOrder (s : State) : List CadWait := [0, 1, 2].flatMap fun c => s.cad.waits.filter fun w => w.cls == c
/-- WAITING_ALLOC_SERVED (R326): the first wait whose buffers can be had goes on. -/
def execWaitingAllocServed (s : State) : Out :=
  match s.waitOrder.find? fun w => (cadTake w.cls w.owner w.fn w.len s).isSome with
  | none => .next s
  | some w => .next (resume w.use { s with cad := { s.cad with waits := s.cad.waits.erase w } })
/-- What waited for a buffer of class ENGINE is given up with NO_RESOURCE; a frame is dropped (Table 09-2). -/
def giveUp (u : CadUse) (s : State) : State :=
  match u with
  | .item k id =>
    if k == 0x102 then dropWaiting id s
    else if k == 0x104 then match s.inUnit k id with
      | some i => match i.job with
        | .entry g seq => failEntry g seq stNoResource (outOfUnit k i s)
        | _ => outOfUnit k i s
      | none => s
    else
      let h := id - 0x10000
      let s := modConn h (fun c => { c with outq := c.outq.drop 1 }) s
      connFlush h (((s.conn h).map fun c => c.outq.length).getD 0 + 1) s
  | _ => s
/-- ENGINE_WAIT_TIMEOUT (R324, Table 09-2): wait n has lasted 10 ms. -/
def execEngineWaitTimeout (n : Nat) (s : State) : Out :=
  match s.cad.waits[n]? with
  | none => .next s
  | some w =>
    if w.cls != 1 then .next s
    else
      let s := { s with cad := { s.cad with waits := s.cad.waits.eraseIdx n } }
      let s := logEvent 8 0x8003 (detail [(16, 1, (s.pickPool 1 w.len).getD 0xFF), (17, 1, w.agent), (18, 1, 0xFF), (20, 4, w.len)]) s
      .next (giveUp w.use s)

end Sys2Proof.Machine
end

