-- ==== Sys2Proof/Machine/Switch.lean ====
section
/-!
DEFINITION. Sys2Proof/Machine/Switch.lean: lookups and verdicts, and the switch opcodes (ch 11).
-/
namespace Sys2Proof.Machine
open Sys2Proof

/-- Take frame id out of the received frames. -/
def dropIn (id : Nat) (s : State) : State := { s with net := { s.net with inq := s.net.inq.filter fun x => x.frame.id != id } }
/-- Change received frame id. -/
def modIn (id : Nat) (f : InFrame → InFrame) (s : State) : State :=
  { s with net := { s.net with inq := modWhere (fun x => x.frame.id == id) f s.net.inq } }
/-- A slice serves lookups. -/
def State.sliceOn (s : State) : Bool := [41, 42, 43, 44].any s.isOn

/-- SWITCH_LOOKUP (R399-R401, R418, R426): the action applies at once to a frame whose verdict is known; an unjudged frame is cut
through, written early, or stored. -/
def execSwitchLookup (id : Nat) (s : State) : Out :=
  match s.net.inq.find? fun x => x.frame.id == id && x.found.isNone && x.sealed.isNone with
  | none => .next s
  | some q =>
    if !s.sliceOn then .next s
    else
      let f := q.frame
      match lookupFrame s.net.active f.bytes f.inVp f.tc (s.domLost 45) with
      | .drop why reason =>
        let s := dropFrame none f (dropIn id s)
        .next (match why with
          | 0 => countEv 4 f.inVp 5 1 s
          | 1 => logLimited 10 0x8003 f.inVp 1 1000000 (detail [(16, 1, f.inVp), (17, 1, reason)]) (countEv 4 f.inVp 7 1 s)
          | _ => s)
      | .act x inner tun key =>
        let f := { f with bytes := inner, tunnel := tun, hash := convHash key, csum := rxCsum inner }
        if q.judged then .next (applyAction x f (dropIn id s))
        else
          let s := modIn id (fun q => { q with frame := f, found := some x }) s
          match cutTarget x f s with
          | (some k, s) => .next (modIn id (fun q => { q with cut := some k }) (countEv 4 f.inVp 10 1 s))
          | (none, s) =>
            let (may, s) := freeNat 2 s
            match (if may = 1 then earlyDeliver x f s else none) with
            | some (list, s) => .next (modIn id (fun q => { q with early := list }) s)
            | none => .next s

/-- Mirror copies of a frame that was cut through or delivered early, once its verdict has passed (R423). -/
def mirrorLate (x : Found) (f : Frame) (s : State) : State :=
  let ins := s.mirrorsIn x f
  let s := forEach ins (fun m s => mirrorTo m f s) s
  forEach ((s.mirrorsOf (u8 x.action 2) 5).filter fun m => !ins.contains m) (fun m s => mirrorTo m (x.edit f) s) s

/-- VERDICT_ARRIVAL (R404, R420-R422, R425, R426, R484). -/
def execVerdictArrival (id : Nat) (s : State) : Out :=
  match s.net.inq.find? fun x => x.frame.id == id && !x.judged with
  | none => .next s
  | some q =>
    let f := q.frame
    let good := q.verdict == 0
    let s := if good then (match q.sec with
      | some (i, pn) => macsecSeen i pn f.bytes.length s
      | none => s) else if q.verdict == 4 then (match q.sec with
      | some (i, _) => saFail i 0 s
      | none => s) else s
    match q.sealed, q.cut, q.found with
    | some y, _, _ =>
      if !good then .next (dropFrame none f (dropIn id s))
      else if s.netAdmits 0x104 17 then .next (enqueueAt 0x104 17 0 f.bytes.length false (.openIn f y) (dropIn id s))
      else .next (dropFrame (some 0x104) f (dropIn id s))
    | none, some k, some x =>
      let s := whenS (!good) (countEv 4 f.inVp 9 1) (dropIn id s)
      let s := countEv 4 (u8 x.action 2) 3 (f.bytes.length + 4) (countEv 4 (u8 x.action 2) 2 1 s)
      let g := x.edit f
      let s := if inR k 0x48 0x4F then sendMac (k - 0x48) g.bytes (!good) (cadRelease g.bufs s) else latSend (k - 0x58) g (!good) s
      let s := whenS good (mirrorLate x f) s
      .next (match (if inR k 0x48 0x4F then s.aggOf (k - 0x48) else none) with
        | some a => releaseHeld a s
        | none => s)
    | none, none, found =>
      if !q.early.isEmpty then
        let s := whenS (!good) (countEv 4 f.inVp 11 1) (earlyComplete q.early good f (dropIn id s))
        .next (match found with
          | some x => whenS good (mirrorLate x { f with bufs := [] }) s
          | none => s)
      else if !good then .next (dropFrame none f (dropIn id s))
      else match found with
        | some x => .next (applyAction x f (dropIn id s))
        | none => .next (modIn id (fun q => { q with judged := true }) s)
    | none, some _, none => .next s

/-! ### Table writes (R406-R410, Table 11-2) -/

/-- Entries, entry bytes and key bytes of a table; no key bytes for an indexed table. -/
def tableShape (code : Nat) : Option (Nat × Nat × Nat) :=
  match code with
  | 1 => some (97, 16, 0) | 2 => some (4096, 4, 0) | 3 => some (65536, 32, 0) | 4 => some (4096, 128, 0) | 5 => some (1024, 36, 0)
  | 6 => some (16384, 32, 24) | 7 => some (65536, 16, 8) | 8 => some (131072, 72, 64) | 9 => some (4096, 136, 0)
  | _ => none
/-- A tag field in network order: bit 12 zero and VID 0-4,094. -/
def tagOk (e : Bytes) (off : Nat) : Bool := !(beAt e off 2).testBit 12 && decide (beAt e off 2 % 4096 ≤ 4094)
/-- First byte of the field of Table 11-3 that holds key byte i. -/
def keyField (i : Nat) : Nat := ([0, 2, 4, 5, 6, 7, 8, 12, 14, 16, 18, 20, 36, 52, 58].filter fun o => decide (o ≤ i)).getLastD 0
/-- Fields of a lookup key, with the mask that says which bits count. -/
def keyFields (k m : Bytes) : List (Nat × Bool) :=
  [(0, decide (u8 k 1 < 16)), (5, u8 m 5 != 0xFF || (vpExists (u8 k 5) && u8 k 5 != 0x60)), (6, decide (u8 k 6 < 16)), (7, decide (u8 k 7 < 8)),
   (8, u8 k 8 == 0), (12, decide (u8 k 12 < 16)), (18, u16 k 18 == 0)]
/-- The fields of an entry in the order of its layout: offset and whether the value is in range (Table 11-2 to Table 11-6). -/
def entryFields (code : Nat) (e : Bytes) : List (Nat × Bool) :=
  match code with
  | 1 => [(1, decide (u8 e 1 < 8)), (2, decide (u16 e 2 < 4096)), (4, decide (u8 e 4 ≤ 4)), (5, decide (u8 e 5 ≤ 4))]
  | 2 => []
  | 3 => [(0, inR (u8 e 0) 1 4), (2, vpExists (u8 e 2)), (3, decide (u8 e 3 < 8)), (6, decide (u8 e 6 ≤ 5)), (7, decide (u8 e 7 ≤ 3)),
          (8, tagOk e 8), (10, tagOk e 10), (14, decide (u16 e 14 ≤ 0x3FFF) || decide (0xFFFE ≤ u16 e 14)), (16, decide (u8 e 16 < 64)),
          (17, decide (u8 e 17 ≤ 6)), (18, u8 e 0 != 4 || decide (u16 e 18 < 4096)), (20, u8 e 2 != 0x5C || inR (u16 e 20) 1 4095)]
  | 4 => [(0, inR (u8 e 0) 1 2), (1, u8 e 1 == 4 || u8 e 1 == 6), (2, decide (u8 e 2 ≤ 2)), (6, u8 e 6 != 0), (7, decide (u8 e 7 < 64)),
          (20, tagOk e 20), (22, tagOk e 22), (24, u8 e 24 == 0),
          (28, if u8 e 0 == 2 then decide (u8 e 28 ≤ 64) && u8 e 28 % 4 == 0 else u8 e 28 == 0)]
  | 5 => (0, inR (u8 e 0) 1 32) :: (List.range 32).map fun i => (4 + i, if i < u8 e 0 then vpExists (u8 e (4 + i)) else u8 e (4 + i) == 0xFF)
  | 6 => [(0, u8 e 0 == 4 || u8 e 0 == 6), (1, inR (u8 e 1) 1 2), (4, u8 e 4 == 0), (8, u8 e 0 == 6 || slice e 12 12 == zeros 12),
          (24, decide (u16 e 24 < 4096))]
  | 7 => [(0, decide (u16 e 0 < 4096))]
  | 8 => keyFields e (List.replicate 64 0xFF)
  | 9 => match (List.range 64).find? fun i => u8 e i &&& (255 - u8 e (64 + i)) != 0 with
    | some i => keyFields e (slice e 64 64) ++ [(keyField i, false)]
    | none => keyFields e (slice e 64 64)
  | _ => []
/-- The references of an entry: offset, table, index (Table 11-2). -/
def entryRefs (code : Nat) (e : Bytes) : List (Nat × Nat × Nat) :=
  match code with
  | 1 => [(2, 2, u16 e 2)]
  | 2 => [(0, 3, u16 e 0)]
  | 3 => (if (u8 e 1).testBit 1 then [(4, 4, u16 e 4)] else []) ++ (if u8 e 0 == 3 then [(12, 5, u16 e 12)] else [])
      ++ (if u8 e 0 == 4 then [(18, 2, u16 e 18)] else [])
  | 6 => [(24, 2, u16 e 24)]
  | 7 => [(8, 3, u16 e 8)]
  | 8 => [(64, 3, u16 e 64)]
  | 9 => [(130, 3, u16 e 130)]
  | _ => []
/-- Every entry of the tables: code and bytes. -/
def SwTables.all (t : SwTables) : List (Nat × Bytes) :=
  t.indexed.map (fun e => (e.1 / 2 ^ 20, e.2)) ++ t.decap.map (fun e => (6, e)) ++ t.l2.map (fun e => (7, e)) ++ t.exact.map (fun e => (8, e))
/-- Some entry references entry i of an indexed table. -/
def SwTables.referenced (t : SwTables) (code i : Nat) : Bool := t.all.any fun e => (entryRefs e.1 e.2).any fun r => r.2 == (code, i)
/-- Some entry references an entry of the table. -/
def SwTables.anyRef (t : SwTables) (code : Nat) : Bool := t.all.any fun e => (entryRefs e.1 e.2).any fun r => r.2.1 == code && !(t.get code r.2.2).isEmpty

/-- Entries of a hashed table. -/
def SwTables.hashed (t : SwTables) (code : Nat) : List Bytes := match code with | 6 => t.decap | 7 => t.l2 | _ => t.exact
/-- Replace the entries of a hashed table. -/
def SwTables.setHashed (t : SwTables) (code : Nat) (l : List Bytes) : SwTables :=
  match code with | 6 => { t with decap := l } | 7 => { t with l2 := l } | _ => { t with exact := l }

/-- One record of a write (op 1) or delete (op 2): the tables, or status and offset in the record. -/
def putRecord (code op : Nat) (t : SwTables) (r : Bytes) : Except (Nat × Nat) SwTables :=
  match tableShape code with
  | none => .error (stBadParam, 0)
  | some (n, _, key) =>
    if key == 0 then
      let i := u32 r 0
      let e := r.drop 4
      if n ≤ i || (code == 1 && !vpExists i) then .error (stBadParam, 0)
      else if op == 2 then (if t.referenced code i then .error (stBusy, 0) else .ok { t with indexed := tput [] t.indexed (code * 2 ^ 20 + i) [] })
      else match (entryFields code e).find? fun f => !f.2 with
        | some f => .error (stBadParam, 4 + f.1)
        | none => match (entryRefs code e).find? fun f => (t.get f.2.1 f.2.2).isEmpty with
          | some f => .error (stBadParam, 4 + f.1)
          | none => .ok { t with indexed := tput [] t.indexed (code * 2 ^ 20 + i) e }
    else
      let l := t.hashed code
      let same (x : Bytes) : Bool := x.take key == r.take key
      match (entryFields code r).find? fun f => !f.2 && (op == 1 || decide (f.1 < key)) with
      | some f => .error (stBadParam, f.1)
      | none =>
        if op == 2 then .ok (t.setHashed code (l.filter fun x => !same x))
        else match (entryRefs code r).find? fun f => (t.get f.2.1 f.2.2).isEmpty with
        | some f => .error (stBadParam, f.1)
        | none =>
          let bucket (x : Bytes) : Nat := Config.bucketOf code (x.take key) % (n / 8)
          if !l.any same && 8 ≤ (l.filter fun x => bucket x == bucket r).length then .error (stNoResource, 0)
          else .ok (t.setHashed code (upsert same r l))
/-- All records in order: the tables, or status, record number and offset in it. -/
def putRecords (code op size : Nat) : Nat → Nat → SwTables → Bytes → Except (Nat × Nat × Nat) SwTables
  | 0, _, t, _ => .ok t
  | k + 1, i, t, b =>
    match putRecord code op t (b.take size) with
    | .error (st, off) => .error (st, i, off)
    | .ok t => putRecords code op size k (i + 1) t (b.drop size)

/-- SWX_TABLE_WRITE (R406, R409, R410). -/
def execSwxTableWrite (s : State) : Out :=
  interpret 0x0510 (fun p s =>
    let b := p.params
    let op := u8 b 1
    let n := u16 b 2
    if b.length < 4 then fail p stBadLength 0xFFFF 0 s
    else match tableShape (u8 b 0) with
    | none => badParam p 0 s
    | some (_, bytes, key) =>
      let size := if key == 0 then bytes + 4 else bytes
      if !inR op 1 3 then badParam p 1 s
      else if (op == 3) != (n == 0) then badParam p 2 s
      else
        let straddles := match p.parts with
          | [] => false
          | a :: t => decide (a < 4) || (a - 4) % size != 0 || t.any fun x => x % size != 0
        if b.length != 4 + n * size || straddles then fail p stBadLength 0xFFFF 0 s
        else if op == 3 then
          if s.net.shadow.anyRef (u8 b 0) then fail p stBusy 0 0 s
          else
            let c := u8 b 0
            ok p { s with net := { s.net with shadow := if key == 0 then { s.net.shadow with indexed := s.net.shadow.indexed.filter fun e => e.1 / 2 ^ 20 != c }
                                                        else s.net.shadow.setHashed c [] } }
        else match putRecords (u8 b 0) op size n 0 s.net.shadow (b.drop 4) with
        | .error (st, i, off) => let q := packetOf 0 p.parts (4 + i * size + off); fail p st q.2 q.1 s
        | .ok t => ok p { s with net := { s.net with shadow := t } }) s

/-- Entries that differ between two copies of the tables. -/
def SwTables.changes (a b : SwTables) : Nat :=
  let idx := ((a.indexed.map (·.1)) ++ (b.indexed.map (·.1))).eraseDups.filter fun k => tget [] a.indexed k != tget [] b.indexed k
  let hash (code key : Nat) : Nat :=
    let x := a.hashed code; let y := b.hashed code
    (y.filter fun e => !x.contains e).length + (x.filter fun e => !y.any fun f => f.take key == e.take key).length
  idx.length + hash 6 24 + hash 7 8 + hash 8 64

/-- SWX_TABLE_COMMIT (R407, R408). -/
def execSwxTableCommit (s : State) : Out :=
  interpret 0x0511 (fun p => checked p 8 [(4, inR (u8 p.params 4) 1 2)] fun s =>
    let want := u32 p.params 0
    let gen := s.net.gen.toNat
    let n := s.net.active.changes s.net.shadow
    let reply (s : State) : Bytes := putLe 4 s.net.gen.toNat ++ putLe 4 n
    if want != 0xFFFFFFFF && want != gen then fail p stBusy 0xFFFF (gen % 65536) s
    else if u8 p.params 4 == 2 then let s := { s with net := { s.net with shadow := s.net.active } }; complete p stOk (reply s) s
    else if n = 0 then complete p stNote (reply s) s
    else
      let s := { s with net := { s.net with active := s.net.shadow, gen := s.net.gen + 1 } }
      let s := logEvent 10 0x8001 (detail [(16, 4, s.net.gen.toNat), (20, 4, n), (24, 2, p.cls * 4096 + p.ident)]) s
      complete p stOk (reply s) s) s

/-- SWX_MIRROR_SET (R431); D098 follows the use of the sessions. -/
def execSwxMirrorSet (s : State) : Out :=
  interpret 0x0512 (fun p s =>
    let b := p.params
    let dest := u8 b 2
    checked p 16 [(0, decide (u8 b 0 ≤ 3)), (2, dest == 0x40 || isNetVp dest), (3, dest != 0x40 || decide (u8 b 3 < 64)),
      (4, u16 b 4 == 0 || inR (u16 b 4) 64 9216), (6, u16 b 6 == 0xFFFF || !(s.sw 4 (u16 b 6)).isEmpty), (8, inR (u32 b 8) 1 16777216)]
      (fun s =>
        let m : Mirror := { on := (u8 b 1).testBit 0, dest := dest, ring := u8 b 3, trunc := u16 b 4,
                            tunnel := if u16 b 6 == 0xFFFF then none else some (u16 b 6), sampleN := u32 b 8 }
        ok p (syncUse 98 { s with net := { s.net with mirrors := tput {} s.net.mirrors (u8 b 0) m } })) s) s

end Sys2Proof.Machine
end

