-- ==== Sys2Proof/Machine/Dispatch.lean ====
section
/-!
DEFINITION. Sys2Proof/Machine/Dispatch.lean: one arm for each command; each calls its meaning.
-/
namespace Sys2Proof.Machine
open Sys2Proof

/-- The effect of a command on everything but the queue. -/
def exec (i : Instr) (s : State) : Host.Outcome State Fault Refusal :=
  match i with
  | .powerOn => Sys2Proof.Machine.execPowerOn s
  | .vinOkHold => Sys2Proof.Machine.execVinOkHold s
  | .powerUpStart => Sys2Proof.Machine.execPowerUpStart s
  | .ibPgoodTimeout => Sys2Proof.Machine.execIbPgoodTimeout s
  | .ibcRetry => Sys2Proof.Machine.execIbcRetry s
  | .brownOut => Sys2Proof.Machine.execBrownOut s
  | .vinLow vin => Sys2Proof.Machine.execVinLow vin s
  | .vinOv set vin => Sys2Proof.Machine.execVinOv set vin s
  | .pfailSet vbus => Sys2Proof.Machine.execPfailSet vbus s
  | .pfailClear vbus => Sys2Proof.Machine.execPfailClear vbus s
  | .graceTimerExpiry => Sys2Proof.Machine.execGraceTimerExpiry s
  | .holdLimitExpiry => Sys2Proof.Machine.execHoldLimitExpiry s
  | .drainEnd => Sys2Proof.Machine.execDrainEnd s
  | .waitingTransitionTaken => Sys2Proof.Machine.execWaitingTransitionTaken s
  | .shelfEntry => Sys2Proof.Machine.execShelfEntry s
  | .shelfRailsDown => Sys2Proof.Machine.execShelfRailsDown s
  | .railFault rail mirrorOk => Sys2Proof.Machine.execRailFault rail mirrorOk s
  | .vcorePhaseAdd => Sys2Proof.Machine.execVcorePhaseAdd s
  | .vcorePhaseShed phase => Sys2Proof.Machine.execVcorePhaseShed phase s
  | .rtcAlarmWake => Sys2Proof.Machine.execRtcAlarmWake s
  | .wakeNWake => Sys2Proof.Machine.execWakeNWake s
  | .vbusReturnSample clear => Sys2Proof.Machine.execVbusReturnSample clear s
  | .vinRecoveryWake => Sys2Proof.Machine.execVinRecoveryWake s
  | .domainSwitchDone d => Sys2Proof.Machine.execDomainSwitchDone d s
  | .domainPowerGoodTimeout d => Sys2Proof.Machine.execDomainPowerGoodTimeout d s
  | .idleGateTimeout d => Sys2Proof.Machine.execIdleGateTimeout d s
  | .ddrRegionWiped ch => Sys2Proof.Machine.execDdrRegionWiped ch s
  | .resetNRegistered => Sys2Proof.Machine.execResetNRegistered s
  | .resetNReleased diode => Sys2Proof.Machine.execResetNReleased diode s
  | .hkRoundStart => Sys2Proof.Machine.execHkRoundStart s
  | .hkConversion value pmb => Sys2Proof.Machine.execHkConversion value pmb s
  | .hkPublication hot short0 short1 => Sys2Proof.Machine.execHkPublication hot short0 short1 s
  | .trimSlewStep => Sys2Proof.Machine.execTrimSlewStep s
  | .clockLoss pll => Sys2Proof.Machine.execClockLoss pll s
  | .refclkLost which => Sys2Proof.Machine.execRefclkLost which s
  | .refclkReturn which => Sys2Proof.Machine.execRefclkReturn which s
  | .ddrPllUnlock ch => Sys2Proof.Machine.execDdrPllUnlock ch s
  | .ddrPllRelockTimeout ch relocked => Sys2Proof.Machine.execDdrPllRelockTimeout ch relocked s
  | .commandTimeout opcode => Sys2Proof.Machine.execCommandTimeout opcode s
  | .throttleEnd cls ident sub => Sys2Proof.Machine.execThrottleEnd cls ident sub s
  | .chainTimeout cls ident sub => Sys2Proof.Machine.execChainTimeout cls ident sub s
  | .dcwGo size => Sys2Proof.Machine.execDcwGo size s
  | .resultCountingRead win reader => Sys2Proof.Machine.execResultCountingRead win reader s
  | .devIdentify => Sys2Proof.Machine.execDevIdentify s
  | .devReset => Sys2Proof.Machine.execDevReset s
  | .devResetWStart diode => Sys2Proof.Machine.execDevResetWStart diode s
  | .logRead => Sys2Proof.Machine.execLogRead s
  | .devEcho => Sys2Proof.Machine.execDevEcho s
  | .hkpStatus => Sys2Proof.Machine.execHkpStatus s
  | .hkpThresholdsSet => Sys2Proof.Machine.execHkpThresholdsSet s
  | .clkStatus => Sys2Proof.Machine.execClkStatus s
  | .pwrStateGet => Sys2Proof.Machine.execPwrStateGet s
  | .pwrStateSet => Sys2Proof.Machine.execPwrStateSet s
  | .shelfReplyDelivered => Sys2Proof.Machine.execShelfReplyDelivered s
  | .pwrDomainGet => Sys2Proof.Machine.execPwrDomainGet s
  | .pwrDomainSet => Sys2Proof.Machine.execPwrDomainSet s
  | .pwrConverterCfg => Sys2Proof.Machine.execPwrConverterCfg s
  | .rtcGet => Sys2Proof.Machine.execRtcGet s
  | .rtcSet => Sys2Proof.Machine.execRtcSet s
  | .perstNAssert => Sys2Proof.Machine.execPerstNAssert s
  | .perstNDeassert => Sys2Proof.Machine.execPerstNDeassert s
  | .hotResetReceived => Sys2Proof.Machine.execHotResetReceived s
  | .linkDlDown => Sys2Proof.Machine.execLinkDlDown s
  | .linkTrainingStart => Sys2Proof.Machine.execLinkTrainingStart s
  | .configRequest f reg write => Sys2Proof.Machine.execConfigRequest f reg write s
  | .flrStart f => Sys2Proof.Machine.execFlrStart f s
  | .flrComplete f => Sys2Proof.Machine.execFlrComplete f s
  | .vfEnableClear => Sys2Proof.Machine.execVfEnableClear s
  | .dmaReadCompletion tag good => Sys2Proof.Machine.execDmaReadCompletion tag good s
  | .completionTimeout tag => Sys2Proof.Machine.execCompletionTimeout tag s
  | .atsInvalidation f tag page => Sys2Proof.Machine.execAtsInvalidation f tag page s
  | .msixPendingSend f v => Sys2Proof.Machine.execMsixPendingSend f v s
  | .mgtEventWrite bits also => Sys2Proof.Machine.execMgtEventWrite bits also s
  | .mgtDmafCountRead reader => Sys2Proof.Machine.execMgtDmafCountRead reader s
  | .tntCharterSet => Sys2Proof.Machine.execTntCharterSet s
  | .tntCharterGet => Sys2Proof.Machine.execTntCharterGet s
  | .tntStateSet => Sys2Proof.Machine.execTntStateSet s
  | .tntReset => Sys2Proof.Machine.execTntReset s
  | .tntVfBind => Sys2Proof.Machine.execTntVfBind s
  | .qenDb f loc value => Sys2Proof.Machine.execQenDb f loc value s
  | .qenCqDb f loc value => Sys2Proof.Machine.execQenCqDb f loc value s
  | .pollTimerExpiry g => Sys2Proof.Machine.execPollTimerExpiry g s
  | .pollReadCompletion g tail head => Sys2Proof.Machine.execPollReadCompletion g tail head s
  | .fetchIssue g => Sys2Proof.Machine.execFetchIssue g s
  | .fetchReadFailed g => Sys2Proof.Machine.execFetchReadFailed g s
  | .entryNop g entry => Sys2Proof.Machine.execEntryNop g entry s
  | .entryPacket g entry data => Sys2Proof.Machine.execEntryPacket g entry data s
  | .entryTx g entry data => Sys2Proof.Machine.execEntryTx g entry data s
  | .entryRxPost g entry => Sys2Proof.Machine.execEntryRxPost g entry s
  | .moderationTimerExpiry g => Sys2Proof.Machine.execModerationTimerExpiry g s
  | .ringCreate => Sys2Proof.Machine.execRingCreate s
  | .ringDestroy => Sys2Proof.Machine.execRingDestroy s
  | .ringDrained g => Sys2Proof.Machine.execRingDrained g s
  | .ringNotifySet => Sys2Proof.Machine.execRingNotifySet s
  | .cadWAlloc core len256 => Sys2Proof.Machine.execCadWAlloc core len256 s
  | .cadWFree core => Sys2Proof.Machine.execCadWFree core s
  | .waitingAllocServed => Sys2Proof.Machine.execWaitingAllocServed s
  | .engineWaitTimeout n => Sys2Proof.Machine.execEngineWaitTimeout n s
  | .cacheRefill pool => Sys2Proof.Machine.execCacheRefill pool s
  | .caddyWipeDone pool => Sys2Proof.Machine.execCaddyWipeDone pool s
  | .cadPoolCreate => Sys2Proof.Machine.execCadPoolCreate s
  | .cadPoolDestroy => Sys2Proof.Machine.execCadPoolDestroy s
  | .poolReleased pool => Sys2Proof.Machine.execPoolReleased pool s
  | .cadPoolStatus => Sys2Proof.Machine.execCadPoolStatus s
  | .frameReceived p bytes phyErr fec => Sys2Proof.Machine.execFrameReceived p bytes phyErr fec s
  | .pauseTimeExpiry p cls => Sys2Proof.Machine.execPauseTimeExpiry p cls s
  | .pauseGeneration p => Sys2Proof.Machine.execPauseGeneration p s
  | .pauseRefresh p => Sys2Proof.Machine.execPauseRefresh p s
  | .frameTransmit k => Sys2Proof.Machine.execFrameTransmit k s
  | .anComplete p result fec pause eee => Sys2Proof.Machine.execAnComplete p result fec pause eee s
  | .anRestart p => Sys2Proof.Machine.execAnRestart p s
  | .portLinkChange p what => Sys2Proof.Machine.execPortLinkChange p what s
  | .lldpTimer p => Sys2Proof.Machine.execLldpTimer p s
  | .lacpduReceived p pdu => Sys2Proof.Machine.execLacpduReceived p pdu s
  | .lacpPeriodic p => Sys2Proof.Machine.execLacpPeriodic p s
  | .parkWindowEnd a => Sys2Proof.Machine.execParkWindowEnd a s
  | .parkDrainDone p => Sys2Proof.Machine.execParkDrainDone p s
  | .deepPendingEnd p => Sys2Proof.Machine.execDeepPendingEnd p s
  | .memberActive p => Sys2Proof.Machine.execMemberActive p s
  | .wakeLate p => Sys2Proof.Machine.execWakeLate p s
  | .failedMemberRetry p => Sys2Proof.Machine.execFailedMemberRetry p s
  | .eeeTlvExpiry p => Sys2Proof.Machine.execEeeTlvExpiry p s
  | .portModeSet => Sys2Proof.Machine.execPortModeSet s
  | .portStatus => Sys2Proof.Machine.execPortStatus s
  | .portPauseSet => Sys2Proof.Machine.execPortPauseSet s
  | .portParkSet => Sys2Proof.Machine.execPortParkSet s
  | .switchLookup id => Sys2Proof.Machine.execSwitchLookup id s
  | .verdictArrival id => Sys2Proof.Machine.execVerdictArrival id s
  | .swxTableWrite => Sys2Proof.Machine.execSwxTableWrite s
  | .swxTableCommit => Sys2Proof.Machine.execSwxTableCommit s
  | .swxMirrorSet => Sys2Proof.Machine.execSwxMirrorSet s
  | .pointServe k => Sys2Proof.Machine.execPointServe k s
  | .schWeightsSet => Sys2Proof.Machine.execSchWeightsSet s
  | .schLimitsSet => Sys2Proof.Machine.execSchLimitsSet s
  | .cryptoItemDone id => Sys2Proof.Machine.execCryptoItemDone id s
  | .entryXtsEnc g entry data => Sys2Proof.Machine.execEntryXtsEnc g entry data s
  | .entryXtsDec g entry data => Sys2Proof.Machine.execEntryXtsDec g entry data s
  | .drbgReseed => Sys2Proof.Machine.execDrbgReseed s
  | .drbgHealthFailure cause => Sys2Proof.Machine.execDrbgHealthFailure cause s
  | .keyLoad => Sys2Proof.Machine.execKeyLoad s
  | .keyErase => Sys2Proof.Machine.execKeyErase s
  | .keyKekSet => Sys2Proof.Machine.execKeyKekSet s
  | .crySaAdd => Sys2Proof.Machine.execCrySaAdd s
  | .crySaDel => Sys2Proof.Machine.execCrySaDel s
  | .drbgStatus => Sys2Proof.Machine.execDrbgStatus s
  | .entryConnAttach g entry data => Sys2Proof.Machine.execEntryConnAttach g entry data s
  | .entryConnDetach g entry data => Sys2Proof.Machine.execEntryConnDetach g entry data s
  | .detachAcked h => Sys2Proof.Machine.execDetachAcked h s
  | .detachTimeout h => Sys2Proof.Machine.execDetachTimeout h s
  | .entryConnRekey g entry data => Sys2Proof.Machine.execEntryConnRekey g entry data s
  | .entryStoPost g entry data => Sys2Proof.Machine.execEntryStoPost g entry data s
  | .entryTgtResp g entry data => Sys2Proof.Machine.execEntryTgtResp g entry data s
  | .entryIniCmd g entry data => Sys2Proof.Machine.execEntryIniCmd g entry data s
  | .tcpSegmentReceived id => Sys2Proof.Machine.execTcpSegmentReceived id s
  | .retransmissionTimeout h => Sys2Proof.Machine.execRetransmissionTimeout h s
  | .capsuleCmd h => Sys2Proof.Machine.execCapsuleCmd h s
  | .capsuleResp h => Sys2Proof.Machine.execCapsuleResp h s
  | .h2cData h => Sys2Proof.Machine.execH2cData h s
  | .c2hData h => Sys2Proof.Machine.execC2hData h s
  | .termReq h => Sys2Proof.Machine.execTermReq h s
  | .rocePacketReceived id => Sys2Proof.Machine.execRocePacketReceived id s
  | .cnpReceived id => Sys2Proof.Machine.execCnpReceived id s
  | .roceRateRecovery h => Sys2Proof.Machine.execRoceRateRecovery h s
  | .driveSubmit d => Sys2Proof.Machine.execDriveSubmit d s
  | .driveCqPoll d cqes data recs => Sys2Proof.Machine.execDriveCqPoll d cqes data recs s
  | .driveTimeout d slot => Sys2Proof.Machine.execDriveTimeout d slot s
  | .stoTargetCfg => Sys2Proof.Machine.execStoTargetCfg s
  | .stoNsSet => Sys2Proof.Machine.execStoNsSet s
  | .stoConnStatus => Sys2Proof.Machine.execStoConnStatus s
  | .entryFixEncode g entry data => Sys2Proof.Machine.execEntryFixEncode g entry data s
  | .fixVerifyEntry g entry data => Sys2Proof.Machine.execFixVerifyEntry g entry data s
  | .fixRepairEntry g entry data => Sys2Proof.Machine.execFixRepairEntry g entry data s
  | .entryFixMigrate g entry data => Sys2Proof.Machine.execEntryFixMigrate g entry data s
  | .fixJobDone id data => Sys2Proof.Machine.execFixJobDone id data s
  | .scrubStripe n => Sys2Proof.Machine.execScrubStripe n s
  | .fixVerify => Sys2Proof.Machine.execFixVerify s
  | .fixRepair => Sys2Proof.Machine.execFixRepair s
  | .fixScrubSet => Sys2Proof.Machine.execFixScrubSet s
  | .fixRsCfg => Sys2Proof.Machine.execFixRsCfg s
  | .tickBoundary => Sys2Proof.Machine.execTickBoundary s
  | .frameSyncEdge d => Sys2Proof.Machine.execFrameSyncEdge d s
  | .missedFrame => Sys2Proof.Machine.execMissedFrame s
  | .sgeNop => Sys2Proof.Machine.execSgeNop s
  | .sgeClr => Sys2Proof.Machine.execSgeClr s
  | .sgeMov => Sys2Proof.Machine.execSgeMov s
  | .sgeAdd => Sys2Proof.Machine.execSgeAdd s
  | .sgeSub => Sys2Proof.Machine.execSgeSub s
  | .sgeNeg => Sys2Proof.Machine.execSgeNeg s
  | .sgeAbs => Sys2Proof.Machine.execSgeAbs s
  | .sgeMin => Sys2Proof.Machine.execSgeMin s
  | .sgeMax => Sys2Proof.Machine.execSgeMax s
  | .sgeAsh => Sys2Proof.Machine.execSgeAsh s
  | .sgeCsel => Sys2Proof.Machine.execSgeCsel s
  | .sgeClamp => Sys2Proof.Machine.execSgeClamp s
  | .sgeLdi => Sys2Proof.Machine.execSgeLdi s
  | .sgeLdc => Sys2Proof.Machine.execSgeLdc s
  | .sgeRdd => Sys2Proof.Machine.execSgeRdd s
  | .sgeWrd => Sys2Proof.Machine.execSgeWrd s
  | .sgeMac => Sys2Proof.Machine.execSgeMac s
  | .sgeMaca => Sys2Proof.Machine.execSgeMaca s
  | .sgeMula => Sys2Proof.Machine.execSgeMula s
  | .sgeMulab => Sys2Proof.Machine.execSgeMulab s
  | .sgeIn => Sys2Proof.Machine.execSgeIn s
  | .sgeOut => Sys2Proof.Machine.execSgeOut s
  | .sgeRes => Sys2Proof.Machine.execSgeRes s
  | .sgeRep => Sys2Proof.Machine.execSgeRep s
  | .sgeProgramLoad => Sys2Proof.Machine.execSgeProgramLoad s
  | .sgeProgramSwap => Sys2Proof.Machine.execSgeProgramSwap s
  | .sgeTickSet => Sys2Proof.Machine.execSgeTickSet s
  | .sgeStrayCountRead reader => Sys2Proof.Machine.execSgeStrayCountRead reader s
  | .sgeMissCountRead reader => Sys2Proof.Machine.execSgeMissCountRead reader s
  | .tdmFrameComplete input words => Sys2Proof.Machine.execTdmFrameComplete input words s
  | .adcConversion c code => Sys2Proof.Machine.execAdcConversion c code s
  | .captureEdge c rising at_ => Sys2Proof.Machine.execCaptureEdge c rising at_ s
  | .pwmPeriodStart k => Sys2Proof.Machine.execPwmPeriodStart k s
  | .pourCopyDone => Sys2Proof.Machine.execPourCopyDone s
  | .sioPourValue core value => Sys2Proof.Machine.execSioPourValue core value s
  | .pourCommit core => Sys2Proof.Machine.execPourCommit core s
  | .pourDiscard core => Sys2Proof.Machine.execPourDiscard core s
  | .sgePourStage => Sys2Proof.Machine.execSgePourStage s
  | .sgePourCommit => Sys2Proof.Machine.execSgePourCommit s
  | .sgeSlotRead => Sys2Proof.Machine.execSgeSlotRead s
  | .fenAdd core => Sys2Proof.Machine.execFenAdd core s
  | .fenSub core => Sys2Proof.Machine.execFenSub core s
  | .fenAnd core => Sys2Proof.Machine.execFenAnd core s
  | .fenOr core => Sys2Proof.Machine.execFenOr core s
  | .fenXor core => Sys2Proof.Machine.execFenXor core s
  | .fenSlt core => Sys2Proof.Machine.execFenSlt core s
  | .fenSltu core => Sys2Proof.Machine.execFenSltu core s
  | .fenMul core => Sys2Proof.Machine.execFenMul core s
  | .fenMulhu core => Sys2Proof.Machine.execFenMulhu core s
  | .fenShli core => Sys2Proof.Machine.execFenShli core s
  | .fenShri core => Sys2Proof.Machine.execFenShri core s
  | .fenSari core => Sys2Proof.Machine.execFenSari core s
  | .fenBeq core => Sys2Proof.Machine.execFenBeq core s
  | .fenBne core => Sys2Proof.Machine.execFenBne core s
  | .fenBlt core => Sys2Proof.Machine.execFenBlt core s
  | .fenBge core => Sys2Proof.Machine.execFenBge core s
  | .fenBltu core => Sys2Proof.Machine.execFenBltu core s
  | .fenBgeu core => Sys2Proof.Machine.execFenBgeu core s
  | .fenNot core => Sys2Proof.Machine.execFenNot core s
  | .fenNeg core => Sys2Proof.Machine.execFenNeg core s
  | .fenJr core => Sys2Proof.Machine.execFenJr core s
  | .fenCallr core => Sys2Proof.Machine.execFenCallr core s
  | .fenRet core => Sys2Proof.Machine.execFenRet core s
  | .fenPush core => Sys2Proof.Machine.execFenPush core s
  | .fenPop core => Sys2Proof.Machine.execFenPop core s
  | .fenYield core => Sys2Proof.Machine.execFenYield core s
  | .fenWait core => Sys2Proof.Machine.execFenWait core s
  | .fenExit core => Sys2Proof.Machine.execFenExit core s
  | .fenTrap core => Sys2Proof.Machine.execFenTrap core s
  | .fenAddi core => Sys2Proof.Machine.execFenAddi core s
  | .fenAndi core => Sys2Proof.Machine.execFenAndi core s
  | .fenOri core => Sys2Proof.Machine.execFenOri core s
  | .fenXori core => Sys2Proof.Machine.execFenXori core s
  | .fenSlti core => Sys2Proof.Machine.execFenSlti core s
  | .fenSltiu core => Sys2Proof.Machine.execFenSltiu core s
  | .fenLd core => Sys2Proof.Machine.execFenLd core s
  | .fenSt core => Sys2Proof.Machine.execFenSt core s
  | .fenLdp core => Sys2Proof.Machine.execFenLdp core s
  | .fenXld core => Sys2Proof.Machine.execFenXld core s
  | .fenXst core => Sys2Proof.Machine.execFenXst core s
  | .deviceAccessComplete core => Sys2Proof.Machine.execDeviceAccessComplete core s
  | .deviceAccessTimeout core => Sys2Proof.Machine.execDeviceAccessTimeout core s
  | .fenRdl core => Sys2Proof.Machine.execFenRdl core s
  | .fenWrl core => Sys2Proof.Machine.execFenWrl core s
  | .fenJmp core => Sys2Proof.Machine.execFenJmp core s
  | .fenCall core => Sys2Proof.Machine.execFenCall core s
  | .timeSliceExpiry core => Sys2Proof.Machine.execTimeSliceExpiry core s
  | .eventPost role task bit => Sys2Proof.Machine.execEventPost role task bit s
  | .taskCreate core role task prio sm ovf => Sys2Proof.Machine.execTaskCreate core role task prio sm ovf s
  | .taskCancel core role task => Sys2Proof.Machine.execTaskCancel core role task s
  | .wdnEvpost core role task bit => Sys2Proof.Machine.execWdnEvpost core role task bit s
  | .wdnWdogKick core => Sys2Proof.Machine.execWdnWdogKick core s
  | .wdnEvdropRead core => Sys2Proof.Machine.execWdnEvdropRead core s
  | .timerArm core timer value => Sys2Proof.Machine.execTimerArm core timer value s
  | .timerExpiry role timer => Sys2Proof.Machine.execTimerExpiry role timer s
  | .watchdogExpiry r diode => Sys2Proof.Machine.execWatchdogExpiry r diode s
  | .lckAcq reader lock => Sys2Proof.Machine.execLckAcq reader lock s
  | .lckRel reader lock => Sys2Proof.Machine.execLckRel reader lock s
  | .batScan cells stack t0 t1 => Sys2Proof.Machine.execBatScan cells stack t0 t1 s
  | .coulombSample sample => Sys2Proof.Machine.execCoulombSample sample s
  | .ocd ma => Sys2Proof.Machine.execOcd ma s
  | .openWireTest change => Sys2Proof.Machine.execOpenWireTest change s
  | .openWirePeriod => Sys2Proof.Machine.execOpenWirePeriod s
  | .restReached => Sys2Proof.Machine.execRestReached s
  | .rebaseEvaluation => Sys2Proof.Machine.execRebaseEvaluation s
  | .chargeUpdate answered => Sys2Proof.Machine.execChargeUpdate answered s
  | .chargerRetry answered => Sys2Proof.Machine.execChargerRetry answered s
  | .batStatus => Sys2Proof.Machine.execBatStatus s
  | .batLimitsSet => Sys2Proof.Machine.execBatLimitsSet s
  | .batOpenWireTest => Sys2Proof.Machine.execBatOpenWireTest s
  | .batChargerSet => Sys2Proof.Machine.execBatChargerSet s
  | .pltSetpointSet => Sys2Proof.Machine.execPltSetpointSet s
  | .setpointLegCommit setpoint => Sys2Proof.Machine.execSetpointLegCommit setpoint s
  | .pltStatus => Sys2Proof.Machine.execPltStatus s
  | .pltStop => Sys2Proof.Machine.execPltStop s
  | .stopCtlAssert => Sys2Proof.Machine.execStopCtlAssert s
  | .stopCtlRelease key => Sys2Proof.Machine.execStopCtlRelease key s
  | .canCfg => Sys2Proof.Machine.execCanCfg s
  | .canFrameReceived ident ide fdf brs esi dlc data => Sys2Proof.Machine.execCanFrameReceived ident ide fdf brs esi dlc data s
  | .canTxDone => Sys2Proof.Machine.execCanTxDone s
  | .canErrorStateChange tec rec_ => Sys2Proof.Machine.execCanErrorStateChange tec rec_ s
  | .canRecovered => Sys2Proof.Machine.execCanRecovered s
  | .canTxreq reg value => Sys2Proof.Machine.execCanTxreq reg value s
  | .canTxabort reg value => Sys2Proof.Machine.execCanTxabort reg value s
  | .canRecover => Sys2Proof.Machine.execCanRecover s
  | .canRxLostRead reader => Sys2Proof.Machine.execCanRxLostRead reader s
  | .carriageSegment src data => Sys2Proof.Machine.execCarriageSegment src data s
  | .carriageGapTimeout node => Sys2Proof.Machine.execCarriageGapTimeout node s
  | .lblInventory req => Sys2Proof.Machine.execLblInventory req s
  | .lblStayQuiet req => Sys2Proof.Machine.execLblStayQuiet req s
  | .lblReadSingleBlock req busy => Sys2Proof.Machine.execLblReadSingleBlock req busy s
  | .lblWriteSingleBlock req busy => Sys2Proof.Machine.execLblWriteSingleBlock req busy s
  | .lblLockBlock req busy => Sys2Proof.Machine.execLblLockBlock req busy s
  | .lblReadMultipleBlocks req busy => Sys2Proof.Machine.execLblReadMultipleBlocks req busy s
  | .lblWriteMultipleBlocks req busy => Sys2Proof.Machine.execLblWriteMultipleBlocks req busy s
  | .lblSelect req => Sys2Proof.Machine.execLblSelect req s
  | .lblResetToReady req => Sys2Proof.Machine.execLblResetToReady req s
  | .lblGetSystemInfo req => Sys2Proof.Machine.execLblGetSystemInfo req s
  | .lblGetMultipleBlockSecurityStatus req busy => Sys2Proof.Machine.execLblGetMultipleBlockSecurityStatus req busy s
  | .extendedReadSingleBlock req busy => Sys2Proof.Machine.execExtendedReadSingleBlock req busy s
  | .extendedWriteSingleBlock req busy => Sys2Proof.Machine.execExtendedWriteSingleBlock req busy s
  | .extendedLockSingleBlock req busy => Sys2Proof.Machine.execExtendedLockSingleBlock req busy s
  | .extendedReadMultipleBlocks req busy => Sys2Proof.Machine.execExtendedReadMultipleBlocks req busy s
  | .extendedWriteMultipleBlocks req busy => Sys2Proof.Machine.execExtendedWriteMultipleBlocks req busy s
  | .extendedGetSystemInfo req busy => Sys2Proof.Machine.execExtendedGetSystemInfo req busy s
  | .unsupportedFieldCommand req => Sys2Proof.Machine.execUnsupportedFieldCommand req s
  | .mbxSubmit req busy => Sys2Proof.Machine.execMbxSubmit req busy s
  | .lblWake req => Sys2Proof.Machine.execLblWake req s
  | .labelDeviceRead core => Sys2Proof.Machine.execLabelDeviceRead core s
  | .labelDeviceWrite core => Sys2Proof.Machine.execLabelDeviceWrite core s
  | .labelDeferredRetry => Sys2Proof.Machine.execLabelDeferredRetry s
  | .labelDeferTimeout => Sys2Proof.Machine.execLabelDeferTimeout s
  | .labelWriteCommit => Sys2Proof.Machine.execLabelWriteCommit s
  | .mirrorTimeout => Sys2Proof.Machine.execMirrorTimeout s
  | .xspMasterRead cmd => Sys2Proof.Machine.execXspMasterRead cmd s
  | .xspMasterWrite cmd => Sys2Proof.Machine.execXspMasterWrite cmd s
  | .xspMasterTransferDone data => Sys2Proof.Machine.execXspMasterTransferDone data s
  | .xspMasterTimeout => Sys2Proof.Machine.execXspMasterTimeout s
  | .xspPktWrite header data => Sys2Proof.Machine.execXspPktWrite header data s
  | .xspResultRead header words => Sys2Proof.Machine.execXspResultRead header words s
  | .xspLockAcq header => Sys2Proof.Machine.execXspLockAcq header s
  | .xspLockRel header => Sys2Proof.Machine.execXspLockRel header s
  | .xspStatus header words => Sys2Proof.Machine.execXspStatus header words s
  | .xspTargetReset header => Sys2Proof.Machine.execXspTargetReset header s
  | .xspSelectRelease => Sys2Proof.Machine.execXspSelectRelease s
  | .latticeFrameReceived link offset bytes => Sys2Proof.Machine.execLatticeFrameReceived link offset bytes s
  | .commandCarriage => Sys2Proof.Machine.execCommandCarriage s
  | .latticeFrameSlot link => Sys2Proof.Machine.execLatticeFrameSlot link s
  | .symbolLockTimeout link => Sys2Proof.Machine.execSymbolLockTimeout link s
  | .trainingTimeout link => Sys2Proof.Machine.execTrainingTimeout link s
  | .linkRetrain link => Sys2Proof.Machine.execLinkRetrain link s
  | .helloTimer link => Sys2Proof.Machine.execHelloTimer link s
  | .deadTimer link => Sys2Proof.Machine.execDeadTimer link s
  | .replayTimer link => Sys2Proof.Machine.execReplayTimer link s
  | .qualityWindow link => Sys2Proof.Machine.execQualityWindow link s
  | .tunnelFrameReceived p bytes => Sys2Proof.Machine.execTunnelFrameReceived p bytes s
  | .tunnelFlush link => Sys2Proof.Machine.execTunnelFlush link s
  | .lsaReceived => Sys2Proof.Machine.execLsaReceived s
  | .lsaOriginate => Sys2Proof.Machine.execLsaOriginate s
  | .lsaAgeExpiry serial => Sys2Proof.Machine.execLsaAgeExpiry serial s
  | .vertexClaimHeld => Sys2Proof.Machine.execVertexClaimHeld s
  | .routeRecompute => Sys2Proof.Machine.execRouteRecompute s
  | .handoverStateReceived link msg => Sys2Proof.Machine.execHandoverStateReceived link msg s
  | .handoverStop => Sys2Proof.Machine.execHandoverStop s
  | .handoverWorkDeadline => Sys2Proof.Machine.execHandoverWorkDeadline s
  | .handoverStopTimeout => Sys2Proof.Machine.execHandoverStopTimeout s
  | .handoverSwitch => Sys2Proof.Machine.execHandoverSwitch s
  | .handoverRelease => Sys2Proof.Machine.execHandoverRelease s
  | .latStatus => Sys2Proof.Machine.execLatStatus s
  | .latVertexSet => Sys2Proof.Machine.execLatVertexSet s
  | .latStackJoin => Sys2Proof.Machine.execLatStackJoin s
  | .latStackLeave => Sys2Proof.Machine.execLatStackLeave s
  | .latHandover => Sys2Proof.Machine.execLatHandover s
  | .secureBoot => Sys2Proof.Machine.execSecureBoot s
  | .bootDone => Sys2Proof.Machine.execBootDone s
  | .confirmTimerExpiry diode => Sys2Proof.Machine.execConfirmTimerExpiry diode s
  | .lcyStateGet => Sys2Proof.Machine.execLcyStateGet s
  | .lcyTransition good => Sys2Proof.Machine.execLcyTransition good s
  | .transitionWStart diode => Sys2Proof.Machine.execTransitionWStart diode s
  | .otpSettingsWrite good => Sys2Proof.Machine.execOtpSettingsWrite good s
  | .fwImageLoad => Sys2Proof.Machine.execFwImageLoad s
  | .fwImageActivate good => Sys2Proof.Machine.execFwImageActivate good s
  | .activationWStart diode => Sys2Proof.Machine.execActivationWStart diode s
  | .trustRoll good => Sys2Proof.Machine.execTrustRoll good s
  | .rprStatus => Sys2Proof.Machine.execRprStatus s
  | .rprFence good => Sys2Proof.Machine.execRprFence good s
  | .rprUnfence good => Sys2Proof.Machine.execRprUnfence good s
  | .rprSpareSwap => Sys2Proof.Machine.execRprSpareSwap s
  | .autoFence d cause => Sys2Proof.Machine.execAutoFence d cause s
  | .knownAnswerTest d passed => Sys2Proof.Machine.execKnownAnswerTest d passed s
  | .cntBankEnable => Sys2Proof.Machine.execCntBankEnable s
  | .cntBankDisable => Sys2Proof.Machine.execCntBankDisable s
  | .cntSnapshot => Sys2Proof.Machine.execCntSnapshot s
  | .cntRead => Sys2Proof.Machine.execCntRead s
  | .jtagExtest => Sys2Proof.Machine.execJtagExtest s
  | .jtagIdcode => Sys2Proof.Machine.execJtagIdcode s
  | .jtagSamplePreload => Sys2Proof.Machine.execJtagSamplePreload s
  | .jtagClamp => Sys2Proof.Machine.execJtagClamp s
  | .jtagHighz => Sys2Proof.Machine.execJtagHighz s
  | .jtagExtestPulse => Sys2Proof.Machine.execJtagExtestPulse s
  | .jtagExtestTrain => Sys2Proof.Machine.execJtagExtestTrain s
  | .jtagBypass => Sys2Proof.Machine.execJtagBypass s
  | .dbgAccess => Sys2Proof.Machine.execDbgAccess s
  | .debugDeviceRead addr late => Sys2Proof.Machine.execDebugDeviceRead addr late s
  | .debugDeviceWrite addr value late => Sys2Proof.Machine.execDebugDeviceWrite addr value late s
  | .debugWardenMemoryRead core space addr late => Sys2Proof.Machine.execDebugWardenMemoryRead core space addr late s
  | .tapReset => Sys2Proof.Machine.execTapReset s
  | .registerWrite space addr size value => Sys2Proof.Machine.execRegisterWrite space addr size value s
  | .aonPowerLoss => Sys2Proof.Machine.execAonPowerLoss s
  | .vinOkLoss => Sys2Proof.Machine.execVinOkLoss s
  | .ibPgoodHigh xtalOk pllOk diode => Sys2Proof.Machine.execIbPgoodHigh xtalOk pllOk diode s
  | .linkDlActive speed width upcfg => Sys2Proof.Machine.execLinkDlActive speed width upcfg s
  | .symbolLock link => Sys2Proof.Machine.execSymbolLock link s
  | .roceAckTimeout h => Sys2Proof.Machine.execRoceAckTimeout h s
  | .roleMoveComplete r good => Sys2Proof.Machine.execRoleMoveComplete r good s
  | .ddrSpent ch device => Sys2Proof.Machine.execDdrSpent ch device s
  | .readerField present => Sys2Proof.Machine.execReaderField present s

end Sys2Proof.Machine
end

