-- ==== Sys2Proof/Safety.lean ====
section
/-!
DEFINITION. Sys2Proof/Safety.lean: what counts as a safe run of the device, in the terms that the claims use.
-/
namespace Sys2Proof.Machine
open Sys2Proof

/-- Every bit of a is a bit of b. -/
def Mem.within (a b : Mem) : Prop := ∀ i, a.read i ||| b.read i = b.read i
/-- The OTP is in canonical form: keys rise and no entry is the 0 that an unlisted byte reads as. -/
def State.otpWf (s : State) : Prop := s.otp.mem.wf = true
/-- From s to t no OTP bit has been cleared (R938, 26). -/
def State.otpGrew (s t : State) : Prop := s.otp.mem.within t.otp.mem
/-- Packet p, the next of its area and opcode, is taken in state s and leaves t; its area and block can act on it now (R97, R102, R103, R919). -/
def Given (op : Nat) (p : Packet) (s t : State) : Prop :=
  takeCmd op s = some (p, t) ∧ (t.areaLost (op / 256) || t.blockFenced (opBlock op)) = false ∧ t.blockOff (opBlock op) = false ∧ t.handoverHolds p = false
/-- The label takes the request req, with flags, code and parameters q, in state s (R803, R804, 22): its CRC is right, its flags are known, and it
is for this tag. -/
def Asked (req : Bytes) (q : FieldReq) (s : State) : Prop :=
  let n := req.length
  let custom := decide (0xA0 ≤ q.code)
  let addressed := q.flags.testBit 5 && !q.flags.testBit 2
  let uidAt := if custom then 3 else 2
  let head := uidAt + (if addressed then 8 else 0)
  (s.aon.powered || s.lbl.field) = true ∧ 4 ≤ n ∧ u16 req (n - 2) = (crc16 (req.take (n - 2))).toNat ∧ u8 req 0 = q.flags ∧ u8 req 1 = q.code
    ∧ flagsKnown q.flags = true ∧ q.flags.testBit 2 = (q.code == 1) ∧ head + 2 ≤ n ∧ (addressed = true → slice req uidAt 8 = s.lblUid)
    ∧ (addressed = false → s.lbl.tag ≠ 1 ∧ (q.flags.testBit 4 = true → q.flags.testBit 2 = false → s.lbl.tag = 2))
    ∧ (custom = true → fieldCode q.code = true → u8 req 2 = s.lblMfg) ∧ q.args = slice req head (n - 2 - head)

/-! ### Names for groups of commands -/

/-- The commands that may program OTP (26, 27). -/
def programsOtp : Instr → Bool
  | .lcyTransition _ | .otpSettingsWrite _ | .fwImageActivate _ | .trustRoll _ | .rprFence _ | .rprUnfence _ | .roleMoveComplete _ _ => true
  | _ => false
/-- The commands that may lock a label block (R806). -/
def locksLabel : Instr → Bool
  | .lblLockBlock _ _ | .extendedLockSingleBlock _ _ => true
  | _ => false
/-- The commands of the field that write label blocks (Table 22-2), with the request. -/
def writesLabel : Instr → Option Bytes
  | .lblWriteSingleBlock req _ | .lblWriteMultipleBlocks req _ | .extendedWriteSingleBlock req _ | .extendedWriteMultipleBlocks req _ => some req
  | _ => none
/-- OP of the rows that issue an instruction of the signal engine (Table 16-5). -/
def sgeRow : Instr → Option Nat
  | .sgeNop => some 0x00
  | .sgeClr => some 0x01
  | .sgeMov => some 0x02
  | .sgeAdd => some 0x03
  | .sgeSub => some 0x04
  | .sgeNeg => some 0x05
  | .sgeAbs => some 0x06
  | .sgeMin => some 0x07
  | .sgeMax => some 0x08
  | .sgeAsh => some 0x09
  | .sgeCsel => some 0x0A
  | .sgeClamp => some 0x0B
  | .sgeLdi => some 0x0C
  | .sgeLdc => some 0x10
  | .sgeRdd => some 0x11
  | .sgeWrd => some 0x12
  | .sgeMac => some 0x13
  | .sgeMaca => some 0x14
  | .sgeMula => some 0x15
  | .sgeMulab => some 0x16
  | .sgeIn => some 0x20
  | .sgeOut => some 0x21
  | .sgeRes => some 0x22
  | .sgeRep => some 0x30
  | _ => none
/-- The rows of the Fenuith instructions that only compute a register (Table 18-3), with the core. -/
def fenCompute : Instr → Option (FenOp × Nat)
  | .fenAdd c => some (.add, c)
  | .fenSub c => some (.sub, c)
  | .fenAnd c => some (.and, c)
  | .fenOr c => some (.or, c)
  | .fenXor c => some (.xor, c)
  | .fenSlt c => some (.slt, c)
  | .fenSltu c => some (.sltu, c)
  | .fenMul c => some (.mul, c)
  | .fenMulhu c => some (.mulhu, c)
  | .fenShli c => some (.shli, c)
  | .fenShri c => some (.shri, c)
  | .fenSari c => some (.sari, c)
  | .fenNot c => some (.not, c)
  | .fenNeg c => some (.neg, c)
  | .fenAddi c => some (.addi, c)
  | .fenAndi c => some (.andi, c)
  | .fenOri c => some (.ori, c)
  | .fenXori c => some (.xori, c)
  | .fenSlti c => some (.slti, c)
  | .fenSltiu c => some (.sltiu, c)
  | _ => none
/-- The word w that the engine issues next, of its active program p. -/
def NextWord (p : SgeProg) (w : Nat) (s : State) : Prop := s.sge.active = some p ∧ ∃ i, s.sge.pos = some i ∧ p.code[i]? = some w
/-- Core c issues instruction i of task k of role r (R662, R696). -/
def Issues (c r k : Nat) (i : FenIns) (s : State) : Prop :=
  s.issuer c = some (r, k) ∧ ∃ w len, fenFetch (s.core c) (s.task r k).pc = .ok (i, w, len)
/-- Every accumulator lies in its range (R605). -/
def State.accOk (s : State) : Prop := ∀ d, -(2 ^ 71) ≤ s.acc d ∧ s.acc d ≤ 2 ^ 71 - 1
/-- A WAKE with a wrong code, taken by the label in state s, leaves t (R821, R822). -/
def WrongWake (s t : State) : Prop :=
  ∃ req q, Asked req q s ∧ q.code = 0xA1 ∧ q.args.length = 4 ∧ u32 q.args 0 ≠ s.lblWakeCode ∧ s.pmc.st ≠ .off ∧ exec (.lblWake req) s = .next t

end Sys2Proof.Machine
end

