-- ==== Sys2Proof/Certificates/Slice0/Obligations.lean ====
section
/-!
DEFINITION. Sys2Proof/Certificates/Slice0/Obligations.lean: the statements about the device, each a proposition to be proved.
-/
open Sys2Proof Sys2Proof.Machine

/-- Power-up and the supply events (R116-R123). That the machine is OFF before POWER_ON is the model's choice (log 5). -/
def Obligations.SupplyEventsComplete : Prop :=
  (∀ (s : State), s.pmc.st = .off → exec (.powerOn) s = .next ({ s with aon := { ({} : Aon) with powered := true, wakePending := some 0 }, pmc := { s.pmc with st := .shelf }, dom := [] })) ∧
  (∀ (s : State), exec (.aonPowerLoss) s = .next ({ wipeCW .c s with aon := {}, rst := { (wipeCW .c s).rst with latch := none, active := none, wPending := none }, pmc := { (wipeCW .c s).pmc with st := .off, ibEn := false, upStep := 0 }, dom := [] })) ∧
  (∀ (s : State), s.aon.powered = true → exec (.vinOkHold) s = .next ({ s with aon := { s.aon with vinOk := true }, pmc := { s.pmc with vinLow := false } })) ∧
  (∀ (s : State), exec (.vinOkLoss) s = .next ({ s with aon := { s.aon with vinOk := false } })) ∧
  (∀ (s : State) (w : Nat), s.aon.wakePending = some w → s.pmc.st = .shelf → s.pmc.trans = none → s.aon.vinOk = true → s.aon.brownOut = false → exec (.powerUpStart) s = .next ({ takeReset .c 1 s with aon := { (takeReset .c 1 s).aon with wakePending := none, wakeCause := w, commitMark := false }, pmc := { (takeReset .c 1 s).pmc with st := .boot, upStep := 1, ibEn := true, ibcTries := 0 } })) ∧
  (∀ (s : State) (w : Nat), s.aon.wakePending = some w → s.pmc.st = .shelf → s.pmc.trans = none → s.aon.vinOk = true → s.aon.brownOut = true → exec (.powerUpStart) s = .next ({ takeReset .c 1 s with rst := { (takeReset .c 1 s).rst with latch := s.rst.latch }, aon := { (takeReset .c 1 s).aon with wakePending := none, wakeCause := w, commitMark := false }, pmc := { (takeReset .c 1 s).pmc with st := .boot, upStep := 1, ibEn := true, ibcTries := 0 } })) ∧
  (∀ (s : State), s.pmc.st = .boot → s.pmc.upStep = 1 → s.pmc.ibEn = true → s.pmc.ibcTries < 7 → exec (.ibPgoodTimeout) s = .next ({ s with pmc := { s.pmc with ibEn := false, ibcTries := s.pmc.ibcTries + 1 } })) ∧
  (∀ (s : State), s.pmc.st = .boot → s.pmc.upStep = 1 → s.pmc.ibEn = true → 7 ≤ s.pmc.ibcTries → exec (.ibPgoodTimeout) s = .next ({ abandonPowerUp s with aon := { (abandonPowerUp s).aon with ibcFail := true } })) ∧
  (∀ (s : State), s.pmc.st = .boot → s.pmc.upStep = 1 → s.pmc.ibEn = false → exec (.ibcRetry) s = .next ({ s with pmc := { s.pmc with ibEn := true } })) ∧
  (∀ (s : State) (diode : Int), s.pmc.st = .boot → s.pmc.upStep = 1 → s.pmc.ibEn = true → let u := railsSet s; exec (.ibPgoodHigh true true diode) s = .next (resetDone diode { u with pmc := { u.pmc with upStep := 6 }, ckg := { u.ckg with xtal := true, pll := true, trim := 0 } })) ∧
  (∀ (s : State) (xtalOk pllOk : Bool) (diode : Int), s.pmc.st = .boot → s.pmc.upStep = 1 → s.pmc.ibEn = true → (xtalOk && pllOk) = false → let u := abandonPowerUp (railsSet s); exec (.ibPgoodHigh xtalOk pllOk diode) s = .next ({ u with aon := { u.aon with clkFail := some (if xtalOk then 1 else 0) } })) ∧
  (∀ (s : State), s.aon.powered = true → exec (.brownOut) s = .next ({ takeReset .c 2 s with aon := { (takeReset .c 2 s).aon with vinOk := false, brownOut := true, wakePending := some 5, commitMark := false }, pmc := { (takeReset .c 2 s).pmc with st := .shelf, ibEn := false, upStep := 0, trans := none, calls := [] }, ckg := { (takeReset .c 2 s).ckg with xtal := false, pll := false } })) ∧
  (∀ (s : State), s.aon.brownOut = true → s.pmc.st = .shelf → exec (.vinRecoveryWake) s = .next ({ s with aon := { s.aon with vinOk := true, wakePending := some (s.aon.wakePending.getD 5) } }))

/-- For every state of the stated kind: VIN_LOW and a change of VIN_OV set their flag, keep the reading and write their record; VIN_LOW calls SHELF entry with a drain of at most 50 ms when the device is RUN, TRIM or HOLD; PFAIL sets and clears with its record, interrupt and routed event; setting it starts the grace timer in RUN or TRIM and the hold limit in HOLD, clearing disarms both; the grace timer's expiry calls HOLD and the hold limit's calls SHELF entry with the hold-up wake mask. -/
def Obligations.InputSupervisionCompletes : Prop :=
  (∀ (s : State) (vin : Nat), s.aon.powered = true → let u := logEvent 2 0x8008 (detail [(16, 2, vin)]) { s with pmc := { s.pmc with vinLow := true, vin := vin } }; exec (.vinLow vin) s = .next (whenS u.live (callDown true 2 6 0 50) u)) ∧
  (∀ (s : State) (set : Bool) (vin : Nat), s.pmc.vinOv = !set → exec (.vinOv set vin) s = .next (logEvent 2 0x8007 (detail [(16, 2, vin)]) { s with pmc := { s.pmc with vinOv := set, vin := vin } })) ∧
  (∀ (s : State) (vbus : Nat), s.pmc.pfail = false → s.aon.powered = true → let u := routePost 2 (powerEvent (logEvent 2 0x8002 (detail [(16, 2, vbus)]) (chargeEval { s with pmc := { s.pmc with pfail := true, vbus := vbus } }))); let v := whenS (u.dataOn && u.pmc.trans.isNone) startGrace u; exec (.pfailSet vbus) s = .next (whenS (v.pmc.st == .hold && v.pmc.limitEnd.isNone) startLimit v)) ∧
  (∀ (s : State) (vbus : Nat), s.pmc.pfail = true → let u := routePost 2 (powerEvent (logEvent 2 0x8003 (detail [(16, 2, vbus)]) (chargeEval { s with pmc := { s.pmc with pfail := false, vbus := vbus, graceEnd := none, limitEnd := none } }))); u.pmc.holdBy = none → u.pmc.holdupDrain = false → exec (.pfailClear vbus) s = .next (u)) ∧
  (∀ (s : State), s.pmc.graceEnd.isSome = true → s.pmc.pfail = true → s.dataOn = true → exec (.graceTimerExpiry) s = .next (callDown false 1 0 0 s.pmc.drainMs { s with pmc := { s.pmc with graceEnd := none, holdupDrain := true } })) ∧
  (∀ (s : State), s.pmc.limitEnd.isSome = true → s.pmc.st = .hold → s.pmc.trans = none → let u := callDown true 1 (6 + b2n (s.aon.rtcAlarm != 0)) s.aon.rtcAlarm s.pmc.drainMs { s with pmc := { s.pmc with limitEnd := none } }; exec (.holdLimitExpiry) s = .next ({ u with pmc := { u.pmc with trans := u.pmc.trans.map fun x => { x with fromLimit := true } } }))

/-- For every state of the stated kind: the end of a drain aborts what is unfinished, notes how much and reaches HOLD; a waiting call is taken once no transition runs; the SHELF reply's delivery lets SHELF entry go on; SHELF entry writes the mirror, the STATE_CHANGE record, the wake mask, the alarm and the commit mark, gates the domains and deasserts IB_EN; with the rails down the device is in SHELF with its clocks stopped. -/
def Obligations.TransitionsComplete : Prop :=
  (∀ (s : State) (x : Transition), s.pmc.trans = some x → x.phase = .drain → exec (.drainEnd) s = .next (reachHold (whenS ((drainAbort s).1 != 0) (logEvent 2 0x8005 (detail [(16, 4, (drainAbort s).1)])) (drainAbort s).2))) ∧
  (∀ (s : State) (c : TransCall) (rest : List TransCall), s.pmc.trans = none → s.pmc.calls = c :: rest → s.live = true → c.cause = 0 → c.target = 3 ∨ c.target = 0x10 → exec (.waitingTransitionTaken) s = .next (answerHeld (callDown (c.target == 0x10) c.cause c.mask c.alarm c.drainMs { s with pmc := { s.pmc with calls := rest } }))) ∧
  (∀ (s : State) (c : TransCall) (rest : List TransCall), s.pmc.trans = none → s.pmc.calls = c :: rest → s.live = true → c.cause = 0 → c.target = 1 ∨ c.target = 2 → s.pmc.st.code ≠ c.target → exec (.waitingTransitionTaken) s = .next (finishWaits (fun k => k == .power c.target) stOk (fun _ => []) (enterRunTrim (stateOfCode c.target) c.cause { s with pmc := { s.pmc with calls := rest } }))) ∧
  (∀ (s : State) (x : Transition), s.pmc.trans = some x → x.phase = .held → exec (.shelfReplyDelivered) s = .next ({ s with pmc := { s.pmc with trans := some { x with phase := .entry } } })) ∧
  (∀ (s : State) (x : Transition), s.pmc.trans = some x → x.phase = .entry → x.mirror ≠ 0 → s.pmc.st = .hold → s.lbl.mirrorAt = none → let u := stateChange 3 0x10 x.shelfCause (linksDown (fun _ => true) 8 s); exec (.shelfEntry) s = .next (applyDomains .shelf (batShelf (latRefresh { u with aon := { u.aon with wakeMask := x.mask, rtcAlarm := x.alarm, commitMark := true }, pmc := { u.pmc with st := .shelf, ibEn := false, upStep := 0, limitEnd := none, holdBy := none, calls := [], trans := some { x with phase := .falling } }, cmd := { u.cmd with waits := [], queue := [] } })))) ∧
  (∀ (s : State) (x : Transition), s.pmc.trans = some x → x.phase = .falling → let u := modLbl (fun y => { y with jobs := y.jobs.filter (·.running), mirrorAt := none }) s; exec (.shelfRailsDown) s = .next ({ u with pmc := { u.pmc with trans := none, st := .shelf }, ckg := { u.ckg with xtal := false, pll := false } }))

/-- For every state of the stated kind: a rail fault writes CONVERTER_FAULT and takes SHELF entry without a drain; a phase is added while fewer are driven than are fitted and not shed; a shed phase is marked in AON, lowers the number driven, writes PHASE_SHED, and with fewer than half left calls HOLD within 50 ms; RTC alarm, WAKE_N and the return of VBUS make their wake event with cause and mask bit. -/
def Obligations.RailsAndWakesComplete : Prop :=
  (∀ (s : State) (rail : Nat) (mirrorOk : Bool), s.live = true → exec (.railFault rail mirrorOk) s = .next (shelfNow 4 mirrorOk (logEvent 2 0x8006 (detail [(16, 1, rail)]) s))) ∧
  (∀ (s : State), s.live = true → s.pmc.phasesOn + s.aon.phaseShed.length < s.pmc.phases → exec (.vcorePhaseAdd) s = .next ({ s with pmc := { s.pmc with phasesOn := s.pmc.phasesOn + 1 } })) ∧
  (∀ (s : State) (phase : Nat), s.live = true → phase ∉ s.aon.phaseShed → phase < s.pmc.phases → let shed := nset phase s.aon.phaseShed; let left := s.pmc.phases - shed.length; ceilDiv s.pmc.phases 2 ≤ left → exec (.vcorePhaseShed phase) s = .next (logEvent 29 0x8005 (detail [(16, 1, phase), (17, 1, left)]) { s with aon := { s.aon with phaseShed := shed }, pmc := { s.pmc with phasesOn := min s.pmc.phasesOn left } })) ∧
  (∀ (s : State) (phase : Nat), s.live = true → phase ∉ s.aon.phaseShed → phase < s.pmc.phases → let shed := nset phase s.aon.phaseShed; let left := s.pmc.phases - shed.length; let u := logEvent 29 0x8005 (detail [(16, 1, phase), (17, 1, left)]) { s with aon := { s.aon with phaseShed := shed }, pmc := { s.pmc with phasesOn := min s.pmc.phasesOn left } }; left < ceilDiv s.pmc.phases 2 → exec (.vcorePhaseShed phase) s = .next (callDown false 8 0 0 50 (logEvent 2 0x8006 (detail [(16, 1, 2)]) u))) ∧
  (∀ (s : State), s.pmc.st = .shelf → s.pmc.trans = none → s.aon.wakeMask.testBit 0 = true → s.aon.wakePending = none → exec (.rtcAlarmWake) s = .next ({ s with aon := { s.aon with wakePending := some 1 } })) ∧
  (∀ (s : State), s.pmc.st = .shelf → s.pmc.trans = none → s.aon.wakeMask.testBit 1 = true → s.aon.wakePending = none → exec (.wakeNWake) s = .next ({ s with aon := { s.aon with wakePending := some 2 } })) ∧
  (∀ (s : State), s.pmc.st = .shelf → s.pmc.trans = none → s.aon.wakeMask.testBit 2 = true → s.aon.wakePending = none → exec (.vbusReturnSample true) s = .next ({ s with aon := { s.aon with wakePending := some 3 } }))

/-- For every state of the stated kind: a domain that was switching on is ON and its waiting command is answered, one switching off is GATED; a domain without power-good is GATED with cause 5 and DOMAIN_FAULT is written; an idle domain is GATED with cause 2 in TRIM; the wipe drops the region at the head of its channel's order; RESET_N registered low takes a W with cause 0x03 that ends when the pin is released; the W of DEV_RESET starts and ends. -/
def Obligations.DomainsComplete : Prop :=
  (∀ (s : State) (d : Nat), (s.domain d).switchingOn = false → (s.domain d).switchingOff = true → exec (.domainSwitchDone d) s = .next (finishWaits (fun k => k == .domain d) stOk (fun _ => []) (leftOn (s.isOn 20) (setDomain d { s.domain d with st := .gated, switchingOff := false } s)))) ∧
  (∀ (s : State) (d : Nat), (s.domain d).switchingOn = true → let u := finishUnfence d (finishWaits (fun k => k == .domain d) stOk (fun _ => []) (setDomain d { s.domain d with st := .on, cause := 0, switchingOn := false } s)); let v := forEach (List.range 4) (fun r s => modRole r (fun y => { y with move := y.move.map fun m => if m.dest + 15 == d && !m.frozen then { m with frozen := true, since := s.us } else m }) s) u; exec (.domainSwitchDone d) s = .next (ifSome (v.pmc.swap.filter fun w => w.2.1 == d) finishSwap v)) ∧
  (∀ (s : State) (d : Nat), (s.domain d).switchingOn = true → exec (.domainPowerGoodTimeout d) s = .next (poolCheck 0x104 (poolCheck 0x105 (poolCheck 0x106 (dropMoves d (refence d (dropSwap d (failWaits (fun k => k == .domain d) stFault 0 (logEvent 2 0x8009 (detail [(16, 2, d)]) (setDomain d { s.domain d with st := .gated, cause := 5, switchingOn := false } s)))))))))) ∧
  (∀ (s : State) (d : Nat), s.pmc.st = .trim → trimOf d = 1 → s.isOn d = true → s.domBusy d = false → inR d 65 85 = false → (s.domain d).forced = none → exec (.idleGateTimeout d) s = .next (modDomain d (fun x => { x with st := .gated, cause := 2 }) s)) ∧
  (∀ (s : State) (ch : Nat), exec (.ddrRegionWiped ch) s = .next (modDdr ch (fun c => { c with dirty := c.dirty.tail }) s)) ∧
  (∀ (s : State), s.live = true → exec (.resetNRegistered) s = .next ({ takeReset .w 3 s with rst := { (takeReset .w 3 s).rst with active := some .w, pinLow := true }, pmc := { (takeReset .w 3 s).pmc with st := .boot, upStep := 6 } })) ∧
  (∀ (s : State) (diode : Int), s.rst.active = some .w → exec (.resetNReleased diode) s = .next (resetDone diode { s with rst := { s.rst with pinLow := false } })) ∧
  (∀ (s : State) (diode : Int), s.rst.wPending = some 4 → s.live = true → exec (.devResetWStart diode) s = .next (resetDone diode (takeReset .w 4 s)))

/-- For every command that is taken with parameters in range: PWR_STATE_GET answers state, target, wake cause, flags, readings and the time left; PWR_STATE_SET of the present state answers OK, from RUN or TRIM to the other enters it, to HOLD keeps the drain time, calls HOLD and waits; PWR_DOMAIN_GET lists the domains asked for; PWR_DOMAIN_SET to policy applies the policy; PWR_CONVERTER_CFG sets the rail or the power-fail settings; RTC_GET reads and RTC_SET sets the RTC. -/
def Obligations.PowerCommandsComplete : Prop :=
  (∀ (s t : State) (p : Packet), Given 0x0201 p s t → p.params.length = 0 → exec (.pwrStateGet) s = .next (complete p stOk (layout 16 [(0, 1, t.pmc.st.code), (1, 1, t.powerTarget), (2, 1, t.aon.wakeCause), (3, 1, b2n t.pmc.pfail + 2 * b2n t.pmc.vinOv + 4 * b2n t.pmc.vinLow + 8 * b2n t.pmc.graceEnd.isSome + 16 * b2n t.pmc.holdBy.isSome), (4, 2, t.pmc.vin), (6, 2, t.pmc.vbus), (8, 4, match t.pmc.graceEnd, t.pmc.limitEnd with | some e, _ => t.msLeft e | none, some e => t.msLeft e | none, none => 0xFFFFFFFF)]) t)) ∧
  (∀ (s t : State) (p : Packet), Given 0x0202 p s t → p.params.length = 16 → u8 p.params 0 = 1 ∨ u8 p.params 0 = 2 → u32 p.params 8 ≤ 1000 → t.pmc.st.code ≠ u8 p.params 0 → t.pmc.trans = none → exec (.pwrStateSet) s = .next (ok p (enterRunTrim (stateOfCode (u8 p.params 0)) 0 t))) ∧
  (∀ (s t : State) (p : Packet), Given 0x0202 p s t → p.params.length = 16 → u8 p.params 0 = 3 → u32 p.params 8 ≤ 1000 → t.pmc.st.code ≠ 3 → (t.pmc.trans.any fun x => x.phase != .drain) = false → let ms := if u32 p.params 8 = 0 then 200 else u32 p.params 8; exec (.pwrStateSet) s = .next (answerHeld (callDown false 0 (u16 p.params 2 % 16) (u32 p.params 4) ms (waitFor p (.power 3) { t with pmc := { t.pmc with drainMs := ms } })))) ∧
  (∀ (s t : State) (p : Packet), Given 0x0203 p s t → p.params.length = 4 → 1 ≤ u16 p.params 2 → u16 p.params 0 + u16 p.params 2 ≤ 148 → exec (.pwrDomainGet) s = .next (complete p stOk (putLe 2 (u16 p.params 0) ++ putLe 2 (u16 p.params 2) ++ ((List.range (u16 p.params 2)).map fun i => domainEntry t (u16 p.params 0 + i)).flatten) t)) ∧
  (∀ (s t : State) (p : Packet), Given 0x0204 p s t → p.params.length = 4 → u16 p.params 0 < 148 → u8 p.params 2 = 3 → t.domLost (u16 p.params 0) = false → (t.domain (u16 p.params 0)).st ≠ .spare → let u := modDomain (u16 p.params 0) (fun y => { y with forced := none }) t; let want := domainFor u u.pmc.st (u16 p.params 0); want.st = (t.domain (u16 p.params 0)).st → exec (.pwrDomainSet) s = .next (ok p (setDomain (u16 p.params 0) want u))) ∧
  (∀ (s t : State) (p : Packet), Given 0x0205 p s t → u8 p.params 0 = 1 → p.params.length = 8 → inR (u8 p.params 4) 8 0x77 = true → addrTaken t 0 (u8 p.params 4) = false → inR (u16 p.params 6) 10800 12600 = true → exec (.pwrConverterCfg) s = .next (ok p (emit (.pmbus (u8 p.params 4) 0x21 (u16 p.params 6)) (setRail 0 (u8 p.params 4) (u16 p.params 6) t)))) ∧
  (∀ (s t : State) (p : Packet), Given 0x0205 p s t → u8 p.params 0 = 0x10 → p.params.length = 16 → inR (u16 p.params 4) 9000 58000 = true → u32 p.params 8 ≤ 3600000 → u32 p.params 12 ≤ 86400 → exec (.pwrConverterCfg) s = .next (ok p { t with pmc := { t.pmc with pfailMv := u16 p.params 4, autoResume := (u16 p.params 6).testBit 0, graceMs := u32 p.params 8, holdLimitS := u32 p.params 12 } })) ∧
  (∀ (s t : State) (p : Packet), Given 0x0206 p s t → p.params.length = 0 → exec (.rtcGet) s = .next (complete p stOk (layout 8 [(0, 4, t.aon.rtcSec.toNat), (4, 2, t.aon.rtcSub), (6, 1, b2n t.aon.rtcLost)]) t)) ∧
  (∀ (s t : State) (p : Packet), Given 0x0207 p s t → p.params.length = 8 → exec (.rtcSet) s = .next (ok p { t with aon := { t.aon with rtcSec := BitVec.ofNat 32 (u32 p.params 0), rtcSub := 0, rtcAcc := 0, rtcLost := false } }))

/-- For every state of the stated kind: a round starts with channel 0 and the thresholds in force; a conversion is kept as the next channel's value; a round with a sensor fault publishes its values and takes the fault; the trim moves toward the band's by at most 0.10 ppm; clock loss takes SHELF entry without a mirror and latches CLK_FAIL, or abandons power-up; a reference clock's loss and return are recorded and have their effects; a DDR PLL that unlocks waits, and unless it relocks its channel is fenced; HKP_STATUS answers, HKP_THRESHOLDS_SET sets the thresholds, CLK_STATUS answers. -/
def Obligations.ClocksComplete : Prop :=
  (∀ (s : State), s.live = true → s.unreset = true → exec (.hkRoundStart) s = .next ({ s with hkp := { s.hkp with started := s.hkp.started + 1, conv := 0, raw := [], thrRound := s.hkp.thr } })) ∧
  (∀ (s : State) (value : Nat), s.live = true → s.hkp.conv < 31 → s.hkp.conv ≠ 1 → s.hkp.conv ≠ 2 → (s.domain 3).st ≠ .fenced → exec (.hkConversion value none) s = .next ({ s with hkp := { s.hkp with conv := s.hkp.conv + 1, raw := s.hkp.raw ++ [value % 65536] } })) ∧
  (∀ (s : State) (value : Nat), s.live = true → s.hkp.conv = 1 → (s.domain 3).st ≠ .fenced → exec (.hkConversion value none) s = .next ({ s with hkp := { s.hkp with conv := 2, raw := s.hkp.raw ++ [value % 65536] }, pmc := { s.pmc with vin := value % 65536 } })) ∧
  (∀ (s : State) (value : Nat), s.live = true → s.hkp.conv = 31 → (s.domain 3).st ≠ .fenced → exec (.hkConversion value none) s = .next ({ s with hkp := { s.hkp with conv := 32, raw := s.hkp.raw ++ [0] } })) ∧
  (∀ (s : State) (short0 short1 : Bool) (c : Nat), s.live = true → s.hkp.conv = 32 → s.hkp.raw.length = 32 → (s.domain 3).st ≠ .fenced → sensorCheck false s.hkp.raw = some c → c ≠ 3 → let tz := zoneTemps s.hkp.k s.hkp.raw; exec (.hkPublication none short0 short1) s = .next (conditionNotice (actTrim (sensorFault c (routePost 1 (overtempStep none { s with hkp := { s.hkp with round := s.hkp.started, chan := s.hkp.raw, raw := [], tz := tz, gov := (governing tz).1, govZone := (governing tz).2, mr4Short := [short0, short1] } })))))) ∧
  (∀ (s : State), s.live = true → s.hkp.fault = none → exec (.trimSlewStep) s = .next ({ s with ckg := { s.ckg with trim := s.ckg.trim + max (-10) (min 10 (s.ckg.trims.getD s.ckg.trimBand 0 - s.ckg.trim)) } })) ∧
  (∀ (s : State) (pll : Bool), s.live = true → let u := shelfNow 7 false s; exec (.clockLoss pll) s = .next ({ u with rst := { u.rst with active := none }, aon := { u.aon with clkFail := some (b2n pll) } })) ∧
  (∀ (s : State) (pll : Bool), s.pmc.st = .boot → 6 ≤ s.pmc.upStep → s.rst.active ≠ some .w → let u := abandonPowerUp s; exec (.clockLoss pll) s = .next ({ u with aon := { u.aon with clkFail := some (b2n pll) } })) ∧
  (∀ (s : State), exec (.refclkLost 0) s = .next (refclkLost 0 (logEvent 3 0x8002 (detail [(16, 1, 0)]) { s with ckg := { s.ckg with ethRef := false } }))) ∧
  (∀ (s : State), exec (.refclkLost 1) s = .next (refclkLost 1 (logEvent 3 0x8002 (detail [(16, 1, 1)]) { s with ckg := { s.ckg with pcieRef := false } }))) ∧
  (∀ (s : State), exec (.refclkReturn 0) s = .next (refclkBack 0 (logEvent 3 0x8003 (detail [(16, 1, 0)]) { s with ckg := { s.ckg with ethRef := true } }))) ∧
  (∀ (s : State), exec (.refclkReturn 1) s = .next (refclkBack 1 (logEvent 3 0x8003 (detail [(16, 1, 1)]) { s with ckg := { s.ckg with pcieRef := true } }))) ∧
  (∀ (s : State) (ch : Nat), exec (.ddrPllUnlock ch) s = .next ({ s with ckg := { s.ckg with relocking := nset ch s.ckg.relocking } })) ∧
  (∀ (s : State) (ch : Nat), s.ckg.relocking.contains ch = true → exec (.ddrPllRelockTimeout ch true) s = .next ({ s with ckg := { s.ckg with relocking := nclr ch s.ckg.relocking } })) ∧
  (∀ (s : State) (ch : Nat), s.ckg.relocking.contains ch = true → exec (.ddrPllRelockTimeout ch false) s = .next (fenceChannel ch (logEvent 3 0x8004 (detail [(16, 1, ch)]) { s with ckg := { s.ckg with relocking := nclr ch s.ckg.relocking, unlocked := nset ch s.ckg.unlocked } }))) ∧
  (∀ (s t : State) (p : Packet), Given 0x0110 p s t → p.params.length = 0 → (t.domain 3).st ≠ .fenced → exec (.hkpStatus) s = .next (complete p stOk (layout 16 [(0, 2, t.hkp.chan.getD 0 0), (2, 2, unsigned 16 t.hkp.gov), (4, 1, t.hkp.band), (5, 1, t.hkp.govZone), (6, 2, unsigned 16 (t.hkp.r1.getD 0)), (8, 2, unsigned 16 (t.hkp.r10.getD 0)), (10, 1, b2n t.hkp.warn + 2 * b2n t.hkp.act + 4 * b2n t.hkp.trip + 8 * b2n t.hkp.fault.isSome + 16 * b2n t.hkp.r1.isSome + 32 * b2n t.hkp.r10.isSome + 64 * b2n t.hkp.overtemp), (12, 4, t.hkp.round)] ++ (t.hkp.chan.map (putLe 2)).flatten ++ (t.hkp.tz.map fun x => putLe 2 (unsigned 16 x)).flatten) t)) ∧
  (∀ (s t : State) (p : Packet), Given 0x0111 p s t → p.params.length = 16 → (thresholdFields p.params).all (·.2) = true → exec (.hkpThresholdsSet) s = .next (ok p { t with hkp := { t.hkp with thr := ⟨rorOf p.params 0, rorOf p.params 4, rorOf p.params 8, u8 p.params 12⟩ } })) ∧
  (∀ (s t : State) (p : Packet), Given 0x0112 p s t → p.params.length = 0 → let locked := fun ch => t.isOn (88 + ch) && !t.ckg.relocking.contains ch && !t.ckg.unlocked.contains ch; exec (.clkStatus) s = .next (complete p stOk (layout 16 [(0, 1, b2n t.ckg.pll + 2 * b2n t.ckg.xtal + 4 * b2n t.ckg.ethRef + 8 * b2n t.ckg.pcieRef + 16 * b2n (locked 0) + 32 * b2n (locked 1) + 64 * b2n t.aon.powered + 128 * b2n t.aon.clkFail.isSome), (1, 1, t.ckg.trimBand), (2, 2, unsigned 16 t.ckg.trim), (4, 2, unsigned 16 (t.ckg.trims.getD t.ckg.trimBand 0)), (6, 2, t.hkp.chan.getD 30 0)]) t))

/-- While the battery block runs: a scan's readings are evaluated; a 24-bit coulomb sample is counted; a current above the limit latches OCD, opens the discharge path and writes OCD_TRIP; an open-wire test records its change and its finding, with WIRE_OPEN where it newly finds its tap open; the period's expiry queues a test of every tap; a quiet rest is marked; a rebase is evaluated; a charger that does not answer is counted, and the third time ends the charge with a fault; a charger that answers gets its voltage; a fault that answers again is cleared. -/
def Obligations.BatteryEventsComplete : Prop :=
  (∀ (s : State) (cells : List Nat) (stack : Nat) (t0 t1 : Int), s.batRuns = true → exec (.batScan cells stack t0 t1) s = .next (scan cells stack (t0, t1) s)) ∧
  (∀ (s : State) (sample : Int), s.batRuns = true → -8388608 ≤ sample → sample < 8388608 → exec (.coulombSample sample) s = .next (coulomb sample s)) ∧
  (∀ (s : State) (ma : Nat), s.batRuns = true → s.aon.ocdLatch = false → s.bat.cfg.ocdMa < ma → exec (.ocd ma) s = .next (batEvent 0x8003 [(20, 4, ma)] { s with aon := { s.aon with ocdLatch := true, dsgEn := false } })) ∧
  (∀ (s : State) (change : Int) (n : Nat) (rest : List Nat), s.batRuns = true → s.bat.tests = n :: rest → change.natAbs ≤ 400 → n ∉ s.bat.open_ → exec (.openWireTest change) s = .next (endOpenWire (chargeEval (modBat (fun b => { b with tests := rest, suspects := nclr n b.suspects, open_ := nclr n b.open_, results := upsert (fun r => r.1 == n) (n, (false, change)) b.results }) s)))) ∧
  (∀ (s : State) (change : Int) (n : Nat) (rest : List Nat), s.batRuns = true → s.bat.tests = n :: rest → 400 < change.natAbs → n ∉ s.bat.open_ → exec (.openWireTest change) s = .next (endOpenWire (chargeEval (batEvent 0x8004 [(16, 1, n), (18, 2, unsigned 16 change)] (modBat (fun b => { b with tests := rest, suspects := nclr n b.suspects, open_ := nset n b.open_, results := upsert (fun r => r.1 == n) (n, (true, change)) b.results }) s))))) ∧
  (∀ (s : State), s.batRuns = true → s.bat.cfg.owPeriod ≠ 0 → exec (.openWirePeriod) s = .next (queueTests s.bat.taps s)) ∧
  (∀ (s : State), s.batRuns = true → s.bat.sample.natAbs * 5000000000 < s.aon.bat.cap * 8388608 * s.bat.cfg.shunt → exec (.restReached) s = .next (modBat (fun b => { b with rested := true }) s)) ∧
  (∀ (s : State), s.batRuns = true → exec (.rebaseEvaluation) s = .next (rebase s)) ∧
  (∀ (s : State), s.batRuns = true → s.bat.charging = true → s.bat.fails < 2 → exec (.chargeUpdate false) s = .next (modBat (fun b => { b with fails := b.fails + 1 }) s)) ∧
  (∀ (s : State), s.batRuns = true → s.bat.charging = true → 2 ≤ s.bat.fails → let u := modBat (fun b => { b with fails := b.fails + 1 }) s; exec (.chargeUpdate false) s = .next (batEvent 0x800C [(16, 1, s.bat.chg.addr)] (modBat (fun b => { b with charging := false, fault := true, fails := 0, term := 0 }) { u with aon := { u.aon with chgEn := false } }))) ∧
  (∀ (s : State), s.batRuns = true → s.bat.charging = true → s.bat.amps < 0 → 0 < s.bat.chg.termMin → let aim := s.bat.cfg.n * s.bat.chg.cell; let volts := min aim (((s.bat.stack * 10 + aim : Nat) : Int) - (s.bat.cfg.n * s.bat.highest.getD 0 / 10 : Nat)).toNat; exec (.chargeUpdate true) s = .next (toCharger 0x21 volts (modBat (fun b => { b with fails := 0, term := 0 }) s))) ∧
  (∀ (s : State), s.bat.fault = true → exec (.chargerRetry true) s = .next (chargeEval (modBat (fun b => { b with fault := false }) s)))

/-- For every command that is taken with parameters in range: BAT_LIMITS_SET sets the configuration, the open-circuit table or releases the over-current latch; BAT_OPEN_WIRE_TEST queues the tests of its taps and waits for their end; BAT_CHARGER_SET sets the charger and evaluates it; BAT_STATUS answers with the readings, the flags and the sixteen cells. -/
def Obligations.BatteryCommandsComplete : Prop :=
  (∀ (s t : State) (p : Packet), Given 0x0A02 p s t → p.params.length = 48 → u8 p.params 0 = 1 → (batCfgFields p.params).all (·.2) = true → exec (.batLimitsSet) s = .next (ok p (setBatCfg (batCfgOf p.params) t))) ∧
  (∀ (s t : State) (p : Packet), Given 0x0A02 p s t → p.params.length = 4 → u8 p.params 0 = 3 → exec (.batLimitsSet) s = .next (ok p (dsgEval { t with aon := { t.aon with ocdLatch := false } }))) ∧
  (∀ (s t : State) (p : Packet), Given 0x0A03 p s t → p.params.length = 4 → u8 p.params 0 ≤ u8 p.params 1 → u8 p.params 1 ≤ 16 → t.bat.cfg.chem ≠ 0 → let first := u8 p.params 0; let last := u8 p.params 1; exec (.batOpenWireTest) s = .next (endOpenWire (waitFor p (.openWire first (last + 1 - first)) (queueTests (t.bat.taps.filter fun n => inR n first last) (modBat (fun b => { b with results := [] }) t))))) ∧
  (∀ (s t : State) (p : Packet), Given 0x0A04 p s t → p.params.length = 20 → let c := chargerOf p.params; u8 p.params 0 ≤ 1 → inR c.addr 8 0x77 = true → railAddr c.addr t = false → inR c.ma 100 200000 = true → t.bat.cfg.chem = 0 ∨ c.cell + 50 ≤ t.bat.cfg.ov → inR c.termMa 10 20000 = true → inR c.recharge 50 99 = true → inR c.termMin 1 120 = true → exec (.batChargerSet) s = .next (ok p (chargeEval (modBat (fun b => { b with chg := c }) t)))) ∧
  (∀ (s t : State) (p : Packet), Given 0x0A01 p s t → p.params.length = 0 → let b := t.bat; let flags := maskOf (((([t.aon.dsgEn, t.aon.chgEn, b.charging, b.rested, t.aon.bat.counterDrift, t.aon.bat.relearn, t.aon.ocdLatch, b.stale, t.aon.dsgBlock, b.sumFlag, b.cfg.ocv.isSome, b.fault] : List Bool).zipIdx.filter fun x => x.1)).map (·.2)); let ntc := fun (fit : Bool) (x : Int) => if fit then unsigned 16 x else 0x8000; exec (.batStatus) s = .next (complete p stOk (layout 32 [(0, 1, b.cfg.chem), (1, 1, b.cfg.n), (2, 2, flags), (4, 2, b.stack), (8, 4, unsigned 32 b.amps), (12, 4, b.q * 1000 / (b.cfg.shunt * 301989888)), (16, 4, t.aon.bat.cap), (20, 2, t.soc.getD 0xFFFF), (24, 2, ntc b.cfg.ntc.1 b.temps.1), (26, 2, ntc b.cfg.ntc.2 b.temps.2), (28, 4, b.mah t.aon.bat.drift)] ++ ((List.range 16).map fun i => cellEntry t (i + 1)).flatten) t))

/-- For every state of the stated kind: a warden's CAD_W_ALLOC that is served leaves the handle with OK and DONE, and one that is not leaves NO_RESOURCE; CAD_W_FREE leaves the status of the free; a LIST pool refills its cache by at most 16 up to 512; a RING pool refills by 64 below LOW; the first wiped buffer becomes free; CAD_POOL_CREATE of a free pool makes it with the buffers that its area holds and answers their number and the reserve; CAD_POOL_DESTROY makes the pool DRAINING and waits; a DRAINING pool without buffers is released with its event; CAD_POOL_STATUS answers. -/
def Obligations.CaddiesComplete : Prop :=
  (∀ (s t : State) (core len256 h : Nat), core ≤ 4 → (s.cadWarden core).done = true → takeOne 0 17 254 ((len256 % 256 + 1) * 256) s = some (h, t) → exec (.cadWAlloc core len256) s = .next (setCadWarden core ⟨BitVec.ofNat 32 h, stOk, true⟩ (forgetBuf h t))) ∧
  (∀ (s : State) (core len256 : Nat), core ≤ 4 → (s.cadWarden core).done = true → takeOne 0 17 254 ((len256 % 256 + 1) * 256) s = none → exec (.cadWAlloc core len256) s = .next (setCadWarden core { s.cadWarden core with status := stNoResource } s)) ∧
  (∀ (s : State) (core : Nat), core ≤ 4 → (s.cadWarden core).done = true → let h := (s.cadWarden core).handle.toNat; let r := cadFree 18 core h (forgetBuf h s); exec (.cadWFree core) s = .next (setCadWarden core { s.cadWarden core with status := r.1 } r.2)) ∧
  (∀ (s : State) (pool : Nat), (s.pool pool).st ≠ 0 → (s.pool pool).store = 2 → (s.pool pool).cache.length < 512 → exec (.cacheRefill pool) s = .next (modPool pool (fun x => if x.cache.length < 512 then x.refill (min 16 (512 - x.cache.length)) else x) s)) ∧
  (∀ (s : State) (pool : Nat), (s.pool pool).st ≠ 0 → (s.pool pool).store = 1 → exec (.cacheRefill pool) s = .next (modPool pool (fun x => if x.cache.length < x.low then x.refill 64 else if x.high < x.cache.length then x.spillBack else x) s)) ∧
  (∀ (s : State) (pool i : Nat) (rest : List Nat), (s.pool pool).wiping = i :: rest → exec (.caddyWipeDone pool) s = .next (modPool pool (fun x => { (x.giveBack i) with wiping := rest }) s)) ∧
  (∀ (s : State) (pool : Nat), (s.pool pool).st = 2 → (s.pool pool).owned = [] → (s.pool pool).wiping = [] → exec (.poolReleased pool) s = .next (finishWaits (fun k => k == .pool pool) stOk (fun _ => []) (logEvent 8 0x8005 (detail [(16, 1, pool), (20, 4, (s.pool pool).returned)]) (modPool pool (fun _ => {}) s)))) ∧
  (∀ (s t : State) (p : Packet) (n : Nat), Given 0x0410 p s t → p.params.length = 24 → (poolFields t p.params).all (·.2) = true → u8 p.params 1 = 1 → u8 p.params 2 = 1 → let b := p.params; let units := (List.range (u8 b 9)).map (· + u8 b 8); let size := ([256, 512, 1024, 2048, 4096, 9472, 16384, 65536] : List Nat).getD (u8 b 0) 0; (t.pool (u8 b 0)).st = 0 → t.createdPools = [] → units.any (fun i => t.domLost (100 + i)) = false → units.any (fun i => t.areaUsed 1 0 i) = false → u32 b 20 = 0 → n = min (maxBuffers (u8 b 9 * 0x200000) size (u8 b 3 == 1)) 4194304 → 16 ≤ n → let x : Pool := { st := 1, mode := 1, place := 1, store := u8 b 3, size := size, spill := (u8 b 6).testBit 0, chan := 0, first := u8 b 8, count := u8 b 9, n := n, made := n, low := u16 b 16, high := u16 b 18, cache := List.range (min 512 n), fresh := min 512 n }; exec (.cadPoolCreate) s = .next (complete p stOk (putLe 4 n ++ putLe 4 x.rsv) (modPool (u8 b 0) (fun _ => x) (markUsed units t)))) ∧
  (∀ (s t : State) (p : Packet), Given 0x0411 p s t → p.params.length = 4 → u8 p.params 0 ≤ 7 → (t.pool (u8 p.params 0)).st ≠ 0 → let q := u8 p.params 0; exec (.cadPoolDestroy) s = .next (releasePool q (waitFor p (.pool q) (modPool q (fun x => { x with st := 2 }) t)))) ∧
  (∀ (s t : State) (p : Packet), Given 0x0412 p s t → p.params.length = 0 → let kib := fun o => putLe 4 (ceilDiv (t.charge o) 1024); exec (.cadPoolStatus) s = .next (complete p stOk (((List.range 8).map fun q => poolBytes (t.pool q)).flatten ++ ((List.range 16).map kib).flatten ++ putLe 2 (512 - t.cad.ctl.length) ++ [0, 0] ++ kib 16 ++ kib 17) t))

/-- For every state of the stated kind: the two doorbells are handled; a poll timer's expiry issues a poll read of the header; its completion gives the tail and the head that no doorbell has made stale; a fetch that may be issued reads the slot at SQ_BASE plus head times the slot size; a fetch that failed completes its entry with FAULT and moves the head on; the NOP, PACKET, TX and RX_POST entries are admitted and run; the moderation timer's expiry sends the message that is due; RING_DESTROY drains the ring and waits, or frees it when nothing is admitted; RING_NOTIFY_SET sets the notification. -/
def Obligations.RingsComplete : Prop :=
  (∀ (s : State) (f loc value : Nat), exec (.qenDb f loc value) s = .next (doorbell 0 f loc value s)) ∧
  (∀ (s : State) (f loc value : Nat), exec (.qenCqDb f loc value) s = .next (doorbell 1 f loc value s)) ∧
  (∀ (s : State) (g : Nat) (r : Ring), s.ring g = some r → r.poll = true → r.st ≠ .clearing → s.dataOn = true → r.pollRead = none → s.pce.reads.length < 768 → dmaCheck r.fn r.hdr 8 false s = .pass → exec (.pollTimerExpiry g) s = .next (issueRead r.fn r.hdr 8 (.poll g) (countEv 5 r.fn 2 1 (setRing g (some { r with pollRead := some {} }) s)))) ∧
  (∀ (s : State) (g cause : Nat) (r : Ring), s.ring g = some r → r.poll = true → r.st ≠ .clearing → s.dataOn = true → r.pollRead = none → s.pce.reads.length < 768 → dmaCheck r.fn r.hdr 8 false s = .refused cause → exec (.pollTimerExpiry g) s = .next (dmaFault r.fn 0 cause r.hdr 8 s)) ∧
  (∀ (s : State) (g tail head : Nat) (r : Ring) (x : Poll), s.ring g = some r → r.pollRead = some x → x.tailStale = false → x.headStale = false → exec (.pollReadCompletion g tail head) s = .next (takeIndex g 1 1 (head % 65536) (takeIndex g 0 1 (tail % 65536) (setRing g (some { r with pollRead := none }) { s with pce := { s.pce with reads := s.pce.reads.filter fun y => y.use != .poll g } })))) ∧
  (∀ (s : State) (g : Nat) (r : Ring), s.ring g = some r → s.mayFetch g r = true → s.pce.reads.length < 768 → let size := if r.wide then 128 else 64; dmaCheck r.fn (r.sqBase + r.head * size) size false s = .pass → exec (.fetchIssue g) s = .next (issueRead r.fn (r.sqBase + r.head * size) size (.fetch g) (setRing g (some { r with fetch := some { reserve := r.maxReserve } }) s))) ∧
  (∀ (s : State) (g : Nat) (r : Ring) (x : Fetch), s.ring g = some r → r.fetch = some x → x.failed = true → exec (.fetchReadFailed g) s = .next (settle g (setRing g (some { r with head := (r.head + 1) % r.sqDepth, fetch := none, work := r.work ++ [{ seq := r.nextSeq, entry := [], slots := [.ready { status := stFault }] }], nextSeq := r.nextSeq + 1 }) s))) ∧
  (∀ (s : State) (g : Nat) (entry : Bytes), exec (.entryNop g entry) s = .next (arrive g 1 entry [] (fun q s => finishEntry g q { user := ((s.workOf g q).map fun w => entUser w.entry).getD 0, kind := 1 } s) s)) ∧
  (∀ (s : State) (g : Nat) (entry : Bytes) (data : List (Option Bytes)), exec (.entryPacket g entry data) s = .next (arrive g 2 entry data (packetRun g) s)) ∧
  (∀ (s : State) (g : Nat) (entry : Bytes) (data : List (Option Bytes)), exec (.entryTx g entry data) s = .next (arrive g 3 entry data (fun q s => txRun g q 9 s) s)) ∧
  (∀ (s : State) (g : Nat) (entry : Bytes), exec (.entryRxPost g entry) s = .next (arrive g 4 entry [] (fun q s => settle g (modWork g q (fun w => { w with slots := rxSlots w.entry }) s)) s)) ∧
  (∀ (s : State) (g : Nat) (r : Ring), s.ring g = some r → r.modTimer = true → 0 < r.modNow → exec (.moderationTimerExpiry g) s = .next (sendMsix r.fn r.vector (setRing g (some { r with modNow := 0, modTimer := false, unannounced := 0 }) s))) ∧
  (∀ (s : State) (g : Nat) (r : Ring), s.ring g = some r → r.ending = true → r.work = [] → r.fetch = none → exec (.ringDrained g) s = .next (freeRingPair g s)) ∧
  (∀ (s t : State) (p : Packet) (g : Nat), Given 0x0401 p s t → p.params.length = 40 → u8 p.params 0 = 127 → u8 p.params 1 ≤ 63 → inR (u8 p.params 2) 2 4 = true → u8 p.params 3 = 0 → u8 p.params 4 ≤ 1 → inR (u8 p.params 5) 4 16 = true → inR (u8 p.params 6) 4 16 = true → u64 p.params 8 % 4096 = 0 → u64 p.params 16 % 4096 = 0 → u8 p.params 7 = 0 → u64 p.params 24 % 64 = 0 → u8 p.params 34 = 0 → t.ringAt 127 (u8 p.params 1) = none → t.rings.length < 4096 → t.domLost 36 = false → t.freeRing 0 = some g → let b := p.params; exec (.ringCreate) s = .next (complete p stOk (putLe 2 g ++ [0, 0]) (setRing g (some { fn := 127, loc := u8 b 1, cls := u8 b 2, wide := u8 b 4 == 1, sqLog := u8 b 5, cqLog := u8 b 6, poll := false, sqBase := u64 b 8, cqBase := u64 b 16, hdr := u64 b 24, pollUs := u16 b 32, notify := 0, vector := u8 b 35, modCount := u8 b 36, modUs := u16 b 38, tph := (u8 b 37).testBit 0 }) t))) ∧
  (∀ (s t : State) (p : Packet) (g : Nat) (r : Ring), Given 0x0402 p s t → p.params.length = 4 → fnCode (u8 p.params 0) = true → u8 p.params 1 ≤ 63 → t.ringAt (u8 p.params 0) (u8 p.params 1) = some (g, r) → r.cls ≠ 1 ∨ p.cls ≠ 1 → r.work ≠ [] → exec (.ringDestroy) s = .next (waitFor p (.ring g) (modRing g (fun r => { r with st := if r.mute then .drainingFaulted else .draining }) t))) ∧
  (∀ (s t : State) (p : Packet) (g : Nat) (r : Ring), Given 0x0402 p s t → p.params.length = 4 → fnCode (u8 p.params 0) = true → u8 p.params 1 ≤ 63 → t.ringAt (u8 p.params 0) (u8 p.params 1) = some (g, r) → r.cls ≠ 1 ∨ p.cls ≠ 1 → r.work = [] → r.fetch = none → exec (.ringDestroy) s = .next (freeRingPair g (waitFor p (.ring g) (modRing g (fun r => { r with st := if r.mute then .drainingFaulted else .draining }) t)))) ∧
  (∀ (s t : State) (p : Packet) (g : Nat) (r : Ring), Given 0x0403 p s t → p.params.length = 24 → fnCode (u8 p.params 0) = true → u8 p.params 1 ≤ 63 → t.ringAt (u8 p.params 0) (u8 p.params 1) = some (g, r) → u8 p.params 2 = 0 → u8 p.params 3 = 1 → u8 p.params 0 = 127 → inR (u8 p.params 4) 1 63 = true → u64 p.params 16 % 64 = 0 → r.unannounced = 0 → let b := p.params; exec (.ringNotifySet) s = .next (ok p (setRing g (some { r with poll := false, notify := 1, vector := u8 b 4, modCount := u8 b 5, modUs := u16 b 6, pollUs := u16 b 8, tph := (u8 b 10).testBit 0, hdr := u64 b 16, modNow := 0, modTimer := false }) t)))

/-- For every state of the stated kind: an idle egress point serves the item that its queues give next; a pool point without a unit that is ON is checked; the first waiting allocation that can be served is served and its work resumed; an engine's wait that runs out gives up its work with the event; SCH_WEIGHTS_SET sets the weights that are not 0; SCH_LIMITS_SET sets a tenant's rate, keeping its tokens within the new burst, its caps, and a point's queue limit. -/
def Obligations.SchedulingAndAllocationComplete : Prop :=
  (∀ (s t : State) (k : Nat) (i : QItem), k < 0x48 → (s.point k).serving = [] → s.net.inq.any (fun q => q.cut == some k) = false → popItem k [] s = some (i, t) → exec (.pointServe k) s = .next (modPoint k (fun x => { x with serving := [i] }) t)) ∧
  (∀ (s : State), s.unitsOn 0x106 = [] → exec (.pointServe 0x106) s = .next (poolCheck 0x106 s)) ∧
  (∀ (s : State) (w : CadWait), s.waitOrder.find? (fun w => (cadTake w.cls w.owner w.fn w.len s).isSome) = some w → exec (.waitingAllocServed) s = .next (resume w.use { s with cad := { s.cad with waits := s.cad.waits.erase w } })) ∧
  (∀ (s : State) (n : Nat) (w : CadWait), s.cad.waits[n]? = some w → w.cls = 1 → let u := { s with cad := { s.cad with waits := s.cad.waits.eraseIdx n } }; exec (.engineWaitTimeout n) s = .next (giveUp w.use (logEvent 8 0x8003 (detail [(16, 1, (u.pickPool 1 w.len).getD 0xFF), (17, 1, w.agent), (18, 1, 0xFF), (20, 4, w.len)]) u))) ∧
  (∀ (s t : State) (p : Packet), Given 0x0520 p s t → p.params.length = 24 → u8 p.params 0 = 1 → let b := p.params; let u := forEach (List.range 16) (fun x s => if u8 b (4 + x) = 0 then s else charter x (fun y => { y with weight := u8 b (4 + x) }) s) t; exec (.schWeightsSet) s = .next (ok p { u with net := { u.net with weights := keepZero 17 (u8 b 21) (keepZero 16 (u8 b 20) u.net.weights) } })) ∧
  (∀ (s t : State) (p : Packet), Given 0x0521 p s t → p.params.length = 24 → (limitFields t p.params).all (·.2) = true → u8 p.params 0 = 1 → let b := p.params; let rate := u32 b 4; let burst := u32 b 8 % 2 ^ 24; let x := u8 b 1; let u := settleTenant x t; (u.tenant x).rate ≠ rate → exec (.schLimitsSet) s = .next (ok p (modTenant x (fun y => { y with txCap := u32 b 12, engCap := u32 b 16 }) (charter x (fun y => { y with rate := rate, burst := burst, tokens := min y.tokens (burst * 8192 : Nat) }) u))))

/-- For every state of the stated kind: XTS entries are admitted and run; an item whose own order is not kept waiting leaves the engine, and a protected frame goes on from it; a reseed resets the request count and counts and dates itself; the first health failure sets ERROR with its cause, counts, and writes DRBG_FAIL; a later one only counts; DRBG_STATUS answers. -/
def Obligations.CryptoEnginesComplete : Prop :=
  (∀ (s : State) (g : Nat) (entry : Bytes) (data : List (Option Bytes)), exec (.entryXtsEnc g entry data) s = .next (arrive g 0x30 entry data (xtsRun g) s)) ∧
  (∀ (s : State) (g : Nat) (entry : Bytes) (data : List (Option Bytes)), exec (.entryXtsDec g entry data) s = .next (arrive g 0x31 entry data (xtsRun g) s)) ∧
  (∀ (s : State) (id : Nat) (i : QItem) (f : Frame) (enc : Bool) (sa : Nat) (x : Found), s.inUnit 0x104 id = some i → i.job = .crypt f enc sa x → ((s.point 0x104).serving.takeWhile fun j => j.id != id).any (fun j => orderKey j.job == orderKey i.job) = false → let r := cryptLeave sa i.num f.bytes (outOfUnit 0x104 i s); exec (.cryptoItemDone id) s = .next (finishSaDel (match r.1 with | some b => finishAction x { f with bytes := b } r.2 | none => dropFrame none f r.2))) ∧
  (∀ (s : State), s.cry.drbg.st = 1 → s.isOn 64 = true → exec (.drbgReseed) s = .next (modCry (fun c => { c with drbg := { c.drbg with requests := 0, reseeds := c.drbg.reseeds + 1, at_ := s.aon.rtcSec } }) s)) ∧
  (∀ (s : State) (cause : Nat), inR cause 1 3 = true → s.isOn 64 = true → s.cry.drbg.st ≠ 2 → exec (.drbgHealthFailure cause) s = .next (logEvent 13 0x8005 (detail [(16, 1, cause)]) (modCry (fun c => { c with drbg := { c.drbg with st := 2, cause := cause, rct := c.drbg.rct + b2n (cause == 1), apt := c.drbg.apt + b2n (cause == 2) } }) s))) ∧
  (∀ (s : State) (cause : Nat), inR cause 1 3 = true → s.isOn 64 = true → s.cry.drbg.st = 2 → exec (.drbgHealthFailure cause) s = .next (modCry (fun c => { c with drbg := { c.drbg with rct := c.drbg.rct + b2n (cause == 1), apt := c.drbg.apt + b2n (cause == 2) } }) s)) ∧
  (∀ (s t : State) (p : Packet), Given 0x0606 p s t → p.params.length = 0 → let d := t.cry.drbg; exec (.drbgStatus) s = .next (complete p stOk (layout 32 [(0, 1, d.st), (1, 1, d.cause), (4, 4, d.requests), (8, 4, d.reseeds), (12, 4, d.at_.toNat), (16, 4, d.rct), (20, 4, d.apt)]) t))

/-- For every command that is taken with parameters in range: KEY_LOAD LOAD puts the unwrapped key into its slot and answers its number and generation, or fails as the blob does; GENERATE loads a drawn key and answers it wrapped; REWRAP answers the key wrapped under the present KEK; KEY_ERASE erases the slots that no SA names; KEY_KEK_SET INSTALL makes the KEK current and keeps the one before, RETIRE_PREVIOUS drops that one; CRY_SA_ADD adds the SA; CRY_SA_DEL marks it as going and waits for its items. -/
def Obligations.KeyCommandsComplete : Prop :=
  (∀ (s t : State) (p : Packet) (d : Nat), Given 0x0601 p s t → p.params.length = 64 → u8 p.params 0 = 1 → u8 p.params 1 = 16 → loadSlot t 16 (u16 p.params 2) = .ok d → u8 (p.params.drop 8) 0 = 1 → let b := p.params; let blob := b.drop 8; exec (.keyLoad) s = .next ((match unwrapBlob t 16 false blob with | .error i => unwrapFail p 16 i blob t | .ok key => let u := putKey d 16 (u16 b 2) 1 key t; complete p stOk (putLe 2 d ++ zeros 2 ++ putLe 4 (tget 0 u.cry.gens d).toNat) u))) ∧
  (∀ (s t : State) (p : Packet) (d : Nat) (k : Kek), Given 0x0601 p s t → p.params.length = 8 → u8 p.params 0 = 2 → u8 p.params 1 = 16 → loadSlot t 16 (u16 p.params 2) = .ok d → inR (u8 p.params 4) 1 3 = true → t.domLost 64 = false → (t.keksOf 16).cur = some k → t.cry.drbg.st = 1 → let b := p.params; let r := drawKey (u8 b 4) t; let u := putKey d 16 (u16 b 2) (u8 b 4) r.1 r.2; exec (.keyLoad) s = .next (complete p stOk (putLe 2 d ++ zeros 2 ++ putLe 4 (tget 0 u.cry.gens d).toNat ++ wrapBlob (u8 b 4) 16 k r.1) u)) ∧
  (∀ (s t : State) (p : Packet) (k : Kek), Given 0x0601 p s t → p.params.length = 64 → u8 p.params 0 = 3 → u8 p.params 1 = 16 → (t.keksOf 16).cur = some k → let blob := p.params.drop 8; exec (.keyLoad) s = .next ((match unwrapBlob t 16 false blob with | .error i => unwrapFail p 16 i blob t | .ok key => complete p stOk (wrapBlob (u8 blob 0) 16 k key) t))) ∧
  (∀ (s t : State) (p : Packet), Given 0x0602 p s t → p.params.length = 4 → u8 p.params 0 = 16 → u8 p.params 1 = 2 → let sel := t.cry.slots.filter fun x => x.2.owner == 16; t.cry.sas.find? (fun x => x.2.kind != 1 && sel.any fun y => y.1 == x.2.slot) = none → exec (.keyErase) s = .next (ok p (forEach sel (fun x s => eraseSlot x.1 x.2 s) t))) ∧
  (∀ (s t : State) (p : Packet), Given 0x0603 p s t → p.params.length = 64 → u8 p.params 0 ≤ 16 → u8 p.params 1 = 1 → let b := p.params; let ks := t.keksOf (u8 b 0); ks.cur.map (·.gen) ≠ some 65535 → u16 b 2 ≠ 0 → ks.cur = none ∨ ks.cur.map (·.gen + 1) = some (u16 b 2) → exec (.keyKekSet) s = .next ((match unwrapBlob t (u8 b 0) true (b.drop 8) with | .error i => unwrapFail p (u8 b 0) i (b.drop 8) t | .ok key => ok p (logEvent 13 0x8003 (detail [(16, 1, u8 b 0), (17, 1, 1), (18, 2, u16 b 2)]) (setKeks (u8 b 0) ⟨some ⟨u16 b 2, key⟩, ks.cur⟩ t))))) ∧
  (∀ (s t : State) (p : Packet), Given 0x0603 p s t → p.params.length = 8 → u8 p.params 0 ≤ 16 → u8 p.params 1 = 2 → let o := u8 p.params 0; let ks := t.keksOf o; exec (.keyKekSet) s = .next (ok p (logEvent 13 0x8003 (detail [(16, 1, o), (17, 1, 2), (18, 2, (ks.cur.map (·.gen)).getD 0)]) (setKeks o { ks with prev := none } t)))) ∧
  (∀ (s t : State) (p : Packet), Given 0x0604 p s t → p.params.length = 64 → (saFields t p.params).all (·.2) = true → u8 p.params 2 = 0x10 → let b := p.params; t.saAny (u16 b 0) = none → saRoom t 0x10 (u16 b 6) = true → (t.cry.slots.lookup (u16 b 4)).map (·.type) = some 1 → exec (.crySaAdd) s = .next (ok p (modCry (fun c => { c with sas := tins (u16 b 0) { kind := 0x10, flags := u8 b 3, slot := u16 b 4, secy := u16 b 6, raw := b.drop 8, next := 1 } c.sas }) t))) ∧
  (∀ (s t : State) (p : Packet), Given 0x0605 p s t → p.params.length = 4 → let i := u16 p.params 0; (t.sa i).isSome = true → (t.saAny i).map (·.kind) ≠ some 1 → t.connNames i = false → exec (.crySaDel) s = .next (finishSaDel (waitFor p (.saDel i) (modSa i (fun x => { x with going := true }) t))))

/-- For every state of the stated kind: RPR_FENCE of a domain that is no warden core fences it and the channel's other domain with it and finishes; RPR_UNFENCE of an unshed phase or of a spent mark clears it; RPR_STATUS answers; RPR_SPARE_SWAP of an engine starts the swap and powers the spare; an automatic fence, a failed known-answer test and a DDR device that is spent have their effects, the second spent device of a channel fencing it; a watchdog's first expiry restarts its role, and the second within 60 s without a spare takes a W with cause 5; a move whose core is not on yet waits. -/
def Obligations.RepairComplete : Prop :=
  (∀ (s t : State) (p : Packet) (good : Bool), Given 0x0D02 p s t → p.params.length = 8 → let d := u16 p.params 0; d < 148 → u8 p.params 3 = 0xA5 → u8 p.params 2 = 2 → fenceable d = true → inR d 15 19 = false → inR d 100 147 = false → t.aon.fence.contains d = false → let f := fenceAll (fencePair d) 0 false t; exec (.rprFence good) s = .next (finishFence p d f.1 false good f.2)) ∧
  (∀ (s t : State) (p : Packet) (good : Bool), Given 0x0D03 p s t → p.params.length = 8 → u8 p.params 0 = 2 → u16 p.params 2 < 8 → u8 p.params 4 = 0xA5 → t.aon.phaseShed.contains (u16 p.params 2) = true → exec (.rprUnfence good) s = .next (complete p stOk (zeros 4) { t with aon := { t.aon with phaseShed := nclr (u16 p.params 2) t.aon.phaseShed } })) ∧
  (∀ (s t : State) (p : Packet) (good : Bool), Given 0x0D03 p s t → p.params.length = 8 → u8 p.params 0 = 1 → u16 p.params 2 < 148 → u8 p.params 4 = 0xA5 → t.aon.fence.contains (u16 p.params 2) = false → exec (.rprUnfence good) s = .next (complete p stNote (zeros 4) t)) ∧
  (∀ (s t : State) (p : Packet), Given 0x0D01 p s t → p.params.length = 0 → let used := ([1, 2, 3, 4, 5, 6, 7, 8] : List Nat).filter fun n => t.otpWritten (repairSlot n) 32; let pool := fun q => [(4 + 4 * q, 1, (t.activeUnits q).length), (5 + 4 * q, 1, ((t.spareOf q).map (· - (poolUnits q).headD 0)).getD 0xFF), (6 + 4 * q, 1, ((poolUnits q).filter fun d => (t.domain d).st == .fenced).length), (7 + 4 * q, 1, t.poolState q)]; let spent := fun ch => (t.aon.ddrSpent.filter fun x => x / 256 == ch).length; exec (.rprStatus) s = .next (complete p stOk (layout 64 ([(0, 2, t.fencedCount), (2, 1, t.repairInForce), (3, 1, 8 - used.length)] ++ ((List.range 4).map pool).flatten ++ [(20, 1, maskOf t.aon.phaseShed), (21, 1, t.pmc.phases), (22, 1, spent 0), (23, 1, spent 1), (24, 19, maskOf t.aon.fence), (44, 19, t.repairBits)])) t)) ∧
  (∀ (s t : State) (p : Packet) (d u : Nat), Given 0x0D04 p s t → p.params.length = 4 → let q := u8 p.params 0 - 1; inR (u8 p.params 0) 2 4 = true → (poolUnits q)[u8 p.params 1]? = some d → (t.activeUnits q).contains d = true → inR (u8 p.params 2) 1 2 = true → t.spareOf q = some u → let v := activate u (waitFor p swapWait { t with pmc := { t.pmc with swap := some (d, u, u8 p.params 2) } }); exec (.rprSpareSwap) s = .next ((if (v.domain u).switchingOn then v else finishSwap (d, u, u8 p.params 2) v))) ∧
  (∀ (s : State) (d cause : Nat), s.live = true → causeFits cause d = true → exec (.autoFence d cause) s = .next (autoFence d cause s)) ∧
  (∀ (s : State) (d : Nat), s.isOn d = true → inR d 65 85 = true → s.domBusy d = false → exec (.knownAnswerTest d false) s = .next (autoFence d 2 s)) ∧
  (∀ (s : State), s.isOn 63 = true → exec (.knownAnswerTest 63 false) s = .next (autoFence 63 8 s)) ∧
  (∀ (s : State) (d : Nat), exec (.knownAnswerTest d true) s = .next (s)) ∧
  (∀ (s : State) (ch device : Nat), s.live = true → let x := ch % 2 * 256 + device % 256; s.aon.ddrSpent.contains x = false → let u := logEvent 29 0x8006 (detail [(16, 1, ch % 2), (17, 1, device % 256)]) { s with aon := { s.aon with ddrSpent := nset x s.aon.ddrSpent } }; exec (.ddrSpent ch device) s = .next (whenS (decide (1 < (u.aon.ddrSpent.filter fun y => y / 256 == ch % 2).length)) (fenceChannel (ch % 2)) u)) ∧
  (∀ (s : State) (r : Nat) (good : Bool) (m : RoleMove) (c : Nat), (s.role r).move = some m → s.coreOf r = some c → m.frozen = true → m.warm = true → m.fence = none → s.isOn (15 + m.dest) = true → (s.core c).access = none → let w := modWdn (fun x => { x with map := x.map.set r m.dest, spare := if x.spare == m.dest then 7 else x.spare }) (modCore c (fun _ => {}) (copyCore c m.dest s)); let w := sched r (modRole r (fun x => { x with move := none }) w); let v := logEvent 18 0x8003 (detail [(16, 1, r), (17, 1, c), (18, 1, m.dest), (19, 1, 0), (20, 4, w.us - m.since)]) w; v.cmd.waits.find? (fun w => w.kind == moveWait r) = none → exec (.roleMoveComplete r good) s = .next (poolRecords (s.withSpare (15 + m.dest)) (makeSpare (15 + c) { v with cmd := { v.cmd with waits := v.cmd.waits.filter fun w => w.kind != moveWait r } }))) ∧
  (∀ (s : State) (r : Nat) (diode : Int) (due : Nat), s.live = true → (s.role r).wdDue = some due → due ≤ s.us → (s.coreOf r).isSome = true → (s.role r).lastWd = none → exec (.watchdogExpiry r diode) s = .next (restartRole r 0 (modRole r (fun y => { y with lastWd := some s.us }) s))) ∧
  (∀ (s : State) (r : Nat) (diode : Int) (due last : Nat), s.live = true → (s.role r).wdDue = some due → due ≤ s.us → (s.coreOf r).isSome = true → (s.role r).lastWd = some last → s.us < last + 60000000 → s.spareOf 0 = none → exec (.watchdogExpiry r diode) s = .next (resetDone diode (takeReset .w 5 s)))

/-- For every state of the stated kind: a counting read of a result window answers its header to the reader and notes it; DEV_IDENTIFY answers the identity; CNT_BANK_ENABLE switches a bank on with its group, scope and event; CNT_BANK_DISABLE switches it off; CNT_SNAPSHOT copies the banks of its mask; CNT_READ answers the counters asked for; each JTAG instruction enters the instruction register and ends a session; DBG_ACCESS opens a session where debug is permitted, and where it is not the refusal is recorded; in a session, device reads and writes and warden-memory reads leave their value and status; the TAP's reset ends the session with cause 1. -/
def Obligations.CountersAndDebugComplete : Prop :=
  (∀ (s : State) (win reader : Nat), inR win 2 6 = true → let r := countRead (getWindow win s) reader; exec (.resultCountingRead win reader) s = .next (answerRead reader r.1 (setWindow win r.2 s))) ∧
  (∀ (s : State) (win reader : Nat), 16 ≤ win → win < 80 → let r := countSlot (win - 16) reader s; exec (.resultCountingRead win reader) s = .next (answerRead reader r.1 r.2)) ∧
  (∀ (s t : State) (p : Packet), Given 0x0101 p s t → p.params.length = 0 → exec (.devIdentify) s = .next (complete p stOk (devIdentity t) t)) ∧
  (∀ (s t : State) (p : Packet), Given 0x0E01 p s t → p.params.length = 4 → u8 p.params 0 < 8 → inR (u8 p.params 1) 1 7 = true → scopeOk (u8 p.params 1) (u16 p.params 2) = true → let k := u8 p.params 0; t.domLost (90 + k) = false → (t.bank k).on = false → exec (.cntBankEnable) s = .next (ok p (logEvent 30 0x8001 (detail [(16, 1, k), (17, 1, u8 p.params 1), (18, 2, u16 p.params 2)]) (followUse (90 + k) true { t with cnt := { t.cnt with banks := tput {} t.cnt.banks k { on := true, group := u8 p.params 1, scope := u16 p.params 2 } } })))) ∧
  (∀ (s t : State) (p : Packet), Given 0x0E02 p s t → p.params.length = 4 → u8 p.params 0 < 8 → (t.bank (u8 p.params 0)).on = true → exec (.cntBankDisable) s = .next (ok p (bankOff (u8 p.params 0) 0 t))) ∧
  (∀ (s t : State) (p : Packet), Given 0x0E03 p s t → p.params.length = 4 → u8 p.params 0 ≠ 0 → exec (.cntSnapshot) s = .next (complete p stOk (putLe 4 t.log.tick.toNat ++ putLe 4 t.aon.rtcSec.toNat ++ putLe 1 t.onBanks ++ zeros 3) { t with cnt := { t.cnt with window := t.copied (u8 p.params 0) } })) ∧
  (∀ (s t : State) (p : Packet), Given 0x0E04 p s t → p.params.length = 4 → u8 p.params 0 < 8 → u8 p.params 1 < 64 → 1 ≤ u8 p.params 2 → u8 p.params 1 + u8 p.params 2 ≤ 64 → let x := t.bank (u8 p.params 0); exec (.cntRead) s = .next (complete p stOk (putLe 4 t.log.tick.toNat ++ putLe 1 x.group ++ zeros 1 ++ putLe 2 x.scope ++ zeros 4 ++ ((List.range (u8 p.params 2)).map fun i => putLe 8 (x.entry (u8 p.params 1 + i))).flatten) t)) ∧
  (∀ (s : State), s.tapWorks = true → exec (.jtagExtest) s = .next (closeSession 0 { s with cnt := { s.cnt with ir := 0x00 } })) ∧
  (∀ (s : State), s.tapWorks = true → exec (.jtagIdcode) s = .next (closeSession 0 { s with cnt := { s.cnt with ir := 0x01 } })) ∧
  (∀ (s : State), s.tapWorks = true → exec (.jtagSamplePreload) s = .next (closeSession 0 { s with cnt := { s.cnt with ir := 0x02 } })) ∧
  (∀ (s : State), s.tapWorks = true → exec (.jtagClamp) s = .next (closeSession 0 { s with cnt := { s.cnt with ir := 0x03 } })) ∧
  (∀ (s : State), s.tapWorks = true → exec (.jtagHighz) s = .next (closeSession 0 { s with cnt := { s.cnt with ir := 0x04 } })) ∧
  (∀ (s : State), s.tapWorks = true → exec (.jtagExtestPulse) s = .next (closeSession 0 { s with cnt := { s.cnt with ir := 0x05 } })) ∧
  (∀ (s : State), s.tapWorks = true → exec (.jtagExtestTrain) s = .next (closeSession 0 { s with cnt := { s.cnt with ir := 0x06 } })) ∧
  (∀ (s : State), s.tapWorks = true → exec (.jtagBypass) s = .next (closeSession 0 { s with cnt := { s.cnt with ir := 0xFF } })) ∧
  (∀ (s : State), s.dataOn = true → s.cnt.session = false → s.debugAllowed = true → s.domLost 9 = false → s.unreset = true → let u := followUse 9 true { s with cnt := { s.cnt with ir := 0x10, session := true, dbg := ⟨0, 0⟩ } }; exec (.dbgAccess) s = .next (logEvent 30 0x8003 (detail [(16, 1, u.lcyState)]) u)) ∧
  (∀ (s : State), s.live = true → s.cnt.session = false → s.debugAllowed = false → let u := { s with cnt := { s.cnt with ir := 0x10 } }; exec (.dbgAccess) s = .next (logEvent 30 0x8005 (detail [(16, 1, u.lcyState)]) u)) ∧
  (∀ (s : State) (addr : Nat), s.cnt.session = true → addr % 4 = 0 → addr < 2 ^ 48 → inKeySpace addr = false → exec (.debugDeviceRead addr false) s = .next (dbgAnswer (devRead debugAgent addr s) s)) ∧
  (∀ (s : State) (addr : Nat), s.cnt.session = true → addr % 4 ≠ 0 → exec (.debugDeviceRead addr false) s = .next (setDbg 0 stBadParam s)) ∧
  (∀ (s : State) (addr value : Nat), s.cnt.session = true → addr % 4 = 0 → addr < 2 ^ 48 → inKeySpace addr = false → exec (.debugDeviceWrite addr value false) s = .next (dbgAnswer (devWrite debugAgent addr (value % 2 ^ 32) s) s)) ∧
  (∀ (s : State) (core space addr : Nat), s.cnt.session = true → core ≤ 4 → s.domLost (15 + core) = false → s.isOn (15 + core) = true → exec (.debugWardenMemoryRead core space addr false) s = .next (setDbg (tget 0 (if space % 2 = 0 then (s.core core).code else (s.core core).data) (addr % 65536)) stOk s)) ∧
  (∀ (s : State), exec (.tapReset) s = .next (closeSession 1 { s with cnt := { s.cnt with ir := 1 } }))

/-- For every state of the stated kind: PERST_N, a hot reset and a link that goes down take a conventional reset with their source; deassertion ends it; training starts when nothing holds it; DL_Active sets speed, width and its record; a configuration request is answered Retry before the end of boot, with UR for an absent function, and otherwise read or written; an FLR of a VF resets the function and its configuration; clearing VF Enable acts as an F on every VF; a read's completion or failure frees its tag; an ATS invalidation drops the entries it names; a pending message is sent once its vector opens; a write of 1 to MGT_EVENT clears the bits and keeps what is set in the same cycle; the count of DMA faults is read and cleared. -/
def Obligations.HostLinkComplete : Prop :=
  (∀ (s : State), s.awake = true → s.unreset = true → exec (.perstNAssert) s = .next (convReset 0 { s with pce := { s.pce with perst := true } })) ∧
  (∀ (s : State), s.pce.convReset = true → exec (.perstNDeassert) s = .next (endConvReset { s with pce := { s.pce with perst := false } })) ∧
  (∀ (s : State), s.linkUp = true → exec (.hotResetReceived) s = .next (convReset 1 s)) ∧
  (∀ (s : State), s.linkUp = true → exec (.linkDlDown) s = .next (convReset 2 s)) ∧
  (∀ (s : State), s.pce.perst = false → s.ckg.pcieRef = true → s.awake = true → s.unreset = true → s.pce.convReset = false → s.pce.speed = 0 → s.domLost 30 = false → s.domLost 31 = false → exec (.linkTrainingStart) s = .next ({ s with pce := { s.pce with training := true, trainedAt := s.us } })) ∧
  (∀ (s : State) (speed width : Nat) (upcfg : Bool), s.pce.training = true → s.awake = true → s.unreset = true → let sp := max 1 (min 5 speed); let w := min s.quadWidth (formedWidth width); exec (.linkDlActive speed width upcfg) s = .next (logEvent 5 0x8002 (detail [(16, 1, sp), (17, 1, w), (18, 1, 0)]) { s with pce := { s.pce with training := false, speed := sp, width := w, upcfg := upcfg } })) ∧
  (∀ (s : State) (f : Nat) (reg : CfgReg), s.linkUp = true → s.pce.convReset = false → s.bootDone = false → s.us < s.pce.trainedAt + 1000000 → exec (.configRequest f reg none) s = .next (emit (.cfgReply f 2 0) s)) ∧
  (∀ (s : State) (f : Nat) (reg : CfgReg), s.linkUp = true → s.pce.convReset = false → s.bootDone = true → f = pf0 ∨ s.vfOn f = true → exec (.configRequest f reg none) s = .next (emit (.cfgReply f 0 (cfgValue s f reg)) s)) ∧
  (∀ (s : State) (f v : Nat) (reg : CfgReg), s.linkUp = true → s.pce.convReset = false → s.bootDone = true → f = pf0 ∨ s.vfOn f = true → exec (.configRequest f reg (some v)) s = .next (emit (.cfgReply f 0 0) (cfgWrite f reg v s))) ∧
  (∀ (s : State) (f : Nat) (reg : CfgReg) (write : Option Nat), s.linkUp = true → s.pce.convReset = false → s.bootDone = true → f ≠ pf0 → s.vfOn f = false → exec (.configRequest f reg write) s = .next (emit (.cfgReply f 1 0xFFFFFFFF) s)) ∧
  (∀ (s : State) (f : Nat), s.pce.convReset = false → f ≠ pf0 → s.vfOn f = true → (s.fn f).flr = false → exec (.flrStart f) s = .next (modFn f (fun x => { x with flr := true }) (resetConfig f (resetFn f s)))) ∧
  (∀ (s : State), s.pce.convReset = false → (s.fn pf0).flr = false → let u := forEach s.enabledVfs (fun v s => modFn v (fun x => { x with flr := true }) (resetConfig v s)) (resetFn pf0 s); let u := modFn pf0 (fun x => { x with flr := true }) (resetConfig pf0 u); exec (.flrStart pf0) s = .next ({ u with pce := { u.pce with vfEnable := false, numVfs := 0 } })) ∧
  (∀ (s : State), s.pce.vfEnable = true → exec (.vfEnableClear) s = .next (clearVfEnable s)) ∧
  (∀ (s : State) (tag : Nat) (x : DmaRead), s.pce.reads.find? (fun r => r.tag == tag) = some x → exec (.dmaReadCompletion tag true) s = .next ({ s with pce := { s.pce with reads := s.pce.reads.erase x } })) ∧
  (∀ (s : State) (tag : Nat) (x : DmaRead), s.pce.reads.find? (fun r => r.tag == tag) = some x → exec (.dmaReadCompletion tag false) s = .next (readFailed x 2 { s with pce := { s.pce with reads := s.pce.reads.erase x } })) ∧
  (∀ (s : State) (tag : Nat) (x : DmaRead), s.pce.reads.find? (fun r => r.tag == tag) = some x → exec (.completionTimeout tag) s = .next (readFailed x 3 { s with pce := { s.pce with reads := s.pce.reads.erase x } })) ∧
  (∀ (s : State) (f tag : Nat) (page : Option Nat), exec (.atsInvalidation f tag page) s = .next (emit (.atsDone f tag) { s with pce := { s.pce with atc := s.pce.atc.filter fun e => !(e.1 == f && (page.isNone || page == some e.2)) } })) ∧
  (∀ (s : State) (f v : Nat), (s.vec f v).pending = true → (s.fn f).msixEn = true → s.vecOpen f v = true → s.fnTalks f = true → exec (.msixPendingSend f v) s = .next (sendMsix f v (modVec f v (fun x => { x with pending := false }) s))) ∧
  (∀ (s : State) (bits also : Nat), exec (.mgtEventWrite bits also) s = .next (mgtEvent (also % 64) { s with pce := { s.pce with event := maskOf ((bitsSet 6 s.pce.event).filter fun i => !bits.testBit i) } })) ∧
  (∀ (s : State) (reader : Nat), exec (.mgtDmafCountRead reader) s = .next (emit (.readData reader (putLe 4 s.pce.dmafCount)) { s with pce := { s.pce with dmafCount := 0 } }))

/-- For every state of the stated kind: a warden's device access that completes ends with what it read or wrote, and one that times out ends with TIMEOUT; an aligned register write of 32 or 64 bits reaches the register, the low word first; DCW_GO copies the packet from the request area and sets BUSY, or sets OVERRUN; a throttle ends with its record; a chain whose next packet is late is dropped and answered ABORTED; a command that waits too long fails with TIMEOUT; DEV_ECHO answers its parameters; DEV_RESET answers OK and then a W with cause 4 is due; LOG_READ from the oldest record answers up to the number asked for. -/
def Obligations.DeviceComplete : Prop :=
  (∀ (s t : State) (core : Nat) (x : WdAccess) (res : Except Nat Nat), (s.core core).access = some x → x.write = false → devRead ⟨core, x.task⟩ x.addr s = some (res, t) → exec (.deviceAccessComplete core) s = .next (endAccess core res t)) ∧
  (∀ (s : State) (core : Nat) (x : WdAccess), (s.core core).access = some x → x.write = false → exec (.deviceAccessTimeout core) s = .next (endAccess core (.error stTimeout) (freeNat 2 s).2)) ∧
  (∀ (s : State) (addr value : Nat), s.fnTalks pf0 = true → addr % 4 = 0 → exec (.registerWrite .bar0 addr 4 value) s = .next (bar0Write addr (value % 2 ^ 32) s)) ∧
  (∀ (s : State) (addr value : Nat), s.fnTalks pf0 = true → addr % 8 = 0 → exec (.registerWrite .bar0 addr 8 value) s = .next (bar0Write (addr + 4) (value / 2 ^ 32 % 2 ^ 32) (bar0Write addr (value % 2 ^ 32) s))) ∧
  (∀ (s : State) (f addr value : Nat), s.fnTalks f = true → f < 64 ∨ f = pf0 → addr % 4 = 0 → exec (.registerWrite (.bar2 f) addr 4 value) s = .next (bar2Write f addr (value % 2 ^ 32) s)) ∧
  (∀ (s : State) (size : Nat), s.transportsRun = true → s.cmd.dcwBusy = false → 16 ≤ size → size ≤ 4084 → exec (.dcwGo size) s = .next (frontEnd ⟨2, 0xFFF, 0⟩ 0 .dcw (s.cmd.dcwReq.readN 0 size) { s with cmd := { s.cmd with dcwBusy := true } })) ∧
  (∀ (s : State) (size : Nat), s.transportsRun = true → s.cmd.dcwBusy = true ∨ size < 16 ∨ 4084 < size → exec (.dcwGo size) s = .next ({ s with cmd := { s.cmd with dcwOverrun := true } })) ∧
  (∀ (s : State) (cls ident sub n : Nat), let k : SrcKey := ⟨cls, ident, sub⟩; (getSource k s).throttle = some n → exec (.throttleEnd cls ident sub) s = .next (logEvent 20 0x8002 (cmdDetail k 0 0 0 0 0xFFFF n) (setSource { getSource k s with throttle := none, violations := [] } s))) ∧
  (∀ (s : State) (cls ident sub : Nat) (c : Chain), let k : SrcKey := ⟨cls, ident, sub⟩; (getSource k s).chain = some c → cls = 4 ∨ cls = 5 → let u := dropChain k s; exec (.chainTimeout cls ident sub) s = .next (deliver c.path (buildReply u cls c.opcode c.tag c.lastSeq stAborted (errParams 0xFFFF 0)) u)) ∧
  (∀ (s : State) (opcode : Nat) (w : Waiting), s.cmd.waits.find? (fun w => w.pkt.opcode == opcode) = some w → exec (.commandTimeout opcode) s = .next (fail w.pkt stTimeout 0xFFFF 0 { s with cmd := { s.cmd with waits := s.cmd.waits.erase w } })) ∧
  (∀ (s t : State) (p : Packet), Given 0x0104 p s t → exec (.devEcho) s = .next (complete p stOk p.params t)) ∧
  (∀ (s t : State) (p : Packet), Given 0x0102 p s t → p.params.length = 4 → u8 p.params 0 = 2 → u8 p.params 1 = 0xA5 → exec (.devReset) s = .next (ok p { t with rst := { t.rst with wPending := some 4 } })) ∧
  (∀ (s t : State) (p : Packet), Given 0x0103 p s t → p.params.length = 8 → 1 ≤ u16 p.params 4 → u16 p.params 4 ≤ 126 → (u16 p.params 6).testBit 0 = true → let taken := t.log.records.take (u16 p.params 4); exec (.logRead) s = .next (complete p stOk (putLe 4 ((taken.head?.map (·.seq)).getD t.log.nextSeq).toNat ++ putLe 2 taken.length ++ putLe 2 0 ++ (taken.map LogRecord.bytes).flatten) t))

/-- For every state of the stated kind: a master read and write start a transfer with the opcode, its complement, the address and the data; a transfer that ends leaves OK, its data in the buffer and posts its route; a read that times out is recorded and leaves TIMEOUT; a complete PKT_WRITE enters the front end, and a released one is answered ABORTED with its event; RESULT_READ returns the words of the result window; LOCK_ACQ answers the attempt and LOCK_REL releases; STATUS answers and clears ERR and ABORTED; TARGET_RESET clears them, advances the service port's epoch and writes its event; a reserved or ill-formed header sets ERR. -/
def Obligations.ServicePortComplete : Prop :=
  (∀ (s : State) (cmd : Nat), s.xsp.xfer = none → s.xsp.target = false → let len := bitsOf cmd 29 21; len % 2 = 0 → len ≤ 256 → cmd.testBit 2 = false → let op := BitVec.ofNat 8 (bitsOf cmd 15 8); exec (.xspMasterRead cmd) s = .next (syncUse 20 (emit (.xspOut ([op, ~~~op] ++ (if cmd.testBit 3 then putBe 4 s.xsp.addr else []))) (modXsp (fun x => { x with xfer := some cmd, status := 0 }) s)))) ∧
  (∀ (s : State) (cmd : Nat), s.xsp.xfer = none → s.xsp.target = false → let len := bitsOf cmd 29 21; len % 2 = 0 → len ≤ 256 → cmd.testBit 2 = true → let op := BitVec.ofNat 8 (bitsOf cmd 15 8); exec (.xspMasterWrite cmd) s = .next (syncUse 20 (emit (.xspOut ([op, ~~~op] ++ (if cmd.testBit 3 then putBe 4 s.xsp.addr else []) ++ s.xsp.buf.take len)) (modXsp (fun x => { x with xfer := some cmd, status := 0 }) s)))) ∧
  (∀ (s : State) (data : Bytes) (v : Nat), s.xsp.xfer = some v → v.testBit 2 = false → exec (.xspMasterTransferDone data) s = .next (xspEnd stOk (modXsp (fun x => { x with buf := overwrite x.buf 0 (data.take (bitsOf v 29 21)) }) s))) ∧
  (∀ (s : State) (v : Nat), s.xsp.xfer = some v → v.testBit 2 = false → exec (.xspMasterTimeout) s = .next (xspEnd stTimeout (logEvent 25 0x8004 (detail [(16, 1, v % 4), (17, 1, bitsOf v 15 8)]) s))) ∧
  (∀ (s : State) (h : Nat) (data : Bytes), s.xsp.target = true → s.xspReady = true → s.xsp.deaf = false → s.xsp.write = none → xspHeaderOk h = true → h % 256 = 1 → 4 * bitsOf h 31 16 ≤ data.length → exec (.xspPktWrite h data) s = .next (frontEnd ⟨3, 0, 0⟩ 0 .service (data.take (4 * bitsOf h 31 16)) s)) ∧
  (∀ (s : State) (h words : Nat), s.xsp.target = true → s.xspReady = true → s.xsp.deaf = false → s.xsp.write = none → xspHeaderOk h = true → h % 256 = 2 → words ≠ 0 → let len := bitsOf h 31 16; let r := countRead s.cmd.crw0 1; exec (.xspResultRead h words) s = .next (emit (.xspOut ((r.1 ++ zeros (4 * len)).take (4 * min len words) ++ zeros (4 * (words - len)))) (setWindow 3 r.2 s))) ∧
  (∀ (s : State) (h : Nat), s.xsp.target = true → s.xspReady = true → s.xsp.deaf = false → s.xsp.write = none → xspHeaderOk h = true → h % 256 = 3 → let r := lockAcquire holderService (bitsOf h 15 8) s; exec (.xspLockAcq h) s = .next (emit (.xspOut (putLe 4 r.1)) r.2)) ∧
  (∀ (s : State) (h : Nat), s.xsp.target = true → s.xspReady = true → s.xsp.deaf = false → s.xsp.write = none → xspHeaderOk h = true → h % 256 = 4 → exec (.xspLockRel h) s = .next (lockRelease holderService (bitsOf h 15 8) s)) ∧
  (∀ (s : State) (h words : Nat), s.xsp.target = true → s.xspReady = true → s.xsp.deaf = false → s.xsp.write = none → xspHeaderOk h = true → h % 256 = 5 → words ≠ 0 → exec (.xspStatus h words) s = .next (emit (.xspOut (putLe 4 s.xspStatus ++ zeros (4 * (words - 1)))) (modXsp (fun x => { x with err := false, aborted := false }) s))) ∧
  (∀ (s : State) (h : Nat), s.xsp.target = true → s.xspReady = true → s.xsp.deaf = false → s.xsp.write = none → xspHeaderOk h = true → h % 256 = 6 → exec (.xspTargetReset h) s = .next (logEvent 25 0x8002 [] (advanceEpoch holderService (modXsp (fun x => { x with err := false, aborted := false, write := none }) s)))) ∧
  (∀ (s : State) (h words : Nat), s.xsp.target = true → s.xspReady = true → s.xsp.deaf = false → s.xsp.write = none → xspHeaderOk h = false → 6 < h % 256 → exec (.xspStatus h words) s = .next (logLimited 25 0x8003 0 1 1000000 (detail [(16, 1, h % 256), (17, 1, bitsOf h 15 8), (18, 2, bitsOf h 31 16)]) (modXsp (fun x => { x with err := true, deaf := true }) s))) ∧
  (∀ (s : State), s.xsp.write = none → exec (.xspSelectRelease) s = .next (modXsp (fun x => { x with deaf := false, write := none }) s)) ∧
  (∀ (s : State) (w : XspWrite), s.xsp.write = some w → w.bytes.length < 16 → let u := modXsp (fun x => { x with deaf := false, write := none }) s; let u := whenS (outstanding u 3 none == 0) (postWindow 3 (buildReply u 3 0 0 0 stAborted (errParams 0xFFFF 0))) u; exec (.xspSelectRelease) s = .next (logEvent 25 0x8001 (detail [(16, 1, 1), (18, 2, w.bytes.length / 4), (20, 2, 0)]) (modXsp (fun x => { x with aborted := true }) u)))

/-- For every state of the stated kind: the storage entries are admitted and run; a quiet connection's detach writes the final state block and completes, and one that stays unquiet times out; a segment or packet of a connection in a storage engine is received in order; a retransmission timeout sends again with twice the RTO, up to 1 s, and the eighth closes the connection; the PDUs of a stream are handled by type, a PDU for no known command or R2T being fatal; a CNP halves the rate, recovery raises it by a twentieth of the port rate, and an ACK timeout goes back to the first unacknowledged packet. -/
def Obligations.StorageConnectionsComplete : Prop :=
  (∀ (s : State) (g : Nat) (entry : Bytes) (data : List (Option Bytes)), exec (.entryConnAttach g entry data) s = .next (arrive g 0x10 entry data (stoRun g) s)) ∧
  (∀ (s : State) (g : Nat) (entry : Bytes) (data : List (Option Bytes)), exec (.entryConnDetach g entry data) s = .next (arrive g 0x11 entry data (stoRun g) s)) ∧
  (∀ (s : State) (g : Nat) (entry : Bytes) (data : List (Option Bytes)), exec (.entryConnRekey g entry data) s = .next (arrive g 0x12 entry data (stoRun g) s)) ∧
  (∀ (s : State) (g : Nat) (entry : Bytes) (data : List (Option Bytes)), exec (.entryStoPost g entry data) s = .next (arrive g 0x13 entry data (stoRun g) s)) ∧
  (∀ (s : State) (g : Nat) (entry : Bytes) (data : List (Option Bytes)), exec (.entryTgtResp g entry data) s = .next (arrive g 0x14 entry data (stoRun g) s)) ∧
  (∀ (s : State) (g : Nat) (entry : Bytes) (data : List (Option Bytes)), exec (.entryIniCmd g entry data) s = .next (arrive g 0x18 entry data (stoRun g) s)) ∧
  (∀ (s : State) (h g seq : Nat) (c : Conn) (w : RingWork), s.conn h = some c → c.detach = some (g, seq) → c.quiet = true → let u := connRemove h (modConn h (fun c => { c with detach := none }) s); u.workOf g seq = some w → let r := dmaPut c.fn (entAddr w.entry 0) c.finalBlock u; r.1 = true → exec (.detachAcked h) s = .next (stoFinish g seq stOk 128 0 0 0 r.2)) ∧
  (∀ (s : State) (h g seq : Nat) (c : Conn), s.conn h = some c → c.detach = some (g, seq) → c.quiet = false → c.tcp = true → exec (.detachTimeout h) s = .next (stoFinish g seq stTimeout 0 1 0 0 (connRemove h (modConn h (fun c => { c with detach := none }) (tcpRst h s))))) ∧
  (∀ (s : State) (id h : Nat) (i : QItem) (f : Frame) (c : Conn), s.inUnit 0x105 id = some i → i.job = .store f → s.connOf f.bytes = some (h, c) → c.tcp = true → (((s.point 0x105).serving.takeWhile fun j => j.id != id).filterMap fun j => j.job.frame?).any (fun e => connMatch c e.bytes) = false → exec (.tcpSegmentReceived id) s = .next (tcpReceive h f.bytes (cadRelease f.bufs (outOfUnit 0x105 i s)))) ∧
  (∀ (s : State) (id h : Nat) (i : QItem) (f : Frame) (c : Conn), s.inUnit 0x105 id = some i → i.job = .store f → s.connOf f.bytes = some (h, c) → c.tcp = false → isCnp f.bytes = false → (((s.point 0x105).serving.takeWhile fun j => j.id != id).filterMap fun j => j.job.frame?).any (fun e => connMatch c e.bytes) = false → exec (.rocePacketReceived id) s = .next (roceReceive h c f.bytes (cadRelease f.bufs (outOfUnit 0x105 i s)))) ∧
  (∀ (s : State) (id h : Nat) (i : QItem) (f : Frame) (c : Conn), s.inUnit 0x105 id = some i → i.job = .store f → s.connOf f.bytes = some (h, c) → c.tcp = false → isCnp f.bytes = true → (((s.point 0x105).serving.takeWhile fun j => j.id != id).filterMap fun j => j.job.frame?).any (fun e => connMatch c e.bytes) = false → let u := cadRelease f.bufs (outOfUnit 0x105 i s); exec (.cnpReceived id) s = .next (modConn h (fun x => { x with rate := max 1 ((if c.rate = 0 then u.portRate else c.rate) / 2) }) u)) ∧
  (∀ (s : State) (h : Nat) (c : Conn), s.conn h = some c → c.tcp = true → c.sent ≠ [] → c.timeouts < 7 → exec (.retransmissionTimeout h) s = .next (tcpResend h (modConn h (fun c => { c with timeouts := c.timeouts + 1, rto := min 1000000 (2 * c.rto) }) s))) ∧
  (∀ (s : State) (h : Nat) (c : Conn), s.conn h = some c → c.tcp = true → c.sent ≠ [] → c.timeouts = 7 → exec (.retransmissionTimeout h) s = .next (connReset h 3 s)) ∧
  (∀ (s : State) (h : Nat) (c : Conn) (p : Bytes) (rest : List Bytes), s.conn h = some c → c.pdus = p :: rest → u8 p 0 = 4 → exec (.capsuleCmd h) s = .next (capsule h p (digestSeen h (c.pduData p).2 (modConn h (fun c => { c with pdus := rest }) s)))) ∧
  (∀ (s : State) (h : Nat) (c : Conn) (p : Bytes) (rest : List Bytes), s.conn h = some c → c.pdus = p :: rest → u8 p 0 = 6 → let u := modConn h (fun c => { c with pdus := rest }) s; (u.stoCmd h (u16 p 8)).bind (fun x => x.r2ts.find? fun r => r.1 == u16 p 10) = none → exec (.h2cData h) s = .next (pduFatal h 2 5 (p.take 24) u)) ∧
  (∀ (s : State) (h : Nat) (c : Conn) (p : Bytes) (rest : List Bytes) (r : Nat × Nat × Nat), s.conn h = some c → c.pdus = p :: rest → u8 p 0 = 6 → let u := modConn h (fun c => { c with pdus := rest }) s; let cid := u16 p 8; let tag := u16 p 10; let off := u32 p 12; let len := u32 p 16; let d := c.pduData p; (u.stoCmd h cid).bind (fun x => x.r2ts.find? fun r => r.1 == tag) = some r → len = d.1.length → off = r.2.1 → len ≤ r.2.2 → let next := if len = r.2.2 then [] else [(tag, off + len, r.2.2 - len)]; exec (.h2cData h) s = .next (takeData h cid off d.1 d.2 (modCmd h cid (fun x => { x with r2ts := x.r2ts.filter (fun y => y.1 != tag) ++ next }) (digestSeen h d.2 u)))) ∧
  (∀ (s : State) (h : Nat) (c : Conn) (p : Bytes) (rest : List Bytes), s.conn h = some c → c.pdus = p :: rest → u8 p 0 = 7 → let u := modConn h (fun c => { c with pdus := rest }) s; u.stoCmd h (u16 p 8) = none → exec (.c2hData h) s = .next (pduFatal h 2 5 (p.take 24) u)) ∧
  (∀ (s : State) (h : Nat) (c : Conn) (p : Bytes) (rest : List Bytes) (x : StoCmd), s.conn h = some c → c.pdus = p :: rest → u8 p 0 = 7 → (u8 p 1).testBit 3 = false → let u := modConn h (fun c => { c with pdus := rest }) s; let cid := u16 p 8; let off := u32 p 12; let d := c.pduData p; u.stoCmd h cid = some x → u32 p 16 = d.1.length → d.1 ≠ [] → off + u32 p 16 ≤ x.len → let addr := (x.entry.bind fun e => (u.workOf e.1 e.2).map fun w => entAddr w.entry 1).getD 0; let r := dmaPut c.fn (addr + off) d.1 (digestSeen h d.2 u); exec (.c2hData h) s = .next (modCmd h cid (fun x => { x with got := x.got + d.1.length, badData := x.badData || !d.2, gone := x.gone || !r.1 }) r.2)) ∧
  (∀ (s : State) (h : Nat) (c : Conn) (p : Bytes) (rest : List Bytes) (x : StoCmd), s.conn h = some c → c.pdus = p :: rest → u8 p 0 = 5 → let u := modConn h (fun c => { c with pdus := rest }) s; u.stoCmd h (u16 p 20) = some x → exec (.capsuleResp h) s = .next (iniDone h x (u32 p 8) (u32 p 12) (u16 p 22 / 2) u)) ∧
  (∀ (s : State) (h : Nat) (c : Conn) (p : Bytes) (rest : List Bytes), s.conn h = some c → c.pdus = p :: rest → u8 p 0 = 2 ∨ u8 p 0 = 3 → exec (.termReq h) s = .next (connClose h 5 (modConn h (fun c => { c with pdus := rest }) s))) ∧
  (∀ (s : State) (h : Nat), exec (.roceRateRecovery h) s = .next (modConn h (fun c => if c.rate = 0 then c else { c with rate := if s.portRate ≤ c.rate + s.portRate / 20 then 0 else c.rate + s.portRate / 20 }) s)) ∧
  (∀ (s : State) (h : Nat) (c : Conn), s.conn h = some c → c.unacked ≠ [] → exec (.roceAckTimeout h) s = .next (roceRetry h c.una false s))

/-- For every state of the stated kind: a drive with room is given the first command that nothing holds back, in the lowest free slot; a poll whose CQ cannot be read fails the drive; a command that is late is marked, counted and recorded, and answered with Internal Error, and the third timeout fails the drive; STO_TARGET_CFG sets a drive and ends its commands; STO_NS_SET adds a namespace and the owner's entry, or removes one; STO_CONN_STATUS lists connections. -/
def Obligations.StorageDrivesComplete : Prop :=
  (∀ (s : State) (d k : Nat) (x : Drive) (c : DrvCmd), s.drive d = some x → x.failed = false → x.out.length < x.limit → nextCmd (x.out.map (·.2)) x.waiting = some c → (List.range x.limit).find? (fun k => !(x.out.any fun o => o.1 == k)) = some k → exec (.driveSubmit d) s = .next (driveIssue d x c k s)) ∧
  (∀ (s t : State) (d : Nat) (x : Drive) (cqes : Option Bytes) (data recs : List (Option Bytes)), s.drive d = some x → x.out ≠ [] → dmaGet pf0 (u64 x.raw 24 + 16 * x.head) 64 cqes s = (none, t) → exec (.driveCqPoll d cqes data recs) s = .next (failDrive d 1 t)) ∧
  (∀ (s t u : State) (d : Nat) (x : Drive) (b : Bytes) (cqes : Option Bytes) (data recs : List (Option Bytes)), s.drive d = some x → x.out ≠ [] → dmaGet pf0 (u64 x.raw 24 + 16 * x.head) 64 cqes s = (some b, t) → takeCqes d 4 b data recs false t = (false, u) → exec (.driveCqPoll d cqes data recs) s = .next (u)) ∧
  (∀ (s : State) (d slot : Nat) (x : Drive) (c : DrvCmd), s.drive d = some x → x.out.lookup slot = some c → c.late = false → c.dead = false → x.timeouts < 2 → exec (.driveTimeout d slot) s = .next (partDone c.handle c.cid 0x06 0 0 (logEvent 14 0x8003 (detail [(16, 1, d), (20, 2, c.cid)]) (modDrive d (fun x => { x with timeouts := x.timeouts + 1, out := x.out.map fun o => if o.1 == slot then (o.1, { o.2 with late := true }) else o }) s)))) ∧
  (∀ (s t : State) (p : Packet), Given 0x0701 p s t → p.params.length = 64 → let b := p.params; u8 b 0 ≤ 23 → u8 b 1 = 1 → u8 b 2 = 9 ∨ u8 b 2 = 12 → u16 b 4 ≠ 0 → inR (u16 b 6) 2 4096 = true → u64 b 8 % 4096 = 0 → u64 b 24 % 4096 = 0 → u64 b 40 % 4096 = 0 → inR (u32 b 48) 1028 16777216 = true → u16 b 52 = u16 b 6 → inR (u16 b 54) 1 60000 = true → inR (u64 b 56) 1 (2 ^ 48) = true → t.drive (u8 b 0) = none → let u := modSto (fun x => { x with drives := x.drives.filter fun y => y.1 != u8 b 0 }) t; exec (.stoTargetCfg) s = .next (ok p (modSto (fun x => { x with drives := tins (u8 b 0) { raw := b } x.drives }) u))) ∧
  (∀ (s t : State) (p : Packet), Given 0x0702 p s t → p.params.length = 36 → let b := p.params; u8 b 0 = 1 → u8 b 1 ≤ 16 → u16 b 2 < 1024 → inR (u32 b 4) 1 0xFFFFFFFE = true → u8 b 8 = 1 → u8 b 11 = 9 ∨ u8 b 11 = 12 → inR (u64 b 24) 1 (2 ^ 48) = true → u8 b 34 ≤ 15 → spaceFault t b = none → t.space (u16 b 2) = none → let u := modSto (fun x => { x with spaces := tins (u16 b 2) b x.spaces }) t; exec (.stoNsSet) s = .next (ok p (modSpaces (u8 b 1) (fun l => withoutSpace (u16 b 2) l ++ [⟨u32 b 4, u16 b 2, listFlags b⟩]) u))) ∧
  (∀ (s t : State) (p : Packet) (x : Bytes), Given 0x0702 p s t → p.params.length = 36 → let b := p.params; u8 b 0 = 2 → u8 b 1 ≤ 16 → u16 b 2 < 1024 → t.space (u16 b 2) = some x → u8 x 1 = u8 b 1 → exec (.stoNsSet) s = .next (ok p (modSpaces (u8 b 1) (withoutSpace (u16 b 2)) (dropSpace (u16 b 2) t)))) ∧
  (∀ (s t : State) (p : Packet), Given 0x0703 p s t → p.params.length = 4 → u16 p.params 0 ≤ 8191 → inR (u16 p.params 2) 1 63 = true → let l := (t.sto.conns.filter fun c => u16 p.params 0 ≤ c.1).take (u16 p.params 2); exec (.stoConnStatus) s = .next (complete p stOk (putLe 2 ((l.head?.map (·.1)).getD (u16 p.params 0)) ++ putLe 2 l.length ++ putLe 2 t.sto.conns.length ++ zeros 2 ++ (l.map fun c => connEntry t c.1 c.2).flatten) t))

/-- For every state of the stated kind: the fixity entries are admitted and run; a job that an engine finishes leaves it and its entry or command ends; FIX_VERIFY and FIX_REPAIR start a job of the profile's image and wait; a scrub session asks its drive for the next stripe, waiting behind a command on the same stripe; FIX_SCRUB_SET starts, pauses or reads a session; FIX_RS_CFG sets or removes a profile that nothing names. -/
def Obligations.IntegrityComplete : Prop :=
  (∀ (s : State) (g : Nat) (entry : Bytes) (data : List (Option Bytes)), exec (.entryFixEncode g entry data) s = .next (arrive g 0x20 entry data (fixRun g) s)) ∧
  (∀ (s : State) (g : Nat) (entry : Bytes) (data : List (Option Bytes)), exec (.fixVerifyEntry g entry data) s = .next (arrive g 0x21 entry data (fixRun g) s)) ∧
  (∀ (s : State) (g : Nat) (entry : Bytes) (data : List (Option Bytes)), exec (.fixRepairEntry g entry data) s = .next (arrive g 0x22 entry data (fixRun g) s)) ∧
  (∀ (s : State) (g : Nat) (entry : Bytes) (data : List (Option Bytes)), exec (.entryFixMigrate g entry data) s = .next (arrive g 0x23 entry data (fixRun g) s)) ∧
  (∀ (s : State) (id g seq : Nat) (data : List (Option Bytes)) (i : QItem), s.inUnit 0x106 id = some i → i.job = .entry g seq → exec (.fixJobDone id data) s = .next (fixEntryDone g seq (outOfUnit 0x106 i s))) ∧
  (∀ (s : State) (id n : Nat) (data : List (Option Bytes)) (i : QItem) (j : FixJob), s.inUnit 0x106 id = some i → i.job = .fix n → let u := outOfUnit 0x106 i s; u.sto.jobs.find? (fun j => j.id == n) = some j → exec (.fixJobDone id data) s = .next (fixCmdDone j data u)) ∧
  (∀ (s t : State) (p : Packet) (x : Profile), Given 0x0801 p s t → p.params.length = 104 → let b := p.params; t.profile (u8 b 0) = some x → (u8 b 1).testBit 0 = false → u16 b 2 = 0xFFFF → u8 b 4 = 2 → u32 b 16 = 4096 → inR (u32 b 28) 1 16777216 = true → streamLen (cmdSegments b) = x.n * x.chunk → (slice b 32 72).all (· == 0) = true → t.hmacOk x = true → let r := newId t; let u := modSto (fun y => { y with jobs := y.jobs ++ [⟨r.1, false, b⟩] }) r.2; exec (.fixVerify) s = .next (waitFor p (.fixJob r.1) (enqueueAt 0x106 16 0 (4096 + x.n * x.chunk) false (.fix r.1) u))) ∧
  (∀ (s t : State) (p : Packet) (x : Profile), Given 0x0802 p s t → p.params.length = 104 → let b := p.params; t.profile (u8 b 0) = some x → (u8 b 1).testBit 0 = false → u16 b 2 = 0xFFFF → u8 b 4 = 2 → u32 b 16 = 4096 → inR (u32 b 28) 1 16777216 = true → streamLen (cmdSegments b) = x.n * x.chunk → (slice b 32 72).all (· == 0) = true → t.hmacOk x = true → let r := newId t; let u := modSto (fun y => { y with jobs := y.jobs ++ [⟨r.1, true, b⟩] }) r.2; exec (.fixRepair) s = .next (waitFor p (.fixJob r.1) (enqueueAt 0x106 16 0 (4096 + x.n * x.chunk) false (.fix r.1) u))) ∧
  (∀ (s : State) (n : Nat) (b : Bytes) (x : Profile) (d : Drive), let y := s.scrub n; s.space y.ns = some b → s.nsProfile b = some x → s.drive (u8 b 9) = some d → y.on = true → d.failed = false → d.scrubs n = false → y.reads.all (fun r => decide (r.1 + ceilDiv (r.2 * 8) y.rate ≤ s.us)) = true → s.unitsOn 0x105 ≠ [] → s.unitsOn 0x106 ≠ [] → let c : DrvCmd := { handle := 0x10000 + n, cid := 0, op := 2, ns := y.ns, lba := stripeLba x b y.next, blocks := (stripeBlocks x b).2, stripe := some y.next }; exec (.scrubStripe n) s = .next (modDrive (u8 b 9) (fun d => { d with waiting := d.waiting ++ [c] }) (modScrub n (fun z => { z with waiting := (d.waiting ++ d.out.map (·.2)).any (clash c) }) s))) ∧
  (∀ (s t : State) (p : Packet) (x : Bytes) (f : Profile), Given 0x0803 p s t → p.params.length = 16 → let b := p.params; u8 b 0 ≤ 15 → u8 b 1 = 1 → t.space (u16 b 2) = some x → t.nsProfile x = some f → inR (u32 b 8) 1 100000 = true → u32 b 12 < u64 x 24 / (stripeBlocks f x).1 → (List.range 16).any (fun m => (t.scrub m).on && (m == u8 b 0 || (t.scrub m).ns == u16 b 2)) = false → let u := modScrub (u8 b 0) (fun _ => { on := true, ns := u16 b 2, flags := u8 b 4, rate := u32 b 8, next := u32 b 12 }) t; let y := u.scrub (u8 b 0); exec (.fixScrubSet) s = .next (complete p stOk (layout 32 [(0, 1, u.scrubState y), (2, 2, y.ns), (4, 4, y.next), (8, 4, y.done), (12, 4, y.passes), (16, 4, y.found), (20, 4, y.repaired), (24, 4, y.unrepaired)]) u)) ∧
  (∀ (s t : State) (p : Packet), Given 0x0804 p s t → p.params.length = 32 → let b := p.params; inR (u8 b 0) 1 15 = true → u8 b 1 = 1 → inR (u8 b 2) 1 32 = true → u8 b 3 ≤ 8 → inR (u8 b 4) 16 24 = true → inR (u8 b 5) 1 2 = true → inR (u8 b 6) 9 (u8 b 4) = true → u64 b 16 % 4096 = 0 → u64 b 16 = 0 ∨ u32 b 24 ≠ 0 → t.sto.spaces.filter (fun x => u8 x.2 34 == u8 b 0) = [] → t.jobNames (u8 b 0) = false → exec (.fixRsCfg) s = .next (ok p (modSto (fun y => { y with profiles := tins (u8 b 0) ⟨u8 b 2, u8 b 3, u8 b 4, u8 b 5, u8 b 6, u16 b 8, u64 b 16, u32 b 24⟩ (t.sto.profiles.filter fun x => x.1 != u8 b 0) }) t)))

/-- For every state of the stated kind: step 8 of power-up draws the nonce and goes to ROM service or boots an image; BOOT_DONE lets the transports run, enters the boot state and starts the label; a confirm timer that runs out, a transition and an activation take their W; LCY_STATE_GET answers; LCY_TRANSITION without an authorisation performs the transition, and with one performs it when the container passes; OTP_SETTINGS_WRITE writes the group's lowest free slot; FW_IMAGE_LOAD takes its parts into the inactive slot; FW_IMAGE_ACTIVATE makes a trial, confirms one or commits the SVN; TRUST_ROLL moves the generation when its container passes. -/
def Obligations.LifecycleComplete : Prop :=
  (∀ (s : State), s.pmc.st = .boot → s.pmc.upStep = 7 → s.rst.pinLow = false → let v := drawNonce { s with pmc := { s.pmc with upStep := 8 } }; let u := modLcy (fun l => { l with step8 := v.us }) v; u.lcyState = 5 ∨ (List.range 12).any (fun i => u.hashWritten (i + 1)) = false ∨ u.policy 2 = 0 → exec (.secureBoot) s = .next (romService (scanSlots (flushFlash u)))) ∧
  (∀ (s : State), s.pmc.st = .boot → s.pmc.upStep = 7 → s.rst.pinLow = false → let v := drawNonce { s with pmc := { s.pmc with upStep := 8 } }; let u := modLcy (fun l => { l with step8 := v.us }) v; u.lcyState ≠ 5 → (List.range 12).any (fun i => u.hashWritten (i + 1)) = true → u.policy 2 ≠ 0 → exec (.secureBoot) s = .next (bootImages u)) ∧
  (∀ (s : State), s.pmc.st = .boot → s.pmc.upStep = 8 → s.rst.pinLow = false → s.lcy.running = none → let u := lblBoot (enterBootState (modLcy (fun l => { l with bootDone := true }) s)); u.lcy.rom = true → exec (.bootDone) s = .next (modLcy (fun l => { l with confirmEnd := if l.trial then some (u.us + l.rec_.confirm * 1000000) else none }) u)) ∧
  (∀ (s : State) (diode : Int), s.lcy.trial = true → s.lcy.confirmEnd.isSome = true → exec (.confirmTimerExpiry diode) s = .next (resetDone diode (takeReset .w 7 s))) ∧
  (∀ (s : State) (diode : Int), s.rst.wPending = some 6 → s.live = true → exec (.transitionWStart diode) s = .next (resetDone diode (takeReset .w 6 s))) ∧
  (∀ (s : State) (diode : Int), s.rst.wPending = some 7 → s.live = true → exec (.activationWStart diode) s = .next (resetDone diode (takeReset .w 7 s))) ∧
  (∀ (s t : State) (p : Packet), Given 0x0C01 p s t → p.params.length = 0 → let l := t.lcy; let hashes := maskOf ((List.range 12).filter fun i => t.hashWritten (i + 1)); let flags := b2n l.rom + 2 * b2n l.fallback + 4 * b2n l.trial + 8 * b2n t.cnt.session + 16 * b2n (l.pendSlot.isSome || l.pendRec.isSome); let left := (match l.confirmEnd with | some e => ceilDiv (e - t.us) 1000000 | none => 0xFFFFFFFF); exec (.lcyStateGet) s = .next (complete p stOk (putLe 1 t.lcyState ++ putLe 1 t.trustGen ++ putLe 2 hashes ++ putLe 1 (l.running.getD 0xFF) ++ putLe 1 l.rec_.active ++ putLe 1 l.rec_.trial ++ putLe 1 l.rec_.tries ++ putLe 1 (l.slotSt.getD 0 0) ++ putLe 1 (l.slotSt.getD 1 0) ++ putLe 1 t.minSvn ++ putLe 1 l.svn ++ putLe 1 l.gen ++ putLe 1 (124 - t.lcChanges) ++ putLe 1 flags ++ zeros 1 ++ l.nonce.take 8 ++ ((List.range 11).map fun i => putLe 1 (t.groupGen (i + 1))).flatten ++ putLe 1 t.repairInForce ++ putLe 4 left ++ zeros 8) t)) ∧
  (∀ (s t : State) (p : Packet) (good : Bool), Given 0x0C02 p s t → p.params.length = 4 → inR (u8 p.params 0) 2 5 = true → u8 p.params 1 = 0xA5 → u16 p.params 2 = 0 → t.lcyState ≠ u8 p.params 0 → transitionKnown t.lcyState (u8 p.params 0) = true → t.transitionRefused t.lcyState (u8 p.params 0) = none → transitionAuth t.lcyState (u8 p.params 0) = false → exec (.lcyTransition good) s = .next (doTransition good (u8 p.params 0) p t)) ∧
  (∀ (s t : State) (p : Packet) (good : Bool), Given 0x0C02 p s t → p.params.length = 3272 → inR (u8 p.params 0) 2 5 = true → u8 p.params 1 = 0xA5 → u16 p.params 2 = 3268 → t.lcyState ≠ u8 p.params 0 → transitionKnown t.lcyState (u8 p.params 0) = true → t.transitionRefused t.lcyState (u8 p.params 0) = none → transitionAuth t.lcyState (u8 p.params 0) = true → let c := p.params.drop 4; exec (.lcyTransition good) s = .next ((match t.conFault 2 c (authPayload 1 (u8 p.params 0) 0 (zeros 32)) with | some r => fail p stBadParam 4 r t | none => doTransition good (u8 p.params 0) p (acceptCon c t)))) ∧
  (∀ (s t : State) (p : Packet) (good : Bool), Given 0x0C03 p s t → let g := u8 p.params 0; inR g 1 9 = true ∨ g = 11 → u8 p.params 1 = 0 → u16 p.params 2 = 0 → t.lcyState < 3 → p.params.length = 4 + t.payloadSize g → let data := slice p.params 4 (t.payloadSize g); (groupFields g data).all (·.2) = true → t.settingsRefused g 0 = none → exec (.otpSettingsWrite good) s = .next (writeGroup good g data p t)) ∧
  (∀ (s t : State) (p : Packet) (good : Bool), Given 0x0C03 p s t → u8 p.params 0 = 0x20 → inR (u8 p.params 1) 1 12 = true → u16 p.params 2 = 0 → t.lcyState < 3 → p.params.length = 36 → t.settingsRefused 0x20 (u8 p.params 1) = none → exec (.otpSettingsWrite good) s = .next (writeHash good (u8 p.params 1) (slice p.params 4 32) p t)) ∧
  (∀ (s t : State) (p : Packet), Given 0x0C04 p s t → let k := t.inactiveSlot; let r := loadParts k (cutParts p.parts p.params) t; let u := r.2; exec (.fwImageLoad) s = .next ((match r.1 with | some x => fail p x.1 x.2.1 x.2.2 u | none => complete p stOk (putLe 4 (u.lcy.halves.getD k []).length ++ putLe 1 k ++ putLe 1 (u.lcy.slotSt.getD k 0) ++ zeros 2) u))) ∧
  (∀ (s t : State) (p : Packet) (good : Bool), Given 0x0C05 p s t → p.params.length = 8 → u8 p.params 0 = 1 → u8 p.params 1 ≤ 1 → inR (u8 p.params 2) 1 8 = true → inR (u32 p.params 4) 10 3600 = true → t.lcy.slotSt.getD t.inactiveSlot 0 = 1 → let u := putRec { t.lcy.rec_ with trial := t.inactiveSlot, tries := u8 p.params 2, confirm := u32 p.params 4 } t; exec (.fwImageActivate good) s = .next (ok p (if u8 p.params 1 == 1 then { u with rst := { u.rst with wPending := some 7 } } else u))) ∧
  (∀ (s t : State) (p : Packet) (good : Bool), Given 0x0C05 p s t → p.params.length = 8 → u8 p.params 0 = 2 → (slice p.params 1 7).all (· == 0) = true → t.lcy.trial = true → exec (.fwImageActivate good) s = .next (ok p (modLcy (fun l => { l with trial := false, confirmEnd := none }) (putRec { t.lcy.rec_ with active := t.lcy.running.getD 0, trial := 0xFF } t)))) ∧
  (∀ (s t : State) (p : Packet) (good : Bool), Given 0x0C06 p s t → p.params.length = 3240 → u8 p.params 0 = 0xA5 → t.trustGen ≠ 12 → t.lcy.trial = false → t.lcy.running = none → let c := p.params.drop 4; let new := conGen c; let u := otpProgram good 0x50 0x50 (putLe 2 (2 ^ (new - 1) - 1)) (acceptCon c t); exec (.trustRoll good) s = .next ((match t.conFault 3 c (rollPayload c) with | some r => fail p stBadParam 4 r t | none => if good then complete p stOk (putLe 1 t.trustGen ++ putLe 1 new ++ zeros 2) (recheckSlots (logEvent 28 0x8005 (detail [(16, 1, t.trustGen), (17, 1, new)]) u)) else fail p stFault 0xFFFF 0 (recheckSlots (otpEvent false 0x20 new u)))))

/-- For every command that is taken with parameters in range: TNT_CHARTER_SET puts the charter in force; TNT_CHARTER_GET answers it with the present use; TNT_STATE_SET moves the tenant to the state; TNT_RESET resets it and raises its generation; TNT_VF_BIND binds a free VF with its windows, changes the windows of a bound one, or unbinds it, once an FLR in progress has ended; FLR_COMPLETE ends the FLR of a VF and performs the unbinding that waits for it. -/
def Obligations.TenantsComplete : Prop :=
  (∀ (s t : State) (p : Packet), Given 0x0301 p s t → p.params.length = 664 → let old := t.tenant (u8 p.params 0); charterFault p.params old = none → let new := charterNew p.params old; t.ringsUsed (u8 p.params 0) ≤ new.ringMax → old.keys = [] → old.spaces.length ≤ new.nsMax → t.charge (u8 p.params 0) ≤ new.quotaKib * 1024 → t.sumTenants (·.ringMax) - old.ringMax + new.ringMax ≤ 4096 → t.sumTenants (·.keyMax) - old.keyMax + new.keyMax ≤ 4096 → exec (.tntCharterSet) s = .next (ok p (charter (u8 p.params 0) (fun _ => new) t))) ∧
  (∀ (s t : State) (p : Packet), Given 0x0302 p s t → p.params.length = 4 → u8 p.params 0 ≤ 15 → let n := u8 p.params 0; let x := t.tenant n; let vfs := t.tenantVfs n; exec (.tntCharterGet) s = .next (complete p stOk (charterBytes n x ++ putLe 4 x.gen.toNat ++ putLe 1 x.state ++ [0, 0, 0] ++ putLe 4 x.epoch.toNat ++ putLe 8 (maskOf vfs) ++ putLe 2 (t.ringsUsed n) ++ putLe 2 x.keys.length ++ putLe 2 x.spaces.length ++ [0, 0] ++ ((vfs.map fun f => putLe 4 (t.vf f).spoof).flatten ++ zeros 64).take 64) t)) ∧
  (∀ (s t : State) (p : Packet), Given 0x0303 p s t → p.params.length = 4 → u8 p.params 0 ≤ 15 → inR (u8 p.params 1) 1 2 = true → (t.tenant (u8 p.params 0)).state ≠ u8 p.params 1 → t.tenantVfs (u8 p.params 0) ≠ [] → exec (.tntStateSet) s = .next (ok p (setTenantState (u8 p.params 0) (u8 p.params 1) t))) ∧
  (∀ (s t : State) (p : Packet), Given 0x0303 p s t → p.params.length = 4 → u8 p.params 0 ≤ 15 → u8 p.params 1 = 3 → u8 p.params 2 = 0xA5 → (t.tenant (u8 p.params 0)).state ≠ 3 → exec (.tntStateSet) s = .next (ok p (setTenantState (u8 p.params 0) 3 t))) ∧
  (∀ (s t : State) (p : Packet), Given 0x0303 p s t → p.params.length = 4 → u8 p.params 0 ≤ 15 → inR (u8 p.params 1) 1 3 = true → u8 p.params 1 ≠ 3 ∨ u8 p.params 2 = 0xA5 → (t.tenant (u8 p.params 0)).state = u8 p.params 1 → exec (.tntStateSet) s = .next (ok p t)) ∧
  (∀ (s t : State) (p : Packet), Given 0x0304 p s t → p.params.length = 4 → u8 p.params 0 ≤ 15 → u8 p.params 1 = 0xA5 → exec (.tntReset) s = .next (ok p (bumpGen (u8 p.params 0) (resetTenant (u8 p.params 0) t)))) ∧
  (∀ (s t : State) (p : Packet), Given 0x0305 p s t → p.params.length = 132 → u8 p.params 0 ≤ 63 → u8 p.params 1 ≤ 15 → windowFault p.params = none → (t.vf (u8 p.params 0)).tenant = none → (t.tenantVfs (u8 p.params 1)).length < 16 → let f := u8 p.params 0; let n := u8 p.params 1; exec (.tntVfBind) s = .next (ok p (bindRecord f 0xFF n (bumpGen n (fillVf f (modVf f (fun x => { x with tenant := some n, windows := (List.range 8).map (windowAt p.params) }) t)))))) ∧
  (∀ (s t : State) (p : Packet), Given 0x0305 p s t → p.params.length = 132 → u8 p.params 0 ≤ 63 → u8 p.params 1 = 0xFF → allZero (slice p.params 4 128) = true → (t.fn (u8 p.params 0)).flr = false → exec (.tntVfBind) s = .next (doUnbind p (u8 p.params 0) t)) ∧
  (∀ (s t : State) (p : Packet), Given 0x0305 p s t → p.params.length = 132 → u8 p.params 0 ≤ 63 → u8 p.params 1 = 0xFF → allZero (slice p.params 4 128) = true → (t.fn (u8 p.params 0)).flr = true → exec (.tntVfBind) s = .next (waitFor p (flrWait (u8 p.params 0)) t)) ∧
  (∀ (s : State) (f : Nat), f ≠ pf0 → (s.fn f).flr = true → let u := flrDone f s; let due := u.cmd.waits.filter fun w => w.kind == flrWait f; exec (.flrComplete f) s = .next (forEach due (fun w s => doUnbind w.pkt (u8 w.pkt.params 0) s) { u with cmd := { u.cmd with waits := u.cmd.waits.filter fun w => !due.contains w } }))

/-- For every state of the stated kind: a complete TDM frame of an enabled input gives each slot its word, left-aligned; a conversion of an enabled ADC channel adds to its sum until A_c are taken; an edge of the chosen polarity on a capture input begins a phase and counts, and the other ends it; a PWM output's period takes the ON value of the word published last; a stage writes coefficients into the shadow or keeps configurations; a commit waits for its boundary and a discard drops what is staged; the end of the copy leaves the pour's coefficients in the new shadow and answers; a warden's pour registers act; SGE_SLOT_READ answers with the slots, on S as a counting read. -/
def Obligations.SignalInputsComplete : Prop :=
  (∀ (s : State) (d : Nat) (words : List Nat), d ≤ 1 → (s.tdm d).on = true → s.isOn 29 = true → let t := s.tdm d; exec (.tdmFrameComplete d words) s = .next (modSio (fun x => { x with tdmIn := tmod {} x.tdmIn d fun t' => { t' with frame := (List.range t.slots).foldl (fun f k => tput 0 f k (words.getD k 0 % 2 ^ t.width * 2 ^ (32 - t.width))) [] } }) s)) ∧
  (∀ (s : State) (c code : Nat), c ≤ 7 → (s.adcCh c).on = true → s.isOn 27 = true → (s.adcCh c).count < min (s.adcCh c).avg (adcMax s.sge.rate) → exec (.adcConversion c code) s = .next (modSio (fun y => { y with adc := tmod {} y.adc c fun x => { x with sum := x.sum + code % 65536, count := x.count + 1 } }) s)) ∧
  (∀ (s : State) (c at_ : Nat) (rising : Bool), c ≤ 7 → (s.cap c).mode ≠ 0 → s.isOn 28 = true → rising ≠ (s.cap c).falling → let x := s.cap c; let t := s.sge.cyc + at_; exec (.captureEdge c rising at_) s = .next (modSio (fun z => { z with capture := tput {} z.capture c { x with last := some t, period := x.last.map (fun l => t - l), open_ := true, count := x.count + 1 } }) s)) ∧
  (∀ (s : State) (c at_ : Nat) (rising : Bool), c ≤ 7 → (s.cap c).mode ≠ 0 → s.isOn 28 = true → rising = (s.cap c).falling → let x := s.cap c; let t := s.sge.cyc + at_; exec (.captureEdge c rising at_) s = .next (modSio (fun z => { z with capture := tput {} z.capture c { x with high := if x.open_ then t - x.last.getD t else x.high, open_ := false } }) s)) ∧
  (∀ (s : State) (k : Nat), k ≤ 15 → (s.pwmOut k).set = true → (s.pwmOut k).mode ≠ 0 → s.sge.running = true → s.isOn 28 = true → let x := s.pwmOut k; exec (.pwmPeriodStart k) s = .next (modSio (fun y => { y with pwm := tmod {} y.pwm k fun z => { z with on := some ((signed 32 x.word).toNat * x.div / 2 ^ 31) } }) s)) ∧
  (∀ (s t : State) (p : Packet) (caddr ramp value : Nat), Given 0x0910 p s t → t.sio.pour = none → p.parts = [12] → caddr < 4096 → 1 ≤ ramp → ramp < 65536 → value < 2 ^ 32 → p.params = [1, 0, 1, 0] ++ putLe 2 caddr ++ putLe 2 ramp ++ putLe 4 value → rampedAfter t.sio [(caddr, ramp, value)] ≤ 256 → exec (.sgePourStage) s = .next (complete p stOk (putLe 4 t.sio.gen.toNat) (modSio (stageCoefs [(caddr, ramp, value)]) t))) ∧
  (∀ (s t : State) (p : Packet), Given 0x0910 p s t → t.sio.pour.isSome = true → exec (.sgePourStage) s = .next (waitFor p (.other 0x910) t)) ∧
  (∀ (s t : State) (p : Packet), Given 0x0911 p s t → p.params.length = 8 → t.sio.pour = none → u8 p.params 4 = 2 → let u := modSio discardPour t; exec (.sgePourCommit) s = .next (complete p stOk (putLe 4 u.sio.gen.toNat ++ zeros 4) u)) ∧
  (∀ (s t : State) (p : Packet), Given 0x0911 p s t → p.params.length = 8 → t.sio.pour = none → u8 p.params 4 = 1 → commitFault t.sio (u32 p.params 0) = none → exec (.sgePourCommit) s = .next (waitFor p .pour (modSio (fun x => { x with pour := some (.waiting 0) }) t))) ∧
  (∀ (s : State) (b : W32), s.sio.pour = some (.copying 0 b) → s.sio.late = none → let u := modSio (fun x => { (x.modShadow fun t => x.copy.foldl (fun t r => tput 0 t r.1 r.2) t) with copy := [], pour := none }) s; exec (.pourCopyDone) s = .next (lateLegs (latePours (finishWaits (· == .pour) stOk (fun _ => putLe 4 s.sio.gen.toNat ++ putLe 4 b.toNat) u)))) ∧
  (∀ (s : State) (b : W32) (who : Nat), s.sio.pour = some (.copying who b) → who ≠ 0 → s.sio.late = none → let u := modSio (fun x => { (x.modShadow fun t => x.copy.foldl (fun t r => tput 0 t r.1 r.2) t) with copy := [], pour := none }) s; exec (.pourCopyDone) s = .next (lateLegs (latePours (modSio (fun x => { x with resStatus := stOk, resDone := true }) u)))) ∧
  (∀ (s : State) (core value : Nat), s.sio.resDone = true → s.sio.pour = none → (s.domain 25).st ≠ .fenced → (s.domain 99).st ≠ .fenced → s.sio.ramp ≠ 0 → rampedAfter s.sio [(s.sio.entry, s.sio.ramp, value % 2 ^ 32)] ≤ 256 → exec (.sioPourValue core value) s = .next (modSio (fun x => { x with resStatus := stOk, resDone := true }) (modSio (stageCoefs [(s.sio.entry, s.sio.ramp, value % 2 ^ 32)]) s))) ∧
  (∀ (s : State) (core : Nat), s.sio.resDone = true → s.sio.pour = none → (s.domain 25).st ≠ .fenced → (s.domain 99).st ≠ .fenced → commitFault s.sio s.sio.expect.toNat = none → exec (.pourCommit core) s = .next (modSio (fun x => { x with pour := some (.waiting (core + 1)), resDone := false }) s)) ∧
  (∀ (s : State) (core : Nat), s.sio.resDone = true → s.sio.pour = none → (s.domain 25).st ≠ .fenced → (s.domain 99).st ≠ .fenced → exec (.pourDiscard core) s = .next (modSio (fun x => { x with resStatus := stOk, resDone := true }) (modSio discardPour s))) ∧
  (∀ (s t : State) (p : Packet), Given 0x0912 p s t → p.params.length = 4 → p.cls ≠ 3 → inR (u8 p.params 1) 1 64 = true → u8 p.params 0 + u8 p.params 1 ≤ 64 → exec (.sgeSlotRead) s = .next (complete p stOk ((List.range (u8 p.params 1)).map fun i => slotBytes { t.slot (u8 p.params 0 + i) with seen := [] } 0).flatten t)) ∧
  (∀ (s t : State) (p : Packet), Given 0x0912 p s t → p.params.length = 4 → p.cls = 3 → inR (u8 p.params 1) 1 64 = true → u8 p.params 0 + u8 p.params 1 ≤ 64 → let r := countSlots (u8 p.params 1) (u8 p.params 0) 1 t; exec (.sgeSlotRead) s = .next (complete p stOk r.1 r.2))

/-- For every state of the stated kind: a boundary that the engine places itself falls when the source is not LOCKED; an edge that the engine registers in ACQUIRING is kept, one in the window of LOCKED is the boundary, one outside is stray, and one in LOST returns to ACQUIRING with AUTO_RETURN; a frame missed is counted, places the boundary at E + W, and the fourth in a row makes the source LOST with its event; a load whose image passes is staged with the delay words of its new lines wiped; SWAP, START, STOP and a new tick wait for the boundary, DISCARD and STATUS answer at once; the two read-to-clear counters read and clear. -/
def Obligations.SignalEngineComplete : Prop :=
  (∀ (s : State), s.sge.src ≠ .locked → exec (.tickBoundary) s = .next (ownBoundary s)) ∧
  (∀ (s : State) (d : Nat), s.edgesOn = true → s.sge.src = .acquiring → let p := periodOf s.sge.rate; let w := windowOf s.sge.rate; let hit := inR d (p - w) (p + w) || decide ((d : Int) + s.sge.phi ≤ w); exec (.frameSyncEdge d) s = .next (modSge (fun g => { g with edge := some d, inWin := g.inWin || hit }) s)) ∧
  (∀ (s : State) (d : Nat), s.edgesOn = true → s.sge.src = .locked → inR d (periodOf s.sge.rate - windowOf s.sge.rate) (periodOf s.sge.rate + windowOf s.sge.rate) = true → exec (.frameSyncEdge d) s = .next (boundary d (modSge (fun g => { g with missed := 0 }) s))) ∧
  (∀ (s : State) (d : Nat), s.edgesOn = true → s.sge.src = .locked → inR d (periodOf s.sge.rate - windowOf s.sge.rate) (periodOf s.sge.rate + windowOf s.sge.rate) = false → exec (.frameSyncEdge d) s = .next (modSge (fun g => { g with stray := min 0xFFFFFFFF (g.stray + 1), flags := g.flags ||| 8 }) s)) ∧
  (∀ (s : State) (d : Nat), s.edgesOn = true → s.sge.src = .lost → s.sge.autoReturn = true → exec (.frameSyncEdge d) s = .next (modSge (fun g => { g with src := .acquiring, edge := some d, matched := 0, inWin := false, phi := 0, wasLost := true }) s)) ∧
  (∀ (s : State), s.sge.src = .locked → s.sge.missed < 3 → exec (.missedFrame) s = .next (boundary (periodOf s.sge.rate + windowOf s.sge.rate) (modSge (fun g => { g with miss := min 0xFFFFFFFF (g.miss + 1), missed := g.missed + 1 }) s))) ∧
  (∀ (s : State), s.sge.src = .locked → 3 ≤ s.sge.missed → let u := modSge (fun g => { g with miss := min 0xFFFFFFFF (g.miss + 1), missed := g.missed + 1 }) s; let v := modSge (fun g => { g with src := .lost, wasLost := true, missed := 0, flags := g.flags ||| 4 }) u; exec (.missedFrame) s = .next (sourceRecord 0x8001 (boundary (periodOf s.sge.rate + windowOf s.sge.rate) v))) ∧
  (∀ (s t : State) (p : Packet) (b : Bytes) (g : SgeProg), Given 0x0901 p s t → let parts := cutParts p.parts p.params; parts.all (fun c => decide (8 ≤ c.length)) = true → joinChunks (u16 p.params 0) 0 parts [] = .ok b → checkImage t (u16 p.params 0) b = .ok g → exec (.sgeProgramLoad) s = .next (complete p stOk (putLe 2 g.base ++ putLe 2 g.code.length ++ putLe 4 g.cost) (modSge (fun x => { x with staged := some g }) (wipeLines g t)))) ∧
  (∀ (s t : State) (p : Packet), Given 0x0902 p s t → p.params.length = 4 → u8 p.params 0 = 1 → t.sge.staged.isSome = true → exec (.sgeProgramSwap) s = .next (waitFor p (.boundary 0) t)) ∧
  (∀ (s t : State) (p : Packet), Given 0x0902 p s t → p.params.length = 4 → u8 p.params 0 = 2 → t.sge.running = false → t.sge.staged.isSome = true ∨ t.sge.active.isSome = true → exec (.sgeProgramSwap) s = .next (waitFor p (.boundary 1) t)) ∧
  (∀ (s t : State) (p : Packet), Given 0x0902 p s t → p.params.length = 4 → u8 p.params 0 = 3 → t.sge.running = true → exec (.sgeProgramSwap) s = .next (waitFor p (.boundary 2) t)) ∧
  (∀ (s t : State) (p : Packet), Given 0x0902 p s t → p.params.length = 4 → u8 p.params 0 = 4 → t.sge.staged.isSome = true → let u := modSge (fun g => { g with staged := none }) t; exec (.sgeProgramSwap) s = .next (complete p stOk (sgeStatus u u.sge.tick.toNat) u)) ∧
  (∀ (s t : State) (p : Packet), Given 0x0902 p s t → p.params.length = 4 → u8 p.params 0 = 5 → exec (.sgeProgramSwap) s = .next (complete p stOk (sgeStatus t t.sge.tick.toNat) t)) ∧
  (∀ (s t : State) (p : Packet), Given 0x0903 p s t → p.params.length = 8 → inR (u8 p.params 0) 1 9 = true → u8 p.params 1 ≤ 2 → t.sge.active.any (fun x => decide (budgetOf (u8 p.params 0) (u8 p.params 1) < x.cost)) = false → t.sge.staged.any (fun x => decide (budgetOf (u8 p.params 0) (u8 p.params 1) < x.cost)) = false → exec (.sgeTickSet) s = .next (waitFor p (.boundary 3) t)) ∧
  (∀ (s : State) (reader : Nat), exec (.sgeStrayCountRead reader) s = .next (modSge (fun g => { g with stray := 0 }) (answerRead reader (putLe 4 s.sge.stray) s))) ∧
  (∀ (s : State) (reader : Nat), exec (.sgeMissCountRead reader) s = .next (modSge (fun g => { g with miss := 0 }) (answerRead reader (putLe 4 s.sge.miss) s)))

/-- For every state in which a steep's next instruction is of the named OP, issuing it moves the steep on and: NOP does nothing; CLR, MOV, ADD, SUB, NEG, ABS, MIN, MAX, ASH, CSEL, CLAMP, LDI, LDC and RDD write the accumulator D, saturated, with the value of Table 16-5; WRD writes the converted accumulator to tap 0 of a line; MAC adds or subtracts its products, as many as the REP before it says; MACA, MULA and MULAB multiply converted accumulators; IN reads a latched port; OUT and RES stage a converted accumulator; REP sets the count of the next instruction. -/
def Obligations.SignalInstructionsComplete : Prop :=
  (∀ (s : State) (n w : Nat) (q : SgeProg), s.sge.pos = some n → s.sge.active = some q → q.code[n]? = some w → sgOp w = 0x00 → exec (.sgeNop) s = .next (modSge (fun g => { g with pos := if n + 1 < q.code.length then some (n + 1) else none, rep := 1 }) (s))) ∧
  (∀ (s : State) (n w : Nat) (q : SgeProg), s.sge.pos = some n → s.sge.active = some q → q.code[n]? = some w → sgOp w = 0x01 → exec (.sgeClr) s = .next (modSge (fun g => { g with pos := if n + 1 < q.code.length then some (n + 1) else none, rep := 1 }) (setAcc (sgD w) (0) s))) ∧
  (∀ (s : State) (n w : Nat) (q : SgeProg), s.sge.pos = some n → s.sge.active = some q → q.code[n]? = some w → sgOp w = 0x02 → exec (.sgeMov) s = .next (modSge (fun g => { g with pos := if n + 1 < q.code.length then some (n + 1) else none, rep := 1 }) (setAcc (sgD w) (s.acc (sgA w)) s))) ∧
  (∀ (s : State) (n w : Nat) (q : SgeProg), s.sge.pos = some n → s.sge.active = some q → q.code[n]? = some w → sgOp w = 0x03 → exec (.sgeAdd) s = .next (modSge (fun g => { g with pos := if n + 1 < q.code.length then some (n + 1) else none, rep := 1 }) (setAcc (sgD w) (s.acc (sgA w) + s.acc (sgB w)) s))) ∧
  (∀ (s : State) (n w : Nat) (q : SgeProg), s.sge.pos = some n → s.sge.active = some q → q.code[n]? = some w → sgOp w = 0x04 → exec (.sgeSub) s = .next (modSge (fun g => { g with pos := if n + 1 < q.code.length then some (n + 1) else none, rep := 1 }) (setAcc (sgD w) (s.acc (sgA w) - s.acc (sgB w)) s))) ∧
  (∀ (s : State) (n w : Nat) (q : SgeProg), s.sge.pos = some n → s.sge.active = some q → q.code[n]? = some w → sgOp w = 0x05 → exec (.sgeNeg) s = .next (modSge (fun g => { g with pos := if n + 1 < q.code.length then some (n + 1) else none, rep := 1 }) (setAcc (sgD w) (-s.acc (sgA w)) s))) ∧
  (∀ (s : State) (n w : Nat) (q : SgeProg), s.sge.pos = some n → s.sge.active = some q → q.code[n]? = some w → sgOp w = 0x06 → exec (.sgeAbs) s = .next (modSge (fun g => { g with pos := if n + 1 < q.code.length then some (n + 1) else none, rep := 1 }) (setAcc (sgD w) (((s.acc (sgA w)).natAbs : Int)) s))) ∧
  (∀ (s : State) (n w : Nat) (q : SgeProg), s.sge.pos = some n → s.sge.active = some q → q.code[n]? = some w → sgOp w = 0x07 → exec (.sgeMin) s = .next (modSge (fun g => { g with pos := if n + 1 < q.code.length then some (n + 1) else none, rep := 1 }) (setAcc (sgD w) (min (s.acc (sgA w)) (s.acc (sgB w))) s))) ∧
  (∀ (s : State) (n w : Nat) (q : SgeProg), s.sge.pos = some n → s.sge.active = some q → q.code[n]? = some w → sgOp w = 0x08 → exec (.sgeMax) s = .next (modSge (fun g => { g with pos := if n + 1 < q.code.length then some (n + 1) else none, rep := 1 }) (setAcc (sgD w) (max (s.acc (sgA w)) (s.acc (sgB w))) s))) ∧
  (∀ (s : State) (n w : Nat) (q : SgeProg), s.sge.pos = some n → s.sge.active = some q → q.code[n]? = some w → sgOp w = 0x09 → exec (.sgeAsh) s = .next (modSge (fun g => { g with pos := if n + 1 < q.code.length then some (n + 1) else none, rep := 1 }) (setAcc (sgD w) (ash (s.acc (sgA w)) (sgSh w)) s))) ∧
  (∀ (s : State) (n w : Nat) (q : SgeProg), s.sge.pos = some n → s.sge.active = some q → q.code[n]? = some w → sgOp w = 0x0A → exec (.sgeCsel) s = .next (modSge (fun g => { g with pos := if n + 1 < q.code.length then some (n + 1) else none, rep := 1 }) (setAcc (sgD w) (if cselTest (sgMod w) (s.acc (sgD w)) then s.acc (sgA w) else s.acc (sgB w)) s))) ∧
  (∀ (s : State) (n w : Nat) (q : SgeProg), s.sge.pos = some n → s.sge.active = some q → q.code[n]? = some w → sgOp w = 0x0B → exec (.sgeClamp) s = .next (modSge (fun g => { g with pos := if n + 1 < q.code.length then some (n + 1) else none, rep := 1 }) (setAcc (sgD w) (min (max (s.acc (sgA w)) (s.coef (sgCaddr w) * 2 ^ 31)) (s.coef (sgCaddr w + 1) * 2 ^ 31)) s))) ∧
  (∀ (s : State) (n w : Nat) (q : SgeProg), s.sge.pos = some n → s.sge.active = some q → q.code[n]? = some w → sgOp w = 0x0C → exec (.sgeLdi) s = .next (modSge (fun g => { g with pos := if n + 1 < q.code.length then some (n + 1) else none, rep := 1 }) (setAcc (sgD w) (sgImm w * 2 ^ 30) s))) ∧
  (∀ (s : State) (n w : Nat) (q : SgeProg), s.sge.pos = some n → s.sge.active = some q → q.code[n]? = some w → sgOp w = 0x10 → exec (.sgeLdc) s = .next (modSge (fun g => { g with pos := if n + 1 < q.code.length then some (n + 1) else none, rep := 1 }) (setAcc (sgD w) (s.coef (sgCaddr w) * 2 ^ 31) s))) ∧
  (∀ (s : State) (n w : Nat) (q : SgeProg), s.sge.pos = some n → s.sge.active = some q → q.code[n]? = some w → sgOp w = 0x11 → exec (.sgeRdd) s = .next (modSge (fun g => { g with pos := if n + 1 < q.code.length then some (n + 1) else none, rep := 1 }) (setAcc (sgD w) (s.tapWord (sgLine w) (sgTap w) * 2 ^ 30) s))) ∧
  (∀ (s : State) (n w : Nat) (q : SgeProg), s.sge.pos = some n → s.sge.active = some q → q.code[n]? = some w → sgOp w = 0x12 → exec (.sgeWrd) s = .next (modSge (fun g => { g with pos := if n + 1 < q.code.length then some (n + 1) else none, rep := 1 }) (let r := convAcc (sgA w) s; writeLine (sgLine w) r.1 r.2.2))) ∧
  (∀ (s : State) (n w : Nat) (q : SgeProg), s.sge.pos = some n → s.sge.active = some q → q.code[n]? = some w → sgOp w = 0x13 → exec (.sgeMac) s = .next (modSge (fun g => { g with pos := if n + 1 < q.code.length then some (n + 1) else none, rep := 1 }) (macRun w s.sge.rep 0 s))) ∧
  (∀ (s : State) (n w : Nat) (q : SgeProg), s.sge.pos = some n → s.sge.active = some q → q.code[n]? = some w → sgOp w = 0x14 → exec (.sgeMaca) s = .next (modSge (fun g => { g with pos := if n + 1 < q.code.length then some (n + 1) else none, rep := 1 }) (let r := convAcc (sgA w) s; setAcc (sgD w) (r.2.2.acc (sgD w) + r.1 * r.2.2.coef (sgCaddr w)) r.2.2))) ∧
  (∀ (s : State) (n w : Nat) (q : SgeProg), s.sge.pos = some n → s.sge.active = some q → q.code[n]? = some w → sgOp w = 0x15 → exec (.sgeMula) s = .next (modSge (fun g => { g with pos := if n + 1 < q.code.length then some (n + 1) else none, rep := 1 }) (let r := convAcc (sgA w) s; setAcc (sgD w) (r.1 * r.2.2.coef (sgCaddr w)) r.2.2))) ∧
  (∀ (s : State) (n w : Nat) (q : SgeProg), s.sge.pos = some n → s.sge.active = some q → q.code[n]? = some w → sgOp w = 0x16 → exec (.sgeMulab) s = .next (modSge (fun g => { g with pos := if n + 1 < q.code.length then some (n + 1) else none, rep := 1 }) (let r := convAcc (sgA w) s; let u := convAcc (sgB w) r.2.2; setAcc (sgD w) (r.1 * u.1 / 2) u.2.2))) ∧
  (∀ (s : State) (n w : Nat) (q : SgeProg), s.sge.pos = some n → s.sge.active = some q → q.code[n]? = some w → sgOp w = 0x20 → exec (.sgeIn) s = .next (modSge (fun g => { g with pos := if n + 1 < q.code.length then some (n + 1) else none, rep := 1 }) (setAcc (sgD w) (signed 32 (tget 0 s.sio.inputs (sgPort w)) * 2 ^ 30) s))) ∧
  (∀ (s : State) (n w : Nat) (q : SgeProg), s.sge.pos = some n → s.sge.active = some q → q.code[n]? = some w → sgOp w = 0x21 → exec (.sgeOut) s = .next (modSge (fun g => { g with pos := if n + 1 < q.code.length then some (n + 1) else none, rep := 1 }) (let r := convAcc (sgA w) s; modSge (fun g => { g with outs := tins (sgPort w) (unsigned 32 r.1) g.outs }) r.2.2))) ∧
  (∀ (s : State) (n w : Nat) (q : SgeProg), s.sge.pos = some n → s.sge.active = some q → q.code[n]? = some w → sgOp w = 0x22 → exec (.sgeRes) s = .next (modSge (fun g => { g with pos := if n + 1 < q.code.length then some (n + 1) else none, rep := 1 }) (let r := convAcc (sgA w) s; modSge (fun g => { g with res := tins (sgPort w * 8 + sgWord w) (unsigned 32 r.1) g.res, resSat := if r.2.1 then nset (sgPort w) g.resSat else g.resSat }) r.2.2))) ∧
  (∀ (s : State) (n w : Nat) (q : SgeProg), s.sge.pos = some n → s.sge.active = some q → q.code[n]? = some w → sgOp w = 0x30 → exec (.sgeRep) s = .next (modSge (fun g => { g with pos := if n + 1 < q.code.length then some (n + 1) else none, rep := sgPort w + 1 }) (s)))

/-- For every state of the stated kind: PLT_SETPOINT_SET sets the target of a defined setpoint, clamped to MIN and MAX, and waits for its first leg, defines a setpoint, and undefines one; the last tick of a leg that is not the final one commits the next; PLT_STOP sets the latch or releases it when no reason holds it; the write of STOP_CTL asserts with cause 4 and releases with KEY 0xA5; PLT_STATUS answers the status and the setpoints' values. -/
def Obligations.SetpointsAndStopComplete : Prop :=
  (∀ (s t : State) (p : Packet) (x : Setpoint), Given 0x0A10 p s t → p.params.length = 16 → u8 p.params 0 = 1 → u8 p.params 1 ≤ 31 → t.setpointAt (u8 p.params 1) = some x → t.domLost 25 = false → t.domLost 99 = false → let n := u8 p.params 1; exec (.pltSetpointSet) s = .next (commitLeg n (waitFor p (.setpoint n) (setPoint n (some { x with slew := some ⟨clampI x.lo x.hi (signed 32 (u32 p.params 4)), .waits⟩ }) t)))) ∧
  (∀ (s t : State) (p : Packet), Given 0x0A10 p s t → p.params.length = 16 → p.cls ≠ 5 → u8 p.params 0 = 2 → u8 p.params 1 ≤ 31 → u16 p.params 2 ≤ 4095 → signed 32 (u32 p.params 4) ≤ signed 32 (u32 p.params 8) → t.plt.points.find? (fun x => x.1 != u8 p.params 1 && x.2.addr == u16 p.params 2) = none → exec (.pltSetpointSet) s = .next (ok p (setPoint (u8 p.params 1) (some { addr := u16 p.params 2, lo := signed 32 (u32 p.params 4), hi := signed 32 (u32 p.params 8), rate := u32 p.params 12 }) t))) ∧
  (∀ (s t : State) (p : Packet) (x : Setpoint), Given 0x0A10 p s t → p.params.length = 16 → p.cls ≠ 5 → u8 p.params 0 = 3 → u8 p.params 1 ≤ 31 → t.setpointAt (u8 p.params 1) = some x → exec (.pltSetpointSet) s = .next (ok p (setPoint (u8 p.params 1) none t))) ∧
  (∀ (s : State) (n left : Nat) (x : Setpoint) (y : Int), s.setpointAt n = some x → x.slew = some ⟨y, .runs left false⟩ → left ≤ 1 → s.isOn 23 = true → exec (.setpointLegCommit n) s = .next (commitLeg n s)) ∧
  (∀ (s t : State) (p : Packet), Given 0x0A12 p s t → p.params.length = 4 → u8 p.params 0 = 1 → exec (.pltStop) s = .next (ok p (setStop 1 (u8 p.params 2) 0 t))) ∧
  (∀ (s t : State) (p : Packet), Given 0x0A12 p s t → p.params.length = 4 → p.cls ≠ 5 → u8 p.params 0 = 2 → u8 p.params 1 = 0xA5 → t.stopRefusal = none → exec (.pltStop) s = .next (ok p (releaseStop 0 t))) ∧
  (∀ (s : State), s.isOn 23 = true → exec (.stopCtlAssert) s = .next (setStop 4 0 0 s)) ∧
  (∀ (s : State) (key : Nat), s.isOn 23 = true → key = 0xA5 → s.stopRefusal = none → exec (.stopCtlRelease key) s = .next (releaseStop 1 s)) ∧
  (∀ (s : State) (key : Nat), key % 256 ≠ 0xA5 → exec (.stopCtlRelease key) s = .next (s)) ∧
  (∀ (s t : State) (p : Packet), Given 0x0A11 p s t → p.params.length = 0 → let viol := maskOf ((t.plt.watches.filter fun w => w.2.violating).map (·.1)); let slewing := maskOf ((t.plt.points.filter fun x => x.2.slew.isSome).map (·.1)); let c := t.can; exec (.pltStatus) s = .next (complete p stOk (layout 32 [(0, 1, b2n t.aon.stopLatch + 2 * b2n !t.aon.stopLatch), (1, 1, t.aon.stopCause), (2, 1, c.st), (4, 1, c.tec), (5, 1, c.rec_), (8, 2, viol), (10, 2, t.plt.alert % 65536), (12, 4, c.lost), (16, 4, c.sent), (20, 4, c.received), (24, 4, slewing)] ++ ((List.range 32).map fun n => putLe 4 (match t.setpointAt n with | some x => unsigned 32 (t.coef x.addr) | none => 0)).flatten) t))

/-- For every state of the stated kind: CAN_CFG replaces the configuration; a data frame goes to the first RX buffer that takes it and is new there, and is lost with the event where none can; the frame that won the bus is sent from its buffer or from the carriage; an error count sets the bus state and a change is signalled; a recovery ends in the active state with the counters cleared; the registers set, clear and recover; the read of CAN_RX_LOST clears it; a segment for the node is reassembled, a frame with a carriage identifier is such a segment, and a node that is silent for too long loses its packet with the event. -/
def Obligations.PlantBusComplete : Prop :=
  (∀ (s t : State) (p : Packet), Given 0x0A13 p s t → p.params.length = 16 → (canFields p.params).all (·.2) = true → exec (.canCfg) s = .next (ok p (applyCan (p.params.take 16) t))) ∧
  (∀ (s : State) (ident dlc b : Nat) (ide fdf brs esi : Bool) (data : Bytes), s.canOn = true → fdf = false ∨ s.can.flag 0 = true → s.can.carriage = false → let fits := fun b => (s.can.buf b).mode == 2 && (s.can.buf b).ide == ide && ((s.can.buf b).id &&& (s.can.buf b).mask) == (ident &&& (s.can.buf b).mask); ((List.range 64).filter fits).find? (fun b => !s.can.rxnew.contains b || (s.can.buf b).overOk) = some b → let put := fun (x : CanBuffer) => { x with id := ident % 2 ^ 29, ide := ide, fdf := fdf, brs := brs, esi := esi, dlc := dlc % 16, data := Mem.writeN x.data 0 ((data ++ zeros 64).take (dlcLen fdf dlc)) }; let u := modCan (fun c => { integrated c with received := (c.received + 1) % 2 ^ 32 }) s; exec (.canFrameReceived ident ide fdf brs esi dlc data) s = .next (whenS (s.can.buf b).notify (routePost 6) (modCan (fun c => { c with bufs := tmod {} c.bufs b put, rxnew := nset b c.rxnew }) u))) ∧
  (∀ (s : State) (ident dlc : Nat) (ide fdf brs esi : Bool) (data : Bytes), s.canOn = true → fdf = false ∨ s.can.flag 0 = true → s.can.carriage = false → let fits := fun b => (s.can.buf b).mode == 2 && (s.can.buf b).ide == ide && ((s.can.buf b).id &&& (s.can.buf b).mask) == (ident &&& (s.can.buf b).mask); (List.range 64).any fits = true → ((List.range 64).filter fits).find? (fun b => !s.can.rxnew.contains b || (s.can.buf b).overOk) = none → let recent := (s.can.lostAt.filter fun t => decide (s.us < t + 1000000)) ++ [s.us]; let u := modCan (fun c => { integrated c with received := (c.received + 1) % 2 ^ 32 }) s; exec (.canFrameReceived ident ide fdf brs esi dlc data) s = .next (logLimited 23 0x8004 0 1 1000000 (detail [(20, 4, recent.length)]) (modCan (fun c => { c with lost := min 0xFFFFFFFF (c.lost + 1), lostAt := recent }) u))) ∧
  (∀ (s : State) (ident dlc : Nat) (brs esi : Bool) (data : Bytes), s.canOn = true → s.can.carriage = true → s.transportsUp = true → ident / 2 ^ 21 % 256 = u8 s.can.cfg 3 → ident / 2 ^ 13 % 128 = u8 s.can.cfg 2 → ident % 64 = 0 → ident.testBit 20 = false → let u := modCan (fun c => { integrated c with received := (c.received + 1) % 2 ^ 32 }) s; exec (.canFrameReceived ident true true brs esi dlc data) s = .next (Sys2Proof.Machine.carriageSegment (ident / 64 % 128) (data.take (dlcLen true dlc)) u)) ∧
  (∀ (s : State) (b : Nat), s.canOn = true → s.can.mode = 1 → s.can.offered = some b → b ≠ 64 → let u := modCan (fun c => { integrated c with sent := (c.sent + 1) % 2 ^ 32, resume := none }) s; let x := s.can.buf b; let fd := x.fdf && s.can.flag 0; exec (.canTxDone) s = .next (whenS x.notify (routePost 7) (emit (.canFrame x.id (b2n x.ide + 2 * b2n fd + 4 * b2n (x.brs && x.fdf && s.can.flag 1)) (Mem.readN x.data 0 (dlcLen fd x.dlc))) (modCan (fun c => { c with txreq := nclr b c.txreq }) u)))) ∧
  (∀ (s : State) (tec rec_ : Nat), s.canOn = true → tec ≤ 255 → 128 ≤ tec ∨ 128 ≤ rec_ → (integrated s.can).st = 1 → exec (.canErrorStateChange tec rec_) s = .next (logEvent 23 0x8001 (detail [(16, 1, min 255 tec), (17, 1, min 255 rec_)]) (canChange (modCan (fun c => { c with tec := min 255 tec, rec_ := min 255 rec_, st := 2 }) s)))) ∧
  (∀ (s : State) (tec rec_ : Nat), s.canOn = true → 255 < tec → let st := if s.can.flag 2 then 4 else 3; exec (.canErrorStateChange tec rec_) s = .next (logEvent 23 0x8002 (detail [(16, 1, 255)]) (canChange (modCan (fun c => { c with tec := 255, rec_ := min 255 rec_, st := st, resume := c.offered }) s)))) ∧
  (∀ (s : State) (tec rec_ : Nat), s.canOn = true → tec < 128 → rec_ < 128 → (integrated s.can).st = 1 → exec (.canErrorStateChange tec rec_) s = .next (modCan (fun c => { c with tec := tec, rec_ := rec_, st := 1 }) s)) ∧
  (∀ (s : State), s.can.st = 4 → s.isOn 24 = true → exec (.canRecovered) s = .next (logEvent 23 0x8003 (zeros 16) (canChange (modCan (fun c => { c with st := 1, tec := 0, rec_ := 0 }) s)))) ∧
  (∀ (s : State) (reg value : Nat), s.domLost 24 = false → let bits := (bitsSet 32 value).map (· + 32 * (reg % 2)); let u := modCan (fun c => { c with txreq := bits.foldl (fun l b => nset b l) c.txreq }) s; exec (.canTxreq reg value) s = .next (forEach (bits.filter fun b => (u.can.buf b).stop) (fun b s => setStop 3 0 b s) u)) ∧
  (∀ (s : State) (reg value : Nat), s.domLost 24 = false → let bits := (bitsSet 32 value).map (· + 32 * (reg % 2)); exec (.canTxabort reg value) s = .next (modCan (fun c => { c with txreq := c.txreq.filter fun b => !bits.contains b, resume := if c.resume.any bits.contains then none else c.resume }) s)) ∧
  (∀ (s : State), s.domLost 24 = false → exec (.canRecover) s = .next (modCan (fun c => { c with st := if c.st == 3 then 4 else c.st }) s)) ∧
  (∀ (s : State) (reader : Nat), s.domLost 24 = false → exec (.canRxLostRead reader) s = .next (modCan (fun c => { c with lost := 0 }) (answerRead reader (putLe 4 s.can.lost) s))) ∧
  (∀ (s : State) (src : Nat) (data : Bytes), s.canOn = true → s.can.carriage = true → s.transportsUp = true → exec (.carriageSegment src data) s = .next (Sys2Proof.Machine.carriageSegment (src % 128) data (modCan (fun c => { integrated c with received := (c.received + 1) % 2 ^ 32 }) s))) ∧
  (∀ (s : State) (node : Nat), s.can.parts.any (fun x => x.node == node) = true → exec (.carriageGapTimeout node) s = .next (logEvent 23 0x8005 (detail [(16, 1, node), (17, 1, 1)]) (modCan (fun c => { c with parts := c.parts.filter fun x => x.node != node }) s)))

/-- For every state in which a core issues an instruction that it could fetch: each of the twenty arithmetic, logic, comparison, multiply and shift instructions writes w_D, modulo 2^16, with the value of Table 18-3 from w_A and w_B, N or IMM, moves the PC past its words and takes its cycles. -/
def Obligations.FenuithArithmeticComplete : Prop :=
  (∀ (s : State) (c r t w len : Nat) (i : FenIns), s.issuer c = some (r, t) → let k := s.task r t; let core := s.core c; fenFetch core k.pc = .ok (i, w, len) → i.op = .add → let next := (k.pc + len) % 65536; exec (.fenAdd c) s = .next (fenDone c r 1 (modTask r t (fun _ => { (k.setReg i.d (k.reg i.a + k.reg i.b)) with pc := next }) (modCore c (fun _ => core) s)))) ∧
  (∀ (s : State) (c r t w len : Nat) (i : FenIns), s.issuer c = some (r, t) → let k := s.task r t; let core := s.core c; fenFetch core k.pc = .ok (i, w, len) → i.op = .sub → let next := (k.pc + len) % 65536; exec (.fenSub c) s = .next (fenDone c r 1 (modTask r t (fun _ => { (k.setReg i.d (k.reg i.a + 65536 - k.reg i.b)) with pc := next }) (modCore c (fun _ => core) s)))) ∧
  (∀ (s : State) (c r t w len : Nat) (i : FenIns), s.issuer c = some (r, t) → let k := s.task r t; let core := s.core c; fenFetch core k.pc = .ok (i, w, len) → i.op = .and → let next := (k.pc + len) % 65536; exec (.fenAnd c) s = .next (fenDone c r 1 (modTask r t (fun _ => { (k.setReg i.d (k.reg i.a &&& k.reg i.b)) with pc := next }) (modCore c (fun _ => core) s)))) ∧
  (∀ (s : State) (c r t w len : Nat) (i : FenIns), s.issuer c = some (r, t) → let k := s.task r t; let core := s.core c; fenFetch core k.pc = .ok (i, w, len) → i.op = .or → let next := (k.pc + len) % 65536; exec (.fenOr c) s = .next (fenDone c r 1 (modTask r t (fun _ => { (k.setReg i.d (k.reg i.a ||| k.reg i.b)) with pc := next }) (modCore c (fun _ => core) s)))) ∧
  (∀ (s : State) (c r t w len : Nat) (i : FenIns), s.issuer c = some (r, t) → let k := s.task r t; let core := s.core c; fenFetch core k.pc = .ok (i, w, len) → i.op = .xor → let next := (k.pc + len) % 65536; exec (.fenXor c) s = .next (fenDone c r 1 (modTask r t (fun _ => { (k.setReg i.d (k.reg i.a ^^^ k.reg i.b)) with pc := next }) (modCore c (fun _ => core) s)))) ∧
  (∀ (s : State) (c r t w len : Nat) (i : FenIns), s.issuer c = some (r, t) → let k := s.task r t; let core := s.core c; fenFetch core k.pc = .ok (i, w, len) → i.op = .slt → let next := (k.pc + len) % 65536; exec (.fenSlt c) s = .next (fenDone c r 1 (modTask r t (fun _ => { (k.setReg i.d (b2n (decide (signed 16 (k.reg i.a) < signed 16 (k.reg i.b))))) with pc := next }) (modCore c (fun _ => core) s)))) ∧
  (∀ (s : State) (c r t w len : Nat) (i : FenIns), s.issuer c = some (r, t) → let k := s.task r t; let core := s.core c; fenFetch core k.pc = .ok (i, w, len) → i.op = .sltu → let next := (k.pc + len) % 65536; exec (.fenSltu c) s = .next (fenDone c r 1 (modTask r t (fun _ => { (k.setReg i.d (b2n (decide (k.reg i.a < k.reg i.b)))) with pc := next }) (modCore c (fun _ => core) s)))) ∧
  (∀ (s : State) (c r t w len : Nat) (i : FenIns), s.issuer c = some (r, t) → let k := s.task r t; let core := s.core c; fenFetch core k.pc = .ok (i, w, len) → i.op = .mul → let next := (k.pc + len) % 65536; exec (.fenMul c) s = .next (fenDone c r 1 (modTask r t (fun _ => { (k.setReg i.d (k.reg i.a * k.reg i.b)) with pc := next }) (modCore c (fun _ => core) s)))) ∧
  (∀ (s : State) (c r t w len : Nat) (i : FenIns), s.issuer c = some (r, t) → let k := s.task r t; let core := s.core c; fenFetch core k.pc = .ok (i, w, len) → i.op = .mulhu → let next := (k.pc + len) % 65536; exec (.fenMulhu c) s = .next (fenDone c r 1 (modTask r t (fun _ => { (k.setReg i.d (k.reg i.a * k.reg i.b / 65536)) with pc := next }) (modCore c (fun _ => core) s)))) ∧
  (∀ (s : State) (c r t w len : Nat) (i : FenIns), s.issuer c = some (r, t) → let k := s.task r t; let core := s.core c; fenFetch core k.pc = .ok (i, w, len) → i.op = .shli → let next := (k.pc + len) % 65536; exec (.fenShli c) s = .next (fenDone c r 1 (modTask r t (fun _ => { (k.setReg i.d (k.reg i.a * 2 ^ i.b)) with pc := next }) (modCore c (fun _ => core) s)))) ∧
  (∀ (s : State) (c r t w len : Nat) (i : FenIns), s.issuer c = some (r, t) → let k := s.task r t; let core := s.core c; fenFetch core k.pc = .ok (i, w, len) → i.op = .shri → let next := (k.pc + len) % 65536; exec (.fenShri c) s = .next (fenDone c r 1 (modTask r t (fun _ => { (k.setReg i.d (k.reg i.a / 2 ^ i.b)) with pc := next }) (modCore c (fun _ => core) s)))) ∧
  (∀ (s : State) (c r t w len : Nat) (i : FenIns), s.issuer c = some (r, t) → let k := s.task r t; let core := s.core c; fenFetch core k.pc = .ok (i, w, len) → i.op = .sari → let next := (k.pc + len) % 65536; exec (.fenSari c) s = .next (fenDone c r 1 (modTask r t (fun _ => { (k.setReg i.d (unsigned 16 (signed 16 (k.reg i.a) / (2 ^ i.b : Nat)))) with pc := next }) (modCore c (fun _ => core) s)))) ∧
  (∀ (s : State) (c r t w len : Nat) (i : FenIns), s.issuer c = some (r, t) → let k := s.task r t; let core := s.core c; fenFetch core k.pc = .ok (i, w, len) → i.op = .not → let next := (k.pc + len) % 65536; exec (.fenNot c) s = .next (fenDone c r 1 (modTask r t (fun _ => { (k.setReg i.d (65535 - k.reg i.a)) with pc := next }) (modCore c (fun _ => core) s)))) ∧
  (∀ (s : State) (c r t w len : Nat) (i : FenIns), s.issuer c = some (r, t) → let k := s.task r t; let core := s.core c; fenFetch core k.pc = .ok (i, w, len) → i.op = .neg → let next := (k.pc + len) % 65536; exec (.fenNeg c) s = .next (fenDone c r 1 (modTask r t (fun _ => { (k.setReg i.d (65536 - k.reg i.a)) with pc := next }) (modCore c (fun _ => core) s)))) ∧
  (∀ (s : State) (c r t w len : Nat) (i : FenIns), s.issuer c = some (r, t) → let k := s.task r t; let core := s.core c; fenFetch core k.pc = .ok (i, w, len) → i.op = .addi → let next := (k.pc + len) % 65536; exec (.fenAddi c) s = .next (fenDone c r 2 (modTask r t (fun _ => { (k.setReg i.d (k.reg i.a + i.imm)) with pc := next }) (modCore c (fun _ => core) s)))) ∧
  (∀ (s : State) (c r t w len : Nat) (i : FenIns), s.issuer c = some (r, t) → let k := s.task r t; let core := s.core c; fenFetch core k.pc = .ok (i, w, len) → i.op = .andi → let next := (k.pc + len) % 65536; exec (.fenAndi c) s = .next (fenDone c r 2 (modTask r t (fun _ => { (k.setReg i.d (k.reg i.a &&& i.imm)) with pc := next }) (modCore c (fun _ => core) s)))) ∧
  (∀ (s : State) (c r t w len : Nat) (i : FenIns), s.issuer c = some (r, t) → let k := s.task r t; let core := s.core c; fenFetch core k.pc = .ok (i, w, len) → i.op = .ori → let next := (k.pc + len) % 65536; exec (.fenOri c) s = .next (fenDone c r 2 (modTask r t (fun _ => { (k.setReg i.d (k.reg i.a ||| i.imm)) with pc := next }) (modCore c (fun _ => core) s)))) ∧
  (∀ (s : State) (c r t w len : Nat) (i : FenIns), s.issuer c = some (r, t) → let k := s.task r t; let core := s.core c; fenFetch core k.pc = .ok (i, w, len) → i.op = .xori → let next := (k.pc + len) % 65536; exec (.fenXori c) s = .next (fenDone c r 2 (modTask r t (fun _ => { (k.setReg i.d (k.reg i.a ^^^ i.imm)) with pc := next }) (modCore c (fun _ => core) s)))) ∧
  (∀ (s : State) (c r t w len : Nat) (i : FenIns), s.issuer c = some (r, t) → let k := s.task r t; let core := s.core c; fenFetch core k.pc = .ok (i, w, len) → i.op = .slti → let next := (k.pc + len) % 65536; exec (.fenSlti c) s = .next (fenDone c r 2 (modTask r t (fun _ => { (k.setReg i.d (b2n (decide (signed 16 (k.reg i.a) < signed 16 i.imm)))) with pc := next }) (modCore c (fun _ => core) s)))) ∧
  (∀ (s : State) (c r t w len : Nat) (i : FenIns), s.issuer c = some (r, t) → let k := s.task r t; let core := s.core c; fenFetch core k.pc = .ok (i, w, len) → i.op = .sltiu → let next := (k.pc + len) % 65536; exec (.fenSltiu c) s = .next (fenDone c r 2 (modTask r t (fun _ => { (k.setReg i.d (b2n (decide (k.reg i.a < i.imm)))) with pc := next }) (modCore c (fun _ => core) s))))

/-- For every state in which a core issues an instruction that it could fetch: each branch goes to TARGET where its condition holds and past itself where it does not; JR, JMP, CALL and CALLR jump, the calls pushing the address of the next instruction; RET, PUSH and POP act on the return stack or on memory at w15 as the stack mode says, PUSH and POP raising ILLEGAL in register-stack mode; YIELD, WAIT, EXIT and TRAP hand the core back. -/
def Obligations.FenuithControlComplete : Prop :=
  (∀ (s : State) (c r t w len : Nat) (i : FenIns), s.issuer c = some (r, t) → let k := s.task r t; let core := s.core c; fenFetch core k.pc = .ok (i, w, len) → i.op = .branch 0 → let next := (k.pc + len) % 65536; exec (.fenBeq c) s = .next (if k.reg i.a = k.reg i.b then fenDone c r 3 (modTask r t (fun _ => { k with pc := i.imm }) (modCore c (fun _ => core) s)) else fenDone c r 2 (modTask r t (fun _ => { k with pc := next }) (modCore c (fun _ => core) s)))) ∧
  (∀ (s : State) (c r t w len : Nat) (i : FenIns), s.issuer c = some (r, t) → let k := s.task r t; let core := s.core c; fenFetch core k.pc = .ok (i, w, len) → i.op = .branch 1 → let next := (k.pc + len) % 65536; exec (.fenBne c) s = .next (if k.reg i.a ≠ k.reg i.b then fenDone c r 3 (modTask r t (fun _ => { k with pc := i.imm }) (modCore c (fun _ => core) s)) else fenDone c r 2 (modTask r t (fun _ => { k with pc := next }) (modCore c (fun _ => core) s)))) ∧
  (∀ (s : State) (c r t w len : Nat) (i : FenIns), s.issuer c = some (r, t) → let k := s.task r t; let core := s.core c; fenFetch core k.pc = .ok (i, w, len) → i.op = .branch 2 → let next := (k.pc + len) % 65536; exec (.fenBlt c) s = .next (if signed 16 (k.reg i.a) < signed 16 (k.reg i.b) then fenDone c r 3 (modTask r t (fun _ => { k with pc := i.imm }) (modCore c (fun _ => core) s)) else fenDone c r 2 (modTask r t (fun _ => { k with pc := next }) (modCore c (fun _ => core) s)))) ∧
  (∀ (s : State) (c r t w len : Nat) (i : FenIns), s.issuer c = some (r, t) → let k := s.task r t; let core := s.core c; fenFetch core k.pc = .ok (i, w, len) → i.op = .branch 3 → let next := (k.pc + len) % 65536; exec (.fenBge c) s = .next (if signed 16 (k.reg i.a) ≥ signed 16 (k.reg i.b) then fenDone c r 3 (modTask r t (fun _ => { k with pc := i.imm }) (modCore c (fun _ => core) s)) else fenDone c r 2 (modTask r t (fun _ => { k with pc := next }) (modCore c (fun _ => core) s)))) ∧
  (∀ (s : State) (c r t w len : Nat) (i : FenIns), s.issuer c = some (r, t) → let k := s.task r t; let core := s.core c; fenFetch core k.pc = .ok (i, w, len) → i.op = .branch 4 → let next := (k.pc + len) % 65536; exec (.fenBltu c) s = .next (if k.reg i.a < k.reg i.b then fenDone c r 3 (modTask r t (fun _ => { k with pc := i.imm }) (modCore c (fun _ => core) s)) else fenDone c r 2 (modTask r t (fun _ => { k with pc := next }) (modCore c (fun _ => core) s)))) ∧
  (∀ (s : State) (c r t w len : Nat) (i : FenIns), s.issuer c = some (r, t) → let k := s.task r t; let core := s.core c; fenFetch core k.pc = .ok (i, w, len) → i.op = .branch 5 → let next := (k.pc + len) % 65536; exec (.fenBgeu c) s = .next (if k.reg i.a ≥ k.reg i.b then fenDone c r 3 (modTask r t (fun _ => { k with pc := i.imm }) (modCore c (fun _ => core) s)) else fenDone c r 2 (modTask r t (fun _ => { k with pc := next }) (modCore c (fun _ => core) s)))) ∧
  (∀ (s : State) (c r t w len : Nat) (i : FenIns), s.issuer c = some (r, t) → let k := s.task r t; let core := s.core c; fenFetch core k.pc = .ok (i, w, len) → i.op = .jr → exec (.fenJr c) s = .next (fenDone c r 2 (modTask r t (fun _ => { k with pc := k.reg i.a }) (modCore c (fun _ => core) s)))) ∧
  (∀ (s : State) (c r t w len : Nat) (i : FenIns), s.issuer c = some (r, t) → let k := s.task r t; let core := s.core c; fenFetch core k.pc = .ok (i, w, len) → i.op = .jmp → exec (.fenJmp c) s = .next (fenDone c r 3 (modTask r t (fun _ => { k with pc := i.imm }) (modCore c (fun _ => core) s)))) ∧
  (∀ (s : State) (c r t w len : Nat) (i : FenIns), s.issuer c = some (r, t) → let k := s.task r t; let core := s.core c; fenFetch core k.pc = .ok (i, w, len) → i.op = .callr → let next := (k.pc + len) % 65536; k.sm = false → k.ovf = false ∨ k.rsc ≠ 16 → exec (.fenCallr c) s = .next (fenDone c r 2 (modTask r t (fun _ => { k with pc := k.reg i.a, stack := tput 0 k.stack k.rsp next, rsp := (k.rsp + 1) % 16, rsc := min (k.rsc + 1) 16 }) (modCore c (fun _ => core) s)))) ∧
  (∀ (s : State) (c r t w len : Nat) (i : FenIns), s.issuer c = some (r, t) → let k := s.task r t; let core := s.core c; fenFetch core k.pc = .ok (i, w, len) → i.op = .callr → let next := (k.pc + len) % 65536; k.sm = true → k.ovf = false ∨ k.slim < k.reg 15 → let q := (k.reg 15 + 65535) % 65536; exec (.fenCallr c) s = .next (fenDone c r 3 (modTask r t (fun _ => { (k.setReg 15 q) with pc := k.reg i.a }) (modCore c (fun _ => { core with data := tput 0 core.data q next, dataBad := nclr q core.dataBad }) s)))) ∧
  (∀ (s : State) (c r t w len : Nat) (i : FenIns), s.issuer c = some (r, t) → let k := s.task r t; let core := s.core c; fenFetch core k.pc = .ok (i, w, len) → i.op = .call → let next := (k.pc + len) % 65536; k.sm = false → k.ovf = false ∨ k.rsc ≠ 16 → exec (.fenCall c) s = .next (fenDone c r 3 (modTask r t (fun _ => { k with pc := i.imm, stack := tput 0 k.stack k.rsp next, rsp := (k.rsp + 1) % 16, rsc := min (k.rsc + 1) 16 }) (modCore c (fun _ => core) s)))) ∧
  (∀ (s : State) (c r t w len : Nat) (i : FenIns), s.issuer c = some (r, t) → let k := s.task r t; let core := s.core c; fenFetch core k.pc = .ok (i, w, len) → i.op = .call → let next := (k.pc + len) % 65536; k.sm = true → k.ovf = false ∨ k.slim < k.reg 15 → let q := (k.reg 15 + 65535) % 65536; exec (.fenCall c) s = .next (fenDone c r 4 (modTask r t (fun _ => { (k.setReg 15 q) with pc := i.imm }) (modCore c (fun _ => { core with data := tput 0 core.data q next, dataBad := nclr q core.dataBad }) s)))) ∧
  (∀ (s : State) (c r t w len : Nat) (i : FenIns), s.issuer c = some (r, t) → let k := s.task r t; let core := s.core c; fenFetch core k.pc = .ok (i, w, len) → i.op = .ret → k.sm = false → k.ovf = false ∨ k.rsc ≠ 0 → let q := (k.rsp + 15) % 16; exec (.fenRet c) s = .next (fenDone c r 2 (modTask r t (fun _ => { k with pc := tget 0 k.stack q, rsp := q, rsc := k.rsc - 1 }) (modCore c (fun _ => core) s)))) ∧
  (∀ (s : State) (c r t w len : Nat) (i : FenIns), s.issuer c = some (r, t) → let k := s.task r t; let core := s.core c; fenFetch core k.pc = .ok (i, w, len) → i.op = .ret → k.sm = true → core.dataBad.contains (k.reg 15) = false → exec (.fenRet c) s = .next (fenDone c r 3 (modTask r t (fun _ => { (k.setReg 15 ((k.reg 15 + 1) % 65536)) with pc := tget 0 core.data (k.reg 15) }) (modCore c (fun _ => core) s)))) ∧
  (∀ (s : State) (c r t w len : Nat) (i : FenIns), s.issuer c = some (r, t) → let k := s.task r t; let core := s.core c; fenFetch core k.pc = .ok (i, w, len) → i.op = .push → let next := (k.pc + len) % 65536; k.sm = true → k.ovf = false ∨ k.slim < k.reg 15 → let q := (k.reg 15 + 65535) % 65536; exec (.fenPush c) s = .next (fenDone c r 2 (modTask r t (fun _ => { (k.setReg 15 q) with pc := next }) (modCore c (fun _ => { core with data := tput 0 core.data q (k.reg i.a), dataBad := nclr q core.dataBad }) s)))) ∧
  (∀ (s : State) (c r t w len : Nat) (i : FenIns), s.issuer c = some (r, t) → let k := s.task r t; let core := s.core c; fenFetch core k.pc = .ok (i, w, len) → i.op = .push → k.sm = false → exec (.fenPush c) s = .next (exception c r t 1 w s)) ∧
  (∀ (s : State) (c r t w len : Nat) (i : FenIns), s.issuer c = some (r, t) → let k := s.task r t; let core := s.core c; fenFetch core k.pc = .ok (i, w, len) → i.op = .pop → let next := (k.pc + len) % 65536; k.sm = true → core.dataBad.contains (k.reg 15) = false → exec (.fenPop c) s = .next (fenDone c r 2 (modTask r t (fun _ => { ((k.setReg 15 ((k.reg 15 + 1) % 65536)).setReg i.d (tget 0 core.data (k.reg 15))) with pc := next }) (modCore c (fun _ => core) s)))) ∧
  (∀ (s : State) (c r t w len : Nat) (i : FenIns), s.issuer c = some (r, t) → let k := s.task r t; let core := s.core c; fenFetch core k.pc = .ok (i, w, len) → i.op = .pop → k.sm = false → exec (.fenPop c) s = .next (exception c r t 1 w s)) ∧
  (∀ (s : State) (c r t w len : Nat) (i : FenIns), s.issuer c = some (r, t) → let k := s.task r t; let core := s.core c; fenFetch core k.pc = .ok (i, w, len) → i.op = .yield → let next := (k.pc + len) % 65536; exec (.fenYield c) s = .next (fenDone c r 1 (modRole r (fun x => x.ready t false) (modTask r t (fun k => { k with pc := next }) s)))) ∧
  (∀ (s : State) (c r t w len : Nat) (i : FenIns), s.issuer c = some (r, t) → let k := s.task r t; let core := s.core c; fenFetch core k.pc = .ok (i, w, len) → i.op = .wait → let next := (k.pc + len) % 65536; k.reg i.a ≠ 0 → k.pending &&& k.reg i.a = 0 → exec (.fenWait c) s = .next (fenDone c r 1 (modRole r (fun x => { x with running := none }) (modTask r t (fun k => { k with st := 3, mask := k.reg i.a, wreg := i.a }) (modTask r t (fun k => { k with pc := next }) s))))) ∧
  (∀ (s : State) (c r t w len : Nat) (i : FenIns), s.issuer c = some (r, t) → let k := s.task r t; let core := s.core c; fenFetch core k.pc = .ok (i, w, len) → i.op = .wait → let next := (k.pc + len) % 65536; k.pending &&& k.reg i.a ≠ 0 → exec (.fenWait c) s = .next (fenDone c r 1 (modTask r t (fun x => { (x.setReg i.a (k.pending &&& k.reg i.a)) with pending := x.pending - (k.pending &&& k.reg i.a) }) (modTask r t (fun k => { k with pc := next }) s)))) ∧
  (∀ (s : State) (c r t w len : Nat) (i : FenIns), s.issuer c = some (r, t) → let k := s.task r t; let core := s.core c; fenFetch core k.pc = .ok (i, w, len) → i.op = .wait → let next := (k.pc + len) % 65536; k.reg i.a = 0 → exec (.fenWait c) s = .next (fenDone c r 1 (modRole r (fun x => x.ready t false) (modTask r t (fun k => { k with pc := next }) s)))) ∧
  (∀ (s : State) (c r t w len : Nat) (i : FenIns), s.issuer c = some (r, t) → let k := s.task r t; let core := s.core c; fenFetch core k.pc = .ok (i, w, len) → i.op = .exit → let next := (k.pc + len) % 65536; exec (.fenExit c) s = .next (fenDone c r 1 (park r t stOk (modTask r t (fun k => { k with pc := next }) s)))) ∧
  (∀ (s : State) (c r t w len : Nat) (i : FenIns), s.issuer c = some (r, t) → let k := s.task r t; let core := s.core c; fenFetch core k.pc = .ok (i, w, len) → i.op = .trap → exec (.fenTrap c) s = .next (exception c r t 6 i.d s))

/-- For every state in which a core issues an instruction that it could fetch: LD, ST and LDP read and write the word at w_A + IMM modulo 2^16, LDP in code space; XLD and XST with an even D issue a device access at the window's base plus four times the offset; RDL reads a warden-local register, WRL writes LR_SLIM or a window base, and both raise ILLEGAL for a register that is not listed or not writable. -/
def Obligations.FenuithMemoryComplete : Prop :=
  (∀ (s : State) (c r t w len : Nat) (i : FenIns), s.issuer c = some (r, t) → let k := s.task r t; let core := s.core c; fenFetch core k.pc = .ok (i, w, len) → i.op = .ld → let next := (k.pc + len) % 65536; let a := (k.reg i.a + i.imm) % 65536; core.dataBad.contains a = false → exec (.fenLd c) s = .next (fenDone c r 3 (modTask r t (fun _ => { (k.setReg i.d (tget 0 core.data a)) with pc := next }) (modCore c (fun _ => core) s)))) ∧
  (∀ (s : State) (c r t w len : Nat) (i : FenIns), s.issuer c = some (r, t) → let k := s.task r t; let core := s.core c; fenFetch core k.pc = .ok (i, w, len) → i.op = .st → let next := (k.pc + len) % 65536; let a := (k.reg i.a + i.imm) % 65536; exec (.fenSt c) s = .next (fenDone c r 2 (modTask r t (fun _ => { k with pc := next }) (modCore c (fun _ => { core with data := tput 0 core.data a (k.reg i.d), dataBad := nclr a core.dataBad }) s)))) ∧
  (∀ (s : State) (c r t w len : Nat) (i : FenIns), s.issuer c = some (r, t) → let k := s.task r t; let core := s.core c; fenFetch core k.pc = .ok (i, w, len) → i.op = .ldp → let next := (k.pc + len) % 65536; let a := (k.reg i.a + i.imm) % 65536; core.codeBad.contains a = false → exec (.fenLdp c) s = .next (fenDone c r 3 (modTask r t (fun _ => { (k.setReg i.d (tget 0 core.code a)) with pc := next }) (modCore c (fun _ => core) s)))) ∧
  (∀ (s : State) (c r t w len : Nat) (i : FenIns), s.issuer c = some (r, t) → let k := s.task r t; let core := s.core c; fenFetch core k.pc = .ok (i, w, len) → i.op = .xld → i.d % 2 = 0 → let n := i.imm / 8192; let a := tget 0 core.win (2 * n) * 2 ^ 16 + tget 0 core.win (2 * n + 1) * 2 ^ 32 + 4 * ((k.reg i.a + i.imm % 8192) % 65536); let v := k.reg i.d + k.reg (i.d + 1) * 65536; exec (.fenXld c) s = .next (emit (.deviceAccess c a false 0) (modCore c (fun x => { x with access := some ⟨t, a, false, i.d, v⟩ }) s))) ∧
  (∀ (s : State) (c r t w len : Nat) (i : FenIns), s.issuer c = some (r, t) → let k := s.task r t; let core := s.core c; fenFetch core k.pc = .ok (i, w, len) → i.op = .xst → i.d % 2 = 0 → let n := i.imm / 8192; let a := tget 0 core.win (2 * n) * 2 ^ 16 + tget 0 core.win (2 * n + 1) * 2 ^ 32 + 4 * ((k.reg i.a + i.imm % 8192) % 65536); let v := k.reg i.d + k.reg (i.d + 1) * 65536; exec (.fenXst c) s = .next (emit (.deviceAccess c a true v) (modCore c (fun x => { x with access := some ⟨t, a, true, i.d, v⟩ }) s))) ∧
  (∀ (s : State) (c r t w len : Nat) (i : FenIns) (v : Nat) (q : WdCore), s.issuer c = some (r, t) → let k := s.task r t; let core := s.core c; fenFetch core k.pc = .ok (i, w, len) → i.op = .rdl → let next := (k.pc + len) % 65536; fenLocal c t i.imm (s.wdCycles c) k core = some (v, q) → exec (.fenRdl c) s = .next (fenDone c r 2 (modTask r t (fun _ => { (k.setReg i.d (v)) with pc := next }) (modCore c (fun _ => q) s)))) ∧
  (∀ (s : State) (c r t w len : Nat) (i : FenIns), s.issuer c = some (r, t) → let k := s.task r t; let core := s.core c; fenFetch core k.pc = .ok (i, w, len) → i.op = .rdl → fenLocal c t i.imm (s.wdCycles c) k core = none → exec (.fenRdl c) s = .next (exception c r t 1 w s)) ∧
  (∀ (s : State) (c r t w len : Nat) (i : FenIns), s.issuer c = some (r, t) → let k := s.task r t; let core := s.core c; fenFetch core k.pc = .ok (i, w, len) → i.op = .wrl → let next := (k.pc + len) % 65536; i.imm = 0x011 → exec (.fenWrl c) s = .next (fenDone c r 2 (modTask r t (fun _ => { k with slim := k.reg i.a, pc := next }) (modCore c (fun _ => core) s)))) ∧
  (∀ (s : State) (c r t w len : Nat) (i : FenIns), s.issuer c = some (r, t) → let k := s.task r t; let core := s.core c; fenFetch core k.pc = .ok (i, w, len) → i.op = .wrl → let next := (k.pc + len) % 65536; inR i.imm 0x20 0x2F = true → exec (.fenWrl c) s = .next (fenDone c r 2 (modTask r t (fun _ => { k with pc := next }) (modCore c (fun _ => { core with win := tput 0 core.win (i.imm - 0x20) (k.reg i.a) }) s)))) ∧
  (∀ (s : State) (c r t w len : Nat) (i : FenIns), s.issuer c = some (r, t) → let k := s.task r t; let core := s.core c; fenFetch core k.pc = .ok (i, w, len) → i.op = .wrl → i.imm ≠ 0x011 → inR i.imm 0x20 0x2F = false → exec (.fenWrl c) s = .next (exception c r t 1 w s))

/-- For every state of the stated kind: a slice that ends lets the role choose again; a post sets the pending bit of a live slot and wakes a task that waits for it, and is counted as dropped otherwise; a create fills a slot that is not live, and answers BUSY for one that is; a cancel parks the task with CANCELLED; WDN_EVPOST posts; the kick restarts the watchdog's period; the read of WDN_EVDROP clears it; a timer is armed for COUNT microseconds and its expiry posts its bit, a periodic one being armed again; a lock that is not HELD is acquired, an ORPHANED one with ORPHAN; its holder frees it and another's release is recorded. -/
def Obligations.WardenRuntimeComplete : Prop :=
  (∀ (s : State) (core r : Nat), s.roleOn core = some r → (s.role r).running.isSome = true → exec (.timeSliceExpiry core) s = .next (sched r (modRole r (fun x => { x with ran := if x.running.isSome then max x.ran 10000 else x.ran }) s))) ∧
  (∀ (s : State) (role task bit : Nat), role ≤ 3 → task ≤ 31 → bit ≤ 15 → (s.task role task).live = false → exec (.eventPost role task bit) s = .next (modRole role (fun x => { x with evdrop := min 0xFFFFFFFF (x.evdrop + 1) }) s)) ∧
  (∀ (s : State) (role task bit : Nat), role ≤ 3 → task ≤ 31 → bit ≤ 15 → let k := s.task role task; k.st = 3 → k.mask &&& 2 ^ bit ≠ 0 → let all := k.pending ||| 2 ^ bit; let u := modRole role (fun x => { x with timers := tmodAll {} x.timers (x.timers.map (·.1)) fun _ m => if m.mode == 1 && m.due.isSome && m.task == task && m.guard.testBit bit then { m with due := none } else m }) s; exec (.eventPost role task bit) s = .next (sched role (modRole role (fun x => x.ready task false) (modTask role task (fun k => { k.setReg k.wreg (all &&& k.mask) with pending := all - (all &&& k.mask), mask := 0 }) u)))) ∧
  (∀ (s : State) (role task bit : Nat), role ≤ 3 → task ≤ 31 → bit ≤ 15 → inR (s.task role task).st 1 2 = true → let all := (s.task role task).pending ||| 2 ^ bit; let u := modRole role (fun x => { x with timers := tmodAll {} x.timers (x.timers.map (·.1)) fun _ m => if m.mode == 1 && m.due.isSome && m.task == task && m.guard.testBit bit then { m with due := none } else m }) s; exec (.eventPost role task bit) s = .next (modTask role task (fun k => { k with pending := all }) u)) ∧
  (∀ (s : State) (core r role task prio : Nat) (sm ovf : Bool), s.roleOn core = some r → (s.role r).tcDone = true → role ≤ 3 → task ≤ 31 → prio ≤ 7 → (s.task role task).live = false → let x := s.role r; exec (.taskCreate core role task prio sm ovf) s = .next (tcDone r stOk (startTask role task (freshTask (x.tcArg % 65536) (x.tcArg / 65536 % 65536) x.tcSlim prio sm ovf (s.task role task).epoch) s))) ∧
  (∀ (s : State) (core r role task prio : Nat) (sm ovf : Bool), s.roleOn core = some r → (s.role r).tcDone = true → role ≤ 3 → task ≤ 31 → prio ≤ 7 → (s.task role task).live = true → exec (.taskCreate core role task prio sm ovf) s = .next (tcDone r stBusy s)) ∧
  (∀ (s : State) (core r role task : Nat), s.roleOn core = some r → (s.role r).tcDone = true → role ≤ 3 → 1 ≤ task → task ≤ 31 → (s.task role task).live = true → (s.task role task).st ≠ 2 ∨ s.inAccess role = false → exec (.taskCancel core role task) s = .next (sched role (tcDone r stOk (park role task stCancelled s)))) ∧
  (∀ (s : State) (core r role task : Nat), s.roleOn core = some r → (s.role r).tcDone = true → task = 0 → exec (.taskCancel core role task) s = .next (tcDone r stDenied s)) ∧
  (∀ (s : State) (core r role task bit : Nat), s.roleOn core = some r → role ≤ 3 → task ≤ 31 → bit ≤ 15 → bit ≠ 15 ∨ task ≠ 0 → exec (.wdnEvpost core role task bit) s = .next (postBit role task bit s)) ∧
  (∀ (s : State) (core r : Nat) (d : RoleDesc), s.roleOn core = some r → (s.role r).desc = some d → (s.coreOf r).isSome = true → exec (.wdnWdogKick core) s = .next (modRole r (fun x => { x with wdDue := some (s.us + 1000 * d.wdogMs) }) s)) ∧
  (∀ (s : State) (core r : Nat), s.roleOn core = some r → exec (.wdnEvdropRead core) s = .next (modRole r (fun x => { x with evdrop := 0 }) (answerRead (16 + core) (putLe 4 (s.role r).evdrop) s))) ∧
  (∀ (s : State) (core r timer value : Nat), s.roleOn core = some r → timer ≤ 15 → inR (value % 4) 1 2 = true → (tget {} (s.role r).timers timer).count ≠ 0 → exec (.timerArm core timer value) s = .next (modRole r (fun x => { x with timers := tmod {} x.timers timer fun m => { m with mode := value % 4, task := bitsOf value 8 4, bit := bitsOf value 15 12, guard := bitsOf value 31 16, due := some (s.us + m.count) } }) s)) ∧
  (∀ (s : State) (core r timer value : Nat), s.roleOn core = some r → timer ≤ 15 → value % 4 = 0 → exec (.timerArm core timer value) s = .next (modRole r (fun x => { x with timers := tmod {} x.timers timer fun m => { m with mode := 0, task := bitsOf value 8 4, bit := bitsOf value 15 12, guard := bitsOf value 31 16, due := none } }) s)) ∧
  (∀ (s : State) (role timer d : Nat), role ≤ 3 → timer ≤ 15 → let m := tget {} (s.role role).timers timer; m.due = some d → exec (.timerExpiry role timer) s = .next (postBit role m.task m.bit (modRole role (fun x => { x with timers := tmod {} x.timers timer fun y => { y with due := if m.mode = 2 then some (d + m.count) else none } }) s))) ∧
  (∀ (s : State) (reader n h : Nat), s.holderOf reader = some h → n ≤ 63 → (s.lock n).st ≠ 1 → exec (.lckAcq reader n) s = .next (answerRead reader (putLe 4 ((if (s.lock n).st = 2 then stOrphan else stOk) + 32768 + h * 65536)) (setLock n ⟨1, h, s.holderEpoch h⟩ s))) ∧
  (∀ (s : State) (reader n h : Nat), s.holderOf reader = some h → n ≤ 63 → (s.lock n).st = 1 → exec (.lckAcq reader n) s = .next (answerRead reader (putLe 4 ((if (s.lock n).holder = h then stNote + 32768 else stBusy) + (s.lock n).holder * 65536)) s)) ∧
  (∀ (s : State) (reader n h : Nat), s.holderOf reader = some h → n ≤ 63 → (s.lock n).st = 1 → (s.lock n).holder = h → exec (.lckRel reader n) s = .next (setLock n { s.lock n with st := 0, holder := 0 } s)) ∧
  (∀ (s : State) (reader n h : Nat), s.holderOf reader = some h → n ≤ 63 → (s.lock n).st ≠ 1 ∨ (s.lock n).holder ≠ h → exec (.lckRel reader n) s = .next (logLimited 19 0x8002 n 1 1000 (detail [(16, 1, n), (18, 2, h), (20, 2, (s.lock n).holder)]) s))

/-- For every state of the stated kind: a runt is counted and discarded; an intact pause frame is registered; any other intact frame without a SecY takes buffers and enters the switch with its verdict, or is counted as dropped when there are none; a pause time that runs out ends the pause of its class; pause frames are generated when entries cross their thresholds and refreshed while they stay above XON; the egress point's turn sends its frame; a negotiation that succeeds brings the port up with what it agreed, one that fails is recorded; a port that waits can restart; a change of the link moves the port; LLDP sends its frame; the port commands set the mode, answer the status and set the pause. -/
def Obligations.PortsComplete : Prop :=
  (∀ (s : State) (p : Nat) (bytes : Bytes) (phyErr : Bool) (fec : Nat × Nat), s.portOpen p = true → bytes.length < 64 → exec (.frameReceived p bytes phyErr fec) s = .next (countEv 1 p 1 1 (wireIn p bytes.length fec s))) ∧
  (∀ (s : State) (p : Nat) (bytes : Bytes) (fec : Nat × Nat), s.portOpen p = true → 64 ≤ bytes.length → bytes.length ≤ (s.port p).maxFrame → let body := bytes.take (bytes.length - 4); u32 bytes (bytes.length - 4) = (fcs body).toNat → beAt body 12 2 = 0x8808 → exec (.frameReceived p bytes false fec) s = .next (registerPause p body (countEv 1 p 4 1 (wireIn p bytes.length fec s)))) ∧
  (∀ (s v : State) (p : Nat) (bytes : Bytes) (hs : List Nat) (fec : Nat × Nat), s.portOpen p = true → 64 ≤ bytes.length → bytes.length ≤ (s.port p).maxFrame → let body := bytes.take (bytes.length - 4); u32 bytes (bytes.length - 4) = (fcs body).toNat → beAt body 12 2 ≠ 0x8808 → let u := countEv 1 p 0 1 (wireIn p bytes.length fec s); macsecArrive u (u.portVp p) body = .pass → ingressBuffers bytes (s.port p).maxFrame u = some (hs, false, v) → let q := parse body; q.ver ≠ 0 → q.total + 4 ≤ bytes.length ∧ bytes.length ≤ max 64 (q.total + 4) → q.ether ≠ 0x88CC → let w := countEv 1 p 6 bytes.length v; let vp := w.portVp p; let n := newId w; exec (.frameReceived p bytes false fec) s = .next (portEnter { id := n.1, bytes := body, inVp := vp, tc := n.2.classIn vp body, bufs := hs, arrival := some (p, (q.tags.head?.map fun t => t.2 / 8192).getD 0) } 0 false none n.2)) ∧
  (∀ (s : State) (p cls : Nat), exec (.pauseTimeExpiry p cls) s = .next (modPort p (fun x => { x with paused := nclr cls x.paused }) s)) ∧
  (∀ (s : State) (p : Nat), pauseNeeds s p ≠ [] → s.portUp p = true → let needs := pauseNeeds s p; let sent := needs.foldl (fun l e => if e.2 == 0 then nclr e.1 l else nset e.1 l) (s.port p).xoffSent; exec (.pauseGeneration p) s = .next (sendPause p ((s.port p).pauseNow == 2) needs (modPort p (fun x => { x with xoffSent := sent }) s))) ∧
  (∀ (s : State) (p : Nat), let x := s.port p; let due := (x.xoffSent.filter fun e => decide (x.xon.getD e 0 * 1024 < s.entryOcc p e)).map fun e => (e, x.quanta); due ≠ [] → s.portUp p = true → exec (.pauseRefresh p) s = .next (sendPause p (x.pauseNow == 2) due s)) ∧
  (∀ (s t : State) (k : Nat) (i : QItem) (f : Frame), inR k 0x48 0x4F = true → let p := k - 0x48; s.portUp p = true → (s.port p).park ≤ 1 → (s.port p).paused = [] → (s.point k).serving = [] → popItem k [] s = some (i, t) → i.job = .send f → t.aggOf p = none → (sendMac p f.bytes false (cadRelease f.bufs t)).aggOf p = none → exec (.frameTransmit k) s = .next (sendMac p f.bytes false (cadRelease f.bufs t))) ∧
  (∀ (s : State) (p fec : Nat) (pause eee : Bool), (s.port p).st = 2 → (s.port p).an = true → exec (.anComplete p 0 fec pause eee) s = .next (setPort p 3 0 (modPort p (fun x => { x with partnerPause := pause, eeeAble := eee && typeLpi x.type, fecNow := if x.fec == 0xFF then fec else x.fec }) s))) ∧
  (∀ (s : State) (p result fec : Nat) (pause eee : Bool), (s.port p).st = 2 → (s.port p).an = true → result ≠ 0 → exec (.anComplete p result fec pause eee) s = .next (setPort p 1 0 (logEvent 9 0x8003 (detail [(16, 1, p), (17, 1, result - 1)]) s))) ∧
  (∀ (s : State) (p : Nat), (s.port p).an = true → (s.port p).st = 1 → s.macsOpen = true → s.lat.ho.held = false → exec (.anRestart p) s = .next (setPort p 2 0 s)) ∧
  (∀ (s : State) (p : Nat), (s.port p).st ≠ 0 → (s.port p).st ≠ 5 → s.macsOpen = true → s.lat.ho.held = false → exec (.portLinkChange p 0) s = .next (hoCheck (setPort p (if (s.port p).an then 2 else 1) 0 s))) ∧
  (∀ (s : State) (p : Nat), (s.port p).st ≠ 0 → (s.port p).st ≠ 5 → s.macsOpen = true → s.lat.ho.held = false → (s.port p).an = false ∨ (s.port p).st ≠ 2 → exec (.portLinkChange p 1) s = .next (setPort p 3 0 s)) ∧
  (∀ (s : State) (p : Nat), (s.port p).st ≠ 0 → (s.port p).st ≠ 5 → s.macsOpen = true → s.lat.ho.held = false → exec (.portLinkChange p 2) s = .next (hoCheck (setPort p 4 1 (modPort p (fun x => { x with remoteFault := false }) s)))) ∧
  (∀ (s : State) (p : Nat), (s.port p).st ≠ 0 → (s.port p).st ≠ 5 → s.macsOpen = true → s.lat.ho.held = false → exec (.portLinkChange p 3) s = .next (hoCheck (setPort p 4 1 (modPort p (fun x => { x with remoteFault := true }) s)))) ∧
  (∀ (s : State) (p : Nat), (s.port p).flags.testBit 1 = true → s.portUp p = true → s.macsOpen = true → exec (.lldpTimer p) s = .next (sendMac p (lldpdu s p) false (modPort p (fun x => { x with lldpDirty := false }) s))) ∧
  (∀ (s t : State) (p : Packet), Given 0x0501 p s t → p.params.length = 72 → (portCfgFields p.params).all (·.2) = true → let b := p.params; let m := u8 b 0; (List.range 4).any (fun a => (t.agg a).on) = false → (((List.range (modePorts m)).filter fun q => u8 b (8 + 8 * q) != 0).map (modeLanes m)).flatten.find? (fun l => t.domLost (50 + l) || t.domLost (46 + l / 2)) = none → let u := modLat (fun x => { x with ho := { x.ho with held := false } }) (applyMode b (portsDown 4 t)); exec (.portModeSet) s = .next (ok p (forEach (List.range (modePorts m)) bringUp u))) ∧
  (∀ (s t : State) (p : Packet), Given 0x0502 p s t → p.params.length = 0 → exec (.portStatus) s = .next (complete p stOk (putLe 1 t.net.mode ++ zeros 3 ++ ((List.range 4).map fun a => putLe 1 (t.aggState a)).flatten ++ ((List.range 8).map (portBytes t)).flatten) t)) ∧
  (∀ (s t : State) (p : Packet), Given 0x0503 p s t → p.params.length = 40 → let b := p.params; let q := u8 b 0; let m := u8 b 1; q < modePorts t.net.mode → m ≤ 2 → m = 2 ∨ (u8 b 2 = 0 ∧ u8 b 3 = 0) → 1 ≤ u16 b 4 → (List.range 8).all (fun c => decide (16 ≤ u16 b (8 + 4 * c)) && decide (u16 b (10 + 4 * c) < u16 b (8 + 4 * c))) = true → (t.port q).xoffSent = [] → let row := fun o => (List.range 8).map fun c => u16 b (o + 4 * c); exec (.portPauseSet) s = .next (ok p (modPort q (fun x => { x with pause := m, rxMask := u8 b 2, txMask := u8 b 3, quanta := u16 b 4, xoff := row 8, xon := row 10, paused := [], xoffSent := [] }) t)))

/-- For every state of the stated kind: an LACPDU from the partner is recorded and a change of the actor's state answered; the periodic LACPDU is sent; the end of a window clears its counts, keeps the aggregate calm or not, wakes parked members when the load asks for it and drains the last member when it has been calm for HOLD_MS; a member that has drained parks in LPI or leaves through DEEP_PENDING, which ends with its lanes gated; a member that wakes becomes active with the event, one that wakes late fails with the event and another is woken, and a failed one retries; a partner's EEE TLV that runs out wakes a member in LPI; PORT_PARK_SET dissolves or makes an aggregate. -/
def Obligations.AggregatesComplete : Prop :=
  (∀ (s : State) (p a : Nat) (pdu : Bytes), s.aggOf p = some a → s.portOpen p = true → let info := (slice pdu 18 15 ++ zeros 15).take 15; let ps := u8 info 14; let u := modPort p (fun x => { x with partner := ps, partnerInfo := info }) s; let away := (u.port p).park == 3; let act := actorState (u.agg a).fast true (ps.testBit 3 && !away) (ps.testBit 3 && ps.testBit 4 && !away && (u.port p).park != 1 && (u.port p).park != 2); exec (.lacpduReceived p pdu) s = .next (if act = (u.port p).actor then u else sendLacp p act u)) ∧
  (∀ (s : State) (p a : Nat), s.aggOf p = some a → s.portOpen p = true → exec (.lacpPeriodic p) s = .next (sendLacp p (if (s.port p).actor == 0 then actorState (s.agg a).fast true false false else (s.port p).actor) s)) ∧
  (∀ (s : State) (a : Nat), (s.agg a).on = false ∨ (s.agg a).parkEn = false ∨ s.lat.bound.contains a = true ∨ s.pmc.st ≠ .trim ∨ s.pmc.trans.isSome = true → let u := forEach (s.agg a).members (fun p s => modPort p (fun x => { x with winTx := 0, winRx := 0 }) s) s; exec (.parkWindowEnd a) s = .next (modAgg a (fun g => { g with calm := 0 }) u)) ∧
  (∀ (s : State) (a p : Nat), let g := s.agg a; g.on = true → g.parkEn = true → s.lat.bound.contains a = false → s.pmc.st = .trim → s.pmc.trans = none → let act := s.activeMembers a; let u := forEach g.members (fun p s => modPort p (fun x => { x with winTx := 0, winRx := 0 }) s) s; (s.agg a).members.all (fun p => (s.port p).winTx == 0 && (s.port p).winRx == 0) = true → u.pmc = s.pmc → u.lat = s.lat → 1 ≤ g.wakePct → 1 ≤ modeRate s.net.mode → 1 ≤ g.parkPct → 1 ≤ g.minActive → g.minActive < act.length → act.any (fun p => decide (g.wakeQueue * 1024 < (s.point (0x48 + p)).queued none)) = false → g.members.any (fun p => (s.port p).park == 1 || (s.port p).park == 3) = false → g.holdMs ≤ g.calm + 1 → (act.filter fun p => (u.parkable a).contains p).getLast? = some p → exec (.parkWindowEnd a) s = .next (modPort p (fun x => { x with park := 1 }) (modAgg a (fun g => { g with calm := 0 }) u))) ∧
  (∀ (s : State) (p a : Nat), s.aggOf p = some a → let x := s.port p; x.park = 1 → (s.point (0x48 + p)).queue = [] → (s.point (0x48 + p)).serving = [] → let lpi := typeLpi x.type && (s.agg a).lpi && x.wakeTime.isSome; lpi = false → let u := logEvent 9 0x8004 (detail [(16, 1, a), (17, 1, p), (18, 1, 1)]) s; let v := releaseHeld a (modPort p (fun x => { x with park := 3 }) u); exec (.parkDrainDone p) s = .next (sendLacp p (actorState (v.agg a).fast true false false) v)) ∧
  (∀ (s : State) (p a : Nat), s.aggOf p = some a → let x := s.port p; x.park = 1 → (s.point (0x48 + p)).queue = [] → (s.point (0x48 + p)).serving = [] → let lpi := typeLpi x.type && (s.agg a).lpi && x.wakeTime.isSome; lpi = true → let u := logEvent 9 0x8004 (detail [(16, 1, a), (17, 1, p), (18, 1, 0)]) s; let v := releaseHeld a (modPort p (fun x => { x with park := 2 }) u); exec (.parkDrainDone p) s = .next (countEv 1 p 20 1 v)) ∧
  (∀ (s : State) (p : Nat), (s.port p).park = 3 → let u := setPort p 1 6 (modPort p (fun x => { x with park := 4 }) s); let v := powerDomains (u.laneDomains p) false 3 u; exec (.deepPendingEnd p) s = .next (powerDomains ([46, 47, 48, 49].filter v.laneParks) false 3 v)) ∧
  (∀ (s : State) (p a : Nat), s.aggOf p = some a → inR (s.port p).park 5 6 = true → s.macsOpen = true → (s.port p).st = 3 → let u := modPort p (fun x => { x with park := 0, actor := actorState (s.agg a).fast true true true }) s; exec (.memberActive p) s = .next (aggCheck a (logEvent 9 0x8005 (detail [(16, 1, a), (17, 1, p), (18, 1, b2n (s.port p).deep), (20, 4, u.us - (s.port p).wakeAt)]) u))) ∧
  (∀ (s : State) (p a : Nat), s.aggOf p = some a → (s.port p).park = 5 → let u := logEvent 9 0x8006 (detail [(16, 1, a), (17, 1, p), (18, 1, b2n (s.port p).deep)]) (modPort p (fun x => { x with park := 6 }) s); (u.parkable a).find? (fun q => (u.port q).parking) = none → exec (.wakeLate p) s = .next (u)) ∧
  (∀ (s : State) (p a q : Nat), s.aggOf p = some a → (s.port p).park = 5 → let u := logEvent 9 0x8006 (detail [(16, 1, a), (17, 1, p), (18, 1, b2n (s.port p).deep)]) (modPort p (fun x => { x with park := 6 }) s); (u.parkable a).find? (fun q => (u.port q).parking) = some q → exec (.wakeLate p) s = .next (startWake q u)) ∧
  (∀ (s : State) (p : Nat), (s.port p).park = 6 → (s.port p).st ≠ 3 → (s.port p).st ≠ 5 → exec (.failedMemberRetry p) s = .next (modPort p (fun x => { x with st := if x.an then 2 else 1 }) s)) ∧
  (∀ (s : State) (p : Nat), (s.port p).park ≠ 2 → let u := modPort p (fun x => { x with partnerTw := none }) s; (u.port p).park ≠ 2 → exec (.eeeTlvExpiry p) s = .next (u)) ∧
  (∀ (s : State) (p : Nat), let u := modPort p (fun x => { x with partnerTw := none }) s; (u.port p).park = 2 → exec (.eeeTlvExpiry p) s = .next (startWake p u)) ∧
  (∀ (s t : State) (p : Packet), Given 0x0504 p s t → p.params.length = 20 → u8 p.params 0 ≤ 3 → u8 p.params 1 = 2 → exec (.portParkSet) s = .next (ok p (dissolve (u8 p.params 0) t))) ∧
  (∀ (s t : State) (p : Packet), Given 0x0504 p s t → p.params.length = 20 → (parkFields t p.params).all (·.2) = true → u8 p.params 1 = 1 → let b := p.params; let a := u8 b 0; let ms := bitsSet 8 (u8 b 2); ms.findSome? (fun q => (t.aggOf q).filter (· != a)) = none → let u := wakeAgg a t; let old := u.agg a; let fl := u8 b 3; let g : Agg := { old with on := true, members := ms, parkEn := fl.testBit 0, fast := fl.testBit 1, lpi := fl.testBit 2, key := u16 b 4, pri := u16 b 6, minActive := u8 b 8, parkPct := u8 b 9, wakePct := u8 b 10, holdMs := u16 b 12, wakeQueue := u16 b 14, twExtra := u16 b 16, calm := 0 }; let gone := fun (e : Nat × Nat) => ms.contains (e.2 - 1); let v := modAgg a (fun _ => { g with conv := old.conv.filter gone, alt := old.alt.filter gone }) u; (v.point (0x50 + a)).strict = [] → (v.point (0x50 + a)).cweight = [] → (v.point (0x50 + a)).qlimit = none → exec (.portParkSet) s = .next (ok p (aggCheck a v)))

/-- For every state of the stated kind: the lookup of a frame whose verdict is known applies the action at once, a dropped one is dropped with its count, and an action for a frame still without a verdict is kept; the verdict of a frame that was neither cut through nor written early applies the action that waits, drops a bad frame and lets a frame not yet looked up wait; SWX_TABLE_WRITE writes entries into the shadow tables or clears one; SWX_TABLE_COMMIT makes the shadow active with a new generation, discards it, or notes that nothing changed; SWX_MIRROR_SET sets a mirror. -/
def Obligations.SwitchComplete : Prop :=
  (∀ (s : State) (id : Nat) (q : InFrame) (x : Found) (inner key : Bytes) (tun : Nat), s.net.inq.find? (fun x => x.frame.id == id && x.found.isNone && x.sealed.isNone) = some q → s.sliceOn = true → lookupFrame s.net.active q.frame.bytes q.frame.inVp q.frame.tc (s.domLost 45) = .act x inner tun key → q.judged = true → let f := { q.frame with bytes := inner, tunnel := tun, hash := convHash key, csum := rxCsum inner }; exec (.switchLookup id) s = .next (applyAction x f (dropIn id s))) ∧
  (∀ (s : State) (id : Nat) (q : InFrame), s.net.inq.find? (fun x => x.frame.id == id && x.found.isNone && x.sealed.isNone) = some q → s.sliceOn = true → lookupFrame s.net.active q.frame.bytes q.frame.inVp q.frame.tc (s.domLost 45) = .drop 0 0 → exec (.switchLookup id) s = .next (countEv 4 q.frame.inVp 5 1 (dropFrame none q.frame (dropIn id s)))) ∧
  (∀ (s : State) (id : Nat) (q : InFrame) (x : Found), s.net.inq.find? (fun x => x.frame.id == id && !x.judged) = some q → q.verdict = 0 → q.sec = none → q.sealed = none → q.cut = none → q.early = [] → q.found = some x → exec (.verdictArrival id) s = .next (applyAction x q.frame (dropIn id s))) ∧
  (∀ (s : State) (id : Nat) (q : InFrame), s.net.inq.find? (fun x => x.frame.id == id && !x.judged) = some q → q.verdict = 0 → q.sec = none → q.sealed = none → q.cut = none → q.early = [] → q.found = none → exec (.verdictArrival id) s = .next (modIn id (fun q => { q with judged := true }) s)) ∧
  (∀ (s : State) (id : Nat) (q : InFrame), s.net.inq.find? (fun x => x.frame.id == id && !x.judged) = some q → q.verdict ≠ 0 → q.sec = none → q.sealed = none → q.cut = none → q.early = [] → exec (.verdictArrival id) s = .next (dropFrame none q.frame (dropIn id s))) ∧
  (∀ (s t : State) (p : Packet) (max bytes key : Nat) (v : SwTables), Given 0x0510 p s t → 4 ≤ p.params.length → tableShape (u8 p.params 0) = some (max, bytes, key) → inR (u8 p.params 1) 1 2 = true → u16 p.params 2 ≠ 0 → let size := if key == 0 then bytes + 4 else bytes; p.parts = [p.params.length] → p.params.length = 4 + u16 p.params 2 * size → putRecords (u8 p.params 0) (u8 p.params 1) size (u16 p.params 2) 0 t.net.shadow (p.params.drop 4) = .ok v → exec (.swxTableWrite) s = .next (ok p { t with net := { t.net with shadow := v } })) ∧
  (∀ (s t : State) (p : Packet) (max bytes : Nat), Given 0x0510 p s t → p.params.length = 4 → p.parts = [4] → tableShape (u8 p.params 0) = some (max, bytes, 0) → u8 p.params 1 = 3 → u16 p.params 2 = 0 → t.net.shadow.anyRef (u8 p.params 0) = false → exec (.swxTableWrite) s = .next (ok p { t with net := { t.net with shadow := { t.net.shadow with indexed := t.net.shadow.indexed.filter fun e => e.1 / 2 ^ 20 != u8 p.params 0 } } })) ∧
  (∀ (s t : State) (p : Packet), Given 0x0511 p s t → p.params.length = 8 → u8 p.params 4 = 1 → u32 p.params 0 = 0xFFFFFFFF ∨ u32 p.params 0 = t.net.gen.toNat → t.net.active.changes t.net.shadow ≠ 0 → let u := { t with net := { t.net with active := t.net.shadow, gen := t.net.gen + 1 } }; let n := t.net.active.changes t.net.shadow; let v := logEvent 10 0x8001 (detail [(16, 4, u.net.gen.toNat), (20, 4, n), (24, 2, p.cls * 4096 + p.ident)]) u; exec (.swxTableCommit) s = .next (complete p stOk (putLe 4 v.net.gen.toNat ++ putLe 4 n) v)) ∧
  (∀ (s t : State) (p : Packet), Given 0x0511 p s t → p.params.length = 8 → u8 p.params 4 = 2 → u32 p.params 0 = 0xFFFFFFFF ∨ u32 p.params 0 = t.net.gen.toNat → exec (.swxTableCommit) s = .next (complete p stOk (putLe 4 t.net.gen.toNat ++ putLe 4 (t.net.active.changes t.net.shadow)) { t with net := { t.net with shadow := t.net.active } })) ∧
  (∀ (s t : State) (p : Packet), Given 0x0511 p s t → p.params.length = 8 → u8 p.params 4 = 1 → u32 p.params 0 = 0xFFFFFFFF ∨ u32 p.params 0 = t.net.gen.toNat → t.net.active.changes t.net.shadow = 0 → exec (.swxTableCommit) s = .next (complete p stNote (putLe 4 t.net.gen.toNat ++ putLe 4 0) t)) ∧
  (∀ (s t : State) (p : Packet), Given 0x0512 p s t → p.params.length = 16 → let b := p.params; u8 b 0 ≤ 3 → isNetVp (u8 b 2) = true → u8 b 2 ≠ 0x40 → u16 b 4 = 0 ∨ inR (u16 b 4) 64 9216 = true → u16 b 6 = 0xFFFF → inR (u32 b 8) 1 16777216 = true → let m : Mirror := { on := (u8 b 1).testBit 0, dest := u8 b 2, ring := u8 b 3, trunc := u16 b 4, tunnel := none, sampleN := u32 b 8 }; exec (.swxMirrorSet) s = .next (ok p (syncUse 98 { t with net := { t.net with mirrors := tput {} t.net.mirrors (u8 b 0) m } })))

/-- For every state of the stated kind: a frame on a lane is received where its link can receive; a frame slot sends what R851 puts first: a frame to be sent again, a HELLO that is due, and an IDLE frame otherwise; symbol lock lets a lane search, and no lock or no UP in time ends its training, after which it trains again; the timers make a HELLO due, take an UP link DOWN, resend from the oldest frame and take the link DOWN at the 8th expiry; a window's counts are closed and a rate at the threshold makes the link DEGRADED; a tunnel's frames are taken from a good Ethernet frame and its queued frames flushed; a command carriage goes to the front end. -/
def Obligations.LatticeLinksComplete : Prop :=
  (∀ (s : State) (link offset : Nat) (bytes : Bytes), link ≤ 3 → (s.link link).mode = 1 → s.isOn 58 = true → s.isOn (59 + link) = true → exec (.latticeFrameReceived link offset bytes) s = .next (hoCheck (laneFrame link offset bytes s))) ∧
  (∀ (s : State) (link k : Nat) (g : LatSeg), link ≤ 3 → let x := s.link link; 2 ≤ x.st → x.resend = some k → x.replay[k]? = some g → let u := modLink link (fun x => { x with resend := if k + 1 < x.replay.length then some (k + 1) else none, now := { x.now with retx := x.now.retx + 1 } }) s; exec (.latticeFrameSlot link) s = .next (latPut link g.head g.fseq g.valid g.data u)) ∧
  (∀ (s : State) (link : Nat), link ≤ 3 → let x := s.link link; 4 ≤ x.st → x.resend = none → x.tx = none → x.helloDue = true → exec (.latticeFrameSlot link) s = .next (latPut link 1 0 0 (s.hello link) (modLink link (fun x => { x with helloDue := false }) s))) ∧
  (∀ (s : State) (link : Nat), link ≤ 3 → let x := s.link link; 2 ≤ x.st → x.mode = 1 → x.resend = none → x.tx = none → x.helloDue = false → x.st ≠ 5 ∨ (x.ctrlQ = [] ∧ x.dataQ = []) → exec (.latticeFrameSlot link) s = .next (latPut link 0 0 0 [] s)) ∧
  (∀ (s : State) (link : Nat), link ≤ 3 → (s.link link).mode = 1 → (s.link link).st = 2 → exec (.symbolLock link) s = .next (modLink link (fun x => { x with st := 3, cand := none }) s)) ∧
  (∀ (s : State) (link : Nat), link ≤ 3 → (s.link link).mode = 1 → (s.link link).st = 2 → exec (.symbolLockTimeout link) s = .next (logLimited 26 0x8003 link 1 10000000 (detail [(16, 1, link)]) (modLink link (fun x => { x.fallen with retrain := true }) s))) ∧
  (∀ (s : State) (link : Nat), link ≤ 3 → inR (s.link link).st 2 4 = true → exec (.trainingTimeout link) s = .next (logLimited 26 0x8003 link 1 10000000 (detail [(16, 1, link)]) (modLink link (fun x => { x.fallen with retrain := true }) s))) ∧
  (∀ (s : State) (link : Nat), link ≤ 3 → (s.link link).retrain = true → exec (.linkRetrain link) s = .next (latTrain link (modLink link (fun x => { x with retrain := false }) s))) ∧
  (∀ (s : State) (link : Nat), link ≤ 3 → 4 ≤ (s.link link).st → exec (.helloTimer link) s = .next (modLink link (fun x => { x with helloDue := true }) s)) ∧
  (∀ (s : State) (link : Nat), link ≤ 3 → (s.link link).st = 5 → exec (.deadTimer link) s = .next (hoCheck (linkDown link 1 s))) ∧
  (∀ (s : State) (link : Nat), link ≤ 3 → (s.link link).st = 5 → (s.link link).replay ≠ [] → (s.link link).expiries < 7 → exec (.replayTimer link) s = .next (modLink link (fun x => { x with expiries := x.expiries + 1, resend := some 0 }) s)) ∧
  (∀ (s : State) (link : Nat), link ≤ 3 → (s.link link).st = 5 → (s.link link).replay ≠ [] → 7 ≤ (s.link link).expiries → exec (.replayTimer link) s = .next (hoCheck (linkDown link 3 s))) ∧
  (∀ (s : State) (link : Nat), link ≤ 3 → (s.link link).now.rx = 0 ∨ (s.link link).st < 4 → exec (.qualityWindow link) s = .next (modLink link (fun x => { x with last := x.now, now := {} }) s)) ∧
  (∀ (s : State) (link : Nat), link ≤ 3 → let x := s.link link; let w := x.now; 0 < w.rx → x.st = 4 → x.degraded = false → u16 x.block 6 * w.rx ≤ (w.bad + w.fcrc) * 1000000 → let u := modLink link (fun x => { x with last := w, now := {} }) s; let v := modLink link (fun x => { x with degraded := true, calm := 0 }) u; exec (.qualityWindow link) s = .next (lsaDue (logEvent 26 0x8004 (detail [(16, 1, link), (17, 1, 1), (20, 4, (w.bad + w.fcrc) * 1000000 / w.rx)]) v))) ∧
  (∀ (s : State) (p l : Nat) (bytes : Bytes), let body := bytes.take (bytes.length - 4); 64 ≤ bytes.length → bytes.length ≤ (s.port p).maxFrame → u32 bytes (bytes.length - 4) = (fcs body).toNat → s.portUp p = true → s.dataOn = true → s.pmc.trans = none → s.tunnelLink p body = some l → exec (.tunnelFrameReceived p bytes) s = .next (hoCheck (tunnelIn l body (countEv 1 p 6 bytes.length (countEv 1 p 0 1 s))))) ∧
  (∀ (s : State) (link : Nat), link ≤ 3 → (s.link link).mode = 2 → exec (.tunnelFlush link) s = .next (Sys2Proof.Machine.tunnelFlush link s)) ∧
  (∀ (s t : State) (l : Nat) (b : Bytes), takeInbox (fun _ b => u8 b 4 == 1) s = some (l, b, t) → t.transportsUp = true → t.domLost 58 = false → let src := u16 b 2 % 4096; exec (.commandCarriage) s = .next (frontEnd ⟨4, src, if src = 0 then l + 1 else 0⟩ l (.lattice l src) (b.drop 8) t))

/-- For every state of the stated kind: an LSA from a link is taken as R893 says; an own LSA is originated; an entry of another device that runs out is removed; a claim that has been held for its time becomes HELD with the event; routes, partition and leader are computed; LAT_STATUS answers; LAT_VERTEX_SET sets the mode of the vertex, beginning a claim when it changes, or a link's configuration; LAT_STACK_JOIN takes a member list that names this device, or binds and unbinds an aggregate; LAT_STACK_LEAVE removes the stack. -/
def Obligations.LatticeRoutesComplete : Prop :=
  (∀ (s t : State) (l : Nat) (b : Bytes), takeInbox (fun _ b => u8 b 4 == 0x10) s = some (l, b, t) → t.domLost 58 = false → exec (.lsaReceived) s = .next (lsaIn l (b.drop 8) t)) ∧
  (∀ (s : State), s.transportsUp = true → s.isOn 58 = true → s.lat.lsaAt = none → let u := modLat (fun x => { x with seq := (x.seq + 1) % 2 ^ 32, lsaDue := false, lsaAt := some s.us }) s; exec (.lsaOriginate) s = .next (floodLsa none u.ownLsa (modLat (fun x => { x with lsdb := tins s.ownSerial u.ownLsa x.lsdb }) u))) ∧
  (∀ (s : State) (serial : Nat), serial ≠ s.ownSerial → exec (.lsaAgeExpiry serial) s = .next (modLat (fun x => { x with lsdb := tdel serial x.lsdb }) s)) ∧
  (∀ (s : State), s.lat.vst = 1 → exec (.vertexClaimHeld) s = .next (lsaDue (logEvent 26 0x8008 (detail [(16, 2, s.lat.id)]) (modLat (fun x => { x with vst := 2 }) s)))) ∧
  (∀ (s : State), exec (.routeRecompute) s = .next (elect (modLat (fun x => { x with routes := s.computeRoutes }) s))) ∧
  (∀ (s t : State) (p : Packet), Given 0x0B01 p s t → p.params.length = 0 → let x := t.lat; exec (.latStatus) s = .next (complete p stOk (putLe 2 (x.id + 4096 * x.vst) ++ putLe 2 x.alias_ ++ putLe 1 x.stackId ++ putLe 1 x.role ++ putLe 1 x.partition.length ++ putLe 1 (b2n t.quorum) ++ putLe 2 ((x.leader.map t.vertexOf).getD 0) ++ putLe 2 x.lsdb.length ++ putLe 2 x.routes.length ++ putLe 1 x.ho.phase ++ [0] ++ ((List.range 4).map (linkEntry t)).flatten) t)) ∧
  (∀ (s t : State) (p : Packet), Given 0x0B02 p s t → p.params.length = 4 → u8 p.params 0 = 1 → u8 p.params 1 = 1 → inR (u16 p.params 2) 1 4095 = true → t.lat.mode ≠ 1 ∨ u16 p.params 2 ≠ t.lat.fixed → let u := modLat (fun x => { x with mode := 1, fixed := u16 p.params 2, alias_ := 0 }) t; exec (.latVertexSet) s = .next (ok p (startClaim (lsaDue u)))) ∧
  (∀ (s t : State) (p : Packet), Given 0x0B02 p s t → p.params.length = 32 → u8 p.params 0 = 2 → (linkFields t p.params).all (·.2) = true → exec (.latVertexSet) s = .next (ok p (hoCheck (setLinkCfg (u8 p.params 4) (u16 p.params 28) (slice p.params 4 24) t)))) ∧
  (∀ (s t : State) (p : Packet), Given 0x0B03 p s t → p.params.length = 80 → u8 p.params 0 = 1 → let b := p.params; 1 ≤ u8 b 1 → inR (u8 b 3) 2 8 = true → u16 b 4 = 0xFFFF → (u8 b 6).testBit 0 = false → serialsBad b = none → (List.range (u8 b 3)).any (fun i => u64 b (16 + 8 * i) == t.ownSerial) = true → t.lat.stackId = 0 ∨ t.lat.stackId = u8 b 1 → exec (.latStackJoin) s = .next (ok p (lsaDue (modLat (fun x => { x with stack := b, role := max 1 x.role }) t)))) ∧
  (∀ (s t : State) (p : Packet), Given 0x0B03 p s t → p.params.length = 8 → u8 p.params 0 = 2 → u8 p.params 1 ≤ 3 → u8 p.params 2 = 1 → (t.agg (u8 p.params 1)).on = true → t.lat.stack ≠ [] → exec (.latStackJoin) s = .next (ok p (modLat (fun x => { x with bound := nset (u8 p.params 1) x.bound }) (wakeAgg (u8 p.params 1) t)))) ∧
  (∀ (s t : State) (p : Packet), Given 0x0B03 p s t → p.params.length = 8 → u8 p.params 0 = 2 → u8 p.params 1 ≤ 3 → u8 p.params 2 = 2 → exec (.latStackJoin) s = .next (ok p (modLat (fun x => { x with bound := nclr (u8 p.params 1) x.bound }) t))) ∧
  (∀ (s t : State) (p : Packet), Given 0x0B04 p s t → p.params.length = 4 → u8 p.params 0 = 0xA5 → exec (.latStackLeave) s = .next (ok p (lsaDue (elect (modLat (fun x => { x with stack := [], bound := [] }) t)))))

/-- For every state of the stated kind: a message of the other device is taken while its link is UP; STOP suspends the active tenants, takes the bound aggregates out of sync and notes the time; the final copy leaves after what is left of the VFs' work has ended with ABORTED; a copy not applied in time aborts the handover; SWITCH on the target restores the tenants' states and tokens, attaches the connections that it can and takes the source's vertex as alias; RELEASE on the source closes what is left, revokes the tenants, unbinds the VFs, takes the ports down and answers; LAT_HANDOVER starts, aborts or answers. -/
def Obligations.HandoverComplete : Prop :=
  (∀ (s t : State) (link l : Nat) (b : Bytes) (msg : HoMsg), takeInbox (fun l b => l == link && (u8 b 4 == 0x14 || u8 b 4 == 0x15)) s = some (l, b, t) → t.latUp link = true → exec (.handoverStateReceived link msg) s = .next (hoTake link msg t)) ∧
  (∀ (s : State) (link : Nat), takeInbox (fun l b => l == link && (u8 b 4 == 0x14 || u8 b 4 == 0x15)) s = none → s.latUp link = true → s.lat.ho.link = link → s.lat.ho.source = true → s.lat.ho.phase = 1 → exec (.handoverStateReceived link .ready) s = .next (modHo (fun h => { h with ready := true }) s)) ∧
  (∀ (s : State), s.lat.ho.source = true → s.lat.ho.phase = 1 → s.lat.ho.ready = true → let states := (List.range 16).map fun t => (s.tenant t).state; let u := forEach (List.range 16) (fun t s => if (s.tenant t).state == 1 then setTenantState t 2 s else s) s; exec (.handoverStop) s = .next (boundLacp false (modHo (fun h => { h with phase := 2, stopAt := u.us, states := states }) u))) ∧
  (∀ (s : State), s.lat.ho.source = true → s.lat.ho.phase = 2 → s.lat.ho.sent = false → let left := fun f => s.rings.foldl (fun n x => if x.2.fn == f then n + x.2.work.length else n) 0; let n := s.boundVfs.foldl (fun n f => n + left f) 0; let r := freeNat (2 ^ 32) (forEach s.boundVfs (fun f s => failWorkOf f stAborted s) s); exec (.handoverWorkDeadline) s = .next (hoSend (.final (hoFinal r.2)) (modHo (fun h => { h with sent := true, aborted := n, bytes := r.1 }) r.2))) ∧
  (∀ (s : State), s.lat.ho.source = true → s.lat.ho.phase = 2 → s.lat.ho.applied = false → exec (.handoverStopTimeout) s = .next (hoAbort s)) ∧
  (∀ (s : State) (f : HoFinal), let h := s.lat.ho; h.final = some f → h.source = false → h.phase = 2 → let a := forEach f.states.zipIdx (fun x s => if x.1 = 3 then s else setTenantState x.2 x.1 s) s; let b := forEach f.tenantTokens (fun x s => modTenant x.1 (fun t => { t with tokens := x.2, tokensAt := s.us }) s) a; let c := forEach f.vfTokens (fun x s => modVf x.1 (fun v => { v with tokens := x.2, tokensAt := s.us }) s) b; let taken := f.conns.filter fun e => ((c.ringAt e.2.1 (u8 e.2.2 6)).any fun r => r.2.cls == 4) && c.connEngine.isSome; let d := forEach taken (fun c s => modSto (fun x => { x with conns := tins c.1 (freshConn c.2.1 (s.connEngine.getD 0) c.2.2) x.conns }) s) c; let e := lsaDue (modLat (fun x => { x with alias_ := h.peer }) (modSto (fun x => { x with scrubs := f.scrubs }) d)); exec (.handoverSwitch) s = .next (hoSend (.switched (taken.map (·.1))) (modHo (fun y => { y with phase := 3, engine := b2n (y.plant && e.sge.active.isSome), moved := taken.length, closed := f.conns.length - taken.length, final := none }) e))) ∧
  (∀ (s : State), s.lat.ho.source = true → s.lat.ho.phase = 3 → let a := closeConns (fun _ _ => true) (modHo (fun h => { h with phase := 4, held := true }) s); let b := forEach (List.range 16) (fun t s => setTenantState t 3 s) a; let c := forEach b.boundVfs (fun f s => unbindVf f ((s.vf f).tenant.getD 0) s) b; let r := freeNat 6 c; let e := modHo (fun h => { h with phase := 5 }) (hoSend .released (hoRecord false (portsDown r.1 r.2))); exec (.handoverRelease) s = .next (finishWaits (· == .handover) stOk (fun _ => hoReply e) e)) ∧
  (∀ (s t : State) (p : Packet), Given 0x0B05 p s t → p.params.length = 8 → u8 p.params 0 = 1 → u8 p.params 1 = 0xA5 → inR (u16 p.params 2) 1 4095 = true → exec (.latHandover) s = .next (hoStart p t)) ∧
  (∀ (s t : State) (p : Packet), Given 0x0B05 p s t → p.params.length = 8 → u8 p.params 0 = 2 → inR t.lat.ho.phase 3 5 = false → exec (.latHandover) s = .next (complete p stOk (hoReply (hoAbort t)) (hoAbort t))) ∧
  (∀ (s t : State) (p : Packet), Given 0x0B05 p s t → p.params.length = 8 → u8 p.params 0 = 3 → exec (.latHandover) s = .next (complete p stOk (hoReply t) t))

/-- For every request that the label takes, addressed, selected or plain, while no device-side write runs: INVENTORY answers the UID when its mask fits; STAY_QUIET addressed to the label quiets it and SELECT selects it; RESET_TO_READY readies it; the reads answer their blocks, with the security status when it is asked for; the writes store all of their blocks, when every one is open and unlocked, and answer afterwards; the locks lock an open block for good; the security forms answer a lock byte for each block; the two system information commands describe the label; a command code that is not in Table 22-2 is answered with error 0x01. -/
def Obligations.LabelReadsComplete : Prop :=
  (∀ (s : State) (req : Bytes) (q : FieldReq), Asked req q s → q.code = 0x01 → q.flags.testBit 4 = false → let len := u8 q.args 0; q.args.length = 1 + ceilDiv len 8 → len ≤ 64 → leAt (q.args.drop 1) 0 (ceilDiv len 8) % 2 ^ len = u64 s.lblUid 0 % 2 ^ len → exec (.lblInventory req) s = .next (lblAnswer ([0, 0] ++ s.lblUid) s)) ∧
  (∀ (s : State) (req : Bytes) (q : FieldReq), Asked req q s → q.code = 0x02 → q.flags.testBit 5 = true → exec (.lblStayQuiet req) s = .next (modLbl (fun x => { x with tag := 1 }) s)) ∧
  (∀ (s : State) (req : Bytes) (q : FieldReq), Asked req q s → q.code = 0x25 → q.flags.testBit 5 = true → exec (.lblSelect req) s = .next (lblAnswer [0] (modLbl (fun x => { x with tag := 2 }) s))) ∧
  (∀ (s : State) (req : Bytes) (q : FieldReq), Asked req q s → q.code = 0x26 → exec (.lblResetToReady req) s = .next (lblAnswer [0] (modLbl (fun x => { x with tag := 0 }) s))) ∧
  (∀ (s : State) (req : Bytes) (busy : Nat) (q : FieldReq), Asked req q s → q.code = 0x20 → q.args.length = 1 → let b := leAt q.args 0 1; let n := 1; b + n ≤ 256 → s.lblWriting = false → let u := modLbl (fun x => { x with fieldEnd := s.us + busy }) s; exec (.lblReadSingleBlock req busy) s = .next (lblAnswer (0 :: ((List.range n).map fun i => (if q.flags.testBit 6 then [lockByte u (b + i)] else []) ++ u.lbl.mem.readN (4 * (b + i)) 4).flatten) u)) ∧
  (∀ (s : State) (req : Bytes) (busy : Nat) (q : FieldReq), Asked req q s → q.code = 0x23 → q.args.length = 2 → let b := leAt q.args 0 1; let n := leAt q.args 1 1 + 1; b + n ≤ 256 → n ≤ 64 → s.lblWriting = false → let u := modLbl (fun x => { x with fieldEnd := s.us + busy }) s; exec (.lblReadMultipleBlocks req busy) s = .next (lblAnswer (0 :: ((List.range n).map fun i => (if q.flags.testBit 6 then [lockByte u (b + i)] else []) ++ u.lbl.mem.readN (4 * (b + i)) 4).flatten) u)) ∧
  (∀ (s : State) (req : Bytes) (busy : Nat) (q : FieldReq), Asked req q s → q.code = 0x30 → q.args.length = 2 → let b := leAt q.args 0 2; let n := 1; b + n ≤ 2048 → s.lblWriting = false → let u := modLbl (fun x => { x with fieldEnd := s.us + busy }) s; exec (.extendedReadSingleBlock req busy) s = .next (lblAnswer (0 :: ((List.range n).map fun i => (if q.flags.testBit 6 then [lockByte u (b + i)] else []) ++ u.lbl.mem.readN (4 * (b + i)) 4).flatten) u)) ∧
  (∀ (s : State) (req : Bytes) (busy : Nat) (q : FieldReq), Asked req q s → q.code = 0x33 → q.args.length = 4 → let b := leAt q.args 0 2; let n := leAt q.args 2 2 + 1; b + n ≤ 2048 → n ≤ 64 → s.lblWriting = false → let u := modLbl (fun x => { x with fieldEnd := s.us + busy }) s; exec (.extendedReadMultipleBlocks req busy) s = .next (lblAnswer (0 :: ((List.range n).map fun i => (if q.flags.testBit 6 then [lockByte u (b + i)] else []) ++ u.lbl.mem.readN (4 * (b + i)) 4).flatten) u)) ∧
  (∀ (s : State) (req : Bytes) (busy : Nat) (q : FieldReq), Asked req q s → q.code = 0x21 → 1 ≤ q.args.length → let b := leAt q.args 0 1; let n := 1; q.args.length = 1 + 4 * n → b + n ≤ 256 → s.lblWriting = false → let u := modLbl (fun x => { x with fieldEnd := s.us + min busy 2000 }) s; (List.range n).all (fun i => lblOpen (b + i) && !s.lbl.locked.contains (b + i)) = true → exec (.lblWriteSingleBlock req busy) s = .next (lblAnswer [0] (lblStore (4 * b) (q.args.drop 1) u))) ∧
  (∀ (s : State) (req : Bytes) (busy : Nat) (q : FieldReq), Asked req q s → q.code = 0x24 → 2 ≤ q.args.length → let b := leAt q.args 0 1; let n := leAt q.args 1 1 + 1; q.args.length = 2 + 4 * n → b + n ≤ 256 → n ≤ 8 → s.lblWriting = false → let u := modLbl (fun x => { x with fieldEnd := s.us + min busy 2000 }) s; (List.range n).all (fun i => lblOpen (b + i) && !s.lbl.locked.contains (b + i)) = true → exec (.lblWriteMultipleBlocks req busy) s = .next (lblAnswer [0] (lblStore (4 * b) (q.args.drop 2) u))) ∧
  (∀ (s : State) (req : Bytes) (busy : Nat) (q : FieldReq), Asked req q s → q.code = 0x31 → 2 ≤ q.args.length → let b := leAt q.args 0 2; let n := 1; q.args.length = 2 + 4 * n → b + n ≤ 2048 → s.lblWriting = false → let u := modLbl (fun x => { x with fieldEnd := s.us + min busy 2000 }) s; (List.range n).all (fun i => lblOpen (b + i) && !s.lbl.locked.contains (b + i)) = true → exec (.extendedWriteSingleBlock req busy) s = .next (lblAnswer [0] (lblStore (4 * b) (q.args.drop 2) u))) ∧
  (∀ (s : State) (req : Bytes) (busy : Nat) (q : FieldReq), Asked req q s → q.code = 0x34 → 4 ≤ q.args.length → let b := leAt q.args 0 2; let n := leAt q.args 2 2 + 1; q.args.length = 4 + 4 * n → b + n ≤ 2048 → n ≤ 8 → s.lblWriting = false → let u := modLbl (fun x => { x with fieldEnd := s.us + min busy 2000 }) s; (List.range n).all (fun i => lblOpen (b + i) && !s.lbl.locked.contains (b + i)) = true → exec (.extendedWriteMultipleBlocks req busy) s = .next (lblAnswer [0] (lblStore (4 * b) (q.args.drop 4) u))) ∧
  (∀ (s : State) (req : Bytes) (busy : Nat) (q : FieldReq), Asked req q s → q.code = 0x22 → q.args.length = 1 → let b := leAt q.args 0 1; b < 256 → lblOpen b = true → s.lbl.locked.contains b = false → s.lblWriting = false → let u := modLbl (fun x => { x with fieldEnd := s.us + min busy 2000 }) s; exec (.lblLockBlock req busy) s = .next (lblAnswer [0] (modLbl (fun x => { x with locked := nset b x.locked }) u))) ∧
  (∀ (s : State) (req : Bytes) (busy : Nat) (q : FieldReq), Asked req q s → q.code = 0x32 → q.args.length = 2 → let b := leAt q.args 0 2; b < 2048 → lblOpen b = true → s.lbl.locked.contains b = false → s.lblWriting = false → let u := modLbl (fun x => { x with fieldEnd := s.us + min busy 2000 }) s; exec (.extendedLockSingleBlock req busy) s = .next (lblAnswer [0] (modLbl (fun x => { x with locked := nset b x.locked }) u))) ∧
  (∀ (s : State) (req : Bytes) (busy : Nat) (q : FieldReq), Asked req q s → q.code = 0x2C → q.args.length = 2 → let b := u8 q.args 0; let n := u8 q.args 1 + 1; b + n ≤ 256 → s.lblWriting = false → let u := modLbl (fun x => { x with fieldEnd := s.us + busy }) s; exec (.lblGetMultipleBlockSecurityStatus req busy) s = .next (lblAnswer (0 :: (List.range n).map fun i => lockByte u (b + i)) u)) ∧
  (∀ (s : State) (req : Bytes) (q : FieldReq), Asked req q s → q.code = 0x2B → q.args = [] → exec (.lblGetSystemInfo req) s = .next (lblAnswer ([0, 0x07] ++ s.lblUid ++ [0, 0, 0xFF, 3]) s)) ∧
  (∀ (s : State) (req : Bytes) (busy : Nat) (q : FieldReq), Asked req q s → q.code = 0x3B → q.args.length = 1 → let ask := u8 q.args 0 % 8; exec (.extendedGetSystemInfo req busy) s = .next (lblAnswer ([0, BitVec.ofNat 8 ask] ++ s.lblUid ++ (if ask.testBit 0 then [0] else []) ++ (if ask.testBit 1 then [0] else []) ++ (if ask.testBit 2 then putLe 2 2047 ++ [3] else [])) s)) ∧
  (∀ (s : State) (req : Bytes) (busy : Nat) (q : FieldReq), Asked req q s → q.code = 0x3C → q.args.length = 4 → let b := leAt q.args 0 2; let n := leAt q.args 2 2 + 1; b + n ≤ 2048 → s.lblWriting = false → let u := modLbl (fun x => { x with fieldEnd := s.us + busy }) s; exec (.extendedGetSystemInfo req busy) s = .next (lblAnswer (0 :: (List.range n).map fun i => lockByte u (b + i)) u)) ∧
  (∀ (s : State) (req : Bytes) (q : FieldReq), Asked req q s → fieldCode q.code = false → exec (.unsupportedFieldCommand req) s = .next (lblErr 0x01 s)) ∧
  (∀ (s : State) (req : Bytes) (busy : Nat) (q : FieldReq), Asked req q s → q.code = 0x20 → q.args.length = 1 → s.lblWriting = true → exec (.lblReadSingleBlock req busy) s = .next (lblErr 0xA1 s))

/-- For every state of the stated kind: MBX_SUBMIT puts the packet into an EMPTY or answered mailbox, answers, posts route source 0x0B and gives the packet to the front end; WAKE with the right code wakes a device in SHELF whose mask lets it, and a wrong code is counted; a field that comes or goes is noted; a warden's read or write of blocks is submitted, or ends with DENIED for blocks that wardens may not write; what is deferred is tried again when the field transaction ends, and completes with TIMEOUT when it has waited too long; a running write commits; a mirror that takes too long ends with the identity record. -/
def Obligations.LabelDeviceComplete : Prop :=
  (∀ (s : State) (req : Bytes) (busy : Nat) (q : FieldReq), Asked req q s → q.code = 0xA0 → let p := q.args; inR p.length 20 64 = true → p.length % 4 = 0 → u16 p 8 = 0x6000 → s.transportsUp = true → s.lblOn = true → s.lblWriting = false → let u := modLbl (fun x => { x with fieldEnd := s.us + min busy 2000 }) s; u8 (u.lbl.mem.readN 4352 1) 0 ≠ 1 → exec (.mbxSubmit req busy) s = .next (frontEnd ⟨6, 0, 0⟩ 0 .label p (routePost 0x0B (lblAnswer [0] (lblStore 4352 ([1, 0] ++ slice p 6 2 ++ zeros 252) u))))) ∧
  (∀ (s : State) (req : Bytes) (q : FieldReq), Asked req q s → q.code = 0xA1 → q.args.length = 4 → u32 q.args 0 = s.lblWakeCode → s.lbl.barred ≤ s.us → s.pmc.st = .shelf → s.aon.wakeMask.testBit 3 = true → exec (.lblWake req) s = .next (wakeEvent 4 3 (modLbl (fun x => { x with wokeAt := some s.aon.rtcSec.toNat }) (lblAnswer [0] s)))) ∧
  (∀ (s : State) (req : Bytes) (q : FieldReq), Asked req q s → q.code = 0xA1 → q.args.length = 4 → u32 q.args 0 ≠ s.lblWakeCode → s.lbl.barred ≤ s.us → s.pmc.st ≠ .off → let w := s.lbl.wrong.filter (fun t => decide (s.us < t + 60000000)) ++ [s.us]; exec (.lblWake req) s = .next (lblErr 0xA4 (modLbl (fun x => if 4 ≤ w.length then { x with wrong := [], barred := s.us + 60000000 } else { x with wrong := w }) s))) ∧
  (∀ (s : State) (present : Bool), exec (.readerField present) s = .next (modLbl (fun x => { x with field := present, tag := if present then x.tag else 0 }) s)) ∧
  (∀ (s : State) (core : Nat), let x := s.lbl; x.done = true → inR x.count 1 64 = true → x.block + x.count ≤ 2048 → let u := modLbl (fun x => { x with done := false, status := 0 }) s; exec (.labelDeviceRead core) s = .next (lblSubmit { use := .warden core, addr := 4 * x.block, count := x.count } u)) ∧
  (∀ (s : State) (core : Nat), let x := s.lbl; x.done = true → inR x.count 1 64 = true → x.block + x.count ≤ 2048 → ((List.range x.count).map (x.block + ·)).all (fun b => lblOpen b && !x.locked.contains b) = true → let u := modLbl (fun x => { x with done := false, status := 0 }) s; exec (.labelDeviceWrite core) s = .next (lblSubmit { use := .warden core, addr := 4 * x.block, data := x.buf.take (4 * x.count) } u)) ∧
  (∀ (s : State) (core : Nat), let x := s.lbl; x.done = true → inR x.count 1 64 = true → x.block + x.count ≤ 2048 → ((List.range x.count).map (x.block + ·)).all (fun b => lblOpen b && !x.locked.contains b) = false → exec (.labelDeviceWrite core) s = .next (modLbl (fun x => { x with status := stDenied, done := true }) s)) ∧
  (∀ (s : State), exec (.labelDeferredRetry) s = .next (lblGo (modLbl (fun x => { x with fieldEnd := min x.fieldEnd s.us }) s))) ∧
  (∀ (s : State) (j : LblJob) (rest : List LblJob) (core t : Nat), s.lbl.jobs = j :: rest → j.running = false → j.since = some t → j.use = .warden core → let u := logEvent 24 0x8003 (detail [(16, 1, core), (18, 2, j.addr / 4)]) s; exec (.labelDeferTimeout) s = .next (lblGo (modLbl (fun x => { x with status := stTimeout, done := true }) (modLbl (fun x => { x with jobs := rest }) u)))) ∧
  (∀ (s : State) (j : LblJob) (rest : List LblJob), s.lbl.jobs = j :: rest → j.running = true → exec (.labelWriteCommit) s = .next (lblGo (jobEnd j stOk (lblStore j.addr j.data (modLbl (fun x => { x with jobs := rest }) s))))) ∧
  (∀ (s : State) (t : Nat), s.lbl.mirrorAt = some t → s.lbl.jobs = [] → s.lblField = false → s.lbl.mirrored < s.mirrorRecords.length → let u := logEvent 24 0x8002 (detail [(16, 1, s.lbl.mirrored)]) (modLbl (fun x => { x with jobs := [] }) s); exec (.mirrorTimeout) s = .next (mirrorOver (lblStore 2048 (identFull u.lbl.mirrored u) u)))

/-- For every command c, every queue rest and every state s: a step of s with c in front of rest runs c on s with rest as its queue; a step of s with an empty queue lets one microsecond pass (the model's choice, log 2 and log 7). -/
def Obligations.StepRunsFrontCommand : Prop :=
  (∀ (c : Instr) (rest : List Instr) (s : State), step { s with pending := c :: rest } = exec c { s with pending := rest }) ∧
  (∀ s : State, step { s with pending := [] } = .next (idleTick { s with pending := [] }))

/-- For every command c and every state s, exec c s answers a next state: no command stops the model with a fault or a refusal. That state holds the same queue of waiting commands and the same microseconds. -/
def Obligations.EveryCommandRuns : Prop :=
  ∀ (c : Instr) (s : State), ∃ t, exec c s = .next t ∧ t.pending = s.pending ∧ t.us = s.us

/-- Right after reset the event log is empty and its next number is 0, no command waits or runs, AON is unpowered with RTC_LOST set and the RTC at 0, the plant stop latch is set, PF0 and DEV have WEIGHT 16, TX_CAP_KIB 4,096 and ENG_CAP_KIB 16,384, the signal engine is stopped with the internal source, no coefficient record is staged, SIO_POUR_EXPECT is 0xFFFF_FFFF, SIO_POUR_RES and LBL_STAT show DONE, and every hardware lock is FREE. The empty queue of the model is its own (log 7). -/
def Obligations.ResetValues : Prop :=
  let s := State.reset
  s.pending = [] ∧ s.log.records = [] ∧ s.log.nextSeq = 0 ∧ s.cmd.queue = [] ∧ s.cmd.waits = [] ∧ s.aon.powered = false ∧ s.aon.rtcLost = true ∧
  s.aon.rtcSec = 0 ∧ s.aon.stopLatch = true ∧ (∀ i, i = 16 ∨ i = 17 → tget 0 s.net.weights i = 16 ∧ tget 0 s.net.txCaps i = 4096 ∧
  tget 0 s.net.engCaps i = 16384) ∧ s.sge.running = false ∧ s.sge.src = .internal ∧ (∀ d, s.acc d = 0) ∧ s.sio.staged = [] ∧
  s.sio.expect = 0xFFFFFFFF ∧ s.sio.resDone = true ∧ s.lbl.done = true ∧ ∀ n, (s.lock n).st = 0

/-- The byte memory of OTP in the reset state has rising addresses and lists no byte that is 0. -/
def Obligations.ResetOtpForm : Prop :=
  State.reset.otpWf

/-- For every state s whose OTP memory is in canonical form, and every state t that a step of s answers, the OTP memory of t is in canonical form. -/
def Obligations.OtpFormHolds : Prop :=
  ∀ s t : State, s.otpWf → step s = .next t → t.otpWf

/-- For every state s and every state t that a step of s answers, each bit of each OTP byte that is 1 in s is 1 in t, whatever command ran and however the programming went. -/
def Obligations.OtpBitsOnlySet : Prop :=
  ∀ s t : State, step s = .next t → s.otpGrew t

/-- For every state s, every state t that a step of s answers and every label block b that is locked in s, b is locked in t: no command, no reset and no loss of power unlocks it. -/
def Obligations.LabelLocksPermanent : Prop :=
  ∀ (s t : State) (b : Nat), step s = .next t → b ∈ s.lbl.locked → b ∈ t.lbl.locked

/-- For every command c that is not one of LCY_TRANSITION, OTP_SETTINGS_WRITE, FW_IMAGE_ACTIVATE, TRUST_ROLL, RPR_FENCE, RPR_UNFENCE and the end of a role's move, OTP is the same after c. For every command c that is not LOCK_BLOCK or EXTENDED_LOCK_SINGLE_BLOCK, the locked label blocks are the same after c. -/
def Obligations.OtpAndLockFrame : Prop :=
  ∀ (c : Instr) (s t : State), exec c s = .next t → (programsOtp c = false → t.otp = s.otp) ∧ (locksLabel c = false → t.lbl.locked = s.lbl.locked)

/-- For every state of SIO: after a discard the shadow bank is the active bank of before, no coefficient record and no configuration record is staged, and POUR_GEN and the active bank are as before. -/
def Obligations.PourDiscard : Prop :=
  ∀ x : Sio, (discardPour x).shadow = x.bank ∧ (discardPour x).bank = x.bank ∧ (discardPour x).staged = [] ∧ (discardPour x).configs = [] ∧
  (discardPour x).gen = x.gen

/-- For every instruction word w and every state whose accumulators lie in the range from -2^71 to 2^71 - 1, they lie in that range after w, and no accumulator but D of w has changed. Each write of a value v to accumulator d leaves v there where v is in the range and the nearer end of the range otherwise, and in that case, and only then, sets bit d of SGE_OVF_MASK and the OVF bit of SGE_FLAGS; every other bit of the two and every other accumulator is as before. -/
def Obligations.AccumulatorsSaturate : Prop :=
  (∀ (w : Nat) (s : State), s.accOk → (sgeDo w s).accOk) ∧ (∀ (w d : Nat) (s : State), d ≠ sgD w → (sgeDo w s).acc d = s.acc d) ∧
  ∀ (d : Nat) (v : Int) (s : State),
  (setAcc d v s).acc d = (if v < -(2 ^ 71) then -(2 ^ 71) else if 2 ^ 71 - 1 < v then 2 ^ 71 - 1 else v) ∧
  (∀ e, e ≠ d → (setAcc d v s).acc e = s.acc e) ∧
  (-(2 ^ 71) ≤ v ∧ v ≤ 2 ^ 71 - 1 → (setAcc d v s).sge.ovf = s.sge.ovf ∧ (setAcc d v s).sge.flags = s.sge.flags) ∧
  (v < -(2 ^ 71) ∨ 2 ^ 71 - 1 < v → (setAcc d v s).sge.ovf = s.sge.ovf ||| 2 ^ d ∧ (setAcc d v s).sge.flags = s.sge.flags ||| 1)

/-- For every row that issues an instruction of the signal engine, in every state: the coefficient banks, ports and result slots of SIO, the active and the staged program, the line pointers, the tick, the wardens, the ports of the switch, the domains and device memory are as before. Only WRD writes delay memory, and it writes the one word at tap 0 of its line; only OUT stages an output word, and only that of its port; only RES stages a result word, and only that of its slot and word. -/
def Obligations.EngineInstructionFrame : Prop :=
  ∀ (c : Instr) (op : Nat) (s t : State), sgeRow c = some op → exec c s = .next t →
  t.sio = s.sio ∧ t.sge.active = s.sge.active ∧ t.sge.staged = s.sge.staged ∧ t.sge.ptr = s.sge.ptr ∧ t.sge.tick = s.sge.tick ∧
  t.wdn = s.wdn ∧ t.net = s.net ∧ t.dom = s.dom ∧ t.mem = s.mem ∧
  (op ≠ 0x12 → t.sge.delay = s.sge.delay) ∧ (op ≠ 0x21 → t.sge.outs = s.sge.outs) ∧ (op ≠ 0x22 → t.sge.res = s.sge.res) ∧
  (∀ p w, NextWord p w s → sgOp w = 0x12 → ∀ base n, p.lines[sgLine w]? = some (base, n) →
    ∀ a, a ≠ base + tget 0 s.sge.ptr (sgLine w) → tget 0 t.sge.delay a = tget 0 s.sge.delay a) ∧
  (∀ p w, NextWord p w s → sgOp w = 0x21 → ∀ k, k ≠ sgPort w → t.sge.outs.lookup k = s.sge.outs.lookup k) ∧
  (∀ p w, NextWord p w s → sgOp w = 0x22 → ∀ k, k ≠ 8 * sgPort w + sgWord w → t.sge.res.lookup k = s.sge.res.lookup k)

/-- For every task: w0 reads 0, a write to w0 leaves the task as it is, a write of v to another register leaves v modulo 2^16 there, and it changes no other register. -/
def Obligations.ZeroRegister : Prop :=
  ∀ (t : WdTask) (n v : Nat), t.reg 0 = 0 ∧ t.setReg 0 v = t ∧ (n ≠ 0 → (t.setReg n v).reg n = v % 65536) ∧ ∀ m, m ≠ n → (t.setReg n v).reg m = t.reg m

/-- For every row of a Fenuith instruction that only computes a register, when core c issues that instruction for task k of role r: no register of any task but D of that task changes, no return stack and no context field but the PC and the task's place in the schedule changes, no word of any core's code or data memory changes, and locks, timers of other roles, ports, domains and device memory are as before. -/
def Obligations.WardenComputeFrame : Prop :=
  ∀ (cmd : Instr) (op : FenOp) (c r k : Nat) (i : FenIns) (s t : State), fenCompute cmd = some (op, c) → Issues c r k i s → i.op = op → exec cmd s = .next t →
  (∀ q m n, q ≠ r ∨ m ≠ k ∨ n ≠ i.d → (t.task q m).reg n = (s.task q m).reg n) ∧
  (∀ q m, (t.task q m).stack = (s.task q m).stack ∧ (t.task q m).rsp = (s.task q m).rsp ∧ (t.task q m).rsc = (s.task q m).rsc ∧
    (t.task q m).slim = (s.task q m).slim ∧ (t.task q m).pending = (s.task q m).pending ∧ (t.task q m).epoch = (s.task q m).epoch) ∧
  (∀ j, (t.core j).data = (s.core j).data ∧ (t.core j).code = (s.core j).code ∧ (t.core j).win = (s.core j).win) ∧
  t.wdn.locks = s.wdn.locks ∧ (∀ q, (t.role q).timers = (s.role q).timers) ∧ t.net = s.net ∧ t.dom = s.dom ∧ t.mem = s.mem ∧ t.log = s.log

/-- When core c issues ST for task k of role r, in any state: the word at address w_A + IMM modulo 2^16 of that core's data memory holds w_D afterwards, every other word of it and every word of the other cores' data memory and of every code memory is as before, and no register of any task changes. -/
def Obligations.WardenStoreFrame : Prop :=
  ∀ (c r k : Nat) (i : FenIns) (s t : State), Issues c r k i s → i.op = .st → exec (.fenSt c) s = .next t →
  let a := ((s.task r k).reg i.a + i.imm) % 65536
  tget 0 (t.core c).data a = (s.task r k).reg i.d ∧
  (∀ j b, j ≠ c ∨ b ≠ a → tget 0 (t.core j).data b = tget 0 (s.core j).data b) ∧ (∀ j, (t.core j).code = (s.core j).code) ∧
  (∀ q m n, (t.task q m).reg n = (s.task q m).reg n) ∧ t.wdn.locks = s.wdn.locks ∧ t.net = s.net ∧ t.mem = s.mem

/-- For every agent with a holder identity and every lock: a write to LCK_REL by the holder of a HELD lock makes it FREE and leaves every other lock and the log as they are; any other write leaves every lock as it is, and the log too where BAD_RELEASE was written for that lock within the last 1 ms; otherwise, while the log runs, the newest record of the log is BAD_RELEASE, and the next 1 ms is barred for that lock. -/
def Obligations.LockRelease : Prop :=
  ∀ (s t : State) (reader n h : Nat), s.holderOf reader = some h → n ≤ 63 → exec (.lckRel reader n) s = .next t →
  let fresh (u : State) : Bool := u.log.stamps.any fun x => x.source == 19 && x.code == 0x8002 && x.key == n && decide (u.us < x.at_ + 1000)
  ((s.lock n).st = 1 ∧ (s.lock n).holder = h → (t.lock n).st = 0 ∧ (∀ m, m ≠ n → t.lock m = s.lock m) ∧ t.log = s.log) ∧
  (¬((s.lock n).st = 1 ∧ (s.lock n).holder = h) → t.wdn = s.wdn ∧ (fresh s = true → t = s) ∧
    (fresh s = false → fresh t = true ∧ (s.awake = true → ∃ x ∈ t.log.records.getLast?, x.source = 19 ∧ x.code = 0x8002)))

/-- For every bank that is ON and every event of n < 2^48 of its group and scope: the counter's COUNT is the sum modulo 2^48, WRAPS is one more where the sum reaches 2^48 and as before otherwise, and it stays at 0x7FFF once there; while WRAPS is below 0x7FFF, WRAPS x 2^48 + COUNT has grown by n. Every other counter of the bank is as before. -/
def Obligations.CounterWrap : Prop :=
  ∀ (s : State) (b c n : Nat), (s.bank b).on = true → n < 2 ^ 48 →
  let x := s.bank b; let y := (countEv x.group x.scope c n s).bank b; let k := if byteCounter x.group c then n else 1
  let old : Nat × Nat := tget (0, 0) x.counts c; let new : Nat × Nat := tget (0, 0) y.counts c
  old.1 < 2 ^ 48 → old.2 ≤ 0x7FFF →
  new.1 = (old.1 + k) % 2 ^ 48 ∧ new.2 = min 0x7FFF (if old.1 + k < 2 ^ 48 then old.2 else old.2 + 1) ∧
  (new.2 < 0x7FFF → new.2 * 2 ^ 48 + new.1 = old.2 * 2 ^ 48 + old.1 + k) ∧ (∀ i, i ≠ c → tget (0, 0) y.counts i = tget (0, 0) x.counts i)

/-- Take any state in which no wrong code is counted and WAKE is not barred, and four WAKE requests with wrong codes of which the last comes less than 60 s after the first, with only time passing between them. Then for 60 s after the last, whatever the code, every WAKE outside OFF is answered with error 0xA4 and nothing else happens. -/
def Obligations.LabelWakeLockout : Prop :=
  ∀ (s0 s1 s2 s3 s4 : State) (u1 u2 u3 u4 : Nat) (req : Bytes) (q : FieldReq),
  s0.lbl.wrong = [] → s0.lbl.barred ≤ s0.us → WrongWake s0 s1 → WrongWake { s1 with us := u1 } s2 → WrongWake { s2 with us := u2 } s3 →
  WrongWake { s3 with us := u3 } s4 → s0.us ≤ u1 → u1 ≤ u2 → u2 ≤ u3 → u3 < s0.us + 60000000 → u3 ≤ u4 → u4 < u3 + 60000000 →
  Asked req q { s4 with us := u4 } → q.code = 0xA1 → q.args.length = 4 → s4.pmc.st ≠ .off →
  exec (.lblWake req) { s4 with us := u4 } = .next (lblErr 0xA4 { s4 with us := u4 })

/-- For every write command of the field, in every state: the locks are as before, no byte of a block that is locked or that its area does not let the field write changes, and where the label takes the request, no byte outside the blocks that the request names changes. -/
def Obligations.LabelWriteFrame : Prop :=
  ∀ (c : Instr) (req : Bytes) (s t : State), writesLabel c = some req → exec c s = .next t →
  t.lbl.locked = s.lbl.locked ∧
  (∀ a, (lblOpen (a / 4) && !s.lbl.locked.contains (a / 4)) = false → t.lbl.mem.read a = s.lbl.mem.read a) ∧
  ∀ q, Asked req q s → let w := if 0x30 ≤ q.code then 2 else 1; let first := leAt q.args 0 w
    let n := if q.code % 16 = 4 then leAt q.args w w + 1 else 1
    ∀ a, a < 4 * first ∨ 4 * (first + n) ≤ a → t.lbl.mem.read a = s.lbl.mem.read a

/-- For every domain with memory and every state: when the domain becomes GATED or FENCED, every byte of its memory reads 0 from then on, no word of it counts as written, and every byte of the other memories is as before. -/
def Obligations.MemoryWiped : Prop :=
  ∀ (s : State) (d lo hi : Nat) (v : Domain), memRange d = some (lo, hi) → v.st = .gated ∨ v.st = .fenced →
  (∀ a, lo ≤ a → a < hi → (setDomain d v s).mem.bytes.read a = 0 ∧ a ∉ (setDomain d v s).mem.known) ∧
  (∀ a, a < lo ∨ hi ≤ a → (setDomain d v s).mem.bytes.read a = s.mem.bytes.read a) ∧ (setDomain d v s).domain d = v ∧
  ∀ e, e ≠ d → (setDomain d v s).domain e = s.domain e
end

