-- ==== Sys2Proof/Laws/Exec.lean ====
section
/-!
SUPPORT. Sys2Proof/Laws/Exec.lean: exec of each command is that command's meaning, one equation each.
-/
namespace Sys2Proof.Machine
open Sys2Proof

@[simp] theorem exec_powerOn (s : State) : exec (.powerOn) s = execPowerOn s := rfl
@[simp] theorem exec_vinOkHold (s : State) : exec (.vinOkHold) s = execVinOkHold s := rfl
@[simp] theorem exec_powerUpStart (s : State) : exec (.powerUpStart) s = execPowerUpStart s := rfl
@[simp] theorem exec_ibPgoodTimeout (s : State) : exec (.ibPgoodTimeout) s = execIbPgoodTimeout s := rfl
@[simp] theorem exec_ibcRetry (s : State) : exec (.ibcRetry) s = execIbcRetry s := rfl
@[simp] theorem exec_brownOut (s : State) : exec (.brownOut) s = execBrownOut s := rfl
@[simp] theorem exec_vinLow (vin : Nat) (s : State) : exec (.vinLow vin) s = execVinLow vin s := rfl
@[simp] theorem exec_vinOv (set : Bool) (vin : Nat) (s : State) : exec (.vinOv set vin) s = execVinOv set vin s := rfl
@[simp] theorem exec_pfailSet (vbus : Nat) (s : State) : exec (.pfailSet vbus) s = execPfailSet vbus s := rfl
@[simp] theorem exec_pfailClear (vbus : Nat) (s : State) : exec (.pfailClear vbus) s = execPfailClear vbus s := rfl
@[simp] theorem exec_graceTimerExpiry (s : State) : exec (.graceTimerExpiry) s = execGraceTimerExpiry s := rfl
@[simp] theorem exec_holdLimitExpiry (s : State) : exec (.holdLimitExpiry) s = execHoldLimitExpiry s := rfl
@[simp] theorem exec_drainEnd (s : State) : exec (.drainEnd) s = execDrainEnd s := rfl
@[simp] theorem exec_waitingTransitionTaken (s : State) : exec (.waitingTransitionTaken) s = execWaitingTransitionTaken s := rfl
@[simp] theorem exec_shelfEntry (s : State) : exec (.shelfEntry) s = execShelfEntry s := rfl
@[simp] theorem exec_shelfRailsDown (s : State) : exec (.shelfRailsDown) s = execShelfRailsDown s := rfl
@[simp] theorem exec_railFault (rail : Nat) (mirrorOk : Bool) (s : State) : exec (.railFault rail mirrorOk) s = execRailFault rail mirrorOk s := rfl
@[simp] theorem exec_vcorePhaseAdd (s : State) : exec (.vcorePhaseAdd) s = execVcorePhaseAdd s := rfl
@[simp] theorem exec_vcorePhaseShed (phase : Nat) (s : State) : exec (.vcorePhaseShed phase) s = execVcorePhaseShed phase s := rfl
@[simp] theorem exec_rtcAlarmWake (s : State) : exec (.rtcAlarmWake) s = execRtcAlarmWake s := rfl
@[simp] theorem exec_wakeNWake (s : State) : exec (.wakeNWake) s = execWakeNWake s := rfl
@[simp] theorem exec_vbusReturnSample (clear : Bool) (s : State) : exec (.vbusReturnSample clear) s = execVbusReturnSample clear s := rfl
@[simp] theorem exec_vinRecoveryWake (s : State) : exec (.vinRecoveryWake) s = execVinRecoveryWake s := rfl
@[simp] theorem exec_domainSwitchDone (d : Nat) (s : State) : exec (.domainSwitchDone d) s = execDomainSwitchDone d s := rfl
@[simp] theorem exec_domainPowerGoodTimeout (d : Nat) (s : State) : exec (.domainPowerGoodTimeout d) s = execDomainPowerGoodTimeout d s := rfl
@[simp] theorem exec_idleGateTimeout (d : Nat) (s : State) : exec (.idleGateTimeout d) s = execIdleGateTimeout d s := rfl
@[simp] theorem exec_ddrRegionWiped (ch : Nat) (s : State) : exec (.ddrRegionWiped ch) s = execDdrRegionWiped ch s := rfl
@[simp] theorem exec_resetNRegistered (s : State) : exec (.resetNRegistered) s = execResetNRegistered s := rfl
@[simp] theorem exec_resetNReleased (diode : Int) (s : State) : exec (.resetNReleased diode) s = execResetNReleased diode s := rfl
@[simp] theorem exec_hkRoundStart (s : State) : exec (.hkRoundStart) s = execHkRoundStart s := rfl
@[simp] theorem exec_hkConversion (value : Nat) (pmb : Option (Nat × Bool)) (s : State) : exec (.hkConversion value pmb) s = execHkConversion value pmb s := rfl
@[simp] theorem exec_hkPublication (hot : Option (Nat × Nat × Nat)) (short0 short1 : Bool) (s : State) : exec (.hkPublication hot short0 short1) s = execHkPublication hot short0 short1 s := rfl
@[simp] theorem exec_trimSlewStep (s : State) : exec (.trimSlewStep) s = execTrimSlewStep s := rfl
@[simp] theorem exec_clockLoss (pll : Bool) (s : State) : exec (.clockLoss pll) s = execClockLoss pll s := rfl
@[simp] theorem exec_refclkLost (which : Nat) (s : State) : exec (.refclkLost which) s = execRefclkLost which s := rfl
@[simp] theorem exec_refclkReturn (which : Nat) (s : State) : exec (.refclkReturn which) s = execRefclkReturn which s := rfl
@[simp] theorem exec_ddrPllUnlock (ch : Nat) (s : State) : exec (.ddrPllUnlock ch) s = execDdrPllUnlock ch s := rfl
@[simp] theorem exec_ddrPllRelockTimeout (ch : Nat) (relocked : Bool) (s : State) : exec (.ddrPllRelockTimeout ch relocked) s = execDdrPllRelockTimeout ch relocked s := rfl
@[simp] theorem exec_commandTimeout (opcode : Nat) (s : State) : exec (.commandTimeout opcode) s = execCommandTimeout opcode s := rfl
@[simp] theorem exec_throttleEnd (cls ident sub : Nat) (s : State) : exec (.throttleEnd cls ident sub) s = execThrottleEnd cls ident sub s := rfl
@[simp] theorem exec_chainTimeout (cls ident sub : Nat) (s : State) : exec (.chainTimeout cls ident sub) s = execChainTimeout cls ident sub s := rfl
@[simp] theorem exec_dcwGo (size : Nat) (s : State) : exec (.dcwGo size) s = execDcwGo size s := rfl
@[simp] theorem exec_resultCountingRead (win reader : Nat) (s : State) : exec (.resultCountingRead win reader) s = execResultCountingRead win reader s := rfl
@[simp] theorem exec_devIdentify (s : State) : exec (.devIdentify) s = execDevIdentify s := rfl
@[simp] theorem exec_devReset (s : State) : exec (.devReset) s = execDevReset s := rfl
@[simp] theorem exec_devResetWStart (diode : Int) (s : State) : exec (.devResetWStart diode) s = execDevResetWStart diode s := rfl
@[simp] theorem exec_logRead (s : State) : exec (.logRead) s = execLogRead s := rfl
@[simp] theorem exec_devEcho (s : State) : exec (.devEcho) s = execDevEcho s := rfl
@[simp] theorem exec_hkpStatus (s : State) : exec (.hkpStatus) s = execHkpStatus s := rfl
@[simp] theorem exec_hkpThresholdsSet (s : State) : exec (.hkpThresholdsSet) s = execHkpThresholdsSet s := rfl
@[simp] theorem exec_clkStatus (s : State) : exec (.clkStatus) s = execClkStatus s := rfl
@[simp] theorem exec_pwrStateGet (s : State) : exec (.pwrStateGet) s = execPwrStateGet s := rfl
@[simp] theorem exec_pwrStateSet (s : State) : exec (.pwrStateSet) s = execPwrStateSet s := rfl
@[simp] theorem exec_shelfReplyDelivered (s : State) : exec (.shelfReplyDelivered) s = execShelfReplyDelivered s := rfl
@[simp] theorem exec_pwrDomainGet (s : State) : exec (.pwrDomainGet) s = execPwrDomainGet s := rfl
@[simp] theorem exec_pwrDomainSet (s : State) : exec (.pwrDomainSet) s = execPwrDomainSet s := rfl
@[simp] theorem exec_pwrConverterCfg (s : State) : exec (.pwrConverterCfg) s = execPwrConverterCfg s := rfl
@[simp] theorem exec_rtcGet (s : State) : exec (.rtcGet) s = execRtcGet s := rfl
@[simp] theorem exec_rtcSet (s : State) : exec (.rtcSet) s = execRtcSet s := rfl
@[simp] theorem exec_perstNAssert (s : State) : exec (.perstNAssert) s = execPerstNAssert s := rfl
@[simp] theorem exec_perstNDeassert (s : State) : exec (.perstNDeassert) s = execPerstNDeassert s := rfl
@[simp] theorem exec_hotResetReceived (s : State) : exec (.hotResetReceived) s = execHotResetReceived s := rfl
@[simp] theorem exec_linkDlDown (s : State) : exec (.linkDlDown) s = execLinkDlDown s := rfl
@[simp] theorem exec_linkTrainingStart (s : State) : exec (.linkTrainingStart) s = execLinkTrainingStart s := rfl
@[simp] theorem exec_configRequest (f : Nat) (reg : CfgReg) (write : Option Nat) (s : State) : exec (.configRequest f reg write) s = execConfigRequest f reg write s := rfl
@[simp] theorem exec_flrStart (f : Nat) (s : State) : exec (.flrStart f) s = execFlrStart f s := rfl
@[simp] theorem exec_flrComplete (f : Nat) (s : State) : exec (.flrComplete f) s = execFlrComplete f s := rfl
@[simp] theorem exec_vfEnableClear (s : State) : exec (.vfEnableClear) s = execVfEnableClear s := rfl
@[simp] theorem exec_dmaReadCompletion (tag : Nat) (good : Bool) (s : State) : exec (.dmaReadCompletion tag good) s = execDmaReadCompletion tag good s := rfl
@[simp] theorem exec_completionTimeout (tag : Nat) (s : State) : exec (.completionTimeout tag) s = execCompletionTimeout tag s := rfl
@[simp] theorem exec_atsInvalidation (f tag : Nat) (page : Option Nat) (s : State) : exec (.atsInvalidation f tag page) s = execAtsInvalidation f tag page s := rfl
@[simp] theorem exec_msixPendingSend (f v : Nat) (s : State) : exec (.msixPendingSend f v) s = execMsixPendingSend f v s := rfl
@[simp] theorem exec_mgtEventWrite (bits also : Nat) (s : State) : exec (.mgtEventWrite bits also) s = execMgtEventWrite bits also s := rfl
@[simp] theorem exec_mgtDmafCountRead (reader : Nat) (s : State) : exec (.mgtDmafCountRead reader) s = execMgtDmafCountRead reader s := rfl
@[simp] theorem exec_tntCharterSet (s : State) : exec (.tntCharterSet) s = execTntCharterSet s := rfl
@[simp] theorem exec_tntCharterGet (s : State) : exec (.tntCharterGet) s = execTntCharterGet s := rfl
@[simp] theorem exec_tntStateSet (s : State) : exec (.tntStateSet) s = execTntStateSet s := rfl
@[simp] theorem exec_tntReset (s : State) : exec (.tntReset) s = execTntReset s := rfl
@[simp] theorem exec_tntVfBind (s : State) : exec (.tntVfBind) s = execTntVfBind s := rfl
@[simp] theorem exec_qenDb (f loc value : Nat) (s : State) : exec (.qenDb f loc value) s = execQenDb f loc value s := rfl
@[simp] theorem exec_qenCqDb (f loc value : Nat) (s : State) : exec (.qenCqDb f loc value) s = execQenCqDb f loc value s := rfl
@[simp] theorem exec_pollTimerExpiry (g : Nat) (s : State) : exec (.pollTimerExpiry g) s = execPollTimerExpiry g s := rfl
@[simp] theorem exec_pollReadCompletion (g tail head : Nat) (s : State) : exec (.pollReadCompletion g tail head) s = execPollReadCompletion g tail head s := rfl
@[simp] theorem exec_fetchIssue (g : Nat) (s : State) : exec (.fetchIssue g) s = execFetchIssue g s := rfl
@[simp] theorem exec_fetchReadFailed (g : Nat) (s : State) : exec (.fetchReadFailed g) s = execFetchReadFailed g s := rfl
@[simp] theorem exec_entryNop (g : Nat) (entry : Bytes) (s : State) : exec (.entryNop g entry) s = execEntryNop g entry s := rfl
@[simp] theorem exec_entryPacket (g : Nat) (entry : Bytes) (data : List (Option Bytes)) (s : State) : exec (.entryPacket g entry data) s = execEntryPacket g entry data s := rfl
@[simp] theorem exec_entryTx (g : Nat) (entry : Bytes) (data : List (Option Bytes)) (s : State) : exec (.entryTx g entry data) s = execEntryTx g entry data s := rfl
@[simp] theorem exec_entryRxPost (g : Nat) (entry : Bytes) (s : State) : exec (.entryRxPost g entry) s = execEntryRxPost g entry s := rfl
@[simp] theorem exec_moderationTimerExpiry (g : Nat) (s : State) : exec (.moderationTimerExpiry g) s = execModerationTimerExpiry g s := rfl
@[simp] theorem exec_ringCreate (s : State) : exec (.ringCreate) s = execRingCreate s := rfl
@[simp] theorem exec_ringDestroy (s : State) : exec (.ringDestroy) s = execRingDestroy s := rfl
@[simp] theorem exec_ringDrained (g : Nat) (s : State) : exec (.ringDrained g) s = execRingDrained g s := rfl
@[simp] theorem exec_ringNotifySet (s : State) : exec (.ringNotifySet) s = execRingNotifySet s := rfl
@[simp] theorem exec_cadWAlloc (core len256 : Nat) (s : State) : exec (.cadWAlloc core len256) s = execCadWAlloc core len256 s := rfl
@[simp] theorem exec_cadWFree (core : Nat) (s : State) : exec (.cadWFree core) s = execCadWFree core s := rfl
@[simp] theorem exec_waitingAllocServed (s : State) : exec (.waitingAllocServed) s = execWaitingAllocServed s := rfl
@[simp] theorem exec_engineWaitTimeout (n : Nat) (s : State) : exec (.engineWaitTimeout n) s = execEngineWaitTimeout n s := rfl
@[simp] theorem exec_cacheRefill (pool : Nat) (s : State) : exec (.cacheRefill pool) s = execCacheRefill pool s := rfl
@[simp] theorem exec_caddyWipeDone (pool : Nat) (s : State) : exec (.caddyWipeDone pool) s = execCaddyWipeDone pool s := rfl
@[simp] theorem exec_cadPoolCreate (s : State) : exec (.cadPoolCreate) s = execCadPoolCreate s := rfl
@[simp] theorem exec_cadPoolDestroy (s : State) : exec (.cadPoolDestroy) s = execCadPoolDestroy s := rfl
@[simp] theorem exec_poolReleased (pool : Nat) (s : State) : exec (.poolReleased pool) s = execPoolReleased pool s := rfl
@[simp] theorem exec_cadPoolStatus (s : State) : exec (.cadPoolStatus) s = execCadPoolStatus s := rfl
@[simp] theorem exec_frameReceived (p : Nat) (bytes : Bytes) (phyErr : Bool) (fec : Nat × Nat) (s : State) : exec (.frameReceived p bytes phyErr fec) s = execFrameReceived p bytes phyErr fec s := rfl
@[simp] theorem exec_pauseTimeExpiry (p cls : Nat) (s : State) : exec (.pauseTimeExpiry p cls) s = execPauseTimeExpiry p cls s := rfl
@[simp] theorem exec_pauseGeneration (p : Nat) (s : State) : exec (.pauseGeneration p) s = execPauseGeneration p s := rfl
@[simp] theorem exec_pauseRefresh (p : Nat) (s : State) : exec (.pauseRefresh p) s = execPauseRefresh p s := rfl
@[simp] theorem exec_frameTransmit (k : Nat) (s : State) : exec (.frameTransmit k) s = execFrameTransmit k s := rfl
@[simp] theorem exec_anComplete (p result fec : Nat) (pause eee : Bool) (s : State) : exec (.anComplete p result fec pause eee) s = execAnComplete p result fec pause eee s := rfl
@[simp] theorem exec_anRestart (p : Nat) (s : State) : exec (.anRestart p) s = execAnRestart p s := rfl
@[simp] theorem exec_portLinkChange (p what : Nat) (s : State) : exec (.portLinkChange p what) s = execPortLinkChange p what s := rfl
@[simp] theorem exec_lldpTimer (p : Nat) (s : State) : exec (.lldpTimer p) s = execLldpTimer p s := rfl
@[simp] theorem exec_lacpduReceived (p : Nat) (pdu : Bytes) (s : State) : exec (.lacpduReceived p pdu) s = execLacpduReceived p pdu s := rfl
@[simp] theorem exec_lacpPeriodic (p : Nat) (s : State) : exec (.lacpPeriodic p) s = execLacpPeriodic p s := rfl
@[simp] theorem exec_parkWindowEnd (a : Nat) (s : State) : exec (.parkWindowEnd a) s = execParkWindowEnd a s := rfl
@[simp] theorem exec_parkDrainDone (p : Nat) (s : State) : exec (.parkDrainDone p) s = execParkDrainDone p s := rfl
@[simp] theorem exec_deepPendingEnd (p : Nat) (s : State) : exec (.deepPendingEnd p) s = execDeepPendingEnd p s := rfl
@[simp] theorem exec_memberActive (p : Nat) (s : State) : exec (.memberActive p) s = execMemberActive p s := rfl
@[simp] theorem exec_wakeLate (p : Nat) (s : State) : exec (.wakeLate p) s = execWakeLate p s := rfl
@[simp] theorem exec_failedMemberRetry (p : Nat) (s : State) : exec (.failedMemberRetry p) s = execFailedMemberRetry p s := rfl
@[simp] theorem exec_eeeTlvExpiry (p : Nat) (s : State) : exec (.eeeTlvExpiry p) s = execEeeTlvExpiry p s := rfl
@[simp] theorem exec_portModeSet (s : State) : exec (.portModeSet) s = execPortModeSet s := rfl
@[simp] theorem exec_portStatus (s : State) : exec (.portStatus) s = execPortStatus s := rfl
@[simp] theorem exec_portPauseSet (s : State) : exec (.portPauseSet) s = execPortPauseSet s := rfl
@[simp] theorem exec_portParkSet (s : State) : exec (.portParkSet) s = execPortParkSet s := rfl
@[simp] theorem exec_switchLookup (id : Nat) (s : State) : exec (.switchLookup id) s = execSwitchLookup id s := rfl
@[simp] theorem exec_verdictArrival (id : Nat) (s : State) : exec (.verdictArrival id) s = execVerdictArrival id s := rfl
@[simp] theorem exec_swxTableWrite (s : State) : exec (.swxTableWrite) s = execSwxTableWrite s := rfl
@[simp] theorem exec_swxTableCommit (s : State) : exec (.swxTableCommit) s = execSwxTableCommit s := rfl
@[simp] theorem exec_swxMirrorSet (s : State) : exec (.swxMirrorSet) s = execSwxMirrorSet s := rfl
@[simp] theorem exec_pointServe (k : Nat) (s : State) : exec (.pointServe k) s = execPointServe k s := rfl
@[simp] theorem exec_schWeightsSet (s : State) : exec (.schWeightsSet) s = execSchWeightsSet s := rfl
@[simp] theorem exec_schLimitsSet (s : State) : exec (.schLimitsSet) s = execSchLimitsSet s := rfl
@[simp] theorem exec_cryptoItemDone (id : Nat) (s : State) : exec (.cryptoItemDone id) s = execCryptoItemDone id s := rfl
@[simp] theorem exec_entryXtsEnc (g : Nat) (entry : Bytes) (data : List (Option Bytes)) (s : State) : exec (.entryXtsEnc g entry data) s = execEntryXtsEnc g entry data s := rfl
@[simp] theorem exec_entryXtsDec (g : Nat) (entry : Bytes) (data : List (Option Bytes)) (s : State) : exec (.entryXtsDec g entry data) s = execEntryXtsDec g entry data s := rfl
@[simp] theorem exec_drbgReseed (s : State) : exec (.drbgReseed) s = execDrbgReseed s := rfl
@[simp] theorem exec_drbgHealthFailure (cause : Nat) (s : State) : exec (.drbgHealthFailure cause) s = execDrbgHealthFailure cause s := rfl
@[simp] theorem exec_keyLoad (s : State) : exec (.keyLoad) s = execKeyLoad s := rfl
@[simp] theorem exec_keyErase (s : State) : exec (.keyErase) s = execKeyErase s := rfl
@[simp] theorem exec_keyKekSet (s : State) : exec (.keyKekSet) s = execKeyKekSet s := rfl
@[simp] theorem exec_crySaAdd (s : State) : exec (.crySaAdd) s = execCrySaAdd s := rfl
@[simp] theorem exec_crySaDel (s : State) : exec (.crySaDel) s = execCrySaDel s := rfl
@[simp] theorem exec_drbgStatus (s : State) : exec (.drbgStatus) s = execDrbgStatus s := rfl
@[simp] theorem exec_entryConnAttach (g : Nat) (entry : Bytes) (data : List (Option Bytes)) (s : State) : exec (.entryConnAttach g entry data) s = execEntryConnAttach g entry data s := rfl
@[simp] theorem exec_entryConnDetach (g : Nat) (entry : Bytes) (data : List (Option Bytes)) (s : State) : exec (.entryConnDetach g entry data) s = execEntryConnDetach g entry data s := rfl
@[simp] theorem exec_detachAcked (h : Nat) (s : State) : exec (.detachAcked h) s = execDetachAcked h s := rfl
@[simp] theorem exec_detachTimeout (h : Nat) (s : State) : exec (.detachTimeout h) s = execDetachTimeout h s := rfl
@[simp] theorem exec_entryConnRekey (g : Nat) (entry : Bytes) (data : List (Option Bytes)) (s : State) : exec (.entryConnRekey g entry data) s = execEntryConnRekey g entry data s := rfl
@[simp] theorem exec_entryStoPost (g : Nat) (entry : Bytes) (data : List (Option Bytes)) (s : State) : exec (.entryStoPost g entry data) s = execEntryStoPost g entry data s := rfl
@[simp] theorem exec_entryTgtResp (g : Nat) (entry : Bytes) (data : List (Option Bytes)) (s : State) : exec (.entryTgtResp g entry data) s = execEntryTgtResp g entry data s := rfl
@[simp] theorem exec_entryIniCmd (g : Nat) (entry : Bytes) (data : List (Option Bytes)) (s : State) : exec (.entryIniCmd g entry data) s = execEntryIniCmd g entry data s := rfl
@[simp] theorem exec_tcpSegmentReceived (id : Nat) (s : State) : exec (.tcpSegmentReceived id) s = execTcpSegmentReceived id s := rfl
@[simp] theorem exec_retransmissionTimeout (h : Nat) (s : State) : exec (.retransmissionTimeout h) s = execRetransmissionTimeout h s := rfl
@[simp] theorem exec_capsuleCmd (h : Nat) (s : State) : exec (.capsuleCmd h) s = execCapsuleCmd h s := rfl
@[simp] theorem exec_capsuleResp (h : Nat) (s : State) : exec (.capsuleResp h) s = execCapsuleResp h s := rfl
@[simp] theorem exec_h2cData (h : Nat) (s : State) : exec (.h2cData h) s = execH2cData h s := rfl
@[simp] theorem exec_c2hData (h : Nat) (s : State) : exec (.c2hData h) s = execC2hData h s := rfl
@[simp] theorem exec_termReq (h : Nat) (s : State) : exec (.termReq h) s = execTermReq h s := rfl
@[simp] theorem exec_rocePacketReceived (id : Nat) (s : State) : exec (.rocePacketReceived id) s = execRocePacketReceived id s := rfl
@[simp] theorem exec_cnpReceived (id : Nat) (s : State) : exec (.cnpReceived id) s = execCnpReceived id s := rfl
@[simp] theorem exec_roceRateRecovery (h : Nat) (s : State) : exec (.roceRateRecovery h) s = execRoceRateRecovery h s := rfl
@[simp] theorem exec_driveSubmit (d : Nat) (s : State) : exec (.driveSubmit d) s = execDriveSubmit d s := rfl
@[simp] theorem exec_driveCqPoll (d : Nat) (cqes : Option Bytes) (data recs : List (Option Bytes)) (s : State) : exec (.driveCqPoll d cqes data recs) s = execDriveCqPoll d cqes data recs s := rfl
@[simp] theorem exec_driveTimeout (d slot : Nat) (s : State) : exec (.driveTimeout d slot) s = execDriveTimeout d slot s := rfl
@[simp] theorem exec_stoTargetCfg (s : State) : exec (.stoTargetCfg) s = execStoTargetCfg s := rfl
@[simp] theorem exec_stoNsSet (s : State) : exec (.stoNsSet) s = execStoNsSet s := rfl
@[simp] theorem exec_stoConnStatus (s : State) : exec (.stoConnStatus) s = execStoConnStatus s := rfl
@[simp] theorem exec_entryFixEncode (g : Nat) (entry : Bytes) (data : List (Option Bytes)) (s : State) : exec (.entryFixEncode g entry data) s = execEntryFixEncode g entry data s := rfl
@[simp] theorem exec_fixVerifyEntry (g : Nat) (entry : Bytes) (data : List (Option Bytes)) (s : State) : exec (.fixVerifyEntry g entry data) s = execFixVerifyEntry g entry data s := rfl
@[simp] theorem exec_fixRepairEntry (g : Nat) (entry : Bytes) (data : List (Option Bytes)) (s : State) : exec (.fixRepairEntry g entry data) s = execFixRepairEntry g entry data s := rfl
@[simp] theorem exec_entryFixMigrate (g : Nat) (entry : Bytes) (data : List (Option Bytes)) (s : State) : exec (.entryFixMigrate g entry data) s = execEntryFixMigrate g entry data s := rfl
@[simp] theorem exec_fixJobDone (id : Nat) (data : List (Option Bytes)) (s : State) : exec (.fixJobDone id data) s = execFixJobDone id data s := rfl
@[simp] theorem exec_scrubStripe (n : Nat) (s : State) : exec (.scrubStripe n) s = execScrubStripe n s := rfl
@[simp] theorem exec_fixVerify (s : State) : exec (.fixVerify) s = execFixVerify s := rfl
@[simp] theorem exec_fixRepair (s : State) : exec (.fixRepair) s = execFixRepair s := rfl
@[simp] theorem exec_fixScrubSet (s : State) : exec (.fixScrubSet) s = execFixScrubSet s := rfl
@[simp] theorem exec_fixRsCfg (s : State) : exec (.fixRsCfg) s = execFixRsCfg s := rfl
@[simp] theorem exec_tickBoundary (s : State) : exec (.tickBoundary) s = execTickBoundary s := rfl
@[simp] theorem exec_frameSyncEdge (d : Nat) (s : State) : exec (.frameSyncEdge d) s = execFrameSyncEdge d s := rfl
@[simp] theorem exec_missedFrame (s : State) : exec (.missedFrame) s = execMissedFrame s := rfl
@[simp] theorem exec_sgeNop (s : State) : exec (.sgeNop) s = execSgeNop s := rfl
@[simp] theorem exec_sgeClr (s : State) : exec (.sgeClr) s = execSgeClr s := rfl
@[simp] theorem exec_sgeMov (s : State) : exec (.sgeMov) s = execSgeMov s := rfl
@[simp] theorem exec_sgeAdd (s : State) : exec (.sgeAdd) s = execSgeAdd s := rfl
@[simp] theorem exec_sgeSub (s : State) : exec (.sgeSub) s = execSgeSub s := rfl
@[simp] theorem exec_sgeNeg (s : State) : exec (.sgeNeg) s = execSgeNeg s := rfl
@[simp] theorem exec_sgeAbs (s : State) : exec (.sgeAbs) s = execSgeAbs s := rfl
@[simp] theorem exec_sgeMin (s : State) : exec (.sgeMin) s = execSgeMin s := rfl
@[simp] theorem exec_sgeMax (s : State) : exec (.sgeMax) s = execSgeMax s := rfl
@[simp] theorem exec_sgeAsh (s : State) : exec (.sgeAsh) s = execSgeAsh s := rfl
@[simp] theorem exec_sgeCsel (s : State) : exec (.sgeCsel) s = execSgeCsel s := rfl
@[simp] theorem exec_sgeClamp (s : State) : exec (.sgeClamp) s = execSgeClamp s := rfl
@[simp] theorem exec_sgeLdi (s : State) : exec (.sgeLdi) s = execSgeLdi s := rfl
@[simp] theorem exec_sgeLdc (s : State) : exec (.sgeLdc) s = execSgeLdc s := rfl
@[simp] theorem exec_sgeRdd (s : State) : exec (.sgeRdd) s = execSgeRdd s := rfl
@[simp] theorem exec_sgeWrd (s : State) : exec (.sgeWrd) s = execSgeWrd s := rfl
@[simp] theorem exec_sgeMac (s : State) : exec (.sgeMac) s = execSgeMac s := rfl
@[simp] theorem exec_sgeMaca (s : State) : exec (.sgeMaca) s = execSgeMaca s := rfl
@[simp] theorem exec_sgeMula (s : State) : exec (.sgeMula) s = execSgeMula s := rfl
@[simp] theorem exec_sgeMulab (s : State) : exec (.sgeMulab) s = execSgeMulab s := rfl
@[simp] theorem exec_sgeIn (s : State) : exec (.sgeIn) s = execSgeIn s := rfl
@[simp] theorem exec_sgeOut (s : State) : exec (.sgeOut) s = execSgeOut s := rfl
@[simp] theorem exec_sgeRes (s : State) : exec (.sgeRes) s = execSgeRes s := rfl
@[simp] theorem exec_sgeRep (s : State) : exec (.sgeRep) s = execSgeRep s := rfl
@[simp] theorem exec_sgeProgramLoad (s : State) : exec (.sgeProgramLoad) s = execSgeProgramLoad s := rfl
@[simp] theorem exec_sgeProgramSwap (s : State) : exec (.sgeProgramSwap) s = execSgeProgramSwap s := rfl
@[simp] theorem exec_sgeTickSet (s : State) : exec (.sgeTickSet) s = execSgeTickSet s := rfl
@[simp] theorem exec_sgeStrayCountRead (reader : Nat) (s : State) : exec (.sgeStrayCountRead reader) s = execSgeStrayCountRead reader s := rfl
@[simp] theorem exec_sgeMissCountRead (reader : Nat) (s : State) : exec (.sgeMissCountRead reader) s = execSgeMissCountRead reader s := rfl
@[simp] theorem exec_tdmFrameComplete (input : Nat) (words : List Nat) (s : State) : exec (.tdmFrameComplete input words) s = execTdmFrameComplete input words s := rfl
@[simp] theorem exec_adcConversion (c code : Nat) (s : State) : exec (.adcConversion c code) s = execAdcConversion c code s := rfl
@[simp] theorem exec_captureEdge (c : Nat) (rising : Bool) (at_ : Nat) (s : State) : exec (.captureEdge c rising at_) s = execCaptureEdge c rising at_ s := rfl
@[simp] theorem exec_pwmPeriodStart (k : Nat) (s : State) : exec (.pwmPeriodStart k) s = execPwmPeriodStart k s := rfl
@[simp] theorem exec_pourCopyDone (s : State) : exec (.pourCopyDone) s = execPourCopyDone s := rfl
@[simp] theorem exec_sioPourValue (core value : Nat) (s : State) : exec (.sioPourValue core value) s = execSioPourValue core value s := rfl
@[simp] theorem exec_pourCommit (core : Nat) (s : State) : exec (.pourCommit core) s = execPourCommit core s := rfl
@[simp] theorem exec_pourDiscard (core : Nat) (s : State) : exec (.pourDiscard core) s = execPourDiscard core s := rfl
@[simp] theorem exec_sgePourStage (s : State) : exec (.sgePourStage) s = execSgePourStage s := rfl
@[simp] theorem exec_sgePourCommit (s : State) : exec (.sgePourCommit) s = execSgePourCommit s := rfl
@[simp] theorem exec_sgeSlotRead (s : State) : exec (.sgeSlotRead) s = execSgeSlotRead s := rfl
@[simp] theorem exec_fenAdd (core : Nat) (s : State) : exec (.fenAdd core) s = execFenAdd core s := rfl
@[simp] theorem exec_fenSub (core : Nat) (s : State) : exec (.fenSub core) s = execFenSub core s := rfl
@[simp] theorem exec_fenAnd (core : Nat) (s : State) : exec (.fenAnd core) s = execFenAnd core s := rfl
@[simp] theorem exec_fenOr (core : Nat) (s : State) : exec (.fenOr core) s = execFenOr core s := rfl
@[simp] theorem exec_fenXor (core : Nat) (s : State) : exec (.fenXor core) s = execFenXor core s := rfl
@[simp] theorem exec_fenSlt (core : Nat) (s : State) : exec (.fenSlt core) s = execFenSlt core s := rfl
@[simp] theorem exec_fenSltu (core : Nat) (s : State) : exec (.fenSltu core) s = execFenSltu core s := rfl
@[simp] theorem exec_fenMul (core : Nat) (s : State) : exec (.fenMul core) s = execFenMul core s := rfl
@[simp] theorem exec_fenMulhu (core : Nat) (s : State) : exec (.fenMulhu core) s = execFenMulhu core s := rfl
@[simp] theorem exec_fenShli (core : Nat) (s : State) : exec (.fenShli core) s = execFenShli core s := rfl
@[simp] theorem exec_fenShri (core : Nat) (s : State) : exec (.fenShri core) s = execFenShri core s := rfl
@[simp] theorem exec_fenSari (core : Nat) (s : State) : exec (.fenSari core) s = execFenSari core s := rfl
@[simp] theorem exec_fenBeq (core : Nat) (s : State) : exec (.fenBeq core) s = execFenBeq core s := rfl
@[simp] theorem exec_fenBne (core : Nat) (s : State) : exec (.fenBne core) s = execFenBne core s := rfl
@[simp] theorem exec_fenBlt (core : Nat) (s : State) : exec (.fenBlt core) s = execFenBlt core s := rfl
@[simp] theorem exec_fenBge (core : Nat) (s : State) : exec (.fenBge core) s = execFenBge core s := rfl
@[simp] theorem exec_fenBltu (core : Nat) (s : State) : exec (.fenBltu core) s = execFenBltu core s := rfl
@[simp] theorem exec_fenBgeu (core : Nat) (s : State) : exec (.fenBgeu core) s = execFenBgeu core s := rfl
@[simp] theorem exec_fenNot (core : Nat) (s : State) : exec (.fenNot core) s = execFenNot core s := rfl
@[simp] theorem exec_fenNeg (core : Nat) (s : State) : exec (.fenNeg core) s = execFenNeg core s := rfl
@[simp] theorem exec_fenJr (core : Nat) (s : State) : exec (.fenJr core) s = execFenJr core s := rfl
@[simp] theorem exec_fenCallr (core : Nat) (s : State) : exec (.fenCallr core) s = execFenCallr core s := rfl
@[simp] theorem exec_fenRet (core : Nat) (s : State) : exec (.fenRet core) s = execFenRet core s := rfl
@[simp] theorem exec_fenPush (core : Nat) (s : State) : exec (.fenPush core) s = execFenPush core s := rfl
@[simp] theorem exec_fenPop (core : Nat) (s : State) : exec (.fenPop core) s = execFenPop core s := rfl
@[simp] theorem exec_fenYield (core : Nat) (s : State) : exec (.fenYield core) s = execFenYield core s := rfl
@[simp] theorem exec_fenWait (core : Nat) (s : State) : exec (.fenWait core) s = execFenWait core s := rfl
@[simp] theorem exec_fenExit (core : Nat) (s : State) : exec (.fenExit core) s = execFenExit core s := rfl
@[simp] theorem exec_fenTrap (core : Nat) (s : State) : exec (.fenTrap core) s = execFenTrap core s := rfl
@[simp] theorem exec_fenAddi (core : Nat) (s : State) : exec (.fenAddi core) s = execFenAddi core s := rfl
@[simp] theorem exec_fenAndi (core : Nat) (s : State) : exec (.fenAndi core) s = execFenAndi core s := rfl
@[simp] theorem exec_fenOri (core : Nat) (s : State) : exec (.fenOri core) s = execFenOri core s := rfl
@[simp] theorem exec_fenXori (core : Nat) (s : State) : exec (.fenXori core) s = execFenXori core s := rfl
@[simp] theorem exec_fenSlti (core : Nat) (s : State) : exec (.fenSlti core) s = execFenSlti core s := rfl
@[simp] theorem exec_fenSltiu (core : Nat) (s : State) : exec (.fenSltiu core) s = execFenSltiu core s := rfl
@[simp] theorem exec_fenLd (core : Nat) (s : State) : exec (.fenLd core) s = execFenLd core s := rfl
@[simp] theorem exec_fenSt (core : Nat) (s : State) : exec (.fenSt core) s = execFenSt core s := rfl
@[simp] theorem exec_fenLdp (core : Nat) (s : State) : exec (.fenLdp core) s = execFenLdp core s := rfl
@[simp] theorem exec_fenXld (core : Nat) (s : State) : exec (.fenXld core) s = execFenXld core s := rfl
@[simp] theorem exec_fenXst (core : Nat) (s : State) : exec (.fenXst core) s = execFenXst core s := rfl
@[simp] theorem exec_deviceAccessComplete (core : Nat) (s : State) : exec (.deviceAccessComplete core) s = execDeviceAccessComplete core s := rfl
@[simp] theorem exec_deviceAccessTimeout (core : Nat) (s : State) : exec (.deviceAccessTimeout core) s = execDeviceAccessTimeout core s := rfl
@[simp] theorem exec_fenRdl (core : Nat) (s : State) : exec (.fenRdl core) s = execFenRdl core s := rfl
@[simp] theorem exec_fenWrl (core : Nat) (s : State) : exec (.fenWrl core) s = execFenWrl core s := rfl
@[simp] theorem exec_fenJmp (core : Nat) (s : State) : exec (.fenJmp core) s = execFenJmp core s := rfl
@[simp] theorem exec_fenCall (core : Nat) (s : State) : exec (.fenCall core) s = execFenCall core s := rfl
@[simp] theorem exec_timeSliceExpiry (core : Nat) (s : State) : exec (.timeSliceExpiry core) s = execTimeSliceExpiry core s := rfl
@[simp] theorem exec_eventPost (role task bit : Nat) (s : State) : exec (.eventPost role task bit) s = execEventPost role task bit s := rfl
@[simp] theorem exec_taskCreate (core role task prio : Nat) (sm ovf : Bool) (s : State) : exec (.taskCreate core role task prio sm ovf) s = execTaskCreate core role task prio sm ovf s := rfl
@[simp] theorem exec_taskCancel (core role task : Nat) (s : State) : exec (.taskCancel core role task) s = execTaskCancel core role task s := rfl
@[simp] theorem exec_wdnEvpost (core role task bit : Nat) (s : State) : exec (.wdnEvpost core role task bit) s = execWdnEvpost core role task bit s := rfl
@[simp] theorem exec_wdnWdogKick (core : Nat) (s : State) : exec (.wdnWdogKick core) s = execWdnWdogKick core s := rfl
@[simp] theorem exec_wdnEvdropRead (core : Nat) (s : State) : exec (.wdnEvdropRead core) s = execWdnEvdropRead core s := rfl
@[simp] theorem exec_timerArm (core timer value : Nat) (s : State) : exec (.timerArm core timer value) s = execTimerArm core timer value s := rfl
@[simp] theorem exec_timerExpiry (role timer : Nat) (s : State) : exec (.timerExpiry role timer) s = execTimerExpiry role timer s := rfl
@[simp] theorem exec_watchdogExpiry (r : Nat) (diode : Int) (s : State) : exec (.watchdogExpiry r diode) s = execWatchdogExpiry r diode s := rfl
@[simp] theorem exec_lckAcq (reader lock : Nat) (s : State) : exec (.lckAcq reader lock) s = execLckAcq reader lock s := rfl
@[simp] theorem exec_lckRel (reader lock : Nat) (s : State) : exec (.lckRel reader lock) s = execLckRel reader lock s := rfl
@[simp] theorem exec_batScan (cells : List Nat) (stack : Nat) (t0 t1 : Int) (s : State) : exec (.batScan cells stack t0 t1) s = execBatScan cells stack t0 t1 s := rfl
@[simp] theorem exec_coulombSample (sample : Int) (s : State) : exec (.coulombSample sample) s = execCoulombSample sample s := rfl
@[simp] theorem exec_ocd (ma : Nat) (s : State) : exec (.ocd ma) s = execOcd ma s := rfl
@[simp] theorem exec_openWireTest (change : Int) (s : State) : exec (.openWireTest change) s = execOpenWireTest change s := rfl
@[simp] theorem exec_openWirePeriod (s : State) : exec (.openWirePeriod) s = execOpenWirePeriod s := rfl
@[simp] theorem exec_restReached (s : State) : exec (.restReached) s = execRestReached s := rfl
@[simp] theorem exec_rebaseEvaluation (s : State) : exec (.rebaseEvaluation) s = execRebaseEvaluation s := rfl
@[simp] theorem exec_chargeUpdate (answered : Bool) (s : State) : exec (.chargeUpdate answered) s = execChargeUpdate answered s := rfl
@[simp] theorem exec_chargerRetry (answered : Bool) (s : State) : exec (.chargerRetry answered) s = execChargerRetry answered s := rfl
@[simp] theorem exec_batStatus (s : State) : exec (.batStatus) s = execBatStatus s := rfl
@[simp] theorem exec_batLimitsSet (s : State) : exec (.batLimitsSet) s = execBatLimitsSet s := rfl
@[simp] theorem exec_batOpenWireTest (s : State) : exec (.batOpenWireTest) s = execBatOpenWireTest s := rfl
@[simp] theorem exec_batChargerSet (s : State) : exec (.batChargerSet) s = execBatChargerSet s := rfl
@[simp] theorem exec_pltSetpointSet (s : State) : exec (.pltSetpointSet) s = execPltSetpointSet s := rfl
@[simp] theorem exec_setpointLegCommit (setpoint : Nat) (s : State) : exec (.setpointLegCommit setpoint) s = execSetpointLegCommit setpoint s := rfl
@[simp] theorem exec_pltStatus (s : State) : exec (.pltStatus) s = execPltStatus s := rfl
@[simp] theorem exec_pltStop (s : State) : exec (.pltStop) s = execPltStop s := rfl
@[simp] theorem exec_stopCtlAssert (s : State) : exec (.stopCtlAssert) s = execStopCtlAssert s := rfl
@[simp] theorem exec_stopCtlRelease (key : Nat) (s : State) : exec (.stopCtlRelease key) s = execStopCtlRelease key s := rfl
@[simp] theorem exec_canCfg (s : State) : exec (.canCfg) s = execCanCfg s := rfl
@[simp] theorem exec_canFrameReceived (ident : Nat) (ide fdf brs esi : Bool) (dlc : Nat) (data : Bytes) (s : State) : exec (.canFrameReceived ident ide fdf brs esi dlc data) s = execCanFrameReceived ident ide fdf brs esi dlc data s := rfl
@[simp] theorem exec_canTxDone (s : State) : exec (.canTxDone) s = execCanTxDone s := rfl
@[simp] theorem exec_canErrorStateChange (tec rec_ : Nat) (s : State) : exec (.canErrorStateChange tec rec_) s = execCanErrorStateChange tec rec_ s := rfl
@[simp] theorem exec_canRecovered (s : State) : exec (.canRecovered) s = execCanRecovered s := rfl
@[simp] theorem exec_canTxreq (reg value : Nat) (s : State) : exec (.canTxreq reg value) s = execCanTxreq reg value s := rfl
@[simp] theorem exec_canTxabort (reg value : Nat) (s : State) : exec (.canTxabort reg value) s = execCanTxabort reg value s := rfl
@[simp] theorem exec_canRecover (s : State) : exec (.canRecover) s = execCanRecover s := rfl
@[simp] theorem exec_canRxLostRead (reader : Nat) (s : State) : exec (.canRxLostRead reader) s = execCanRxLostRead reader s := rfl
@[simp] theorem exec_carriageSegment (src : Nat) (data : Bytes) (s : State) : exec (.carriageSegment src data) s = execCarriageSegment src data s := rfl
@[simp] theorem exec_carriageGapTimeout (node : Nat) (s : State) : exec (.carriageGapTimeout node) s = execCarriageGapTimeout node s := rfl
@[simp] theorem exec_lblInventory (req : Bytes) (s : State) : exec (.lblInventory req) s = execLblInventory req s := rfl
@[simp] theorem exec_lblStayQuiet (req : Bytes) (s : State) : exec (.lblStayQuiet req) s = execLblStayQuiet req s := rfl
@[simp] theorem exec_lblReadSingleBlock (req : Bytes) (busy : Nat) (s : State) : exec (.lblReadSingleBlock req busy) s = execLblReadSingleBlock req busy s := rfl
@[simp] theorem exec_lblWriteSingleBlock (req : Bytes) (busy : Nat) (s : State) : exec (.lblWriteSingleBlock req busy) s = execLblWriteSingleBlock req busy s := rfl
@[simp] theorem exec_lblLockBlock (req : Bytes) (busy : Nat) (s : State) : exec (.lblLockBlock req busy) s = execLblLockBlock req busy s := rfl
@[simp] theorem exec_lblReadMultipleBlocks (req : Bytes) (busy : Nat) (s : State) : exec (.lblReadMultipleBlocks req busy) s = execLblReadMultipleBlocks req busy s := rfl
@[simp] theorem exec_lblWriteMultipleBlocks (req : Bytes) (busy : Nat) (s : State) : exec (.lblWriteMultipleBlocks req busy) s = execLblWriteMultipleBlocks req busy s := rfl
@[simp] theorem exec_lblSelect (req : Bytes) (s : State) : exec (.lblSelect req) s = execLblSelect req s := rfl
@[simp] theorem exec_lblResetToReady (req : Bytes) (s : State) : exec (.lblResetToReady req) s = execLblResetToReady req s := rfl
@[simp] theorem exec_lblGetSystemInfo (req : Bytes) (s : State) : exec (.lblGetSystemInfo req) s = execLblGetSystemInfo req s := rfl
@[simp] theorem exec_lblGetMultipleBlockSecurityStatus (req : Bytes) (busy : Nat) (s : State) : exec (.lblGetMultipleBlockSecurityStatus req busy) s = execLblGetMultipleBlockSecurityStatus req busy s := rfl
@[simp] theorem exec_extendedReadSingleBlock (req : Bytes) (busy : Nat) (s : State) : exec (.extendedReadSingleBlock req busy) s = execExtendedReadSingleBlock req busy s := rfl
@[simp] theorem exec_extendedWriteSingleBlock (req : Bytes) (busy : Nat) (s : State) : exec (.extendedWriteSingleBlock req busy) s = execExtendedWriteSingleBlock req busy s := rfl
@[simp] theorem exec_extendedLockSingleBlock (req : Bytes) (busy : Nat) (s : State) : exec (.extendedLockSingleBlock req busy) s = execExtendedLockSingleBlock req busy s := rfl
@[simp] theorem exec_extendedReadMultipleBlocks (req : Bytes) (busy : Nat) (s : State) : exec (.extendedReadMultipleBlocks req busy) s = execExtendedReadMultipleBlocks req busy s := rfl
@[simp] theorem exec_extendedWriteMultipleBlocks (req : Bytes) (busy : Nat) (s : State) : exec (.extendedWriteMultipleBlocks req busy) s = execExtendedWriteMultipleBlocks req busy s := rfl
@[simp] theorem exec_extendedGetSystemInfo (req : Bytes) (busy : Nat) (s : State) : exec (.extendedGetSystemInfo req busy) s = execExtendedGetSystemInfo req busy s := rfl
@[simp] theorem exec_unsupportedFieldCommand (req : Bytes) (s : State) : exec (.unsupportedFieldCommand req) s = execUnsupportedFieldCommand req s := rfl
@[simp] theorem exec_mbxSubmit (req : Bytes) (busy : Nat) (s : State) : exec (.mbxSubmit req busy) s = execMbxSubmit req busy s := rfl
@[simp] theorem exec_lblWake (req : Bytes) (s : State) : exec (.lblWake req) s = execLblWake req s := rfl
@[simp] theorem exec_labelDeviceRead (core : Nat) (s : State) : exec (.labelDeviceRead core) s = execLabelDeviceRead core s := rfl
@[simp] theorem exec_labelDeviceWrite (core : Nat) (s : State) : exec (.labelDeviceWrite core) s = execLabelDeviceWrite core s := rfl
@[simp] theorem exec_labelDeferredRetry (s : State) : exec (.labelDeferredRetry) s = execLabelDeferredRetry s := rfl
@[simp] theorem exec_labelDeferTimeout (s : State) : exec (.labelDeferTimeout) s = execLabelDeferTimeout s := rfl
@[simp] theorem exec_labelWriteCommit (s : State) : exec (.labelWriteCommit) s = execLabelWriteCommit s := rfl
@[simp] theorem exec_mirrorTimeout (s : State) : exec (.mirrorTimeout) s = execMirrorTimeout s := rfl
@[simp] theorem exec_xspMasterRead (cmd : Nat) (s : State) : exec (.xspMasterRead cmd) s = execXspMasterRead cmd s := rfl
@[simp] theorem exec_xspMasterWrite (cmd : Nat) (s : State) : exec (.xspMasterWrite cmd) s = execXspMasterWrite cmd s := rfl
@[simp] theorem exec_xspMasterTransferDone (data : Bytes) (s : State) : exec (.xspMasterTransferDone data) s = execXspMasterTransferDone data s := rfl
@[simp] theorem exec_xspMasterTimeout (s : State) : exec (.xspMasterTimeout) s = execXspMasterTimeout s := rfl
@[simp] theorem exec_xspPktWrite (header : Nat) (data : Bytes) (s : State) : exec (.xspPktWrite header data) s = execXspPktWrite header data s := rfl
@[simp] theorem exec_xspResultRead (header words : Nat) (s : State) : exec (.xspResultRead header words) s = execXspResultRead header words s := rfl
@[simp] theorem exec_xspLockAcq (header : Nat) (s : State) : exec (.xspLockAcq header) s = execXspLockAcq header s := rfl
@[simp] theorem exec_xspLockRel (header : Nat) (s : State) : exec (.xspLockRel header) s = execXspLockRel header s := rfl
@[simp] theorem exec_xspStatus (header words : Nat) (s : State) : exec (.xspStatus header words) s = execXspStatus header words s := rfl
@[simp] theorem exec_xspTargetReset (header : Nat) (s : State) : exec (.xspTargetReset header) s = execXspTargetReset header s := rfl
@[simp] theorem exec_xspSelectRelease (s : State) : exec (.xspSelectRelease) s = execXspSelectRelease s := rfl
@[simp] theorem exec_latticeFrameReceived (link offset : Nat) (bytes : Bytes) (s : State) : exec (.latticeFrameReceived link offset bytes) s = execLatticeFrameReceived link offset bytes s := rfl
@[simp] theorem exec_commandCarriage (s : State) : exec (.commandCarriage) s = execCommandCarriage s := rfl
@[simp] theorem exec_latticeFrameSlot (link : Nat) (s : State) : exec (.latticeFrameSlot link) s = execLatticeFrameSlot link s := rfl
@[simp] theorem exec_symbolLockTimeout (link : Nat) (s : State) : exec (.symbolLockTimeout link) s = execSymbolLockTimeout link s := rfl
@[simp] theorem exec_trainingTimeout (link : Nat) (s : State) : exec (.trainingTimeout link) s = execTrainingTimeout link s := rfl
@[simp] theorem exec_linkRetrain (link : Nat) (s : State) : exec (.linkRetrain link) s = execLinkRetrain link s := rfl
@[simp] theorem exec_helloTimer (link : Nat) (s : State) : exec (.helloTimer link) s = execHelloTimer link s := rfl
@[simp] theorem exec_deadTimer (link : Nat) (s : State) : exec (.deadTimer link) s = execDeadTimer link s := rfl
@[simp] theorem exec_replayTimer (link : Nat) (s : State) : exec (.replayTimer link) s = execReplayTimer link s := rfl
@[simp] theorem exec_qualityWindow (link : Nat) (s : State) : exec (.qualityWindow link) s = execQualityWindow link s := rfl
@[simp] theorem exec_tunnelFrameReceived (p : Nat) (bytes : Bytes) (s : State) : exec (.tunnelFrameReceived p bytes) s = execTunnelFrameReceived p bytes s := rfl
@[simp] theorem exec_tunnelFlush (link : Nat) (s : State) : exec (.tunnelFlush link) s = execTunnelFlush link s := rfl
@[simp] theorem exec_lsaReceived (s : State) : exec (.lsaReceived) s = execLsaReceived s := rfl
@[simp] theorem exec_lsaOriginate (s : State) : exec (.lsaOriginate) s = execLsaOriginate s := rfl
@[simp] theorem exec_lsaAgeExpiry (serial : Nat) (s : State) : exec (.lsaAgeExpiry serial) s = execLsaAgeExpiry serial s := rfl
@[simp] theorem exec_vertexClaimHeld (s : State) : exec (.vertexClaimHeld) s = execVertexClaimHeld s := rfl
@[simp] theorem exec_routeRecompute (s : State) : exec (.routeRecompute) s = execRouteRecompute s := rfl
@[simp] theorem exec_handoverStateReceived (link : Nat) (msg : Machine.HoMsg) (s : State) : exec (.handoverStateReceived link msg) s = execHandoverStateReceived link msg s := rfl
@[simp] theorem exec_handoverStop (s : State) : exec (.handoverStop) s = execHandoverStop s := rfl
@[simp] theorem exec_handoverWorkDeadline (s : State) : exec (.handoverWorkDeadline) s = execHandoverWorkDeadline s := rfl
@[simp] theorem exec_handoverStopTimeout (s : State) : exec (.handoverStopTimeout) s = execHandoverStopTimeout s := rfl
@[simp] theorem exec_handoverSwitch (s : State) : exec (.handoverSwitch) s = execHandoverSwitch s := rfl
@[simp] theorem exec_handoverRelease (s : State) : exec (.handoverRelease) s = execHandoverRelease s := rfl
@[simp] theorem exec_latStatus (s : State) : exec (.latStatus) s = execLatStatus s := rfl
@[simp] theorem exec_latVertexSet (s : State) : exec (.latVertexSet) s = execLatVertexSet s := rfl
@[simp] theorem exec_latStackJoin (s : State) : exec (.latStackJoin) s = execLatStackJoin s := rfl
@[simp] theorem exec_latStackLeave (s : State) : exec (.latStackLeave) s = execLatStackLeave s := rfl
@[simp] theorem exec_latHandover (s : State) : exec (.latHandover) s = execLatHandover s := rfl
@[simp] theorem exec_secureBoot (s : State) : exec (.secureBoot) s = execSecureBoot s := rfl
@[simp] theorem exec_bootDone (s : State) : exec (.bootDone) s = execBootDone s := rfl
@[simp] theorem exec_confirmTimerExpiry (diode : Int) (s : State) : exec (.confirmTimerExpiry diode) s = execConfirmTimerExpiry diode s := rfl
@[simp] theorem exec_lcyStateGet (s : State) : exec (.lcyStateGet) s = execLcyStateGet s := rfl
@[simp] theorem exec_lcyTransition (good : Bool) (s : State) : exec (.lcyTransition good) s = execLcyTransition good s := rfl
@[simp] theorem exec_transitionWStart (diode : Int) (s : State) : exec (.transitionWStart diode) s = execTransitionWStart diode s := rfl
@[simp] theorem exec_otpSettingsWrite (good : Bool) (s : State) : exec (.otpSettingsWrite good) s = execOtpSettingsWrite good s := rfl
@[simp] theorem exec_fwImageLoad (s : State) : exec (.fwImageLoad) s = execFwImageLoad s := rfl
@[simp] theorem exec_fwImageActivate (good : Bool) (s : State) : exec (.fwImageActivate good) s = execFwImageActivate good s := rfl
@[simp] theorem exec_activationWStart (diode : Int) (s : State) : exec (.activationWStart diode) s = execActivationWStart diode s := rfl
@[simp] theorem exec_trustRoll (good : Bool) (s : State) : exec (.trustRoll good) s = execTrustRoll good s := rfl
@[simp] theorem exec_rprStatus (s : State) : exec (.rprStatus) s = execRprStatus s := rfl
@[simp] theorem exec_rprFence (good : Bool) (s : State) : exec (.rprFence good) s = execRprFence good s := rfl
@[simp] theorem exec_rprUnfence (good : Bool) (s : State) : exec (.rprUnfence good) s = execRprUnfence good s := rfl
@[simp] theorem exec_rprSpareSwap (s : State) : exec (.rprSpareSwap) s = execRprSpareSwap s := rfl
@[simp] theorem exec_autoFence (d cause : Nat) (s : State) : exec (.autoFence d cause) s = execAutoFence d cause s := rfl
@[simp] theorem exec_knownAnswerTest (d : Nat) (passed : Bool) (s : State) : exec (.knownAnswerTest d passed) s = execKnownAnswerTest d passed s := rfl
@[simp] theorem exec_cntBankEnable (s : State) : exec (.cntBankEnable) s = execCntBankEnable s := rfl
@[simp] theorem exec_cntBankDisable (s : State) : exec (.cntBankDisable) s = execCntBankDisable s := rfl
@[simp] theorem exec_cntSnapshot (s : State) : exec (.cntSnapshot) s = execCntSnapshot s := rfl
@[simp] theorem exec_cntRead (s : State) : exec (.cntRead) s = execCntRead s := rfl
@[simp] theorem exec_jtagExtest (s : State) : exec (.jtagExtest) s = execJtagExtest s := rfl
@[simp] theorem exec_jtagIdcode (s : State) : exec (.jtagIdcode) s = execJtagIdcode s := rfl
@[simp] theorem exec_jtagSamplePreload (s : State) : exec (.jtagSamplePreload) s = execJtagSamplePreload s := rfl
@[simp] theorem exec_jtagClamp (s : State) : exec (.jtagClamp) s = execJtagClamp s := rfl
@[simp] theorem exec_jtagHighz (s : State) : exec (.jtagHighz) s = execJtagHighz s := rfl
@[simp] theorem exec_jtagExtestPulse (s : State) : exec (.jtagExtestPulse) s = execJtagExtestPulse s := rfl
@[simp] theorem exec_jtagExtestTrain (s : State) : exec (.jtagExtestTrain) s = execJtagExtestTrain s := rfl
@[simp] theorem exec_jtagBypass (s : State) : exec (.jtagBypass) s = execJtagBypass s := rfl
@[simp] theorem exec_dbgAccess (s : State) : exec (.dbgAccess) s = execDbgAccess s := rfl
@[simp] theorem exec_debugDeviceRead (addr : Nat) (late : Bool) (s : State) : exec (.debugDeviceRead addr late) s = execDebugDeviceRead addr late s := rfl
@[simp] theorem exec_debugDeviceWrite (addr value : Nat) (late : Bool) (s : State) : exec (.debugDeviceWrite addr value late) s = execDebugDeviceWrite addr value late s := rfl
@[simp] theorem exec_debugWardenMemoryRead (core space addr : Nat) (late : Bool) (s : State) : exec (.debugWardenMemoryRead core space addr late) s = execDebugWardenMemoryRead core space addr late s := rfl
@[simp] theorem exec_tapReset (s : State) : exec (.tapReset) s = execTapReset s := rfl
@[simp] theorem exec_registerWrite (space : RegSpace) (addr size value : Nat) (s : State) : exec (.registerWrite space addr size value) s = execRegisterWrite space addr size value s := rfl
@[simp] theorem exec_aonPowerLoss (s : State) : exec (.aonPowerLoss) s = execAonPowerLoss s := rfl
@[simp] theorem exec_vinOkLoss (s : State) : exec (.vinOkLoss) s = execVinOkLoss s := rfl
@[simp] theorem exec_ibPgoodHigh (xtalOk pllOk : Bool) (diode : Int) (s : State) : exec (.ibPgoodHigh xtalOk pllOk diode) s = execIbPgoodHigh xtalOk pllOk diode s := rfl
@[simp] theorem exec_linkDlActive (speed width : Nat) (upcfg : Bool) (s : State) : exec (.linkDlActive speed width upcfg) s = execLinkDlActive speed width upcfg s := rfl
@[simp] theorem exec_symbolLock (link : Nat) (s : State) : exec (.symbolLock link) s = execSymbolLock link s := rfl
@[simp] theorem exec_roceAckTimeout (h : Nat) (s : State) : exec (.roceAckTimeout h) s = execRoceAckTimeout h s := rfl
@[simp] theorem exec_roleMoveComplete (r : Nat) (good : Bool) (s : State) : exec (.roleMoveComplete r good) s = execRoleMoveComplete r good s := rfl
@[simp] theorem exec_ddrSpent (ch device : Nat) (s : State) : exec (.ddrSpent ch device) s = execDdrSpent ch device s := rfl
@[simp] theorem exec_readerField (present : Bool) (s : State) : exec (.readerField present) s = execReaderField present s := rfl

end Sys2Proof.Machine
end

