-- ==== Sys2Proof/Laws/Command.lean ====
section
/-!
SUPPORT. Sys2Proof/Laws/Command.lean: what an interpreter does with a command that it can act on.
-/
namespace Sys2Proof.Machine
open Sys2Proof

theorem interpret_given {op : Nat} {p : Packet} {s t : State} (f : Packet → State → State) (g : Given op p s t) :
    interpret op f s = .next (f p t) := by
  obtain ⟨h, a, b, c⟩ := g
  simp only [interpret, h, a, b, c]; rfl
theorem checked_ok (p : Packet) (len : Nat) (fields : List (Nat × Bool)) (k : State → State) (s : State)
    (h : p.params.length = len) (f : fields.all (·.2) = true) : checked p len fields k s = k s := by
  have : fields.find? (fun f => !f.2) = none := by
    simp only [List.find?_eq_none]; intro x hx; simp [List.all_eq_true.1 f x hx]
  simp [checked, h, this]
theorem checked_length (p : Packet) (len : Nat) (fields : List (Nat × Bool)) (k : State → State) (s : State)
    (h : p.params.length ≠ len) : checked p len fields k s = fail p stBadLength 0xFFFF 0 s := by
  simp [checked, h]
theorem fieldRun_asked (mine : Nat → Bool) {req : Bytes} {q : FieldReq} {s : State} (f : FieldReq → State → State) (a : Asked req q s)
    (m : mine q.code = true) : fieldRun mine req f s = .next (f q s) := by
  obtain ⟨fl, co, ar⟩ := q
  obtain ⟨hp, hn, hc, hf, ho, hk, hi, hl, ha, hb, hm, hargs⟩ := a
  unfold fieldRun
  dsimp only at hp hn hc hf ho hk hi hl ha hb hm hargs m ⊢
  subst hf ho
  rw [hargs]; clear hargs
  rw [if_neg (by rw [hp, m]; simp [hc]; omega), if_neg (by rw [hk, hi, bne_self_eq_false]; rw [hi] at hl; rw [decide_eq_false (by omega)]; simp)]
  cases e : ((u8 req 0).testBit 5 && !(u8 req 0).testBit 2) with
  | true =>
    have h1 := ha e
    simp only [if_true]
    rw [if_neg (by rw [h1]; simp), if_neg (by simp), if_neg (by simp only [Bool.and_eq_true, bne_iff_ne, ne_eq, not_and, Decidable.not_not, and_imp]; exact hm)]
  | false =>
    have h1 := hb e
    simp only [Bool.false_and, Bool.false_eq_true, if_false, Bool.not_false, Bool.true_and]
    rw [if_neg (by simp only [Bool.or_eq_true, Bool.and_eq_true, bne_iff_ne, beq_iff_eq, Bool.not_eq_true', not_or]; exact ⟨fun x => x.2 (h1.2 x.1.1 x.1.2), h1.1⟩), if_neg (by simp only [Bool.and_eq_true, bne_iff_ne, ne_eq, not_and, Decidable.not_not, and_imp]; exact hm)]

end Sys2Proof.Machine
end

