-- ==== Sys2Proof/Laws/Keep.lean ====
section
/-!
SUPPORT. Sys2Proof/Laws/Keep.lean: the part of the state that hardly any function changes, and the lemmas about it that the frame lemmas rest on.
-/
namespace Sys2Proof.Machine
open Sys2Proof

/-- The queue, the microseconds, the OTP and the label's locks: only a step, an idle step, the programming of OTP and a field lock change them. -/
structure Keep where
  /-- The queue. -/
  pending : List Instr
  /-- Microseconds. -/
  us : Nat
  /-- OTP. -/
  otp : Otp
  /-- Label blocks that are locked. -/
  locked : List Nat
/-- The kept part of a state. -/
def State.keep (s : State) : Keep := ⟨s.pending, s.us, s.otp, s.lbl.locked⟩
theorem keep_fold (s : State) : Keep.mk s.pending s.us s.otp s.lbl.locked = s.keep := rfl
theorem keep_iff (s t : State) : t.keep = s.keep ↔ t.pending = s.pending ∧ t.us = s.us ∧ t.otp = s.otp ∧ t.lbl.locked = s.lbl.locked := by
  simp [State.keep]
theorem keep_mk (f_pending f_free f_out f_us f_log f_rst f_cmd f_aon f_pmc f_dom f_ckg f_hkp f_ddr0 f_ddr1 f_mem f_pce f_host f_cad f_net f_cry f_sto f_sge f_sio f_wdn f_bat f_plt f_can f_lbl f_xsp f_lat f_otp f_flash f_lcy f_cnt) :
    State.keep (State.mk f_pending f_free f_out f_us f_log f_rst f_cmd f_aon f_pmc f_dom f_ckg f_hkp f_ddr0 f_ddr1 f_mem f_pce f_host f_cad f_net f_cry f_sto f_sge f_sio f_wdn f_bat f_plt f_can f_lbl f_xsp f_lat f_otp f_flash f_lcy f_cnt) = ⟨f_pending, f_us, f_otp, f_lbl.locked⟩ := rfl
theorem stateOf_keep (o : Out) (s s0 : State) (h : ∃ t, o = .next t ∧ t.keep = s0.keep) : (stateOf o s).keep = s0.keep := by
  obtain ⟨t, rfl, h⟩ := h; exact h
theorem whenS_keep (c : Bool) (f : State → State) (s : State) (h : (f s).keep = s.keep) : (whenS c f s).keep = s.keep := by
  unfold whenS; split <;> simp [h]
theorem foldl_keep {α : Type} (l : List α) (f : State → α → State) (s : State) (h : ∀ s a, (f s a).keep = s.keep) : (l.foldl f s).keep = s.keep := by
  induction l generalizing s with
  | nil => rfl
  | cons a t ih => simp only [List.foldl_cons]; rw [ih, h]
theorem forEach_keep {α : Type} (l : List α) (f : α → State → State) (s : State) (h : ∀ a s, (f a s).keep = s.keep) : (forEach l f s).keep = s.keep :=
  foldl_keep l _ s fun s a => h a s
theorem ifSome_keep {α : Type} (o : Option α) (f : α → State → State) (s : State) (h : ∀ a s, (f a s).keep = s.keep) : (ifSome o f s).keep = s.keep := by
  unfold ifSome; split <;> simp [h]
theorem next_keep (t s : State) (h : t.keep = s.keep) : ∃ u, (Host.Outcome.next t : Out) = .next u ∧ u.keep = s.keep := ⟨t, rfl, h⟩

end Sys2Proof.Machine
end

