-- ==== Sys2Proof/Laws/Keep1.lean ====
section
/-!
SUPPORT. Sys2Proof/Laws/Keep1.lean: part 1 of 8 of the frame lemmas, one for each function on states: it leaves the queue, the microseconds, the OTP and the label locks alone.
-/
namespace Sys2Proof.Machine
open Sys2Proof
set_option linter.all false
set_option maxRecDepth 4000

theorem emit_keep (a1) (s : State) : (emit a1 s).keep = s.keep := by
  (unfold emit; simp only [keep_mk, keep_fold, apply_ite State.keep, ite_self, next_keep, whenS_keep, forEach_keep, ifSome_keep, foldl_keep]; done)

theorem freeNat_keep (a1) (s : State) : (freeNat a1 s).2.keep = s.keep := by
  (unfold freeNat; simp only [keep_mk, keep_fold, apply_ite State.keep, ite_self, next_keep, whenS_keep, forEach_keep, ifSome_keep, foldl_keep]; done)

theorem freeNat_keep2 (a1) (s : State) : ∀ y0 t, (freeNat a1 s) = (y0, t) → t.keep = s.keep := by
  intro y0 t h; have := freeNat_keep a1 s; rw [h] at this; exact this

theorem freeBytes_keep (a1) (s : State) : (freeBytes a1 s).2.keep = s.keep := by
  (unfold freeBytes; simp only [keep_mk, keep_fold, apply_ite State.keep, ite_self, next_keep, whenS_keep, forEach_keep, ifSome_keep, foldl_keep]; done)

theorem freeBytes_keep2 (a1) (s : State) : ∀ y0 t, (freeBytes a1 s) = (y0, t) → t.keep = s.keep := by
  intro y0 t h; have := freeBytes_keep a1 s; rw [h] at this; exact this

theorem countEv_keep (a1) (a2) (a3) (a4) (s : State) : (countEv a1 a2 a3 a4 s).keep = s.keep := by
  (unfold countEv; simp only [keep_mk, keep_fold, apply_ite State.keep, ite_self, next_keep, whenS_keep, forEach_keep, ifSome_keep, foldl_keep]; done)

theorem modFn_keep (a1) (a2) (s : State) : (modFn a1 a2 s).keep = s.keep := by
  (unfold modFn; simp only [keep_mk, keep_fold, apply_ite State.keep, ite_self, next_keep, whenS_keep, forEach_keep, ifSome_keep, foldl_keep]; done)

theorem modVec_keep (a1) (a2) (a3) (s : State) : (modVec a1 a2 a3 s).keep = s.keep := by
  (unfold modVec; simp only [keep_mk, keep_fold, apply_ite State.keep, ite_self, next_keep, whenS_keep, forEach_keep, ifSome_keep, foldl_keep]; done)

theorem sendMsix_keep (a1) (a2) (s : State) : (sendMsix a1 a2 s).keep = s.keep := by
  (unfold sendMsix; simp only [keep_mk, keep_fold, apply_ite State.keep, ite_self, next_keep, whenS_keep, forEach_keep, ifSome_keep, foldl_keep, countEv_keep, emit_keep, modVec_keep]; done)

theorem mgtEvent_keep (a1) (s : State) : (mgtEvent a1 s).keep = s.keep := by
  (unfold mgtEvent; grind [keep_mk, keep_fold, whenS_keep, forEach_keep, ifSome_keep, foldl_keep, sendMsix_keep])

theorem logEvent_keep (a1) (a2) (a3) (s : State) : (logEvent a1 a2 a3 s).keep = s.keep := by
  (unfold logEvent; grind [keep_mk, keep_fold, whenS_keep, forEach_keep, ifSome_keep, foldl_keep, mgtEvent_keep])

theorem logLimited_keep (a1) (a2) (a3) (a4) (a5) (a6) (s : State) : (logLimited a1 a2 a3 a4 a5 a6 s).keep = s.keep := by
  (unfold logLimited; simp only [keep_mk, keep_fold, apply_ite State.keep, ite_self, next_keep, whenS_keep, forEach_keep, ifSome_keep, foldl_keep, logEvent_keep]; done)

theorem setDomain_keep (a1) (a2) (s : State) : (setDomain a1 a2 s).keep = s.keep := by
  (unfold setDomain; grind [keep_mk, keep_fold, whenS_keep, forEach_keep, ifSome_keep, foldl_keep])

theorem modDomain_keep (a1) (a2) (s : State) : (modDomain a1 a2 s).keep = s.keep := by
  (unfold modDomain; simp only [keep_mk, keep_fold, apply_ite State.keep, ite_self, next_keep, whenS_keep, forEach_keep, ifSome_keep, foldl_keep, setDomain_keep]; done)

theorem modDdr_keep (a1) (a2) (s : State) : (modDdr a1 a2 s).keep = s.keep := by
  (unfold modDdr; simp only [keep_mk, keep_fold, apply_ite State.keep, ite_self, next_keep, whenS_keep, forEach_keep, ifSome_keep, foldl_keep]; done)

theorem followUse_keep (a1) (a2) (s : State) : (followUse a1 a2 s).keep = s.keep := by
  (unfold followUse; simp only [keep_mk, keep_fold, apply_ite State.keep, ite_self, next_keep, whenS_keep, forEach_keep, ifSome_keep, foldl_keep, setDomain_keep]; done)

theorem bankOff_keep (a1) (a2) (s : State) : (bankOff a1 a2 s).keep = s.keep := by
  (unfold bankOff; simp only [keep_mk, keep_fold, apply_ite State.keep, ite_self, next_keep, whenS_keep, forEach_keep, ifSome_keep, foldl_keep, followUse_keep, logEvent_keep]; done)

theorem modWdn_keep (a1) (s : State) : (modWdn a1 s).keep = s.keep := by
  (unfold modWdn; simp only [keep_mk, keep_fold, apply_ite State.keep, ite_self, next_keep, whenS_keep, forEach_keep, ifSome_keep, foldl_keep]; done)

theorem modRole_keep (a1) (a2) (s : State) : (modRole a1 a2 s).keep = s.keep := by
  (unfold modRole; simp only [keep_mk, keep_fold, apply_ite State.keep, ite_self, next_keep, whenS_keep, forEach_keep, ifSome_keep, foldl_keep, modWdn_keep]; done)

theorem modTask_keep (a1) (a2) (a3) (s : State) : (modTask a1 a2 a3 s).keep = s.keep := by
  (unfold modTask; simp only [keep_mk, keep_fold, apply_ite State.keep, ite_self, next_keep, whenS_keep, forEach_keep, ifSome_keep, foldl_keep, modRole_keep]; done)

theorem modCore_keep (a1) (a2) (s : State) : (modCore a1 a2 s).keep = s.keep := by
  (unfold modCore; simp only [keep_mk, keep_fold, apply_ite State.keep, ite_self, next_keep, whenS_keep, forEach_keep, ifSome_keep, foldl_keep, modWdn_keep]; done)

theorem setLock_keep (a1) (a2) (s : State) : (setLock a1 a2 s).keep = s.keep := by
  (unfold setLock; simp only [keep_mk, keep_fold, apply_ite State.keep, ite_self, next_keep, whenS_keep, forEach_keep, ifSome_keep, foldl_keep, modWdn_keep]; done)

theorem orphan_keep (a1) (s : State) : (orphan a1 s).keep = s.keep := by
  (unfold orphan; grind [keep_mk, keep_fold, whenS_keep, forEach_keep, ifSome_keep, foldl_keep, logEvent_keep, setLock_keep])

theorem advanceEpoch_keep (a1) (s : State) : (advanceEpoch a1 s).keep = s.keep := by
  (unfold advanceEpoch; simp only [keep_mk, keep_fold, apply_ite State.keep, ite_self, next_keep, whenS_keep, forEach_keep, ifSome_keep, foldl_keep, orphan_keep]; done)

theorem lockAcquire_keep (a1) (a2) (s : State) : (lockAcquire a1 a2 s).2.keep = s.keep := by
  (unfold lockAcquire; grind [keep_mk, keep_fold, whenS_keep, forEach_keep, ifSome_keep, foldl_keep, setLock_keep])

theorem lockAcquire_keep2 (a1) (a2) (s : State) : ∀ y0 t, (lockAcquire a1 a2 s) = (y0, t) → t.keep = s.keep := by
  intro y0 t h; have := lockAcquire_keep a1 a2 s; rw [h] at this; exact this

theorem lockRelease_keep (a1) (a2) (s : State) : (lockRelease a1 a2 s).keep = s.keep := by
  (unfold lockRelease; simp only [keep_mk, keep_fold, apply_ite State.keep, ite_self, next_keep, whenS_keep, forEach_keep, ifSome_keep, foldl_keep, setLock_keep, logLimited_keep]; done)

theorem sched_keep (a1) (s : State) : (sched a1 s).keep = s.keep := by
  (unfold sched; simp only [keep_mk, keep_fold, apply_ite State.keep, ite_self, next_keep, whenS_keep, forEach_keep, ifSome_keep, foldl_keep, modRole_keep]; done)

theorem endTask_keep (a1) (a2) (s : State) : (endTask a1 a2 s).keep = s.keep := by
  (unfold endTask; simp only [keep_mk, keep_fold, apply_ite State.keep, ite_self, next_keep, whenS_keep, forEach_keep, ifSome_keep, foldl_keep, orphan_keep, modTask_keep]; done)

theorem tcDone_keep (a1) (a2) (s : State) : (tcDone a1 a2 s).keep = s.keep := by
  (unfold tcDone; simp only [keep_mk, keep_fold, apply_ite State.keep, ite_self, next_keep, whenS_keep, forEach_keep, ifSome_keep, foldl_keep, modRole_keep]; done)

theorem park_keep (a1) (a2) (a3) (s : State) : (park a1 a2 a3 s).keep = s.keep := by
  (unfold park; grind [keep_mk, keep_fold, whenS_keep, forEach_keep, ifSome_keep, foldl_keep, tcDone_keep, modRole_keep, endTask_keep, modTask_keep])

theorem postBit_keep (a1) (a2) (a3) (s : State) : (postBit a1 a2 a3 s).keep = s.keep := by
  (unfold postBit; simp only [keep_mk, keep_fold, apply_ite State.keep, ite_self, next_keep, whenS_keep, forEach_keep, ifSome_keep, foldl_keep, modRole_keep, modTask_keep, sched_keep]; done)

theorem routeWord_keep (a1) (s : State) : (routeWord a1 s).keep = s.keep := by
  (unfold routeWord; simp only [keep_mk, keep_fold, apply_ite State.keep, ite_self, next_keep, whenS_keep, forEach_keep, ifSome_keep, foldl_keep, postBit_keep]; done)

theorem routePost_keep (a1) (s : State) : (routePost a1 s).keep = s.keep := by
  (unfold routePost; grind [keep_mk, keep_fold, whenS_keep, forEach_keep, ifSome_keep, foldl_keep, routeWord_keep])

theorem startTask_keep (a1) (a2) (a3) (s : State) : (startTask a1 a2 a3 s).keep = s.keep := by
  (unfold startTask; simp only [keep_mk, keep_fold, apply_ite State.keep, ite_self, next_keep, whenS_keep, forEach_keep, ifSome_keep, foldl_keep, sched_keep, modRole_keep]; done)

theorem tcCreate_keep (a1) (a2) (a3) (a4) (a5) (a6) (s : State) : (tcCreate a1 a2 a3 a4 a5 a6 s).keep = s.keep := by
  (unfold tcCreate; simp only [keep_mk, keep_fold, apply_ite State.keep, ite_self, next_keep, whenS_keep, forEach_keep, ifSome_keep, foldl_keep, tcDone_keep, startTask_keep]; done)

theorem tcCancel_keep (a1) (a2) (a3) (s : State) : (tcCancel a1 a2 a3 s).keep = s.keep := by
  (unfold tcCancel; simp only [keep_mk, keep_fold, apply_ite State.keep, ite_self, next_keep, whenS_keep, forEach_keep, ifSome_keep, foldl_keep, tcDone_keep, modRole_keep, modTask_keep, sched_keep, park_keep]; done)

theorem timerArm_keep (a1) (a2) (a3) (s : State) : (timerArm a1 a2 a3 s).keep = s.keep := by
  (unfold timerArm; simp only [keep_mk, keep_fold, apply_ite State.keep, ite_self, next_keep, whenS_keep, forEach_keep, ifSome_keep, foldl_keep, modRole_keep]; done)

theorem timerCount_keep (a1) (a2) (a3) (s : State) : (timerCount a1 a2 a3 s).keep = s.keep := by
  (unfold timerCount; simp only [keep_mk, keep_fold, apply_ite State.keep, ite_self, next_keep, whenS_keep, forEach_keep, ifSome_keep, foldl_keep, modRole_keep]; done)

theorem timerExpire_keep (a1) (a2) (s : State) : (timerExpire a1 a2 s).keep = s.keep := by
  (unfold timerExpire; grind [keep_mk, keep_fold, whenS_keep, forEach_keep, ifSome_keep, foldl_keep, postBit_keep, modRole_keep])

theorem kick_keep (a1) (s : State) : (kick a1 s).keep = s.keep := by
  (unfold kick; grind [keep_mk, keep_fold, whenS_keep, forEach_keep, ifSome_keep, foldl_keep, modRole_keep])

theorem evPost_keep (a1) (s : State) : (evPost a1 s).keep = s.keep := by
  (unfold evPost; simp only [keep_mk, keep_fold, apply_ite State.keep, ite_self, next_keep, whenS_keep, forEach_keep, ifSome_keep, foldl_keep, postBit_keep]; done)

theorem wdnRead_keep (a1) (a2) (s : State) : ∀ y0 t, wdnRead a1 a2 s = some (y0, t) → t.keep = s.keep := by
  (unfold wdnRead; dsimp only; (repeat' split) <;> (first | (simp (disch := (intros; first | (simp only [keep_mk, keep_fold, apply_ite State.keep, ite_self, next_keep, whenS_keep, forEach_keep, ifSome_keep, foldl_keep, modRole_keep]; done) | grind [keep_mk, keep_fold, whenS_keep, forEach_keep, ifSome_keep, foldl_keep, modRole_keep, Option.map_eq_some_iff, Option.bind_eq_some_iff])) only [keep_mk, keep_fold, apply_ite State.keep, ite_self, next_keep, whenS_keep, forEach_keep, ifSome_keep, foldl_keep, modRole_keep]; done) | grind [keep_mk, keep_fold, whenS_keep, forEach_keep, ifSome_keep, foldl_keep, modRole_keep, Option.map_eq_some_iff, Option.bind_eq_some_iff]))

theorem wdnWrite_keep (a1) (a2) (a3) (s : State) : ∀ t, wdnWrite a1 a2 a3 s = some t → t.keep = s.keep := by
  (unfold wdnWrite; grind [keep_mk, keep_fold, whenS_keep, forEach_keep, ifSome_keep, foldl_keep, timerCount_keep, timerArm_keep, modRole_keep, tcCreate_keep, tcCancel_keep, evPost_keep, kick_keep])

theorem lckRead_keep (a1) (a2) (s : State) : ∀ y0 t, lckRead a1 a2 s = some (y0, t) → t.keep = s.keep := by
  (unfold lckRead; dsimp only; (repeat' split) <;> (first | (simp (disch := (intros; first | (simp only [keep_mk, keep_fold, apply_ite State.keep, ite_self, next_keep, whenS_keep, forEach_keep, ifSome_keep, foldl_keep, lockAcquire_keep]; done) | grind [keep_mk, keep_fold, whenS_keep, forEach_keep, ifSome_keep, foldl_keep, lockAcquire_keep, lockAcquire_keep2, Option.map_eq_some_iff, Option.bind_eq_some_iff])) only [keep_mk, keep_fold, apply_ite State.keep, ite_self, next_keep, whenS_keep, forEach_keep, ifSome_keep, foldl_keep, lockAcquire_keep]; done) | grind [keep_mk, keep_fold, whenS_keep, forEach_keep, ifSome_keep, foldl_keep, lockAcquire_keep, lockAcquire_keep2, Option.map_eq_some_iff, Option.bind_eq_some_iff]))

theorem lckWrite_keep (a1) (a2) (s : State) : ∀ t, lckWrite a1 a2 s = some t → t.keep = s.keep := by
  (unfold lckWrite; grind [keep_mk, keep_fold, whenS_keep, forEach_keep, ifSome_keep, foldl_keep, lockRelease_keep])

theorem modLbl_keep (a1 : Label → Label) (s : State) (h : (a1 s.lbl).locked = s.lbl.locked) : (modLbl a1 s).keep = s.keep := by
  unfold modLbl; simp only [keep_mk, h]; rfl

theorem lblStore_keep (a1) (a2) (s : State) : (lblStore a1 a2 s).keep = s.keep := by
  (unfold lblStore; simp only [keep_mk, keep_fold, apply_ite State.keep, ite_self, next_keep, whenS_keep, forEach_keep, ifSome_keep, foldl_keep, modLbl_keep]; done)

theorem lblMailbox_keep (a1) (s : State) : (lblMailbox a1 s).keep = s.keep := by
  (unfold lblMailbox; simp only [keep_mk, keep_fold, apply_ite State.keep, ite_self, next_keep, whenS_keep, forEach_keep, ifSome_keep, foldl_keep, lblStore_keep]; done)

theorem lblDone_keep (a1) (s : State) : (lblDone a1 s).keep = s.keep := by
  (unfold lblDone; simp only [keep_mk, keep_fold, apply_ite State.keep, ite_self, next_keep, whenS_keep, forEach_keep, ifSome_keep, foldl_keep, modLbl_keep]; done)

theorem mirrorOver_keep (s : State) : (mirrorOver s).keep = s.keep := by
  (unfold mirrorOver; simp only [keep_mk, keep_fold, apply_ite State.keep, ite_self, next_keep, whenS_keep, forEach_keep, ifSome_keep, foldl_keep, modLbl_keep]; done)

theorem jobEnd_keep (a1) (a2) (s : State) : (jobEnd a1 a2 s).keep = s.keep := by
  (unfold jobEnd; grind [keep_mk, keep_fold, whenS_keep, forEach_keep, ifSome_keep, foldl_keep, lblDone_keep, modLbl_keep, mirrorOver_keep])

theorem lblPump_keep (a1) (s : State) : (lblPump a1 s).keep = s.keep := by
  (fun_induction lblPump <;> grind [keep_mk, keep_fold, whenS_keep, forEach_keep, ifSome_keep, foldl_keep, modLbl_keep, jobEnd_keep])

theorem lblGo_keep (s : State) : (lblGo s).keep = s.keep := by
  (unfold lblGo; simp only [keep_mk, keep_fold, apply_ite State.keep, ite_self, next_keep, whenS_keep, forEach_keep, ifSome_keep, foldl_keep, lblPump_keep]; done)

theorem lblSubmit_keep (a1) (s : State) : (lblSubmit a1 s).keep = s.keep := by
  (unfold lblSubmit; simp only [keep_mk, keep_fold, apply_ite State.keep, ite_self, next_keep, whenS_keep, forEach_keep, ifSome_keep, foldl_keep, lblGo_keep, modLbl_keep, jobEnd_keep]; done)

theorem lblCommit_keep (s : State) : (lblCommit s).keep = s.keep := by
  (unfold lblCommit; grind [keep_mk, keep_fold, whenS_keep, forEach_keep, ifSome_keep, foldl_keep, jobEnd_keep, lblStore_keep, modLbl_keep])

theorem labelMirror_keep (s : State) : (labelMirror s).keep = s.keep := by
  (unfold labelMirror; grind [keep_mk, keep_fold, whenS_keep, forEach_keep, ifSome_keep, foldl_keep, mirrorOver_keep, modLbl_keep, jobEnd_keep, lblStore_keep, lblGo_keep])

theorem lblBoot_keep (s : State) : (lblBoot s).keep = s.keep := by
  (unfold lblBoot; simp only [keep_mk, keep_fold, apply_ite State.keep, ite_self, next_keep, whenS_keep, forEach_keep, ifSome_keep, foldl_keep, lblSubmit_keep]; done)

theorem lblFenced_keep (s : State) : (lblFenced s).keep = s.keep := by
  (unfold lblFenced; grind [keep_mk, keep_fold, whenS_keep, forEach_keep, ifSome_keep, foldl_keep, jobEnd_keep, modLbl_keep])

theorem lblOp_keep (a1) (a2) (s : State) : (lblOp a1 a2 s).keep = s.keep := by
  (unfold lblOp; simp only [keep_mk, keep_fold, apply_ite State.keep, ite_self, next_keep, whenS_keep, forEach_keep, ifSome_keep, foldl_keep, lblDone_keep, modLbl_keep, lblSubmit_keep]; done)

theorem lblWrite_keep (a1) (a2) (a3) (s : State) : ∀ t, lblWrite a1 a2 a3 s = some t → t.keep = s.keep := by
  (unfold lblWrite; grind [keep_mk, keep_fold, whenS_keep, forEach_keep, ifSome_keep, foldl_keep, modLbl_keep, lblOp_keep])

theorem modPool_keep (a1) (a2) (s : State) : (modPool a1 a2 s).keep = s.keep := by
  (unfold modPool; simp only [keep_mk, keep_fold, apply_ite State.keep, ite_self, next_keep, whenS_keep, forEach_keep, ifSome_keep, foldl_keep]; done)

theorem poolEvents_keep (a1) (a2) (s : State) : (poolEvents a1 a2 s).keep = s.keep := by
  (unfold poolEvents; simp only [keep_mk, keep_fold, apply_ite State.keep, ite_self, next_keep, whenS_keep, forEach_keep, ifSome_keep, foldl_keep, logLimited_keep]; done)

theorem takeFrom_keep (a1) (a2) (a3) (s : State) : ∀ y0 t, takeFrom a1 a2 a3 s = some (y0, t) → t.keep = s.keep := by
  (unfold takeFrom; dsimp only; (repeat' split) <;> (first | (simp (disch := (intros; first | (simp only [keep_mk, keep_fold, apply_ite State.keep, ite_self, next_keep, whenS_keep, forEach_keep, ifSome_keep, foldl_keep, freeNat_keep, modPool_keep, poolEvents_keep]; done) | grind [keep_mk, keep_fold, whenS_keep, forEach_keep, ifSome_keep, foldl_keep, freeNat_keep, modPool_keep, poolEvents_keep, freeNat_keep2, Option.map_eq_some_iff, Option.bind_eq_some_iff])) only [keep_mk, keep_fold, apply_ite State.keep, ite_self, next_keep, whenS_keep, forEach_keep, ifSome_keep, foldl_keep, freeNat_keep, modPool_keep, poolEvents_keep]; done) | grind [keep_mk, keep_fold, whenS_keep, forEach_keep, ifSome_keep, foldl_keep, freeNat_keep, modPool_keep, poolEvents_keep, freeNat_keep2, Option.map_eq_some_iff, Option.bind_eq_some_iff]))

theorem takeOne_keep (a1) (a2) (a3) (a4) (s : State) : ∀ y0 t, takeOne a1 a2 a3 a4 s = some (y0, t) → t.keep = s.keep := by
  (unfold takeOne; dsimp only; (repeat' split) <;> (first | (simp (disch := (intros; first | (simp only [keep_mk, keep_fold, apply_ite State.keep, ite_self, next_keep, whenS_keep, forEach_keep, ifSome_keep, foldl_keep, takeFrom_keep]; done) | grind [keep_mk, keep_fold, whenS_keep, forEach_keep, ifSome_keep, foldl_keep, takeFrom_keep, Option.map_eq_some_iff, Option.bind_eq_some_iff])) only [keep_mk, keep_fold, apply_ite State.keep, ite_self, next_keep, whenS_keep, forEach_keep, ifSome_keep, foldl_keep, takeFrom_keep]; done) | grind [keep_mk, keep_fold, whenS_keep, forEach_keep, ifSome_keep, foldl_keep, takeFrom_keep, Option.map_eq_some_iff, Option.bind_eq_some_iff]))

theorem takeChain_keep (a1) (a2) (a3) (a4) (s : State) : ∀ y0 t, takeChain a1 a2 a3 a4 s = some (y0, t) → t.keep = s.keep := by
  (fun_induction takeChain <;> grind [keep_mk, keep_fold, whenS_keep, forEach_keep, ifSome_keep, foldl_keep, takeOne_keep, Option.map_eq_some_iff, Option.bind_eq_some_iff])

theorem cadTake_keep (a1) (a2) (a3) (a4) (s : State) : ∀ y0 t, cadTake a1 a2 a3 a4 s = some (y0, t) → t.keep = s.keep := by
  (induction a1 generalizing a2 a3 a4 s <;> (unfold cadTake <;> grind [keep_mk, keep_fold, whenS_keep, forEach_keep, ifSome_keep, foldl_keep, takeChain_keep, Option.map_eq_some_iff, Option.bind_eq_some_iff]))

theorem cadFree_keep (a1) (a2) (a3) (s : State) : (cadFree a1 a2 a3 s).2.keep = s.keep := by
  (unfold cadFree; grind [keep_mk, keep_fold, whenS_keep, forEach_keep, ifSome_keep, foldl_keep, logEvent_keep, modPool_keep])

theorem cadFree_keep2 (a1) (a2) (a3) (s : State) : ∀ y0 t, (cadFree a1 a2 a3 s) = (y0, t) → t.keep = s.keep := by
  intro y0 t h; have := cadFree_keep a1 a2 a3 s; rw [h] at this; exact this

theorem cadRelease_keep (a1) (s : State) : (cadRelease a1 s).keep = s.keep := by
  (unfold cadRelease; grind [keep_mk, keep_fold, whenS_keep, forEach_keep, ifSome_keep, foldl_keep, cadFree_keep])

theorem cadMove_keep (a1) (a2) (a3) (s : State) : ∀ t, cadMove a1 a2 a3 s = some t → t.keep = s.keep := by
  (unfold cadMove; grind [keep_mk, keep_fold, whenS_keep, forEach_keep, ifSome_keep, foldl_keep, modPool_keep])

theorem cadReturn_keep (a1) (s : State) : (cadReturn a1 s).keep = s.keep := by
  (unfold cadReturn; grind [keep_mk, keep_fold, whenS_keep, forEach_keep, ifSome_keep, foldl_keep, modPool_keep])

theorem modVf_keep (a1) (a2) (s : State) : (modVf a1 a2 s).keep = s.keep := by
  (unfold modVf; simp only [keep_mk, keep_fold, apply_ite State.keep, ite_self, next_keep, whenS_keep, forEach_keep, ifSome_keep, foldl_keep]; done)

theorem modTenant_keep (a1) (a2) (s : State) : (modTenant a1 a2 s).keep = s.keep := by
  (unfold modTenant; simp only [keep_mk, keep_fold, apply_ite State.keep, ite_self, next_keep, whenS_keep, forEach_keep, ifSome_keep, foldl_keep]; done)

theorem dmaFault_keep (a1) (a2) (a3) (a4) (a5) (s : State) : (dmaFault a1 a2 a3 a4 a5 s).keep = s.keep := by
  (unfold dmaFault; simp only [keep_mk, keep_fold, apply_ite State.keep, ite_self, next_keep, whenS_keep, forEach_keep, ifSome_keep, foldl_keep, countEv_keep, mgtEvent_keep, logLimited_keep]; done)

theorem dmaPut_keep (a1) (a2) (a3) (s : State) : (dmaPut a1 a2 a3 s).2.keep = s.keep := by
  (unfold dmaPut; grind [keep_mk, keep_fold, whenS_keep, forEach_keep, ifSome_keep, foldl_keep, countEv_keep, emit_keep, dmaFault_keep])

theorem dmaPut_keep2 (a1) (a2) (a3) (s : State) : ∀ y0 t, (dmaPut a1 a2 a3 s) = (y0, t) → t.keep = s.keep := by
  intro y0 t h; have := dmaPut_keep a1 a2 a3 s; rw [h] at this; exact this

theorem dmaGet_keep (a1) (a2) (a3) (a4) (s : State) : (dmaGet a1 a2 a3 a4 s).2.keep = s.keep := by
  (unfold dmaGet; grind [keep_mk, keep_fold, whenS_keep, forEach_keep, ifSome_keep, foldl_keep, emit_keep, countEv_keep, dmaFault_keep])

theorem dmaGet_keep2 (a1) (a2) (a3) (a4) (s : State) : ∀ y0 t, (dmaGet a1 a2 a3 a4 s) = (y0, t) → t.keep = s.keep := by
  intro y0 t h; have := dmaGet_keep a1 a2 a3 a4 s; rw [h] at this; exact this

theorem setRing_keep (a1) (a2) (s : State) : (setRing a1 a2 s).keep = s.keep := by
  (unfold setRing; simp only [keep_mk, keep_fold, apply_ite State.keep, ite_self, next_keep, whenS_keep, forEach_keep, ifSome_keep, foldl_keep]; done)

theorem modRing_keep (a1) (a2) (s : State) : (modRing a1 a2 s).keep = s.keep := by
  (unfold modRing; grind [keep_mk, keep_fold, whenS_keep, forEach_keep, ifSome_keep, foldl_keep, setRing_keep])

theorem announce_keep (a1) (s : State) : (announce a1 s).keep = s.keep := by
  (unfold announce; grind [keep_mk, keep_fold, whenS_keep, forEach_keep, ifSome_keep, foldl_keep, sendMsix_keep, setRing_keep])

theorem writeCq_keep (a1) (a2) (s : State) : (writeCq a1 a2 s).keep = s.keep := by
  (unfold writeCq; grind [keep_mk, keep_fold, whenS_keep, forEach_keep, ifSome_keep, foldl_keep, countEv_keep, emit_keep, announce_keep, setRing_keep, dmaFault_keep, logEvent_keep])

theorem flushCq_keep (a1) (a2) (s : State) : (flushCq a1 a2 s).keep = s.keep := by
  (fun_induction flushCq <;> grind [keep_mk, keep_fold, whenS_keep, forEach_keep, ifSome_keep, foldl_keep, setRing_keep, writeCq_keep])

theorem settle_keep (a1) (s : State) : (settle a1 s).keep = s.keep := by
  (unfold settle; simp only [keep_mk, keep_fold, apply_ite State.keep, ite_self, next_keep, whenS_keep, forEach_keep, ifSome_keep, foldl_keep, flushCq_keep]; done)

theorem modWork_keep (a1) (a2) (a3) (s : State) : (modWork a1 a2 a3 s).keep = s.keep := by
  (unfold modWork; simp only [keep_mk, keep_fold, apply_ite State.keep, ite_self, next_keep, whenS_keep, forEach_keep, ifSome_keep, foldl_keep, modRing_keep]; done)

theorem finishEntry_keep (a1) (a2) (a3) (s : State) : (finishEntry a1 a2 a3 s).keep = s.keep := by
  (unfold finishEntry; grind [keep_mk, keep_fold, whenS_keep, forEach_keep, ifSome_keep, foldl_keep, settle_keep, modWork_keep, cadRelease_keep])

theorem failEntry_keep (a1) (a2) (a3) (s : State) : (failEntry a1 a2 a3 s).keep = s.keep := by
  (unfold failEntry; grind [keep_mk, keep_fold, whenS_keep, forEach_keep, ifSome_keep, foldl_keep, finishEntry_keep])

theorem clearRing_keep (a1) (a2) (s : State) : (clearRing a1 a2 s).keep = s.keep := by
  (unfold clearRing; grind [keep_mk, keep_fold, whenS_keep, forEach_keep, ifSome_keep, foldl_keep, logEvent_keep, setRing_keep])

theorem ringRuns_keep (a1) (s : State) : (ringRuns a1 s).keep = s.keep := by
  (unfold ringRuns; simp only [keep_mk, keep_fold, apply_ite State.keep, ite_self, next_keep, whenS_keep, forEach_keep, ifSome_keep, foldl_keep, modRing_keep]; done)

theorem modPoint_keep (a1) (a2) (s : State) : (modPoint a1 a2 s).keep = s.keep := by
  (unfold modPoint; simp only [keep_mk, keep_fold, apply_ite State.keep, ite_self, next_keep, whenS_keep, forEach_keep, ifSome_keep, foldl_keep]; done)

theorem modPort_keep (a1) (a2) (s : State) : (modPort a1 a2 s).keep = s.keep := by
  (unfold modPort; simp only [keep_mk, keep_fold, apply_ite State.keep, ite_self, next_keep, whenS_keep, forEach_keep, ifSome_keep, foldl_keep]; done)

theorem modAgg_keep (a1) (a2) (s : State) : (modAgg a1 a2 s).keep = s.keep := by
  (unfold modAgg; simp only [keep_mk, keep_fold, apply_ite State.keep, ite_self, next_keep, whenS_keep, forEach_keep, ifSome_keep, foldl_keep]; done)

theorem settleTenant_keep (a1) (s : State) : (settleTenant a1 s).keep = s.keep := by
  (unfold settleTenant; simp only [keep_mk, keep_fold, apply_ite State.keep, ite_self, next_keep, whenS_keep, forEach_keep, ifSome_keep, foldl_keep, modTenant_keep]; done)

theorem settleVf_keep (a1) (s : State) : (settleVf a1 s).keep = s.keep := by
  (unfold settleVf; simp only [keep_mk, keep_fold, apply_ite State.keep, ite_self, next_keep, whenS_keep, forEach_keep, ifSome_keep, foldl_keep, modVf_keep]; done)

theorem takeTokens_keep (a1) (a2) (s : State) : (takeTokens a1 a2 s).keep = s.keep := by
  (unfold takeTokens; grind [keep_mk, keep_fold, whenS_keep, forEach_keep, ifSome_keep, foldl_keep, settleVf_keep, modVf_keep, modTenant_keep, settleTenant_keep])

theorem fillVf_keep (a1) (s : State) : (fillVf a1 s).keep = s.keep := by
  (unfold fillVf; simp only [keep_mk, keep_fold, apply_ite State.keep, ite_self, next_keep, whenS_keep, forEach_keep, ifSome_keep, foldl_keep, modVf_keep]; done)

theorem fillTenant_keep (a1) (s : State) : (fillTenant a1 s).keep = s.keep := by
  (unfold fillTenant; simp only [keep_mk, keep_fold, apply_ite State.keep, ite_self, next_keep, whenS_keep, forEach_keep, ifSome_keep, foldl_keep, modTenant_keep]; done)

theorem newId_keep (s : State) : (newId s).2.keep = s.keep := by
  (unfold newId; simp only [keep_mk, keep_fold, apply_ite State.keep, ite_self, next_keep, whenS_keep, forEach_keep, ifSome_keep, foldl_keep]; done)

theorem newId_keep2 (s : State) : ∀ y0 t, (newId s) = (y0, t) → t.keep = s.keep := by
  intro y0 t h; have := newId_keep s; rw [h] at this; exact this

theorem enqueueAt_keep (a1) (a2) (a3) (a4) (a5) (a6) (s : State) : (enqueueAt a1 a2 a3 a4 a5 a6 s).keep = s.keep := by
  (unfold enqueueAt; simp only [keep_mk, keep_fold, apply_ite State.keep, ite_self, next_keep, whenS_keep, forEach_keep, ifSome_keep, foldl_keep, newId_keep, modPoint_keep]; done)

theorem chargeDrop_keep (a1) (a2) (a3) (s : State) : (chargeDrop a1 a2 a3 s).keep = s.keep := by
  (unfold chargeDrop; simp only [keep_mk, keep_fold, apply_ite State.keep, ite_self, next_keep, whenS_keep, forEach_keep, ifSome_keep, foldl_keep, modPoint_keep, countEv_keep, logLimited_keep]; done)

theorem takeItem_keep (a1) (a2) (s : State) : (takeItem a1 a2 s).keep = s.keep := by
  (unfold takeItem; simp only [keep_mk, keep_fold, apply_ite State.keep, ite_self, next_keep, whenS_keep, forEach_keep, ifSome_keep, foldl_keep, countEv_keep, modPoint_keep]; done)

theorem popItem_keep (a1) (a2) (s : State) : ∀ y0 t, popItem a1 a2 s = some (y0, t) → t.keep = s.keep := by
  (unfold popItem; dsimp only; (repeat' split) <;> (first | (simp (disch := (intros; first | (simp only [keep_mk, keep_fold, apply_ite State.keep, ite_self, next_keep, whenS_keep, forEach_keep, ifSome_keep, foldl_keep, modPoint_keep, takeItem_keep]; done) | grind [keep_mk, keep_fold, whenS_keep, forEach_keep, ifSome_keep, foldl_keep, modPoint_keep, takeItem_keep, Option.map_eq_some_iff, Option.bind_eq_some_iff])) only [keep_mk, keep_fold, apply_ite State.keep, ite_self, next_keep, whenS_keep, forEach_keep, ifSome_keep, foldl_keep, modPoint_keep, takeItem_keep]; done) | grind [keep_mk, keep_fold, whenS_keep, forEach_keep, ifSome_keep, foldl_keep, modPoint_keep, takeItem_keep, Option.map_eq_some_iff, Option.bind_eq_some_iff]))

theorem purgeFrames_keep (a1) (s : State) : (purgeFrames a1 s).keep = s.keep := by
  (unfold purgeFrames; simp only [keep_mk, keep_fold, apply_ite State.keep, ite_self, next_keep, whenS_keep, forEach_keep, ifSome_keep, foldl_keep]; done)

theorem modCry_keep (a1) (s : State) : (modCry a1 s).keep = s.keep := by
  (unfold modCry; simp only [keep_mk, keep_fold, apply_ite State.keep, ite_self, next_keep, whenS_keep, forEach_keep, ifSome_keep, foldl_keep]; done)

theorem modSa_keep (a1) (a2) (s : State) : (modSa a1 a2 s).keep = s.keep := by
  (unfold modSa; simp only [keep_mk, keep_fold, apply_ite State.keep, ite_self, next_keep, whenS_keep, forEach_keep, ifSome_keep, foldl_keep, modCry_keep]; done)

theorem drbgBytes_keep (a1) (s : State) : (drbgBytes a1 s).2.keep = s.keep := by
  (unfold drbgBytes; simp only [keep_mk, keep_fold, apply_ite State.keep, ite_self, next_keep, whenS_keep, forEach_keep, ifSome_keep, foldl_keep, freeBytes_keep, modCry_keep]; done)

theorem drbgBytes_keep2 (a1) (s : State) : ∀ y0 t, (drbgBytes a1 s) = (y0, t) → t.keep = s.keep := by
  intro y0 t h; have := drbgBytes_keep a1 s; rw [h] at this; exact this

theorem saRecord_keep (a1) (a2) (a3) (s : State) : (saRecord a1 a2 a3 s).keep = s.keep := by
  (unfold saRecord; simp only [keep_mk, keep_fold, apply_ite State.keep, ite_self, next_keep, whenS_keep, forEach_keep, ifSome_keep, foldl_keep, logEvent_keep]; done)

theorem saSoft_keep (a1) (a2) (a3) (s : State) : (saSoft a1 a2 a3 s).keep = s.keep := by
  (unfold saSoft; grind [keep_mk, keep_fold, whenS_keep, forEach_keep, ifSome_keep, foldl_keep, saRecord_keep, modSa_keep])

theorem saSpent_keep (a1) (a2) (s : State) : (saSpent a1 a2 s).keep = s.keep := by
  (unfold saSpent; grind [keep_mk, keep_fold, whenS_keep, forEach_keep, ifSome_keep, foldl_keep, saRecord_keep, modSa_keep])

theorem takeNum_keep (a1) (a2) (a3) (s : State) : (takeNum a1 a2 a3 s).2.keep = s.keep := by
  (unfold takeNum; grind [keep_mk, keep_fold, whenS_keep, forEach_keep, ifSome_keep, foldl_keep, saSpent_keep, saSoft_keep, modSa_keep])

theorem takeNum_keep2 (a1) (a2) (a3) (s : State) : ∀ y0 t, (takeNum a1 a2 a3 s) = (y0, t) → t.keep = s.keep := by
  intro y0 t h; have := takeNum_keep a1 a2 a3 s; rw [h] at this; exact this

theorem saCount_keep (a1) (a2) (s : State) : (saCount a1 a2 s).keep = s.keep := by
  (unfold saCount; simp only [keep_mk, keep_fold, apply_ite State.keep, ite_self, next_keep, whenS_keep, forEach_keep, ifSome_keep, foldl_keep, modSa_keep]; done)

theorem saFail_keep (a1) (a2) (s : State) : (saFail a1 a2 s).keep = s.keep := by
  (unfold saFail; grind [keep_mk, keep_fold, whenS_keep, forEach_keep, ifSome_keep, foldl_keep, modSa_keep, logLimited_keep])

theorem removeSa_keep (a1) (s : State) : (removeSa a1 s).keep = s.keep := by
  (unfold removeSa; simp only [keep_mk, keep_fold, apply_ite State.keep, ite_self, next_keep, whenS_keep, forEach_keep, ifSome_keep, foldl_keep, modCry_keep]; done)

theorem wipeSlots_keep (a1) (s : State) : (wipeSlots a1 s).keep = s.keep := by
  (unfold wipeSlots; grind [keep_mk, keep_fold, whenS_keep, forEach_keep, ifSome_keep, foldl_keep, removeSa_keep, modCry_keep])

theorem setKeks_keep (a1) (a2) (s : State) : (setKeks a1 a2 s).keep = s.keep := by
  (unfold setKeks; simp only [keep_mk, keep_fold, apply_ite State.keep, ite_self, next_keep, whenS_keep, forEach_keep, ifSome_keep, foldl_keep, modCry_keep]; done)

theorem macsecPn_keep (a1) (s : State) : (macsecPn a1 s).2.keep = s.keep := by
  (induction a1 generalizing s <;> unfold macsecPn <;> grind [keep_mk, keep_fold, whenS_keep, forEach_keep, ifSome_keep, foldl_keep, takeNum_keep])

theorem macsecPn_keep2 (a1) (s : State) : ∀ y0 t, (macsecPn a1 s) = (y0, t) → t.keep = s.keep := by
  intro y0 t h; have := macsecPn_keep a1 s; rw [h] at this; exact this

theorem macsecProtect_keep (a1) (a2) (a3) (s : State) : (macsecProtect a1 a2 a3 s).2.keep = s.keep := by
  (unfold macsecProtect; grind [keep_mk, keep_fold, whenS_keep, forEach_keep, ifSome_keep, foldl_keep, saCount_keep])

theorem macsecProtect_keep2 (a1) (a2) (a3) (s : State) : ∀ y0 t, (macsecProtect a1 a2 a3 s) = (y0, t) → t.keep = s.keep := by
  intro y0 t h; have := macsecProtect_keep a1 a2 a3 s; rw [h] at this; exact this

theorem macsecLeave_keep (a1) (a2) (s : State) : (macsecLeave a1 a2 s).2.keep = s.keep := by
  (induction a1 generalizing s <;> unfold macsecLeave <;> grind [keep_mk, keep_fold, whenS_keep, forEach_keep, ifSome_keep, foldl_keep, macsecPn_keep, macsecProtect_keep])

theorem macsecLeave_keep2 (a1) (a2) (s : State) : ∀ y0 t, (macsecLeave a1 a2 s) = (y0, t) → t.keep = s.keep := by
  intro y0 t h; have := macsecLeave_keep a1 a2 s; rw [h] at this; exact this

theorem macsecSeen_keep (a1) (a2) (a3) (s : State) : (macsecSeen a1 a2 a3 s).keep = s.keep := by
  (unfold macsecSeen; grind [keep_mk, keep_fold, whenS_keep, forEach_keep, ifSome_keep, foldl_keep, saSoft_keep, saCount_keep, modSa_keep])

theorem macsecTake_keep (a1) (a2) (s : State) : (macsecTake a1 a2 s).2.keep = s.keep := by
  (unfold macsecTake; grind [keep_mk, keep_fold, whenS_keep, forEach_keep, ifSome_keep, foldl_keep, saFail_keep, macsecSeen_keep])

theorem macsecTake_keep2 (a1) (a2) (s : State) : ∀ y0 t, (macsecTake a1 a2 s) = (y0, t) → t.keep = s.keep := by
  intro y0 t h; have := macsecTake_keep a1 a2 s; rw [h] at this; exact this

theorem espIn_keep (a1) (a2) (s : State) : (espIn a1 a2 s).2.keep = s.keep := by
  (unfold espIn; dsimp only; (repeat' split) <;> (first | (simp (disch := (intros; first | (simp only [keep_mk, keep_fold, apply_ite State.keep, ite_self, next_keep, whenS_keep, forEach_keep, ifSome_keep, foldl_keep, saFail_keep, saCount_keep, modSa_keep]; done) | grind [keep_mk, keep_fold, whenS_keep, forEach_keep, ifSome_keep, foldl_keep, saFail_keep, saCount_keep, modSa_keep])) only [keep_mk, keep_fold, apply_ite State.keep, ite_self, next_keep, whenS_keep, forEach_keep, ifSome_keep, foldl_keep, saFail_keep, saCount_keep, modSa_keep]; done) | grind [keep_mk, keep_fold, whenS_keep, forEach_keep, ifSome_keep, foldl_keep, saFail_keep, saCount_keep, modSa_keep]))

theorem espIn_keep2 (a1) (a2) (s : State) : ∀ y0 t, (espIn a1 a2 s) = (y0, t) → t.keep = s.keep := by
  intro y0 t h; have := espIn_keep a1 a2 s; rw [h] at this; exact this

theorem noSaDrop_keep (s : State) : (noSaDrop s).keep = s.keep := by
  (unfold noSaDrop; simp only [keep_mk, keep_fold, apply_ite State.keep, ite_self, next_keep, whenS_keep, forEach_keep, ifSome_keep, foldl_keep, logLimited_keep]; done)

theorem cryptEnter_keep (a1) (s : State) : (cryptEnter a1 s).2.keep = s.keep := by
  (induction a1 generalizing s <;> unfold cryptEnter <;> grind [keep_mk, keep_fold, whenS_keep, forEach_keep, ifSome_keep, foldl_keep, macsecPn_keep, takeNum_keep])

theorem cryptEnter_keep2 (a1) (s : State) : ∀ y0 t, (cryptEnter a1 s) = (y0, t) → t.keep = s.keep := by
  intro y0 t h; have := cryptEnter_keep a1 s; rw [h] at this; exact this

theorem cryptLeave_keep (a1) (a2) (a3) (s : State) : (cryptLeave a1 a2 a3 s).2.keep = s.keep := by
  (unfold cryptLeave; grind [keep_mk, keep_fold, whenS_keep, forEach_keep, ifSome_keep, foldl_keep, macsecProtect_keep, macsecTake_keep, saCount_keep, espIn_keep])

theorem cryptLeave_keep2 (a1) (a2) (a3) (s : State) : ∀ y0 t, (cryptLeave a1 a2 a3 s) = (y0, t) → t.keep = s.keep := by
  intro y0 t h; have := cryptLeave_keep a1 a2 a3 s; rw [h] at this; exact this

theorem tlsRecord_keep (a1) (a2) (s : State) : (tlsRecord a1 a2 s).2.keep = s.keep := by
  (unfold tlsRecord; grind [keep_mk, keep_fold, whenS_keep, forEach_keep, ifSome_keep, foldl_keep, saCount_keep, modSa_keep, saSoft_keep, saSpent_keep])

theorem tlsRecord_keep2 (a1) (a2) (s : State) : ∀ y0 t, (tlsRecord a1 a2 s) = (y0, t) → t.keep = s.keep := by
  intro y0 t h; have := tlsRecord_keep a1 a2 s; rw [h] at this; exact this

theorem tlsSeal_keep (a1) (a2) (a3) (a4) (s : State) : (tlsSeal a1 a2 a3 a4 s).2.keep = s.keep := by
  (fun_induction tlsSeal <;> grind [keep_mk, keep_fold, whenS_keep, forEach_keep, ifSome_keep, foldl_keep, tlsRecord_keep])

theorem tlsSeal_keep2 (a1) (a2) (a3) (a4) (s : State) : ∀ y0 t, (tlsSeal a1 a2 a3 a4 s) = (y0, t) → t.keep = s.keep := by
  intro y0 t h; have := tlsSeal_keep a1 a2 a3 a4 s; rw [h] at this; exact this

end Sys2Proof.Machine
end

