-- ==== Sys2Proof/Laws/Keep2.lean ====
section
/-!
SUPPORT. Sys2Proof/Laws/Keep2.lean: part 2 of 8 of the frame lemmas, one for each function on states: it leaves the queue, the microseconds, the OTP and the label locks alone.
-/
namespace Sys2Proof.Machine
open Sys2Proof
set_option linter.all false
set_option maxRecDepth 4000

theorem tlsOpen_keep (a1) (a2) (s : State) : (tlsOpen a1 a2 s).2.keep = s.keep := by
  (unfold tlsOpen; dsimp only; (repeat' split) <;> (first | (simp (disch := (intros; first | (simp only [keep_mk, keep_fold, apply_ite State.keep, ite_self, next_keep, whenS_keep, forEach_keep, ifSome_keep, foldl_keep, saFail_keep, tlsRecord_keep]; done) | grind [keep_mk, keep_fold, whenS_keep, forEach_keep, ifSome_keep, foldl_keep, saFail_keep, tlsRecord_keep])) only [keep_mk, keep_fold, apply_ite State.keep, ite_self, next_keep, whenS_keep, forEach_keep, ifSome_keep, foldl_keep, saFail_keep, tlsRecord_keep]; done) | grind [keep_mk, keep_fold, whenS_keep, forEach_keep, ifSome_keep, foldl_keep, saFail_keep, tlsRecord_keep]))

theorem tlsOpen_keep2 (a1) (a2) (s : State) : ∀ y0 t, (tlsOpen a1 a2 s) = (y0, t) → t.keep = s.keep := by
  intro y0 t h; have := tlsOpen_keep a1 a2 s; rw [h] at this; exact this

theorem modSto_keep (a1) (s : State) : (modSto a1 s).keep = s.keep := by
  (unfold modSto; simp only [keep_mk, keep_fold, apply_ite State.keep, ite_self, next_keep, whenS_keep, forEach_keep, ifSome_keep, foldl_keep]; done)

theorem modConn_keep (a1) (a2) (s : State) : (modConn a1 a2 s).keep = s.keep := by
  (unfold modConn; simp only [keep_mk, keep_fold, apply_ite State.keep, ite_self, next_keep, whenS_keep, forEach_keep, ifSome_keep, foldl_keep, modSto_keep]; done)

theorem modLat_keep (a1) (s : State) : (modLat a1 s).keep = s.keep := by
  (unfold modLat; simp only [keep_mk, keep_fold, apply_ite State.keep, ite_self, next_keep, whenS_keep, forEach_keep, ifSome_keep, foldl_keep]; done)

theorem modLink_keep (a1) (a2) (s : State) : (modLink a1 a2 s).keep = s.keep := by
  (unfold modLink; simp only [keep_mk, keep_fold, apply_ite State.keep, ite_self, next_keep, whenS_keep, forEach_keep, ifSome_keep, foldl_keep, modLat_keep]; done)

theorem latTrain_keep (a1) (s : State) : (latTrain a1 s).keep = s.keep := by
  (unfold latTrain; simp only [keep_mk, keep_fold, apply_ite State.keep, ite_self, next_keep, whenS_keep, forEach_keep, ifSome_keep, foldl_keep, modLink_keep]; done)

theorem linkDown_keep (a1) (a2) (s : State) : (linkDown a1 a2 s).keep = s.keep := by
  (unfold linkDown; simp only [keep_mk, keep_fold, apply_ite State.keep, ite_self, next_keep, whenS_keep, forEach_keep, ifSome_keep, foldl_keep, cadRelease_keep, modLink_keep, modLat_keep, logLimited_keep, latTrain_keep]; done)

theorem linksDown_keep (a1) (a2) (s : State) : (linksDown a1 a2 s).keep = s.keep := by
  (unfold linksDown; grind [keep_mk, keep_fold, whenS_keep, forEach_keep, ifSome_keep, foldl_keep, linkDown_keep])

theorem latRefresh_keep (s : State) : (latRefresh s).keep = s.keep := by
  (unfold latRefresh; grind [keep_mk, keep_fold, whenS_keep, forEach_keep, ifSome_keep, foldl_keep, modLink_keep, linkDown_keep])

theorem latStart_keep (s : State) : (latStart s).keep = s.keep := by
  (unfold latStart; grind [keep_mk, keep_fold, whenS_keep, forEach_keep, ifSome_keep, foldl_keep, latTrain_keep, latRefresh_keep])

theorem latCtrl_keep (a1) (a2) (s : State) : (latCtrl a1 a2 s).keep = s.keep := by
  (unfold latCtrl; simp only [keep_mk, keep_fold, apply_ite State.keep, ite_self, next_keep, whenS_keep, forEach_keep, ifSome_keep, foldl_keep, modLink_keep]; done)

theorem latSend_keep (a1) (a2) (a3) (s : State) : (latSend a1 a2 a3 s).keep = s.keep := by
  (unfold latSend; simp only [keep_mk, keep_fold, apply_ite State.keep, ite_self, next_keep, whenS_keep, forEach_keep, ifSome_keep, foldl_keep, modLink_keep, cadRelease_keep]; done)

theorem dropFrame_keep (a1) (a2) (s : State) : (dropFrame a1 a2 s).keep = s.keep := by
  (unfold dropFrame; grind [keep_mk, keep_fold, whenS_keep, forEach_keep, ifSome_keep, foldl_keep, cadRelease_keep, chargeDrop_keep])

theorem egressAt_keep (a1) (a2) (s : State) : (egressAt a1 a2 s).keep = s.keep := by
  (unfold egressAt; simp only [keep_mk, keep_fold, apply_ite State.keep, ite_self, next_keep, whenS_keep, forEach_keep, ifSome_keep, foldl_keep, enqueueAt_keep, dropFrame_keep]; done)

theorem egressPort_keep (a1) (a2) (s : State) : (egressPort a1 a2 s).keep = s.keep := by
  (unfold egressPort; simp only [keep_mk, keep_fold, apply_ite State.keep, ite_self, next_keep, whenS_keep, forEach_keep, ifSome_keep, foldl_keep, dropFrame_keep, countEv_keep, egressAt_keep]; done)

theorem memberFor_keep (a1) (a2) (s : State) : (memberFor a1 a2 s).2.keep = s.keep := by
  (unfold memberFor; grind [keep_mk, keep_fold, whenS_keep, forEach_keep, ifSome_keep, foldl_keep, modAgg_keep, freeNat_keep])

theorem memberFor_keep2 (a1) (a2) (s : State) : ∀ y0 t, (memberFor a1 a2 s) = (y0, t) → t.keep = s.keep := by
  intro y0 t h; have := memberFor_keep a1 a2 s; rw [h] at this; exact this

theorem egressAgg_keep (a1) (a2) (s : State) : (egressAgg a1 a2 s).keep = s.keep := by
  (unfold egressAgg; grind [keep_mk, keep_fold, whenS_keep, forEach_keep, ifSome_keep, foldl_keep, memberFor_keep, dropFrame_keep, modAgg_keep, egressPort_keep])

theorem releaseHeld_keep (a1) (s : State) : (releaseHeld a1 s).keep = s.keep := by
  (unfold releaseHeld; grind [keep_mk, keep_fold, whenS_keep, forEach_keep, ifSome_keep, foldl_keep, egressAgg_keep, modAgg_keep])

theorem setSlot_keep (a1) (a2) (a3) (a4) (s : State) : (setSlot a1 a2 a3 a4 s).keep = s.keep := by
  (unfold setSlot; simp only [keep_mk, keep_fold, apply_ite State.keep, ite_self, next_keep, whenS_keep, forEach_keep, ifSome_keep, foldl_keep, modWork_keep]; done)

theorem writeBuffers_keep (a1) (a2) (a3) (a4) (a5) (s : State) : (writeBuffers a1 a2 a3 a4 a5 s).2.keep = s.keep := by
  (fun_induction writeBuffers <;> grind [keep_mk, keep_fold, whenS_keep, forEach_keep, ifSome_keep, foldl_keep, dmaPut_keep])

theorem writeBuffers_keep2 (a1) (a2) (a3) (a4) (a5) (s : State) : ∀ y0 t, (writeBuffers a1 a2 a3 a4 a5 s) = (y0, t) → t.keep = s.keep := by
  intro y0 t h; have := writeBuffers_keep a1 a2 a3 a4 a5 s; rw [h] at this; exact this

theorem deliverFrame_keep (a1) (a2) (s : State) : (deliverFrame a1 a2 s).keep = s.keep := by
  (unfold deliverFrame; dsimp only; (repeat' split) <;> (first | (simp (disch := (intros; first | (simp only [keep_mk, keep_fold, apply_ite State.keep, ite_self, next_keep, whenS_keep, forEach_keep, ifSome_keep, foldl_keep, dropFrame_keep, writeBuffers_keep, setSlot_keep, settle_keep, cadRelease_keep]; done) | grind [keep_mk, keep_fold, whenS_keep, forEach_keep, ifSome_keep, foldl_keep, dropFrame_keep, writeBuffers_keep, setSlot_keep, settle_keep, cadRelease_keep])) only [keep_mk, keep_fold, apply_ite State.keep, ite_self, next_keep, whenS_keep, forEach_keep, ifSome_keep, foldl_keep, dropFrame_keep, writeBuffers_keep, setSlot_keep, settle_keep, cadRelease_keep]; done) | grind [keep_mk, keep_fold, whenS_keep, forEach_keep, ifSome_keep, foldl_keep, dropFrame_keep, writeBuffers_keep, setSlot_keep, settle_keep, cadRelease_keep]))

theorem toFunction_keep (a1) (a2) (a3) (a4) (s : State) : (toFunction a1 a2 a3 a4 s).keep = s.keep := by
  (unfold toFunction; dsimp only; (repeat' split) <;> (first | (simp (disch := (intros; first | (simp only [keep_mk, keep_fold, apply_ite State.keep, ite_self, next_keep, whenS_keep, forEach_keep, ifSome_keep, foldl_keep, countEv_keep, dropFrame_keep, logLimited_keep, cadMove_keep, enqueueAt_keep]; done) | grind [keep_mk, keep_fold, whenS_keep, forEach_keep, ifSome_keep, foldl_keep, countEv_keep, dropFrame_keep, logLimited_keep, cadMove_keep, enqueueAt_keep])) only [keep_mk, keep_fold, apply_ite State.keep, ite_self, next_keep, whenS_keep, forEach_keep, ifSome_keep, foldl_keep, countEv_keep, dropFrame_keep, logLimited_keep, cadMove_keep, enqueueAt_keep]; done) | grind [keep_mk, keep_fold, whenS_keep, forEach_keep, ifSome_keep, foldl_keep, countEv_keep, dropFrame_keep, logLimited_keep, cadMove_keep, enqueueAt_keep]))

theorem toVport_keep (a1) (a2) (a3) (a4) (a5) (s : State) : (toVport a1 a2 a3 a4 a5 s).keep = s.keep := by
  (unfold toVport; grind [keep_mk, keep_fold, whenS_keep, forEach_keep, ifSome_keep, foldl_keep, dropFrame_keep, countEv_keep, toFunction_keep, egressPort_keep, egressAgg_keep, egressAt_keep, enqueueAt_keep])

theorem encapFrame_keep (a1) (a2) (a3) (s : State) : (encapFrame a1 a2 a3 s).2.keep = s.keep := by
  (unfold encapFrame; grind [keep_mk, keep_fold, whenS_keep, forEach_keep, ifSome_keep, foldl_keep])

theorem encapFrame_keep2 (a1) (a2) (a3) (s : State) : ∀ y0 t, (encapFrame a1 a2 a3 s) = (y0, t) → t.keep = s.keep := by
  intro y0 t h; have := encapFrame_keep a1 a2 a3 s; rw [h] at this; exact this

theorem mirrorTo_keep (a1) (a2) (s : State) : (mirrorTo a1 a2 s).keep = s.keep := by
  unfold mirrorTo
  extract_lets x put t cut lost key
  have hp : ∀ x s, (put x s).keep = s.keep := fun x s => by simp only [put, keep_mk, keep_fold]
  have hl : ∀ s, (lost s).keep = s.keep := by
    intro s
    simp only [lost]
    split <;> simp only [hp, logLimited_keep, countEv_keep]
  have ht : t.keep = s.keep := hp _ _
  clear_value put x lost key t cut
  split
  · rfl
  split
  · exact hp _ _
  split
  rename_i bytes u hu
  have hu : u.keep = s.keep := by
    rw [← ht]
    split at hu
    · split at hu
      · cases hu; rfl
      · exact encapFrame_keep2 _ _ _ _ _ _ hu
    · cases hu; rfl
  have hc := cadTake_keep
  have hn := newId_keep2
  dsimp only
  repeat' split
  all_goals grind [cadRelease_keep, enqueueAt_keep, egressAgg_keep, egressPort_keep, egressAt_keep, countEv_keep]

theorem waitEngine_keep (a1) (a2) (a3) (a4) (s : State) : (waitEngine a1 a2 a3 a4 s).keep = s.keep := by
  (unfold waitEngine; simp only [keep_mk, keep_fold, apply_ite State.keep, ite_self, next_keep, whenS_keep, forEach_keep, ifSome_keep, foldl_keep, newId_keep]; done)

theorem copyTo_keep (a1) (a2) (a3) (s : State) : (copyTo a1 a2 a3 s).keep = s.keep := by
  (induction a2 generalizing a1 a3 s <;> (unfold copyTo <;> grind [keep_mk, keep_fold, whenS_keep, forEach_keep, ifSome_keep, foldl_keep, cadTake_keep, waitEngine_keep, toVport_keep, Option.map_eq_some_iff, Option.bind_eq_some_iff]))

theorem sendOn_keep (a1) (a2) (s : State) : (sendOn a1 a2 s).keep = s.keep := by
  (unfold sendOn; grind [keep_mk, keep_fold, whenS_keep, forEach_keep, ifSome_keep, foldl_keep, mirrorTo_keep, cadRelease_keep, copyTo_keep, toVport_keep])

theorem finishAction_keep (a1) (a2) (s : State) : (finishAction a1 a2 s).keep = s.keep := by
  (unfold finishAction; dsimp only; (repeat' split) <;> (first | (simp (disch := (intros; first | (simp only [keep_mk, keep_fold, apply_ite State.keep, ite_self, next_keep, whenS_keep, forEach_keep, ifSome_keep, foldl_keep, encapFrame_keep, cadTake_keep, waitEngine_keep, sendOn_keep, cadRelease_keep]; done) | grind [keep_mk, keep_fold, whenS_keep, forEach_keep, ifSome_keep, foldl_keep, encapFrame_keep, cadTake_keep, waitEngine_keep, sendOn_keep, cadRelease_keep, encapFrame_keep2, Option.map_eq_some_iff, Option.bind_eq_some_iff])) only [keep_mk, keep_fold, apply_ite State.keep, ite_self, next_keep, whenS_keep, forEach_keep, ifSome_keep, foldl_keep, encapFrame_keep, cadTake_keep, waitEngine_keep, sendOn_keep, cadRelease_keep]; done) | grind [keep_mk, keep_fold, whenS_keep, forEach_keep, ifSome_keep, foldl_keep, encapFrame_keep, cadTake_keep, waitEngine_keep, sendOn_keep, cadRelease_keep, encapFrame_keep2, Option.map_eq_some_iff, Option.bind_eq_some_iff]))

theorem resumeSwitch_keep (a1) (s : State) : (resumeSwitch a1 s).keep = s.keep := by
  (unfold resumeSwitch; grind [keep_mk, keep_fold, whenS_keep, forEach_keep, ifSome_keep, foldl_keep, copyTo_keep, finishAction_keep])

theorem dropWaiting_keep (a1) (s : State) : (dropWaiting a1 s).keep = s.keep := by
  (unfold dropWaiting; grind [keep_mk, keep_fold, whenS_keep, forEach_keep, ifSome_keep, foldl_keep, dropFrame_keep])

theorem applyAction_keep (a1) (a2) (s : State) : (applyAction a1 a2 s).keep = s.keep := by
  (unfold applyAction; grind [keep_mk, keep_fold, whenS_keep, forEach_keep, ifSome_keep, foldl_keep, mirrorTo_keep, finishAction_keep, dropFrame_keep, noSaDrop_keep, enqueueAt_keep])

theorem cutTarget_keep (a1) (a2) (s : State) : (cutTarget a1 a2 s).2.keep = s.keep := by
  (unfold cutTarget; grind [keep_mk, keep_fold, whenS_keep, forEach_keep, ifSome_keep, foldl_keep, memberFor_keep])

theorem cutTarget_keep2 (a1) (a2) (s : State) : ∀ y0 t, (cutTarget a1 a2 s) = (y0, t) → t.keep = s.keep := by
  intro y0 t h; have := cutTarget_keep a1 a2 s; rw [h] at this; exact this

theorem earlyDeliver_keep (a1) (a2) (s : State) : ∀ y0 t, earlyDeliver a1 a2 s = some (y0, t) → t.keep = s.keep := by
  intro y0 u h
  unfold earlyDeliver at h
  extract_lets a vp fn t able at h
  clear_value able t
  dsimp only at h
  repeat' split at h
  all_goals first
    | (cases h; done)
    | (rename_i hc
       simp only [Option.some.injEq, Prod.mk.injEq] at h
       obtain ⟨-, rfl⟩ := h
       rw [forEach_keep _ _ _ (fun _ _ => setSlot_keep _ _ _ _ _), countEv_keep, countEv_keep, writeBuffers_keep]
       exact cadMove_keep _ _ _ _ _ hc)

theorem earlyComplete_keep (a1) (a2) (a3) (s : State) : (earlyComplete a1 a2 a3 s).keep = s.keep := by
  (unfold earlyComplete; grind [keep_mk, keep_fold, whenS_keep, forEach_keep, ifSome_keep, foldl_keep, setSlot_keep, cadRelease_keep, settle_keep])

theorem enterSwitch_keep (a1) (a2) (a3) (a4) (s : State) : (enterSwitch a1 a2 a3 a4 s).keep = s.keep := by
  (unfold enterSwitch; simp only [keep_mk, keep_fold, apply_ite State.keep, ite_self, next_keep, whenS_keep, forEach_keep, ifSome_keep, foldl_keep, countEv_keep, dropFrame_keep]; done)

theorem tunnelFlush_keep (a1) (s : State) : (tunnelFlush a1 s).keep = s.keep := by
  (unfold tunnelFlush; grind [keep_mk, keep_fold, whenS_keep, forEach_keep, ifSome_keep, foldl_keep, memberFor_keep, newId_keep, modLink_keep, enqueueAt_keep])

theorem latPut_keep (a1) (a2) (a3) (a4) (a5) (s : State) : (latPut a1 a2 a3 a4 a5 s).keep = s.keep := by
  (unfold latPut; simp only [keep_mk, keep_fold, apply_ite State.keep, ite_self, next_keep, whenS_keep, forEach_keep, ifSome_keep, foldl_keep, modLink_keep, tunnelFlush_keep, emit_keep]; done)

theorem latSegmentOut_keep (a1) (a2) (s : State) : (latSegmentOut a1 a2 s).keep = s.keep := by
  (unfold latSegmentOut; simp only [keep_mk, keep_fold, apply_ite State.keep, ite_self, next_keep, whenS_keep, forEach_keep, ifSome_keep, foldl_keep, modLink_keep, latPut_keep]; done)

theorem latSlot_keep (a1) (s : State) : (latSlot a1 s).keep = s.keep := by
  (unfold latSlot; grind [keep_mk, keep_fold, whenS_keep, forEach_keep, ifSome_keep, foldl_keep, modLink_keep, latPut_keep, latSegmentOut_keep])

theorem sendLsa_keep (a1) (a2) (s : State) : (sendLsa a1 a2 s).keep = s.keep := by
  (unfold sendLsa; simp only [keep_mk, keep_fold, apply_ite State.keep, ite_self, next_keep, whenS_keep, forEach_keep, ifSome_keep, foldl_keep, latCtrl_keep]; done)

theorem floodLsa_keep (a1) (a2) (s : State) : (floodLsa a1 a2 s).keep = s.keep := by
  (unfold floodLsa; grind [keep_mk, keep_fold, whenS_keep, forEach_keep, ifSome_keep, foldl_keep, sendLsa_keep])

theorem carriageErr_keep (a1) (a2) (a3) (s : State) : (carriageErr a1 a2 a3 s).keep = s.keep := by
  (unfold carriageErr; simp only [keep_mk, keep_fold, apply_ite State.keep, ite_self, next_keep, whenS_keep, forEach_keep, ifSome_keep, foldl_keep, logLimited_keep]; done)

theorem forwardDrop_keep (a1) (a2) (a3) (s : State) : (forwardDrop a1 a2 a3 s).keep = s.keep := by
  (unfold forwardDrop; simp only [keep_mk, keep_fold, apply_ite State.keep, ite_self, next_keep, whenS_keep, forEach_keep, ifSome_keep, foldl_keep, logLimited_keep]; done)

theorem ctrlIn_keep (a1) (a2) (s : State) : (ctrlIn a1 a2 s).keep = s.keep := by
  (unfold ctrlIn; grind [keep_mk, keep_fold, whenS_keep, forEach_keep, ifSome_keep, foldl_keep, modLat_keep, cadRelease_keep, modLink_keep, latCtrl_keep, forwardDrop_keep])

theorem dataIn_keep (a1) (a2) (a3) (s : State) : (dataIn a1 a2 a3 s).keep = s.keep := by
  (unfold dataIn; grind [keep_mk, keep_fold, whenS_keep, forEach_keep, ifSome_keep, foldl_keep, cadRelease_keep, modLink_keep, newId_keep, enterSwitch_keep, forwardDrop_keep, egressAt_keep])

theorem dropRx_keep (a1) (s : State) : (dropRx a1 s).keep = s.keep := by
  (unfold dropRx; simp only [keep_mk, keep_fold, apply_ite State.keep, ite_self, next_keep, whenS_keep, forEach_keep, ifSome_keep, foldl_keep, modLink_keep, cadRelease_keep]; done)

theorem latSegmentIn_keep (a1) (a2) (a3) (a4) (s : State) : ∀ t, latSegmentIn a1 a2 a3 a4 s = some t → t.keep = s.keep := by
  intro t h
  unfold latSegmentIn at h
  extract_lets kind sop eop abort x u x2 open_ c type known need room at h
  have hu : u.keep = s.keep := by simp only [u]; split <;> simp only [carriageErr_keep, dropRx_keep]
  clear_value u
  split at h
  · cases h; simp only [carriageErr_keep, hu]
  split at h
  · cases h; simp only [carriageErr_keep, dropRx_keep, hu]
  split at h
  · cases h; simp only [carriageErr_keep, dropRx_keep, hu]
  split at h
  · cases h; simp only [carriageErr_keep, dropRx_keep, hu]
  split at h
  · cases h; simp only [carriageErr_keep, dropRx_keep, keep_mk]; exact hu
  have hroom : ∀ bufs v, room = some (bufs, v) → v.keep = s.keep := by
    intro bufs v hv
    simp only [room] at hv
    split at hv
    · cases hv; exact hu
    · split at hv
      · rw [cadTake_keep _ _ _ _ _ _ _ hv, hu]
      · rw [cadTake_keep _ _ _ _ _ _ _ hv, hu]
  clear_value room
  rcases room with _ | ⟨bufs, v⟩
  · cases h
  have hv := hroom _ _ rfl
  dsimp only at h
  repeat' split at h
  all_goals (cases h; simp only [modLink_keep, ctrlIn_keep, dataIn_keep, hv])

theorem latCount_keep (a1) (a2) (s : State) : (latCount a1 a2 s).keep = s.keep := by
  (unfold latCount; simp only [keep_mk, keep_fold, apply_ite State.keep, ite_self, next_keep, whenS_keep, forEach_keep, ifSome_keep, foldl_keep, modLink_keep]; done)

theorem latBad_keep (a1) (s : State) : (latBad a1 s).keep = s.keep := by
  (unfold latBad; simp only [keep_mk, keep_fold, apply_ite State.keep, ite_self, next_keep, whenS_keep, forEach_keep, ifSome_keep, foldl_keep, latCount_keep, modLink_keep, linkDown_keep]; done)

theorem latEnterUp_keep (a1) (a2) (s : State) : (latEnterUp a1 a2 s).keep = s.keep := by
  (unfold latEnterUp; grind [keep_mk, keep_fold, whenS_keep, forEach_keep, ifSome_keep, foldl_keep, modLink_keep, logLimited_keep, sendLsa_keep, modLat_keep])

theorem helloIn_keep (a1) (a2) (s : State) : (helloIn a1 a2 s).keep = s.keep := by
  (unfold helloIn; simp only [keep_mk, keep_fold, apply_ite State.keep, ite_self, next_keep, whenS_keep, forEach_keep, ifSome_keep, foldl_keep, modLink_keep, linkDown_keep, logEvent_keep, latEnterUp_keep]; done)

theorem ackIn_keep (a1) (a2) (a3) (s : State) : (ackIn a1 a2 a3 s).keep = s.keep := by
  (unfold ackIn; simp only [keep_mk, keep_fold, apply_ite State.keep, ite_self, next_keep, whenS_keep, forEach_keep, ifSome_keep, foldl_keep, modLink_keep]; done)

theorem latGood_keep (a1) (a2) (s : State) : (latGood a1 a2 s).keep = s.keep := by
  (unfold latGood; grind [keep_mk, keep_fold, whenS_keep, forEach_keep, ifSome_keep, foldl_keep, latCount_keep, modLink_keep, ackIn_keep, helloIn_keep, latSegmentIn_keep])

theorem laneFrame_keep (a1) (a2) (a3) (s : State) : (laneFrame a1 a2 a3 s).keep = s.keep := by
  (unfold laneFrame; grind [keep_mk, keep_fold, whenS_keep, forEach_keep, ifSome_keep, foldl_keep, modLink_keep, latGood_keep, latBad_keep])

theorem tunnelFrames_keep (a1) (a2) (a3) (s : State) : (tunnelFrames a1 a2 a3 s).keep = s.keep := by
  (fun_induction tunnelFrames <;> grind [keep_mk, keep_fold, whenS_keep, forEach_keep, ifSome_keep, foldl_keep, modLink_keep, latGood_keep, latBad_keep])

theorem tunnelIn_keep (a1) (a2) (s : State) : (tunnelIn a1 a2 s).keep = s.keep := by
  (unfold tunnelIn; simp only [keep_mk, keep_fold, apply_ite State.keep, ite_self, next_keep, whenS_keep, forEach_keep, ifSome_keep, foldl_keep, tunnelFrames_keep]; done)

theorem portEnter_keep (a1) (a2) (a3) (a4) (s : State) : (portEnter a1 a2 a3 a4 s).keep = s.keep := by
  (unfold portEnter; grind [keep_mk, keep_fold, whenS_keep, forEach_keep, ifSome_keep, foldl_keep, enterSwitch_keep, macsecSeen_keep, tunnelIn_keep, cadRelease_keep, egressAt_keep, dropFrame_keep])

theorem lsaDue_keep (s : State) : (lsaDue s).keep = s.keep := by
  (unfold lsaDue; simp only [keep_mk, keep_fold, apply_ite State.keep, ite_self, next_keep, whenS_keep, forEach_keep, ifSome_keep, foldl_keep, modLat_keep]; done)

theorem originate_keep (s : State) : (originate s).keep = s.keep := by
  (unfold originate; simp only [keep_mk, keep_fold, apply_ite State.keep, ite_self, next_keep, whenS_keep, forEach_keep, ifSome_keep, foldl_keep, lsaDue_keep, modLat_keep, floodLsa_keep]; done)

theorem claim_keep (a1) (s : State) : (claim a1 s).keep = s.keep := by
  (unfold claim; simp only [keep_mk, keep_fold, apply_ite State.keep, ite_self, next_keep, whenS_keep, forEach_keep, ifSome_keep, foldl_keep, lsaDue_keep, modLat_keep]; done)

theorem startClaim_keep (s : State) : (startClaim s).keep = s.keep := by
  (unfold startClaim; grind [keep_mk, keep_fold, whenS_keep, forEach_keep, ifSome_keep, foldl_keep, claim_keep])

theorem conflictRecord_keep (a1) (a2) (a3) (s : State) : (conflictRecord a1 a2 a3 s).keep = s.keep := by
  (unfold conflictRecord; simp only [keep_mk, keep_fold, apply_ite State.keep, ite_self, next_keep, whenS_keep, forEach_keep, ifSome_keep, foldl_keep, logEvent_keep]; done)

theorem settleClaims_keep (s : State) : (settleClaims s).keep = s.keep := by
  (unfold settleClaims; grind [keep_mk, keep_fold, whenS_keep, forEach_keep, ifSome_keep, foldl_keep, lsaDue_keep, conflictRecord_keep, modLat_keep, claim_keep])

theorem elect_keep (s : State) : (elect s).keep = s.keep := by
  (unfold elect; simp only [keep_mk, keep_fold, apply_ite State.keep, ite_self, next_keep, whenS_keep, forEach_keep, ifSome_keep, foldl_keep, modLat_keep, lsaDue_keep, logEvent_keep]; done)

theorem recompute_keep (s : State) : (recompute s).keep = s.keep := by
  (unfold recompute; simp only [keep_mk, keep_fold, apply_ite State.keep, ite_self, next_keep, whenS_keep, forEach_keep, ifSome_keep, foldl_keep, elect_keep, modLat_keep]; done)

theorem lsaIn_keep (a1) (a2) (s : State) : (lsaIn a1 a2 s).keep = s.keep := by
  (unfold lsaIn; simp only [keep_mk, keep_fold, apply_ite State.keep, ite_self, next_keep, whenS_keep, forEach_keep, ifSome_keep, foldl_keep, originate_keep, modLat_keep, logLimited_keep, floodLsa_keep, settleClaims_keep]; done)

theorem latBoot_keep (s : State) : (latBoot s).keep = s.keep := by
  (unfold latBoot; simp only [keep_mk, keep_fold, apply_ite State.keep, ite_self, next_keep, whenS_keep, forEach_keep, ifSome_keep, foldl_keep, startClaim_keep, latStart_keep]; done)

theorem sendMac_keep (a1) (a2) (a3) (s : State) : (sendMac a1 a2 a3 s).keep = s.keep := by
  (unfold sendMac; grind [keep_mk, keep_fold, whenS_keep, forEach_keep, ifSome_keep, foldl_keep, macsecLeave_keep, modPort_keep, countEv_keep, emit_keep])

theorem linkRecord_keep (a1) (a2) (a3) (a4) (a5) (s : State) : (linkRecord a1 a2 a3 a4 a5 s).keep = s.keep := by
  (unfold linkRecord; simp only [keep_mk, keep_fold, apply_ite State.keep, ite_self, next_keep, whenS_keep, forEach_keep, ifSome_keep, foldl_keep, logLimited_keep, modPort_keep]; done)

theorem aggCheck_keep (a1) (s : State) : (aggCheck a1 s).keep = s.keep := by
  (unfold aggCheck; simp only [keep_mk, keep_fold, apply_ite State.keep, ite_self, next_keep, whenS_keep, forEach_keep, ifSome_keep, foldl_keep, logEvent_keep, modAgg_keep]; done)

theorem flushPort_keep (a1) (s : State) : (flushPort a1 s).keep = s.keep := by
  (unfold flushPort; grind [keep_mk, keep_fold, whenS_keep, forEach_keep, ifSome_keep, foldl_keep, modPoint_keep, dropFrame_keep, releaseHeld_keep])

theorem setPort_keep (a1) (a2) (a3) (s : State) : (setPort a1 a2 a3 s).keep = s.keep := by
  (unfold setPort; grind [keep_mk, keep_fold, whenS_keep, forEach_keep, ifSome_keep, foldl_keep, modPort_keep, linkRecord_keep, flushPort_keep, latStart_keep, aggCheck_keep])

theorem bringUp_keep (a1) (s : State) : (bringUp a1 s).keep = s.keep := by
  (unfold bringUp; simp only [keep_mk, keep_fold, apply_ite State.keep, ite_self, next_keep, whenS_keep, forEach_keep, ifSome_keep, foldl_keep, modPort_keep, setPort_keep]; done)

theorem portsDown_keep (a1) (s : State) : (portsDown a1 s).keep = s.keep := by
  (unfold portsDown; grind [keep_mk, keep_fold, whenS_keep, forEach_keep, ifSome_keep, foldl_keep, setPort_keep])

theorem sendPause_keep (a1) (a2) (a3) (s : State) : (sendPause a1 a2 a3 s).keep = s.keep := by
  (unfold sendPause; simp only [keep_mk, keep_fold, apply_ite State.keep, ite_self, next_keep, whenS_keep, forEach_keep, ifSome_keep, foldl_keep, countEv_keep, sendMac_keep]; done)

theorem powerDomains_keep (a1) (a2) (a3) (s : State) : (powerDomains a1 a2 a3 s).keep = s.keep := by
  (unfold powerDomains; grind [keep_mk, keep_fold, whenS_keep, forEach_keep, ifSome_keep, foldl_keep, setDomain_keep])

theorem sendLacp_keep (a1) (a2) (s : State) : (sendLacp a1 a2 s).keep = s.keep := by
  (unfold sendLacp; simp only [keep_mk, keep_fold, apply_ite State.keep, ite_self, next_keep, whenS_keep, forEach_keep, ifSome_keep, foldl_keep, modPort_keep, sendMac_keep]; done)

theorem startWake_bringUpWaking_keep (a1) (s : State) : (startWake.bringUpWaking a1 s).keep = s.keep := by
  (unfold startWake.bringUpWaking; simp only [keep_mk, keep_fold, apply_ite State.keep, ite_self, next_keep, whenS_keep, forEach_keep, ifSome_keep, foldl_keep, modPort_keep]; done)

theorem startWake_keep (a1) (s : State) : (startWake a1 s).keep = s.keep := by
  (unfold startWake; dsimp only; (repeat' split) <;> (first | (simp (disch := (intros; first | (simp only [keep_mk, keep_fold, apply_ite State.keep, ite_self, next_keep, whenS_keep, forEach_keep, ifSome_keep, foldl_keep, modPort_keep, startWake_bringUpWaking_keep, powerDomains_keep]; done) | grind [keep_mk, keep_fold, whenS_keep, forEach_keep, ifSome_keep, foldl_keep, modPort_keep, startWake_bringUpWaking_keep, powerDomains_keep])) only [keep_mk, keep_fold, apply_ite State.keep, ite_self, next_keep, whenS_keep, forEach_keep, ifSome_keep, foldl_keep, modPort_keep, startWake_bringUpWaking_keep, powerDomains_keep]; done) | grind [keep_mk, keep_fold, whenS_keep, forEach_keep, ifSome_keep, foldl_keep, modPort_keep, startWake_bringUpWaking_keep, powerDomains_keep]))

theorem wakeAgg_keep (a1) (s : State) : (wakeAgg a1 s).keep = s.keep := by
  (unfold wakeAgg; grind [keep_mk, keep_fold, whenS_keep, forEach_keep, ifSome_keep, foldl_keep, modAgg_keep, startWake_keep, modPort_keep])

theorem wakeAll_keep (s : State) : (wakeAll s).keep = s.keep := by
  (unfold wakeAll; grind [keep_mk, keep_fold, whenS_keep, forEach_keep, ifSome_keep, foldl_keep, wakeAgg_keep])

theorem deliverRing_keep (a1) (a2) (a3) (a4) (a5) (s : State) : (deliverRing a1 a2 a3 a4 a5 s).keep = s.keep := by
  (unfold deliverRing; grind [keep_mk, keep_fold, whenS_keep, forEach_keep, ifSome_keep, foldl_keep, dmaPut_keep, finishEntry_keep])

theorem unanswered_keep (a1) (a2) (a3) (s : State) : (unanswered a1 a2 a3 s).keep = s.keep := by
  (unfold unanswered; grind [keep_mk, keep_fold, whenS_keep, forEach_keep, ifSome_keep, foldl_keep, finishEntry_keep])

theorem deliverLattice_keep (a1) (a2) (a3) (s : State) : (deliverLattice a1 a2 a3 s).keep = s.keep := by
  (unfold deliverLattice; grind [keep_mk, keep_fold, whenS_keep, forEach_keep, ifSome_keep, foldl_keep, latCtrl_keep])

theorem deliverPlant_keep (a1) (a2) (a3) (s : State) : (deliverPlant a1 a2 a3 s).keep = s.keep := by
  (unfold deliverPlant; simp only [keep_mk, keep_fold, apply_ite State.keep, ite_self, next_keep, whenS_keep, forEach_keep, ifSome_keep, foldl_keep]; done)

theorem deliverLabel_keep (a1) (s : State) : (deliverLabel a1 s).keep = s.keep := by
  (unfold deliverLabel; simp only [keep_mk, keep_fold, apply_ite State.keep, ite_self, next_keep, whenS_keep, forEach_keep, ifSome_keep, foldl_keep, lblSubmit_keep]; done)

theorem setWindow_keep (a1) (a2) (s : State) : (setWindow a1 a2 s).keep = s.keep := by
  (unfold setWindow; grind [keep_mk, keep_fold, whenS_keep, forEach_keep, ifSome_keep, foldl_keep])

theorem pendWindow_keep (a1) (a2) (s : State) : (pendWindow a1 a2 s).keep = s.keep := by
  (unfold pendWindow; simp only [keep_mk, keep_fold, apply_ite State.keep, ite_self, next_keep, whenS_keep, forEach_keep, ifSome_keep, foldl_keep, setWindow_keep]; done)

theorem postWindow_keep (a1) (a2) (s : State) : (postWindow a1 a2 s).keep = s.keep := by
  (unfold postWindow; simp only [keep_mk, keep_fold, apply_ite State.keep, ite_self, next_keep, whenS_keep, forEach_keep, ifSome_keep, foldl_keep, setWindow_keep]; done)

theorem deliver_keep (a1) (a2) (s : State) : (deliver a1 a2 s).keep = s.keep := by
  (unfold deliver; grind [keep_mk, keep_fold, whenS_keep, forEach_keep, ifSome_keep, foldl_keep, deliverRing_keep, postWindow_keep, deliverLattice_keep, deliverPlant_keep, deliverLabel_keep])

theorem setSource_keep (a1) (s : State) : (setSource a1 s).keep = s.keep := by
  (unfold setSource; simp only [keep_mk, keep_fold, apply_ite State.keep, ite_self, next_keep, whenS_keep, forEach_keep, ifSome_keep, foldl_keep]; done)

theorem violate_keep (a1) (a2) (a3) (a4) (s : State) : (violate a1 a2 a3 a4 s).keep = s.keep := by
  (unfold violate; simp only [keep_mk, keep_fold, apply_ite State.keep, ite_self, next_keep, whenS_keep, forEach_keep, ifSome_keep, foldl_keep, logEvent_keep, setSource_keep]; done)

theorem noReply_keep (a1) (a2) (s : State) : (noReply a1 a2 s).keep = s.keep := by
  (unfold noReply; grind [keep_mk, keep_fold, whenS_keep, forEach_keep, ifSome_keep, foldl_keep, unanswered_keep, lblMailbox_keep])

theorem refuse_keep (a1) (a2) (a3) (a4) (a5) (a6) (s : State) : (refuse a1 a2 a3 a4 a5 a6 s).keep = s.keep := by
  (unfold refuse; simp only [keep_mk, keep_fold, apply_ite State.keep, ite_self, next_keep, whenS_keep, forEach_keep, ifSome_keep, foldl_keep, deliver_keep]; done)

theorem dropChain_keep (a1) (s : State) : (dropChain a1 s).keep = s.keep := by
  (unfold dropChain; grind [keep_mk, keep_fold, whenS_keep, forEach_keep, ifSome_keep, foldl_keep, logEvent_keep, setSource_keep])

theorem acceptPacket_keep (a1) (a2) (a3) (s : State) : (acceptPacket a1 a2 a3 s).keep = s.keep := by
  (unfold acceptPacket; simp only [keep_mk, keep_fold, apply_ite State.keep, ite_self, next_keep, whenS_keep, forEach_keep, ifSome_keep, foldl_keep, violate_keep, refuse_keep, setSource_keep, dropChain_keep, logEvent_keep, pendWindow_keep, deliver_keep, routePost_keep]; done)

theorem frontEnd_keep (a1) (a2) (a3) (a4) (s : State) : (frontEnd a1 a2 a3 a4 s).keep = s.keep := by
  unfold frontEnd
  extract_lets x bump bad plen src op crc again keeps stored running
  have hb : ∀ s, (bump s).keep = s.keep := fun s => by simp only [bump, setSource_keep]
  clear_value bump
  split
  · split <;> simp only [noReply_keep, hb, violate_keep]
  split
  · simp only [refuse_keep, hb]
  have hbad : ∀ st, (bad st).keep = s.keep := fun st => by simp only [bad, violate_keep, refuse_keep]
  clear_value bad plen op crc again keeps stored running
  repeat' split
  all_goals try simp only [noReply_keep, hb, violate_keep, refuse_keep, hbad, logEvent_keep, deliver_keep, acceptPacket_keep, keep_mk, keep_fold]
  all_goals (repeat' split)
  all_goals first | rfl | simp only [noReply_keep, hb, violate_keep, refuse_keep, hbad, logEvent_keep, deliver_keep, acceptPacket_keep, keep_mk, keep_fold]

theorem takeCmd_keep (a1) (s : State) : ∀ y0 t, takeCmd a1 s = some (y0, t) → t.keep = s.keep := by
  (unfold takeCmd; dsimp only; (repeat' split) <;> (first | (simp (disch := (intros; first | (simp only [keep_mk, keep_fold, apply_ite State.keep, ite_self, next_keep, whenS_keep, forEach_keep, ifSome_keep, foldl_keep]; done) | grind [keep_mk, keep_fold, whenS_keep, forEach_keep, ifSome_keep, foldl_keep, Option.map_eq_some_iff, Option.bind_eq_some_iff])) only [keep_mk, keep_fold, apply_ite State.keep, ite_self, next_keep, whenS_keep, forEach_keep, ifSome_keep, foldl_keep]; done) | grind [keep_mk, keep_fold, whenS_keep, forEach_keep, ifSome_keep, foldl_keep, Option.map_eq_some_iff, Option.bind_eq_some_iff]))

theorem complete_keep (a1) (a2) (a3) (s : State) : (complete a1 a2 a3 s).keep = s.keep := by
  (unfold complete; simp only [keep_mk, keep_fold, apply_ite State.keep, ite_self, next_keep, whenS_keep, forEach_keep, ifSome_keep, foldl_keep, logEvent_keep, setSource_keep, deliver_keep]; done)

theorem fail_keep (a1) (a2) (a3) (a4) (s : State) : (fail a1 a2 a3 a4 s).keep = s.keep := by
  (unfold fail; simp only [keep_mk, keep_fold, apply_ite State.keep, ite_self, next_keep, whenS_keep, forEach_keep, ifSome_keep, foldl_keep, complete_keep]; done)

theorem ok_keep (a1) (s : State) : (ok a1 s).keep = s.keep := by
  (unfold ok; simp only [keep_mk, keep_fold, apply_ite State.keep, ite_self, next_keep, whenS_keep, forEach_keep, ifSome_keep, foldl_keep, complete_keep]; done)

theorem badParam_keep (a1) (a2) (s : State) : (badParam a1 a2 s).keep = s.keep := by
  (unfold badParam; simp only [keep_mk, keep_fold, apply_ite State.keep, ite_self, next_keep, whenS_keep, forEach_keep, ifSome_keep, foldl_keep, fail_keep]; done)

theorem waitFor_keep (a1) (a2) (s : State) : (waitFor a1 a2 s).keep = s.keep := by
  (unfold waitFor; simp only [keep_mk, keep_fold, apply_ite State.keep, ite_self, next_keep, whenS_keep, forEach_keep, ifSome_keep, foldl_keep]; done)

theorem finishWaits_keep (a1) (a2) (a3) (s : State) : (finishWaits a1 a2 a3 s).keep = s.keep := by
  (unfold finishWaits; grind [keep_mk, keep_fold, whenS_keep, forEach_keep, ifSome_keep, foldl_keep, complete_keep])

theorem failWaits_keep (a1) (a2) (a3) (s : State) : (failWaits a1 a2 a3 s).keep = s.keep := by
  (unfold failWaits; simp only [keep_mk, keep_fold, apply_ite State.keep, ite_self, next_keep, whenS_keep, forEach_keep, ifSome_keep, foldl_keep, finishWaits_keep]; done)

theorem checked_keep (a1) (a2) (a3) (a4) (s : State) (h4 : ∀ s, (a4 s).keep = s.keep) : (checked a1 a2 a3 a4 s).keep = s.keep := by
  (unfold checked; grind [keep_mk, keep_fold, whenS_keep, forEach_keep, ifSome_keep, foldl_keep, fail_keep, badParam_keep])

theorem interpret_keep (a1) (a2) (s : State) (h2 : ∀ x0 s, (a2 x0 s).keep = s.keep) : ∃ t, interpret a1 a2 s = .next t ∧ t.keep = s.keep := by
  unfold interpret
  split
  · exact ⟨_, rfl, rfl⟩
  · rename_i p t h
    have ht : t.keep = s.keep := takeCmd_keep _ _ _ _ h
    repeat' split
    all_goals refine ⟨_, rfl, ?_⟩
    all_goals first | (rw [fail_keep]; exact ht) | (rw [h2]; exact ht)

theorem connFlush_keep (a1) (a2) (s : State) : (connFlush a1 a2 s).keep = s.keep := by
  (fun_induction connFlush <;> grind [keep_mk, keep_fold, whenS_keep, forEach_keep, ifSome_keep, foldl_keep, cadTake_keep, newId_keep, modConn_keep, enterSwitch_keep, newId_keep2, Option.map_eq_some_iff, Option.bind_eq_some_iff])

theorem connFrame_keep (a1) (a2) (a3) (a4) (s : State) : (connFrame a1 a2 a3 a4 s).keep = s.keep := by
  (unfold connFrame; grind [keep_mk, keep_fold, whenS_keep, forEach_keep, ifSome_keep, foldl_keep, freeNat_keep, connFlush_keep, modConn_keep])

theorem tcpSegment_keep (a1) (a2) (a3) (a4) (s : State) : (tcpSegment a1 a2 a3 a4 s).keep = s.keep := by
  (unfold tcpSegment; grind [keep_mk, keep_fold, whenS_keep, forEach_keep, ifSome_keep, foldl_keep, modConn_keep, connFrame_keep])

theorem tcpAck_keep (a1) (s : State) : (tcpAck a1 s).keep = s.keep := by
  (unfold tcpAck; grind [keep_mk, keep_fold, whenS_keep, forEach_keep, ifSome_keep, foldl_keep, tcpSegment_keep])

theorem tcpRst_keep (a1) (s : State) : (tcpRst a1 s).keep = s.keep := by
  (unfold tcpRst; grind [keep_mk, keep_fold, whenS_keep, forEach_keep, ifSome_keep, foldl_keep, tcpSegment_keep])

theorem tcpPush_keep (a1) (a2) (s : State) : (tcpPush a1 a2 s).keep = s.keep := by
  (fun_induction tcpPush <;> grind [keep_mk, keep_fold, whenS_keep, forEach_keep, ifSome_keep, foldl_keep, tcpSegment_keep, modConn_keep])

theorem tcpGo_keep (a1) (s : State) : (tcpGo a1 s).keep = s.keep := by
  (unfold tcpGo; grind [keep_mk, keep_fold, whenS_keep, forEach_keep, ifSome_keep, foldl_keep, tcpPush_keep])

theorem tcpResend_keep (a1) (s : State) : (tcpResend a1 s).keep = s.keep := by
  (unfold tcpResend; grind [keep_mk, keep_fold, whenS_keep, forEach_keep, ifSome_keep, foldl_keep, tcpSegment_keep, modConn_keep])

theorem tcpAcked_keep (a1) (a2) (a3) (s : State) : (tcpAcked a1 a2 a3 s).keep = s.keep := by
  unfold tcpAcked
  split
  · rfl
  · extract_lets n c c2 c3
    clear_value c c2 c3
    split <;> exact modConn_keep _ _ _

theorem postItem_keep (a1) (a2) (a3) (s : State) : (postItem a1 a2 a3 s).2.keep = s.keep := by
  (fun_induction postItem <;> grind [keep_mk, keep_fold, whenS_keep, forEach_keep, ifSome_keep, foldl_keep, dmaPut_keep, finishEntry_keep])

theorem postItem_keep2 (a1) (a2) (a3) (s : State) : ∀ y0 t, (postItem a1 a2 a3 s) = (y0, t) → t.keep = s.keep := by
  intro y0 t h; have := postItem_keep a1 a2 a3 s; rw [h] at this; exact this

theorem flushItems_keep (a1) (a2) (s : State) : (flushItems a1 a2 s).2.keep = s.keep := by
  (fun_induction flushItems <;> grind [keep_mk, keep_fold, whenS_keep, forEach_keep, ifSome_keep, foldl_keep, postItem_keep])

theorem flushItems_keep2 (a1) (a2) (s : State) : ∀ y0 t, (flushItems a1 a2 s) = (y0, t) → t.keep = s.keep := by
  intro y0 t h; have := flushItems_keep a1 a2 s; rw [h] at this; exact this

theorem flushPosts_keep (s : State) : (flushPosts s).keep = s.keep := by
  (unfold flushPosts; grind [keep_mk, keep_fold, whenS_keep, forEach_keep, ifSome_keep, foldl_keep, flushItems_keep, modSto_keep, tcpAck_keep])

theorem post_keep (a1) (a2) (a3) (a4) (a5) (a6) (a7) (s : State) : (post a1 a2 a3 a4 a5 a6 a7 s).keep = s.keep := by
  (unfold post; grind [keep_mk, keep_fold, whenS_keep, forEach_keep, ifSome_keep, foldl_keep, flushPosts_keep, modSto_keep])

theorem softNote_keep (a1) (s : State) : (softNote a1 s).keep = s.keep := by
  (unfold softNote; grind [keep_mk, keep_fold, whenS_keep, forEach_keep, ifSome_keep, foldl_keep, post_keep, modConn_keep])

theorem tlsFlush_keep (a1) (a2) (s : State) : (tlsFlush a1 a2 s).keep = s.keep := by
  (fun_induction tlsFlush <;> grind [keep_mk, keep_fold, whenS_keep, forEach_keep, ifSome_keep, foldl_keep, tlsSeal_keep, modConn_keep])

theorem connSend_keep (a1) (a2) (s : State) : (connSend a1 a2 s).keep = s.keep := by
  (unfold connSend; grind [keep_mk, keep_fold, whenS_keep, forEach_keep, ifSome_keep, foldl_keep, tcpGo_keep, softNote_keep, tlsFlush_keep, modConn_keep])

theorem connRemove_keep (a1) (s : State) : (connRemove a1 s).keep = s.keep := by
  (unfold connRemove; grind [keep_mk, keep_fold, whenS_keep, forEach_keep, ifSome_keep, foldl_keep, failEntry_keep, modSto_keep])

theorem connClose_keep (a1) (a2) (s : State) : (connClose a1 a2 s).keep = s.keep := by
  (unfold connClose; grind [keep_mk, keep_fold, whenS_keep, forEach_keep, ifSome_keep, foldl_keep, post_keep, logLimited_keep, connRemove_keep])

theorem connReset_keep (a1) (a2) (s : State) : (connReset a1 a2 s).keep = s.keep := by
  (unfold connReset; simp only [keep_mk, keep_fold, apply_ite State.keep, ite_self, next_keep, whenS_keep, forEach_keep, ifSome_keep, foldl_keep, connClose_keep, tcpRst_keep]; done)

theorem termReq_keep (a1) (a2) (a3) (s : State) : (termReq a1 a2 a3 s).keep = s.keep := by
  (unfold termReq; grind [keep_mk, keep_fold, whenS_keep, forEach_keep, ifSome_keep, foldl_keep, connSend_keep])

theorem pduFatal_keep (a1) (a2) (a3) (a4) (s : State) : (pduFatal a1 a2 a3 a4 s).keep = s.keep := by
  (unfold pduFatal; simp only [keep_mk, keep_fold, apply_ite State.keep, ite_self, next_keep, whenS_keep, forEach_keep, ifSome_keep, foldl_keep, connClose_keep, termReq_keep]; done)

theorem h2cData_keep (a1) (a2) (a3) (a4) (a5) (a6) (s : State) : (h2cData a1 a2 a3 a4 a5 a6 s).keep = s.keep := by
  (fun_induction h2cData <;> grind [keep_mk, keep_fold, whenS_keep, forEach_keep, ifSome_keep, foldl_keep, connSend_keep])

theorem r2tTaken_keep (a1) (a2) (s : State) : (r2tTaken a1 a2 s).keep = s.keep := by
  (unfold r2tTaken; grind [keep_mk, keep_fold, whenS_keep, forEach_keep, ifSome_keep, foldl_keep, pduFatal_keep, h2cData_keep])

theorem cutPdus_keep (a1) (a2) (s : State) : (cutPdus a1 a2 s).keep = s.keep := by
  (fun_induction cutPdus <;> grind [keep_mk, keep_fold, whenS_keep, forEach_keep, ifSome_keep, foldl_keep, pduFatal_keep, modConn_keep, r2tTaken_keep])

end Sys2Proof.Machine
end

