-- ==== Sys2Proof/Laws/Keep3.lean ====
section
/-!
SUPPORT. Sys2Proof/Laws/Keep3.lean: part 3 of 8 of the frame lemmas, one for each function on states: it leaves the queue, the microseconds, the OTP and the label locks alone.
-/
namespace Sys2Proof.Machine
open Sys2Proof
set_option linter.all false
set_option maxRecDepth 4000

theorem tlsFailed_keep (a1) (s : State) : (tlsFailed a1 s).keep = s.keep := by
  (unfold tlsFailed; grind [keep_mk, keep_fold, whenS_keep, forEach_keep, ifSome_keep, foldl_keep, modConn_keep, tlsSeal_keep, tcpGo_keep, connReset_keep])

theorem openRecords_keep (a1) (a2) (s : State) : (openRecords a1 a2 s).keep = s.keep := by
  (fun_induction openRecords <;> grind [keep_mk, keep_fold, whenS_keep, forEach_keep, ifSome_keep, foldl_keep, tlsOpen_keep, tlsFailed_keep, modConn_keep, post_keep])

theorem connTake_keep (a1) (s : State) : (connTake a1 s).keep = s.keep := by
  (unfold connTake; grind [keep_mk, keep_fold, whenS_keep, forEach_keep, ifSome_keep, foldl_keep, openRecords_keep, modConn_keep, cutPdus_keep])

theorem tcpReceive_keep (a1) (a2) (s : State) : (tcpReceive a1 a2 s).keep = s.keep := by
  unfold tcpReceive
  split
  · rfl
  extract_lets p o flags hl seq data
  clear_value p o flags hl seq data
  split
  split
  · rfl
  split
  · exact connReset_keep _ _ _
  split
  · exact connClose_keep _ _ _
  extract_lets -lift t u v
  have hu : u.keep = s.keep := by
    simp only [u]; split
    · rw [tcpAcked_keep]; exact modConn_keep _ _ _
    · exact modConn_keep _ _ _
  have hv : v.keep = s.keep := by
    simp only [v]
    split
    · exact hu
    · split
      · simp only [tcpAck_keep, connTake_keep, modConn_keep]; exact hu
      · split
        · rw [tcpAck_keep, modConn_keep]; exact hu
        · rw [tcpAck_keep]; exact hu
  clear_value t u v
  split
  · exact hv
  split
  · rw [connClose_keep]
    split
    · rw [tcpSegment_keep, modConn_keep]; exact hv
    · rw [modConn_keep]; exact hv
  · rw [tcpGo_keep]; exact hv

theorem rocePlain_keep (a1) (a2) (a3) (a4) (a5) (s : State) : (rocePlain a1 a2 a3 a4 a5 s).keep = s.keep := by
  (unfold rocePlain; grind [keep_mk, keep_fold, whenS_keep, forEach_keep, ifSome_keep, foldl_keep, connFrame_keep])

theorem roceRequest_keep (a1) (a2) (a3) (a4) (a5) (a6) (s : State) : (roceRequest a1 a2 a3 a4 a5 a6 s).keep = s.keep := by
  (unfold roceRequest; grind [keep_mk, keep_fold, whenS_keep, forEach_keep, ifSome_keep, foldl_keep, modConn_keep, connFrame_keep])

theorem roceMessage_keep (a1) (a2) (a3) (a4) (a5) (a6) (a7) (a8) (a9) (s : State) : (roceMessage a1 a2 a3 a4 a5 a6 a7 a8 a9 s).keep = s.keep := by
  (fun_induction roceMessage <;> grind [keep_mk, keep_fold, whenS_keep, forEach_keep, ifSome_keep, foldl_keep, roceRequest_keep])

theorem roceSend_keep (a1) (a2) (s : State) : (roceSend a1 a2 s).keep = s.keep := by
  (unfold roceSend; simp only [keep_mk, keep_fold, apply_ite State.keep, ite_self, next_keep, whenS_keep, forEach_keep, ifSome_keep, foldl_keep, roceMessage_keep]; done)

theorem roceWrite_keep (a1) (a2) (a3) (a4) (s : State) : (roceWrite a1 a2 a3 a4 s).keep = s.keep := by
  (unfold roceWrite; simp only [keep_mk, keep_fold, apply_ite State.keep, ite_self, next_keep, whenS_keep, forEach_keep, ifSome_keep, foldl_keep, roceMessage_keep]; done)

theorem roceRead_keep (a1) (a2) (a3) (a4) (a5) (a6) (s : State) : (roceRead a1 a2 a3 a4 a5 a6 s).keep = s.keep := by
  (unfold roceRead; grind [keep_mk, keep_fold, whenS_keep, forEach_keep, ifSome_keep, foldl_keep, modConn_keep, roceRequest_keep])

theorem roceAck_keep (a1) (a2) (a3) (s : State) : (roceAck a1 a2 a3 s).keep = s.keep := by
  (unfold roceAck; grind [keep_mk, keep_fold, whenS_keep, forEach_keep, ifSome_keep, foldl_keep, rocePlain_keep])

theorem roceResend_keep (a1) (a2) (s : State) : (roceResend a1 a2 s).keep = s.keep := by
  (unfold roceResend; grind [keep_mk, keep_fold, whenS_keep, forEach_keep, ifSome_keep, foldl_keep, connFrame_keep, modConn_keep])

theorem roceAcked_keep (a1) (a2) (s : State) : (roceAcked a1 a2 s).keep = s.keep := by
  (unfold roceAcked; simp only [keep_mk, keep_fold, apply_ite State.keep, ite_self, next_keep, whenS_keep, forEach_keep, ifSome_keep, foldl_keep, modConn_keep]; done)

theorem modCmd_keep (a1) (a2) (a3) (s : State) : (modCmd a1 a2 a3 s).keep = s.keep := by
  (unfold modCmd; simp only [keep_mk, keep_fold, apply_ite State.keep, ite_self, next_keep, whenS_keep, forEach_keep, ifSome_keep, foldl_keep, modConn_keep]; done)

theorem c2hData_keep (a1) (a2) (a3) (a4) (a5) (s : State) : (c2hData a1 a2 a3 a4 a5 s).keep = s.keep := by
  (fun_induction c2hData <;> grind [keep_mk, keep_fold, whenS_keep, forEach_keep, ifSome_keep, foldl_keep, connSend_keep])

theorem sendReadData_keep (a1) (a2) (a3) (s : State) : (sendReadData a1 a2 a3 s).keep = s.keep := by
  (unfold sendReadData; grind [keep_mk, keep_fold, whenS_keep, forEach_keep, ifSome_keep, foldl_keep, c2hData_keep, roceWrite_keep])

theorem answer_keep (a1) (a2) (a3) (a4) (a5) (s : State) : (answer a1 a2 a3 a4 a5 s).keep = s.keep := by
  (unfold answer; grind [keep_mk, keep_fold, whenS_keep, forEach_keep, ifSome_keep, foldl_keep, freeNat_keep, connSend_keep, roceSend_keep])

theorem respond_keep (a1) (a2) (a3) (a4) (a5) (s : State) : (respond a1 a2 a3 a4 a5 s).keep = s.keep := by
  (unfold respond; simp only [keep_mk, keep_fold, apply_ite State.keep, ite_self, next_keep, whenS_keep, forEach_keep, ifSome_keep, foldl_keep, modConn_keep, modSto_keep, answer_keep]; done)

theorem endCommands_keep (a1) (a2) (s : State) : (endCommands a1 a2 s).keep = s.keep := by
  (unfold endCommands; grind [keep_mk, keep_fold, whenS_keep, forEach_keep, ifSome_keep, foldl_keep, respond_keep])

theorem closeConns_keep (a1) (s : State) : (closeConns a1 s).keep = s.keep := by
  (unfold closeConns; grind [keep_mk, keep_fold, whenS_keep, forEach_keep, ifSome_keep, foldl_keep, connRemove_keep, tcpRst_keep, modSto_keep])

theorem wipeTenantKeys_keep (a1) (s : State) : (wipeTenantKeys a1 s).keep = s.keep := by
  (unfold wipeTenantKeys; simp only [keep_mk, keep_fold, apply_ite State.keep, ite_self, next_keep, whenS_keep, forEach_keep, ifSome_keep, foldl_keep, modTenant_keep, wipeSlots_keep]; done)

theorem runRings_keep (a1) (s : State) : (runRings a1 s).keep = s.keep := by
  (unfold runRings; grind [keep_mk, keep_fold, whenS_keep, forEach_keep, ifSome_keep, foldl_keep, ringRuns_keep])

theorem purgeEntries_keep (a1) (s : State) : (purgeEntries a1 s).keep = s.keep := by
  (unfold purgeEntries; simp only [keep_mk, keep_fold, apply_ite State.keep, ite_self, next_keep, whenS_keep, forEach_keep, ifSome_keep, foldl_keep]; done)

theorem fnReset_keep (a1) (a2) (s : State) : (fnReset a1 a2 s).keep = s.keep := by
  (unfold fnReset; grind [keep_mk, keep_fold, whenS_keep, forEach_keep, ifSome_keep, foldl_keep, purgeEntries_keep, purgeFrames_keep, clearRing_keep, cadReturn_keep, closeConns_keep, bankOff_keep])

theorem dropPf0Commands_keep (s : State) : (dropPf0Commands s).keep = s.keep := by
  (unfold dropPf0Commands; simp only [keep_mk, keep_fold, apply_ite State.keep, ite_self, next_keep, whenS_keep, forEach_keep, ifSome_keep, foldl_keep]; done)

theorem resetPf0_keep (s : State) : (resetPf0 s).keep = s.keep := by
  (unfold resetPf0; grind [keep_mk, keep_fold, whenS_keep, forEach_keep, ifSome_keep, foldl_keep, fnReset_keep, dropPf0Commands_keep, advanceEpoch_keep])

theorem resetFn_keep (a1) (s : State) : (resetFn a1 s).keep = s.keep := by
  (unfold resetFn; simp only [keep_mk, keep_fold, apply_ite State.keep, ite_self, next_keep, whenS_keep, forEach_keep, ifSome_keep, foldl_keep, resetPf0_keep, fnReset_keep]; done)

theorem resetConfig_keep (a1) (s : State) : (resetConfig a1 s).keep = s.keep := by
  (unfold resetConfig; simp only [keep_mk, keep_fold, apply_ite State.keep, ite_self, next_keep, whenS_keep, forEach_keep, ifSome_keep, foldl_keep, modFn_keep]; done)

theorem resetAllConfig_keep (s : State) : (resetAllConfig s).keep = s.keep := by
  (unfold resetAllConfig; simp only [keep_mk, keep_fold, apply_ite State.keep, ite_self, next_keep, whenS_keep, forEach_keep, ifSome_keep, foldl_keep]; done)

theorem endConvReset_keep (s : State) : (endConvReset s).keep = s.keep := by
  (unfold endConvReset; grind [keep_mk, keep_fold, whenS_keep, forEach_keep, ifSome_keep, foldl_keep, ringRuns_keep])

theorem convReset_keep (a1) (s : State) : (convReset a1 s).keep = s.keep := by
  (unfold convReset; simp only [keep_mk, keep_fold, apply_ite State.keep, ite_self, next_keep, whenS_keep, forEach_keep, ifSome_keep, foldl_keep, resetPf0_keep, resetAllConfig_keep, logEvent_keep, endConvReset_keep]; done)

theorem linkChange_keep (a1) (a2) (a3) (s : State) : (linkChange a1 a2 a3 s).keep = s.keep := by
  (unfold linkChange; grind [keep_mk, keep_fold, mgtEvent_keep, logEvent_keep])

theorem charter_keep (a1) (a2) (s : State) : (charter a1 a2 s).keep = s.keep := by
  (unfold charter; simp only [keep_mk, keep_fold, apply_ite State.keep, ite_self, next_keep, whenS_keep, forEach_keep, ifSome_keep, foldl_keep, modTenant_keep]; done)

theorem bumpGen_keep (a1) (s : State) : (bumpGen a1 s).keep = s.keep := by
  (unfold bumpGen; simp only [keep_mk, keep_fold, apply_ite State.keep, ite_self, next_keep, whenS_keep, forEach_keep, ifSome_keep, foldl_keep, modTenant_keep]; done)

theorem failWorkOf_keep (a1) (a2) (s : State) : (failWorkOf a1 a2 s).keep = s.keep := by
  (unfold failWorkOf; grind [keep_mk, keep_fold, whenS_keep, forEach_keep, ifSome_keep, foldl_keep, purgeEntries_keep, failEntry_keep])

theorem resetTenant_keep (a1) (s : State) : (resetTenant a1 s).keep = s.keep := by
  (unfold resetTenant; grind [keep_mk, keep_fold, whenS_keep, forEach_keep, ifSome_keep, foldl_keep, fnReset_keep, cadReturn_keep, purgeFrames_keep, closeConns_keep, wipeTenantKeys_keep, modTenant_keep, logEvent_keep, runRings_keep])

theorem execPerstNAssert_keep (s : State) : ∃ t, execPerstNAssert s = .next t ∧ t.keep = s.keep := by
  (unfold execPerstNAssert; grind [keep_mk, keep_fold, whenS_keep, forEach_keep, ifSome_keep, foldl_keep, convReset_keep])

theorem execPerstNDeassert_keep (s : State) : ∃ t, execPerstNDeassert s = .next t ∧ t.keep = s.keep := by
  (unfold execPerstNDeassert; grind [keep_mk, keep_fold, whenS_keep, forEach_keep, ifSome_keep, foldl_keep, endConvReset_keep])

theorem execHotResetReceived_keep (s : State) : ∃ t, execHotResetReceived s = .next t ∧ t.keep = s.keep := by
  (unfold execHotResetReceived; simp only [keep_mk, keep_fold, apply_ite State.keep, ite_self, next_keep, whenS_keep, forEach_keep, ifSome_keep, foldl_keep, convReset_keep]; done)

theorem execLinkDlDown_keep (s : State) : ∃ t, execLinkDlDown s = .next t ∧ t.keep = s.keep := by
  (unfold execLinkDlDown; simp only [keep_mk, keep_fold, apply_ite State.keep, ite_self, next_keep, whenS_keep, forEach_keep, ifSome_keep, foldl_keep, convReset_keep]; done)

theorem execLinkTrainingStart_keep (s : State) : ∃ t, execLinkTrainingStart s = .next t ∧ t.keep = s.keep := by
  (unfold execLinkTrainingStart; simp only [keep_mk, keep_fold, apply_ite State.keep, ite_self, next_keep, whenS_keep, forEach_keep, ifSome_keep, foldl_keep]; done)

theorem execLinkDlActive_keep (a1) (a2) (a3) (s : State) : ∃ t, execLinkDlActive a1 a2 a3 s = .next t ∧ t.keep = s.keep := by
  (unfold execLinkDlActive; grind [keep_mk, keep_fold, whenS_keep, forEach_keep, ifSome_keep, foldl_keep, linkChange_keep, logEvent_keep])

theorem clearVfEnable_keep (s : State) : (clearVfEnable s).keep = s.keep := by
  (unfold clearVfEnable; grind [keep_mk, keep_fold, whenS_keep, forEach_keep, ifSome_keep, foldl_keep, resetConfig_keep, resetFn_keep, runRings_keep])

theorem cfgWrite_keep (a1) (a2) (a3) (s : State) : (cfgWrite a1 a2 a3 s).keep = s.keep := by
  (unfold cfgWrite; grind [keep_mk, keep_fold, whenS_keep, forEach_keep, ifSome_keep, foldl_keep, modFn_keep, clearVfEnable_keep])

theorem execConfigRequest_keep (a1) (a2) (a3) (s : State) : ∃ t, execConfigRequest a1 a2 a3 s = .next t ∧ t.keep = s.keep := by
  (unfold execConfigRequest; grind [keep_mk, keep_fold, whenS_keep, forEach_keep, ifSome_keep, foldl_keep, emit_keep, cfgWrite_keep])

theorem execFlrStart_keep (a1) (s : State) : ∃ t, execFlrStart a1 s = .next t ∧ t.keep = s.keep := by
  (unfold execFlrStart; grind [keep_mk, keep_fold, whenS_keep, forEach_keep, ifSome_keep, foldl_keep, resetFn_keep, modFn_keep, resetConfig_keep])

theorem flrDone_keep (a1) (s : State) : (flrDone a1 s).keep = s.keep := by
  (unfold flrDone; simp only [keep_mk, keep_fold, apply_ite State.keep, ite_self, next_keep, whenS_keep, forEach_keep, ifSome_keep, foldl_keep, runRings_keep, modFn_keep]; done)

theorem execVfEnableClear_keep (s : State) : ∃ t, execVfEnableClear s = .next t ∧ t.keep = s.keep := by
  (unfold execVfEnableClear; simp only [keep_mk, keep_fold, apply_ite State.keep, ite_self, next_keep, whenS_keep, forEach_keep, ifSome_keep, foldl_keep, clearVfEnable_keep]; done)

theorem readFailed_keep (a1) (a2) (s : State) : (readFailed a1 a2 s).keep = s.keep := by
  (unfold readFailed; grind [keep_mk, keep_fold, whenS_keep, forEach_keep, ifSome_keep, foldl_keep, dmaFault_keep, modRing_keep])

theorem takeRead_keep (a1) (s : State) : ∀ y0 t, takeRead a1 s = some (y0, t) → t.keep = s.keep := by
  (unfold takeRead; dsimp only; (repeat' split) <;> (first | (simp (disch := (intros; first | (simp only [keep_mk, keep_fold, apply_ite State.keep, ite_self, next_keep, whenS_keep, forEach_keep, ifSome_keep, foldl_keep]; done) | grind [keep_mk, keep_fold, whenS_keep, forEach_keep, ifSome_keep, foldl_keep, Option.map_eq_some_iff, Option.bind_eq_some_iff])) only [keep_mk, keep_fold, apply_ite State.keep, ite_self, next_keep, whenS_keep, forEach_keep, ifSome_keep, foldl_keep]; done) | grind [keep_mk, keep_fold, whenS_keep, forEach_keep, ifSome_keep, foldl_keep, Option.map_eq_some_iff, Option.bind_eq_some_iff]))

theorem execDmaReadCompletion_keep (a1) (a2) (s : State) : ∃ t, execDmaReadCompletion a1 a2 s = .next t ∧ t.keep = s.keep := by
  (unfold execDmaReadCompletion; (repeat' split) <;> (refine ⟨_, rfl, ?_⟩) <;> (first | (simp (disch := (intros; first | (simp only [keep_mk, keep_fold, apply_ite State.keep, ite_self, next_keep, whenS_keep, forEach_keep, ifSome_keep, foldl_keep, takeRead_keep, readFailed_keep]; done) | grind [keep_mk, keep_fold, whenS_keep, forEach_keep, ifSome_keep, foldl_keep, takeRead_keep, readFailed_keep, Option.map_eq_some_iff, Option.bind_eq_some_iff])) only [keep_mk, keep_fold, apply_ite State.keep, ite_self, next_keep, whenS_keep, forEach_keep, ifSome_keep, foldl_keep, takeRead_keep, readFailed_keep]; done) | grind [keep_mk, keep_fold, whenS_keep, forEach_keep, ifSome_keep, foldl_keep, takeRead_keep, readFailed_keep, Option.map_eq_some_iff, Option.bind_eq_some_iff]))

theorem execCompletionTimeout_keep (a1) (s : State) : ∃ t, execCompletionTimeout a1 s = .next t ∧ t.keep = s.keep := by
  (unfold execCompletionTimeout; (repeat' split) <;> (refine ⟨_, rfl, ?_⟩) <;> (first | (simp (disch := (intros; first | (simp only [keep_mk, keep_fold, apply_ite State.keep, ite_self, next_keep, whenS_keep, forEach_keep, ifSome_keep, foldl_keep, takeRead_keep, readFailed_keep]; done) | grind [keep_mk, keep_fold, whenS_keep, forEach_keep, ifSome_keep, foldl_keep, takeRead_keep, readFailed_keep, Option.map_eq_some_iff, Option.bind_eq_some_iff])) only [keep_mk, keep_fold, apply_ite State.keep, ite_self, next_keep, whenS_keep, forEach_keep, ifSome_keep, foldl_keep, takeRead_keep, readFailed_keep]; done) | grind [keep_mk, keep_fold, whenS_keep, forEach_keep, ifSome_keep, foldl_keep, takeRead_keep, readFailed_keep, Option.map_eq_some_iff, Option.bind_eq_some_iff]))

theorem execAtsInvalidation_keep (a1) (a2) (a3) (s : State) : ∃ t, execAtsInvalidation a1 a2 a3 s = .next t ∧ t.keep = s.keep := by
  (unfold execAtsInvalidation; simp only [keep_mk, keep_fold, apply_ite State.keep, ite_self, next_keep, whenS_keep, forEach_keep, ifSome_keep, foldl_keep, emit_keep]; done)

theorem execMsixPendingSend_keep (a1) (a2) (s : State) : ∃ t, execMsixPendingSend a1 a2 s = .next t ∧ t.keep = s.keep := by
  (unfold execMsixPendingSend; grind [keep_mk, keep_fold, whenS_keep, forEach_keep, ifSome_keep, foldl_keep, sendMsix_keep, modVec_keep])

theorem execMgtEventWrite_keep (a1) (a2) (s : State) : ∃ t, execMgtEventWrite a1 a2 s = .next t ∧ t.keep = s.keep := by
  (unfold execMgtEventWrite; simp only [keep_mk, keep_fold, apply_ite State.keep, ite_self, next_keep, whenS_keep, forEach_keep, ifSome_keep, foldl_keep, mgtEvent_keep]; done)

theorem execMgtDmafCountRead_keep (a1) (s : State) : ∃ t, execMgtDmafCountRead a1 s = .next t ∧ t.keep = s.keep := by
  (unfold execMgtDmafCountRead; simp only [keep_mk, keep_fold, apply_ite State.keep, ite_self, next_keep, whenS_keep, forEach_keep, ifSome_keep, foldl_keep, emit_keep]; done)

theorem execTntCharterSet_keep (s : State) : ∃ t, execTntCharterSet s = .next t ∧ t.keep = s.keep := by
  (unfold execTntCharterSet; refine interpret_keep _ _ _ ?_; intro p s; dsimp only; (repeat' split) <;> (first | (simp (disch := (intros; first | (simp only [keep_mk, keep_fold, apply_ite State.keep, ite_self, next_keep, whenS_keep, forEach_keep, ifSome_keep, foldl_keep, interpret_keep, fail_keep, badParam_keep, ok_keep, charter_keep]; done) | grind [keep_mk, keep_fold, whenS_keep, forEach_keep, ifSome_keep, foldl_keep, interpret_keep, fail_keep, badParam_keep, ok_keep, charter_keep])) only [keep_mk, keep_fold, apply_ite State.keep, ite_self, next_keep, whenS_keep, forEach_keep, ifSome_keep, foldl_keep, interpret_keep, fail_keep, badParam_keep, ok_keep, charter_keep]; done) | grind [keep_mk, keep_fold, whenS_keep, forEach_keep, ifSome_keep, foldl_keep, interpret_keep, fail_keep, badParam_keep, ok_keep, charter_keep] | (refine checked_keep _ _ _ _ _ ?_; intro s; first | (simp only [keep_mk, keep_fold, apply_ite State.keep, ite_self, next_keep, whenS_keep, forEach_keep, ifSome_keep, foldl_keep, interpret_keep, fail_keep, badParam_keep, ok_keep, charter_keep]; done) | grind [keep_mk, keep_fold, whenS_keep, forEach_keep, ifSome_keep, foldl_keep, interpret_keep, fail_keep, badParam_keep, ok_keep, charter_keep])))

theorem execTntCharterGet_keep (s : State) : ∃ t, execTntCharterGet s = .next t ∧ t.keep = s.keep := by
  (unfold execTntCharterGet; refine interpret_keep _ _ _ ?_; intro p s; refine checked_keep _ _ _ _ _ ?_; intro s; simp only [keep_mk, keep_fold, apply_ite State.keep, ite_self, next_keep, whenS_keep, forEach_keep, ifSome_keep, foldl_keep, interpret_keep, checked_keep, complete_keep]; done)

theorem tenantRecord_keep (a1) (a2) (a3) (s : State) : (tenantRecord a1 a2 a3 s).keep = s.keep := by
  (unfold tenantRecord; simp only [keep_mk, keep_fold, apply_ite State.keep, ite_self, next_keep, whenS_keep, forEach_keep, ifSome_keep, foldl_keep, logEvent_keep]; done)

theorem setTenantState_keep (a1) (a2) (s : State) : (setTenantState a1 a2 s).keep = s.keep := by
  (unfold setTenantState; grind [keep_mk, keep_fold, whenS_keep, forEach_keep, ifSome_keep, foldl_keep, failWorkOf_keep, setKeks_keep, resetTenant_keep, tenantRecord_keep, bumpGen_keep, modTenant_keep, fillTenant_keep])

theorem execTntStateSet_keep (s : State) : ∃ t, execTntStateSet s = .next t ∧ t.keep = s.keep := by
  (unfold execTntStateSet; refine interpret_keep _ _ _ ?_; intro p s; refine checked_keep _ _ _ _ _ ?_; intro s; simp only [keep_mk, keep_fold, apply_ite State.keep, ite_self, next_keep, whenS_keep, forEach_keep, ifSome_keep, foldl_keep, interpret_keep, checked_keep, ok_keep, fail_keep, setTenantState_keep]; done)

theorem execTntReset_keep (s : State) : ∃ t, execTntReset s = .next t ∧ t.keep = s.keep := by
  (unfold execTntReset; refine interpret_keep _ _ _ ?_; intro p s; refine checked_keep _ _ _ _ _ ?_; intro s; simp only [keep_mk, keep_fold, apply_ite State.keep, ite_self, next_keep, whenS_keep, forEach_keep, ifSome_keep, foldl_keep, interpret_keep, checked_keep, ok_keep, bumpGen_keep, resetTenant_keep]; done)

theorem bindRecord_keep (a1) (a2) (a3) (s : State) : (bindRecord a1 a2 a3 s).keep = s.keep := by
  (unfold bindRecord; simp only [keep_mk, keep_fold, apply_ite State.keep, ite_self, next_keep, whenS_keep, forEach_keep, ifSome_keep, foldl_keep, logEvent_keep]; done)

theorem unbindVf_keep (a1) (a2) (s : State) : (unbindVf a1 a2 s).keep = s.keep := by
  (unfold unbindVf; simp only [keep_mk, keep_fold, apply_ite State.keep, ite_self, next_keep, whenS_keep, forEach_keep, ifSome_keep, foldl_keep, fnReset_keep, runRings_keep, modVf_keep, bindRecord_keep, bumpGen_keep]; done)

theorem doUnbind_keep (a1) (a2) (s : State) : (doUnbind a1 a2 s).keep = s.keep := by
  (unfold doUnbind; grind [keep_mk, keep_fold, whenS_keep, forEach_keep, ifSome_keep, foldl_keep, ok_keep, fail_keep, unbindVf_keep])

theorem execTntVfBind_keep (s : State) : ∃ t, execTntVfBind s = .next t ∧ t.keep = s.keep := by
  (unfold execTntVfBind; refine interpret_keep _ _ _ ?_; intro p s; refine checked_keep _ _ _ _ _ ?_; intro s; dsimp only; (repeat' split) <;> (first | (simp (disch := (intros; first | (simp only [keep_mk, keep_fold, apply_ite State.keep, ite_self, next_keep, whenS_keep, forEach_keep, ifSome_keep, foldl_keep, interpret_keep, checked_keep, badParam_keep, waitFor_keep, doUnbind_keep, fail_keep, ok_keep, bumpGen_keep, modVf_keep, bindRecord_keep, fillVf_keep]; done) | grind [keep_mk, keep_fold, whenS_keep, forEach_keep, ifSome_keep, foldl_keep, interpret_keep, checked_keep, badParam_keep, waitFor_keep, doUnbind_keep, fail_keep, ok_keep, bumpGen_keep, modVf_keep, bindRecord_keep, fillVf_keep])) only [keep_mk, keep_fold, apply_ite State.keep, ite_self, next_keep, whenS_keep, forEach_keep, ifSome_keep, foldl_keep, interpret_keep, checked_keep, badParam_keep, waitFor_keep, doUnbind_keep, fail_keep, ok_keep, bumpGen_keep, modVf_keep, bindRecord_keep, fillVf_keep]; done) | grind [keep_mk, keep_fold, whenS_keep, forEach_keep, ifSome_keep, foldl_keep, interpret_keep, checked_keep, badParam_keep, waitFor_keep, doUnbind_keep, fail_keep, ok_keep, bumpGen_keep, modVf_keep, bindRecord_keep, fillVf_keep]))

theorem execFlrComplete_keep (a1) (s : State) : ∃ t, execFlrComplete a1 s = .next t ∧ t.keep = s.keep := by
  (unfold execFlrComplete; grind [keep_mk, keep_fold, whenS_keep, forEach_keep, ifSome_keep, foldl_keep, flrDone_keep, doUnbind_keep])

theorem arrive_keep (a1) (a2) (a3) (a4) (a5) (s : State) (h5 : ∀ x0 s, (a5 x0 s).keep = s.keep) : (arrive a1 a2 a3 a4 a5 s).keep = s.keep := by
  (unfold arrive; grind [keep_mk, keep_fold, whenS_keep, forEach_keep, ifSome_keep, foldl_keep, setRing_keep, countEv_keep, takeTokens_keep, failEntry_keep])

theorem waitBuffer_keep (a1) (a2) (a3) (a4) (a5) (a6) (s : State) : (waitBuffer a1 a2 a3 a4 a5 a6 s).keep = s.keep := by
  (unfold waitBuffer; simp only [keep_mk, keep_fold, apply_ite State.keep, ite_self, next_keep, whenS_keep, forEach_keep, ifSome_keep, foldl_keep]; done)

theorem failSeg_keep (a1) (a2) (a3) (a4) (s : State) : (failSeg a1 a2 a3 a4 s).keep = s.keep := by
  (unfold failSeg; simp only [keep_mk, keep_fold, apply_ite State.keep, ite_self, next_keep, whenS_keep, forEach_keep, ifSome_keep, foldl_keep, modWork_keep]; done)

theorem spoofed_keep (a1) (a2) (a3) (a4) (a5) (s : State) : (spoofed a1 a2 a3 a4 a5 s).keep = s.keep := by
  (unfold spoofed; simp only [keep_mk, keep_fold, apply_ite State.keep, ite_self, next_keep, whenS_keep, forEach_keep, ifSome_keep, foldl_keep, modVf_keep, countEv_keep, logLimited_keep]; done)

theorem txFrame_keep (a1) (a2) (a3) (a4) (s : State) : (txFrame a1 a2 a3 a4 s).2.keep = s.keep := by
  (unfold txFrame; grind [keep_mk, keep_fold, whenS_keep, forEach_keep, ifSome_keep, foldl_keep, cadRelease_keep, spoofed_keep, freeNat_keep, newId_keep, toVport_keep, enterSwitch_keep])

theorem txFrame_keep2 (a1) (a2) (a3) (a4) (s : State) : ∀ y0 t, (txFrame a1 a2 a3 a4 s) = (y0, t) → t.keep = s.keep := by
  intro y0 t h; have := txFrame_keep a1 a2 a3 a4 s; rw [h] at this; exact this

theorem txRun_keep (a1) (a2) (a3) (s : State) : (txRun a1 a2 a3 s).keep = s.keep := by
  (fun_induction txRun <;> grind [keep_mk, keep_fold, whenS_keep, forEach_keep, ifSome_keep, foldl_keep, finishEntry_keep, failSeg_keep, cadTake_keep, waitBuffer_keep, dmaGet_keep, cadRelease_keep, txFrame_keep, modWork_keep, dmaGet_keep2, txFrame_keep2, Option.map_eq_some_iff, Option.bind_eq_some_iff])

theorem packetRun_keep (a1) (a2) (s : State) : (packetRun a1 a2 s).keep = s.keep := by
  (unfold packetRun; dsimp only; (repeat' split) <;> (first | (simp (disch := (intros; first | (simp only [keep_mk, keep_fold, apply_ite State.keep, ite_self, next_keep, whenS_keep, forEach_keep, ifSome_keep, foldl_keep, finishEntry_keep, cadTake_keep, waitBuffer_keep, dmaGet_keep, cadRelease_keep, frontEnd_keep, modWork_keep]; done) | grind [keep_mk, keep_fold, whenS_keep, forEach_keep, ifSome_keep, foldl_keep, finishEntry_keep, cadTake_keep, waitBuffer_keep, dmaGet_keep, cadRelease_keep, frontEnd_keep, modWork_keep, dmaGet_keep2, Option.map_eq_some_iff, Option.bind_eq_some_iff])) only [keep_mk, keep_fold, apply_ite State.keep, ite_self, next_keep, whenS_keep, forEach_keep, ifSome_keep, foldl_keep, finishEntry_keep, cadTake_keep, waitBuffer_keep, dmaGet_keep, cadRelease_keep, frontEnd_keep, modWork_keep]; done) | grind [keep_mk, keep_fold, whenS_keep, forEach_keep, ifSome_keep, foldl_keep, finishEntry_keep, cadTake_keep, waitBuffer_keep, dmaGet_keep, cadRelease_keep, frontEnd_keep, modWork_keep, dmaGet_keep2, Option.map_eq_some_iff, Option.bind_eq_some_iff]))

theorem intoUnit_keep (a1) (a2) (a3) (s : State) : (intoUnit a1 a2 a3 s).keep = s.keep := by
  (unfold intoUnit; simp only [keep_mk, keep_fold, apply_ite State.keep, ite_self, next_keep, whenS_keep, forEach_keep, ifSome_keep, foldl_keep, modPoint_keep]; done)

theorem outOfUnit_keep (a1) (a2) (s : State) : (outOfUnit a1 a2 s).keep = s.keep := by
  (unfold outOfUnit; simp only [keep_mk, keep_fold, apply_ite State.keep, ite_self, next_keep, whenS_keep, forEach_keep, ifSome_keep, foldl_keep, modPoint_keep, countEv_keep]; done)

theorem waitOutput_keep (a1) (a2) (a3) (a4) (a5) (a6) (s : State) : (waitOutput a1 a2 a3 a4 a5 a6 s).keep = s.keep := by
  (unfold waitOutput; simp only [keep_mk, keep_fold, apply_ite State.keep, ite_self, next_keep, whenS_keep, forEach_keep, ifSome_keep, foldl_keep]; done)

theorem malformed_keep (a1) (a2) (s : State) : (malformed a1 a2 s).keep = s.keep := by
  (unfold malformed; grind [keep_mk, keep_fold, whenS_keep, forEach_keep, ifSome_keep, foldl_keep, freeNat_keep, finishEntry_keep])

theorem fetchBuffers_keep (a1) (a2) (a3) (s : State) : (fetchBuffers a1 a2 a3 s).2.keep = s.keep := by
  have go : ∀ (l hs : List Nat) (r : Ring) (owner : Nat) (s : State) (h : List Nat) (t : State) (n : Nat),
      fetchBuffers.go r owner l hs s = (some (h, t), n) → t.keep = s.keep := by
    intro l
    induction l with
    | nil => intro hs r owner s h t n hh; simp only [fetchBuffers.go] at hh; grind
    | cons x l ih => intro hs r owner s h t n hh; unfold fetchBuffers.go at hh; grind [cadTake_keep]
  unfold fetchBuffers
  grind [modWork_keep, waitBuffer_keep]

theorem fetchBuffers_keep2 (a1) (a2) (a3) (s : State) : ∀ y0 t, (fetchBuffers a1 a2 a3 s) = (y0, t) → t.keep = s.keep := by
  intro y0 t h; have := fetchBuffers_keep a1 a2 a3 s; rw [h] at this; exact this

theorem readSegs_keep (a1) (a2) (a3) (s : State) : (readSegs a1 a2 a3 s).keep = s.keep := by
  (unfold readSegs; grind [keep_mk, keep_fold, whenS_keep, forEach_keep, ifSome_keep, foldl_keep, dmaGet_keep, modWork_keep])

theorem xtsRun_keep (a1) (a2) (s : State) : (xtsRun a1 a2 s).keep = s.keep := by
  (unfold xtsRun; grind [keep_mk, keep_fold, whenS_keep, forEach_keep, ifSome_keep, foldl_keep, malformed_keep, fetchBuffers_keep, readSegs_keep, modWork_keep, enqueueAt_keep])

theorem xtsWrite_keep (a1) (a2) (a3) (a4) (a5) (a6) (s : State) : (xtsWrite a1 a2 a3 a4 a5 a6 s).2.keep = s.keep := by
  (unfold xtsWrite; grind [keep_mk, keep_fold, whenS_keep, forEach_keep, ifSome_keep, foldl_keep, dmaPut_keep])

theorem xtsWrite_keep2 (a1) (a2) (a3) (a4) (a5) (a6) (s : State) : ∀ y0 t, (xtsWrite a1 a2 a3 a4 a5 a6 s) = (y0, t) → t.keep = s.keep := by
  intro y0 t h; have := xtsWrite_keep a1 a2 a3 a4 a5 a6 s; rw [h] at this; exact this

theorem xtsFinish_keep (a1) (a2) (s : State) : (xtsFinish a1 a2 s).keep = s.keep := by
  unfold xtsFinish
  split
  · rename_i r w _ _
    have fold : ∀ (l : List XtsJob) (x : List Nat × Nat × Nat × State) (key : Bytes), (l.foldl (fun (a : List Nat × Nat × Nat × State) j =>
        match xtsWrite (entKind w.entry == 0x30) key (xtsDu w.entry) r.fn w.data j a.2.2.2 with
        | (none, s) => (a.1, a.2.1 + j.len, j.dun + ceilDiv j.len (2 ^ (xtsDu w.entry)), s)
        | (some i, s) => (a.1 ++ [i], a.2.1, a.2.2.1, s)) x).2.2.2.keep = x.2.2.2.keep := by
      intro l
      induction l with
      | nil => intro x key; rfl
      | cons y l ih =>
        intro x key
        simp only [List.foldl_cons]
        rw [ih]
        grind [xtsWrite_keep, xtsWrite_keep2]
    simp only [finishEntry_keep]
    exact fold _ _ _
  · rfl

theorem execEntryXtsEnc_keep (a1) (a2) (a3) (s : State) : ∃ t, execEntryXtsEnc a1 a2 a3 s = .next t ∧ t.keep = s.keep := by
  (unfold execEntryXtsEnc; grind [keep_mk, keep_fold, whenS_keep, forEach_keep, ifSome_keep, foldl_keep, arrive_keep, xtsRun_keep])

theorem execEntryXtsDec_keep (a1) (a2) (a3) (s : State) : ∃ t, execEntryXtsDec a1 a2 a3 s = .next t ∧ t.keep = s.keep := by
  (unfold execEntryXtsDec; grind [keep_mk, keep_fold, whenS_keep, forEach_keep, ifSome_keep, foldl_keep, arrive_keep, xtsRun_keep])

theorem finishSaDel_keep (s : State) : (finishSaDel s).keep = s.keep := by
  (unfold finishSaDel; grind [keep_mk, keep_fold, whenS_keep, forEach_keep, ifSome_keep, foldl_keep, finishWaits_keep, removeSa_keep])

theorem enterAes_keep (a1) (s : State) : (enterAes a1 s).keep = s.keep := by
  (induction a1 generalizing s <;> unfold enterAes <;> grind [keep_mk, keep_fold, whenS_keep, forEach_keep, ifSome_keep, foldl_keep, cryptEnter_keep, intoUnit_keep, finishSaDel_keep, dropFrame_keep])

theorem execCryptoItemDone_keep (a1) (s : State) : ∃ t, execCryptoItemDone a1 s = .next t ∧ t.keep = s.keep := by
  (unfold execCryptoItemDone; dsimp only; (repeat' split) <;> (first | (simp (disch := (intros; first | (simp only [keep_mk, keep_fold, apply_ite State.keep, ite_self, next_keep, whenS_keep, forEach_keep, ifSome_keep, foldl_keep, outOfUnit_keep, cryptLeave_keep, finishSaDel_keep, finishAction_keep, dropFrame_keep, macsecTake_keep, portEnter_keep, cadTake_keep, waitOutput_keep, modWork_keep, xtsFinish_keep]; done) | grind [keep_mk, keep_fold, whenS_keep, forEach_keep, ifSome_keep, foldl_keep, outOfUnit_keep, cryptLeave_keep, finishSaDel_keep, finishAction_keep, dropFrame_keep, macsecTake_keep, portEnter_keep, cadTake_keep, waitOutput_keep, modWork_keep, xtsFinish_keep, cryptLeave_keep2, macsecTake_keep2, Option.map_eq_some_iff, Option.bind_eq_some_iff])) only [keep_mk, keep_fold, apply_ite State.keep, ite_self, next_keep, whenS_keep, forEach_keep, ifSome_keep, foldl_keep, outOfUnit_keep, cryptLeave_keep, finishSaDel_keep, finishAction_keep, dropFrame_keep, macsecTake_keep, portEnter_keep, cadTake_keep, waitOutput_keep, modWork_keep, xtsFinish_keep]; done) | grind [keep_mk, keep_fold, whenS_keep, forEach_keep, ifSome_keep, foldl_keep, outOfUnit_keep, cryptLeave_keep, finishSaDel_keep, finishAction_keep, dropFrame_keep, macsecTake_keep, portEnter_keep, cadTake_keep, waitOutput_keep, modWork_keep, xtsFinish_keep, cryptLeave_keep2, macsecTake_keep2, Option.map_eq_some_iff, Option.bind_eq_some_iff]))

theorem execDrbgReseed_keep (s : State) : ∃ t, execDrbgReseed s = .next t ∧ t.keep = s.keep := by
  (unfold execDrbgReseed; simp only [keep_mk, keep_fold, apply_ite State.keep, ite_self, next_keep, whenS_keep, forEach_keep, ifSome_keep, foldl_keep, modCry_keep]; done)

theorem execDrbgHealthFailure_keep (a1) (s : State) : ∃ t, execDrbgHealthFailure a1 s = .next t ∧ t.keep = s.keep := by
  (unfold execDrbgHealthFailure; grind [keep_mk, keep_fold, whenS_keep, forEach_keep, ifSome_keep, foldl_keep, modCry_keep, logEvent_keep])

theorem execDrbgStatus_keep (s : State) : ∃ t, execDrbgStatus s = .next t ∧ t.keep = s.keep := by
  (unfold execDrbgStatus; refine interpret_keep _ _ _ ?_; intro p s; refine checked_keep _ _ _ _ _ ?_; intro s; simp only [keep_mk, keep_fold, apply_ite State.keep, ite_self, next_keep, whenS_keep, forEach_keep, ifSome_keep, foldl_keep, interpret_keep, checked_keep, complete_keep]; done)

theorem keyRecord_keep (a1) (a2) (a3) (a4) (s : State) : (keyRecord a1 a2 a3 a4 s).keep = s.keep := by
  (unfold keyRecord; simp only [keep_mk, keep_fold, apply_ite State.keep, ite_self, next_keep, whenS_keep, forEach_keep, ifSome_keep, foldl_keep, logEvent_keep]; done)

theorem bumpSlot_keep (a1) (s : State) : (bumpSlot a1 s).keep = s.keep := by
  (unfold bumpSlot; simp only [keep_mk, keep_fold, apply_ite State.keep, ite_self, next_keep, whenS_keep, forEach_keep, ifSome_keep, foldl_keep, modCry_keep]; done)

theorem unwrapFail_keep (a1) (a2) (a3) (a4) (s : State) : (unwrapFail a1 a2 a3 a4 s).keep = s.keep := by
  (unfold unwrapFail; simp only [keep_mk, keep_fold, apply_ite State.keep, ite_self, next_keep, whenS_keep, forEach_keep, ifSome_keep, foldl_keep, fail_keep, logEvent_keep]; done)

theorem drawKey_keep (a1) (s : State) : (drawKey a1 s).2.keep = s.keep := by
  (unfold drawKey; simp only [keep_mk, keep_fold, apply_ite State.keep, ite_self, next_keep, whenS_keep, forEach_keep, ifSome_keep, foldl_keep, drbgBytes_keep]; done)

theorem drawKey_keep2 (a1) (s : State) : ∀ y0 t, (drawKey a1 s) = (y0, t) → t.keep = s.keep := by
  intro y0 t h; have := drawKey_keep a1 s; rw [h] at this; exact this

theorem putKey_keep (a1) (a2) (a3) (a4) (a5) (s : State) : (putKey a1 a2 a3 a4 a5 s).keep = s.keep := by
  (unfold putKey; simp only [keep_mk, keep_fold, apply_ite State.keep, ite_self, next_keep, whenS_keep, forEach_keep, ifSome_keep, foldl_keep, bumpSlot_keep, modCry_keep, charter_keep, keyRecord_keep]; done)

theorem execKeyLoad_keep (s : State) : ∃ t, execKeyLoad s = .next t ∧ t.keep = s.keep := by
  (unfold execKeyLoad; refine interpret_keep _ _ _ ?_; intro p s; dsimp only; (repeat' split) <;> (first | (simp (disch := (intros; first | (simp only [keep_mk, keep_fold, apply_ite State.keep, ite_self, next_keep, whenS_keep, forEach_keep, ifSome_keep, foldl_keep, interpret_keep, fail_keep, badParam_keep, unwrapFail_keep, complete_keep, putKey_keep, drawKey_keep]; done) | grind [keep_mk, keep_fold, whenS_keep, forEach_keep, ifSome_keep, foldl_keep, interpret_keep, fail_keep, badParam_keep, unwrapFail_keep, complete_keep, putKey_keep, drawKey_keep])) only [keep_mk, keep_fold, apply_ite State.keep, ite_self, next_keep, whenS_keep, forEach_keep, ifSome_keep, foldl_keep, interpret_keep, fail_keep, badParam_keep, unwrapFail_keep, complete_keep, putKey_keep, drawKey_keep]; done) | grind [keep_mk, keep_fold, whenS_keep, forEach_keep, ifSome_keep, foldl_keep, interpret_keep, fail_keep, badParam_keep, unwrapFail_keep, complete_keep, putKey_keep, drawKey_keep] | (refine checked_keep _ _ _ _ _ ?_; intro s; first | (simp only [keep_mk, keep_fold, apply_ite State.keep, ite_self, next_keep, whenS_keep, forEach_keep, ifSome_keep, foldl_keep, interpret_keep, fail_keep, badParam_keep, unwrapFail_keep, complete_keep, putKey_keep, drawKey_keep]; done) | grind [keep_mk, keep_fold, whenS_keep, forEach_keep, ifSome_keep, foldl_keep, interpret_keep, fail_keep, badParam_keep, unwrapFail_keep, complete_keep, putKey_keep, drawKey_keep])))

theorem failKeyWork_keep (a1) (a2) (s : State) : (failKeyWork a1 a2 s).keep = s.keep := by
  (unfold failKeyWork; grind [keep_mk, keep_fold, whenS_keep, forEach_keep, ifSome_keep, foldl_keep, failEntry_keep])

theorem eraseSlot_keep (a1) (a2) (s : State) : (eraseSlot a1 a2 s).keep = s.keep := by
  (unfold eraseSlot; simp only [keep_mk, keep_fold, apply_ite State.keep, ite_self, next_keep, whenS_keep, forEach_keep, ifSome_keep, foldl_keep, bumpSlot_keep, modCry_keep, charter_keep, failKeyWork_keep, endCommands_keep, keyRecord_keep]; done)

theorem execKeyErase_keep (s : State) : ∃ t, execKeyErase s = .next t ∧ t.keep = s.keep := by
  (unfold execKeyErase; refine interpret_keep _ _ _ ?_; intro p s; refine checked_keep _ _ _ _ _ ?_; intro s; dsimp only; (repeat' split) <;> (first | (simp (disch := (intros; first | (simp only [keep_mk, keep_fold, apply_ite State.keep, ite_self, next_keep, whenS_keep, forEach_keep, ifSome_keep, foldl_keep, interpret_keep, checked_keep, fail_keep, complete_keep, ok_keep, eraseSlot_keep]; done) | grind [keep_mk, keep_fold, whenS_keep, forEach_keep, ifSome_keep, foldl_keep, interpret_keep, checked_keep, fail_keep, complete_keep, ok_keep, eraseSlot_keep])) only [keep_mk, keep_fold, apply_ite State.keep, ite_self, next_keep, whenS_keep, forEach_keep, ifSome_keep, foldl_keep, interpret_keep, checked_keep, fail_keep, complete_keep, ok_keep, eraseSlot_keep]; done) | grind [keep_mk, keep_fold, whenS_keep, forEach_keep, ifSome_keep, foldl_keep, interpret_keep, checked_keep, fail_keep, complete_keep, ok_keep, eraseSlot_keep]))

theorem execKeyKekSet_keep (s : State) : ∃ t, execKeyKekSet s = .next t ∧ t.keep = s.keep := by
  (unfold execKeyKekSet; refine interpret_keep _ _ _ ?_; intro p s; dsimp only; (repeat' split) <;> (first | (simp (disch := (intros; first | (simp only [keep_mk, keep_fold, apply_ite State.keep, ite_self, next_keep, whenS_keep, forEach_keep, ifSome_keep, foldl_keep, interpret_keep, logEvent_keep, fail_keep, badParam_keep, unwrapFail_keep, ok_keep, setKeks_keep]; done) | grind [keep_mk, keep_fold, whenS_keep, forEach_keep, ifSome_keep, foldl_keep, interpret_keep, logEvent_keep, fail_keep, badParam_keep, unwrapFail_keep, ok_keep, setKeks_keep])) only [keep_mk, keep_fold, apply_ite State.keep, ite_self, next_keep, whenS_keep, forEach_keep, ifSome_keep, foldl_keep, interpret_keep, logEvent_keep, fail_keep, badParam_keep, unwrapFail_keep, ok_keep, setKeks_keep]; done) | grind [keep_mk, keep_fold, whenS_keep, forEach_keep, ifSome_keep, foldl_keep, interpret_keep, logEvent_keep, fail_keep, badParam_keep, unwrapFail_keep, ok_keep, setKeks_keep] | (refine checked_keep _ _ _ _ _ ?_; intro s; first | (simp only [keep_mk, keep_fold, apply_ite State.keep, ite_self, next_keep, whenS_keep, forEach_keep, ifSome_keep, foldl_keep, interpret_keep, logEvent_keep, fail_keep, badParam_keep, unwrapFail_keep, ok_keep, setKeks_keep]; done) | grind [keep_mk, keep_fold, whenS_keep, forEach_keep, ifSome_keep, foldl_keep, interpret_keep, logEvent_keep, fail_keep, badParam_keep, unwrapFail_keep, ok_keep, setKeks_keep])))

theorem execCrySaAdd_keep (s : State) : ∃ t, execCrySaAdd s = .next t ∧ t.keep = s.keep := by
  (unfold execCrySaAdd; refine interpret_keep _ _ _ ?_; intro p s; refine checked_keep _ _ _ _ _ ?_; intro s; simp only [keep_mk, keep_fold, apply_ite State.keep, ite_self, next_keep, whenS_keep, forEach_keep, ifSome_keep, foldl_keep, interpret_keep, checked_keep, fail_keep, badParam_keep, modCry_keep, ok_keep, modSa_keep]; done)

theorem execCrySaDel_keep (s : State) : ∃ t, execCrySaDel s = .next t ∧ t.keep = s.keep := by
  (unfold execCrySaDel; refine interpret_keep _ _ _ ?_; intro p s; refine checked_keep _ _ _ _ _ ?_; intro s; simp only [keep_mk, keep_fold, apply_ite State.keep, ite_self, next_keep, whenS_keep, forEach_keep, ifSome_keep, foldl_keep, interpret_keep, checked_keep, fail_keep, finishSaDel_keep, waitFor_keep, modSa_keep]; done)

theorem chunkFault_keep (a1) (a2) (a3) (a4) (a5) (a6) (s : State) : (chunkFault a1 a2 a3 a4 a5 a6 s).keep = s.keep := by
  (unfold chunkFault; simp only [keep_mk, keep_fold, apply_ite State.keep, ite_self, next_keep, whenS_keep, forEach_keep, ifSome_keep, foldl_keep, logLimited_keep]; done)

theorem modScrub_keep (a1) (a2) (s : State) : (modScrub a1 a2 s).keep = s.keep := by
  (unfold modScrub; simp only [keep_mk, keep_fold, apply_ite State.keep, ite_self, next_keep, whenS_keep, forEach_keep, ifSome_keep, foldl_keep, modSto_keep]; done)

theorem endScrub_keep (a1) (a2) (s : State) : (endScrub a1 a2 s).keep = s.keep := by
  (unfold endScrub; simp only [keep_mk, keep_fold, apply_ite State.keep, ite_self, next_keep, whenS_keep, forEach_keep, ifSome_keep, foldl_keep, logEvent_keep, modScrub_keep]; done)

theorem endScrubs_keep (a1) (a2) (s : State) : (endScrubs a1 a2 s).keep = s.keep := by
  (unfold endScrubs; grind [keep_mk, keep_fold, whenS_keep, forEach_keep, ifSome_keep, foldl_keep, endScrub_keep])

theorem modDrive_keep (a1) (a2) (s : State) : (modDrive a1 a2 s).keep = s.keep := by
  (unfold modDrive; simp only [keep_mk, keep_fold, apply_ite State.keep, ite_self, next_keep, whenS_keep, forEach_keep, ifSome_keep, foldl_keep, modSto_keep]; done)

theorem failDrive_keep (a1) (a2) (s : State) : (failDrive a1 a2 s).keep = s.keep := by
  (unfold failDrive; grind [keep_mk, keep_fold, whenS_keep, forEach_keep, ifSome_keep, foldl_keep, modDrive_keep, logEvent_keep, respond_keep, endScrubs_keep])

theorem putAll_keep (a1) (s : State) : (putAll a1 s).2.keep = s.keep := by
  (fun_induction putAll <;> grind [keep_mk, keep_fold, whenS_keep, forEach_keep, ifSome_keep, foldl_keep, dmaPut_keep])

theorem putAll_keep2 (a1) (s : State) : ∀ y0 t, (putAll a1 s) = (y0, t) → t.keep = s.keep := by
  intro y0 t h; have := putAll_keep a1 s; rw [h] at this; exact this

theorem driveIssue_keep (a1) (a2) (a3) (a4) (s : State) : (driveIssue a1 a2 a3 a4 s).keep = s.keep := by
  (unfold driveIssue; grind [keep_mk, keep_fold, whenS_keep, forEach_keep, ifSome_keep, foldl_keep, putAll_keep, modDrive_keep, failDrive_keep])

theorem execDriveSubmit_keep (a1) (s : State) : ∃ t, execDriveSubmit a1 s = .next t ∧ t.keep = s.keep := by
  (unfold execDriveSubmit; grind [keep_mk, keep_fold, whenS_keep, forEach_keep, ifSome_keep, foldl_keep, driveIssue_keep])

theorem partDone_keep (a1) (a2) (a3) (a4) (a5) (s : State) : (partDone a1 a2 a3 a4 a5 s).keep = s.keep := by
  (unfold partDone; grind [keep_mk, keep_fold, whenS_keep, forEach_keep, ifSome_keep, foldl_keep, modCmd_keep, respond_keep, sendReadData_keep])

theorem putRange_keep (a1) (a2) (a3) (s : State) : (putRange a1 a2 a3 s).keep = s.keep := by
  (unfold putRange; simp only [keep_mk, keep_fold, apply_ite State.keep, ite_self, next_keep, whenS_keep, forEach_keep, ifSome_keep, foldl_keep, partDone_keep, modCmd_keep]; done)

theorem readDone_keep (a1) (a2) (a3) (s : State) : (readDone a1 a2 a3 s).keep = s.keep := by
  (unfold readDone; grind [keep_mk, keep_fold, whenS_keep, forEach_keep, ifSome_keep, foldl_keep, dmaGet_keep, partDone_keep, putRange_keep, chunkFault_keep])

theorem chargeDev_keep (a1) (a2) (s : State) : (chargeDev a1 a2 s).keep = s.keep := by
  (unfold chargeDev; simp only [keep_mk, keep_fold, apply_ite State.keep, ite_self, next_keep, whenS_keep, forEach_keep, ifSome_keep, foldl_keep, modPoint_keep]; done)

theorem scrubRead_keep (a1) (a2) (a3) (a4) (a5) (s : State) : (scrubRead a1 a2 a3 a4 a5 s).keep = s.keep := by
  (unfold scrubRead; grind [keep_mk, keep_fold, whenS_keep, forEach_keep, ifSome_keep, foldl_keep, dmaGet_keep, chargeDev_keep, chunkFault_keep, dmaPut_keep, modDrive_keep, modScrub_keep, endScrub_keep])

theorem cqeTaken_keep (a1) (a2) (a3) (a4) (a5) (a6) (a7) (a8) (s : State) : (cqeTaken a1 a2 a3 a4 a5 a6 a7 a8 s).keep = s.keep := by
  (unfold cqeTaken; grind [keep_mk, keep_fold, whenS_keep, forEach_keep, ifSome_keep, foldl_keep, partDone_keep, dmaGet_keep, failDrive_keep, scrubRead_keep, readDone_keep, dmaPut_keep])

theorem takeCqes_keep (a1) (a2) (a3) (a4) (a5) (a6) (s : State) : (takeCqes a1 a2 a3 a4 a5 a6 s).2.keep = s.keep := by
  (fun_induction takeCqes <;> grind [keep_mk, keep_fold, whenS_keep, forEach_keep, ifSome_keep, foldl_keep, modDrive_keep, cqeTaken_keep])

theorem takeCqes_keep2 (a1) (a2) (a3) (a4) (a5) (a6) (s : State) : ∀ y0 t, (takeCqes a1 a2 a3 a4 a5 a6 s) = (y0, t) → t.keep = s.keep := by
  intro y0 t h; have := takeCqes_keep a1 a2 a3 a4 a5 a6 s; rw [h] at this; exact this

theorem execDriveCqPoll_keep (a1) (a2) (a3) (a4) (s : State) : ∃ t, execDriveCqPoll a1 a2 a3 a4 s = .next t ∧ t.keep = s.keep := by
  (unfold execDriveCqPoll; (repeat' split) <;> (first | (simp (disch := (intros; first | (simp only [keep_mk, keep_fold, apply_ite State.keep, ite_self, next_keep, whenS_keep, forEach_keep, ifSome_keep, foldl_keep, dmaGet_keep, failDrive_keep, takeCqes_keep, dmaPut_keep]; done) | grind [keep_mk, keep_fold, whenS_keep, forEach_keep, ifSome_keep, foldl_keep, dmaGet_keep, failDrive_keep, takeCqes_keep, dmaPut_keep])) only [keep_mk, keep_fold, apply_ite State.keep, ite_self, next_keep, whenS_keep, forEach_keep, ifSome_keep, foldl_keep, dmaGet_keep, failDrive_keep, takeCqes_keep, dmaPut_keep]; done) | grind [keep_mk, keep_fold, whenS_keep, forEach_keep, ifSome_keep, foldl_keep, dmaGet_keep, failDrive_keep, takeCqes_keep, dmaPut_keep]))

theorem execDriveTimeout_keep (a1) (a2) (s : State) : ∃ t, execDriveTimeout a1 a2 s = .next t ∧ t.keep = s.keep := by
  (unfold execDriveTimeout; grind [keep_mk, keep_fold, whenS_keep, forEach_keep, ifSome_keep, foldl_keep, modDrive_keep, logEvent_keep, partDone_keep, failDrive_keep])

theorem toBackend_keep (a1) (a2) (s : State) : (toBackend a1 a2 s).keep = s.keep := by
  (unfold toBackend; grind [keep_mk, keep_fold, whenS_keep, forEach_keep, ifSome_keep, foldl_keep, respond_keep, post_keep, modCmd_keep, modDrive_keep])

theorem askData_keep (a1) (a2) (a3) (s : State) : (askData a1 a2 a3 s).keep = s.keep := by
  (fun_induction askData <;> grind [keep_mk, keep_fold, whenS_keep, forEach_keep, ifSome_keep, foldl_keep, roceRead_keep, modCmd_keep, connSend_keep])

theorem gather_keep (a1) (a2) (s : State) : (gather a1 a2 s).keep = s.keep := by
  (unfold gather; grind [keep_mk, keep_fold, whenS_keep, forEach_keep, ifSome_keep, foldl_keep, toBackend_keep, askData_keep])

theorem takeData_keep (a1) (a2) (a3) (a4) (a5) (s : State) : (takeData a1 a2 a3 a4 a5 s).keep = s.keep := by
  (unfold takeData; simp only [keep_mk, keep_fold, apply_ite State.keep, ite_self, next_keep, whenS_keep, forEach_keep, ifSome_keep, foldl_keep, gather_keep, modCmd_keep]; done)

theorem capsule_keep (a1) (a2) (s : State) : (capsule a1 a2 s).keep = s.keep := by
  (unfold capsule; grind [keep_mk, keep_fold, whenS_keep, forEach_keep, ifSome_keep, foldl_keep, pduFatal_keep, freeNat_keep, answer_keep, gather_keep, modConn_keep])

theorem stoFinish_keep (a1) (a2) (a3) (a4) (a5) (a6) (a7) (s : State) : (stoFinish a1 a2 a3 a4 a5 a6 a7 s).keep = s.keep := by
  (unfold stoFinish; grind [keep_mk, keep_fold, whenS_keep, forEach_keep, ifSome_keep, foldl_keep, finishEntry_keep])

theorem stoRun_keep (a1) (a2) (s : State) : (stoRun a1 a2 s).keep = s.keep := by
  (unfold stoRun; grind [keep_mk, keep_fold, whenS_keep, forEach_keep, ifSome_keep, foldl_keep, stoFinish_keep, malformed_keep, flushPosts_keep, fetchBuffers_keep, enqueueAt_keep, readSegs_keep])

theorem attach_keep (a1) (a2) (a3) (a4) (s : State) : (attach a1 a2 a3 a4 s).keep = s.keep := by
  (unfold attach; grind [keep_mk, keep_fold, whenS_keep, forEach_keep, ifSome_keep, foldl_keep, stoFinish_keep, freeNat_keep, modSto_keep])

theorem detachStart_keep (a1) (a2) (a3) (a4) (s : State) : (detachStart a1 a2 a3 a4 s).keep = s.keep := by
  (unfold detachStart; simp only [keep_mk, keep_fold, apply_ite State.keep, ite_self, next_keep, whenS_keep, forEach_keep, ifSome_keep, foldl_keep, stoFinish_keep, modConn_keep]; done)

theorem execDetachAcked_keep (a1) (s : State) : ∃ t, execDetachAcked a1 s = .next t ∧ t.keep = s.keep := by
  (unfold execDetachAcked; grind [keep_mk, keep_fold, whenS_keep, forEach_keep, ifSome_keep, foldl_keep, connRemove_keep, modConn_keep, dmaPut_keep, stoFinish_keep])

theorem execDetachTimeout_keep (a1) (s : State) : ∃ t, execDetachTimeout a1 s = .next t ∧ t.keep = s.keep := by
  (unfold execDetachTimeout; grind [keep_mk, keep_fold, whenS_keep, forEach_keep, ifSome_keep, foldl_keep, tcpRst_keep, stoFinish_keep, connRemove_keep, modConn_keep])

theorem rekey_keep (a1) (a2) (a3) (a4) (a5) (s : State) : (rekey a1 a2 a3 a4 a5 s).keep = s.keep := by
  (unfold rekey; grind [keep_mk, keep_fold, whenS_keep, forEach_keep, ifSome_keep, foldl_keep, malformed_keep, stoFinish_keep, connTake_keep, modConn_keep, tlsSeal_keep, tcpGo_keep, softNote_keep, tlsFlush_keep])

theorem tgtResp_keep (a1) (a2) (a3) (a4) (s : State) : (tgtResp a1 a2 a3 a4 s).keep = s.keep := by
  (unfold tgtResp; grind [keep_mk, keep_fold, whenS_keep, forEach_keep, ifSome_keep, foldl_keep, modSto_keep, stoFinish_keep, sendReadData_keep, respond_keep])

end Sys2Proof.Machine
end

