-- ==== Sys2Proof/Laws/Keep4.lean ====
section
/-!
SUPPORT. Sys2Proof/Laws/Keep4.lean: part 4 of 8 of the frame lemmas, one for each function on states: it leaves the queue, the microseconds, the OTP and the label locks alone.
-/
namespace Sys2Proof.Machine
open Sys2Proof
set_option linter.all false
set_option maxRecDepth 4000

theorem iniCmd_keep (a1) (a2) (a3) (a4) (a5) (s : State) : (iniCmd a1 a2 a3 a4 a5 s).keep = s.keep := by
  (unfold iniCmd; grind [keep_mk, keep_fold, whenS_keep, forEach_keep, ifSome_keep, foldl_keep, stoFinish_keep, malformed_keep, modConn_keep, connSend_keep])

theorem stoEntry_keep (a1) (a2) (s : State) : (stoEntry a1 a2 s).keep = s.keep := by
  (unfold stoEntry; grind [keep_mk, keep_fold, whenS_keep, forEach_keep, ifSome_keep, foldl_keep, stoFinish_keep, attach_keep, tgtResp_keep, detachStart_keep, rekey_keep, iniCmd_keep])

theorem execEntryConnAttach_keep (a1) (a2) (a3) (s : State) : ∃ t, execEntryConnAttach a1 a2 a3 s = .next t ∧ t.keep = s.keep := by
  (unfold execEntryConnAttach; grind [keep_mk, keep_fold, whenS_keep, forEach_keep, ifSome_keep, foldl_keep, arrive_keep, stoRun_keep])

theorem execEntryConnDetach_keep (a1) (a2) (a3) (s : State) : ∃ t, execEntryConnDetach a1 a2 a3 s = .next t ∧ t.keep = s.keep := by
  (unfold execEntryConnDetach; grind [keep_mk, keep_fold, whenS_keep, forEach_keep, ifSome_keep, foldl_keep, arrive_keep, stoRun_keep])

theorem execEntryConnRekey_keep (a1) (a2) (a3) (s : State) : ∃ t, execEntryConnRekey a1 a2 a3 s = .next t ∧ t.keep = s.keep := by
  (unfold execEntryConnRekey; grind [keep_mk, keep_fold, whenS_keep, forEach_keep, ifSome_keep, foldl_keep, arrive_keep, stoRun_keep])

theorem execEntryStoPost_keep (a1) (a2) (a3) (s : State) : ∃ t, execEntryStoPost a1 a2 a3 s = .next t ∧ t.keep = s.keep := by
  (unfold execEntryStoPost; grind [keep_mk, keep_fold, whenS_keep, forEach_keep, ifSome_keep, foldl_keep, arrive_keep, stoRun_keep])

theorem execEntryTgtResp_keep (a1) (a2) (a3) (s : State) : ∃ t, execEntryTgtResp a1 a2 a3 s = .next t ∧ t.keep = s.keep := by
  (unfold execEntryTgtResp; grind [keep_mk, keep_fold, whenS_keep, forEach_keep, ifSome_keep, foldl_keep, arrive_keep, stoRun_keep])

theorem execEntryIniCmd_keep (a1) (a2) (a3) (s : State) : ∃ t, execEntryIniCmd a1 a2 a3 s = .next t ∧ t.keep = s.keep := by
  (unfold execEntryIniCmd; grind [keep_mk, keep_fold, whenS_keep, forEach_keep, ifSome_keep, foldl_keep, arrive_keep, stoRun_keep])

theorem takeFrame_keep (a1) (a2) (a3) (s : State) (h3 : ∀ x0 x1 x2 s, (a3 x0 x1 x2 s).keep = s.keep) : (takeFrame a1 a2 a3 s).keep = s.keep := by
  (unfold takeFrame; grind [keep_mk, keep_fold, whenS_keep, forEach_keep, ifSome_keep, foldl_keep, cadRelease_keep, outOfUnit_keep])

theorem execTcpSegmentReceived_keep (a1) (s : State) : ∃ t, execTcpSegmentReceived a1 s = .next t ∧ t.keep = s.keep := by
  (unfold execTcpSegmentReceived; grind [keep_mk, keep_fold, whenS_keep, forEach_keep, ifSome_keep, foldl_keep, takeFrame_keep, tcpReceive_keep])

theorem execRetransmissionTimeout_keep (a1) (s : State) : ∃ t, execRetransmissionTimeout a1 s = .next t ∧ t.keep = s.keep := by
  (unfold execRetransmissionTimeout; grind [keep_mk, keep_fold, whenS_keep, forEach_keep, ifSome_keep, foldl_keep, connReset_keep, tcpResend_keep, modConn_keep])

theorem takePdu_keep (a1) (a2) (a3) (s : State) (h3 : ∀ x0 x1 s, (a3 x0 x1 s).keep = s.keep) : (takePdu a1 a2 a3 s).keep = s.keep := by
  (unfold takePdu; grind [keep_mk, keep_fold, whenS_keep, forEach_keep, ifSome_keep, foldl_keep, modConn_keep])

theorem digestSeen_keep (a1) (a2) (s : State) : (digestSeen a1 a2 s).keep = s.keep := by
  (unfold digestSeen; simp only [keep_mk, keep_fold, apply_ite State.keep, ite_self, next_keep, whenS_keep, forEach_keep, ifSome_keep, foldl_keep, modConn_keep]; done)

theorem execCapsuleCmd_keep (a1) (s : State) : ∃ t, execCapsuleCmd a1 s = .next t ∧ t.keep = s.keep := by
  (unfold execCapsuleCmd; grind [keep_mk, keep_fold, whenS_keep, forEach_keep, ifSome_keep, foldl_keep, takePdu_keep, capsule_keep, digestSeen_keep])

theorem execH2cData_keep (a1) (s : State) : ∃ t, execH2cData a1 s = .next t ∧ t.keep = s.keep := by
  (unfold execH2cData; grind [keep_mk, keep_fold, whenS_keep, forEach_keep, ifSome_keep, foldl_keep, takePdu_keep, pduFatal_keep, modCmd_keep, digestSeen_keep, takeData_keep])

theorem iniDone_keep (a1) (a2) (a3) (a4) (a5) (s : State) : (iniDone a1 a2 a3 a4 a5 s).keep = s.keep := by
  (unfold iniDone; grind [keep_mk, keep_fold, whenS_keep, forEach_keep, ifSome_keep, foldl_keep, modConn_keep, stoFinish_keep])

theorem execC2hData_keep (a1) (s : State) : ∃ t, execC2hData a1 s = .next t ∧ t.keep = s.keep := by
  (unfold execC2hData; grind [keep_mk, keep_fold, whenS_keep, forEach_keep, ifSome_keep, foldl_keep, takePdu_keep, pduFatal_keep, dmaPut_keep, digestSeen_keep, modCmd_keep, iniDone_keep])

theorem execCapsuleResp_keep (a1) (s : State) : ∃ t, execCapsuleResp a1 s = .next t ∧ t.keep = s.keep := by
  (unfold execCapsuleResp; grind [keep_mk, keep_fold, whenS_keep, forEach_keep, ifSome_keep, foldl_keep, takePdu_keep, pduFatal_keep, iniDone_keep])

theorem execTermReq_keep (a1) (s : State) : ∃ t, execTermReq a1 s = .next t ∧ t.keep = s.keep := by
  (unfold execTermReq; grind [keep_mk, keep_fold, whenS_keep, forEach_keep, ifSome_keep, foldl_keep, takePdu_keep, connClose_keep])

theorem roceRetry_keep (a1) (a2) (a3) (s : State) : (roceRetry a1 a2 a3 s).keep = s.keep := by
  (unfold roceRetry; grind [keep_mk, keep_fold, whenS_keep, forEach_keep, ifSome_keep, foldl_keep, connClose_keep, roceResend_keep, modConn_keep])

theorem roceMarked_keep (a1) (a2) (a3) (s : State) : (roceMarked a1 a2 a3 s).keep = s.keep := by
  (unfold roceMarked; simp only [keep_mk, keep_fold, apply_ite State.keep, ite_self, next_keep, whenS_keep, forEach_keep, ifSome_keep, foldl_keep, rocePlain_keep, modConn_keep]; done)

theorem roceSendIn_keep (a1) (a2) (a3) (a4) (a5) (a6) (s : State) : (roceSendIn a1 a2 a3 a4 a5 a6 s).keep = s.keep := by
  (unfold roceSendIn; simp only [keep_mk, keep_fold, apply_ite State.keep, ite_self, next_keep, whenS_keep, forEach_keep, ifSome_keep, foldl_keep, roceAck_keep, modConn_keep]; done)

theorem roceReadIn_keep (a1) (a2) (a3) (a4) (s : State) : (roceReadIn a1 a2 a3 a4 s).keep = s.keep := by
  (unfold roceReadIn; grind [keep_mk, keep_fold, whenS_keep, forEach_keep, ifSome_keep, foldl_keep, modConn_keep, takeData_keep, roceAcked_keep])

theorem roceAckIn_keep (a1) (a2) (a3) (s : State) : (roceAckIn a1 a2 a3 s).keep = s.keep := by
  (unfold roceAckIn; grind [keep_mk, keep_fold, whenS_keep, forEach_keep, ifSome_keep, foldl_keep, roceAcked_keep, roceRetry_keep, connClose_keep])

theorem roceReceive_keep (a1) (a2) (a3) (s : State) : (roceReceive a1 a2 a3 s).keep = s.keep := by
  (unfold roceReceive; grind [keep_mk, keep_fold, whenS_keep, forEach_keep, ifSome_keep, foldl_keep, roceMarked_keep, roceSendIn_keep, roceReadIn_keep, roceAckIn_keep])

theorem execRocePacketReceived_keep (a1) (s : State) : ∃ t, execRocePacketReceived a1 s = .next t ∧ t.keep = s.keep := by
  (unfold execRocePacketReceived; grind [keep_mk, keep_fold, whenS_keep, forEach_keep, ifSome_keep, foldl_keep, takeFrame_keep, roceReceive_keep])

theorem execCnpReceived_keep (a1) (s : State) : ∃ t, execCnpReceived a1 s = .next t ∧ t.keep = s.keep := by
  (unfold execCnpReceived; grind [keep_mk, keep_fold, whenS_keep, forEach_keep, ifSome_keep, foldl_keep, takeFrame_keep, modConn_keep])

theorem execRoceRateRecovery_keep (a1) (s : State) : ∃ t, execRoceRateRecovery a1 s = .next t ∧ t.keep = s.keep := by
  (unfold execRoceRateRecovery; simp only [keep_mk, keep_fold, apply_ite State.keep, ite_self, next_keep, whenS_keep, forEach_keep, ifSome_keep, foldl_keep, modConn_keep]; done)

theorem execRoceAckTimeout_keep (a1) (s : State) : ∃ t, execRoceAckTimeout a1 s = .next t ∧ t.keep = s.keep := by
  (unfold execRoceAckTimeout; grind [keep_mk, keep_fold, whenS_keep, forEach_keep, ifSome_keep, foldl_keep, roceRetry_keep])

theorem modPlt_keep (a1) (s : State) : (modPlt a1 s).keep = s.keep := by
  (unfold modPlt; simp only [keep_mk, keep_fold, apply_ite State.keep, ite_self, next_keep, whenS_keep, forEach_keep, ifSome_keep, foldl_keep]; done)

theorem modWatch_keep (a1) (a2) (s : State) : (modWatch a1 a2 s).keep = s.keep := by
  (unfold modWatch; simp only [keep_mk, keep_fold, apply_ite State.keep, ite_self, next_keep, whenS_keep, forEach_keep, ifSome_keep, foldl_keep, modPlt_keep]; done)

theorem alertBits_keep (a1) (s : State) : (alertBits a1 s).keep = s.keep := by
  (unfold alertBits; simp only [keep_mk, keep_fold, apply_ite State.keep, ite_self, next_keep, whenS_keep, forEach_keep, ifSome_keep, foldl_keep, modPlt_keep]; done)

theorem setStop_keep (a1) (a2) (a3) (s : State) : (setStop a1 a2 a3 s).keep = s.keep := by
  (unfold setStop; simp only [keep_mk, keep_fold, apply_ite State.keep, ite_self, next_keep, whenS_keep, forEach_keep, ifSome_keep, foldl_keep, alertBits_keep, logEvent_keep]; done)

theorem releaseStop_keep (a1) (s : State) : (releaseStop a1 s).keep = s.keep := by
  (unfold releaseStop; simp only [keep_mk, keep_fold, apply_ite State.keep, ite_self, next_keep, whenS_keep, forEach_keep, ifSome_keep, foldl_keep, logEvent_keep]; done)

theorem trip_keep (a1) (a2) (a3) (s : State) : (trip a1 a2 a3 s).keep = s.keep := by
  (unfold trip; simp only [keep_mk, keep_fold, apply_ite State.keep, ite_self, next_keep, whenS_keep, forEach_keep, ifSome_keep, foldl_keep, modWatch_keep, alertBits_keep, routePost_keep, logEvent_keep, setStop_keep]; done)

theorem untrip_keep (a1) (s : State) : (untrip a1 s).keep = s.keep := by
  (unfold untrip; simp only [keep_mk, keep_fold, apply_ite State.keep, ite_self, next_keep, whenS_keep, forEach_keep, ifSome_keep, foldl_keep, logEvent_keep, modWatch_keep]; done)

theorem inspect_keep (a1) (a2) (s : State) : (inspect a1 a2 s).keep = s.keep := by
  (unfold inspect; simp only [keep_mk, keep_fold, apply_ite State.keep, ite_self, next_keep, whenS_keep, forEach_keep, ifSome_keep, foldl_keep, untrip_keep, modWatch_keep, trip_keep]; done)

theorem watchAll_keep (a1) (s : State) : (watchAll a1 s).keep = s.keep := by
  (unfold watchAll; grind [keep_mk, keep_fold, whenS_keep, forEach_keep, ifSome_keep, foldl_keep, inspect_keep, modWatch_keep, trip_keep])

theorem slewsAt_keep (a1) (s : State) : (slewsAt a1 s).keep = s.keep := by
  (unfold slewsAt; simp only [keep_mk, keep_fold, apply_ite State.keep, ite_self, next_keep, whenS_keep, forEach_keep, ifSome_keep, foldl_keep, modPlt_keep]; done)

theorem modSge_keep (a1) (s : State) : (modSge a1 s).keep = s.keep := by
  (unfold modSge; simp only [keep_mk, keep_fold, apply_ite State.keep, ite_self, next_keep, whenS_keep, forEach_keep, ifSome_keep, foldl_keep]; done)

theorem modSio_keep (a1) (s : State) : (modSio a1 s).keep = s.keep := by
  (unfold modSio; simp only [keep_mk, keep_fold, apply_ite State.keep, ite_self, next_keep, whenS_keep, forEach_keep, ifSome_keep, foldl_keep]; done)

theorem satRecord_keep (s : State) : (satRecord s).keep = s.keep := by
  (unfold satRecord; simp only [keep_mk, keep_fold, apply_ite State.keep, ite_self, next_keep, whenS_keep, forEach_keep, ifSome_keep, foldl_keep, logLimited_keep]; done)

theorem setAcc_keep (a1) (a2) (s : State) : (setAcc a1 a2 s).keep = s.keep := by
  (unfold setAcc; simp only [keep_mk, keep_fold, apply_ite State.keep, ite_self, next_keep, whenS_keep, forEach_keep, ifSome_keep, foldl_keep, modSge_keep, satRecord_keep]; done)

theorem convAcc_keep (a1) (s : State) : (convAcc a1 s).2.2.keep = s.keep := by
  (unfold convAcc; simp only [keep_mk, keep_fold, apply_ite State.keep, ite_self, next_keep, whenS_keep, forEach_keep, ifSome_keep, foldl_keep, satRecord_keep, modSge_keep]; done)

theorem convAcc_keep2 (a1) (s : State) : ∀ y0 y1 t, (convAcc a1 s) = (y0, y1, t) → t.keep = s.keep := by
  intro y0 y1 t h; have := convAcc_keep a1 s; rw [h] at this; exact this

theorem writeLine_keep (a1) (a2) (s : State) : (writeLine a1 a2 s).keep = s.keep := by
  (unfold writeLine; grind [keep_mk, keep_fold, whenS_keep, forEach_keep, ifSome_keep, foldl_keep, modSge_keep])

theorem macRun_keep (a1) (a2) (a3) (s : State) : (macRun a1 a2 a3 s).keep = s.keep := by
  (fun_induction macRun <;> grind [keep_mk, keep_fold, whenS_keep, forEach_keep, ifSome_keep, foldl_keep, setAcc_keep])

theorem sgeDo_keep (a1) (s : State) : (sgeDo a1 s).keep = s.keep := by
  (unfold sgeDo; grind [keep_mk, keep_fold, whenS_keep, forEach_keep, ifSome_keep, foldl_keep, setAcc_keep, convAcc_keep, writeLine_keep, macRun_keep, modSge_keep])

theorem issueNext_keep (s : State) : (issueNext s).keep = s.keep := by
  (unfold issueNext; grind [keep_mk, keep_fold, whenS_keep, forEach_keep, ifSome_keep, foldl_keep, modSge_keep, sgeDo_keep])

theorem finishSteep_keep (a1) (s : State) : (finishSteep a1 s).keep = s.keep := by
  (fun_induction finishSteep <;> grind [keep_mk, keep_fold, whenS_keep, forEach_keep, ifSome_keep, foldl_keep, issueNext_keep])

theorem adcNote_keep (a1) (s : State) : (adcNote a1 s).keep = s.keep := by
  (unfold adcNote; simp only [keep_mk, keep_fold, apply_ite State.keep, ite_self, next_keep, whenS_keep, forEach_keep, ifSome_keep, foldl_keep, logEvent_keep]; done)

theorem latchInputs_keep (s : State) : (latchInputs s).keep = s.keep := by
  (unfold latchInputs; simp only [keep_mk, keep_fold, apply_ite State.keep, ite_self, next_keep, whenS_keep, forEach_keep, ifSome_keep, foldl_keep, modSio_keep]; done)

theorem publishSlots_keep (a1) (s : State) : (publishSlots a1 s).keep = s.keep := by
  (unfold publishSlots; grind [keep_mk, keep_fold, whenS_keep, forEach_keep, ifSome_keep, foldl_keep, modSio_keep, modSge_keep])

theorem publishOuts_keep (s : State) : (publishOuts s).keep = s.keep := by
  (unfold publishOuts; grind [keep_mk, keep_fold, whenS_keep, forEach_keep, ifSome_keep, foldl_keep, modSio_keep, modSge_keep])

theorem takeStaged_keep (a1) (s : State) : (takeStaged a1 s).keep = s.keep := by
  (unfold takeStaged; grind [keep_mk, keep_fold, whenS_keep, forEach_keep, ifSome_keep, foldl_keep, modSge_keep, logEvent_keep])

theorem takeTick_keep (a1) (s : State) : (takeTick a1 s).keep = s.keep := by
  (unfold takeTick; simp only [keep_mk, keep_fold, apply_ite State.keep, ite_self, next_keep, whenS_keep, forEach_keep, ifSome_keep, foldl_keep, modSge_keep, adcNote_keep, logEvent_keep]; done)

theorem stopEngine_keep (a1) (a2) (s : State) : (stopEngine a1 a2 s).keep = s.keep := by
  (unfold stopEngine; simp only [keep_mk, keep_fold, apply_ite State.keep, ite_self, next_keep, whenS_keep, forEach_keep, ifSome_keep, foldl_keep, modSge_keep, routePost_keep, logEvent_keep]; done)

theorem boundaryWork_keep (a1) (a2) (s : State) : (boundaryWork a1 a2 s).keep = s.keep := by
  (unfold boundaryWork; grind [keep_mk, keep_fold, whenS_keep, forEach_keep, ifSome_keep, foldl_keep, takeStaged_keep, stopEngine_keep, takeTick_keep])

theorem sioUse_keep (s : State) : (sioUse s).keep = s.keep := by
  (unfold sioUse; simp only [keep_mk, keep_fold, apply_ite State.keep, ite_self, next_keep, whenS_keep, forEach_keep, ifSome_keep, foldl_keep, followUse_keep]; done)

theorem takePour_keep (a1) (s : State) : (takePour a1 s).keep = s.keep := by
  (unfold takePour; grind [keep_mk, keep_fold, whenS_keep, forEach_keep, ifSome_keep, foldl_keep, modSio_keep, sioUse_keep, adcNote_keep, routePost_keep, logEvent_keep])

theorem pltReplies_keep (a1) (s : State) : (pltReplies a1 s).keep = s.keep := by
  (unfold pltReplies; grind [keep_mk, keep_fold, whenS_keep, forEach_keep, ifSome_keep, foldl_keep, complete_keep])

theorem boundary_keep (a1) (s : State) : (boundary a1 s).keep = s.keep := by
  (unfold boundary; grind [keep_mk, keep_fold, whenS_keep, forEach_keep, ifSome_keep, foldl_keep, finishSteep_keep, publishSlots_keep, modSge_keep, publishOuts_keep, modSio_keep, boundaryWork_keep, latchInputs_keep, watchAll_keep, takePour_keep, slewsAt_keep, pltReplies_keep, finishWaits_keep])

theorem sourceRecord_keep (a1) (s : State) : (sourceRecord a1 s).keep = s.keep := by
  (unfold sourceRecord; simp only [keep_mk, keep_fold, apply_ite State.keep, ite_self, next_keep, whenS_keep, forEach_keep, ifSome_keep, foldl_keep, routePost_keep, logEvent_keep]; done)

theorem ownBoundary_keep (s : State) : (ownBoundary s).keep = s.keep := by
  (unfold ownBoundary; simp only [keep_mk, keep_fold, apply_ite State.keep, ite_self, next_keep, whenS_keep, forEach_keep, ifSome_keep, foldl_keep, boundary_keep, modSge_keep, sourceRecord_keep]; done)

theorem wardenPour_keep (a1) (s : State) : (wardenPour a1 s).keep = s.keep := by
  (unfold wardenPour; grind [keep_mk, keep_fold, whenS_keep, forEach_keep, ifSome_keep, foldl_keep, modSio_keep])

theorem pourWrite_keep (a1) (s : State) : (pourWrite a1 s).keep = s.keep := by
  (unfold pourWrite; simp only [keep_mk, keep_fold, apply_ite State.keep, ite_self, next_keep, whenS_keep, forEach_keep, ifSome_keep, foldl_keep, modSio_keep, wardenPour_keep]; done)

theorem endPour_keep (s : State) : (endPour s).keep = s.keep := by
  (unfold endPour; simp only [modSio_keep]; done)

theorem setPoint_keep (a1) (a2) (s : State) : (setPoint a1 a2 s).keep = s.keep := by
  (unfold setPoint; simp only [keep_mk, keep_fold, apply_ite State.keep, ite_self, next_keep, whenS_keep, forEach_keep, ifSome_keep, foldl_keep, modPlt_keep]; done)

theorem endSlew_keep (a1) (s : State) : (endSlew a1 s).keep = s.keep := by
  (unfold endSlew; grind [keep_mk, keep_fold, whenS_keep, forEach_keep, ifSome_keep, foldl_keep, setPoint_keep])

theorem commitLeg_keep (a1) (s : State) : (commitLeg a1 s).keep = s.keep := by
  (unfold commitLeg; grind [keep_mk, keep_fold, whenS_keep, forEach_keep, ifSome_keep, foldl_keep, setPoint_keep, modSio_keep, logEvent_keep, endSlew_keep, failWaits_keep])

theorem lateLegs_keep (s : State) : (lateLegs s).keep = s.keep := by
  (unfold lateLegs; grind [keep_mk, keep_fold, whenS_keep, forEach_keep, ifSome_keep, foldl_keep, commitLeg_keep])

theorem endSlews_keep (s : State) : (endSlews s).keep = s.keep := by
  (unfold endSlews; simp only [keep_mk, keep_fold, apply_ite State.keep, ite_self, next_keep, whenS_keep, forEach_keep, ifSome_keep, foldl_keep, modPlt_keep, failWaits_keep]; done)

theorem execTickBoundary_keep (s : State) : ∃ t, execTickBoundary s = .next t ∧ t.keep = s.keep := by
  (unfold execTickBoundary; simp only [keep_mk, keep_fold, apply_ite State.keep, ite_self, next_keep, whenS_keep, forEach_keep, ifSome_keep, foldl_keep, ownBoundary_keep]; done)

theorem strayEdge_keep (s : State) : (strayEdge s).keep = s.keep := by
  (unfold strayEdge; simp only [keep_mk, keep_fold, apply_ite State.keep, ite_self, next_keep, whenS_keep, forEach_keep, ifSome_keep, foldl_keep, modSge_keep]; done)

theorem execFrameSyncEdge_keep (a1) (s : State) : ∃ t, execFrameSyncEdge a1 s = .next t ∧ t.keep = s.keep := by
  (unfold execFrameSyncEdge; grind [keep_mk, keep_fold, whenS_keep, forEach_keep, ifSome_keep, foldl_keep, modSge_keep, boundary_keep, strayEdge_keep])

theorem execMissedFrame_keep (s : State) : ∃ t, execMissedFrame s = .next t ∧ t.keep = s.keep := by
  (unfold execMissedFrame; grind [keep_mk, keep_fold, whenS_keep, forEach_keep, ifSome_keep, foldl_keep, modSge_keep, sourceRecord_keep, boundary_keep])

theorem issueRow_keep (a1) (s : State) : ∃ t, issueRow a1 s = .next t ∧ t.keep = s.keep := by
  (unfold issueRow; simp only [keep_mk, keep_fold, apply_ite State.keep, ite_self, next_keep, whenS_keep, forEach_keep, ifSome_keep, foldl_keep, issueNext_keep]; done)

theorem execSgeNop_keep (s : State) : ∃ t, execSgeNop s = .next t ∧ t.keep = s.keep := by
  (unfold execSgeNop; simp only [keep_mk, keep_fold, apply_ite State.keep, ite_self, next_keep, whenS_keep, forEach_keep, ifSome_keep, foldl_keep, issueRow_keep]; done)

theorem execSgeClr_keep (s : State) : ∃ t, execSgeClr s = .next t ∧ t.keep = s.keep := by
  (unfold execSgeClr; simp only [keep_mk, keep_fold, apply_ite State.keep, ite_self, next_keep, whenS_keep, forEach_keep, ifSome_keep, foldl_keep, issueRow_keep]; done)

theorem execSgeMov_keep (s : State) : ∃ t, execSgeMov s = .next t ∧ t.keep = s.keep := by
  (unfold execSgeMov; simp only [keep_mk, keep_fold, apply_ite State.keep, ite_self, next_keep, whenS_keep, forEach_keep, ifSome_keep, foldl_keep, issueRow_keep]; done)

theorem execSgeAdd_keep (s : State) : ∃ t, execSgeAdd s = .next t ∧ t.keep = s.keep := by
  (unfold execSgeAdd; simp only [keep_mk, keep_fold, apply_ite State.keep, ite_self, next_keep, whenS_keep, forEach_keep, ifSome_keep, foldl_keep, issueRow_keep]; done)

theorem execSgeSub_keep (s : State) : ∃ t, execSgeSub s = .next t ∧ t.keep = s.keep := by
  (unfold execSgeSub; simp only [keep_mk, keep_fold, apply_ite State.keep, ite_self, next_keep, whenS_keep, forEach_keep, ifSome_keep, foldl_keep, issueRow_keep]; done)

theorem execSgeNeg_keep (s : State) : ∃ t, execSgeNeg s = .next t ∧ t.keep = s.keep := by
  (unfold execSgeNeg; simp only [keep_mk, keep_fold, apply_ite State.keep, ite_self, next_keep, whenS_keep, forEach_keep, ifSome_keep, foldl_keep, issueRow_keep]; done)

theorem execSgeAbs_keep (s : State) : ∃ t, execSgeAbs s = .next t ∧ t.keep = s.keep := by
  (unfold execSgeAbs; simp only [keep_mk, keep_fold, apply_ite State.keep, ite_self, next_keep, whenS_keep, forEach_keep, ifSome_keep, foldl_keep, issueRow_keep]; done)

theorem execSgeMin_keep (s : State) : ∃ t, execSgeMin s = .next t ∧ t.keep = s.keep := by
  (unfold execSgeMin; simp only [keep_mk, keep_fold, apply_ite State.keep, ite_self, next_keep, whenS_keep, forEach_keep, ifSome_keep, foldl_keep, issueRow_keep]; done)

theorem execSgeMax_keep (s : State) : ∃ t, execSgeMax s = .next t ∧ t.keep = s.keep := by
  (unfold execSgeMax; simp only [keep_mk, keep_fold, apply_ite State.keep, ite_self, next_keep, whenS_keep, forEach_keep, ifSome_keep, foldl_keep, issueRow_keep]; done)

theorem execSgeAsh_keep (s : State) : ∃ t, execSgeAsh s = .next t ∧ t.keep = s.keep := by
  (unfold execSgeAsh; simp only [keep_mk, keep_fold, apply_ite State.keep, ite_self, next_keep, whenS_keep, forEach_keep, ifSome_keep, foldl_keep, issueRow_keep]; done)

theorem execSgeCsel_keep (s : State) : ∃ t, execSgeCsel s = .next t ∧ t.keep = s.keep := by
  (unfold execSgeCsel; simp only [keep_mk, keep_fold, apply_ite State.keep, ite_self, next_keep, whenS_keep, forEach_keep, ifSome_keep, foldl_keep, issueRow_keep]; done)

theorem execSgeClamp_keep (s : State) : ∃ t, execSgeClamp s = .next t ∧ t.keep = s.keep := by
  (unfold execSgeClamp; simp only [keep_mk, keep_fold, apply_ite State.keep, ite_self, next_keep, whenS_keep, forEach_keep, ifSome_keep, foldl_keep, issueRow_keep]; done)

theorem execSgeLdi_keep (s : State) : ∃ t, execSgeLdi s = .next t ∧ t.keep = s.keep := by
  (unfold execSgeLdi; simp only [keep_mk, keep_fold, apply_ite State.keep, ite_self, next_keep, whenS_keep, forEach_keep, ifSome_keep, foldl_keep, issueRow_keep]; done)

theorem execSgeLdc_keep (s : State) : ∃ t, execSgeLdc s = .next t ∧ t.keep = s.keep := by
  (unfold execSgeLdc; simp only [keep_mk, keep_fold, apply_ite State.keep, ite_self, next_keep, whenS_keep, forEach_keep, ifSome_keep, foldl_keep, issueRow_keep]; done)

theorem execSgeRdd_keep (s : State) : ∃ t, execSgeRdd s = .next t ∧ t.keep = s.keep := by
  (unfold execSgeRdd; simp only [keep_mk, keep_fold, apply_ite State.keep, ite_self, next_keep, whenS_keep, forEach_keep, ifSome_keep, foldl_keep, issueRow_keep]; done)

theorem execSgeWrd_keep (s : State) : ∃ t, execSgeWrd s = .next t ∧ t.keep = s.keep := by
  (unfold execSgeWrd; simp only [keep_mk, keep_fold, apply_ite State.keep, ite_self, next_keep, whenS_keep, forEach_keep, ifSome_keep, foldl_keep, issueRow_keep]; done)

theorem execSgeMac_keep (s : State) : ∃ t, execSgeMac s = .next t ∧ t.keep = s.keep := by
  (unfold execSgeMac; simp only [keep_mk, keep_fold, apply_ite State.keep, ite_self, next_keep, whenS_keep, forEach_keep, ifSome_keep, foldl_keep, issueRow_keep]; done)

theorem execSgeMaca_keep (s : State) : ∃ t, execSgeMaca s = .next t ∧ t.keep = s.keep := by
  (unfold execSgeMaca; simp only [keep_mk, keep_fold, apply_ite State.keep, ite_self, next_keep, whenS_keep, forEach_keep, ifSome_keep, foldl_keep, issueRow_keep]; done)

theorem execSgeMula_keep (s : State) : ∃ t, execSgeMula s = .next t ∧ t.keep = s.keep := by
  (unfold execSgeMula; simp only [keep_mk, keep_fold, apply_ite State.keep, ite_self, next_keep, whenS_keep, forEach_keep, ifSome_keep, foldl_keep, issueRow_keep]; done)

theorem execSgeMulab_keep (s : State) : ∃ t, execSgeMulab s = .next t ∧ t.keep = s.keep := by
  (unfold execSgeMulab; simp only [keep_mk, keep_fold, apply_ite State.keep, ite_self, next_keep, whenS_keep, forEach_keep, ifSome_keep, foldl_keep, issueRow_keep]; done)

theorem execSgeIn_keep (s : State) : ∃ t, execSgeIn s = .next t ∧ t.keep = s.keep := by
  (unfold execSgeIn; simp only [keep_mk, keep_fold, apply_ite State.keep, ite_self, next_keep, whenS_keep, forEach_keep, ifSome_keep, foldl_keep, issueRow_keep]; done)

theorem execSgeOut_keep (s : State) : ∃ t, execSgeOut s = .next t ∧ t.keep = s.keep := by
  (unfold execSgeOut; simp only [keep_mk, keep_fold, apply_ite State.keep, ite_self, next_keep, whenS_keep, forEach_keep, ifSome_keep, foldl_keep, issueRow_keep]; done)

theorem execSgeRes_keep (s : State) : ∃ t, execSgeRes s = .next t ∧ t.keep = s.keep := by
  (unfold execSgeRes; simp only [keep_mk, keep_fold, apply_ite State.keep, ite_self, next_keep, whenS_keep, forEach_keep, ifSome_keep, foldl_keep, issueRow_keep]; done)

theorem execSgeRep_keep (s : State) : ∃ t, execSgeRep s = .next t ∧ t.keep = s.keep := by
  (unfold execSgeRep; simp only [keep_mk, keep_fold, apply_ite State.keep, ite_self, next_keep, whenS_keep, forEach_keep, ifSome_keep, foldl_keep, issueRow_keep]; done)

theorem wipeLines_keep (a1) (s : State) : (wipeLines a1 s).keep = s.keep := by
  (unfold wipeLines; simp only [keep_mk, keep_fold, apply_ite State.keep, ite_self, next_keep, whenS_keep, forEach_keep, ifSome_keep, foldl_keep, modSge_keep]; done)

theorem execSgeProgramLoad_keep (s : State) : ∃ t, execSgeProgramLoad s = .next t ∧ t.keep = s.keep := by
  (unfold execSgeProgramLoad; refine interpret_keep _ _ _ ?_; intro p s; dsimp only; (repeat' split) <;> (first | (simp (disch := (intros; first | (simp only [keep_mk, keep_fold, apply_ite State.keep, ite_self, next_keep, whenS_keep, forEach_keep, ifSome_keep, foldl_keep, interpret_keep, fail_keep, badParam_keep, complete_keep, modSge_keep, wipeLines_keep]; done) | grind [keep_mk, keep_fold, whenS_keep, forEach_keep, ifSome_keep, foldl_keep, interpret_keep, fail_keep, badParam_keep, complete_keep, modSge_keep, wipeLines_keep])) only [keep_mk, keep_fold, apply_ite State.keep, ite_self, next_keep, whenS_keep, forEach_keep, ifSome_keep, foldl_keep, interpret_keep, fail_keep, badParam_keep, complete_keep, modSge_keep, wipeLines_keep]; done) | grind [keep_mk, keep_fold, whenS_keep, forEach_keep, ifSome_keep, foldl_keep, interpret_keep, fail_keep, badParam_keep, complete_keep, modSge_keep, wipeLines_keep] | (refine checked_keep _ _ _ _ _ ?_; intro s; first | (simp only [keep_mk, keep_fold, apply_ite State.keep, ite_self, next_keep, whenS_keep, forEach_keep, ifSome_keep, foldl_keep, interpret_keep, fail_keep, badParam_keep, complete_keep, modSge_keep, wipeLines_keep]; done) | grind [keep_mk, keep_fold, whenS_keep, forEach_keep, ifSome_keep, foldl_keep, interpret_keep, fail_keep, badParam_keep, complete_keep, modSge_keep, wipeLines_keep])))

theorem execSgeProgramSwap_keep (s : State) : ∃ t, execSgeProgramSwap s = .next t ∧ t.keep = s.keep := by
  (unfold execSgeProgramSwap; refine interpret_keep _ _ _ ?_; intro p s; dsimp only; (repeat' split) <;> (first | (simp (disch := (intros; first | (simp only [keep_mk, keep_fold, apply_ite State.keep, ite_self, next_keep, whenS_keep, forEach_keep, ifSome_keep, foldl_keep, interpret_keep, complete_keep, checked_keep, fail_keep, waitFor_keep, modSge_keep]; done) | grind [keep_mk, keep_fold, whenS_keep, forEach_keep, ifSome_keep, foldl_keep, interpret_keep, complete_keep, checked_keep, fail_keep, waitFor_keep, modSge_keep])) only [keep_mk, keep_fold, apply_ite State.keep, ite_self, next_keep, whenS_keep, forEach_keep, ifSome_keep, foldl_keep, interpret_keep, complete_keep, checked_keep, fail_keep, waitFor_keep, modSge_keep]; done) | grind [keep_mk, keep_fold, whenS_keep, forEach_keep, ifSome_keep, foldl_keep, interpret_keep, complete_keep, checked_keep, fail_keep, waitFor_keep, modSge_keep] | (refine checked_keep _ _ _ _ _ ?_; intro s; first | (simp only [keep_mk, keep_fold, apply_ite State.keep, ite_self, next_keep, whenS_keep, forEach_keep, ifSome_keep, foldl_keep, interpret_keep, complete_keep, checked_keep, fail_keep, waitFor_keep, modSge_keep]; done) | grind [keep_mk, keep_fold, whenS_keep, forEach_keep, ifSome_keep, foldl_keep, interpret_keep, complete_keep, checked_keep, fail_keep, waitFor_keep, modSge_keep])))

theorem execSgeTickSet_keep (s : State) : ∃ t, execSgeTickSet s = .next t ∧ t.keep = s.keep := by
  (unfold execSgeTickSet; refine interpret_keep _ _ _ ?_; intro p s; refine checked_keep _ _ _ _ _ ?_; intro s; simp only [keep_mk, keep_fold, apply_ite State.keep, ite_self, next_keep, whenS_keep, forEach_keep, ifSome_keep, foldl_keep, interpret_keep, checked_keep, fail_keep, waitFor_keep]; done)

theorem answerRead_keep (a1) (a2) (s : State) : (answerRead a1 a2 s).keep = s.keep := by
  (unfold answerRead; simp only [keep_mk, keep_fold, apply_ite State.keep, ite_self, next_keep, whenS_keep, forEach_keep, ifSome_keep, foldl_keep, emit_keep]; done)

theorem execSgeStrayCountRead_keep (a1) (s : State) : ∃ t, execSgeStrayCountRead a1 s = .next t ∧ t.keep = s.keep := by
  (unfold execSgeStrayCountRead; simp only [keep_mk, keep_fold, apply_ite State.keep, ite_self, next_keep, whenS_keep, forEach_keep, ifSome_keep, foldl_keep, modSge_keep, answerRead_keep]; done)

theorem execSgeMissCountRead_keep (a1) (s : State) : ∃ t, execSgeMissCountRead a1 s = .next t ∧ t.keep = s.keep := by
  (unfold execSgeMissCountRead; simp only [keep_mk, keep_fold, apply_ite State.keep, ite_self, next_keep, whenS_keep, forEach_keep, ifSome_keep, foldl_keep, modSge_keep, answerRead_keep]; done)

theorem modHo_keep (a1) (s : State) : (modHo a1 s).keep = s.keep := by
  (unfold modHo; simp only [keep_mk, keep_fold, apply_ite State.keep, ite_self, next_keep, whenS_keep, forEach_keep, ifSome_keep, foldl_keep, modLat_keep]; done)

theorem hoSend_keep (a1) (s : State) : (hoSend a1 s).keep = s.keep := by
  (unfold hoSend; simp only [keep_mk, keep_fold, apply_ite State.keep, ite_self, next_keep, whenS_keep, forEach_keep, ifSome_keep, foldl_keep, emit_keep]; done)

theorem hoRecord_keep (a1) (s : State) : (hoRecord a1 s).keep = s.keep := by
  (unfold hoRecord; simp only [keep_mk, keep_fold, apply_ite State.keep, ite_self, next_keep, whenS_keep, forEach_keep, ifSome_keep, foldl_keep, logEvent_keep]; done)

theorem boundLacp_keep (a1) (s : State) : (boundLacp a1 s).keep = s.keep := by
  (unfold boundLacp; grind [keep_mk, keep_fold, whenS_keep, forEach_keep, ifSome_keep, foldl_keep, sendLacp_keep])

theorem takeTenants_keep (a1) (s : State) : (takeTenants a1 s).keep = s.keep := by
  (unfold takeTenants; grind [keep_mk, keep_fold, whenS_keep, forEach_keep, ifSome_keep, foldl_keep, modTenant_keep, tenantRecord_keep, modVf_keep, bindRecord_keep, fillVf_keep])

theorem takeKeys_keep (a1) (a2) (a3) (s : State) : (takeKeys a1 a2 a3 s).keep = s.keep := by
  (unfold takeKeys; grind [keep_mk, keep_fold, whenS_keep, forEach_keep, ifSome_keep, foldl_keep, bumpSlot_keep, modCry_keep])

theorem takePlant_keep (a1) (s : State) : (takePlant a1 s).keep = s.keep := by
  (unfold takePlant; grind [keep_mk, keep_fold, whenS_keep, forEach_keep, ifSome_keep, foldl_keep, modSge_keep, wipeLines_keep, modSio_keep, takeTick_keep, modPlt_keep])

theorem takeStatic_keep (a1) (a2) (a3) (s : State) : (takeStatic a1 a2 a3 s).keep = s.keep := by
  (unfold takeStatic; grind [keep_mk, keep_fold, whenS_keep, forEach_keep, ifSome_keep, foldl_keep, modPoint_keep, takeKeys_keep, takeTenants_keep, modSto_keep, followUse_keep, takePlant_keep])

theorem hoAbort_keep (s : State) : (hoAbort s).keep = s.keep := by
  (unfold hoAbort; grind [keep_mk, keep_fold, whenS_keep, forEach_keep, ifSome_keep, foldl_keep, hoRecord_keep, setTenantState_keep, boundLacp_keep, unbindVf_keep, hoSend_keep, modHo_keep, failWaits_keep])

theorem hoCheck_keep (s : State) : (hoCheck s).keep = s.keep := by
  (unfold hoCheck; simp only [keep_mk, keep_fold, apply_ite State.keep, ite_self, next_keep, whenS_keep, forEach_keep, ifSome_keep, foldl_keep, hoAbort_keep]; done)

theorem hoStart_keep (a1) (s : State) : (hoStart a1 s).keep = s.keep := by
  (unfold hoStart; grind [keep_mk, keep_fold, whenS_keep, forEach_keep, ifSome_keep, foldl_keep, fail_keep, freeNat_keep, freeBytes_keep, modHo_keep, waitFor_keep, hoSend_keep])

theorem hoPrepare_keep (a1) (a2) (a3) (a4) (a5) (s : State) : (hoPrepare a1 a2 a3 a4 a5 s).keep = s.keep := by
  (unfold hoPrepare; grind [keep_mk, keep_fold, whenS_keep, forEach_keep, ifSome_keep, foldl_keep, emit_keep, freeNat_keep, modHo_keep, hoSend_keep, takeStatic_keep])

theorem hoStop_keep (s : State) : (hoStop s).keep = s.keep := by
  (unfold hoStop; grind [keep_mk, keep_fold, whenS_keep, forEach_keep, ifSome_keep, foldl_keep, setTenantState_keep, boundLacp_keep, modHo_keep])

theorem hoCopy_keep (s : State) : (hoCopy s).keep = s.keep := by
  (unfold hoCopy; grind [keep_mk, keep_fold, whenS_keep, forEach_keep, ifSome_keep, foldl_keep, failWorkOf_keep, freeNat_keep, hoSend_keep, modHo_keep])

theorem hoSwitch_keep (s : State) : (hoSwitch s).keep = s.keep := by
  (unfold hoSwitch; grind [keep_mk, keep_fold, whenS_keep, forEach_keep, ifSome_keep, foldl_keep, setTenantState_keep, modTenant_keep, modVf_keep, modSto_keep, lsaDue_keep, modLat_keep, modHo_keep, hoSend_keep])

theorem hoSwitched_keep (a1) (s : State) : (hoSwitched a1 s).keep = s.keep := by
  (unfold hoSwitched; simp only [keep_mk, keep_fold, apply_ite State.keep, ite_self, next_keep, whenS_keep, forEach_keep, ifSome_keep, foldl_keep, modSto_keep, lsaDue_keep, modLat_keep, modHo_keep]; done)

theorem hoRelease_keep (s : State) : (hoRelease s).keep = s.keep := by
  (unfold hoRelease; grind [keep_mk, keep_fold, whenS_keep, forEach_keep, ifSome_keep, foldl_keep, modHo_keep, closeConns_keep, setTenantState_keep, unbindVf_keep, freeNat_keep, hoSend_keep, hoRecord_keep, portsDown_keep, finishWaits_keep])

theorem hoRefused_keep (a1) (a2) (s : State) : (hoRefused a1 a2 s).keep = s.keep := by
  (unfold hoRefused; simp only [keep_mk, keep_fold, apply_ite State.keep, ite_self, next_keep, whenS_keep, forEach_keep, ifSome_keep, foldl_keep, failWaits_keep, modHo_keep]; done)

theorem hoTake_keep (a1) (a2) (s : State) : (hoTake a1 a2 s).keep = s.keep := by
  (unfold hoTake; grind [keep_mk, keep_fold, whenS_keep, forEach_keep, ifSome_keep, foldl_keep, hoPrepare_keep, hoRefused_keep, modHo_keep, freeNat_keep, hoSend_keep, modCry_keep, hoSwitched_keep, hoAbort_keep])

theorem registerPause_keep (a1) (a2) (s : State) : (registerPause a1 a2 s).keep = s.keep := by
  (unfold registerPause; grind [keep_mk, keep_fold, whenS_keep, forEach_keep, ifSome_keep, foldl_keep, countEv_keep, modPort_keep])

theorem ingressBuffers_keep (a1) (a2) (s : State) : ∀ y0 y1 t, ingressBuffers a1 a2 s = some (y0, y1, t) → t.keep = s.keep := by
  intro y0 y1 t h
  unfold ingressBuffers at h
  dsimp only at h
  split at h
  · cases h
  · have := cadTake_keep _ _ _ _ _ _ _ ‹_›
    grind [cadTake_keep]

theorem wireIn_keep (a1) (a2) (a3) (s : State) : (wireIn a1 a2 a3 s).keep = s.keep := by
  (unfold wireIn; simp only [modPort_keep]; done)

theorem execFrameReceived_keep (a1) (a2) (a3) (a4) (s : State) : ∃ t, execFrameReceived a1 a2 a3 a4 s = .next t ∧ t.keep = s.keep := by
  unfold execFrameReceived
  split
  · exact ⟨_, rfl, rfl⟩
  extract_lets x n u body exceeds bad kept v
  have hu : u.keep = s.keep := modPort_keep _ _ _
  have hv : v.keep = s.keep := by simp only [v, countEv_keep]; exact hu
  clear_value u v kept exceeds bad body
  split
  · exact ⟨_, rfl, by rw [countEv_keep]; exact hu⟩
  split
  · exact ⟨_, rfl, by rw [registerPause_keep, countEv_keep]; exact hu⟩
  split
  · exact ⟨_, rfl, by rw [chargeDrop_keep]; exact hv⟩
  split
  · refine ⟨_, rfl, ?_⟩
    rw [chargeDrop_keep]
    split <;> (try rw [countEv_keep]) <;> exact hv
  rename_i hs short w hw
  have hw : w.keep = s.keep := by rw [← hv]; exact ingressBuffers_keep _ _ _ _ _ _ hw
  clear hu hv
  extract_lets y
  have hy : y.keep = s.keep := by
    simp only [y]; split
    · exact hw
    · rw [countEv_keep]; exact hw
  clear_value y
  split
  rename_i k1 icv sa _
  split
  rename_i early isSealed _
  extract_lets q m lenBad verdict z vp
  have hz : z.keep = s.keep := by
    simp only [z]
    split
    · split
      · rw [modPort_keep]; exact hy
      · exact hy
    · exact hy
  clear_value z vp verdict
  split
  rename_i id t ht
  have ht : t.keep = s.keep := by rw [newId_keep2 _ _ _ ht]; exact hz
  split
  · exact ⟨_, rfl, by simp only [keep_mk]; exact ht⟩
  · exact ⟨_, rfl, by rw [portEnter_keep]; exact ht⟩

theorem execPauseTimeExpiry_keep (a1) (a2) (s : State) : ∃ t, execPauseTimeExpiry a1 a2 s = .next t ∧ t.keep = s.keep := by
  (unfold execPauseTimeExpiry; simp only [keep_mk, keep_fold, apply_ite State.keep, ite_self, next_keep, whenS_keep, forEach_keep, ifSome_keep, foldl_keep, modPort_keep]; done)

theorem execPauseGeneration_keep (a1) (s : State) : ∃ t, execPauseGeneration a1 s = .next t ∧ t.keep = s.keep := by
  (unfold execPauseGeneration; grind [keep_mk, keep_fold, whenS_keep, forEach_keep, ifSome_keep, foldl_keep, sendPause_keep, modPort_keep])

theorem execPauseRefresh_keep (a1) (s : State) : ∃ t, execPauseRefresh a1 s = .next t ∧ t.keep = s.keep := by
  (unfold execPauseRefresh; simp only [keep_mk, keep_fold, apply_ite State.keep, ite_self, next_keep, whenS_keep, forEach_keep, ifSome_keep, foldl_keep, sendPause_keep]; done)

theorem transmit_keep (a1) (s : State) : (transmit a1 s).keep = s.keep := by
  unfold transmit
  extract_lets port p x paused able next
  have hnext : ∀ i t, next = some (i, t) → t.keep = s.keep := by
    intro i t ht
    simp only [next] at ht
    split at ht
    · split at ht
      · cases ht
      · cases ht; exact modPoint_keep _ _ _
    · exact popItem_keep _ _ _ _ _ ht
  clear_value paused able next
  split
  · rfl
  rcases next with _ | ⟨i, t⟩
  · rfl
  have ht := hnext _ _ rfl
  dsimp only
  split
  · exact ht
  rename_i f _
  have hu : (if port = true then sendMac p f.bytes false (cadRelease f.bufs t) else latSend (a1 - 88) f false t).keep = s.keep := by
    split <;> simp only [sendMac_keep, cadRelease_keep, latSend_keep, ht]
  split
  · rw [releaseHeld_keep]; exact hu
  · exact hu

theorem execFrameTransmit_keep (a1) (s : State) : ∃ t, execFrameTransmit a1 s = .next t ∧ t.keep = s.keep := by
  (unfold execFrameTransmit; simp only [keep_mk, keep_fold, apply_ite State.keep, ite_self, next_keep, whenS_keep, forEach_keep, ifSome_keep, foldl_keep, transmit_keep]; done)

theorem execAnComplete_keep (a1) (a2) (a3) (a4) (a5) (s : State) : ∃ t, execAnComplete a1 a2 a3 a4 a5 s = .next t ∧ t.keep = s.keep := by
  (unfold execAnComplete; grind [keep_mk, keep_fold, whenS_keep, forEach_keep, ifSome_keep, foldl_keep, modPort_keep, setPort_keep, logEvent_keep])

theorem execAnRestart_keep (a1) (s : State) : ∃ t, execAnRestart a1 s = .next t ∧ t.keep = s.keep := by
  (unfold execAnRestart; simp only [keep_mk, keep_fold, apply_ite State.keep, ite_self, next_keep, whenS_keep, forEach_keep, ifSome_keep, foldl_keep, setPort_keep]; done)

theorem execPortLinkChange_keep (a1) (a2) (s : State) : ∃ t, execPortLinkChange a1 a2 s = .next t ∧ t.keep = s.keep := by
  (unfold execPortLinkChange; grind [keep_mk, keep_fold, whenS_keep, forEach_keep, ifSome_keep, foldl_keep, hoCheck_keep, setPort_keep, modPort_keep])

theorem execLldpTimer_keep (a1) (s : State) : ∃ t, execLldpTimer a1 s = .next t ∧ t.keep = s.keep := by
  (unfold execLldpTimer; simp only [keep_mk, keep_fold, apply_ite State.keep, ite_self, next_keep, whenS_keep, forEach_keep, ifSome_keep, foldl_keep, sendMac_keep, modPort_keep]; done)

theorem execLacpduReceived_keep (a1) (a2) (s : State) : ∃ t, execLacpduReceived a1 a2 s = .next t ∧ t.keep = s.keep := by
  (unfold execLacpduReceived; grind [keep_mk, keep_fold, whenS_keep, forEach_keep, ifSome_keep, foldl_keep, modPort_keep, sendLacp_keep])

end Sys2Proof.Machine
end

