-- ==== Sys2Proof/Laws/Keep5.lean ====
section
/-!
SUPPORT. Sys2Proof/Laws/Keep5.lean: part 5 of 8 of the frame lemmas, one for each function on states: it leaves the queue, the microseconds, the OTP and the label locks alone.
-/
namespace Sys2Proof.Machine
open Sys2Proof
set_option linter.all false
set_option maxRecDepth 4000

theorem execLacpPeriodic_keep (a1) (s : State) : ∃ t, execLacpPeriodic a1 s = .next t ∧ t.keep = s.keep := by
  (unfold execLacpPeriodic; grind [keep_mk, keep_fold, whenS_keep, forEach_keep, ifSome_keep, foldl_keep, sendLacp_keep])

theorem execParkWindowEnd_keep (a1) (s : State) : ∃ t, execParkWindowEnd a1 s = .next t ∧ t.keep = s.keep := by
  (unfold execParkWindowEnd; grind [keep_mk, keep_fold, whenS_keep, forEach_keep, ifSome_keep, foldl_keep, modPort_keep, modAgg_keep, startWake_keep])

theorem execParkDrainDone_keep (a1) (s : State) : ∃ t, execParkDrainDone a1 s = .next t ∧ t.keep = s.keep := by
  (unfold execParkDrainDone; grind [keep_mk, keep_fold, whenS_keep, forEach_keep, ifSome_keep, foldl_keep, logEvent_keep, releaseHeld_keep, modPort_keep, countEv_keep, sendLacp_keep])

theorem execDeepPendingEnd_keep (a1) (s : State) : ∃ t, execDeepPendingEnd a1 s = .next t ∧ t.keep = s.keep := by
  (unfold execDeepPendingEnd; grind [keep_mk, keep_fold, whenS_keep, forEach_keep, ifSome_keep, foldl_keep, setPort_keep, modPort_keep, powerDomains_keep])

theorem execMemberActive_keep (a1) (s : State) : ∃ t, execMemberActive a1 s = .next t ∧ t.keep = s.keep := by
  (unfold execMemberActive; grind [keep_mk, keep_fold, whenS_keep, forEach_keep, ifSome_keep, foldl_keep, setPort_keep, modPort_keep, aggCheck_keep, logEvent_keep])

theorem execWakeLate_keep (a1) (s : State) : ∃ t, execWakeLate a1 s = .next t ∧ t.keep = s.keep := by
  (unfold execWakeLate; grind [keep_mk, keep_fold, whenS_keep, forEach_keep, ifSome_keep, foldl_keep, logEvent_keep, modPort_keep, startWake_keep])

theorem execFailedMemberRetry_keep (a1) (s : State) : ∃ t, execFailedMemberRetry a1 s = .next t ∧ t.keep = s.keep := by
  (unfold execFailedMemberRetry; simp only [keep_mk, keep_fold, apply_ite State.keep, ite_self, next_keep, whenS_keep, forEach_keep, ifSome_keep, foldl_keep, modPort_keep]; done)

theorem execEeeTlvExpiry_keep (a1) (s : State) : ∃ t, execEeeTlvExpiry a1 s = .next t ∧ t.keep = s.keep := by
  (unfold execEeeTlvExpiry; simp only [keep_mk, keep_fold, apply_ite State.keep, ite_self, next_keep, whenS_keep, forEach_keep, ifSome_keep, foldl_keep, modPort_keep, startWake_keep]; done)

theorem applyMode_keep (a1) (s : State) : (applyMode a1 s).keep = s.keep := by
  (unfold applyMode; grind [keep_mk, keep_fold, whenS_keep, forEach_keep, ifSome_keep, foldl_keep, modPort_keep, powerDomains_keep])

theorem execPortModeSet_keep (s : State) : ∃ t, execPortModeSet s = .next t ∧ t.keep = s.keep := by
  (unfold execPortModeSet; refine interpret_keep _ _ _ ?_; intro p s; refine checked_keep _ _ _ _ _ ?_; intro s; dsimp only; (repeat' split) <;> (first | (simp (disch := (intros; first | (simp only [keep_mk, keep_fold, apply_ite State.keep, ite_self, next_keep, whenS_keep, forEach_keep, ifSome_keep, foldl_keep, interpret_keep, checked_keep, fail_keep, portsDown_keep, modLat_keep, applyMode_keep, ok_keep, bringUp_keep]; done) | grind [keep_mk, keep_fold, whenS_keep, forEach_keep, ifSome_keep, foldl_keep, interpret_keep, checked_keep, fail_keep, portsDown_keep, modLat_keep, applyMode_keep, ok_keep, bringUp_keep])) only [keep_mk, keep_fold, apply_ite State.keep, ite_self, next_keep, whenS_keep, forEach_keep, ifSome_keep, foldl_keep, interpret_keep, checked_keep, fail_keep, portsDown_keep, modLat_keep, applyMode_keep, ok_keep, bringUp_keep]; done) | grind [keep_mk, keep_fold, whenS_keep, forEach_keep, ifSome_keep, foldl_keep, interpret_keep, checked_keep, fail_keep, portsDown_keep, modLat_keep, applyMode_keep, ok_keep, bringUp_keep]))

theorem execPortStatus_keep (s : State) : ∃ t, execPortStatus s = .next t ∧ t.keep = s.keep := by
  (unfold execPortStatus; refine interpret_keep _ _ _ ?_; intro p s; refine checked_keep _ _ _ _ _ ?_; intro s; simp only [keep_mk, keep_fold, apply_ite State.keep, ite_self, next_keep, whenS_keep, forEach_keep, ifSome_keep, foldl_keep, interpret_keep, checked_keep, complete_keep]; done)

theorem execPortPauseSet_keep (s : State) : ∃ t, execPortPauseSet s = .next t ∧ t.keep = s.keep := by
  (unfold execPortPauseSet; refine interpret_keep _ _ _ ?_; intro p s; refine checked_keep _ _ _ _ _ ?_; intro s; simp only [keep_mk, keep_fold, apply_ite State.keep, ite_self, next_keep, whenS_keep, forEach_keep, ifSome_keep, foldl_keep, interpret_keep, checked_keep, sendPause_keep, ok_keep, modPort_keep]; done)

theorem dissolve_keep (a1) (s : State) : (dissolve a1 s).keep = s.keep := by
  (unfold dissolve; grind [keep_mk, keep_fold, whenS_keep, forEach_keep, ifSome_keep, foldl_keep, wakeAgg_keep, dropFrame_keep, modPort_keep, modLat_keep, modAgg_keep])

theorem execPortParkSet_keep (s : State) : ∃ t, execPortParkSet s = .next t ∧ t.keep = s.keep := by
  (unfold execPortParkSet; refine interpret_keep _ _ _ ?_; intro p s; refine checked_keep _ _ _ _ _ ?_; intro s; dsimp only; (repeat' split) <;> (first | (simp (disch := (intros; first | (simp only [keep_mk, keep_fold, apply_ite State.keep, ite_self, next_keep, whenS_keep, forEach_keep, ifSome_keep, foldl_keep, interpret_keep, checked_keep, ok_keep, dissolve_keep, fail_keep, wakeAgg_keep, modAgg_keep, modPoint_keep, aggCheck_keep]; done) | grind [keep_mk, keep_fold, whenS_keep, forEach_keep, ifSome_keep, foldl_keep, interpret_keep, checked_keep, ok_keep, dissolve_keep, fail_keep, wakeAgg_keep, modAgg_keep, modPoint_keep, aggCheck_keep])) only [keep_mk, keep_fold, apply_ite State.keep, ite_self, next_keep, whenS_keep, forEach_keep, ifSome_keep, foldl_keep, interpret_keep, checked_keep, ok_keep, dissolve_keep, fail_keep, wakeAgg_keep, modAgg_keep, modPoint_keep, aggCheck_keep]; done) | grind [keep_mk, keep_fold, whenS_keep, forEach_keep, ifSome_keep, foldl_keep, interpret_keep, checked_keep, ok_keep, dissolve_keep, fail_keep, wakeAgg_keep, modAgg_keep, modPoint_keep, aggCheck_keep]))

theorem clearRole_keep (a1) (s : State) : (clearRole a1 s).keep = s.keep := by
  (unfold clearRole; grind [keep_mk, keep_fold, whenS_keep, forEach_keep, ifSome_keep, foldl_keep, tcDone_keep, endTask_keep, modRole_keep])

theorem abortRoleCommands_keep (a1) (s : State) : (abortRoleCommands a1 s).keep = s.keep := by
  (unfold abortRoleCommands; grind [keep_mk, keep_fold, whenS_keep, forEach_keep, ifSome_keep, foldl_keep, fail_keep])

theorem startRole_keep (a1) (s : State) : (startRole a1 s).keep = s.keep := by
  (unfold startRole; grind [keep_mk, keep_fold, whenS_keep, forEach_keep, ifSome_keep, foldl_keep, modCore_keep, kick_keep, startTask_keep])

theorem restartRole_keep (a1) (a2) (s : State) : (restartRole a1 a2 s).keep = s.keep := by
  (unfold restartRole; simp only [keep_mk, keep_fold, apply_ite State.keep, ite_self, next_keep, whenS_keep, forEach_keep, ifSome_keep, foldl_keep, clearRole_keep, logEvent_keep, startRole_keep, abortRoleCommands_keep]; done)

theorem bootRole_keep (a1) (a2) (s : State) : (bootRole a1 a2 s).keep = s.keep := by
  (unfold bootRole; grind [keep_mk, keep_fold, whenS_keep, forEach_keep, ifSome_keep, foldl_keep, modRole_keep, startRole_keep, modCore_keep])

theorem exception_keep (a1) (a2) (a3) (a4) (a5) (s : State) : (exception a1 a2 a3 a4 a5 s).keep = s.keep := by
  (unfold exception; simp only [keep_mk, keep_fold, apply_ite State.keep, ite_self, next_keep, whenS_keep, forEach_keep, ifSome_keep, foldl_keep, modCore_keep, modTask_keep, logLimited_keep, sched_keep, park_keep, restartRole_keep, postBit_keep]; done)

theorem execStoTargetCfg_keep (s : State) : ∃ t, execStoTargetCfg s = .next t ∧ t.keep = s.keep := by
  (unfold execStoTargetCfg; refine interpret_keep _ _ _ ?_; intro p s; refine checked_keep _ _ _ _ _ ?_; intro s; dsimp only; (repeat' split) <;> (first | (simp (disch := (intros; first | (simp only [keep_mk, keep_fold, apply_ite State.keep, ite_self, next_keep, whenS_keep, forEach_keep, ifSome_keep, foldl_keep, interpret_keep, checked_keep, fail_keep, modSto_keep, respond_keep, ok_keep]; done) | grind [keep_mk, keep_fold, whenS_keep, forEach_keep, ifSome_keep, foldl_keep, interpret_keep, checked_keep, fail_keep, modSto_keep, respond_keep, ok_keep])) only [keep_mk, keep_fold, apply_ite State.keep, ite_self, next_keep, whenS_keep, forEach_keep, ifSome_keep, foldl_keep, interpret_keep, checked_keep, fail_keep, modSto_keep, respond_keep, ok_keep]; done) | grind [keep_mk, keep_fold, whenS_keep, forEach_keep, ifSome_keep, foldl_keep, interpret_keep, checked_keep, fail_keep, modSto_keep, respond_keep, ok_keep]))

theorem modSpaces_keep (a1) (a2) (s : State) : (modSpaces a1 a2 s).keep = s.keep := by
  (unfold modSpaces; simp only [keep_mk, keep_fold, apply_ite State.keep, ite_self, next_keep, whenS_keep, forEach_keep, ifSome_keep, foldl_keep, charter_keep]; done)

theorem dropSpace_keep (a1) (s : State) : (dropSpace a1 s).keep = s.keep := by
  (unfold dropSpace; grind [keep_mk, keep_fold, whenS_keep, forEach_keep, ifSome_keep, foldl_keep, endScrubs_keep, endCommands_keep, modSto_keep])

theorem execStoNsSet_keep (s : State) : ∃ t, execStoNsSet s = .next t ∧ t.keep = s.keep := by
  (unfold execStoNsSet; refine interpret_keep _ _ _ ?_; intro p s; refine checked_keep _ _ _ _ _ ?_; intro s; dsimp only; (repeat' split) <;> (first | (simp (disch := (intros; first | (simp only [keep_mk, keep_fold, apply_ite State.keep, ite_self, next_keep, whenS_keep, forEach_keep, ifSome_keep, foldl_keep, interpret_keep, checked_keep, ok_keep, modSpaces_keep, dropSpace_keep, complete_keep, fail_keep, modSto_keep]; done) | grind [keep_mk, keep_fold, whenS_keep, forEach_keep, ifSome_keep, foldl_keep, interpret_keep, checked_keep, ok_keep, modSpaces_keep, dropSpace_keep, complete_keep, fail_keep, modSto_keep])) only [keep_mk, keep_fold, apply_ite State.keep, ite_self, next_keep, whenS_keep, forEach_keep, ifSome_keep, foldl_keep, interpret_keep, checked_keep, ok_keep, modSpaces_keep, dropSpace_keep, complete_keep, fail_keep, modSto_keep]; done) | grind [keep_mk, keep_fold, whenS_keep, forEach_keep, ifSome_keep, foldl_keep, interpret_keep, checked_keep, ok_keep, modSpaces_keep, dropSpace_keep, complete_keep, fail_keep, modSto_keep]))

theorem execStoConnStatus_keep (s : State) : ∃ t, execStoConnStatus s = .next t ∧ t.keep = s.keep := by
  (unfold execStoConnStatus; refine interpret_keep _ _ _ ?_; intro p s; refine checked_keep _ _ _ _ _ ?_; intro s; simp only [keep_mk, keep_fold, apply_ite State.keep, ite_self, next_keep, whenS_keep, forEach_keep, ifSome_keep, foldl_keep, interpret_keep, checked_keep, complete_keep]; done)

theorem putPieces_keep (a1) (a2) (s : State) : (putPieces a1 a2 s).2.keep = s.keep := by
  have fold : ∀ (l : List (Nat × Nat × Bytes)) (x : (List Nat × Nat) × State), (l.foldl (fun a x => match dmaPut a1 x.2.1 x.2.2 a.2 with
    | (true, s) => ((a.1.1, a.1.2 + x.2.2.length), s)
    | (false, s) => ((a.1.1 ++ [x.1], a.1.2), s)) x).2.keep = x.2.keep := by
    intro l
    induction l with
    | nil => intro x; rfl
    | cons y l ih => intro x; simp only [List.foldl_cons]; rw [ih]; grind [dmaPut_keep, dmaPut_keep2]
  exact fold a2 _

theorem putPieces_keep2 (a1) (a2) (s : State) : ∀ y0 t, (putPieces a1 a2 s) = (y0, t) → t.keep = s.keep := by
  intro y0 t h; have := putPieces_keep a1 a2 s; rw [h] at this; exact this

theorem faultRecords_keep (a1) (a2) (a3) (a4) (s : State) : (faultRecords a1 a2 a3 a4 s).keep = s.keep := by
  (unfold faultRecords; grind [keep_mk, keep_fold, whenS_keep, forEach_keep, ifSome_keep, foldl_keep, chunkFault_keep])

theorem putImage_keep (a1) (a2) (a3) (a4) (s : State) : (putImage a1 a2 a3 a4 s).2.keep = s.keep := by
  (unfold putImage; simp only [keep_mk, keep_fold, apply_ite State.keep, ite_self, next_keep, whenS_keep, forEach_keep, ifSome_keep, foldl_keep, putPieces_keep]; done)

theorem putImage_keep2 (a1) (a2) (a3) (a4) (s : State) : ∀ y0 t, (putImage a1 a2 a3 a4 s) = (y0, t) → t.keep = s.keep := by
  intro y0 t h; have := putImage_keep a1 a2 a3 a4 s; rw [h] at this; exact this

theorem fixFinish_keep (a1) (a2) (a3) (a4) (a5) (a6) (a7) (s : State) : (fixFinish a1 a2 a3 a4 a5 a6 a7 s).keep = s.keep := by
  (unfold fixFinish; simp only [keep_mk, keep_fold, apply_ite State.keep, ite_self, next_keep, whenS_keep, forEach_keep, ifSome_keep, foldl_keep, stoFinish_keep]; done)

theorem fixRun_keep (a1) (a2) (s : State) : (fixRun a1 a2 s).keep = s.keep := by
  (unfold fixRun; dsimp only; (repeat' split) <;> (first | (simp (disch := (intros; first | (simp only [keep_mk, keep_fold, apply_ite State.keep, ite_self, next_keep, whenS_keep, forEach_keep, ifSome_keep, foldl_keep, fixFinish_keep, fetchBuffers_keep, dmaGet_keep, modWork_keep, enqueueAt_keep]; done) | grind [keep_mk, keep_fold, whenS_keep, forEach_keep, ifSome_keep, foldl_keep, fixFinish_keep, fetchBuffers_keep, dmaGet_keep, modWork_keep, enqueueAt_keep])) only [keep_mk, keep_fold, apply_ite State.keep, ite_self, next_keep, whenS_keep, forEach_keep, ifSome_keep, foldl_keep, fixFinish_keep, fetchBuffers_keep, dmaGet_keep, modWork_keep, enqueueAt_keep]; done) | grind [keep_mk, keep_fold, whenS_keep, forEach_keep, ifSome_keep, foldl_keep, fixFinish_keep, fetchBuffers_keep, dmaGet_keep, modWork_keep, enqueueAt_keep]))

theorem fixEntryDone_keep (a1) (a2) (s : State) : (fixEntryDone a1 a2 s).keep = s.keep := by
  (unfold fixEntryDone; grind [keep_mk, keep_fold, whenS_keep, forEach_keep, ifSome_keep, foldl_keep, fixFinish_keep, faultRecords_keep, freeBytes_keep, putImage_keep])

theorem execEntryFixEncode_keep (a1) (a2) (a3) (s : State) : ∃ t, execEntryFixEncode a1 a2 a3 s = .next t ∧ t.keep = s.keep := by
  (unfold execEntryFixEncode; grind [keep_mk, keep_fold, whenS_keep, forEach_keep, ifSome_keep, foldl_keep, arrive_keep, fixRun_keep])

theorem execFixVerifyEntry_keep (a1) (a2) (a3) (s : State) : ∃ t, execFixVerifyEntry a1 a2 a3 s = .next t ∧ t.keep = s.keep := by
  (unfold execFixVerifyEntry; grind [keep_mk, keep_fold, whenS_keep, forEach_keep, ifSome_keep, foldl_keep, arrive_keep, fixRun_keep])

theorem execFixRepairEntry_keep (a1) (a2) (a3) (s : State) : ∃ t, execFixRepairEntry a1 a2 a3 s = .next t ∧ t.keep = s.keep := by
  (unfold execFixRepairEntry; grind [keep_mk, keep_fold, whenS_keep, forEach_keep, ifSome_keep, foldl_keep, arrive_keep, fixRun_keep])

theorem execEntryFixMigrate_keep (a1) (a2) (a3) (s : State) : ∃ t, execEntryFixMigrate a1 a2 a3 s = .next t ∧ t.keep = s.keep := by
  (unfold execEntryFixMigrate; grind [keep_mk, keep_fold, whenS_keep, forEach_keep, ifSome_keep, foldl_keep, arrive_keep, fixRun_keep])

theorem readImage_keep (a1) (a2) (s : State) : (readImage a1 a2 s).2.keep = s.keep := by
  (fun_induction readImage <;> grind [keep_mk, keep_fold, whenS_keep, forEach_keep, ifSome_keep, foldl_keep, dmaGet_keep])

theorem readImage_keep2 (a1) (a2) (s : State) : ∀ y0 t, (readImage a1 a2 s) = (y0, t) → t.keep = s.keep := by
  intro y0 t h; have := readImage_keep a1 a2 s; rw [h] at this; exact this

theorem fixCmdDone_keep (a1) (a2) (s : State) : (fixCmdDone a1 a2 s).keep = s.keep := by
  (unfold fixCmdDone; grind [keep_mk, keep_fold, whenS_keep, forEach_keep, ifSome_keep, foldl_keep, modSto_keep, finishWaits_keep, readImage_keep, faultRecords_keep, putImage_keep])

theorem execFixJobDone_keep (a1) (a2) (s : State) : ∃ t, execFixJobDone a1 a2 s = .next t ∧ t.keep = s.keep := by
  (unfold execFixJobDone; grind [keep_mk, keep_fold, whenS_keep, forEach_keep, ifSome_keep, foldl_keep, outOfUnit_keep, fixEntryDone_keep, fixCmdDone_keep])

theorem fixCommand_keep (a1) (a2) (s : State) : ∃ t, fixCommand a1 a2 s = .next t ∧ t.keep = s.keep := by
  (unfold fixCommand; refine interpret_keep _ _ _ ?_; intro p s; refine checked_keep _ _ _ _ _ ?_; intro s; simp only [keep_mk, keep_fold, apply_ite State.keep, ite_self, next_keep, whenS_keep, forEach_keep, ifSome_keep, foldl_keep, interpret_keep, checked_keep, fail_keep, newId_keep, modSto_keep, waitFor_keep, enqueueAt_keep]; done)

theorem execFixVerify_keep (s : State) : ∃ t, execFixVerify s = .next t ∧ t.keep = s.keep := by
  (unfold execFixVerify; simp only [keep_mk, keep_fold, apply_ite State.keep, ite_self, next_keep, whenS_keep, forEach_keep, ifSome_keep, foldl_keep, fixCommand_keep]; done)

theorem execFixRepair_keep (s : State) : ∃ t, execFixRepair s = .next t ∧ t.keep = s.keep := by
  (unfold execFixRepair; simp only [keep_mk, keep_fold, apply_ite State.keep, ite_self, next_keep, whenS_keep, forEach_keep, ifSome_keep, foldl_keep, fixCommand_keep]; done)

theorem execScrubStripe_keep (a1) (s : State) : ∃ t, execScrubStripe a1 s = .next t ∧ t.keep = s.keep := by
  (unfold execScrubStripe; grind [keep_mk, keep_fold, whenS_keep, forEach_keep, ifSome_keep, foldl_keep, modDrive_keep, modScrub_keep])

theorem execFixScrubSet_keep (s : State) : ∃ t, execFixScrubSet s = .next t ∧ t.keep = s.keep := by
  (unfold execFixScrubSet; refine interpret_keep _ _ _ ?_; intro p s; refine checked_keep _ _ _ _ _ ?_; intro s; simp only [keep_mk, keep_fold, apply_ite State.keep, ite_self, next_keep, whenS_keep, forEach_keep, ifSome_keep, foldl_keep, interpret_keep, checked_keep, fail_keep, modScrub_keep, endScrub_keep, complete_keep]; done)

theorem execFixRsCfg_keep (s : State) : ∃ t, execFixRsCfg s = .next t ∧ t.keep = s.keep := by
  (unfold execFixRsCfg; refine interpret_keep _ _ _ ?_; intro p s; refine checked_keep _ _ _ _ _ ?_; intro s; simp only [keep_mk, keep_fold, apply_ite State.keep, ite_self, next_keep, whenS_keep, forEach_keep, ifSome_keep, foldl_keep, interpret_keep, checked_keep, complete_keep, fail_keep, ok_keep, modSto_keep]; done)

theorem loadLink_keep (a1) (a2) (s : State) : (loadLink a1 a2 s).keep = s.keep := by
  (unfold loadLink; simp only [keep_mk, keep_fold, apply_ite State.keep, ite_self, next_keep, whenS_keep, forEach_keep, ifSome_keep, foldl_keep, modLink_keep]; done)

theorem loadLattice_keep (a1) (s : State) : (loadLattice a1 s).keep = s.keep := by
  (unfold loadLattice; grind [keep_mk, keep_fold, whenS_keep, forEach_keep, ifSome_keep, foldl_keep, loadLink_keep, modLat_keep])

theorem loadOtp_keep (s : State) : (loadOtp s).keep = s.keep := by
  (unfold loadOtp; grind [keep_mk, keep_fold, whenS_keep, forEach_keep, ifSome_keep, foldl_keep, modPort_keep, modSge_keep, modSio_keep, loadLattice_keep])

theorem powerEvent_keep (s : State) : (powerEvent s).keep = s.keep := by
  (unfold powerEvent; simp only [keep_mk, keep_fold, apply_ite State.keep, ite_self, next_keep, whenS_keep, forEach_keep, ifSome_keep, foldl_keep, mgtEvent_keep]; done)

theorem thermalEvent_keep (s : State) : (thermalEvent s).keep = s.keep := by
  (unfold thermalEvent; simp only [keep_mk, keep_fold, apply_ite State.keep, ite_self, next_keep, whenS_keep, forEach_keep, ifSome_keep, foldl_keep, mgtEvent_keep]; done)

theorem drainBegin_keep (s : State) : (drainBegin s).keep = s.keep := by
  (unfold drainBegin; simp only [keep_mk, keep_fold, apply_ite State.keep, ite_self, next_keep, whenS_keep, forEach_keep, ifSome_keep, foldl_keep, latRefresh_keep, portsDown_keep]; done)

theorem discardFrames_keep (a1) (s : State) : (discardFrames a1 s).keep = s.keep := by
  (unfold discardFrames; simp only [keep_mk, keep_fold, apply_ite State.keep, ite_self, next_keep, whenS_keep, forEach_keep, ifSome_keep, foldl_keep, cadRelease_keep, purgeFrames_keep]; done)

theorem purgeEntry_keep (a1) (a2) (s : State) : (purgeEntry a1 a2 s).keep = s.keep := by
  (unfold purgeEntry; simp only [keep_mk, keep_fold, apply_ite State.keep, ite_self, next_keep, whenS_keep, forEach_keep, ifSome_keep, foldl_keep]; done)

theorem drainAbort_keep (s : State) : (drainAbort s).2.keep = s.keep := by
  (unfold drainAbort; grind [keep_mk, keep_fold, whenS_keep, forEach_keep, ifSome_keep, foldl_keep, failEntry_keep, purgeEntry_keep, failWaits_keep, modSto_keep, discardFrames_keep, modPoint_keep, modRing_keep])

theorem drainAbort_keep2 (s : State) : ∀ y0 t, (drainAbort s) = (y0, t) → t.keep = s.keep := by
  intro y0 t h; have := drainAbort_keep s; rw [h] at this; exact this

theorem closeSession_keep (a1) (s : State) : (closeSession a1 s).keep = s.keep := by
  (unfold closeSession; simp only [keep_mk, keep_fold, apply_ite State.keep, ite_self, next_keep, whenS_keep, forEach_keep, ifSome_keep, foldl_keep, followUse_keep, logEvent_keep]; done)

theorem linkWidth_keep (a1) (a2) (s : State) : (linkWidth a1 a2 s).keep = s.keep :=
  linkChange_keep _ _ _ _

theorem holdEntered_keep (s : State) : (holdEntered s).keep = s.keep := by
  (unfold holdEntered; grind [keep_mk, keep_fold, whenS_keep, forEach_keep, ifSome_keep, foldl_keep, connClose_keep, modSto_keep, modPort_keep, closeSession_keep, linkWidth_keep])

theorem drbgStart_keep (s : State) : (drbgStart s).keep = s.keep := by
  (unfold drbgStart; simp only [keep_mk, keep_fold, apply_ite State.keep, ite_self, next_keep, whenS_keep, forEach_keep, ifSome_keep, foldl_keep, modCry_keep]; done)

theorem holdLeft_keep (s : State) : (holdLeft s).keep = s.keep := by
  (unfold holdLeft; grind [keep_mk, keep_fold, whenS_keep, forEach_keep, ifSome_keep, foldl_keep, bringUp_keep, drbgStart_keep, linkWidth_keep])

theorem leftOn_keep (a1) (s : State) : (leftOn a1 s).keep = s.keep := by
  (unfold leftOn; simp only [keep_mk, keep_fold, apply_ite State.keep, ite_self, next_keep, whenS_keep, forEach_keep, ifSome_keep, foldl_keep, advanceEpoch_keep]; done)

theorem thermalNotice_keep (s : State) : (thermalNotice s).keep = s.keep := by
  (unfold thermalNotice; simp only [keep_mk, keep_fold, apply_ite State.keep, ite_self, next_keep, whenS_keep, forEach_keep, ifSome_keep, foldl_keep, routePost_keep]; done)

theorem refclkLost_keep (a1) (s : State) : (refclkLost a1 s).keep = s.keep := by
  (unfold refclkLost; simp only [keep_mk, keep_fold, apply_ite State.keep, ite_self, next_keep, whenS_keep, forEach_keep, ifSome_keep, foldl_keep, hoCheck_keep, latRefresh_keep, portsDown_keep, convReset_keep]; done)

theorem refclkBack_keep (a1) (s : State) : (refclkBack a1 s).keep = s.keep := by
  (unfold refclkBack; grind [keep_mk, keep_fold, whenS_keep, forEach_keep, ifSome_keep, foldl_keep, latStart_keep, bringUp_keep])

theorem repairAtReset_keep (a1) (s : State) : (repairAtReset a1 s).keep = s.keep := by
  (unfold repairAtReset; simp only [keep_mk, keep_fold, apply_ite State.keep, ite_self, next_keep, whenS_keep, forEach_keep, ifSome_keep, foldl_keep, setDomain_keep, modWdn_keep]; done)

theorem wipeCW_keep (a1) (s : State) : (wipeCW a1 s).keep = s.keep := by
  have hl : (lblReset s).locked = s.lbl.locked := by
    have h := congrArg Keep.locked (lblCommit_keep s)
    simp only [State.keep] at h
    unfold lblReset; dsimp only; split <;> exact h
  (unfold wipeCW; simp only [keep_mk, hl, keep_fold, apply_ite State.keep, ite_self, next_keep, whenS_keep, forEach_keep, ifSome_keep, foldl_keep, repairAtReset_keep, loadOtp_keep]; done)

theorem stateChange_keep (a1) (a2) (a3) (s : State) : (stateChange a1 a2 a3 s).keep = s.keep := by
  (unfold stateChange; simp only [keep_mk, keep_fold, apply_ite State.keep, ite_self, next_keep, whenS_keep, forEach_keep, ifSome_keep, foldl_keep, routePost_keep, mgtEvent_keep, logEvent_keep]; done)

theorem syncUse_keep (a1) (s : State) : (syncUse a1 s).keep = s.keep := by
  (unfold syncUse; simp only [keep_mk, keep_fold, apply_ite State.keep, ite_self, next_keep, whenS_keep, forEach_keep, ifSome_keep, foldl_keep, leftOn_keep, setDomain_keep]; done)

theorem applyDomains_keep (a1) (s : State) : (applyDomains a1 s).keep = s.keep := by
  (unfold applyDomains; grind [keep_mk, keep_fold, whenS_keep, forEach_keep, ifSome_keep, foldl_keep, leftOn_keep, setDomain_keep])

theorem startLimit_keep (s : State) : (startLimit s).keep = s.keep := by
  (unfold startLimit; simp only [keep_mk, keep_fold, apply_ite State.keep, ite_self, next_keep, whenS_keep, forEach_keep, ifSome_keep, foldl_keep]; done)

theorem startGrace_keep (s : State) : (startGrace s).keep = s.keep := by
  (unfold startGrace; simp only [keep_mk, keep_fold, apply_ite State.keep, ite_self, next_keep, whenS_keep, forEach_keep, ifSome_keep, foldl_keep]; done)

theorem enterRunTrim_keep (a1) (a2) (s : State) : (enterRunTrim a1 a2 s).keep = s.keep := by
  (unfold enterRunTrim; simp only [keep_mk, keep_fold, apply_ite State.keep, ite_self, next_keep, whenS_keep, forEach_keep, ifSome_keep, foldl_keep, applyDomains_keep, holdLeft_keep, wakeAll_keep, startGrace_keep, stateChange_keep]; done)

theorem reachHold_keep (s : State) : (reachHold s).keep = s.keep := by
  (unfold reachHold; simp only [keep_mk, keep_fold, apply_ite State.keep, ite_self, next_keep, whenS_keep, forEach_keep, ifSome_keep, foldl_keep, applyDomains_keep, holdEntered_keep, stateChange_keep, startLimit_keep, finishWaits_keep]; done)

theorem startDrain_keep (a1) (a2) (a3) (a4) (a5) (s : State) : (startDrain a1 a2 a3 a4 a5 s).keep = s.keep := by
  (unfold startDrain; simp only [keep_mk, keep_fold, apply_ite State.keep, ite_self, next_keep, whenS_keep, forEach_keep, ifSome_keep, foldl_keep, drainBegin_keep]; done)

theorem callDown_keep (a1) (a2) (a3) (a4) (a5) (s : State) : (callDown a1 a2 a3 a4 a5 s).keep = s.keep := by
  (unfold callDown; grind [keep_mk, keep_fold, whenS_keep, forEach_keep, ifSome_keep, foldl_keep, startDrain_keep])

theorem modBat_keep (a1) (s : State) : (modBat a1 s).keep = s.keep := by
  (unfold modBat; simp only [keep_mk, keep_fold, apply_ite State.keep, ite_self, next_keep, whenS_keep, forEach_keep, ifSome_keep, foldl_keep]; done)

theorem modKeep_keep (a1) (s : State) : (modKeep a1 s).keep = s.keep := by
  (unfold modKeep; simp only [keep_mk, keep_fold, apply_ite State.keep, ite_self, next_keep, whenS_keep, forEach_keep, ifSome_keep, foldl_keep]; done)

theorem batShelf_keep (s : State) : (batShelf s).keep = s.keep := by
  (unfold batShelf; simp only [keep_mk, keep_fold, apply_ite State.keep, ite_self, next_keep, whenS_keep, forEach_keep, ifSome_keep, foldl_keep, modKeep_keep]; done)

theorem shelfNow_keep (a1) (a2) (s : State) : (shelfNow a1 a2 s).keep = s.keep := by
  (unfold shelfNow; simp only [keep_mk, keep_fold, apply_ite State.keep, ite_self, next_keep, whenS_keep, forEach_keep, ifSome_keep, foldl_keep, batShelf_keep, stateChange_keep, linksDown_keep, labelMirror_keep, applyDomains_keep, latRefresh_keep]; done)

theorem wakeEvent_keep (a1) (a2) (s : State) : (wakeEvent a1 a2 s).keep = s.keep := by
  (unfold wakeEvent; grind [keep_mk, keep_fold, whenS_keep, forEach_keep, ifSome_keep, foldl_keep, startLimit_keep])

theorem takeReset_keep (a1) (a2) (s : State) : (takeReset a1 a2 s).keep = s.keep := by
  (unfold takeReset; simp only [keep_mk, keep_fold, apply_ite State.keep, ite_self, next_keep, whenS_keep, forEach_keep, ifSome_keep, foldl_keep, wipeCW_keep, endScrubs_keep, closeSession_keep]; done)

theorem initialBand_keep (a1) (s : State) : (initialBand a1 s).keep = s.keep := by
  (unfold initialBand; grind [keep_mk, keep_fold, whenS_keep, forEach_keep, ifSome_keep, foldl_keep, logEvent_keep])

theorem endReset_keep (a1) (s : State) : (endReset a1 s).keep = s.keep := by
  (unfold endReset; grind [keep_mk, keep_fold, whenS_keep, forEach_keep, ifSome_keep, foldl_keep, applyDomains_keep, logEvent_keep, modLbl_keep, initialBand_keep])

theorem abandonPowerUp_keep (s : State) : (abandonPowerUp s).keep = s.keep := by
  (unfold abandonPowerUp; simp only [keep_mk, keep_fold, apply_ite State.keep, ite_self, next_keep, whenS_keep, forEach_keep, ifSome_keep, foldl_keep, applyDomains_keep]; done)

theorem capRecord_keep (a1) (s : State) : (capRecord a1 s).keep = s.keep := by
  (unfold capRecord; simp only [keep_mk, keep_fold, apply_ite State.keep, ite_self, next_keep, whenS_keep, forEach_keep, ifSome_keep, foldl_keep, logEvent_keep]; done)

theorem sensorFault_keep (a1) (s : State) : (sensorFault a1 s).keep = s.keep := by
  (unfold sensorFault; simp only [keep_mk, keep_fold, apply_ite State.keep, ite_self, next_keep, whenS_keep, forEach_keep, ifSome_keep, foldl_keep, logEvent_keep, capRecord_keep]; done)

theorem switchOn_keep (a1) (s : State) : (switchOn a1 s).keep = s.keep := by
  (unfold switchOn; simp only [keep_mk, keep_fold, apply_ite State.keep, ite_self, next_keep, whenS_keep, forEach_keep, ifSome_keep, foldl_keep, modDomain_keep]; done)

theorem batEvent_keep (a1) (a2) (s : State) : (batEvent a1 a2 s).keep = s.keep := by
  (unfold batEvent; simp only [keep_mk, keep_fold, apply_ite State.keep, ite_self, next_keep, whenS_keep, forEach_keep, ifSome_keep, foldl_keep, routePost_keep, logEvent_keep]; done)

theorem toCharger_keep (a1) (a2) (s : State) : (toCharger a1 a2 s).keep = s.keep := by
  (unfold toCharger; simp only [keep_mk, keep_fold, apply_ite State.keep, ite_self, next_keep, whenS_keep, forEach_keep, ifSome_keep, foldl_keep, emit_keep]; done)

theorem stopCharge_keep (s : State) : (stopCharge s).keep = s.keep := by
  (unfold stopCharge; simp only [keep_mk, keep_fold, apply_ite State.keep, ite_self, next_keep, whenS_keep, forEach_keep, ifSome_keep, foldl_keep, toCharger_keep, modBat_keep]; done)

theorem chargeEval_keep (s : State) : (chargeEval s).keep = s.keep := by
  (unfold chargeEval; simp only [keep_mk, keep_fold, apply_ite State.keep, ite_self, next_keep, whenS_keep, forEach_keep, ifSome_keep, foldl_keep, stopCharge_keep, toCharger_keep, modBat_keep]; done)

theorem dsgEval_keep (s : State) : (dsgEval s).keep = s.keep := by
  (unfold dsgEval; simp only [keep_mk, keep_fold, apply_ite State.keep, ite_self, next_keep, whenS_keep, forEach_keep, ifSome_keep, foldl_keep]; done)

theorem blockDischarge_keep (a1) (a2) (a3) (s : State) : (blockDischarge a1 a2 a3 s).keep = s.keep := by
  (unfold blockDischarge; simp only [keep_mk, keep_fold, apply_ite State.keep, ite_self, next_keep, whenS_keep, forEach_keep, ifSome_keep, foldl_keep, batEvent_keep, callDown_keep, dsgEval_keep]; done)

theorem loseCharge_keep (s : State) : (loseCharge s).keep = s.keep := by
  (unfold loseCharge; simp only [keep_mk, keep_fold, apply_ite State.keep, ite_self, next_keep, whenS_keep, forEach_keep, ifSome_keep, foldl_keep, modBat_keep]; done)

theorem setCharge_keep (a1) (s : State) : (setCharge a1 s).keep = s.keep := by
  (unfold setCharge; simp only [keep_mk, keep_fold, apply_ite State.keep, ite_self, next_keep, whenS_keep, forEach_keep, ifSome_keep, foldl_keep, modBat_keep]; done)

theorem fullMark_keep (s : State) : (fullMark s).keep = s.keep := by
  (unfold fullMark; simp only [keep_mk, keep_fold, apply_ite State.keep, ite_self, next_keep, whenS_keep, forEach_keep, ifSome_keep, foldl_keep, modBat_keep, modKeep_keep, setCharge_keep]; done)

theorem emptyMark_keep (s : State) : (emptyMark s).keep = s.keep := by
  (unfold emptyMark; grind [keep_mk, keep_fold, whenS_keep, forEach_keep, ifSome_keep, foldl_keep, modBat_keep, setCharge_keep, batEvent_keep, modKeep_keep])

theorem coulomb_keep (a1) (s : State) : (coulomb a1 s).keep = s.keep := by
  (unfold coulomb; simp only [keep_mk, keep_fold, apply_ite State.keep, ite_self, next_keep, whenS_keep, forEach_keep, ifSome_keep, foldl_keep, modBat_keep, modKeep_keep, batEvent_keep]; done)

theorem rebase_keep (s : State) : (rebase s).keep = s.keep := by
  (unfold rebase; grind [keep_mk, keep_fold, whenS_keep, forEach_keep, ifSome_keep, foldl_keep, modKeep_keep, setCharge_keep, batEvent_keep])

theorem queueTests_keep (a1) (s : State) : (queueTests a1 s).keep = s.keep := by
  (unfold queueTests; simp only [keep_mk, keep_fold, apply_ite State.keep, ite_self, next_keep, whenS_keep, forEach_keep, ifSome_keep, foldl_keep, modBat_keep]; done)

theorem takeScan_keep (a1) (a2) (a3) (s : State) : (takeScan a1 a2 a3 s).keep = s.keep := by
  (unfold takeScan; simp only [keep_mk, keep_fold, apply_ite State.keep, ite_self, next_keep, whenS_keep, forEach_keep, ifSome_keep, foldl_keep, modBat_keep]; done)

theorem scanTaps_keep (s : State) : (scanTaps s).keep = s.keep := by
  (unfold scanTaps; grind [keep_mk, keep_fold, whenS_keep, forEach_keep, ifSome_keep, foldl_keep, queueTests_keep, modBat_keep])

theorem scanSum_keep (s : State) : (scanSum s).keep = s.keep := by
  (unfold scanSum; simp only [keep_mk, keep_fold, apply_ite State.keep, ite_self, next_keep, whenS_keep, forEach_keep, ifSome_keep, foldl_keep, modBat_keep, queueTests_keep, batEvent_keep]; done)

theorem scanLimits_keep (s : State) : (scanLimits s).keep = s.keep := by
  (unfold scanLimits; grind [keep_mk, keep_fold, whenS_keep, forEach_keep, ifSome_keep, foldl_keep, modBat_keep, batEvent_keep, stopCharge_keep, blockDischarge_keep])

theorem scanTemps_keep (s : State) : (scanTemps s).keep = s.keep := by
  (unfold scanTemps; simp only [keep_mk, keep_fold, apply_ite State.keep, ite_self, next_keep, whenS_keep, forEach_keep, ifSome_keep, foldl_keep, modBat_keep, blockDischarge_keep]; done)

theorem scanEmpty_keep (s : State) : (scanEmpty s).keep = s.keep := by
  (unfold scanEmpty; simp only [keep_mk, keep_fold, apply_ite State.keep, ite_self, next_keep, whenS_keep, forEach_keep, ifSome_keep, foldl_keep, modBat_keep, emptyMark_keep]; done)

theorem scanBleed_keep (s : State) : (scanBleed s).keep = s.keep := by
  (unfold scanBleed; simp only [keep_mk, keep_fold, apply_ite State.keep, ite_self, next_keep, whenS_keep, forEach_keep, ifSome_keep, foldl_keep, modBat_keep]; done)

theorem scan_keep (a1) (a2) (a3) (s : State) : (scan a1 a2 a3 s).keep = s.keep := by
  (unfold scan; simp only [keep_mk, keep_fold, apply_ite State.keep, ite_self, next_keep, whenS_keep, forEach_keep, ifSome_keep, foldl_keep, scanBleed_keep, chargeEval_keep, dsgEval_keep, scanEmpty_keep, scanTemps_keep, scanLimits_keep, scanSum_keep, scanTaps_keep, takeScan_keep]; done)

theorem batPowerUp_keep (s : State) : (batPowerUp s).keep = s.keep := by
  (unfold batPowerUp; grind [keep_mk, keep_fold, whenS_keep, forEach_keep, ifSome_keep, foldl_keep, modBat_keep, modKeep_keep, queueTests_keep])

theorem setBatCfg_keep (a1) (s : State) : (setBatCfg a1 s).keep = s.keep := by
  (unfold setBatCfg; simp only [keep_mk, keep_fold, apply_ite State.keep, ite_self, next_keep, whenS_keep, forEach_keep, ifSome_keep, foldl_keep, modBat_keep, modKeep_keep, loseCharge_keep, stopCharge_keep, chargeEval_keep]; done)

theorem batLoad_keep (a1) (s : State) : (batLoad a1 s).keep = s.keep := by
  (unfold batLoad; simp only [keep_mk, keep_fold, apply_ite State.keep, ite_self, next_keep, whenS_keep, forEach_keep, ifSome_keep, foldl_keep, modBat_keep, batPowerUp_keep, stopCharge_keep, chargeEval_keep, setBatCfg_keep]; done)

theorem resetDone_keep (a1) (s : State) : (resetDone a1 s).keep = s.keep := by
  (unfold resetDone; simp only [keep_mk, keep_fold, apply_ite State.keep, ite_self, next_keep, whenS_keep, forEach_keep, ifSome_keep, foldl_keep, batLoad_keep, endReset_keep]; done)

theorem execBatScan_keep (a1) (a2) (a3) (a4) (s : State) : ∃ t, execBatScan a1 a2 a3 a4 s = .next t ∧ t.keep = s.keep := by
  (unfold execBatScan; simp only [keep_mk, keep_fold, apply_ite State.keep, ite_self, next_keep, whenS_keep, forEach_keep, ifSome_keep, foldl_keep, scan_keep]; done)

theorem execCoulombSample_keep (a1) (s : State) : ∃ t, execCoulombSample a1 s = .next t ∧ t.keep = s.keep := by
  (unfold execCoulombSample; simp only [keep_mk, keep_fold, apply_ite State.keep, ite_self, next_keep, whenS_keep, forEach_keep, ifSome_keep, foldl_keep, coulomb_keep]; done)

theorem execOcd_keep (a1) (s : State) : ∃ t, execOcd a1 s = .next t ∧ t.keep = s.keep := by
  (unfold execOcd; simp only [keep_mk, keep_fold, apply_ite State.keep, ite_self, next_keep, whenS_keep, forEach_keep, ifSome_keep, foldl_keep, batEvent_keep]; done)

theorem endOpenWire_keep (s : State) : (endOpenWire s).keep = s.keep := by
  (unfold endOpenWire; grind [keep_mk, keep_fold, whenS_keep, forEach_keep, ifSome_keep, foldl_keep, complete_keep])

theorem execOpenWireTest_keep (a1) (s : State) : ∃ t, execOpenWireTest a1 s = .next t ∧ t.keep = s.keep := by
  (unfold execOpenWireTest; grind [keep_mk, keep_fold, whenS_keep, forEach_keep, ifSome_keep, foldl_keep, modBat_keep, batEvent_keep, endOpenWire_keep, chargeEval_keep])

theorem execOpenWirePeriod_keep (s : State) : ∃ t, execOpenWirePeriod s = .next t ∧ t.keep = s.keep := by
  (unfold execOpenWirePeriod; simp only [keep_mk, keep_fold, apply_ite State.keep, ite_self, next_keep, whenS_keep, forEach_keep, ifSome_keep, foldl_keep, queueTests_keep]; done)

theorem execRestReached_keep (s : State) : ∃ t, execRestReached s = .next t ∧ t.keep = s.keep := by
  (unfold execRestReached; simp only [keep_mk, keep_fold, apply_ite State.keep, ite_self, next_keep, whenS_keep, forEach_keep, ifSome_keep, foldl_keep, modBat_keep]; done)

theorem execRebaseEvaluation_keep (s : State) : ∃ t, execRebaseEvaluation s = .next t ∧ t.keep = s.keep := by
  (unfold execRebaseEvaluation; simp only [keep_mk, keep_fold, apply_ite State.keep, ite_self, next_keep, whenS_keep, forEach_keep, ifSome_keep, foldl_keep, rebase_keep]; done)

theorem execChargeUpdate_keep (a1) (s : State) : ∃ t, execChargeUpdate a1 s = .next t ∧ t.keep = s.keep := by
  (unfold execChargeUpdate; grind [keep_mk, keep_fold, whenS_keep, forEach_keep, ifSome_keep, foldl_keep, modBat_keep, batEvent_keep, toCharger_keep, stopCharge_keep, fullMark_keep])

theorem execChargerRetry_keep (a1) (s : State) : ∃ t, execChargerRetry a1 s = .next t ∧ t.keep = s.keep := by
  (unfold execChargerRetry; simp only [keep_mk, keep_fold, apply_ite State.keep, ite_self, next_keep, whenS_keep, forEach_keep, ifSome_keep, foldl_keep, chargeEval_keep, modBat_keep]; done)

theorem execBatLimitsSet_keep (s : State) : ∃ t, execBatLimitsSet s = .next t ∧ t.keep = s.keep := by
  unfold execBatLimitsSet
  refine interpret_keep _ _ _ ?_
  intro p s
  dsimp only
  repeat' split
  all_goals first
    | exact fail_keep _ _ _ _ _
    | exact badParam_keep _ _ _
    | (refine checked_keep _ _ _ _ _ ?_; intro s; grind [ok_keep, setBatCfg_keep, modBat_keep, dsgEval_keep, keep_mk, keep_fold])

theorem execBatOpenWireTest_keep (s : State) : ∃ t, execBatOpenWireTest s = .next t ∧ t.keep = s.keep := by
  (unfold execBatOpenWireTest; refine interpret_keep _ _ _ ?_; intro p s; refine checked_keep _ _ _ _ _ ?_; intro s; simp only [keep_mk, keep_fold, apply_ite State.keep, ite_self, next_keep, whenS_keep, forEach_keep, ifSome_keep, foldl_keep, interpret_keep, checked_keep, fail_keep, endOpenWire_keep, waitFor_keep, queueTests_keep, modBat_keep]; done)

theorem execBatChargerSet_keep (s : State) : ∃ t, execBatChargerSet s = .next t ∧ t.keep = s.keep := by
  (unfold execBatChargerSet; refine interpret_keep _ _ _ ?_; intro p s; refine checked_keep _ _ _ _ _ ?_; intro s; simp only [keep_mk, keep_fold, apply_ite State.keep, ite_self, next_keep, whenS_keep, forEach_keep, ifSome_keep, foldl_keep, interpret_keep, checked_keep, ok_keep, chargeEval_keep, modBat_keep]; done)

theorem execBatStatus_keep (s : State) : ∃ t, execBatStatus s = .next t ∧ t.keep = s.keep := by
  (unfold execBatStatus; refine interpret_keep _ _ _ ?_; intro p s; refine checked_keep _ _ _ _ _ ?_; intro s; simp only [keep_mk, keep_fold, apply_ite State.keep, ite_self, next_keep, whenS_keep, forEach_keep, ifSome_keep, foldl_keep, interpret_keep, checked_keep, complete_keep]; done)

theorem setCadWarden_keep (a1) (a2) (s : State) : (setCadWarden a1 a2 s).keep = s.keep := by
  (unfold setCadWarden; simp only [keep_mk, keep_fold, apply_ite State.keep, ite_self, next_keep, whenS_keep, forEach_keep, ifSome_keep, foldl_keep]; done)

theorem forgetBuf_keep (a1) (s : State) : (forgetBuf a1 s).keep = s.keep := by
  (unfold forgetBuf; simp only [keep_mk, keep_fold, apply_ite State.keep, ite_self, next_keep, whenS_keep, forEach_keep, ifSome_keep, foldl_keep]; done)

theorem markUsed_keep (a1) (s : State) : (markUsed a1 s).keep = s.keep := by
  (unfold markUsed; simp only [keep_mk, keep_fold, apply_ite State.keep, ite_self, next_keep, whenS_keep, forEach_keep, ifSome_keep, foldl_keep]; done)

theorem execCadWAlloc_keep (a1) (a2) (s : State) : ∃ t, execCadWAlloc a1 a2 s = .next t ∧ t.keep = s.keep := by
  (unfold execCadWAlloc; (repeat' split) <;> (refine ⟨_, rfl, ?_⟩) <;> (first | (simp (disch := (intros; first | (simp only [keep_mk, keep_fold, apply_ite State.keep, ite_self, next_keep, whenS_keep, forEach_keep, ifSome_keep, foldl_keep, takeOne_keep, setCadWarden_keep, forgetBuf_keep]; done) | grind [keep_mk, keep_fold, whenS_keep, forEach_keep, ifSome_keep, foldl_keep, takeOne_keep, setCadWarden_keep, forgetBuf_keep, Option.map_eq_some_iff, Option.bind_eq_some_iff])) only [keep_mk, keep_fold, apply_ite State.keep, ite_self, next_keep, whenS_keep, forEach_keep, ifSome_keep, foldl_keep, takeOne_keep, setCadWarden_keep, forgetBuf_keep]; done) | grind [keep_mk, keep_fold, whenS_keep, forEach_keep, ifSome_keep, foldl_keep, takeOne_keep, setCadWarden_keep, forgetBuf_keep, Option.map_eq_some_iff, Option.bind_eq_some_iff]))

theorem execCadWFree_keep (a1) (s : State) : ∃ t, execCadWFree a1 s = .next t ∧ t.keep = s.keep := by
  (unfold execCadWFree; grind [keep_mk, keep_fold, whenS_keep, forEach_keep, ifSome_keep, foldl_keep, cadFree_keep, forgetBuf_keep, setCadWarden_keep])

theorem execCacheRefill_keep (a1) (s : State) : ∃ t, execCacheRefill a1 s = .next t ∧ t.keep = s.keep := by
  (unfold execCacheRefill; grind [keep_mk, keep_fold, whenS_keep, forEach_keep, ifSome_keep, foldl_keep, modPool_keep])

theorem execCaddyWipeDone_keep (a1) (s : State) : ∃ t, execCaddyWipeDone a1 s = .next t ∧ t.keep = s.keep := by
  (unfold execCaddyWipeDone; grind [keep_mk, keep_fold, whenS_keep, forEach_keep, ifSome_keep, foldl_keep, modPool_keep])

theorem hurryWipe_keep (a1) (a2) (a3) (s : State) : (hurryWipe a1 a2 a3 s).keep = s.keep := by
  (unfold hurryWipe; simp only [keep_mk, keep_fold, apply_ite State.keep, ite_self, next_keep, whenS_keep, forEach_keep, ifSome_keep, foldl_keep]; done)

theorem execCadPoolCreate_keep (s : State) : ∃ t, execCadPoolCreate s = .next t ∧ t.keep = s.keep := by
  (unfold execCadPoolCreate; refine interpret_keep _ _ _ ?_; intro p s; refine checked_keep _ _ _ _ _ ?_; intro s; simp only [keep_mk, keep_fold, apply_ite State.keep, ite_self, next_keep, whenS_keep, forEach_keep, ifSome_keep, foldl_keep, interpret_keep, checked_keep, fail_keep, hurryWipe_keep, complete_keep, modPool_keep, markUsed_keep]; done)

theorem releasePool_keep (a1) (s : State) : (releasePool a1 s).keep = s.keep := by
  (unfold releasePool; simp only [keep_mk, keep_fold, apply_ite State.keep, ite_self, next_keep, whenS_keep, forEach_keep, ifSome_keep, foldl_keep, logEvent_keep, modPool_keep, finishWaits_keep]; done)

theorem execCadPoolDestroy_keep (s : State) : ∃ t, execCadPoolDestroy s = .next t ∧ t.keep = s.keep := by
  (unfold execCadPoolDestroy; refine interpret_keep _ _ _ ?_; intro p s; refine checked_keep _ _ _ _ _ ?_; intro s; simp only [keep_mk, keep_fold, apply_ite State.keep, ite_self, next_keep, whenS_keep, forEach_keep, ifSome_keep, foldl_keep, interpret_keep, checked_keep, releasePool_keep, waitFor_keep, modPool_keep]; done)

end Sys2Proof.Machine
end

