-- ==== Sys2Proof/Laws/Keep6.lean ====
section
/-!
SUPPORT. Sys2Proof/Laws/Keep6.lean: part 6 of 8 of the frame lemmas, one for each function on states: it leaves the queue, the microseconds, the OTP and the label locks alone.
-/
namespace Sys2Proof.Machine
open Sys2Proof
set_option linter.all false
set_option maxRecDepth 4000

theorem execPoolReleased_keep (a1) (s : State) : ∃ t, execPoolReleased a1 s = .next t ∧ t.keep = s.keep := by
  (unfold execPoolReleased; simp only [keep_mk, keep_fold, apply_ite State.keep, ite_self, next_keep, whenS_keep, forEach_keep, ifSome_keep, foldl_keep, releasePool_keep]; done)

theorem execCadPoolStatus_keep (s : State) : ∃ t, execCadPoolStatus s = .next t ∧ t.keep = s.keep := by
  (unfold execCadPoolStatus; refine interpret_keep _ _ _ ?_; intro p s; refine checked_keep _ _ _ _ _ ?_; intro s; simp only [keep_mk, keep_fold, apply_ite State.keep, ite_self, next_keep, whenS_keep, forEach_keep, ifSome_keep, foldl_keep, interpret_keep, checked_keep, complete_keep]; done)

theorem poolRecords_keep (a1) (s : State) : (poolRecords a1 s).keep = s.keep := by
  (unfold poolRecords; grind [keep_mk, keep_fold, whenS_keep, forEach_keep, ifSome_keep, foldl_keep, logEvent_keep])

theorem activate_keep (a1) (s : State) : (activate a1 s).keep = s.keep := by
  (unfold activate; simp only [keep_mk, keep_fold, apply_ite State.keep, ite_self, next_keep, whenS_keep, forEach_keep, ifSome_keep, foldl_keep, modDomain_keep, switchOn_keep, setDomain_keep]; done)

theorem removeItem_keep (a1) (a2) (s : State) : (removeItem a1 a2 s).keep = s.keep := by
  (unfold removeItem; simp only [keep_mk, keep_fold, apply_ite State.keep, ite_self, next_keep, whenS_keep, forEach_keep, ifSome_keep, foldl_keep, modPoint_keep]; done)

theorem replaceItem_keep (a1) (a2) (s : State) : (replaceItem a1 a2 s).keep = s.keep := by
  (unfold replaceItem; simp only [keep_mk, keep_fold, apply_ite State.keep, ite_self, next_keep, whenS_keep, forEach_keep, ifSome_keep, foldl_keep, modPoint_keep]; done)

theorem fenceItem_keep (a1) (a2) (s : State) : (fenceItem a1 a2 s).keep = s.keep := by
  (unfold fenceItem; grind [keep_mk, keep_fold, whenS_keep, forEach_keep, ifSome_keep, foldl_keep, removeItem_keep, failEntry_keep, failWaits_keep, modSto_keep, dropFrame_keep])

theorem reenter_keep (a1) (a2) (s : State) : (reenter a1 a2 s).keep = s.keep := by
  (induction a1 generalizing s <;> unfold reenter <;> grind [keep_mk, keep_fold, whenS_keep, forEach_keep, ifSome_keep, foldl_keep, cryptEnter_keep, replaceItem_keep, dropFrame_keep, removeItem_keep])

theorem wakeUnit_keep (a1) (s : State) : (wakeUnit a1 s).keep = s.keep := by
  (unfold wakeUnit; grind [keep_mk, keep_fold, whenS_keep, forEach_keep, ifSome_keep, foldl_keep, switchOn_keep])

theorem moveItems_keep (a1) (a2) (s : State) : (moveItems a1 a2 s).keep = s.keep := by
  (unfold moveItems; grind [keep_mk, keep_fold, whenS_keep, forEach_keep, ifSome_keep, foldl_keep, wakeUnit_keep, countEv_keep, reenter_keep, modPoint_keep, fenceItem_keep, finishSaDel_keep])

theorem poolCheck_keep (a1) (s : State) : (poolCheck a1 s).keep = s.keep := by
  (unfold poolCheck; grind [keep_mk, keep_fold, whenS_keep, forEach_keep, ifSome_keep, foldl_keep, wakeUnit_keep, fenceItem_keep])

theorem storageLost_keep (a1) (s : State) : (storageLost a1 s).keep = s.keep := by
  (unfold storageLost; grind [keep_mk, keep_fold, whenS_keep, forEach_keep, ifSome_keep, foldl_keep, connClose_keep, fenceItem_keep, moveItems_keep])

theorem sliceLost_keep (a1) (a2) (s : State) : (sliceLost a1 a2 s).keep = s.keep := by
  (unfold sliceLost; grind [keep_mk, keep_fold, whenS_keep, forEach_keep, ifSome_keep, foldl_keep, dropFrame_keep, logEvent_keep])

theorem halfLost_keep (a1) (s : State) : (halfLost a1 s).keep = s.keep := by
  (unfold halfLost; grind [keep_mk, keep_fold, whenS_keep, forEach_keep, ifSome_keep, foldl_keep, cadRelease_keep, purgeEntry_keep, failWaits_keep, setRing_keep])

theorem poolLoses_keep (a1) (a2) (a3) (s : State) : (poolLoses a1 a2 a3 s).keep = s.keep := by
  (unfold poolLoses; grind [keep_mk, keep_fold, whenS_keep, forEach_keep, ifSome_keep, foldl_keep, modPool_keep, failEntry_keep, purgeEntry_keep, discardFrames_keep, dropRx_keep, cadRelease_keep, modLat_keep, finishWaits_keep])

theorem bankLost_keep (a1) (s : State) : (bankLost a1 s).keep = s.keep := by
  (unfold bankLost; grind [keep_mk, keep_fold, whenS_keep, forEach_keep, ifSome_keep, foldl_keep, poolLoses_keep])

theorem channelLost_keep (a1) (s : State) : (channelLost a1 s).keep = s.keep := by
  (unfold channelLost; grind [keep_mk, keep_fold, whenS_keep, forEach_keep, ifSome_keep, foldl_keep, poolLoses_keep])

theorem lanesLost_keep (a1) (s : State) : (lanesLost a1 s).keep = s.keep := by
  (unfold lanesLost; grind [keep_mk, keep_fold, whenS_keep, forEach_keep, ifSome_keep, foldl_keep, hoCheck_keep, setPort_keep])

theorem signalLost_keep (a1) (s : State) : (signalLost a1 s).keep = s.keep := by
  (unfold signalLost; simp only [keep_mk, keep_fold, apply_ite State.keep, ite_self, next_keep, whenS_keep, forEach_keep, ifSome_keep, foldl_keep, endPour_keep, endSlews_keep, stopEngine_keep, modSge_keep, modSio_keep]; done)

theorem partLost_keep (a1) (a2) (s : State) : (partLost a1 a2 s).keep = s.keep := by
  (unfold partLost; simp only [keep_mk, keep_fold, apply_ite State.keep, ite_self, next_keep, whenS_keep, forEach_keep, ifSome_keep, foldl_keep, sensorFault_keep, closeSession_keep, lblFenced_keep, stopCharge_keep, endSlews_keep, signalLost_keep, convReset_keep, linkWidth_keep, halfLost_keep, sliceLost_keep, lanesLost_keep, hoCheck_keep, latRefresh_keep, modLat_keep, cadRelease_keep, wipeSlots_keep, modCry_keep, moveItems_keep, storageLost_keep, channelLost_keep, bankOff_keep, bankLost_keep]; done)

theorem failFenced_keep (s : State) : (failFenced s).keep = s.keep := by
  (unfold failFenced; grind [keep_mk, keep_fold, whenS_keep, forEach_keep, ifSome_keep, foldl_keep, fail_keep])

theorem moveBank_keep (a1) (s : State) : (moveBank a1 s).keep = s.keep := by
  (unfold moveBank; grind [keep_mk, keep_fold, whenS_keep, forEach_keep, ifSome_keep, foldl_keep, logEvent_keep])

theorem fenceDomain_keep (a1) (a2) (a3) (a4) (s : State) : (fenceDomain a1 a2 a3 a4 s).2.keep = s.keep := by
  (unfold fenceDomain; grind [keep_mk, keep_fold, whenS_keep, forEach_keep, ifSome_keep, foldl_keep, moveBank_keep, leftOn_keep, modDomain_keep, activate_keep, partLost_keep, modWdn_keep, failFenced_keep, logEvent_keep, poolRecords_keep, routePost_keep])

theorem fenceDomain_keep2 (a1) (a2) (a3) (a4) (s : State) : ∀ y0 t, (fenceDomain a1 a2 a3 a4 s) = (y0, t) → t.keep = s.keep := by
  intro y0 t h; have := fenceDomain_keep a1 a2 a3 a4 s; rw [h] at this; exact this

theorem fenceAll_keep (a1) (a2) (a3) (s : State) : (fenceAll a1 a2 a3 s).2.keep = s.keep := by
  unfold fenceAll
  have fold : ∀ (l : List Nat) (x : Option Nat × State), (l.foldl (fun (a : Option Nat × State) d => if a.2.aon.fence.contains d then a else
    let r := fenceDomain a.2.poolStates d a2 a3 a.2
    (r.1.orElse fun _ => a.1, r.2)) x).2.keep = x.2.keep := by
    intro l
    induction l with
    | nil => intro x; rfl
    | cons y l ih => intro x; simp only [List.foldl_cons]; rw [ih]; grind [fenceDomain_keep]
  exact fold a1 _

theorem fenceAll_keep2 (a1) (a2) (a3) (s : State) : ∀ y0 t, (fenceAll a1 a2 a3 s) = (y0, t) → t.keep = s.keep := by
  intro y0 t h; have := fenceAll_keep a1 a2 a3 s; rw [h] at this; exact this

theorem loseRole_keep (a1) (s : State) : (loseRole a1 s).keep = s.keep := by
  (unfold loseRole; grind [keep_mk, keep_fold, whenS_keep, forEach_keep, ifSome_keep, foldl_keep, clearRole_keep, modRole_keep, modCore_keep, modWdn_keep, fail_keep, logEvent_keep])

theorem startMove_keep (a1) (a2) (a3) (a4) (s : State) : (startMove a1 a2 a3 a4 s).keep = s.keep := by
  (unfold startMove; simp only [keep_mk, keep_fold, apply_ite State.keep, ite_self, next_keep, whenS_keep, forEach_keep, ifSome_keep, foldl_keep, activate_keep, modRole_keep]; done)

theorem fenceCore_keep (a1) (a2) (s : State) : (fenceCore a1 a2 s).keep = s.keep := by
  (unfold fenceCore; grind [keep_mk, keep_fold, whenS_keep, forEach_keep, ifSome_keep, foldl_keep, modRole_keep, startMove_keep, logEvent_keep, fenceDomain_keep, loseRole_keep])

theorem autoFence_keep (a1) (a2) (s : State) : (autoFence a1 a2 s).keep = s.keep := by
  (unfold autoFence; simp only [keep_mk, keep_fold, apply_ite State.keep, ite_self, next_keep, whenS_keep, forEach_keep, ifSome_keep, foldl_keep, fenceCore_keep, fenceAll_keep]; done)

theorem fenceChannel_keep (a1) (s : State) : (fenceChannel a1 s).keep = s.keep := by
  (unfold fenceChannel; simp only [keep_mk, keep_fold, apply_ite State.keep, ite_self, next_keep, whenS_keep, forEach_keep, ifSome_keep, foldl_keep, autoFence_keep]; done)

theorem domainFaultSeen_keep (a1) (s : State) : (domainFaultSeen a1 s).keep = s.keep := by
  (unfold domainFaultSeen; simp only [keep_mk, keep_fold, apply_ite State.keep, ite_self, next_keep, whenS_keep, forEach_keep, ifSome_keep, foldl_keep, autoFence_keep]; done)

theorem finishUnfence_keep (a1) (s : State) : (finishUnfence a1 s).keep = s.keep := by
  (unfold finishUnfence; grind [keep_mk, keep_fold, whenS_keep, forEach_keep, ifSome_keep, foldl_keep, finishWaits_keep])

theorem refence_keep (a1) (s : State) : (refence a1 s).keep = s.keep := by
  (unfold refence; simp only [keep_mk, keep_fold, apply_ite State.keep, ite_self, next_keep, whenS_keep, forEach_keep, ifSome_keep, foldl_keep, freeNat_keep, fenceAll_keep, failWaits_keep]; done)

theorem makeSpare_keep (a1) (s : State) : (makeSpare a1 s).keep = s.keep := by
  (unfold makeSpare; simp only [keep_mk, keep_fold, apply_ite State.keep, ite_self, next_keep, whenS_keep, forEach_keep, ifSome_keep, foldl_keep, modDomain_keep, modWdn_keep]; done)

theorem finishSwap_keep (a1) (s : State) : (finishSwap a1 s).keep = s.keep := by
  (unfold finishSwap; simp only [keep_mk, keep_fold, apply_ite State.keep, ite_self, next_keep, whenS_keep, forEach_keep, ifSome_keep, foldl_keep, modSto_keep, modPoint_keep, makeSpare_keep, moveItems_keep, fenceDomain_keep, poolRecords_keep, logEvent_keep, finishWaits_keep]; done)

theorem dropSwap_keep (a1) (s : State) : (dropSwap a1 s).keep = s.keep := by
  (unfold dropSwap; simp only [keep_mk, keep_fold, apply_ite State.keep, ite_self, next_keep, whenS_keep, forEach_keep, ifSome_keep, foldl_keep, failWaits_keep, makeSpare_keep]; done)

theorem dropMoves_keep (a1) (s : State) : (dropMoves a1 s).keep = s.keep := by
  (unfold dropMoves; grind [keep_mk, keep_fold, whenS_keep, forEach_keep, ifSome_keep, foldl_keep, makeSpare_keep, modRole_keep, sched_keep, failWaits_keep, fenceCore_keep, domainFaultSeen_keep])

theorem execHkRoundStart_keep (s : State) : ∃ t, execHkRoundStart s = .next t ∧ t.keep = s.keep := by
  (unfold execHkRoundStart; grind [keep_mk, keep_fold, whenS_keep, forEach_keep, ifSome_keep, foldl_keep])

theorem pmbusResult_keep (a1) (a2) (s : State) : (pmbusResult a1 a2 s).keep = s.keep := by
  (unfold pmbusResult; grind [keep_mk, keep_fold, whenS_keep, forEach_keep, ifSome_keep, foldl_keep, logEvent_keep])

theorem execHkConversion_keep (a1) (a2) (s : State) : ∃ t, execHkConversion a1 a2 s = .next t ∧ t.keep = s.keep := by
  (unfold execHkConversion; grind [keep_mk, keep_fold, whenS_keep, forEach_keep, ifSome_keep, foldl_keep, pmbusResult_keep])

theorem bandStep_keep (s : State) : (bandStep s).keep = s.keep := by
  (unfold bandStep; simp only [keep_mk, keep_fold, apply_ite State.keep, ite_self, next_keep, whenS_keep, forEach_keep, ifSome_keep, foldl_keep, logEvent_keep]; done)

theorem rorJudge_keep (a1) (a2) (a3) (s : State) : (rorJudge a1 a2 a3 s).keep = s.keep := by
  (unfold rorJudge; simp only [keep_mk, keep_fold, apply_ite State.keep, ite_self, next_keep, whenS_keep, forEach_keep, ifSome_keep, foldl_keep, thermalEvent_keep, logEvent_keep]; done)

theorem rorStep_keep (s : State) : (rorStep s).keep = s.keep := by
  (unfold rorStep; simp only [keep_mk, keep_fold, apply_ite State.keep, ite_self, next_keep, whenS_keep, forEach_keep, ifSome_keep, foldl_keep, rorJudge_keep, capRecord_keep]; done)

theorem actTrim_keep (s : State) : (actTrim s).keep = s.keep := by
  (unfold actTrim; simp only [keep_mk, keep_fold, apply_ite State.keep, ite_self, next_keep, whenS_keep, forEach_keep, ifSome_keep, foldl_keep, enterRunTrim_keep]; done)

theorem overtempStep_keep (a1) (s : State) : (overtempStep a1 s).keep = s.keep := by
  unfold overtempStep
  grind [keep_mk, keep_fold, whenS_keep, ifSome_keep, capRecord_keep, logEvent_keep]

theorem conditionNotice_keep (s : State) : (conditionNotice s).keep = s.keep := by
  (unfold conditionNotice; simp only [keep_mk, keep_fold, apply_ite State.keep, ite_self, next_keep, whenS_keep, forEach_keep, ifSome_keep, foldl_keep, thermalNotice_keep]; done)

theorem thermalActions_keep (s : State) : (thermalActions s).keep = s.keep := by
  (unfold thermalActions; grind [keep_mk, keep_fold, whenS_keep, forEach_keep, ifSome_keep, foldl_keep, shelfNow_keep, logEvent_keep, callDown_keep, actTrim_keep])

theorem execHkPublication_keep (a1) (a2) (a3) (s : State) : ∃ t, execHkPublication a1 a2 a3 s = .next t ∧ t.keep = s.keep := by
  (unfold execHkPublication; grind [keep_mk, keep_fold, whenS_keep, forEach_keep, ifSome_keep, foldl_keep, logEvent_keep, routePost_keep, overtempStep_keep, conditionNotice_keep, actTrim_keep, sensorFault_keep, thermalActions_keep, rorStep_keep, bandStep_keep])

theorem execTrimSlewStep_keep (s : State) : ∃ t, execTrimSlewStep s = .next t ∧ t.keep = s.keep := by
  (unfold execTrimSlewStep; grind [keep_mk, keep_fold, whenS_keep, forEach_keep, ifSome_keep, foldl_keep])

theorem execClockLoss_keep (a1) (s : State) : ∃ t, execClockLoss a1 s = .next t ∧ t.keep = s.keep := by
  (unfold execClockLoss; grind [keep_mk, keep_fold, whenS_keep, forEach_keep, ifSome_keep, foldl_keep, shelfNow_keep, abandonPowerUp_keep])

theorem execRefclkLost_keep (a1) (s : State) : ∃ t, execRefclkLost a1 s = .next t ∧ t.keep = s.keep := by
  (unfold execRefclkLost; simp only [keep_mk, keep_fold, apply_ite State.keep, ite_self, next_keep, whenS_keep, forEach_keep, ifSome_keep, foldl_keep, refclkLost_keep, logEvent_keep]; done)

theorem execRefclkReturn_keep (a1) (s : State) : ∃ t, execRefclkReturn a1 s = .next t ∧ t.keep = s.keep := by
  (unfold execRefclkReturn; simp only [keep_mk, keep_fold, apply_ite State.keep, ite_self, next_keep, whenS_keep, forEach_keep, ifSome_keep, foldl_keep, refclkBack_keep, logEvent_keep]; done)

theorem execDdrPllUnlock_keep (a1) (s : State) : ∃ t, execDdrPllUnlock a1 s = .next t ∧ t.keep = s.keep := by
  (unfold execDdrPllUnlock; grind [keep_mk, keep_fold, whenS_keep, forEach_keep, ifSome_keep, foldl_keep])

theorem execDdrPllRelockTimeout_keep (a1) (a2) (s : State) : ∃ t, execDdrPllRelockTimeout a1 a2 s = .next t ∧ t.keep = s.keep := by
  (unfold execDdrPllRelockTimeout; grind [keep_mk, keep_fold, whenS_keep, forEach_keep, ifSome_keep, foldl_keep, fenceChannel_keep, logEvent_keep])

theorem execHkpStatus_keep (s : State) : ∃ t, execHkpStatus s = .next t ∧ t.keep = s.keep := by
  (unfold execHkpStatus; refine interpret_keep _ _ _ ?_; intro p s; refine checked_keep _ _ _ _ _ ?_; intro s; simp only [keep_mk, keep_fold, apply_ite State.keep, ite_self, next_keep, whenS_keep, forEach_keep, ifSome_keep, foldl_keep, interpret_keep, checked_keep, complete_keep]; done)

theorem execHkpThresholdsSet_keep (s : State) : ∃ t, execHkpThresholdsSet s = .next t ∧ t.keep = s.keep := by
  (unfold execHkpThresholdsSet; refine interpret_keep _ _ _ ?_; intro p s; refine checked_keep _ _ _ _ _ ?_; intro s; simp only [keep_mk, keep_fold, apply_ite State.keep, ite_self, next_keep, whenS_keep, forEach_keep, ifSome_keep, foldl_keep, interpret_keep, checked_keep, ok_keep]; done)

theorem execClkStatus_keep (s : State) : ∃ t, execClkStatus s = .next t ∧ t.keep = s.keep := by
  (unfold execClkStatus; refine interpret_keep _ _ _ ?_; intro p s; refine checked_keep _ _ _ _ _ ?_; intro s; simp only [keep_mk, keep_fold, apply_ite State.keep, ite_self, next_keep, whenS_keep, forEach_keep, ifSome_keep, foldl_keep, interpret_keep, checked_keep, complete_keep]; done)

theorem execTdmFrameComplete_keep (a1) (a2) (s : State) : ∃ t, execTdmFrameComplete a1 a2 s = .next t ∧ t.keep = s.keep := by
  (unfold execTdmFrameComplete; grind [keep_mk, keep_fold, whenS_keep, forEach_keep, ifSome_keep, foldl_keep, modSio_keep])

theorem execAdcConversion_keep (a1) (a2) (s : State) : ∃ t, execAdcConversion a1 a2 s = .next t ∧ t.keep = s.keep := by
  (unfold execAdcConversion; grind [keep_mk, keep_fold, whenS_keep, forEach_keep, ifSome_keep, foldl_keep, modSio_keep])

theorem execCaptureEdge_keep (a1) (a2) (a3) (s : State) : ∃ t, execCaptureEdge a1 a2 a3 s = .next t ∧ t.keep = s.keep := by
  (unfold execCaptureEdge; grind [keep_mk, keep_fold, whenS_keep, forEach_keep, ifSome_keep, foldl_keep, modSio_keep])

theorem execPwmPeriodStart_keep (a1) (s : State) : ∃ t, execPwmPeriodStart a1 s = .next t ∧ t.keep = s.keep := by
  (unfold execPwmPeriodStart; grind [keep_mk, keep_fold, whenS_keep, forEach_keep, ifSome_keep, foldl_keep, modSio_keep])

theorem stageCommand_keep (a1) (s : State) : (stageCommand a1 s).keep = s.keep := by
  (unfold stageCommand; grind [keep_mk, keep_fold, whenS_keep, forEach_keep, ifSome_keep, foldl_keep, fail_keep, badParam_keep, complete_keep, modSio_keep])

theorem commitCommand_keep (a1) (s : State) : (commitCommand a1 s).keep = s.keep := by
  (unfold commitCommand; grind [keep_mk, keep_fold, whenS_keep, forEach_keep, ifSome_keep, foldl_keep, checked_keep, modSio_keep, complete_keep, fail_keep, waitFor_keep, freeNat_keep])

theorem pourCommand_keep (a1) (a2) (s : State) (h2 : ∀ x0 s, (a2 x0 s).keep = s.keep) : (pourCommand a1 a2 s).keep = s.keep := by
  unfold pourCommand
  split
  · exact waitFor_keep _ _ _
  · exact h2 _ _

theorem execSgePourStage_keep (s : State) : ∃ t, execSgePourStage s = .next t ∧ t.keep = s.keep := by
  exact interpret_keep _ _ _ fun p s => pourCommand_keep _ _ _ fun p s => stageCommand_keep p s

theorem execSgePourCommit_keep (s : State) : ∃ t, execSgePourCommit s = .next t ∧ t.keep = s.keep := by
  exact interpret_keep _ _ _ fun p s => pourCommand_keep _ _ _ fun p s => commitCommand_keep p s

theorem latePours_keep (s : State) : (latePours s).keep = s.keep := by
  (unfold latePours; grind [keep_mk, keep_fold, whenS_keep, forEach_keep, ifSome_keep, foldl_keep, stageCommand_keep, commitCommand_keep])

theorem execPourCopyDone_keep (s : State) : ∃ t, execPourCopyDone s = .next t ∧ t.keep = s.keep := by
  (unfold execPourCopyDone; grind [keep_mk, keep_fold, whenS_keep, forEach_keep, ifSome_keep, foldl_keep, modSio_keep, finishWaits_keep, wardenPour_keep, lateLegs_keep, latePours_keep])

theorem execSioPourValue_keep (a1) (a2) (s : State) : ∃ t, execSioPourValue a1 a2 s = .next t ∧ t.keep = s.keep := by
  (unfold execSioPourValue; simp only [keep_mk, keep_fold, apply_ite State.keep, ite_self, next_keep, whenS_keep, forEach_keep, ifSome_keep, foldl_keep, pourWrite_keep]; done)

theorem execPourCommit_keep (a1) (s : State) : ∃ t, execPourCommit a1 s = .next t ∧ t.keep = s.keep := by
  (unfold execPourCommit; simp only [keep_mk, keep_fold, apply_ite State.keep, ite_self, next_keep, whenS_keep, forEach_keep, ifSome_keep, foldl_keep, pourWrite_keep]; done)

theorem execPourDiscard_keep (a1) (s : State) : ∃ t, execPourDiscard a1 s = .next t ∧ t.keep = s.keep := by
  (unfold execPourDiscard; simp only [keep_mk, keep_fold, apply_ite State.keep, ite_self, next_keep, whenS_keep, forEach_keep, ifSome_keep, foldl_keep, pourWrite_keep]; done)

theorem countSlot_keep (a1) (a2) (s : State) : (countSlot a1 a2 s).2.keep = s.keep := by
  (unfold countSlot; simp only [keep_mk, keep_fold, apply_ite State.keep, ite_self, next_keep, whenS_keep, forEach_keep, ifSome_keep, foldl_keep, modSio_keep]; done)

theorem countSlot_keep2 (a1) (a2) (s : State) : ∀ y0 t, (countSlot a1 a2 s) = (y0, t) → t.keep = s.keep := by
  intro y0 t h; have := countSlot_keep a1 a2 s; rw [h] at this; exact this

theorem countSlots_keep (a1) (a2) (a3) (s : State) : (countSlots a1 a2 a3 s).2.keep = s.keep := by
  (fun_induction countSlots <;> grind [keep_mk, keep_fold, whenS_keep, forEach_keep, ifSome_keep, foldl_keep, countSlot_keep])

theorem countSlots_keep2 (a1) (a2) (a3) (s : State) : ∀ y0 t, (countSlots a1 a2 a3 s) = (y0, t) → t.keep = s.keep := by
  intro y0 t h; have := countSlots_keep a1 a2 a3 s; rw [h] at this; exact this

theorem execSgeSlotRead_keep (s : State) : ∃ t, execSgeSlotRead s = .next t ∧ t.keep = s.keep := by
  (unfold execSgeSlotRead; refine interpret_keep _ _ _ ?_; intro p s; refine checked_keep _ _ _ _ _ ?_; intro s; simp only [keep_mk, keep_fold, apply_ite State.keep, ite_self, next_keep, whenS_keep, forEach_keep, ifSome_keep, foldl_keep, interpret_keep, checked_keep, countSlots_keep, complete_keep]; done)

theorem setpointSet_keep (a1) (a2) (s : State) : (setpointSet a1 a2 s).keep = s.keep := by
  (unfold setpointSet; grind [keep_mk, keep_fold, whenS_keep, forEach_keep, ifSome_keep, foldl_keep, badParam_keep, fail_keep, commitLeg_keep, waitFor_keep, setPoint_keep])

theorem setpointDefine_keep (a1) (a2) (s : State) : (setpointDefine a1 a2 s).keep = s.keep := by
  (unfold setpointDefine; grind [keep_mk, keep_fold, whenS_keep, forEach_keep, ifSome_keep, foldl_keep, fail_keep, ok_keep, setPoint_keep])

theorem execPltSetpointSet_keep (s : State) : ∃ t, execPltSetpointSet s = .next t ∧ t.keep = s.keep := by
  (unfold execPltSetpointSet; refine interpret_keep _ _ _ ?_; intro p s; dsimp only; (repeat' split) <;> (first | (simp (disch := (intros; first | (simp only [keep_mk, keep_fold, apply_ite State.keep, ite_self, next_keep, whenS_keep, forEach_keep, ifSome_keep, foldl_keep, interpret_keep, checked_keep, fail_keep, setpointSet_keep, setpointDefine_keep, complete_keep, ok_keep, setPoint_keep]; done) | grind [keep_mk, keep_fold, whenS_keep, forEach_keep, ifSome_keep, foldl_keep, interpret_keep, checked_keep, fail_keep, setpointSet_keep, setpointDefine_keep, complete_keep, ok_keep, setPoint_keep])) only [keep_mk, keep_fold, apply_ite State.keep, ite_self, next_keep, whenS_keep, forEach_keep, ifSome_keep, foldl_keep, interpret_keep, checked_keep, fail_keep, setpointSet_keep, setpointDefine_keep, complete_keep, ok_keep, setPoint_keep]; done) | grind [keep_mk, keep_fold, whenS_keep, forEach_keep, ifSome_keep, foldl_keep, interpret_keep, checked_keep, fail_keep, setpointSet_keep, setpointDefine_keep, complete_keep, ok_keep, setPoint_keep] | (refine checked_keep _ _ _ _ _ ?_; intro s; first | (simp only [keep_mk, keep_fold, apply_ite State.keep, ite_self, next_keep, whenS_keep, forEach_keep, ifSome_keep, foldl_keep, interpret_keep, checked_keep, fail_keep, setpointSet_keep, setpointDefine_keep, complete_keep, ok_keep, setPoint_keep]; done) | grind [keep_mk, keep_fold, whenS_keep, forEach_keep, ifSome_keep, foldl_keep, interpret_keep, checked_keep, fail_keep, setpointSet_keep, setpointDefine_keep, complete_keep, ok_keep, setPoint_keep])))

theorem execSetpointLegCommit_keep (a1) (s : State) : ∃ t, execSetpointLegCommit a1 s = .next t ∧ t.keep = s.keep := by
  (unfold execSetpointLegCommit; grind [keep_mk, keep_fold, whenS_keep, forEach_keep, ifSome_keep, foldl_keep, commitLeg_keep])

theorem execPltStop_keep (s : State) : ∃ t, execPltStop s = .next t ∧ t.keep = s.keep := by
  unfold execPltStop
  refine interpret_keep _ _ _ ?_
  intro p s
  refine checked_keep _ _ _ _ _ ?_
  intro s
  grind [ok_keep, fail_keep, setStop_keep, releaseStop_keep]

theorem stopCtl_keep (a1) (s : State) : (stopCtl a1 s).keep = s.keep := by
  (unfold stopCtl; simp only [keep_mk, keep_fold, apply_ite State.keep, ite_self, next_keep, whenS_keep, forEach_keep, ifSome_keep, foldl_keep, setStop_keep, releaseStop_keep]; done)

theorem execStopCtlAssert_keep (s : State) : ∃ t, execStopCtlAssert s = .next t ∧ t.keep = s.keep := by
  (unfold execStopCtlAssert; simp only [keep_mk, keep_fold, apply_ite State.keep, ite_self, next_keep, whenS_keep, forEach_keep, ifSome_keep, foldl_keep, stopCtl_keep]; done)

theorem execStopCtlRelease_keep (a1) (s : State) : ∃ t, execStopCtlRelease a1 s = .next t ∧ t.keep = s.keep := by
  (unfold execStopCtlRelease; simp only [keep_mk, keep_fold, apply_ite State.keep, ite_self, next_keep, whenS_keep, forEach_keep, ifSome_keep, foldl_keep, stopCtl_keep]; done)

theorem modCan_keep (a1) (s : State) : (modCan a1 s).keep = s.keep := by
  (unfold modCan; simp only [keep_mk, keep_fold, apply_ite State.keep, ite_self, next_keep, whenS_keep, forEach_keep, ifSome_keep, foldl_keep]; done)

theorem applyCan_keep (a1) (s : State) : (applyCan a1 s).keep = s.keep := by
  (unfold applyCan; simp only [keep_mk, keep_fold, apply_ite State.keep, ite_self, next_keep, whenS_keep, forEach_keep, ifSome_keep, foldl_keep, modCan_keep, syncUse_keep]; done)

theorem execCanCfg_keep (s : State) : ∃ t, execCanCfg s = .next t ∧ t.keep = s.keep := by
  (unfold execCanCfg; refine interpret_keep _ _ _ ?_; intro p s; refine checked_keep _ _ _ _ _ ?_; intro s; simp only [keep_mk, keep_fold, apply_ite State.keep, ite_self, next_keep, whenS_keep, forEach_keep, ifSome_keep, foldl_keep, interpret_keep, checked_keep, ok_keep, applyCan_keep]; done)

theorem carriageDrop_keep (a1) (a2) (s : State) : (carriageDrop a1 a2 s).keep = s.keep := by
  (unfold carriageDrop; simp only [keep_mk, keep_fold, apply_ite State.keep, ite_self, next_keep, whenS_keep, forEach_keep, ifSome_keep, foldl_keep, logEvent_keep]; done)

theorem carriageSegment_keep (a1) (a2) (s : State) : (carriageSegment a1 a2 s).keep = s.keep := by
  (unfold carriageSegment; grind [keep_mk, keep_fold, whenS_keep, forEach_keep, ifSome_keep, foldl_keep, modCan_keep, frontEnd_keep, carriageDrop_keep])

theorem execCarriageSegment_keep (a1) (a2) (s : State) : ∃ t, execCarriageSegment a1 a2 s = .next t ∧ t.keep = s.keep := by
  (unfold execCarriageSegment; simp only [keep_mk, keep_fold, apply_ite State.keep, ite_self, next_keep, whenS_keep, forEach_keep, ifSome_keep, foldl_keep, carriageSegment_keep, modCan_keep]; done)

theorem execCarriageGapTimeout_keep (a1) (s : State) : ∃ t, execCarriageGapTimeout a1 s = .next t ∧ t.keep = s.keep := by
  (unfold execCarriageGapTimeout; simp only [keep_mk, keep_fold, apply_ite State.keep, ite_self, next_keep, whenS_keep, forEach_keep, ifSome_keep, foldl_keep, carriageDrop_keep, modCan_keep]; done)

theorem execCanFrameReceived_keep (a1) (a2) (a3) (a4) (a5) (a6) (a7) (s : State) : ∃ t, execCanFrameReceived a1 a2 a3 a4 a5 a6 a7 s = .next t ∧ t.keep = s.keep := by
  (unfold execCanFrameReceived; grind [keep_mk, keep_fold, whenS_keep, forEach_keep, ifSome_keep, foldl_keep, modCan_keep, carriageSegment_keep, routePost_keep, logLimited_keep])

theorem execCanTxDone_keep (s : State) : ∃ t, execCanTxDone s = .next t ∧ t.keep = s.keep := by
  (unfold execCanTxDone; grind [keep_mk, keep_fold, whenS_keep, forEach_keep, ifSome_keep, foldl_keep, modCan_keep, emit_keep, routePost_keep])

theorem canChange_keep (s : State) : (canChange s).keep = s.keep := by
  (unfold canChange; simp only [keep_mk, keep_fold, apply_ite State.keep, ite_self, next_keep, whenS_keep, forEach_keep, ifSome_keep, foldl_keep, routePost_keep, alertBits_keep]; done)

theorem execCanErrorStateChange_keep (a1) (a2) (s : State) : ∃ t, execCanErrorStateChange a1 a2 s = .next t ∧ t.keep = s.keep := by
  (unfold execCanErrorStateChange; grind [keep_mk, keep_fold, whenS_keep, forEach_keep, ifSome_keep, foldl_keep, modCan_keep, canChange_keep, logEvent_keep])

theorem execCanRecovered_keep (s : State) : ∃ t, execCanRecovered s = .next t ∧ t.keep = s.keep := by
  (unfold execCanRecovered; simp only [keep_mk, keep_fold, apply_ite State.keep, ite_self, next_keep, whenS_keep, forEach_keep, ifSome_keep, foldl_keep, logEvent_keep, canChange_keep, modCan_keep]; done)

theorem canTxreq_keep (a1) (a2) (s : State) : (canTxreq a1 a2 s).keep = s.keep := by
  (unfold canTxreq; grind [keep_mk, keep_fold, whenS_keep, forEach_keep, ifSome_keep, foldl_keep, modCan_keep, setStop_keep])

theorem canTxabort_keep (a1) (a2) (s : State) : (canTxabort a1 a2 s).keep = s.keep := by
  (unfold canTxabort; simp only [keep_mk, keep_fold, apply_ite State.keep, ite_self, next_keep, whenS_keep, forEach_keep, ifSome_keep, foldl_keep, modCan_keep]; done)

theorem execCanTxreq_keep (a1) (a2) (s : State) : ∃ t, execCanTxreq a1 a2 s = .next t ∧ t.keep = s.keep := by
  (unfold execCanTxreq; simp only [keep_mk, keep_fold, apply_ite State.keep, ite_self, next_keep, whenS_keep, forEach_keep, ifSome_keep, foldl_keep, canTxreq_keep]; done)

theorem execCanTxabort_keep (a1) (a2) (s : State) : ∃ t, execCanTxabort a1 a2 s = .next t ∧ t.keep = s.keep := by
  (unfold execCanTxabort; simp only [keep_mk, keep_fold, apply_ite State.keep, ite_self, next_keep, whenS_keep, forEach_keep, ifSome_keep, foldl_keep, canTxabort_keep]; done)

theorem canRecover_keep (s : State) : (canRecover s).keep = s.keep := by
  (unfold canRecover; simp only [keep_mk, keep_fold, apply_ite State.keep, ite_self, next_keep, whenS_keep, forEach_keep, ifSome_keep, foldl_keep, modCan_keep]; done)

theorem execCanRecover_keep (s : State) : ∃ t, execCanRecover s = .next t ∧ t.keep = s.keep := by
  (unfold execCanRecover; simp only [keep_mk, keep_fold, apply_ite State.keep, ite_self, next_keep, whenS_keep, forEach_keep, ifSome_keep, foldl_keep, canRecover_keep]; done)

theorem execCanRxLostRead_keep (a1) (s : State) : ∃ t, execCanRxLostRead a1 s = .next t ∧ t.keep = s.keep := by
  (unfold execCanRxLostRead; simp only [keep_mk, keep_fold, apply_ite State.keep, ite_self, next_keep, whenS_keep, forEach_keep, ifSome_keep, foldl_keep, modCan_keep, answerRead_keep]; done)

theorem execPltStatus_keep (s : State) : ∃ t, execPltStatus s = .next t ∧ t.keep = s.keep := by
  (unfold execPltStatus; refine interpret_keep _ _ _ ?_; intro p s; refine checked_keep _ _ _ _ _ ?_; intro s; simp only [keep_mk, keep_fold, apply_ite State.keep, ite_self, next_keep, whenS_keep, forEach_keep, ifSome_keep, foldl_keep, interpret_keep, checked_keep, complete_keep]; done)

theorem pltWrite_keep (a1) (a2) (s : State) : ∀ t, pltWrite a1 a2 s = some t → t.keep = s.keep := by
  (unfold pltWrite; grind [keep_mk, keep_fold, whenS_keep, forEach_keep, ifSome_keep, foldl_keep, modWatch_keep, stopCtl_keep, modPlt_keep])

theorem canRead_keep (a1) (s : State) : ∀ y0 t, canRead a1 s = some (y0, t) → t.keep = s.keep := by
  (unfold canRead; dsimp only; (repeat' split) <;> (first | (simp (disch := (intros; first | (simp only [keep_mk, keep_fold, apply_ite State.keep, ite_self, next_keep, whenS_keep, forEach_keep, ifSome_keep, foldl_keep, modCan_keep]; done) | grind [keep_mk, keep_fold, whenS_keep, forEach_keep, ifSome_keep, foldl_keep, modCan_keep, Option.map_eq_some_iff, Option.bind_eq_some_iff])) only [keep_mk, keep_fold, apply_ite State.keep, ite_self, next_keep, whenS_keep, forEach_keep, ifSome_keep, foldl_keep, modCan_keep]; done) | grind [keep_mk, keep_fold, whenS_keep, forEach_keep, ifSome_keep, foldl_keep, modCan_keep, Option.map_eq_some_iff, Option.bind_eq_some_iff]))

theorem canWrite_keep (a1) (a2) (s : State) : ∀ t, canWrite a1 a2 s = some t → t.keep = s.keep := by
  (unfold canWrite; grind [keep_mk, keep_fold, whenS_keep, forEach_keep, ifSome_keep, foldl_keep, modCan_keep, canRecover_keep, canTxreq_keep, canTxabort_keep])

theorem modXsp_keep (a1) (s : State) : (modXsp a1 s).keep = s.keep := by
  (unfold modXsp; simp only [keep_mk, keep_fold, apply_ite State.keep, ite_self, next_keep, whenS_keep, forEach_keep, ifSome_keep, foldl_keep]; done)

theorem xspEnd_keep (a1) (s : State) : (xspEnd a1 s).keep = s.keep := by
  (unfold xspEnd; simp only [keep_mk, keep_fold, apply_ite State.keep, ite_self, next_keep, whenS_keep, forEach_keep, ifSome_keep, foldl_keep, syncUse_keep, routePost_keep, modXsp_keep]; done)

theorem xspCommand_keep (a1) (s : State) : (xspCommand a1 s).keep = s.keep := by
  (unfold xspCommand; simp only [keep_mk, keep_fold, apply_ite State.keep, ite_self, next_keep, whenS_keep, forEach_keep, ifSome_keep, foldl_keep, xspEnd_keep, syncUse_keep, emit_keep, modXsp_keep]; done)

theorem execXspMasterRead_keep (a1) (s : State) : ∃ t, execXspMasterRead a1 s = .next t ∧ t.keep = s.keep := by
  (unfold execXspMasterRead; simp only [keep_mk, keep_fold, apply_ite State.keep, ite_self, next_keep, whenS_keep, forEach_keep, ifSome_keep, foldl_keep, xspCommand_keep]; done)

theorem execXspMasterWrite_keep (a1) (s : State) : ∃ t, execXspMasterWrite a1 s = .next t ∧ t.keep = s.keep := by
  (unfold execXspMasterWrite; simp only [keep_mk, keep_fold, apply_ite State.keep, ite_self, next_keep, whenS_keep, forEach_keep, ifSome_keep, foldl_keep, xspCommand_keep]; done)

theorem execXspMasterTransferDone_keep (a1) (s : State) : ∃ t, execXspMasterTransferDone a1 s = .next t ∧ t.keep = s.keep := by
  (unfold execXspMasterTransferDone; grind [keep_mk, keep_fold, whenS_keep, forEach_keep, ifSome_keep, foldl_keep, xspEnd_keep, modXsp_keep])

theorem execXspMasterTimeout_keep (s : State) : ∃ t, execXspMasterTimeout s = .next t ∧ t.keep = s.keep := by
  (unfold execXspMasterTimeout; grind [keep_mk, keep_fold, whenS_keep, forEach_keep, ifSome_keep, foldl_keep, xspEnd_keep, logEvent_keep])

theorem xspWrite_keep (a1) (a2) (s : State) : ∀ t, xspWrite a1 a2 s = some t → t.keep = s.keep := by
  (unfold xspWrite; grind [keep_mk, keep_fold, whenS_keep, forEach_keep, ifSome_keep, foldl_keep, modXsp_keep, xspCommand_keep])

theorem xspOp_keep (a1) (a2) (a3) (s : State) (h3 : ∀ x0 x1 s, (a3 x0 x1 s).keep = s.keep) : ∃ t, xspOp a1 a2 a3 s = .next t ∧ t.keep = s.keep := by
  (unfold xspOp; grind [keep_mk, keep_fold, whenS_keep, forEach_keep, ifSome_keep, foldl_keep, modXsp_keep, logLimited_keep])

theorem execXspPktWrite_keep (a1) (a2) (s : State) : ∃ t, execXspPktWrite a1 a2 s = .next t ∧ t.keep = s.keep := by
  (unfold execXspPktWrite; simp (disch := (intros; first | (simp only [keep_mk, keep_fold, apply_ite State.keep, ite_self, next_keep, whenS_keep, forEach_keep, ifSome_keep, foldl_keep, xspOp_keep, frontEnd_keep, modXsp_keep]; done) | grind [keep_mk, keep_fold, whenS_keep, forEach_keep, ifSome_keep, foldl_keep, xspOp_keep, frontEnd_keep, modXsp_keep])) only [keep_mk, keep_fold, apply_ite State.keep, ite_self, next_keep, whenS_keep, forEach_keep, ifSome_keep, foldl_keep, xspOp_keep, frontEnd_keep, modXsp_keep]; done)

theorem execXspResultRead_keep (a1) (a2) (s : State) : ∃ t, execXspResultRead a1 a2 s = .next t ∧ t.keep = s.keep := by
  (unfold execXspResultRead; simp (disch := (intros; first | (simp only [keep_mk, keep_fold, apply_ite State.keep, ite_self, next_keep, whenS_keep, forEach_keep, ifSome_keep, foldl_keep, xspOp_keep, emit_keep, setWindow_keep]; done) | grind [keep_mk, keep_fold, whenS_keep, forEach_keep, ifSome_keep, foldl_keep, xspOp_keep, emit_keep, setWindow_keep])) only [keep_mk, keep_fold, apply_ite State.keep, ite_self, next_keep, whenS_keep, forEach_keep, ifSome_keep, foldl_keep, xspOp_keep, emit_keep, setWindow_keep]; done)

theorem execXspLockAcq_keep (a1) (s : State) : ∃ t, execXspLockAcq a1 s = .next t ∧ t.keep = s.keep := by
  (unfold execXspLockAcq; simp (disch := (intros; first | (simp only [keep_mk, keep_fold, apply_ite State.keep, ite_self, next_keep, whenS_keep, forEach_keep, ifSome_keep, foldl_keep, xspOp_keep, lockAcquire_keep, emit_keep]; done) | grind [keep_mk, keep_fold, whenS_keep, forEach_keep, ifSome_keep, foldl_keep, xspOp_keep, lockAcquire_keep, emit_keep])) only [keep_mk, keep_fold, apply_ite State.keep, ite_self, next_keep, whenS_keep, forEach_keep, ifSome_keep, foldl_keep, xspOp_keep, lockAcquire_keep, emit_keep]; done)

theorem execXspLockRel_keep (a1) (s : State) : ∃ t, execXspLockRel a1 s = .next t ∧ t.keep = s.keep := by
  (unfold execXspLockRel; simp (disch := (intros; first | (simp only [keep_mk, keep_fold, apply_ite State.keep, ite_self, next_keep, whenS_keep, forEach_keep, ifSome_keep, foldl_keep, xspOp_keep, lockRelease_keep]; done) | grind [keep_mk, keep_fold, whenS_keep, forEach_keep, ifSome_keep, foldl_keep, xspOp_keep, lockRelease_keep])) only [keep_mk, keep_fold, apply_ite State.keep, ite_self, next_keep, whenS_keep, forEach_keep, ifSome_keep, foldl_keep, xspOp_keep, lockRelease_keep]; done)

theorem execXspStatus_keep (a1) (a2) (s : State) : ∃ t, execXspStatus a1 a2 s = .next t ∧ t.keep = s.keep := by
  (unfold execXspStatus; simp (disch := (intros; first | (simp only [keep_mk, keep_fold, apply_ite State.keep, ite_self, next_keep, whenS_keep, forEach_keep, ifSome_keep, foldl_keep, xspOp_keep, emit_keep, modXsp_keep]; done) | grind [keep_mk, keep_fold, whenS_keep, forEach_keep, ifSome_keep, foldl_keep, xspOp_keep, emit_keep, modXsp_keep])) only [keep_mk, keep_fold, apply_ite State.keep, ite_self, next_keep, whenS_keep, forEach_keep, ifSome_keep, foldl_keep, xspOp_keep, emit_keep, modXsp_keep]; done)

theorem execXspTargetReset_keep (a1) (s : State) : ∃ t, execXspTargetReset a1 s = .next t ∧ t.keep = s.keep := by
  (unfold execXspTargetReset; simp (disch := (intros; first | (simp only [keep_mk, keep_fold, apply_ite State.keep, ite_self, next_keep, whenS_keep, forEach_keep, ifSome_keep, foldl_keep, xspOp_keep, logEvent_keep, advanceEpoch_keep, modXsp_keep]; done) | grind [keep_mk, keep_fold, whenS_keep, forEach_keep, ifSome_keep, foldl_keep, xspOp_keep, logEvent_keep, advanceEpoch_keep, modXsp_keep])) only [keep_mk, keep_fold, apply_ite State.keep, ite_self, next_keep, whenS_keep, forEach_keep, ifSome_keep, foldl_keep, xspOp_keep, logEvent_keep, advanceEpoch_keep, modXsp_keep]; done)

theorem execXspSelectRelease_keep (s : State) : ∃ t, execXspSelectRelease s = .next t ∧ t.keep = s.keep := by
  (unfold execXspSelectRelease; grind [keep_mk, keep_fold, whenS_keep, forEach_keep, ifSome_keep, foldl_keep, modXsp_keep, postWindow_keep, logEvent_keep])

theorem fenDone_keep (a1) (a2) (a3) (s : State) : (fenDone a1 a2 a3 s).keep = s.keep := by
  (unfold fenDone; simp only [keep_mk, keep_fold, apply_ite State.keep, ite_self, next_keep, whenS_keep, forEach_keep, ifSome_keep, foldl_keep, sched_keep, modRole_keep, modCore_keep]; done)

theorem fenWait_keep (a1) (a2) (a3) (a4) (a5) (s : State) : (fenWait a1 a2 a3 a4 a5 s).keep = s.keep := by
  (unfold fenWait; simp only [keep_mk, keep_fold, apply_ite State.keep, ite_self, next_keep, whenS_keep, forEach_keep, ifSome_keep, foldl_keep, modTask_keep, fenDone_keep, modRole_keep]; done)

theorem issueFen_keep (a1) (a2) (s : State) : (issueFen a1 a2 s).keep = s.keep := by
  (unfold issueFen; grind [keep_mk, keep_fold, whenS_keep, forEach_keep, ifSome_keep, foldl_keep, exception_keep, fenDone_keep, modTask_keep, modCore_keep, emit_keep, modRole_keep, fenWait_keep, park_keep])

theorem endAccess_keep (a1) (a2) (s : State) : (endAccess a1 a2 s).keep = s.keep := by
  (unfold endAccess; grind [keep_mk, keep_fold, whenS_keep, forEach_keep, ifSome_keep, foldl_keep, modCore_keep, exception_keep, modTask_keep, fenDone_keep, park_keep])

theorem asRole_keep (a1) (a2) (s : State) (h2 : ∀ x0 s, (a2 x0 s).keep = s.keep) : (asRole a1 a2 s).keep = s.keep := by
  (unfold asRole; grind [keep_mk, keep_fold, whenS_keep, forEach_keep, ifSome_keep, foldl_keep])

theorem execTimeSliceExpiry_keep (a1) (s : State) : ∃ t, execTimeSliceExpiry a1 s = .next t ∧ t.keep = s.keep := by
  (unfold execTimeSliceExpiry; grind [keep_mk, keep_fold, whenS_keep, forEach_keep, ifSome_keep, foldl_keep, asRole_keep, sched_keep, modRole_keep])

theorem execEventPost_keep (a1) (a2) (a3) (s : State) : ∃ t, execEventPost a1 a2 a3 s = .next t ∧ t.keep = s.keep := by
  (unfold execEventPost; simp only [keep_mk, keep_fold, apply_ite State.keep, ite_self, next_keep, whenS_keep, forEach_keep, ifSome_keep, foldl_keep, postBit_keep]; done)

theorem execTaskCreate_keep (a1) (a2) (a3) (a4) (a5) (a6) (s : State) : ∃ t, execTaskCreate a1 a2 a3 a4 a5 a6 s = .next t ∧ t.keep = s.keep := by
  (unfold execTaskCreate; grind [keep_mk, keep_fold, whenS_keep, forEach_keep, ifSome_keep, foldl_keep, asRole_keep, tcCreate_keep])

theorem execTaskCancel_keep (a1) (a2) (a3) (s : State) : ∃ t, execTaskCancel a1 a2 a3 s = .next t ∧ t.keep = s.keep := by
  (unfold execTaskCancel; grind [keep_mk, keep_fold, whenS_keep, forEach_keep, ifSome_keep, foldl_keep, asRole_keep, tcCancel_keep])

theorem execWdnEvpost_keep (a1) (a2) (a3) (a4) (s : State) : ∃ t, execWdnEvpost a1 a2 a3 a4 s = .next t ∧ t.keep = s.keep := by
  (unfold execWdnEvpost; grind [keep_mk, keep_fold, whenS_keep, forEach_keep, ifSome_keep, foldl_keep, asRole_keep, evPost_keep])

theorem execWdnWdogKick_keep (a1) (s : State) : ∃ t, execWdnWdogKick a1 s = .next t ∧ t.keep = s.keep := by
  (unfold execWdnWdogKick; grind [keep_mk, keep_fold, whenS_keep, forEach_keep, ifSome_keep, foldl_keep, asRole_keep, kick_keep])

theorem execWdnEvdropRead_keep (a1) (s : State) : ∃ t, execWdnEvdropRead a1 s = .next t ∧ t.keep = s.keep := by
  (unfold execWdnEvdropRead; grind [keep_mk, keep_fold, whenS_keep, forEach_keep, ifSome_keep, foldl_keep, asRole_keep, modRole_keep, answerRead_keep])

theorem execTimerArm_keep (a1) (a2) (a3) (s : State) : ∃ t, execTimerArm a1 a2 a3 s = .next t ∧ t.keep = s.keep := by
  (unfold execTimerArm; grind [keep_mk, keep_fold, whenS_keep, forEach_keep, ifSome_keep, foldl_keep, asRole_keep, timerArm_keep])

theorem execTimerExpiry_keep (a1) (a2) (s : State) : ∃ t, execTimerExpiry a1 a2 s = .next t ∧ t.keep = s.keep := by
  (unfold execTimerExpiry; simp only [keep_mk, keep_fold, apply_ite State.keep, ite_self, next_keep, whenS_keep, forEach_keep, ifSome_keep, foldl_keep, timerExpire_keep]; done)

theorem execLckAcq_keep (a1) (a2) (s : State) : ∃ t, execLckAcq a1 a2 s = .next t ∧ t.keep = s.keep := by
  (unfold execLckAcq; grind [keep_mk, keep_fold, whenS_keep, forEach_keep, ifSome_keep, foldl_keep, lockAcquire_keep, answerRead_keep])

theorem execLckRel_keep (a1) (a2) (s : State) : ∃ t, execLckRel a1 a2 s = .next t ∧ t.keep = s.keep := by
  (unfold execLckRel; grind [keep_mk, keep_fold, whenS_keep, forEach_keep, ifSome_keep, foldl_keep, lockRelease_keep])

theorem execFenAdd_keep (a1) (s : State) : ∃ t, execFenAdd a1 s = .next t ∧ t.keep = s.keep := by
  (unfold execFenAdd; simp only [keep_mk, keep_fold, apply_ite State.keep, ite_self, next_keep, whenS_keep, forEach_keep, ifSome_keep, foldl_keep, issueFen_keep]; done)

end Sys2Proof.Machine
end

