-- ==== Sys2Proof/Laws/Keep7.lean ====
section
/-!
SUPPORT. Sys2Proof/Laws/Keep7.lean: part 7 of 8 of the frame lemmas, one for each function on states: it leaves the queue, the microseconds, the OTP and the label locks alone.
-/
namespace Sys2Proof.Machine
open Sys2Proof
set_option linter.all false
set_option maxRecDepth 4000

theorem execFenSub_keep (a1) (s : State) : ∃ t, execFenSub a1 s = .next t ∧ t.keep = s.keep := by
  (unfold execFenSub; simp only [keep_mk, keep_fold, apply_ite State.keep, ite_self, next_keep, whenS_keep, forEach_keep, ifSome_keep, foldl_keep, issueFen_keep]; done)

theorem execFenAnd_keep (a1) (s : State) : ∃ t, execFenAnd a1 s = .next t ∧ t.keep = s.keep := by
  (unfold execFenAnd; simp only [keep_mk, keep_fold, apply_ite State.keep, ite_self, next_keep, whenS_keep, forEach_keep, ifSome_keep, foldl_keep, issueFen_keep]; done)

theorem execFenOr_keep (a1) (s : State) : ∃ t, execFenOr a1 s = .next t ∧ t.keep = s.keep := by
  (unfold execFenOr; simp only [keep_mk, keep_fold, apply_ite State.keep, ite_self, next_keep, whenS_keep, forEach_keep, ifSome_keep, foldl_keep, issueFen_keep]; done)

theorem execFenXor_keep (a1) (s : State) : ∃ t, execFenXor a1 s = .next t ∧ t.keep = s.keep := by
  (unfold execFenXor; simp only [keep_mk, keep_fold, apply_ite State.keep, ite_self, next_keep, whenS_keep, forEach_keep, ifSome_keep, foldl_keep, issueFen_keep]; done)

theorem execFenSlt_keep (a1) (s : State) : ∃ t, execFenSlt a1 s = .next t ∧ t.keep = s.keep := by
  (unfold execFenSlt; simp only [keep_mk, keep_fold, apply_ite State.keep, ite_self, next_keep, whenS_keep, forEach_keep, ifSome_keep, foldl_keep, issueFen_keep]; done)

theorem execFenSltu_keep (a1) (s : State) : ∃ t, execFenSltu a1 s = .next t ∧ t.keep = s.keep := by
  (unfold execFenSltu; simp only [keep_mk, keep_fold, apply_ite State.keep, ite_self, next_keep, whenS_keep, forEach_keep, ifSome_keep, foldl_keep, issueFen_keep]; done)

theorem execFenMul_keep (a1) (s : State) : ∃ t, execFenMul a1 s = .next t ∧ t.keep = s.keep := by
  (unfold execFenMul; simp only [keep_mk, keep_fold, apply_ite State.keep, ite_self, next_keep, whenS_keep, forEach_keep, ifSome_keep, foldl_keep, issueFen_keep]; done)

theorem execFenMulhu_keep (a1) (s : State) : ∃ t, execFenMulhu a1 s = .next t ∧ t.keep = s.keep := by
  (unfold execFenMulhu; simp only [keep_mk, keep_fold, apply_ite State.keep, ite_self, next_keep, whenS_keep, forEach_keep, ifSome_keep, foldl_keep, issueFen_keep]; done)

theorem execFenShli_keep (a1) (s : State) : ∃ t, execFenShli a1 s = .next t ∧ t.keep = s.keep := by
  (unfold execFenShli; simp only [keep_mk, keep_fold, apply_ite State.keep, ite_self, next_keep, whenS_keep, forEach_keep, ifSome_keep, foldl_keep, issueFen_keep]; done)

theorem execFenShri_keep (a1) (s : State) : ∃ t, execFenShri a1 s = .next t ∧ t.keep = s.keep := by
  (unfold execFenShri; simp only [keep_mk, keep_fold, apply_ite State.keep, ite_self, next_keep, whenS_keep, forEach_keep, ifSome_keep, foldl_keep, issueFen_keep]; done)

theorem execFenSari_keep (a1) (s : State) : ∃ t, execFenSari a1 s = .next t ∧ t.keep = s.keep := by
  (unfold execFenSari; simp only [keep_mk, keep_fold, apply_ite State.keep, ite_self, next_keep, whenS_keep, forEach_keep, ifSome_keep, foldl_keep, issueFen_keep]; done)

theorem execFenBeq_keep (a1) (s : State) : ∃ t, execFenBeq a1 s = .next t ∧ t.keep = s.keep := by
  (unfold execFenBeq; simp only [keep_mk, keep_fold, apply_ite State.keep, ite_self, next_keep, whenS_keep, forEach_keep, ifSome_keep, foldl_keep, issueFen_keep]; done)

theorem execFenBne_keep (a1) (s : State) : ∃ t, execFenBne a1 s = .next t ∧ t.keep = s.keep := by
  (unfold execFenBne; simp only [keep_mk, keep_fold, apply_ite State.keep, ite_self, next_keep, whenS_keep, forEach_keep, ifSome_keep, foldl_keep, issueFen_keep]; done)

theorem execFenBlt_keep (a1) (s : State) : ∃ t, execFenBlt a1 s = .next t ∧ t.keep = s.keep := by
  (unfold execFenBlt; simp only [keep_mk, keep_fold, apply_ite State.keep, ite_self, next_keep, whenS_keep, forEach_keep, ifSome_keep, foldl_keep, issueFen_keep]; done)

theorem execFenBge_keep (a1) (s : State) : ∃ t, execFenBge a1 s = .next t ∧ t.keep = s.keep := by
  (unfold execFenBge; simp only [keep_mk, keep_fold, apply_ite State.keep, ite_self, next_keep, whenS_keep, forEach_keep, ifSome_keep, foldl_keep, issueFen_keep]; done)

theorem execFenBltu_keep (a1) (s : State) : ∃ t, execFenBltu a1 s = .next t ∧ t.keep = s.keep := by
  (unfold execFenBltu; simp only [keep_mk, keep_fold, apply_ite State.keep, ite_self, next_keep, whenS_keep, forEach_keep, ifSome_keep, foldl_keep, issueFen_keep]; done)

theorem execFenBgeu_keep (a1) (s : State) : ∃ t, execFenBgeu a1 s = .next t ∧ t.keep = s.keep := by
  (unfold execFenBgeu; simp only [keep_mk, keep_fold, apply_ite State.keep, ite_self, next_keep, whenS_keep, forEach_keep, ifSome_keep, foldl_keep, issueFen_keep]; done)

theorem execFenNot_keep (a1) (s : State) : ∃ t, execFenNot a1 s = .next t ∧ t.keep = s.keep := by
  (unfold execFenNot; simp only [keep_mk, keep_fold, apply_ite State.keep, ite_self, next_keep, whenS_keep, forEach_keep, ifSome_keep, foldl_keep, issueFen_keep]; done)

theorem execFenNeg_keep (a1) (s : State) : ∃ t, execFenNeg a1 s = .next t ∧ t.keep = s.keep := by
  (unfold execFenNeg; simp only [keep_mk, keep_fold, apply_ite State.keep, ite_self, next_keep, whenS_keep, forEach_keep, ifSome_keep, foldl_keep, issueFen_keep]; done)

theorem execFenJr_keep (a1) (s : State) : ∃ t, execFenJr a1 s = .next t ∧ t.keep = s.keep := by
  (unfold execFenJr; simp only [keep_mk, keep_fold, apply_ite State.keep, ite_self, next_keep, whenS_keep, forEach_keep, ifSome_keep, foldl_keep, issueFen_keep]; done)

theorem execFenCallr_keep (a1) (s : State) : ∃ t, execFenCallr a1 s = .next t ∧ t.keep = s.keep := by
  (unfold execFenCallr; simp only [keep_mk, keep_fold, apply_ite State.keep, ite_self, next_keep, whenS_keep, forEach_keep, ifSome_keep, foldl_keep, issueFen_keep]; done)

theorem execFenRet_keep (a1) (s : State) : ∃ t, execFenRet a1 s = .next t ∧ t.keep = s.keep := by
  (unfold execFenRet; simp only [keep_mk, keep_fold, apply_ite State.keep, ite_self, next_keep, whenS_keep, forEach_keep, ifSome_keep, foldl_keep, issueFen_keep]; done)

theorem execFenPush_keep (a1) (s : State) : ∃ t, execFenPush a1 s = .next t ∧ t.keep = s.keep := by
  (unfold execFenPush; simp only [keep_mk, keep_fold, apply_ite State.keep, ite_self, next_keep, whenS_keep, forEach_keep, ifSome_keep, foldl_keep, issueFen_keep]; done)

theorem execFenPop_keep (a1) (s : State) : ∃ t, execFenPop a1 s = .next t ∧ t.keep = s.keep := by
  (unfold execFenPop; simp only [keep_mk, keep_fold, apply_ite State.keep, ite_self, next_keep, whenS_keep, forEach_keep, ifSome_keep, foldl_keep, issueFen_keep]; done)

theorem execFenYield_keep (a1) (s : State) : ∃ t, execFenYield a1 s = .next t ∧ t.keep = s.keep := by
  (unfold execFenYield; simp only [keep_mk, keep_fold, apply_ite State.keep, ite_self, next_keep, whenS_keep, forEach_keep, ifSome_keep, foldl_keep, issueFen_keep]; done)

theorem execFenWait_keep (a1) (s : State) : ∃ t, execFenWait a1 s = .next t ∧ t.keep = s.keep := by
  (unfold execFenWait; simp only [keep_mk, keep_fold, apply_ite State.keep, ite_self, next_keep, whenS_keep, forEach_keep, ifSome_keep, foldl_keep, issueFen_keep]; done)

theorem execFenExit_keep (a1) (s : State) : ∃ t, execFenExit a1 s = .next t ∧ t.keep = s.keep := by
  (unfold execFenExit; simp only [keep_mk, keep_fold, apply_ite State.keep, ite_self, next_keep, whenS_keep, forEach_keep, ifSome_keep, foldl_keep, issueFen_keep]; done)

theorem execFenTrap_keep (a1) (s : State) : ∃ t, execFenTrap a1 s = .next t ∧ t.keep = s.keep := by
  (unfold execFenTrap; simp only [keep_mk, keep_fold, apply_ite State.keep, ite_self, next_keep, whenS_keep, forEach_keep, ifSome_keep, foldl_keep, issueFen_keep]; done)

theorem execFenAddi_keep (a1) (s : State) : ∃ t, execFenAddi a1 s = .next t ∧ t.keep = s.keep := by
  (unfold execFenAddi; simp only [keep_mk, keep_fold, apply_ite State.keep, ite_self, next_keep, whenS_keep, forEach_keep, ifSome_keep, foldl_keep, issueFen_keep]; done)

theorem execFenAndi_keep (a1) (s : State) : ∃ t, execFenAndi a1 s = .next t ∧ t.keep = s.keep := by
  (unfold execFenAndi; simp only [keep_mk, keep_fold, apply_ite State.keep, ite_self, next_keep, whenS_keep, forEach_keep, ifSome_keep, foldl_keep, issueFen_keep]; done)

theorem execFenOri_keep (a1) (s : State) : ∃ t, execFenOri a1 s = .next t ∧ t.keep = s.keep := by
  (unfold execFenOri; simp only [keep_mk, keep_fold, apply_ite State.keep, ite_self, next_keep, whenS_keep, forEach_keep, ifSome_keep, foldl_keep, issueFen_keep]; done)

theorem execFenXori_keep (a1) (s : State) : ∃ t, execFenXori a1 s = .next t ∧ t.keep = s.keep := by
  (unfold execFenXori; simp only [keep_mk, keep_fold, apply_ite State.keep, ite_self, next_keep, whenS_keep, forEach_keep, ifSome_keep, foldl_keep, issueFen_keep]; done)

theorem execFenSlti_keep (a1) (s : State) : ∃ t, execFenSlti a1 s = .next t ∧ t.keep = s.keep := by
  (unfold execFenSlti; simp only [keep_mk, keep_fold, apply_ite State.keep, ite_self, next_keep, whenS_keep, forEach_keep, ifSome_keep, foldl_keep, issueFen_keep]; done)

theorem execFenSltiu_keep (a1) (s : State) : ∃ t, execFenSltiu a1 s = .next t ∧ t.keep = s.keep := by
  (unfold execFenSltiu; simp only [keep_mk, keep_fold, apply_ite State.keep, ite_self, next_keep, whenS_keep, forEach_keep, ifSome_keep, foldl_keep, issueFen_keep]; done)

theorem execFenLd_keep (a1) (s : State) : ∃ t, execFenLd a1 s = .next t ∧ t.keep = s.keep := by
  (unfold execFenLd; simp only [keep_mk, keep_fold, apply_ite State.keep, ite_self, next_keep, whenS_keep, forEach_keep, ifSome_keep, foldl_keep, issueFen_keep]; done)

theorem execFenSt_keep (a1) (s : State) : ∃ t, execFenSt a1 s = .next t ∧ t.keep = s.keep := by
  (unfold execFenSt; simp only [keep_mk, keep_fold, apply_ite State.keep, ite_self, next_keep, whenS_keep, forEach_keep, ifSome_keep, foldl_keep, issueFen_keep]; done)

theorem execFenLdp_keep (a1) (s : State) : ∃ t, execFenLdp a1 s = .next t ∧ t.keep = s.keep := by
  (unfold execFenLdp; simp only [keep_mk, keep_fold, apply_ite State.keep, ite_self, next_keep, whenS_keep, forEach_keep, ifSome_keep, foldl_keep, issueFen_keep]; done)

theorem execFenXld_keep (a1) (s : State) : ∃ t, execFenXld a1 s = .next t ∧ t.keep = s.keep := by
  (unfold execFenXld; simp only [keep_mk, keep_fold, apply_ite State.keep, ite_self, next_keep, whenS_keep, forEach_keep, ifSome_keep, foldl_keep, issueFen_keep]; done)

theorem execFenXst_keep (a1) (s : State) : ∃ t, execFenXst a1 s = .next t ∧ t.keep = s.keep := by
  (unfold execFenXst; simp only [keep_mk, keep_fold, apply_ite State.keep, ite_self, next_keep, whenS_keep, forEach_keep, ifSome_keep, foldl_keep, issueFen_keep]; done)

theorem execFenRdl_keep (a1) (s : State) : ∃ t, execFenRdl a1 s = .next t ∧ t.keep = s.keep := by
  (unfold execFenRdl; simp only [keep_mk, keep_fold, apply_ite State.keep, ite_self, next_keep, whenS_keep, forEach_keep, ifSome_keep, foldl_keep, issueFen_keep]; done)

theorem execFenWrl_keep (a1) (s : State) : ∃ t, execFenWrl a1 s = .next t ∧ t.keep = s.keep := by
  (unfold execFenWrl; simp only [keep_mk, keep_fold, apply_ite State.keep, ite_self, next_keep, whenS_keep, forEach_keep, ifSome_keep, foldl_keep, issueFen_keep]; done)

theorem execFenJmp_keep (a1) (s : State) : ∃ t, execFenJmp a1 s = .next t ∧ t.keep = s.keep := by
  (unfold execFenJmp; simp only [keep_mk, keep_fold, apply_ite State.keep, ite_self, next_keep, whenS_keep, forEach_keep, ifSome_keep, foldl_keep, issueFen_keep]; done)

theorem execFenCall_keep (a1) (s : State) : ∃ t, execFenCall a1 s = .next t ∧ t.keep = s.keep := by
  (unfold execFenCall; simp only [keep_mk, keep_fold, apply_ite State.keep, ite_self, next_keep, whenS_keep, forEach_keep, ifSome_keep, foldl_keep, issueFen_keep]; done)

theorem execDcwGo_keep (a1) (s : State) : ∃ t, execDcwGo a1 s = .next t ∧ t.keep = s.keep := by
  (unfold execDcwGo; grind [keep_mk, keep_fold, whenS_keep, forEach_keep, ifSome_keep, foldl_keep, frontEnd_keep])

theorem execThrottleEnd_keep (a1) (a2) (a3) (s : State) : ∃ t, execThrottleEnd a1 a2 a3 s = .next t ∧ t.keep = s.keep := by
  (unfold execThrottleEnd; grind [keep_mk, keep_fold, whenS_keep, forEach_keep, ifSome_keep, foldl_keep, logEvent_keep, setSource_keep])

theorem execChainTimeout_keep (a1) (a2) (a3) (s : State) : ∃ t, execChainTimeout a1 a2 a3 s = .next t ∧ t.keep = s.keep := by
  (unfold execChainTimeout; grind [keep_mk, keep_fold, whenS_keep, forEach_keep, ifSome_keep, foldl_keep, dropChain_keep, deliver_keep, postWindow_keep])

theorem execCommandTimeout_keep (a1) (s : State) : ∃ t, execCommandTimeout a1 s = .next t ∧ t.keep = s.keep := by
  (unfold execCommandTimeout; grind [keep_mk, keep_fold, whenS_keep, forEach_keep, ifSome_keep, foldl_keep, fail_keep])

theorem execDevEcho_keep (s : State) : ∃ t, execDevEcho s = .next t ∧ t.keep = s.keep := by
  (unfold execDevEcho; simp (disch := (intros; first | (simp only [keep_mk, keep_fold, apply_ite State.keep, ite_self, next_keep, whenS_keep, forEach_keep, ifSome_keep, foldl_keep, interpret_keep, complete_keep]; done) | grind [keep_mk, keep_fold, whenS_keep, forEach_keep, ifSome_keep, foldl_keep, interpret_keep, complete_keep])) only [keep_mk, keep_fold, apply_ite State.keep, ite_self, next_keep, whenS_keep, forEach_keep, ifSome_keep, foldl_keep, interpret_keep, complete_keep]; done)

theorem execDevReset_keep (s : State) : ∃ t, execDevReset s = .next t ∧ t.keep = s.keep := by
  (unfold execDevReset; refine interpret_keep _ _ _ ?_; intro p s; refine checked_keep _ _ _ _ _ ?_; intro s; simp only [keep_mk, keep_fold, apply_ite State.keep, ite_self, next_keep, whenS_keep, forEach_keep, ifSome_keep, foldl_keep, interpret_keep, checked_keep, ok_keep]; done)

theorem execLogRead_keep (s : State) : ∃ t, execLogRead s = .next t ∧ t.keep = s.keep := by
  (unfold execLogRead; refine interpret_keep _ _ _ ?_; intro p s; refine checked_keep _ _ _ _ _ ?_; intro s; simp only [keep_mk, keep_fold, apply_ite State.keep, ite_self, next_keep, whenS_keep, forEach_keep, ifSome_keep, foldl_keep, interpret_keep, checked_keep, complete_keep]; done)

theorem sgeRead_keep (a1) (s : State) : ∀ y0 t, sgeRead a1 s = some (y0, t) → t.keep = s.keep := by
  (unfold sgeRead; dsimp only; (repeat' split) <;> (first | (simp (disch := (intros; first | (simp only [keep_mk, keep_fold, apply_ite State.keep, ite_self, next_keep, whenS_keep, forEach_keep, ifSome_keep, foldl_keep, modSge_keep]; done) | grind [keep_mk, keep_fold, whenS_keep, forEach_keep, ifSome_keep, foldl_keep, modSge_keep, Option.map_eq_some_iff, Option.bind_eq_some_iff])) only [keep_mk, keep_fold, apply_ite State.keep, ite_self, next_keep, whenS_keep, forEach_keep, ifSome_keep, foldl_keep, modSge_keep]; done) | grind [keep_mk, keep_fold, whenS_keep, forEach_keep, ifSome_keep, foldl_keep, modSge_keep, Option.map_eq_some_iff, Option.bind_eq_some_iff]))

theorem sgeWrite_keep (a1) (a2) (s : State) : ∀ t, sgeWrite a1 a2 s = some t → t.keep = s.keep := by
  (unfold sgeWrite; grind [keep_mk, keep_fold, whenS_keep, forEach_keep, ifSome_keep, foldl_keep, modSge_keep])

theorem sioRead_keep (a1) (a2) (s : State) : ∀ y0 t, sioRead a1 a2 s = some (y0, t) → t.keep = s.keep := by
  (unfold sioRead; dsimp only; (repeat' split) <;> (first | (simp (disch := (intros; first | (simp only [keep_mk, keep_fold, apply_ite State.keep, ite_self, next_keep, whenS_keep, forEach_keep, ifSome_keep, foldl_keep, countSlot_keep]; done) | grind [keep_mk, keep_fold, whenS_keep, forEach_keep, ifSome_keep, foldl_keep, countSlot_keep, countSlot_keep2, Option.map_eq_some_iff, Option.bind_eq_some_iff])) only [keep_mk, keep_fold, apply_ite State.keep, ite_self, next_keep, whenS_keep, forEach_keep, ifSome_keep, foldl_keep, countSlot_keep]; done) | grind [keep_mk, keep_fold, whenS_keep, forEach_keep, ifSome_keep, foldl_keep, countSlot_keep, countSlot_keep2, Option.map_eq_some_iff, Option.bind_eq_some_iff]))

theorem sioWrite_keep (a1) (a2) (a3) (s : State) : ∀ t, sioWrite a1 a2 a3 s = some t → t.keep = s.keep := by
  (unfold sioWrite; grind [keep_mk, keep_fold, whenS_keep, forEach_keep, ifSome_keep, foldl_keep, modSio_keep, pourWrite_keep])

theorem cadWrite_keep (a1) (a2) (s : State) : ∀ t, cadWrite a1 a2 s = some t → t.keep = s.keep := by
  intro t h
  unfold cadWrite at h
  obtain ⟨r, -, h⟩ := Option.bind_eq_some_iff.1 h
  have := stateOf_keep _ s s (execCadWAlloc_keep r.1 (bitsOf a2 15 8) s)
  have := stateOf_keep _ s s (execCadWFree_keep r.1 s)
  grind [setCadWarden_keep]

theorem regRead_keep (a1) (a2) (a3) (s : State) : ∀ y0 t, regRead a1 a2 a3 s = some (y0, t) → t.keep = s.keep := by
  (induction a2 generalizing a1 a3 s <;> (unfold regRead <;> grind [keep_mk, keep_fold, whenS_keep, forEach_keep, ifSome_keep, foldl_keep, sgeRead_keep, sioRead_keep, wdnRead_keep, lckRead_keep, canRead_keep, Option.map_eq_some_iff, Option.bind_eq_some_iff]))

theorem regWrite_keep (a1) (a2) (a3) (a4) (s : State) : ∀ t, regWrite a1 a2 a3 a4 s = some t → t.keep = s.keep := by
  (induction a2 generalizing a1 a3 a4 s <;> (unfold regWrite <;> grind [keep_mk, keep_fold, whenS_keep, forEach_keep, ifSome_keep, foldl_keep, cadWrite_keep, sgeWrite_keep, sioWrite_keep, wdnWrite_keep, lckWrite_keep, pltWrite_keep, canWrite_keep, lblWrite_keep, xspWrite_keep, Option.map_eq_some_iff, Option.bind_eq_some_iff]))

theorem memRead_keep (a1) (a2) (s : State) : (memRead a1 a2 s).2.keep = s.keep := by
  (unfold memRead; grind [keep_mk, keep_fold, whenS_keep, forEach_keep, ifSome_keep, foldl_keep, freeNat_keep])

theorem memRead_keep2 (a1) (a2) (s : State) : ∀ y0 t, (memRead a1 a2 s) = (y0, t) → t.keep = s.keep := by
  intro y0 t h; have := memRead_keep a1 a2 s; rw [h] at this; exact this

theorem memWrite_keep (a1) (a2) (a3) (s : State) : (memWrite a1 a2 a3 s).keep = s.keep := by
  (unfold memWrite; simp only [keep_mk, keep_fold, apply_ite State.keep, ite_self, next_keep, whenS_keep, forEach_keep, ifSome_keep, foldl_keep]; done)

theorem devFault_keep (a1) (a2) (a3) (s : State) : (devFault a1 a2 a3 s).2.keep = s.keep := by
  (unfold devFault; simp only [keep_mk, keep_fold, apply_ite State.keep, ite_self, next_keep, whenS_keep, forEach_keep, ifSome_keep, foldl_keep, logEvent_keep]; done)

theorem devFault_keep2 (a1) (a2) (a3) (s : State) : ∀ y0 t, (devFault a1 a2 a3 s) = (y0, t) → t.keep = s.keep := by
  intro y0 t h; have := devFault_keep a1 a2 a3 s; rw [h] at this; exact this

theorem devRead_keep (a1) (a2) (s : State) : ∀ y0 t, devRead a1 a2 s = some (y0, t) → t.keep = s.keep := by
  (unfold devRead; dsimp only; (repeat' split) <;> (first | (simp (disch := (intros; first | (simp only [keep_mk, keep_fold, apply_ite State.keep, ite_self, next_keep, whenS_keep, forEach_keep, ifSome_keep, foldl_keep, devFault_keep, regRead_keep, memRead_keep]; done) | grind [keep_mk, keep_fold, whenS_keep, forEach_keep, ifSome_keep, foldl_keep, devFault_keep, regRead_keep, memRead_keep, devFault_keep2, memRead_keep2, Option.map_eq_some_iff, Option.bind_eq_some_iff])) only [keep_mk, keep_fold, apply_ite State.keep, ite_self, next_keep, whenS_keep, forEach_keep, ifSome_keep, foldl_keep, devFault_keep, regRead_keep, memRead_keep]; done) | grind [keep_mk, keep_fold, whenS_keep, forEach_keep, ifSome_keep, foldl_keep, devFault_keep, regRead_keep, memRead_keep, devFault_keep2, memRead_keep2, Option.map_eq_some_iff, Option.bind_eq_some_iff]))

theorem devWrite_keep (a1) (a2) (a3) (s : State) : ∀ y0 t, devWrite a1 a2 a3 s = some (y0, t) → t.keep = s.keep := by
  (induction a2 generalizing a1 a3 s <;> (unfold devWrite <;> grind [keep_mk, keep_fold, whenS_keep, forEach_keep, ifSome_keep, foldl_keep, devFault_keep, regWrite_keep, memWrite_keep, devFault_keep2, Option.map_eq_some_iff, Option.bind_eq_some_iff]))

theorem execDeviceAccessComplete_keep (a1) (s : State) : ∃ t, execDeviceAccessComplete a1 s = .next t ∧ t.keep = s.keep := by
  (unfold execDeviceAccessComplete; dsimp only; (repeat' split) <;> (first | (simp (disch := (intros; first | (simp only [keep_mk, keep_fold, apply_ite State.keep, ite_self, next_keep, whenS_keep, forEach_keep, ifSome_keep, foldl_keep, devWrite_keep, devRead_keep, endAccess_keep]; done) | grind [keep_mk, keep_fold, whenS_keep, forEach_keep, ifSome_keep, foldl_keep, devWrite_keep, devRead_keep, endAccess_keep, Option.map_eq_some_iff, Option.bind_eq_some_iff])) only [keep_mk, keep_fold, apply_ite State.keep, ite_self, next_keep, whenS_keep, forEach_keep, ifSome_keep, foldl_keep, devWrite_keep, devRead_keep, endAccess_keep]; done) | grind [keep_mk, keep_fold, whenS_keep, forEach_keep, ifSome_keep, foldl_keep, devWrite_keep, devRead_keep, endAccess_keep, Option.map_eq_some_iff, Option.bind_eq_some_iff]))

theorem execDeviceAccessTimeout_keep (a1) (s : State) : ∃ t, execDeviceAccessTimeout a1 s = .next t ∧ t.keep = s.keep := by
  have hw : ∀ a b c (s : State), (((devWrite a b c s).map (·.2)).getD s).keep = s.keep := by
    intro a b c s
    cases h : devWrite a b c s with
    | none => rfl
    | some x => exact devWrite_keep a b c s x.1 x.2 h
  unfold execDeviceAccessTimeout
  split
  · exact ⟨_, rfl, rfl⟩
  · refine ⟨_, rfl, ?_⟩
    rw [endAccess_keep]
    split
    · rw [hw]; exact freeNat_keep 2 s
    · exact freeNat_keep 2 s

theorem bar0Write_keep (a1) (a2) (s : State) : (bar0Write a1 a2 s).keep = s.keep := by
  unfold bar0Write
  split
  · simp only [keep_mk, keep_fold]
  split
  · cases h : lckWrite holderPf0 (a1 - 0x3000) s with
    | none => rfl
    | some t => exact lckWrite_keep _ _ _ _ h
  repeat' split
  all_goals first
    | rfl
    | exact stateOf_keep _ _ _ (execMgtEventWrite_keep _ _ _)
    | exact stateOf_keep _ _ _ (execDcwGo_keep _ _)

theorem bar2Write_keep (a1) (a2) (a3) (s : State) : (bar2Write a1 a2 a3 s).keep = s.keep := by
  (unfold bar2Write; simp only [keep_mk, keep_fold, apply_ite State.keep, ite_self, next_keep, whenS_keep, forEach_keep, ifSome_keep, foldl_keep, modVec_keep]; done)

theorem execRegisterWrite_keep (a1) (a2) (a3) (a4) (s : State) : ∃ t, execRegisterWrite a1 a2 a3 a4 s = .next t ∧ t.keep = s.keep := by
  have hw : ∀ a b c (s : State), (((devWrite a b c s).map (·.2)).getD s).keep = s.keep := by
    intro a b c s
    cases h : devWrite a b c s with
    | none => rfl
    | some x => exact devWrite_keep a b c s x.1 x.2 h
  unfold execRegisterWrite
  dsimp only
  repeat' split
  all_goals refine ⟨_, rfl, ?_⟩
  all_goals first | rfl | (simp only [bar0Write_keep, bar2Write_keep, hw]; done) | grind [hw]

theorem execResultCountingRead_keep (a1) (a2) (s : State) : ∃ t, execResultCountingRead a1 a2 s = .next t ∧ t.keep = s.keep := by
  (unfold execResultCountingRead; grind [keep_mk, keep_fold, whenS_keep, forEach_keep, ifSome_keep, foldl_keep, countSlot_keep, answerRead_keep, setWindow_keep])

theorem execDevIdentify_keep (s : State) : ∃ t, execDevIdentify s = .next t ∧ t.keep = s.keep := by
  (unfold execDevIdentify; refine interpret_keep _ _ _ ?_; intro p s; refine checked_keep _ _ _ _ _ ?_; intro s; simp only [keep_mk, keep_fold, apply_ite State.keep, ite_self, next_keep, whenS_keep, forEach_keep, ifSome_keep, foldl_keep, interpret_keep, checked_keep, complete_keep]; done)

theorem execCntBankEnable_keep (s : State) : ∃ t, execCntBankEnable s = .next t ∧ t.keep = s.keep := by
  (unfold execCntBankEnable; refine interpret_keep _ _ _ ?_; intro p s; refine checked_keep _ _ _ _ _ ?_; intro s; simp only [keep_mk, keep_fold, apply_ite State.keep, ite_self, next_keep, whenS_keep, forEach_keep, ifSome_keep, foldl_keep, interpret_keep, checked_keep, fail_keep, followUse_keep, ok_keep, logEvent_keep]; done)

theorem execCntBankDisable_keep (s : State) : ∃ t, execCntBankDisable s = .next t ∧ t.keep = s.keep := by
  (unfold execCntBankDisable; refine interpret_keep _ _ _ ?_; intro p s; refine checked_keep _ _ _ _ _ ?_; intro s; simp only [keep_mk, keep_fold, apply_ite State.keep, ite_self, next_keep, whenS_keep, forEach_keep, ifSome_keep, foldl_keep, interpret_keep, checked_keep, ok_keep, bankOff_keep, complete_keep]; done)

theorem execCntSnapshot_keep (s : State) : ∃ t, execCntSnapshot s = .next t ∧ t.keep = s.keep := by
  (unfold execCntSnapshot; refine interpret_keep _ _ _ ?_; intro p s; refine checked_keep _ _ _ _ _ ?_; intro s; simp only [keep_mk, keep_fold, apply_ite State.keep, ite_self, next_keep, whenS_keep, forEach_keep, ifSome_keep, foldl_keep, interpret_keep, checked_keep, complete_keep]; done)

theorem execCntRead_keep (s : State) : ∃ t, execCntRead s = .next t ∧ t.keep = s.keep := by
  (unfold execCntRead; refine interpret_keep _ _ _ ?_; intro p s; refine checked_keep _ _ _ _ _ ?_; intro s; simp only [keep_mk, keep_fold, apply_ite State.keep, ite_self, next_keep, whenS_keep, forEach_keep, ifSome_keep, foldl_keep, interpret_keep, checked_keep, complete_keep]; done)

theorem loadIr_keep (a1) (s : State) : ∃ t, loadIr a1 s = .next t ∧ t.keep = s.keep := by
  (unfold loadIr; simp only [keep_mk, keep_fold, apply_ite State.keep, ite_self, next_keep, whenS_keep, forEach_keep, ifSome_keep, foldl_keep, closeSession_keep]; done)

theorem execJtagExtest_keep (s : State) : ∃ t, execJtagExtest s = .next t ∧ t.keep = s.keep := by
  (unfold execJtagExtest; simp only [keep_mk, keep_fold, apply_ite State.keep, ite_self, next_keep, whenS_keep, forEach_keep, ifSome_keep, foldl_keep, loadIr_keep]; done)

theorem execJtagIdcode_keep (s : State) : ∃ t, execJtagIdcode s = .next t ∧ t.keep = s.keep := by
  (unfold execJtagIdcode; simp only [keep_mk, keep_fold, apply_ite State.keep, ite_self, next_keep, whenS_keep, forEach_keep, ifSome_keep, foldl_keep, loadIr_keep]; done)

theorem execJtagSamplePreload_keep (s : State) : ∃ t, execJtagSamplePreload s = .next t ∧ t.keep = s.keep := by
  (unfold execJtagSamplePreload; simp only [keep_mk, keep_fold, apply_ite State.keep, ite_self, next_keep, whenS_keep, forEach_keep, ifSome_keep, foldl_keep, loadIr_keep]; done)

theorem execJtagClamp_keep (s : State) : ∃ t, execJtagClamp s = .next t ∧ t.keep = s.keep := by
  (unfold execJtagClamp; simp only [keep_mk, keep_fold, apply_ite State.keep, ite_self, next_keep, whenS_keep, forEach_keep, ifSome_keep, foldl_keep, loadIr_keep]; done)

theorem execJtagHighz_keep (s : State) : ∃ t, execJtagHighz s = .next t ∧ t.keep = s.keep := by
  (unfold execJtagHighz; simp only [keep_mk, keep_fold, apply_ite State.keep, ite_self, next_keep, whenS_keep, forEach_keep, ifSome_keep, foldl_keep, loadIr_keep]; done)

theorem execJtagExtestPulse_keep (s : State) : ∃ t, execJtagExtestPulse s = .next t ∧ t.keep = s.keep := by
  (unfold execJtagExtestPulse; simp only [keep_mk, keep_fold, apply_ite State.keep, ite_self, next_keep, whenS_keep, forEach_keep, ifSome_keep, foldl_keep, loadIr_keep]; done)

theorem execJtagExtestTrain_keep (s : State) : ∃ t, execJtagExtestTrain s = .next t ∧ t.keep = s.keep := by
  (unfold execJtagExtestTrain; simp only [keep_mk, keep_fold, apply_ite State.keep, ite_self, next_keep, whenS_keep, forEach_keep, ifSome_keep, foldl_keep, loadIr_keep]; done)

theorem execJtagBypass_keep (s : State) : ∃ t, execJtagBypass s = .next t ∧ t.keep = s.keep := by
  (unfold execJtagBypass; simp only [keep_mk, keep_fold, apply_ite State.keep, ite_self, next_keep, whenS_keep, forEach_keep, ifSome_keep, foldl_keep, loadIr_keep]; done)

theorem execDbgAccess_keep (s : State) : ∃ t, execDbgAccess s = .next t ∧ t.keep = s.keep := by
  (unfold execDbgAccess; grind [keep_mk, keep_fold, whenS_keep, forEach_keep, ifSome_keep, foldl_keep, followUse_keep, logEvent_keep])

theorem setDbg_keep (a1) (a2) (s : State) : (setDbg a1 a2 s).keep = s.keep := by
  (unfold setDbg; simp only [keep_mk, keep_fold, apply_ite State.keep, ite_self, next_keep, whenS_keep, forEach_keep, ifSome_keep, foldl_keep]; done)

theorem dbgOp_keep (a1) (a2) (s : State) (h2 : ∀ s, (a2 s).keep = s.keep) : ∃ t, dbgOp a1 a2 s = .next t ∧ t.keep = s.keep := by
  (unfold dbgOp; grind [keep_mk, keep_fold, whenS_keep, forEach_keep, ifSome_keep, foldl_keep, setDbg_keep])

theorem dbgAnswer_keep (a1) (s : State) (h1 : ∀ x t, a1 = some (x, t) → t.keep = s.keep) : (dbgAnswer a1 s).keep = s.keep := by
  unfold dbgAnswer
  repeat' split
  · exact setDbg_keep _ _ _
  · rw [setDbg_keep]; exact h1 _ _ rfl
  · rw [setDbg_keep]; exact h1 _ _ rfl

theorem execDebugDeviceRead_keep (a1) (a2) (s : State) : ∃ t, execDebugDeviceRead a1 a2 s = .next t ∧ t.keep = s.keep := by
  unfold execDebugDeviceRead
  refine dbgOp_keep _ _ _ ?_
  intro s
  repeat' split
  all_goals first
    | exact setDbg_keep _ _ _
    | exact dbgAnswer_keep _ _ fun x t h => devRead_keep _ _ _ x t h

theorem execDebugDeviceWrite_keep (a1) (a2) (a3) (s : State) : ∃ t, execDebugDeviceWrite a1 a2 a3 s = .next t ∧ t.keep = s.keep := by
  unfold execDebugDeviceWrite
  refine dbgOp_keep _ _ _ ?_
  intro s
  repeat' split
  all_goals first
    | exact setDbg_keep _ _ _
    | exact dbgAnswer_keep _ _ fun x t h => devWrite_keep _ _ _ _ x t h

theorem execDebugWardenMemoryRead_keep (a1) (a2) (a3) (a4) (s : State) : ∃ t, execDebugWardenMemoryRead a1 a2 a3 a4 s = .next t ∧ t.keep = s.keep := by
  (unfold execDebugWardenMemoryRead; simp (disch := (intros; first | (simp only [keep_mk, keep_fold, apply_ite State.keep, ite_self, next_keep, whenS_keep, forEach_keep, ifSome_keep, foldl_keep, dbgOp_keep, setDbg_keep]; done) | grind [keep_mk, keep_fold, whenS_keep, forEach_keep, ifSome_keep, foldl_keep, dbgOp_keep, setDbg_keep])) only [keep_mk, keep_fold, apply_ite State.keep, ite_self, next_keep, whenS_keep, forEach_keep, ifSome_keep, foldl_keep, dbgOp_keep, setDbg_keep]; done)

theorem execTapReset_keep (s : State) : ∃ t, execTapReset s = .next t ∧ t.keep = s.keep := by
  (unfold execTapReset; simp only [keep_mk, keep_fold, apply_ite State.keep, ite_self, next_keep, whenS_keep, forEach_keep, ifSome_keep, foldl_keep, closeSession_keep]; done)

theorem lblAnswer_keep (a1) (s : State) : (lblAnswer a1 s).keep = s.keep := by
  (unfold lblAnswer; simp only [keep_mk, keep_fold, apply_ite State.keep, ite_self, next_keep, whenS_keep, forEach_keep, ifSome_keep, foldl_keep, emit_keep]; done)

theorem lblErr_keep (a1) (s : State) : (lblErr a1 s).keep = s.keep := by
  (unfold lblErr; simp only [keep_mk, keep_fold, apply_ite State.keep, ite_self, next_keep, whenS_keep, forEach_keep, ifSome_keep, foldl_keep, lblAnswer_keep]; done)

theorem fieldRun_keep (a1) (a2) (a3) (s : State) (h3 : ∀ x0 s, (a3 x0 s).keep = s.keep) : ∃ t, fieldRun a1 a2 a3 s = .next t ∧ t.keep = s.keep := by
  (unfold fieldRun; grind [keep_mk, keep_fold, whenS_keep, forEach_keep, ifSome_keep, foldl_keep, modLbl_keep, lblErr_keep])

theorem fieldTx_keep (a1) (a2) (s : State) (h2 : ∀ s, (a2 s).keep = s.keep) : (fieldTx a1 a2 s).keep = s.keep := by
  (unfold fieldTx; grind [keep_mk, keep_fold, whenS_keep, forEach_keep, ifSome_keep, foldl_keep, lblErr_keep, modLbl_keep])

theorem sized_keep (a1) (a2) (a3) (s : State) (h3 : ∀ s, (a3 s).keep = s.keep) : (sized a1 a2 a3 s).keep = s.keep := by
  (unfold sized; grind [keep_mk, keep_fold, whenS_keep, forEach_keep, ifSome_keep, foldl_keep, lblErr_keep])

theorem fieldRead_keep (a1) (a2) (a3) (a4) (s : State) : (fieldRead a1 a2 a3 a4 s).keep = s.keep := by
  (unfold fieldRead; grind [keep_mk, keep_fold, whenS_keep, forEach_keep, ifSome_keep, foldl_keep, sized_keep, lblErr_keep, fieldTx_keep, lblAnswer_keep])

theorem fieldWrite_keep (a1) (a2) (a3) (a4) (s : State) : (fieldWrite a1 a2 a3 a4 s).keep = s.keep := by
  (unfold fieldWrite; grind [keep_mk, keep_fold, whenS_keep, forEach_keep, ifSome_keep, foldl_keep, lblErr_keep, sized_keep, fieldTx_keep, lblAnswer_keep, lblStore_keep])

theorem fieldSecurity_keep (a1) (a2) (a3) (s : State) : (fieldSecurity a1 a2 a3 s).keep = s.keep := by
  (unfold fieldSecurity; grind [keep_mk, keep_fold, whenS_keep, forEach_keep, ifSome_keep, foldl_keep, sized_keep, lblErr_keep, fieldTx_keep, lblAnswer_keep])

theorem execLblInventory_keep (a1) (s : State) : ∃ t, execLblInventory a1 s = .next t ∧ t.keep = s.keep := by
  (unfold execLblInventory; simp (disch := (intros; first | (simp only [keep_mk, keep_fold, apply_ite State.keep, ite_self, next_keep, whenS_keep, forEach_keep, ifSome_keep, foldl_keep, fieldRun_keep, lblErr_keep, lblAnswer_keep]; done) | grind [keep_mk, keep_fold, whenS_keep, forEach_keep, ifSome_keep, foldl_keep, fieldRun_keep, lblErr_keep, lblAnswer_keep])) only [keep_mk, keep_fold, apply_ite State.keep, ite_self, next_keep, whenS_keep, forEach_keep, ifSome_keep, foldl_keep, fieldRun_keep, lblErr_keep, lblAnswer_keep]; done)

theorem execLblStayQuiet_keep (a1) (s : State) : ∃ t, execLblStayQuiet a1 s = .next t ∧ t.keep = s.keep := by
  (unfold execLblStayQuiet; simp (disch := (intros; first | (simp only [keep_mk, keep_fold, apply_ite State.keep, ite_self, next_keep, whenS_keep, forEach_keep, ifSome_keep, foldl_keep, fieldRun_keep, modLbl_keep]; done) | grind [keep_mk, keep_fold, whenS_keep, forEach_keep, ifSome_keep, foldl_keep, fieldRun_keep, modLbl_keep])) only [keep_mk, keep_fold, apply_ite State.keep, ite_self, next_keep, whenS_keep, forEach_keep, ifSome_keep, foldl_keep, fieldRun_keep, modLbl_keep]; done)

theorem execLblReadSingleBlock_keep (a1) (a2) (s : State) : ∃ t, execLblReadSingleBlock a1 a2 s = .next t ∧ t.keep = s.keep := by
  (unfold execLblReadSingleBlock; simp (disch := (intros; first | (simp only [keep_mk, keep_fold, apply_ite State.keep, ite_self, next_keep, whenS_keep, forEach_keep, ifSome_keep, foldl_keep, fieldRun_keep, fieldRead_keep]; done) | grind [keep_mk, keep_fold, whenS_keep, forEach_keep, ifSome_keep, foldl_keep, fieldRun_keep, fieldRead_keep])) only [keep_mk, keep_fold, apply_ite State.keep, ite_self, next_keep, whenS_keep, forEach_keep, ifSome_keep, foldl_keep, fieldRun_keep, fieldRead_keep]; done)

theorem execLblWriteSingleBlock_keep (a1) (a2) (s : State) : ∃ t, execLblWriteSingleBlock a1 a2 s = .next t ∧ t.keep = s.keep := by
  (unfold execLblWriteSingleBlock; simp (disch := (intros; first | (simp only [keep_mk, keep_fold, apply_ite State.keep, ite_self, next_keep, whenS_keep, forEach_keep, ifSome_keep, foldl_keep, fieldRun_keep, fieldWrite_keep]; done) | grind [keep_mk, keep_fold, whenS_keep, forEach_keep, ifSome_keep, foldl_keep, fieldRun_keep, fieldWrite_keep])) only [keep_mk, keep_fold, apply_ite State.keep, ite_self, next_keep, whenS_keep, forEach_keep, ifSome_keep, foldl_keep, fieldRun_keep, fieldWrite_keep]; done)

theorem execLblReadMultipleBlocks_keep (a1) (a2) (s : State) : ∃ t, execLblReadMultipleBlocks a1 a2 s = .next t ∧ t.keep = s.keep := by
  (unfold execLblReadMultipleBlocks; simp (disch := (intros; first | (simp only [keep_mk, keep_fold, apply_ite State.keep, ite_self, next_keep, whenS_keep, forEach_keep, ifSome_keep, foldl_keep, fieldRun_keep, fieldRead_keep]; done) | grind [keep_mk, keep_fold, whenS_keep, forEach_keep, ifSome_keep, foldl_keep, fieldRun_keep, fieldRead_keep])) only [keep_mk, keep_fold, apply_ite State.keep, ite_self, next_keep, whenS_keep, forEach_keep, ifSome_keep, foldl_keep, fieldRun_keep, fieldRead_keep]; done)

theorem execLblWriteMultipleBlocks_keep (a1) (a2) (s : State) : ∃ t, execLblWriteMultipleBlocks a1 a2 s = .next t ∧ t.keep = s.keep := by
  (unfold execLblWriteMultipleBlocks; simp (disch := (intros; first | (simp only [keep_mk, keep_fold, apply_ite State.keep, ite_self, next_keep, whenS_keep, forEach_keep, ifSome_keep, foldl_keep, fieldRun_keep, fieldWrite_keep]; done) | grind [keep_mk, keep_fold, whenS_keep, forEach_keep, ifSome_keep, foldl_keep, fieldRun_keep, fieldWrite_keep])) only [keep_mk, keep_fold, apply_ite State.keep, ite_self, next_keep, whenS_keep, forEach_keep, ifSome_keep, foldl_keep, fieldRun_keep, fieldWrite_keep]; done)

theorem execLblSelect_keep (a1) (s : State) : ∃ t, execLblSelect a1 s = .next t ∧ t.keep = s.keep := by
  (unfold execLblSelect; simp (disch := (intros; first | (simp only [keep_mk, keep_fold, apply_ite State.keep, ite_self, next_keep, whenS_keep, forEach_keep, ifSome_keep, foldl_keep, fieldRun_keep, lblAnswer_keep, modLbl_keep]; done) | grind [keep_mk, keep_fold, whenS_keep, forEach_keep, ifSome_keep, foldl_keep, fieldRun_keep, lblAnswer_keep, modLbl_keep])) only [keep_mk, keep_fold, apply_ite State.keep, ite_self, next_keep, whenS_keep, forEach_keep, ifSome_keep, foldl_keep, fieldRun_keep, lblAnswer_keep, modLbl_keep]; done)

theorem execLblResetToReady_keep (a1) (s : State) : ∃ t, execLblResetToReady a1 s = .next t ∧ t.keep = s.keep := by
  (unfold execLblResetToReady; simp (disch := (intros; first | (simp only [keep_mk, keep_fold, apply_ite State.keep, ite_self, next_keep, whenS_keep, forEach_keep, ifSome_keep, foldl_keep, fieldRun_keep, lblAnswer_keep, modLbl_keep]; done) | grind [keep_mk, keep_fold, whenS_keep, forEach_keep, ifSome_keep, foldl_keep, fieldRun_keep, lblAnswer_keep, modLbl_keep])) only [keep_mk, keep_fold, apply_ite State.keep, ite_self, next_keep, whenS_keep, forEach_keep, ifSome_keep, foldl_keep, fieldRun_keep, lblAnswer_keep, modLbl_keep]; done)

theorem execLblGetSystemInfo_keep (a1) (s : State) : ∃ t, execLblGetSystemInfo a1 s = .next t ∧ t.keep = s.keep := by
  exact fieldRun_keep _ _ _ _ fun q s => sized_keep _ _ _ _ fun s => lblAnswer_keep _ _

theorem execLblGetMultipleBlockSecurityStatus_keep (a1) (a2) (s : State) : ∃ t, execLblGetMultipleBlockSecurityStatus a1 a2 s = .next t ∧ t.keep = s.keep := by
  (unfold execLblGetMultipleBlockSecurityStatus; simp (disch := (intros; first | (simp only [keep_mk, keep_fold, apply_ite State.keep, ite_self, next_keep, whenS_keep, forEach_keep, ifSome_keep, foldl_keep, fieldRun_keep, fieldSecurity_keep]; done) | grind [keep_mk, keep_fold, whenS_keep, forEach_keep, ifSome_keep, foldl_keep, fieldRun_keep, fieldSecurity_keep])) only [keep_mk, keep_fold, apply_ite State.keep, ite_self, next_keep, whenS_keep, forEach_keep, ifSome_keep, foldl_keep, fieldRun_keep, fieldSecurity_keep]; done)

theorem execExtendedReadSingleBlock_keep (a1) (a2) (s : State) : ∃ t, execExtendedReadSingleBlock a1 a2 s = .next t ∧ t.keep = s.keep := by
  (unfold execExtendedReadSingleBlock; simp (disch := (intros; first | (simp only [keep_mk, keep_fold, apply_ite State.keep, ite_self, next_keep, whenS_keep, forEach_keep, ifSome_keep, foldl_keep, fieldRun_keep, fieldRead_keep]; done) | grind [keep_mk, keep_fold, whenS_keep, forEach_keep, ifSome_keep, foldl_keep, fieldRun_keep, fieldRead_keep])) only [keep_mk, keep_fold, apply_ite State.keep, ite_self, next_keep, whenS_keep, forEach_keep, ifSome_keep, foldl_keep, fieldRun_keep, fieldRead_keep]; done)

theorem execExtendedWriteSingleBlock_keep (a1) (a2) (s : State) : ∃ t, execExtendedWriteSingleBlock a1 a2 s = .next t ∧ t.keep = s.keep := by
  (unfold execExtendedWriteSingleBlock; simp (disch := (intros; first | (simp only [keep_mk, keep_fold, apply_ite State.keep, ite_self, next_keep, whenS_keep, forEach_keep, ifSome_keep, foldl_keep, fieldRun_keep, fieldWrite_keep]; done) | grind [keep_mk, keep_fold, whenS_keep, forEach_keep, ifSome_keep, foldl_keep, fieldRun_keep, fieldWrite_keep])) only [keep_mk, keep_fold, apply_ite State.keep, ite_self, next_keep, whenS_keep, forEach_keep, ifSome_keep, foldl_keep, fieldRun_keep, fieldWrite_keep]; done)

theorem execExtendedReadMultipleBlocks_keep (a1) (a2) (s : State) : ∃ t, execExtendedReadMultipleBlocks a1 a2 s = .next t ∧ t.keep = s.keep := by
  (unfold execExtendedReadMultipleBlocks; simp (disch := (intros; first | (simp only [keep_mk, keep_fold, apply_ite State.keep, ite_self, next_keep, whenS_keep, forEach_keep, ifSome_keep, foldl_keep, fieldRun_keep, fieldRead_keep]; done) | grind [keep_mk, keep_fold, whenS_keep, forEach_keep, ifSome_keep, foldl_keep, fieldRun_keep, fieldRead_keep])) only [keep_mk, keep_fold, apply_ite State.keep, ite_self, next_keep, whenS_keep, forEach_keep, ifSome_keep, foldl_keep, fieldRun_keep, fieldRead_keep]; done)

theorem execExtendedWriteMultipleBlocks_keep (a1) (a2) (s : State) : ∃ t, execExtendedWriteMultipleBlocks a1 a2 s = .next t ∧ t.keep = s.keep := by
  (unfold execExtendedWriteMultipleBlocks; simp (disch := (intros; first | (simp only [keep_mk, keep_fold, apply_ite State.keep, ite_self, next_keep, whenS_keep, forEach_keep, ifSome_keep, foldl_keep, fieldRun_keep, fieldWrite_keep]; done) | grind [keep_mk, keep_fold, whenS_keep, forEach_keep, ifSome_keep, foldl_keep, fieldRun_keep, fieldWrite_keep])) only [keep_mk, keep_fold, apply_ite State.keep, ite_self, next_keep, whenS_keep, forEach_keep, ifSome_keep, foldl_keep, fieldRun_keep, fieldWrite_keep]; done)

theorem execExtendedGetSystemInfo_keep (a1) (a2) (s : State) : ∃ t, execExtendedGetSystemInfo a1 a2 s = .next t ∧ t.keep = s.keep := by
  unfold execExtendedGetSystemInfo
  refine fieldRun_keep _ _ _ _ ?_
  intro q s
  split
  · exact fieldSecurity_keep _ _ _ _
  · exact sized_keep _ _ _ _ fun s => lblAnswer_keep _ _

theorem execUnsupportedFieldCommand_keep (a1) (s : State) : ∃ t, execUnsupportedFieldCommand a1 s = .next t ∧ t.keep = s.keep := by
  (unfold execUnsupportedFieldCommand; simp (disch := (intros; first | (simp only [keep_mk, keep_fold, apply_ite State.keep, ite_self, next_keep, whenS_keep, forEach_keep, ifSome_keep, foldl_keep, fieldRun_keep, lblErr_keep]; done) | grind [keep_mk, keep_fold, whenS_keep, forEach_keep, ifSome_keep, foldl_keep, fieldRun_keep, lblErr_keep])) only [keep_mk, keep_fold, apply_ite State.keep, ite_self, next_keep, whenS_keep, forEach_keep, ifSome_keep, foldl_keep, fieldRun_keep, lblErr_keep]; done)

theorem execMbxSubmit_keep (a1) (a2) (s : State) : ∃ t, execMbxSubmit a1 a2 s = .next t ∧ t.keep = s.keep := by
  unfold execMbxSubmit
  refine fieldRun_keep _ _ _ _ ?_
  intro q s
  dsimp only
  split
  · exact lblErr_keep _ _
  split
  · exact lblErr_keep _ _
  refine fieldTx_keep _ _ _ ?_
  intro s
  grind [lblErr_keep, logEvent_keep, lblStore_keep, frontEnd_keep, routePost_keep, lblAnswer_keep]

theorem execLblWake_keep (a1) (s : State) : ∃ t, execLblWake a1 s = .next t ∧ t.keep = s.keep := by
  unfold execLblWake
  refine fieldRun_keep _ _ _ _ ?_
  intro q s
  refine sized_keep _ _ _ _ ?_
  intro s
  grind [lblErr_keep, modLbl_keep, lblAnswer_keep, wakeEvent_keep]

theorem execReaderField_keep (a1) (s : State) : ∃ t, execReaderField a1 s = .next t ∧ t.keep = s.keep := by
  (unfold execReaderField; simp only [keep_mk, keep_fold, apply_ite State.keep, ite_self, next_keep, whenS_keep, forEach_keep, ifSome_keep, foldl_keep, modLbl_keep]; done)

theorem execLabelDeviceRead_keep (a1) (s : State) : ∃ t, execLabelDeviceRead a1 s = .next t ∧ t.keep = s.keep := by
  (unfold execLabelDeviceRead; simp only [keep_mk, keep_fold, apply_ite State.keep, ite_self, next_keep, whenS_keep, forEach_keep, ifSome_keep, foldl_keep, lblOp_keep]; done)

theorem execLabelDeviceWrite_keep (a1) (s : State) : ∃ t, execLabelDeviceWrite a1 s = .next t ∧ t.keep = s.keep := by
  (unfold execLabelDeviceWrite; simp only [keep_mk, keep_fold, apply_ite State.keep, ite_self, next_keep, whenS_keep, forEach_keep, ifSome_keep, foldl_keep, lblOp_keep]; done)

theorem execLabelDeferredRetry_keep (s : State) : ∃ t, execLabelDeferredRetry s = .next t ∧ t.keep = s.keep := by
  (unfold execLabelDeferredRetry; simp only [keep_mk, keep_fold, apply_ite State.keep, ite_self, next_keep, whenS_keep, forEach_keep, ifSome_keep, foldl_keep, lblGo_keep, modLbl_keep]; done)

theorem execLabelDeferTimeout_keep (s : State) : ∃ t, execLabelDeferTimeout s = .next t ∧ t.keep = s.keep := by
  (unfold execLabelDeferTimeout; grind [keep_mk, keep_fold, whenS_keep, forEach_keep, ifSome_keep, foldl_keep, freeNat_keep, logEvent_keep, lblGo_keep, jobEnd_keep, modLbl_keep])

theorem execLabelWriteCommit_keep (s : State) : ∃ t, execLabelWriteCommit s = .next t ∧ t.keep = s.keep := by
  (unfold execLabelWriteCommit; simp only [keep_mk, keep_fold, apply_ite State.keep, ite_self, next_keep, whenS_keep, forEach_keep, ifSome_keep, foldl_keep, lblGo_keep, lblCommit_keep]; done)

theorem execMirrorTimeout_keep (s : State) : ∃ t, execMirrorTimeout s = .next t ∧ t.keep = s.keep := by
  (unfold execMirrorTimeout; grind [keep_mk, keep_fold, whenS_keep, forEach_keep, ifSome_keep, foldl_keep, modLbl_keep, logEvent_keep, lblSubmit_keep, lblStore_keep, mirrorOver_keep])

theorem execLatticeFrameReceived_keep (a1) (a2) (a3) (s : State) : ∃ t, execLatticeFrameReceived a1 a2 a3 s = .next t ∧ t.keep = s.keep := by
  (unfold execLatticeFrameReceived; simp only [keep_mk, keep_fold, apply_ite State.keep, ite_self, next_keep, whenS_keep, forEach_keep, ifSome_keep, foldl_keep, hoCheck_keep, laneFrame_keep]; done)

theorem execLatticeFrameSlot_keep (a1) (s : State) : ∃ t, execLatticeFrameSlot a1 s = .next t ∧ t.keep = s.keep := by
  (unfold execLatticeFrameSlot; simp only [keep_mk, keep_fold, apply_ite State.keep, ite_self, next_keep, whenS_keep, forEach_keep, ifSome_keep, foldl_keep, latSlot_keep]; done)

theorem execTunnelFrameReceived_keep (a1) (a2) (s : State) : ∃ t, execTunnelFrameReceived a1 a2 s = .next t ∧ t.keep = s.keep := by
  (unfold execTunnelFrameReceived; grind [keep_mk, keep_fold, whenS_keep, forEach_keep, ifSome_keep, foldl_keep, hoCheck_keep, tunnelIn_keep, countEv_keep])

theorem execTunnelFlush_keep (a1) (s : State) : ∃ t, execTunnelFlush a1 s = .next t ∧ t.keep = s.keep := by
  (unfold execTunnelFlush; simp only [keep_mk, keep_fold, apply_ite State.keep, ite_self, next_keep, whenS_keep, forEach_keep, ifSome_keep, foldl_keep, tunnelFlush_keep]; done)

theorem takeInbox_keep (a1) (s : State) : ∀ y0 y1 t, takeInbox a1 s = some (y0, y1, t) → t.keep = s.keep := by
  intro y0 y1 t h
  unfold takeInbox at h
  grind [cadRelease_keep, modLat_keep]

theorem execCommandCarriage_keep (s : State) : ∃ t, execCommandCarriage s = .next t ∧ t.keep = s.keep := by
  (unfold execCommandCarriage; (repeat' split) <;> (refine ⟨_, rfl, ?_⟩) <;> (first | (simp (disch := (intros; first | (simp only [keep_mk, keep_fold, apply_ite State.keep, ite_self, next_keep, whenS_keep, forEach_keep, ifSome_keep, foldl_keep, takeInbox_keep, frontEnd_keep]; done) | grind [keep_mk, keep_fold, whenS_keep, forEach_keep, ifSome_keep, foldl_keep, takeInbox_keep, frontEnd_keep, Option.map_eq_some_iff, Option.bind_eq_some_iff])) only [keep_mk, keep_fold, apply_ite State.keep, ite_self, next_keep, whenS_keep, forEach_keep, ifSome_keep, foldl_keep, takeInbox_keep, frontEnd_keep]; done) | grind [keep_mk, keep_fold, whenS_keep, forEach_keep, ifSome_keep, foldl_keep, takeInbox_keep, frontEnd_keep, Option.map_eq_some_iff, Option.bind_eq_some_iff]))

theorem execSymbolLock_keep (a1) (s : State) : ∃ t, execSymbolLock a1 s = .next t ∧ t.keep = s.keep := by
  (unfold execSymbolLock; simp only [keep_mk, keep_fold, apply_ite State.keep, ite_self, next_keep, whenS_keep, forEach_keep, ifSome_keep, foldl_keep, modLink_keep]; done)

theorem trainFailed_keep (a1) (s : State) : (trainFailed a1 s).keep = s.keep := by
  (unfold trainFailed; simp only [keep_mk, keep_fold, apply_ite State.keep, ite_self, next_keep, whenS_keep, forEach_keep, ifSome_keep, foldl_keep, logLimited_keep, modLink_keep]; done)

theorem execSymbolLockTimeout_keep (a1) (s : State) : ∃ t, execSymbolLockTimeout a1 s = .next t ∧ t.keep = s.keep := by
  (unfold execSymbolLockTimeout; simp only [keep_mk, keep_fold, apply_ite State.keep, ite_self, next_keep, whenS_keep, forEach_keep, ifSome_keep, foldl_keep, trainFailed_keep]; done)

theorem execTrainingTimeout_keep (a1) (s : State) : ∃ t, execTrainingTimeout a1 s = .next t ∧ t.keep = s.keep := by
  (unfold execTrainingTimeout; simp only [keep_mk, keep_fold, apply_ite State.keep, ite_self, next_keep, whenS_keep, forEach_keep, ifSome_keep, foldl_keep, trainFailed_keep]; done)

theorem execLinkRetrain_keep (a1) (s : State) : ∃ t, execLinkRetrain a1 s = .next t ∧ t.keep = s.keep := by
  (unfold execLinkRetrain; simp only [keep_mk, keep_fold, apply_ite State.keep, ite_self, next_keep, whenS_keep, forEach_keep, ifSome_keep, foldl_keep, latTrain_keep, modLink_keep]; done)

theorem execHelloTimer_keep (a1) (s : State) : ∃ t, execHelloTimer a1 s = .next t ∧ t.keep = s.keep := by
  (unfold execHelloTimer; simp only [keep_mk, keep_fold, apply_ite State.keep, ite_self, next_keep, whenS_keep, forEach_keep, ifSome_keep, foldl_keep, modLink_keep]; done)

theorem execDeadTimer_keep (a1) (s : State) : ∃ t, execDeadTimer a1 s = .next t ∧ t.keep = s.keep := by
  (unfold execDeadTimer; simp only [keep_mk, keep_fold, apply_ite State.keep, ite_self, next_keep, whenS_keep, forEach_keep, ifSome_keep, foldl_keep, hoCheck_keep, linkDown_keep]; done)

theorem execReplayTimer_keep (a1) (s : State) : ∃ t, execReplayTimer a1 s = .next t ∧ t.keep = s.keep := by
  (unfold execReplayTimer; grind [keep_mk, keep_fold, whenS_keep, forEach_keep, ifSome_keep, foldl_keep, hoCheck_keep, linkDown_keep, modLink_keep])

end Sys2Proof.Machine
end

