-- ==== Sys2Proof/Laws/Keep8.lean ====
section
/-!
SUPPORT. Sys2Proof/Laws/Keep8.lean: part 8 of 8 of the frame lemmas, one for each function on states: it leaves the queue, the microseconds, the OTP and the label locks alone.
-/
namespace Sys2Proof.Machine
open Sys2Proof
set_option linter.all false
set_option maxRecDepth 4000

theorem execQualityWindow_keep (a1) (s : State) : ∃ t, execQualityWindow a1 s = .next t ∧ t.keep = s.keep := by
  (unfold execQualityWindow; grind [keep_mk, keep_fold, whenS_keep, forEach_keep, ifSome_keep, foldl_keep, modLink_keep, logEvent_keep, lsaDue_keep, hoCheck_keep, linkDown_keep])

theorem execLsaReceived_keep (s : State) : ∃ t, execLsaReceived s = .next t ∧ t.keep = s.keep := by
  (unfold execLsaReceived; (repeat' split) <;> (refine ⟨_, rfl, ?_⟩) <;> (first | (simp (disch := (intros; first | (simp only [keep_mk, keep_fold, apply_ite State.keep, ite_self, next_keep, whenS_keep, forEach_keep, ifSome_keep, foldl_keep, takeInbox_keep, lsaIn_keep]; done) | grind [keep_mk, keep_fold, whenS_keep, forEach_keep, ifSome_keep, foldl_keep, takeInbox_keep, lsaIn_keep, Option.map_eq_some_iff, Option.bind_eq_some_iff])) only [keep_mk, keep_fold, apply_ite State.keep, ite_self, next_keep, whenS_keep, forEach_keep, ifSome_keep, foldl_keep, takeInbox_keep, lsaIn_keep]; done) | grind [keep_mk, keep_fold, whenS_keep, forEach_keep, ifSome_keep, foldl_keep, takeInbox_keep, lsaIn_keep, Option.map_eq_some_iff, Option.bind_eq_some_iff]))

theorem execLsaOriginate_keep (s : State) : ∃ t, execLsaOriginate s = .next t ∧ t.keep = s.keep := by
  (unfold execLsaOriginate; simp only [keep_mk, keep_fold, apply_ite State.keep, ite_self, next_keep, whenS_keep, forEach_keep, ifSome_keep, foldl_keep, originate_keep]; done)

theorem execLsaAgeExpiry_keep (a1) (s : State) : ∃ t, execLsaAgeExpiry a1 s = .next t ∧ t.keep = s.keep := by
  (unfold execLsaAgeExpiry; simp only [keep_mk, keep_fold, apply_ite State.keep, ite_self, next_keep, whenS_keep, forEach_keep, ifSome_keep, foldl_keep, modLat_keep]; done)

theorem execVertexClaimHeld_keep (s : State) : ∃ t, execVertexClaimHeld s = .next t ∧ t.keep = s.keep := by
  (unfold execVertexClaimHeld; simp only [keep_mk, keep_fold, apply_ite State.keep, ite_self, next_keep, whenS_keep, forEach_keep, ifSome_keep, foldl_keep, lsaDue_keep, logEvent_keep, modLat_keep]; done)

theorem execRouteRecompute_keep (s : State) : ∃ t, execRouteRecompute s = .next t ∧ t.keep = s.keep := by
  (unfold execRouteRecompute; simp only [keep_mk, keep_fold, apply_ite State.keep, ite_self, next_keep, whenS_keep, forEach_keep, ifSome_keep, foldl_keep, recompute_keep]; done)

theorem execHandoverStateReceived_keep (a1) (a2) (s : State) : ∃ t, execHandoverStateReceived a1 a2 s = .next t ∧ t.keep = s.keep := by
  (unfold execHandoverStateReceived; (repeat' split) <;> (refine ⟨_, rfl, ?_⟩) <;> (first | (simp (disch := (intros; first | (simp only [keep_mk, keep_fold, apply_ite State.keep, ite_self, next_keep, whenS_keep, forEach_keep, ifSome_keep, foldl_keep, takeInbox_keep, hoTake_keep]; done) | grind [keep_mk, keep_fold, whenS_keep, forEach_keep, ifSome_keep, foldl_keep, takeInbox_keep, hoTake_keep, Option.map_eq_some_iff, Option.bind_eq_some_iff])) only [keep_mk, keep_fold, apply_ite State.keep, ite_self, next_keep, whenS_keep, forEach_keep, ifSome_keep, foldl_keep, takeInbox_keep, hoTake_keep]; done) | grind [keep_mk, keep_fold, whenS_keep, forEach_keep, ifSome_keep, foldl_keep, takeInbox_keep, hoTake_keep, Option.map_eq_some_iff, Option.bind_eq_some_iff]))

theorem execHandoverStop_keep (s : State) : ∃ t, execHandoverStop s = .next t ∧ t.keep = s.keep := by
  (unfold execHandoverStop; simp only [keep_mk, keep_fold, apply_ite State.keep, ite_self, next_keep, whenS_keep, forEach_keep, ifSome_keep, foldl_keep, hoStop_keep]; done)

theorem execHandoverWorkDeadline_keep (s : State) : ∃ t, execHandoverWorkDeadline s = .next t ∧ t.keep = s.keep := by
  (unfold execHandoverWorkDeadline; simp only [keep_mk, keep_fold, apply_ite State.keep, ite_self, next_keep, whenS_keep, forEach_keep, ifSome_keep, foldl_keep, hoCopy_keep]; done)

theorem execHandoverStopTimeout_keep (s : State) : ∃ t, execHandoverStopTimeout s = .next t ∧ t.keep = s.keep := by
  (unfold execHandoverStopTimeout; simp only [keep_mk, keep_fold, apply_ite State.keep, ite_self, next_keep, whenS_keep, forEach_keep, ifSome_keep, foldl_keep, hoAbort_keep]; done)

theorem execHandoverSwitch_keep (s : State) : ∃ t, execHandoverSwitch s = .next t ∧ t.keep = s.keep := by
  (unfold execHandoverSwitch; simp only [keep_mk, keep_fold, apply_ite State.keep, ite_self, next_keep, whenS_keep, forEach_keep, ifSome_keep, foldl_keep, hoSwitch_keep]; done)

theorem execHandoverRelease_keep (s : State) : ∃ t, execHandoverRelease s = .next t ∧ t.keep = s.keep := by
  (unfold execHandoverRelease; simp only [keep_mk, keep_fold, apply_ite State.keep, ite_self, next_keep, whenS_keep, forEach_keep, ifSome_keep, foldl_keep, hoRelease_keep]; done)

theorem execLatStatus_keep (s : State) : ∃ t, execLatStatus s = .next t ∧ t.keep = s.keep := by
  (unfold execLatStatus; refine interpret_keep _ _ _ ?_; intro p s; refine checked_keep _ _ _ _ _ ?_; intro s; simp only [keep_mk, keep_fold, apply_ite State.keep, ite_self, next_keep, whenS_keep, forEach_keep, ifSome_keep, foldl_keep, interpret_keep, checked_keep, complete_keep]; done)

theorem setLinkCfg_keep (a1) (a2) (a3) (s : State) : (setLinkCfg a1 a2 a3 s).keep = s.keep := by
  (unfold setLinkCfg; simp only [keep_mk, keep_fold, apply_ite State.keep, ite_self, next_keep, whenS_keep, forEach_keep, ifSome_keep, foldl_keep, linkDown_keep, modLink_keep, syncUse_keep, latStart_keep, lsaDue_keep]; done)

theorem execLatVertexSet_keep (s : State) : ∃ t, execLatVertexSet s = .next t ∧ t.keep = s.keep := by
  (unfold execLatVertexSet; refine interpret_keep _ _ _ ?_; intro p s; dsimp only; (repeat' split) <;> (first | (simp (disch := (intros; first | (simp only [keep_mk, keep_fold, apply_ite State.keep, ite_self, next_keep, whenS_keep, forEach_keep, ifSome_keep, foldl_keep, interpret_keep, checked_keep, modLat_keep, ok_keep, startClaim_keep, lsaDue_keep, hoCheck_keep, setLinkCfg_keep, fail_keep, badParam_keep]; done) | grind [keep_mk, keep_fold, whenS_keep, forEach_keep, ifSome_keep, foldl_keep, interpret_keep, checked_keep, modLat_keep, ok_keep, startClaim_keep, lsaDue_keep, hoCheck_keep, setLinkCfg_keep, fail_keep, badParam_keep])) only [keep_mk, keep_fold, apply_ite State.keep, ite_self, next_keep, whenS_keep, forEach_keep, ifSome_keep, foldl_keep, interpret_keep, checked_keep, modLat_keep, ok_keep, startClaim_keep, lsaDue_keep, hoCheck_keep, setLinkCfg_keep, fail_keep, badParam_keep]; done) | grind [keep_mk, keep_fold, whenS_keep, forEach_keep, ifSome_keep, foldl_keep, interpret_keep, checked_keep, modLat_keep, ok_keep, startClaim_keep, lsaDue_keep, hoCheck_keep, setLinkCfg_keep, fail_keep, badParam_keep] | (refine checked_keep _ _ _ _ _ ?_; intro s; first | (simp only [keep_mk, keep_fold, apply_ite State.keep, ite_self, next_keep, whenS_keep, forEach_keep, ifSome_keep, foldl_keep, interpret_keep, checked_keep, modLat_keep, ok_keep, startClaim_keep, lsaDue_keep, hoCheck_keep, setLinkCfg_keep, fail_keep, badParam_keep]; done) | grind [keep_mk, keep_fold, whenS_keep, forEach_keep, ifSome_keep, foldl_keep, interpret_keep, checked_keep, modLat_keep, ok_keep, startClaim_keep, lsaDue_keep, hoCheck_keep, setLinkCfg_keep, fail_keep, badParam_keep])))

theorem execLatStackJoin_keep (s : State) : ∃ t, execLatStackJoin s = .next t ∧ t.keep = s.keep := by
  (unfold execLatStackJoin; refine interpret_keep _ _ _ ?_; intro p s; dsimp only; (repeat' split) <;> (first | (simp (disch := (intros; first | (simp only [keep_mk, keep_fold, apply_ite State.keep, ite_self, next_keep, whenS_keep, forEach_keep, ifSome_keep, foldl_keep, interpret_keep, checked_keep, badParam_keep, fail_keep, ok_keep, lsaDue_keep, modLat_keep, wakeAgg_keep]; done) | grind [keep_mk, keep_fold, whenS_keep, forEach_keep, ifSome_keep, foldl_keep, interpret_keep, checked_keep, badParam_keep, fail_keep, ok_keep, lsaDue_keep, modLat_keep, wakeAgg_keep])) only [keep_mk, keep_fold, apply_ite State.keep, ite_self, next_keep, whenS_keep, forEach_keep, ifSome_keep, foldl_keep, interpret_keep, checked_keep, badParam_keep, fail_keep, ok_keep, lsaDue_keep, modLat_keep, wakeAgg_keep]; done) | grind [keep_mk, keep_fold, whenS_keep, forEach_keep, ifSome_keep, foldl_keep, interpret_keep, checked_keep, badParam_keep, fail_keep, ok_keep, lsaDue_keep, modLat_keep, wakeAgg_keep] | (refine checked_keep _ _ _ _ _ ?_; intro s; first | (simp only [keep_mk, keep_fold, apply_ite State.keep, ite_self, next_keep, whenS_keep, forEach_keep, ifSome_keep, foldl_keep, interpret_keep, checked_keep, badParam_keep, fail_keep, ok_keep, lsaDue_keep, modLat_keep, wakeAgg_keep]; done) | grind [keep_mk, keep_fold, whenS_keep, forEach_keep, ifSome_keep, foldl_keep, interpret_keep, checked_keep, badParam_keep, fail_keep, ok_keep, lsaDue_keep, modLat_keep, wakeAgg_keep])))

theorem execLatStackLeave_keep (s : State) : ∃ t, execLatStackLeave s = .next t ∧ t.keep = s.keep := by
  (unfold execLatStackLeave; refine interpret_keep _ _ _ ?_; intro p s; refine checked_keep _ _ _ _ _ ?_; intro s; simp only [keep_mk, keep_fold, apply_ite State.keep, ite_self, next_keep, whenS_keep, forEach_keep, ifSome_keep, foldl_keep, interpret_keep, checked_keep, ok_keep, lsaDue_keep, elect_keep, modLat_keep]; done)

theorem execLatHandover_keep (s : State) : ∃ t, execLatHandover s = .next t ∧ t.keep = s.keep := by
  (unfold execLatHandover; refine interpret_keep _ _ _ ?_; intro p s; dsimp only; (repeat' split) <;> (first | (simp (disch := (intros; first | (simp only [keep_mk, keep_fold, apply_ite State.keep, ite_self, next_keep, whenS_keep, forEach_keep, ifSome_keep, foldl_keep, interpret_keep, checked_keep, hoStart_keep, fail_keep, hoAbort_keep, complete_keep]; done) | grind [keep_mk, keep_fold, whenS_keep, forEach_keep, ifSome_keep, foldl_keep, interpret_keep, checked_keep, hoStart_keep, fail_keep, hoAbort_keep, complete_keep])) only [keep_mk, keep_fold, apply_ite State.keep, ite_self, next_keep, whenS_keep, forEach_keep, ifSome_keep, foldl_keep, interpret_keep, checked_keep, hoStart_keep, fail_keep, hoAbort_keep, complete_keep]; done) | grind [keep_mk, keep_fold, whenS_keep, forEach_keep, ifSome_keep, foldl_keep, interpret_keep, checked_keep, hoStart_keep, fail_keep, hoAbort_keep, complete_keep] | (refine checked_keep _ _ _ _ _ ?_; intro s; first | (simp only [keep_mk, keep_fold, apply_ite State.keep, ite_self, next_keep, whenS_keep, forEach_keep, ifSome_keep, foldl_keep, interpret_keep, checked_keep, hoStart_keep, fail_keep, hoAbort_keep, complete_keep]; done) | grind [keep_mk, keep_fold, whenS_keep, forEach_keep, ifSome_keep, foldl_keep, interpret_keep, checked_keep, hoStart_keep, fail_keep, hoAbort_keep, complete_keep])))

theorem modLcy_keep (a1) (s : State) : (modLcy a1 s).keep = s.keep := by
  (unfold modLcy; simp only [keep_mk, keep_fold, apply_ite State.keep, ite_self, next_keep, whenS_keep, forEach_keep, ifSome_keep, foldl_keep]; done)

theorem drawNonce_keep (s : State) : (drawNonce s).keep = s.keep := by
  (unfold drawNonce; simp only [keep_mk, keep_fold, apply_ite State.keep, ite_self, next_keep, whenS_keep, forEach_keep, ifSome_keep, foldl_keep, freeBytes_keep, modLcy_keep]; done)

theorem acceptCon_keep (a1) (s : State) : (acceptCon a1 s).keep = s.keep := by
  (unfold acceptCon; simp only [keep_mk, keep_fold, apply_ite State.keep, ite_self, next_keep, whenS_keep, forEach_keep, ifSome_keep, foldl_keep, logEvent_keep, drawNonce_keep]; done)

theorem markSlot_keep (a1) (a2) (s : State) : (markSlot a1 a2 s).keep = s.keep := by
  (unfold markSlot; simp only [keep_mk, keep_fold, apply_ite State.keep, ite_self, next_keep, whenS_keep, forEach_keep, ifSome_keep, foldl_keep, modLcy_keep]; done)

theorem recheckSlots_keep (s : State) : (recheckSlots s).keep = s.keep := by
  (unfold recheckSlots; grind [keep_mk, keep_fold, whenS_keep, forEach_keep, ifSome_keep, foldl_keep, markSlot_keep])

theorem writeRec_keep (a1) (s : State) : (writeRec a1 s).keep = s.keep := by
  (unfold writeRec; simp only [keep_mk, keep_fold, apply_ite State.keep, ite_self, next_keep, whenS_keep, forEach_keep, ifSome_keep, foldl_keep, modLcy_keep]; done)

theorem putRec_keep (a1) (s : State) : (putRec a1 s).keep = s.keep := by
  (unfold putRec; simp only [keep_mk, keep_fold, apply_ite State.keep, ite_self, next_keep, whenS_keep, forEach_keep, ifSome_keep, foldl_keep, modLcy_keep, writeRec_keep]; done)

theorem flushFlash_keep (s : State) : (flushFlash s).keep = s.keep := by
  (unfold flushFlash; grind [keep_mk, keep_fold, whenS_keep, forEach_keep, ifSome_keep, foldl_keep, writeRec_keep, modLcy_keep])

theorem bootSlot_keep (a1) (s : State) : (bootSlot a1 s).keep = s.keep := by
  (unfold bootSlot; grind [keep_mk, keep_fold, whenS_keep, forEach_keep, ifSome_keep, foldl_keep, acceptCon_keep, modLcy_keep, modWdn_keep, bootRole_keep])

theorem trySlot_keep (a1) (s : State) : (trySlot a1 s).2.keep = s.keep := by
  (unfold trySlot; grind [keep_mk, keep_fold, whenS_keep, forEach_keep, ifSome_keep, foldl_keep, bootSlot_keep, logEvent_keep])

theorem trySlot_keep2 (a1) (s : State) : ∀ y0 t, (trySlot a1 s) = (y0, t) → t.keep = s.keep := by
  intro y0 t h; have := trySlot_keep a1 s; rw [h] at this; exact this

theorem chooseSlot_keep (s : State) : (chooseSlot s).2.keep = s.keep := by
  (unfold chooseSlot; grind [keep_mk, keep_fold, whenS_keep, forEach_keep, ifSome_keep, foldl_keep, modLcy_keep, logEvent_keep, writeRec_keep])

theorem chooseSlot_keep2 (s : State) : ∀ y0 t, (chooseSlot s) = (y0, t) → t.keep = s.keep := by
  intro y0 t h; have := chooseSlot_keep s; rw [h] at this; exact this

theorem romService_keep (s : State) : (romService s).keep = s.keep := by
  (unfold romService; simp only [keep_mk, keep_fold, apply_ite State.keep, ite_self, next_keep, whenS_keep, forEach_keep, ifSome_keep, foldl_keep, modLcy_keep]; done)

theorem scanSlots_keep (s : State) : (scanSlots s).keep = s.keep := by
  (unfold scanSlots; grind [keep_mk, keep_fold, whenS_keep, forEach_keep, ifSome_keep, foldl_keep, markSlot_keep])

theorem bootImages_keep (s : State) : (bootImages s).keep = s.keep := by
  (unfold bootImages; simp only [keep_mk, keep_fold, apply_ite State.keep, ite_self, next_keep, whenS_keep, forEach_keep, ifSome_keep, foldl_keep, chooseSlot_keep, scanSlots_keep, flushFlash_keep, trySlot_keep, modLcy_keep, romService_keep]; done)

theorem execSecureBoot_keep (s : State) : ∃ t, execSecureBoot s = .next t ∧ t.keep = s.keep := by
  (unfold execSecureBoot; grind [keep_mk, keep_fold, whenS_keep, forEach_keep, ifSome_keep, foldl_keep, drawNonce_keep, modLcy_keep, romService_keep, scanSlots_keep, flushFlash_keep, bootImages_keep])

theorem enterBootState_keep (s : State) : (enterBootState s).keep = s.keep := by
  (unfold enterBootState; simp only [keep_mk, keep_fold, apply_ite State.keep, ite_self, next_keep, whenS_keep, forEach_keep, ifSome_keep, foldl_keep, applyDomains_keep, startLimit_keep, stateChange_keep, enterRunTrim_keep, callDown_keep]; done)

theorem execBootDone_keep (s : State) : ∃ t, execBootDone s = .next t ∧ t.keep = s.keep := by
  (unfold execBootDone; grind [keep_mk, keep_fold, whenS_keep, forEach_keep, ifSome_keep, foldl_keep, modLcy_keep, logEvent_keep, lblBoot_keep, enterBootState_keep, latBoot_keep])

theorem execConfirmTimerExpiry_keep (a1) (s : State) : ∃ t, execConfirmTimerExpiry a1 s = .next t ∧ t.keep = s.keep := by
  (unfold execConfirmTimerExpiry; grind [keep_mk, keep_fold, whenS_keep, forEach_keep, ifSome_keep, foldl_keep, resetDone_keep, takeReset_keep])

theorem execTransitionWStart_keep (a1) (s : State) : ∃ t, execTransitionWStart a1 s = .next t ∧ t.keep = s.keep := by
  (unfold execTransitionWStart; grind [keep_mk, keep_fold, whenS_keep, forEach_keep, ifSome_keep, foldl_keep, resetDone_keep, takeReset_keep])

theorem execActivationWStart_keep (a1) (s : State) : ∃ t, execActivationWStart a1 s = .next t ∧ t.keep = s.keep := by
  (unfold execActivationWStart; grind [keep_mk, keep_fold, whenS_keep, forEach_keep, ifSome_keep, foldl_keep, resetDone_keep, takeReset_keep])

theorem execLcyStateGet_keep (s : State) : ∃ t, execLcyStateGet s = .next t ∧ t.keep = s.keep := by
  (unfold execLcyStateGet; refine interpret_keep _ _ _ ?_; intro p s; refine checked_keep _ _ _ _ _ ?_; intro s; simp only [keep_mk, keep_fold, apply_ite State.keep, ite_self, next_keep, whenS_keep, forEach_keep, ifSome_keep, foldl_keep, interpret_keep, checked_keep, complete_keep]; done)

theorem otpEvent_keep (a1) (a2) (a3) (s : State) : (otpEvent a1 a2 a3 s).keep = s.keep := by
  (unfold otpEvent; simp only [keep_mk, keep_fold, apply_ite State.keep, ite_self, next_keep, whenS_keep, forEach_keep, ifSome_keep, foldl_keep, logEvent_keep]; done)

theorem finishLoad_keep (a1) (s : State) : (finishLoad a1 s).2.keep = s.keep := by
  (unfold finishLoad; simp only [keep_mk, keep_fold, apply_ite State.keep, ite_self, next_keep, whenS_keep, forEach_keep, ifSome_keep, foldl_keep, acceptCon_keep, markSlot_keep, logEvent_keep]; done)

theorem finishLoad_keep2 (a1) (s : State) : ∀ y0 t, (finishLoad a1 s) = (y0, t) → t.keep = s.keep := by
  intro y0 t h; have := finishLoad_keep a1 s; rw [h] at this; exact this

theorem syncFlash_keep (a1) (s : State) : (syncFlash a1 s).keep = s.keep := by
  (unfold syncFlash; simp only [keep_mk, keep_fold, apply_ite State.keep, ite_self, next_keep, whenS_keep, forEach_keep, ifSome_keep, foldl_keep, modLcy_keep]; done)

theorem loadParts_keep (a1) (a2) (s : State) : (loadParts a1 a2 s).2.keep = s.keep := by
  (fun_induction loadParts <;> grind [keep_mk, keep_fold, whenS_keep, forEach_keep, ifSome_keep, foldl_keep, markSlot_keep, modLcy_keep, syncFlash_keep, finishLoad_keep])

theorem loadParts_keep2 (a1) (a2) (s : State) : ∀ y0 t, (loadParts a1 a2 s) = (y0, t) → t.keep = s.keep := by
  intro y0 t h; have := loadParts_keep a1 a2 s; rw [h] at this; exact this

theorem execFwImageLoad_keep (s : State) : ∃ t, execFwImageLoad s = .next t ∧ t.keep = s.keep := by
  unfold execFwImageLoad
  refine interpret_keep _ _ _ ?_
  intro p s
  have := loadParts_keep2
  grind [fail_keep, complete_keep]

theorem execPowerOn_keep (s : State) : ∃ t, execPowerOn s = .next t ∧ t.keep = s.keep := by
  (unfold execPowerOn; grind [keep_mk, keep_fold, whenS_keep, forEach_keep, ifSome_keep, foldl_keep])

theorem execAonPowerLoss_keep (s : State) : ∃ t, execAonPowerLoss s = .next t ∧ t.keep = s.keep := by
  (unfold execAonPowerLoss; simp only [keep_mk, keep_fold, apply_ite State.keep, ite_self, next_keep, whenS_keep, forEach_keep, ifSome_keep, foldl_keep, wipeCW_keep]; done)

theorem execVinOkHold_keep (s : State) : ∃ t, execVinOkHold s = .next t ∧ t.keep = s.keep := by
  (unfold execVinOkHold; grind [keep_mk, keep_fold, whenS_keep, forEach_keep, ifSome_keep, foldl_keep])

theorem execVinOkLoss_keep (s : State) : ∃ t, execVinOkLoss s = .next t ∧ t.keep = s.keep := by
  (unfold execVinOkLoss; grind [keep_mk, keep_fold, whenS_keep, forEach_keep, ifSome_keep, foldl_keep])

theorem execPowerUpStart_keep (s : State) : ∃ t, execPowerUpStart s = .next t ∧ t.keep = s.keep := by
  (unfold execPowerUpStart; grind [keep_mk, keep_fold, whenS_keep, forEach_keep, ifSome_keep, foldl_keep, takeReset_keep])

theorem execIbPgoodTimeout_keep (s : State) : ∃ t, execIbPgoodTimeout s = .next t ∧ t.keep = s.keep := by
  (unfold execIbPgoodTimeout; grind [keep_mk, keep_fold, whenS_keep, forEach_keep, ifSome_keep, foldl_keep, abandonPowerUp_keep])

theorem execIbcRetry_keep (s : State) : ∃ t, execIbcRetry s = .next t ∧ t.keep = s.keep := by
  (unfold execIbcRetry; grind [keep_mk, keep_fold, whenS_keep, forEach_keep, ifSome_keep, foldl_keep])

theorem railsSet_keep (s : State) : (railsSet s).keep = s.keep := by
  (unfold railsSet; exact forEach_keep _ _ s (fun _ s => emit_keep _ s))

theorem execIbPgoodHigh_keep (a1) (a2) (a3) (s : State) : ∃ t, execIbPgoodHigh a1 a2 a3 s = .next t ∧ t.keep = s.keep := by
  (unfold execIbPgoodHigh; grind [keep_mk, keep_fold, whenS_keep, forEach_keep, ifSome_keep, foldl_keep, railsSet_keep, abandonPowerUp_keep, resetDone_keep])

theorem execBrownOut_keep (s : State) : ∃ t, execBrownOut s = .next t ∧ t.keep = s.keep := by
  (unfold execBrownOut; grind [keep_mk, keep_fold, whenS_keep, forEach_keep, ifSome_keep, foldl_keep, takeReset_keep])

theorem execVinRecoveryWake_keep (s : State) : ∃ t, execVinRecoveryWake s = .next t ∧ t.keep = s.keep := by
  (unfold execVinRecoveryWake; grind [keep_mk, keep_fold, whenS_keep, forEach_keep, ifSome_keep, foldl_keep])

theorem execVinLow_keep (a1) (s : State) : ∃ t, execVinLow a1 s = .next t ∧ t.keep = s.keep := by
  (unfold execVinLow; grind [keep_mk, keep_fold, whenS_keep, forEach_keep, ifSome_keep, foldl_keep, logEvent_keep, callDown_keep])

theorem execVinOv_keep (a1) (a2) (s : State) : ∃ t, execVinOv a1 a2 s = .next t ∧ t.keep = s.keep := by
  (unfold execVinOv; grind [keep_mk, keep_fold, whenS_keep, forEach_keep, ifSome_keep, foldl_keep, logEvent_keep])

theorem execPfailSet_keep (a1) (s : State) : ∃ t, execPfailSet a1 s = .next t ∧ t.keep = s.keep := by
  (unfold execPfailSet; grind [keep_mk, keep_fold, whenS_keep, forEach_keep, ifSome_keep, foldl_keep, chargeEval_keep, routePost_keep, powerEvent_keep, logEvent_keep, startGrace_keep, startLimit_keep])

theorem execPfailClear_keep (a1) (s : State) : ∃ t, execPfailClear a1 s = .next t ∧ t.keep = s.keep := by
  (unfold execPfailClear; grind [keep_mk, keep_fold, whenS_keep, forEach_keep, ifSome_keep, foldl_keep, chargeEval_keep, routePost_keep, powerEvent_keep, logEvent_keep, enterRunTrim_keep])

theorem execGraceTimerExpiry_keep (s : State) : ∃ t, execGraceTimerExpiry s = .next t ∧ t.keep = s.keep := by
  (unfold execGraceTimerExpiry; grind [keep_mk, keep_fold, whenS_keep, forEach_keep, ifSome_keep, foldl_keep, callDown_keep])

theorem execHoldLimitExpiry_keep (s : State) : ∃ t, execHoldLimitExpiry s = .next t ∧ t.keep = s.keep := by
  (unfold execHoldLimitExpiry; grind [keep_mk, keep_fold, whenS_keep, forEach_keep, ifSome_keep, foldl_keep, callDown_keep])

theorem execDrainEnd_keep (s : State) : ∃ t, execDrainEnd s = .next t ∧ t.keep = s.keep := by
  (unfold execDrainEnd; grind [keep_mk, keep_fold, whenS_keep, forEach_keep, ifSome_keep, foldl_keep, drainAbort_keep, logEvent_keep, reachHold_keep])

theorem answerHeld_keep (s : State) : (answerHeld s).keep = s.keep := by
  (unfold answerHeld; simp only [keep_mk, keep_fold, apply_ite State.keep, ite_self, next_keep, whenS_keep, forEach_keep, ifSome_keep, foldl_keep, finishWaits_keep]; done)

theorem execWaitingTransitionTaken_keep (s : State) : ∃ t, execWaitingTransitionTaken s = .next t ∧ t.keep = s.keep := by
  (unfold execWaitingTransitionTaken; grind [keep_mk, keep_fold, whenS_keep, forEach_keep, ifSome_keep, foldl_keep, enterRunTrim_keep, finishWaits_keep, callDown_keep, answerHeld_keep])

theorem execShelfReplyDelivered_keep (s : State) : ∃ t, execShelfReplyDelivered s = .next t ∧ t.keep = s.keep := by
  (unfold execShelfReplyDelivered; grind [keep_mk, keep_fold, whenS_keep, forEach_keep, ifSome_keep, foldl_keep])

theorem execShelfEntry_keep (s : State) : ∃ t, execShelfEntry s = .next t ∧ t.keep = s.keep := by
  (unfold execShelfEntry; grind [keep_mk, keep_fold, whenS_keep, forEach_keep, ifSome_keep, foldl_keep, labelMirror_keep, stateChange_keep, linksDown_keep, applyDomains_keep, batShelf_keep, latRefresh_keep])

theorem execShelfRailsDown_keep (s : State) : ∃ t, execShelfRailsDown s = .next t ∧ t.keep = s.keep := by
  (unfold execShelfRailsDown; grind [keep_mk, keep_fold, whenS_keep, forEach_keep, ifSome_keep, foldl_keep, modLbl_keep])

theorem execRailFault_keep (a1) (a2) (s : State) : ∃ t, execRailFault a1 a2 s = .next t ∧ t.keep = s.keep := by
  (unfold execRailFault; grind [keep_mk, keep_fold, whenS_keep, forEach_keep, ifSome_keep, foldl_keep, shelfNow_keep, logEvent_keep])

theorem execVcorePhaseAdd_keep (s : State) : ∃ t, execVcorePhaseAdd s = .next t ∧ t.keep = s.keep := by
  (unfold execVcorePhaseAdd; grind [keep_mk, keep_fold, whenS_keep, forEach_keep, ifSome_keep, foldl_keep])

theorem execVcorePhaseShed_keep (a1) (s : State) : ∃ t, execVcorePhaseShed a1 s = .next t ∧ t.keep = s.keep := by
  (unfold execVcorePhaseShed; grind [keep_mk, keep_fold, whenS_keep, forEach_keep, ifSome_keep, foldl_keep, logEvent_keep, callDown_keep])

theorem execRtcAlarmWake_keep (s : State) : ∃ t, execRtcAlarmWake s = .next t ∧ t.keep = s.keep := by
  (unfold execRtcAlarmWake; simp only [keep_mk, keep_fold, apply_ite State.keep, ite_self, next_keep, whenS_keep, forEach_keep, ifSome_keep, foldl_keep, wakeEvent_keep]; done)

theorem execWakeNWake_keep (s : State) : ∃ t, execWakeNWake s = .next t ∧ t.keep = s.keep := by
  (unfold execWakeNWake; simp only [keep_mk, keep_fold, apply_ite State.keep, ite_self, next_keep, whenS_keep, forEach_keep, ifSome_keep, foldl_keep, wakeEvent_keep]; done)

theorem execVbusReturnSample_keep (a1) (s : State) : ∃ t, execVbusReturnSample a1 s = .next t ∧ t.keep = s.keep := by
  (unfold execVbusReturnSample; simp only [keep_mk, keep_fold, apply_ite State.keep, ite_self, next_keep, whenS_keep, forEach_keep, ifSome_keep, foldl_keep, wakeEvent_keep]; done)

theorem execDomainSwitchDone_keep (a1) (s : State) : ∃ t, execDomainSwitchDone a1 s = .next t ∧ t.keep = s.keep := by
  (unfold execDomainSwitchDone; grind [keep_mk, keep_fold, whenS_keep, forEach_keep, ifSome_keep, foldl_keep, setDomain_keep, finishUnfence_keep, finishWaits_keep, modRole_keep, finishSwap_keep, leftOn_keep])

theorem execDomainPowerGoodTimeout_keep (a1) (s : State) : ∃ t, execDomainPowerGoodTimeout a1 s = .next t ∧ t.keep = s.keep := by
  (unfold execDomainPowerGoodTimeout; grind [keep_mk, keep_fold, whenS_keep, forEach_keep, ifSome_keep, foldl_keep, setDomain_keep, logEvent_keep, dropMoves_keep, refence_keep, dropSwap_keep, failWaits_keep, poolCheck_keep])

theorem execIdleGateTimeout_keep (a1) (s : State) : ∃ t, execIdleGateTimeout a1 s = .next t ∧ t.keep = s.keep := by
  (unfold execIdleGateTimeout; grind [keep_mk, keep_fold, whenS_keep, forEach_keep, ifSome_keep, foldl_keep, modDomain_keep])

theorem execDdrRegionWiped_keep (a1) (s : State) : ∃ t, execDdrRegionWiped a1 s = .next t ∧ t.keep = s.keep := by
  (unfold execDdrRegionWiped; simp only [keep_mk, keep_fold, apply_ite State.keep, ite_self, next_keep, whenS_keep, forEach_keep, ifSome_keep, foldl_keep, modDdr_keep]; done)

theorem execResetNRegistered_keep (s : State) : ∃ t, execResetNRegistered s = .next t ∧ t.keep = s.keep := by
  (unfold execResetNRegistered; grind [keep_mk, keep_fold, whenS_keep, forEach_keep, ifSome_keep, foldl_keep, takeReset_keep])

theorem execResetNReleased_keep (a1) (s : State) : ∃ t, execResetNReleased a1 s = .next t ∧ t.keep = s.keep := by
  (unfold execResetNReleased; grind [keep_mk, keep_fold, whenS_keep, forEach_keep, ifSome_keep, foldl_keep, resetDone_keep])

theorem execDevResetWStart_keep (a1) (s : State) : ∃ t, execDevResetWStart a1 s = .next t ∧ t.keep = s.keep := by
  (unfold execDevResetWStart; grind [keep_mk, keep_fold, whenS_keep, forEach_keep, ifSome_keep, foldl_keep, resetDone_keep, takeReset_keep])

theorem execPwrStateGet_keep (s : State) : ∃ t, execPwrStateGet s = .next t ∧ t.keep = s.keep := by
  (unfold execPwrStateGet; refine interpret_keep _ _ _ ?_; intro p s; refine checked_keep _ _ _ _ _ ?_; intro s; simp only [keep_mk, keep_fold, apply_ite State.keep, ite_self, next_keep, whenS_keep, forEach_keep, ifSome_keep, foldl_keep, interpret_keep, checked_keep, complete_keep]; done)

theorem execPwrStateSet_keep (s : State) : ∃ t, execPwrStateSet s = .next t ∧ t.keep = s.keep := by
  (unfold execPwrStateSet; refine interpret_keep _ _ _ ?_; intro p s; refine checked_keep _ _ _ _ _ ?_; intro s; dsimp only; (repeat' split) <;> (first | (simp (disch := (intros; first | (simp only [keep_mk, keep_fold, apply_ite State.keep, ite_self, next_keep, whenS_keep, forEach_keep, ifSome_keep, foldl_keep, interpret_keep, checked_keep, ok_keep, answerHeld_keep, callDown_keep, waitFor_keep, enterRunTrim_keep]; done) | grind [keep_mk, keep_fold, whenS_keep, forEach_keep, ifSome_keep, foldl_keep, interpret_keep, checked_keep, ok_keep, answerHeld_keep, callDown_keep, waitFor_keep, enterRunTrim_keep])) only [keep_mk, keep_fold, apply_ite State.keep, ite_self, next_keep, whenS_keep, forEach_keep, ifSome_keep, foldl_keep, interpret_keep, checked_keep, ok_keep, answerHeld_keep, callDown_keep, waitFor_keep, enterRunTrim_keep]; done) | grind [keep_mk, keep_fold, whenS_keep, forEach_keep, ifSome_keep, foldl_keep, interpret_keep, checked_keep, ok_keep, answerHeld_keep, callDown_keep, waitFor_keep, enterRunTrim_keep]))

theorem execPwrDomainGet_keep (s : State) : ∃ t, execPwrDomainGet s = .next t ∧ t.keep = s.keep := by
  (unfold execPwrDomainGet; refine interpret_keep _ _ _ ?_; intro p s; refine checked_keep _ _ _ _ _ ?_; intro s; simp only [keep_mk, keep_fold, apply_ite State.keep, ite_self, next_keep, whenS_keep, forEach_keep, ifSome_keep, foldl_keep, interpret_keep, checked_keep, complete_keep]; done)

theorem execPwrDomainSet_keep (s : State) : ∃ t, execPwrDomainSet s = .next t ∧ t.keep = s.keep := by
  (unfold execPwrDomainSet; refine interpret_keep _ _ _ ?_; intro p s; refine checked_keep _ _ _ _ _ ?_; intro s; simp only [keep_mk, keep_fold, apply_ite State.keep, ite_self, next_keep, whenS_keep, forEach_keep, ifSome_keep, foldl_keep, interpret_keep, checked_keep, fail_keep, modDomain_keep, waitFor_keep, switchOn_keep, ok_keep, setDomain_keep]; done)

theorem setRail_keep (a1) (a2) (a3) (s : State) : (setRail a1 a2 a3 s).keep = s.keep := by
  (unfold setRail; simp only [keep_mk, keep_fold, apply_ite State.keep, ite_self, next_keep, whenS_keep, forEach_keep, ifSome_keep, foldl_keep]; done)

theorem execPwrConverterCfg_keep (s : State) : ∃ t, execPwrConverterCfg s = .next t ∧ t.keep = s.keep := by
  unfold execPwrConverterCfg
  refine interpret_keep _ _ _ ?_
  intro p s
  dsimp only
  repeat' split
  all_goals first
    | exact fail_keep _ _ _ _ _
    | exact badParam_keep _ _ _
    | (refine checked_keep _ _ _ _ _ ?_; intro s; grind [ok_keep, emit_keep, setRail_keep, keep_mk, keep_fold])

theorem execRtcGet_keep (s : State) : ∃ t, execRtcGet s = .next t ∧ t.keep = s.keep := by
  (unfold execRtcGet; refine interpret_keep _ _ _ ?_; intro p s; refine checked_keep _ _ _ _ _ ?_; intro s; simp only [keep_mk, keep_fold, apply_ite State.keep, ite_self, next_keep, whenS_keep, forEach_keep, ifSome_keep, foldl_keep, interpret_keep, checked_keep, complete_keep]; done)

theorem execRtcSet_keep (s : State) : ∃ t, execRtcSet s = .next t ∧ t.keep = s.keep := by
  (unfold execRtcSet; refine interpret_keep _ _ _ ?_; intro p s; refine checked_keep _ _ _ _ _ ?_; intro s; simp only [keep_mk, keep_fold, apply_ite State.keep, ite_self, next_keep, whenS_keep, forEach_keep, ifSome_keep, foldl_keep, interpret_keep, checked_keep, ok_keep]; done)

theorem partBack_keep (a1) (s : State) : (partBack a1 s).keep = s.keep := by
  (unfold partBack; grind [keep_mk, keep_fold, whenS_keep, forEach_keep, ifSome_keep, foldl_keep, modDdr_keep, dsgEval_keep, queueTests_keep, drbgStart_keep, bringUp_keep, latStart_keep])

theorem settleUnfenced_keep (a1) (s : State) : (settleUnfenced a1 s).keep = s.keep := by
  (unfold settleUnfenced; simp only [keep_mk, keep_fold, apply_ite State.keep, ite_self, next_keep, whenS_keep, forEach_keep, ifSome_keep, foldl_keep, modDomain_keep, makeSpare_keep, switchOn_keep, setDomain_keep]; done)

theorem execRprStatus_keep (s : State) : ∃ t, execRprStatus s = .next t ∧ t.keep = s.keep := by
  (unfold execRprStatus; refine interpret_keep _ _ _ ?_; intro p s; refine checked_keep _ _ _ _ _ ?_; intro s; simp only [keep_mk, keep_fold, apply_ite State.keep, ite_self, next_keep, whenS_keep, forEach_keep, ifSome_keep, foldl_keep, interpret_keep, checked_keep, complete_keep]; done)

theorem execRprSpareSwap_keep (s : State) : ∃ t, execRprSpareSwap s = .next t ∧ t.keep = s.keep := by
  (unfold execRprSpareSwap; refine interpret_keep _ _ _ ?_; intro p s; refine checked_keep _ _ _ _ _ ?_; intro s; dsimp only; (repeat' split) <;> (first | (simp (disch := (intros; first | (simp only [keep_mk, keep_fold, apply_ite State.keep, ite_self, next_keep, whenS_keep, forEach_keep, ifSome_keep, foldl_keep, interpret_keep, checked_keep, waitFor_keep, startMove_keep, activate_keep, finishSwap_keep, fail_keep]; done) | grind [keep_mk, keep_fold, whenS_keep, forEach_keep, ifSome_keep, foldl_keep, interpret_keep, checked_keep, waitFor_keep, startMove_keep, activate_keep, finishSwap_keep, fail_keep])) only [keep_mk, keep_fold, apply_ite State.keep, ite_self, next_keep, whenS_keep, forEach_keep, ifSome_keep, foldl_keep, interpret_keep, checked_keep, waitFor_keep, startMove_keep, activate_keep, finishSwap_keep, fail_keep]; done) | grind [keep_mk, keep_fold, whenS_keep, forEach_keep, ifSome_keep, foldl_keep, interpret_keep, checked_keep, waitFor_keep, startMove_keep, activate_keep, finishSwap_keep, fail_keep]))

theorem execAutoFence_keep (a1) (a2) (s : State) : ∃ t, execAutoFence a1 a2 s = .next t ∧ t.keep = s.keep := by
  (unfold execAutoFence; simp only [keep_mk, keep_fold, apply_ite State.keep, ite_self, next_keep, whenS_keep, forEach_keep, ifSome_keep, foldl_keep, autoFence_keep]; done)

theorem execKnownAnswerTest_keep (a1) (a2) (s : State) : ∃ t, execKnownAnswerTest a1 a2 s = .next t ∧ t.keep = s.keep := by
  (unfold execKnownAnswerTest; simp only [keep_mk, keep_fold, apply_ite State.keep, ite_self, next_keep, whenS_keep, forEach_keep, ifSome_keep, foldl_keep, autoFence_keep]; done)

theorem execDdrSpent_keep (a1) (a2) (s : State) : ∃ t, execDdrSpent a1 a2 s = .next t ∧ t.keep = s.keep := by
  (unfold execDdrSpent; grind [keep_mk, keep_fold, whenS_keep, forEach_keep, ifSome_keep, foldl_keep, logEvent_keep, fenceChannel_keep])

theorem loadCore_keep (a1) (a2) (s : State) : (loadCore a1 a2 s).keep = s.keep := by
  (unfold loadCore; simp only [keep_mk, keep_fold, apply_ite State.keep, ite_self, next_keep, whenS_keep, forEach_keep, ifSome_keep, foldl_keep, modCore_keep]; done)

theorem copyCore_keep (a1) (a2) (s : State) : (copyCore a1 a2 s).keep = s.keep := by
  (unfold copyCore; simp only [keep_mk, keep_fold, apply_ite State.keep, ite_self, next_keep, whenS_keep, forEach_keep, ifSome_keep, foldl_keep, modCore_keep]; done)

theorem execWatchdogExpiry_keep (a1) (a2) (s : State) : ∃ t, execWatchdogExpiry a1 a2 s = .next t ∧ t.keep = s.keep := by
  (unfold execWatchdogExpiry; grind [keep_mk, keep_fold, whenS_keep, forEach_keep, ifSome_keep, foldl_keep, restartRole_keep, modRole_keep, startMove_keep, resetDone_keep, takeReset_keep])

theorem takeIndex_keep (a1) (a2) (a3) (a4) (s : State) : (takeIndex a1 a2 a3 a4 s).keep = s.keep := by
  (unfold takeIndex; grind [keep_mk, keep_fold, whenS_keep, forEach_keep, ifSome_keep, foldl_keep, logLimited_keep, setRing_keep])

theorem doorbell_keep (a1) (a2) (a3) (a4) (s : State) : (doorbell a1 a2 a3 a4 s).keep = s.keep := by
  (unfold doorbell; grind [keep_mk, keep_fold, whenS_keep, forEach_keep, ifSome_keep, foldl_keep, takeIndex_keep, countEv_keep, setRing_keep])

theorem execQenDb_keep (a1) (a2) (a3) (s : State) : ∃ t, execQenDb a1 a2 a3 s = .next t ∧ t.keep = s.keep := by
  (unfold execQenDb; simp only [keep_mk, keep_fold, apply_ite State.keep, ite_self, next_keep, whenS_keep, forEach_keep, ifSome_keep, foldl_keep, doorbell_keep]; done)

theorem execQenCqDb_keep (a1) (a2) (a3) (s : State) : ∃ t, execQenCqDb a1 a2 a3 s = .next t ∧ t.keep = s.keep := by
  (unfold execQenCqDb; simp only [keep_mk, keep_fold, apply_ite State.keep, ite_self, next_keep, whenS_keep, forEach_keep, ifSome_keep, foldl_keep, doorbell_keep]; done)

theorem issueRead_keep (a1) (a2) (a3) (a4) (s : State) : (issueRead a1 a2 a3 a4 s).keep = s.keep := by
  (unfold issueRead; simp only [keep_mk, keep_fold, apply_ite State.keep, ite_self, next_keep, whenS_keep, forEach_keep, ifSome_keep, foldl_keep, countEv_keep, emit_keep]; done)

theorem execPollTimerExpiry_keep (a1) (s : State) : ∃ t, execPollTimerExpiry a1 s = .next t ∧ t.keep = s.keep := by
  (unfold execPollTimerExpiry; grind [keep_mk, keep_fold, whenS_keep, forEach_keep, ifSome_keep, foldl_keep, issueRead_keep, countEv_keep, setRing_keep, dmaFault_keep])

theorem execPollReadCompletion_keep (a1) (a2) (a3) (s : State) : ∃ t, execPollReadCompletion a1 a2 a3 s = .next t ∧ t.keep = s.keep := by
  (unfold execPollReadCompletion; grind [keep_mk, keep_fold, whenS_keep, forEach_keep, ifSome_keep, foldl_keep, setRing_keep, takeIndex_keep])

theorem execFetchIssue_keep (a1) (s : State) : ∃ t, execFetchIssue a1 s = .next t ∧ t.keep = s.keep := by
  (unfold execFetchIssue; grind [keep_mk, keep_fold, whenS_keep, forEach_keep, ifSome_keep, foldl_keep, issueRead_keep, setRing_keep, dmaFault_keep])

theorem execFetchReadFailed_keep (a1) (s : State) : ∃ t, execFetchReadFailed a1 s = .next t ∧ t.keep = s.keep := by
  (unfold execFetchReadFailed; grind [keep_mk, keep_fold, whenS_keep, forEach_keep, ifSome_keep, foldl_keep, settle_keep, setRing_keep])

theorem execEntryNop_keep (a1) (a2) (s : State) : ∃ t, execEntryNop a1 a2 s = .next t ∧ t.keep = s.keep := by
  (unfold execEntryNop; grind [keep_mk, keep_fold, whenS_keep, forEach_keep, ifSome_keep, foldl_keep, arrive_keep, finishEntry_keep])

theorem execEntryPacket_keep (a1) (a2) (a3) (s : State) : ∃ t, execEntryPacket a1 a2 a3 s = .next t ∧ t.keep = s.keep := by
  (unfold execEntryPacket; grind [keep_mk, keep_fold, whenS_keep, forEach_keep, ifSome_keep, foldl_keep, arrive_keep, packetRun_keep])

theorem execEntryTx_keep (a1) (a2) (a3) (s : State) : ∃ t, execEntryTx a1 a2 a3 s = .next t ∧ t.keep = s.keep := by
  (unfold execEntryTx; grind [keep_mk, keep_fold, whenS_keep, forEach_keep, ifSome_keep, foldl_keep, arrive_keep, txRun_keep])

theorem execEntryRxPost_keep (a1) (a2) (s : State) : ∃ t, execEntryRxPost a1 a2 s = .next t ∧ t.keep = s.keep := by
  (unfold execEntryRxPost; grind [keep_mk, keep_fold, whenS_keep, forEach_keep, ifSome_keep, foldl_keep, arrive_keep, settle_keep, modWork_keep])

theorem execModerationTimerExpiry_keep (a1) (s : State) : ∃ t, execModerationTimerExpiry a1 s = .next t ∧ t.keep = s.keep := by
  (unfold execModerationTimerExpiry; grind [keep_mk, keep_fold, whenS_keep, forEach_keep, ifSome_keep, foldl_keep, setRing_keep, sendMsix_keep])

theorem execRingCreate_keep (s : State) : ∃ t, execRingCreate s = .next t ∧ t.keep = s.keep := by
  (unfold execRingCreate; refine interpret_keep _ _ _ ?_; intro p s; refine checked_keep _ _ _ _ _ ?_; intro s; dsimp only; (repeat' split) <;> (first | (simp (disch := (intros; first | (simp only [keep_mk, keep_fold, apply_ite State.keep, ite_self, next_keep, whenS_keep, forEach_keep, ifSome_keep, foldl_keep, interpret_keep, checked_keep, fail_keep, complete_keep, setRing_keep]; done) | grind [keep_mk, keep_fold, whenS_keep, forEach_keep, ifSome_keep, foldl_keep, interpret_keep, checked_keep, fail_keep, complete_keep, setRing_keep])) only [keep_mk, keep_fold, apply_ite State.keep, ite_self, next_keep, whenS_keep, forEach_keep, ifSome_keep, foldl_keep, interpret_keep, checked_keep, fail_keep, complete_keep, setRing_keep]; done) | grind [keep_mk, keep_fold, whenS_keep, forEach_keep, ifSome_keep, foldl_keep, interpret_keep, checked_keep, fail_keep, complete_keep, setRing_keep]))

theorem freeRingPair_keep (a1) (s : State) : (freeRingPair a1 s).keep = s.keep := by
  (unfold freeRingPair; grind [keep_mk, keep_fold, whenS_keep, forEach_keep, ifSome_keep, foldl_keep, logEvent_keep, setRing_keep, finishWaits_keep])

theorem execRingDestroy_keep (s : State) : ∃ t, execRingDestroy s = .next t ∧ t.keep = s.keep := by
  (unfold execRingDestroy; refine interpret_keep _ _ _ ?_; intro p s; refine checked_keep _ _ _ _ _ ?_; intro s; dsimp only; (repeat' split) <;> (first | (simp (disch := (intros; first | (simp only [keep_mk, keep_fold, apply_ite State.keep, ite_self, next_keep, whenS_keep, forEach_keep, ifSome_keep, foldl_keep, interpret_keep, checked_keep, fail_keep, modRing_keep, waitFor_keep, freeRingPair_keep]; done) | grind [keep_mk, keep_fold, whenS_keep, forEach_keep, ifSome_keep, foldl_keep, interpret_keep, checked_keep, fail_keep, modRing_keep, waitFor_keep, freeRingPair_keep])) only [keep_mk, keep_fold, apply_ite State.keep, ite_self, next_keep, whenS_keep, forEach_keep, ifSome_keep, foldl_keep, interpret_keep, checked_keep, fail_keep, modRing_keep, waitFor_keep, freeRingPair_keep]; done) | grind [keep_mk, keep_fold, whenS_keep, forEach_keep, ifSome_keep, foldl_keep, interpret_keep, checked_keep, fail_keep, modRing_keep, waitFor_keep, freeRingPair_keep]))

theorem execRingDrained_keep (a1) (s : State) : ∃ t, execRingDrained a1 s = .next t ∧ t.keep = s.keep := by
  (unfold execRingDrained; grind [keep_mk, keep_fold, whenS_keep, forEach_keep, ifSome_keep, foldl_keep, freeRingPair_keep])

theorem execRingNotifySet_keep (s : State) : ∃ t, execRingNotifySet s = .next t ∧ t.keep = s.keep := by
  (unfold execRingNotifySet; refine interpret_keep _ _ _ ?_; intro p s; refine checked_keep _ _ _ _ _ ?_; intro s; dsimp only; (repeat' split) <;> (first | (simp (disch := (intros; first | (simp only [keep_mk, keep_fold, apply_ite State.keep, ite_self, next_keep, whenS_keep, forEach_keep, ifSome_keep, foldl_keep, interpret_keep, checked_keep, setRing_keep, ok_keep, sendMsix_keep]; done) | grind [keep_mk, keep_fold, whenS_keep, forEach_keep, ifSome_keep, foldl_keep, interpret_keep, checked_keep, setRing_keep, ok_keep, sendMsix_keep])) only [keep_mk, keep_fold, apply_ite State.keep, ite_self, next_keep, whenS_keep, forEach_keep, ifSome_keep, foldl_keep, interpret_keep, checked_keep, setRing_keep, ok_keep, sendMsix_keep]; done) | grind [keep_mk, keep_fold, whenS_keep, forEach_keep, ifSome_keep, foldl_keep, interpret_keep, checked_keep, setRing_keep, ok_keep, sendMsix_keep]))

theorem execSchWeightsSet_keep (s : State) : ∃ t, execSchWeightsSet s = .next t ∧ t.keep = s.keep := by
  (unfold execSchWeightsSet; refine interpret_keep _ _ _ ?_; intro p s; refine checked_keep _ _ _ _ _ ?_; intro s; dsimp only; (repeat' split) <;> (first | (simp (disch := (intros; first | (simp only [keep_mk, keep_fold, apply_ite State.keep, ite_self, next_keep, whenS_keep, forEach_keep, ifSome_keep, foldl_keep, interpret_keep, checked_keep, charter_keep, ok_keep, fail_keep, modPoint_keep]; done) | grind [keep_mk, keep_fold, whenS_keep, forEach_keep, ifSome_keep, foldl_keep, interpret_keep, checked_keep, charter_keep, ok_keep, fail_keep, modPoint_keep])) only [keep_mk, keep_fold, apply_ite State.keep, ite_self, next_keep, whenS_keep, forEach_keep, ifSome_keep, foldl_keep, interpret_keep, checked_keep, charter_keep, ok_keep, fail_keep, modPoint_keep]; done) | grind [keep_mk, keep_fold, whenS_keep, forEach_keep, ifSome_keep, foldl_keep, interpret_keep, checked_keep, charter_keep, ok_keep, fail_keep, modPoint_keep]))

theorem execSchLimitsSet_keep (s : State) : ∃ t, execSchLimitsSet s = .next t ∧ t.keep = s.keep := by
  (unfold execSchLimitsSet; refine interpret_keep _ _ _ ?_; intro p s; refine checked_keep _ _ _ _ _ ?_; intro s; dsimp only; (repeat' split) <;> (first | (simp (disch := (intros; first | (simp only [keep_mk, keep_fold, apply_ite State.keep, ite_self, next_keep, whenS_keep, forEach_keep, ifSome_keep, foldl_keep, interpret_keep, checked_keep, settleTenant_keep, charter_keep, ok_keep, modTenant_keep, settleVf_keep, bumpGen_keep, modVf_keep, fail_keep, modPoint_keep]; done) | grind [keep_mk, keep_fold, whenS_keep, forEach_keep, ifSome_keep, foldl_keep, interpret_keep, checked_keep, settleTenant_keep, charter_keep, ok_keep, modTenant_keep, settleVf_keep, bumpGen_keep, modVf_keep, fail_keep, modPoint_keep])) only [keep_mk, keep_fold, apply_ite State.keep, ite_self, next_keep, whenS_keep, forEach_keep, ifSome_keep, foldl_keep, interpret_keep, checked_keep, settleTenant_keep, charter_keep, ok_keep, modTenant_keep, settleVf_keep, bumpGen_keep, modVf_keep, fail_keep, modPoint_keep]; done) | grind [keep_mk, keep_fold, whenS_keep, forEach_keep, ifSome_keep, foldl_keep, interpret_keep, checked_keep, settleTenant_keep, charter_keep, ok_keep, modTenant_keep, settleVf_keep, bumpGen_keep, modVf_keep, fail_keep, modPoint_keep]))

theorem execPointServe_keep (a1) (s : State) : ∃ t, execPointServe a1 s = .next t ∧ t.keep = s.keep := by
  unfold execPointServe
  repeat' split
  all_goals refine ⟨_, rfl, ?_⟩
  all_goals repeat' split
  all_goals first
    | rfl
    | exact poolCheck_keep _ _
    | (first | rw [modPoint_keep] | rw [deliverFrame_keep] | rw [enterAes_keep] | rw [intoUnit_keep] | rw [dropFrame_keep] | rw [stoEntry_keep] | skip); apply popItem_keep; assumption

theorem resume_keep (a1) (s : State) : (resume a1 s).keep = s.keep := by
  have hs : ∀ i (s : State), (stateOf (execCryptoItemDone i s) s).keep = s.keep := fun i s => stateOf_keep _ _ _ (execCryptoItemDone_keep i s)
  unfold resume
  split
  · split
    · rfl
    · extract_lets k
      repeat' split
      all_goals simp only [packetRun_keep, txRun_keep, stoRun_keep, fixRun_keep, xtsRun_keep]
  · repeat' split
    all_goals simp only [resumeSwitch_keep, hs, connFlush_keep]
  · rfl

theorem execWaitingAllocServed_keep (s : State) : ∃ t, execWaitingAllocServed s = .next t ∧ t.keep = s.keep := by
  (unfold execWaitingAllocServed; grind [keep_mk, keep_fold, whenS_keep, forEach_keep, ifSome_keep, foldl_keep, cadTake_keep, resume_keep])

theorem giveUp_keep (a1) (s : State) : (giveUp a1 s).keep = s.keep := by
  (unfold giveUp; grind [keep_mk, keep_fold, whenS_keep, forEach_keep, ifSome_keep, foldl_keep, dropWaiting_keep, failEntry_keep, outOfUnit_keep, modConn_keep, connFlush_keep])

theorem execEngineWaitTimeout_keep (a1) (s : State) : ∃ t, execEngineWaitTimeout a1 s = .next t ∧ t.keep = s.keep := by
  (unfold execEngineWaitTimeout; grind [keep_mk, keep_fold, whenS_keep, forEach_keep, ifSome_keep, foldl_keep, logEvent_keep, giveUp_keep])

theorem dropIn_keep (a1) (s : State) : (dropIn a1 s).keep = s.keep := by
  (unfold dropIn; simp only [keep_mk, keep_fold, apply_ite State.keep, ite_self, next_keep, whenS_keep, forEach_keep, ifSome_keep, foldl_keep]; done)

theorem modIn_keep (a1) (a2) (s : State) : (modIn a1 a2 s).keep = s.keep := by
  (unfold modIn; simp only [keep_mk, keep_fold, apply_ite State.keep, ite_self, next_keep, whenS_keep, forEach_keep, ifSome_keep, foldl_keep]; done)

theorem execSwitchLookup_keep (a1) (s : State) : ∃ t, execSwitchLookup a1 s = .next t ∧ t.keep = s.keep := by
  (unfold execSwitchLookup; dsimp only; (repeat' split) <;> (first | (simp (disch := (intros; first | (simp only [keep_mk, keep_fold, apply_ite State.keep, ite_self, next_keep, whenS_keep, forEach_keep, ifSome_keep, foldl_keep, dropFrame_keep, dropIn_keep, countEv_keep, logLimited_keep, applyAction_keep, modIn_keep, cutTarget_keep, freeNat_keep, earlyDeliver_keep]; done) | grind [keep_mk, keep_fold, whenS_keep, forEach_keep, ifSome_keep, foldl_keep, dropFrame_keep, dropIn_keep, countEv_keep, logLimited_keep, applyAction_keep, modIn_keep, cutTarget_keep, freeNat_keep, earlyDeliver_keep, cutTarget_keep2, freeNat_keep2, Option.map_eq_some_iff, Option.bind_eq_some_iff])) only [keep_mk, keep_fold, apply_ite State.keep, ite_self, next_keep, whenS_keep, forEach_keep, ifSome_keep, foldl_keep, dropFrame_keep, dropIn_keep, countEv_keep, logLimited_keep, applyAction_keep, modIn_keep, cutTarget_keep, freeNat_keep, earlyDeliver_keep]; done) | grind [keep_mk, keep_fold, whenS_keep, forEach_keep, ifSome_keep, foldl_keep, dropFrame_keep, dropIn_keep, countEv_keep, logLimited_keep, applyAction_keep, modIn_keep, cutTarget_keep, freeNat_keep, earlyDeliver_keep, cutTarget_keep2, freeNat_keep2, Option.map_eq_some_iff, Option.bind_eq_some_iff]))

theorem mirrorLate_keep (a1) (a2) (s : State) : (mirrorLate a1 a2 s).keep = s.keep := by
  (unfold mirrorLate; grind [keep_mk, keep_fold, whenS_keep, forEach_keep, ifSome_keep, foldl_keep, mirrorTo_keep])

theorem execVerdictArrival_keep (a1) (s : State) : ∃ t, execVerdictArrival a1 s = .next t ∧ t.keep = s.keep := by
  (unfold execVerdictArrival; grind [keep_mk, keep_fold, whenS_keep, forEach_keep, ifSome_keep, foldl_keep, macsecSeen_keep, saFail_keep, dropFrame_keep, dropIn_keep, enqueueAt_keep, countEv_keep, sendMac_keep, cadRelease_keep, latSend_keep, mirrorLate_keep, releaseHeld_keep, earlyComplete_keep, applyAction_keep, modIn_keep])

theorem execSwxTableWrite_keep (s : State) : ∃ t, execSwxTableWrite s = .next t ∧ t.keep = s.keep := by
  (unfold execSwxTableWrite; refine interpret_keep _ _ _ ?_; intro p s; dsimp only; (repeat' split) <;> (first | (simp (disch := (intros; first | (simp only [keep_mk, keep_fold, apply_ite State.keep, ite_self, next_keep, whenS_keep, forEach_keep, ifSome_keep, foldl_keep, interpret_keep, fail_keep, badParam_keep, ok_keep]; done) | grind [keep_mk, keep_fold, whenS_keep, forEach_keep, ifSome_keep, foldl_keep, interpret_keep, fail_keep, badParam_keep, ok_keep])) only [keep_mk, keep_fold, apply_ite State.keep, ite_self, next_keep, whenS_keep, forEach_keep, ifSome_keep, foldl_keep, interpret_keep, fail_keep, badParam_keep, ok_keep]; done) | grind [keep_mk, keep_fold, whenS_keep, forEach_keep, ifSome_keep, foldl_keep, interpret_keep, fail_keep, badParam_keep, ok_keep] | (refine checked_keep _ _ _ _ _ ?_; intro s; first | (simp only [keep_mk, keep_fold, apply_ite State.keep, ite_self, next_keep, whenS_keep, forEach_keep, ifSome_keep, foldl_keep, interpret_keep, fail_keep, badParam_keep, ok_keep]; done) | grind [keep_mk, keep_fold, whenS_keep, forEach_keep, ifSome_keep, foldl_keep, interpret_keep, fail_keep, badParam_keep, ok_keep])))

theorem execSwxTableCommit_keep (s : State) : ∃ t, execSwxTableCommit s = .next t ∧ t.keep = s.keep := by
  (unfold execSwxTableCommit; refine interpret_keep _ _ _ ?_; intro p s; refine checked_keep _ _ _ _ _ ?_; intro s; simp only [keep_mk, keep_fold, apply_ite State.keep, ite_self, next_keep, whenS_keep, forEach_keep, ifSome_keep, foldl_keep, interpret_keep, checked_keep, fail_keep, complete_keep, logEvent_keep]; done)

theorem execSwxMirrorSet_keep (s : State) : ∃ t, execSwxMirrorSet s = .next t ∧ t.keep = s.keep := by
  (unfold execSwxMirrorSet; refine interpret_keep _ _ _ ?_; intro p s; refine checked_keep _ _ _ _ _ ?_; intro s; simp only [keep_mk, keep_fold, apply_ite State.keep, ite_self, next_keep, whenS_keep, forEach_keep, ifSome_keep, foldl_keep, interpret_keep, checked_keep, ok_keep, syncUse_keep]; done)

end Sys2Proof.Machine
end

