-- ==== Sys2Proof/Laws/Tables.lean ====
section
/-!
SUPPORT. Sys2Proof/Laws/Tables.lean: what sparse tables and byte memories give back, and that every operation keeps their canonical form.
-/
namespace Sys2Proof.Machine
open Sys2Proof

set_option linter.unusedSectionVars false
variable {α : Type} [DecidableEq α] (d : α)


theorem tget_nil (k : Nat) : tget d [] k = d := rfl

theorem tget_cons (j : Nat) (v : α) (t : List (Nat × α)) (k : Nat) :
    tget d ((j, v) :: t) k = if k = j then v else tget d t k := by
  unfold tget
  by_cases h : k = j
  · subst h; simp [List.lookup]
  · have hb : (k == j) = false := by simpa using h
    simp [List.lookup, h, hb]

theorem twfFrom_mono (t : List (Nat × α)) (lo lo' : Nat) (h : lo' ≤ lo) (w : twfFrom d lo t = true) : twfFrom d lo' t = true := by
  cases t with
  | nil => rfl
  | cons x t => obtain ⟨k, v⟩ := x; simp only [twfFrom, Bool.and_eq_true, decide_eq_true_eq] at *; exact ⟨⟨by omega, w.1.2⟩, w.2⟩

theorem tget_low (t : List (Nat × α)) (lo k : Nat) (w : twfFrom d lo t = true) (h : k < lo) : tget d t k = d := by
  induction t generalizing lo with
  | nil => rfl
  | cons x t ih =>
    obtain ⟨j, v⟩ := x
    simp only [twfFrom, Bool.and_eq_true, decide_eq_true_eq] at w
    rw [tget_cons, if_neg (by omega)]
    exact ih (j + 1) w.2 (by omega)

theorem tget_tins (t : List (Nat × α)) (k j : Nat) (v : α) : tget d (tins k v t) j = if j = k then v else tget d t j := by
  induction t with
  | nil => rw [tins, tget_cons]
  | cons x t ih =>
    obtain ⟨i, w⟩ := x
    unfold tins
    split
    · rw [tget_cons]
    · split
      · subst k; simp only [tget_cons]; split <;> rfl
      · simp only [tget_cons, ih]; grind

theorem tget_tdel (t : List (Nat × α)) (k j : Nat) : tget d (tdel k t) j = if j = k then d else tget d t j := by
  induction t with
  | nil => simp [tdel, tget_nil]
  | cons x t ih =>
    obtain ⟨i, v⟩ := x
    unfold tdel
    split
    · subst k; rw [ih, tget_cons]; grind
    · rw [tget_cons, tget_cons, ih]; grind

theorem twfFrom_tins (t : List (Nat × α)) (lo k : Nat) (v : α) (w : twfFrom d lo t = true) (h : lo ≤ k) (hv : v ≠ d) :
    twfFrom d lo (tins k v t) = true := by
  induction t generalizing lo with
  | nil => simp [tins, twfFrom, h, hv]
  | cons x t ih =>
    obtain ⟨i, u⟩ := x
    simp only [twfFrom, Bool.and_eq_true, decide_eq_true_eq] at w
    unfold tins
    split
    · simp [twfFrom, Nat.succ_le_iff, *]
    · split
      · subst k; simp [twfFrom, h, hv, w]
      · simp only [twfFrom, Bool.and_eq_true, decide_eq_true_eq]
        exact ⟨w.1, ih (i + 1) w.2 (by omega)⟩

theorem twfFrom_tdel (t : List (Nat × α)) (lo k : Nat) (w : twfFrom d lo t = true) : twfFrom d lo (tdel k t) = true := by
  induction t generalizing lo with
  | nil => rfl
  | cons x t ih =>
    obtain ⟨i, u⟩ := x
    simp only [twfFrom, Bool.and_eq_true, decide_eq_true_eq] at w
    unfold tdel
    split
    · exact twfFrom_mono d _ (i + 1) lo (by omega) (ih (i + 1) w.2)
    · simp only [twfFrom, Bool.and_eq_true, decide_eq_true_eq]
      exact ⟨w.1, ih (i + 1) w.2⟩

/-- What a table holds after a put. -/
theorem tget_tput (t : List (Nat × α)) (k j : Nat) (v : α) : tget d (tput d t k v) j = if j = k then v else tget d t j := by
  unfold tput
  split
  · subst v; exact tget_tdel d t k j
  · exact tget_tins d t k j v
theorem twf_tput (t : List (Nat × α)) (k : Nat) (v : α) (w : twf d t = true) : twf d (tput d t k v) = true := by
  unfold tput
  split
  · exact twfFrom_tdel d t 0 k w
  · exact twfFrom_tins d t 0 k v w (Nat.zero_le k) ‹_›
theorem twf_tmod (t : List (Nat × α)) (k : Nat) (f : α → α) (w : twf d t = true) : twf d (tmod d t k f) = true := twf_tput d t k _ w
theorem tget_tmod (t : List (Nat × α)) (k j : Nat) (f : α → α) :
    tget d (tmod d t k f) j = if j = k then f (tget d t k) else tget d t j := tget_tput d t k j _

/-- Two tables in canonical form that read alike are equal. -/
theorem twf_ext (t u : List (Nat × α)) (lo : Nat) (ht : twfFrom d lo t = true) (hu : twfFrom d lo u = true)
    (h : ∀ k, tget d t k = tget d u k) : t = u := by
  induction t generalizing u lo with
  | nil =>
    cases u with
    | nil => rfl
    | cons x u =>
      obtain ⟨j, v⟩ := x
      simp only [twfFrom, Bool.and_eq_true, decide_eq_true_eq] at hu
      have := h j; rw [tget_cons, tget_nil] at this; simp at this; exact absurd this.symm hu.1.2
  | cons x t ih =>
    obtain ⟨i, a⟩ := x
    simp only [twfFrom, Bool.and_eq_true, decide_eq_true_eq] at ht
    cases u with
    | nil => have := h i; rw [tget_cons, tget_nil] at this; simp at this; exact absurd this ht.1.2
    | cons y u =>
      obtain ⟨j, b⟩ := y
      simp only [twfFrom, Bool.and_eq_true, decide_eq_true_eq] at hu
      have hij : i = j := by
        rcases Nat.lt_trichotomy i j with l | l | l
        · have := h i; rw [tget_cons, tget_cons, if_pos rfl, if_neg (by omega), tget_low d u (j + 1) i hu.2 (by omega)] at this
          exact absurd this ht.1.2
        · exact l
        · have := h j; rw [tget_cons, tget_cons, if_pos rfl, if_neg (by omega), tget_low d t (i + 1) j ht.2 (by omega)] at this
          exact absurd this.symm hu.1.2
      subst hij
      have hab : a = b := by have := h i; simpa [tget_cons] using this
      subst hab
      have := ih u (i + 1) ht.2 hu.2 (by
        intro k
        by_cases hk : k = i
        · subst hk; rw [tget_low d t (k + 1) k ht.2 (by omega), tget_low d u (k + 1) k hu.2 (by omega)]
        · have := h k; simpa [tget_cons, hk] using this)
      rw [this]

/-! Byte memories -/

theorem Mem.wf_write (m : Mem) (a : Nat) (b : Byte) (w : m.wf = true) : (m.write a b).wf = true := twf_tput 0 m a b w
theorem Mem.read_write (m : Mem) (a i : Nat) (b : Byte) : (m.write a b).read i = if i = a then b else m.read i :=
  tget_tput 0 m a i b
theorem Mem.wf_writeN (m : Mem) (a : Nat) (bs : Bytes) (w : m.wf = true) : (m.writeN a bs).wf = true := by
  induction bs generalizing m a with
  | nil => exact w
  | cons b bs ih => exact ih _ _ (Mem.wf_write m a b w)
/-- What a byte of memory is after bytes are stored from a upward. -/
theorem Mem.read_writeN (m : Mem) (a i : Nat) (bs : Bytes) :
    (m.writeN a bs).read i = if a ≤ i ∧ i < a + bs.length then bs.getD (i - a) 0 else m.read i := by
  induction bs generalizing m a with
  | nil => simp only [writeN, List.length_nil, Nat.add_zero]; rw [if_neg (by omega)]
  | cons b bs ih =>
    rw [Mem.writeN, ih, Mem.read_write]
    simp only [List.length_cons]
    rcases Nat.lt_trichotomy i a with l | l | l
    · rw [if_neg (by omega), if_neg (by omega), if_neg (by omega)]
    · subst l; rw [if_neg (by omega), if_pos rfl, if_pos (by omega)]; simp
    · by_cases h : i < a + (bs.length + 1)
      · rw [if_pos (by omega), if_pos (by omega)]
        obtain ⟨k, hk⟩ : ∃ k, i = a + 1 + k := ⟨i - (a + 1), by omega⟩
        subst hk
        rw [show a + 1 + k - (a + 1) = k by omega, show a + 1 + k - a = k + 1 by omega]; simp
      · rw [if_neg (by omega), if_neg (by omega), if_neg (by omega)]
theorem Mem.readN_length (m : Mem) (a n : Nat) : (m.readN a n).length = n := by simp [Mem.readN]
theorem Mem.readN_getD (m : Mem) (a n i : Nat) (h : i < n) : (m.readN a n).getD i 0 = m.read (a + i) := by
  simp [Mem.readN, List.getD_eq_getElem?_getD, h]

end Sys2Proof.Machine
end

