-- ==== Sys2Proof/Laws/Grow.lean ====
section
/-!
SUPPORT. Sys2Proof/Laws/Grow.lean: the functions that program OTP or lock label blocks leave the queue and the microseconds alone; OTP bits are only ever set (R938) and label locks only ever made (R806).
-/
namespace Sys2Proof.Machine
open Sys2Proof

/-- The queue and the microseconds are the same, the OTP has kept its form and its bits, and no label block is unlocked. -/
def Keep.grew (k l : Keep) : Prop :=
  l.pending = k.pending ∧ l.us = k.us ∧ (∀ b ∈ k.locked, b ∈ l.locked) ∧ k.otp.mem.within l.otp.mem ∧ (k.otp.mem.wf = true → l.otp.mem.wf = true)

theorem Mem.within_refl (a : Mem) : a.within a := fun i => by simp
theorem Mem.within_trans (a b c : Mem) (h : a.within b) (g : b.within c) : a.within c := by
  intro i
  rw [← g i, ← BitVec.or_assoc, h i]
theorem Keep.grew_refl (k : Keep) : k.grew k := ⟨rfl, rfl, fun _ h => h, Mem.within_refl _, fun h => h⟩
theorem Keep.grew_trans (k l m : Keep) (h : k.grew l) (g : l.grew m) : k.grew m :=
  ⟨g.1.trans h.1, g.2.1.trans h.2.1, fun b i => g.2.2.1 b (h.2.2.1 b i),
    Mem.within_trans _ _ _ h.2.2.2.1 g.2.2.2.1, fun w => g.2.2.2.2 (h.2.2.2.2 w)⟩
theorem grew_of_keep (s t : State) (h : t.keep = s.keep) : s.keep.grew t.keep := by rw [h]; exact Keep.grew_refl _

/-- Storing bytes that hold every bit of the bytes they replace clears no bit. -/
theorem Mem.within_writeN (m : Mem) (a : Nat) (bs : Bytes) (h : ∀ i, i < bs.length → m.read (a + i) ||| bs.getD i 0 = bs.getD i 0) :
    m.within (m.writeN a bs) := by
  intro i
  rw [Mem.read_writeN m a i bs]
  split
  · obtain ⟨k, rfl⟩ : ∃ k, i = a + k := ⟨i - a, by omega⟩
    rw [show a + k - a = k by omega]; exact h k (by omega)
  · simp

theorem zip_or {β : Type} (x : Bytes) (l : List β) (g : Byte × β → Byte) (hg : ∀ p, p.1 ||| g p = g p) (i : Nat)
    (h : i < ((x.zip l).map g).length) : x.getD i 0 ||| ((x.zip l).map g).getD i 0 = ((x.zip l).map g).getD i 0 := by
  simp only [List.length_map, List.length_zip] at h
  have h1 : i < x.length := by omega
  have h2 : i < l.length := by omega
  have h3 : (x.zip l)[i]? = some (x[i], l[i]) := List.getElem?_zip_eq_some.2 ⟨by simp [h1], by simp [h2]⟩
  simp only [List.getD_eq_getElem?_getD, List.getElem?_map, h3, Option.map_some, Option.getD_some, List.getElem?_eq_getElem h1]
  exact hg (x[i], l[i])

theorem or_or_self (x y : Byte) : x ||| (x ||| y) = x ||| y := by rw [← BitVec.or_assoc, BitVec.or_self]

theorem otpProgram_grew (good : Bool) (mark a : Nat) (data : Bytes) (s : State) : s.keep.grew (otpProgram good mark a data s).keep := by
  have ho : ∀ i, i < data.length → (s.otpAt a data.length).getD i 0 = s.otp.mem.read (a + i) := fun i h => by
    simp only [State.otpAt]; exact Mem.readN_getD _ _ _ _ h
  have hl : (s.otpAt a data.length).length = data.length := by simp only [State.otpAt]; exact Mem.readN_length _ _ _
  unfold otpProgram
  split
  · refine ⟨rfl, rfl, fun _ h => h, Mem.within_writeN _ _ _ ?_, fun w => Mem.wf_writeN _ _ _ w⟩
    intro i hi
    have := zip_or (s.otpAt a data.length) data (fun p => p.1 ||| p.2) (fun p => or_or_self _ _) i hi
    rw [ho i (by simp at hi; omega)] at this
    exact this
  · refine ⟨rfl, rfl, fun _ h => h, Mem.within_writeN _ _ _ ?_, fun w => Mem.wf_writeN _ _ _ w⟩
    intro i hi
    have := zip_or (s.otpAt a data.length) _ (fun p : Byte × Byte × Byte => p.1 ||| (p.2.1 &&& p.2.2)) (fun p => or_or_self _ _) i hi
    rw [ho i (by simp at hi; omega)] at this
    exact this

theorem interpret_grew (op : Nat) (f : Packet → State → State) (s : State) (h : ∀ p (s : State), s.keep.grew (f p s).keep) :
    ∃ t, interpret op f s = .next t ∧ s.keep.grew t.keep := by
  unfold interpret
  split
  · exact ⟨_, rfl, Keep.grew_refl _⟩
  · rename_i p t ht
    have hk : t.keep = s.keep := takeCmd_keep _ _ _ _ ht
    rw [← hk]
    repeat' split
    all_goals refine ⟨_, rfl, ?_⟩
    all_goals first | exact h _ _ | (apply grew_of_keep; exact fail_keep _ _ _ _ _)
theorem checked_grew (p : Packet) (len : Nat) (fields : List (Nat × Bool)) (k : State → State) (s : State) (h : s.keep.grew (k s).keep) :
    s.keep.grew (checked p len fields k s).keep := by
  unfold checked
  repeat' split
  all_goals first | exact h | (apply grew_of_keep; first | exact fail_keep _ _ _ _ _ | exact badParam_keep _ _ _)
/-- The condition of a meaning that runs OTP changes on states whose kept part is that of another state. -/
theorem grew_from (s s' : State) (k : Keep) (h : s'.keep = s.keep) (g : s'.keep.grew k) : s.keep.grew k := h ▸ g

theorem writeRepair_grew (n bits : Nat) (good : Bool) (s : State) : s.keep.grew (writeRepair n bits good s).keep := by
  unfold writeRepair
  simp only [logEvent_keep]
  exact otpProgram_grew _ _ _ _ _
theorem doTransition_grew (good : Bool) (n : Nat) (p : Packet) (s : State) : s.keep.grew (doTransition good n p s).keep := by
  unfold doTransition
  extract_lets old bit u v w new src x
  have hv : s.keep.grew v.keep := by
    have hu : s.keep.grew u.keep := otpProgram_grew _ _ _ _ _
    simp only [v]
    split
    · rw [modLcy_keep]; exact Keep.grew_trans _ _ _ hu (otpProgram_grew _ _ _ _ _)
    · exact hu
  have hx : s.keep.grew x.keep := by
    simp only [x, w]
    split
    · rw [otpEvent_keep]; exact hv
    · simp only [closeSession_keep, logEvent_keep, keep_mk, keep_fold, otpEvent_keep]; exact hv
  split <;> simp only [ok_keep, fail_keep] <;> exact hx
theorem writeGroup_grew (good : Bool) (g : Nat) (data : Bytes) (p : Packet) (s : State) : s.keep.grew (writeGroup good g data p s).keep := by
  unfold writeGroup
  repeat' split
  all_goals simp only [badParam_keep, fail_keep, complete_keep, otpEvent_keep]
  all_goals first | exact Keep.grew_refl _ | exact otpProgram_grew _ _ _ _ _
theorem writeHash_grew (good : Bool) (gen : Nat) (data : Bytes) (p : Packet) (s : State) : s.keep.grew (writeHash good gen data p s).keep := by
  unfold writeHash
  repeat' split
  all_goals simp only [fail_keep, complete_keep, otpEvent_keep]
  all_goals exact otpProgram_grew _ _ _ _ _
theorem finishFence_grew (p : Packet) (d : Nat) (x : Option Nat) (persist good : Bool) (s : State) :
    s.keep.grew (finishFence p d x persist good s).keep := by
  unfold finishFence
  extract_lets bits short done
  have hd : ∀ n s, (done n s).keep = s.keep := fun n s => complete_keep _ _ _ _
  clear_value done
  split
  · split
    · rw [hd]; exact writeRepair_grew _ _ _ _
    · rw [fail_keep]; exact writeRepair_grew _ _ _ _
  · rw [hd]; exact Keep.grew_refl _

theorem execLcyTransition_grew (good : Bool) (s : State) : ∃ t, execLcyTransition good s = .next t ∧ s.keep.grew t.keep := by
  refine interpret_grew _ _ _ fun p s => ?_
  extract_lets b to_ n now
  split
  · rw [fail_keep]; exact Keep.grew_refl _
  refine checked_grew _ _ _ _ _ ?_
  clear_value now to_ n
  split
  · rw [complete_keep]; exact Keep.grew_refl _
  split
  · rw [badParam_keep]; exact Keep.grew_refl _
  split
  · rw [fail_keep]; exact Keep.grew_refl _
  split
  · split
    · rw [badParam_keep]; exact Keep.grew_refl _
    split
    · rw [fail_keep]; exact Keep.grew_refl _
    · exact grew_from _ _ _ (acceptCon_keep _ s) (doTransition_grew _ _ _ _)
  · exact doTransition_grew _ _ _ _
theorem execOtpSettingsWrite_grew (good : Bool) (s : State) : ∃ t, execOtpSettingsWrite good s = .next t ∧ s.keep.grew t.keep := by
  refine interpret_grew _ _ _ fun p s => ?_
  extract_lets b g gen n size data locked shape accepted
  split
  · rw [fail_keep]; exact Keep.grew_refl _
  split
  · rw [badParam_keep]; exact Keep.grew_refl _
  refine checked_grew _ _ _ _ _ ?_
  split
  · rw [fail_keep]; exact Keep.grew_refl _
  extract_lets -lift auth
  have ha : ∀ s, (accepted s).keep = s.keep := fun s => by
    simp only [accepted]; split
    · exact acceptCon_keep _ _
    · rfl
  clear_value accepted auth shape
  split
  · rw [fail_keep]; exact Keep.grew_refl _
  repeat' split
  all_goals first
    | exact grew_from _ (accepted s) _ (ha _) (writeHash_grew _ _ _ _ _)
    | exact grew_from _ (accepted s) _ (ha _) (writeGroup_grew _ _ _ _ _)
    | (simp only [fail_keep, unwrapFail_keep]; exact Keep.grew_refl _)
theorem execFwImageActivate_grew (good : Bool) (s : State) : ∃ t, execFwImageActivate good s = .next t ∧ s.keep.grew t.keep := by
  refine interpret_grew _ _ _ fun p s => ?_
  extract_lets b act zero
  refine checked_grew _ _ _ _ _ ?_
  clear_value act
  split
  · extract_lets k
    split
    · rw [fail_keep]; exact Keep.grew_refl _
    · rw [ok_keep]; split <;> exact grew_of_keep _ _ (putRec_keep _ _)
  · split
    · rw [complete_keep]; exact Keep.grew_refl _
    · rw [ok_keep, modLcy_keep, putRec_keep]; exact Keep.grew_refl _
  · split
    · rw [fail_keep]; exact Keep.grew_refl _
    split
    · rw [complete_keep]; exact Keep.grew_refl _
    split
    · rw [ok_keep, recheckSlots_keep, otpEvent_keep]; exact otpProgram_grew _ _ _ _ _
    · rw [fail_keep, recheckSlots_keep, otpEvent_keep]; exact otpProgram_grew _ _ _ _ _
theorem execTrustRoll_grew (good : Bool) (s : State) : ∃ t, execTrustRoll good s = .next t ∧ s.keep.grew t.keep := by
  refine interpret_grew _ _ _ fun p s => ?_
  extract_lets c
  refine checked_grew _ _ _ _ _ ?_
  have ha : ∀ g m a d, s.keep.grew (otpProgram g m a d (acceptCon c s)).keep := fun g m a d =>
    grew_from _ (acceptCon c s) _ (acceptCon_keep _ _) (otpProgram_grew _ _ _ _ _)
  extract_lets old new
  split
  · rw [fail_keep]; exact Keep.grew_refl _
  split
  · rw [fail_keep]; exact Keep.grew_refl _
  split
  · rw [fail_keep]; exact Keep.grew_refl _
  split
  · rw [fail_keep]; exact Keep.grew_refl _
  split
  · rw [complete_keep, recheckSlots_keep, logEvent_keep]; exact ha _ _ _ _
  · rw [fail_keep, recheckSlots_keep, otpEvent_keep]; exact ha _ _ _ _

theorem execRprFence_grew (good : Bool) (s : State) : ∃ t, execRprFence good s = .next t ∧ s.keep.grew t.keep := by
  refine interpret_grew _ _ _ fun p s => ?_
  extract_lets -lift d persist force
  refine checked_grew _ _ _ _ _ ?_
  extract_lets -lift role spare pair need lastOn home
  clear_value role spare pair need lastOn home persist force d
  split
  · rw [fail_keep]; exact Keep.grew_refl _
  split
  · split
    · extract_lets v
      split
      · rw [complete_keep]; exact writeRepair_grew _ _ _ _
      · rw [fail_keep]; exact writeRepair_grew _ _ _ _
    · split <;> simp only [fail_keep, complete_keep] <;> exact Keep.grew_refl _
  split
  · rw [fail_keep]; exact Keep.grew_refl _
  split
  · rw [fail_keep]; exact Keep.grew_refl _
  split
  · rw [fail_keep]; exact Keep.grew_refl _
  split
  · rw [fail_keep]; exact Keep.grew_refl _
  split
  · rw [fail_keep]; exact Keep.grew_refl _
  split
  · rw [waitFor_keep]
    split <;> simp only [modRole_keep, startMove_keep] <;> exact Keep.grew_refl _
  · exact grew_from _ _ _ (by rw [fenceDomain_keep, loseRole_keep]) (finishFence_grew _ _ _ _ _ _)
  · exact grew_from _ _ _ (fenceAll_keep _ _ _ _) (finishFence_grew _ _ _ _ _ _)
theorem execRprUnfence_grew (good : Bool) (s : State) : ∃ t, execRprUnfence good s = .next t ∧ s.keep.grew t.keep := by
  refine interpret_grew _ _ _ fun p s => ?_
  extract_lets -lift b subject i persist answer room
  have ha : ∀ a b s, (answer a b s).keep = s.keep := fun a b s => complete_keep _ _ _ _
  clear_value answer room subject i persist
  refine checked_grew _ _ _ _ _ ?_
  split
  · split <;> (rw [ha]; exact Keep.grew_refl _)
  split
  · split <;> (rw [ha]; exact Keep.grew_refl _)
  split
  · rw [ha]; exact Keep.grew_refl _
  split
  · rw [fail_keep]; exact Keep.grew_refl _
  extract_lets set slot pools src s1 s2 s3 s4 s5 note wait
  have h2 : s2.keep = s.keep := by simp only [s2, s1, partBack_keep, settleUnfenced_keep, keep_mk, keep_fold]
  have hp : ∀ (l : List Nat) (u : State), (forEach l partBack u).keep = u.keep := fun l u => forEach_keep _ _ _ fun a s => partBack_keep _ _
  have h3 : s3.keep = s.keep := by
    simp only [s3]
    split
    · rw [hp, forEach_keep _ _ _ (fun a s => setDomain_keep _ _ _)]; exact h2
    · exact h2
  have h5 : s5.keep = s.keep := by simp only [s5, s4, poolRecords_keep, routePost_keep, logEvent_keep]; exact h3
  have hw : ∀ n s, (wait n s).keep = s.keep := by
    intro n s; simp only [wait]; split <;> simp only [waitFor_keep, ha]
  clear_value wait note s5 s4 s3 s2 s1 pools slot set
  split
  · rw [fail_keep]; exact Keep.grew_refl _
  split
  · extract_lets v
    split
    · rw [hw]; exact grew_from _ _ _ h5 (writeRepair_grew _ _ _ _)
    · rw [fail_keep]; exact grew_from _ _ _ h5 (writeRepair_grew _ _ _ _)
  · rw [hw, h5]; exact Keep.grew_refl _
theorem execRoleMoveComplete_grew (r : Nat) (good : Bool) (s : State) : ∃ t, execRoleMoveComplete r good s = .next t ∧ s.keep.grew t.keep := by
  unfold execRoleMoveComplete
  split
  · rename_i m c _ _
    split
    · exact ⟨_, rfl, Keep.grew_refl _⟩
    · extract_lets before s1 s2 s3 s4 s5 s6 cmd src s7 persist s8
      refine ⟨_, rfl, ?_⟩
      have h1 : s1.keep = s.keep := by
        simp only [s1]; split <;> simp only [copyCore_keep, abortRoleCommands_keep, clearRole_keep]
      have h4 : s4.keep = s.keep := by simp only [s4, s3, s2, modRole_keep, modWdn_keep, modCore_keep]; exact h1
      have h5 : s5.keep = s.keep := by
        simp only [s5]; split <;> simp only [sched_keep, startRole_keep, loadCore_keep] <;> exact h4
      have h7 : s7.keep = s.keep := by simp only [s7, s6, keep_mk, keep_fold, logEvent_keep]; exact h5
      have h8 : s8.keep = s.keep := by
        simp only [s8]; split
        · rw [fenceDomain_keep]; exact h7
        · rw [poolRecords_keep, makeSpare_keep]; exact h7
      clear_value s8 s7 s6 s5 s4 s3 s2 s1 cmd persist before
      split
      · split
        · exact grew_from _ _ _ h8 (finishFence_grew _ _ _ _ _ _)
        · rw [complete_keep, logEvent_keep, h8]; exact Keep.grew_refl _
      · rw [h8]; exact Keep.grew_refl _
  · exact ⟨_, rfl, Keep.grew_refl _⟩

theorem mem_nset_of (a b : Nat) (l : List Nat) (h : b ∈ l) : b ∈ nset a l := by
  induction l with
  | nil => cases h
  | cons x l ih => unfold nset; grind
theorem fieldTx_grew (n : Nat) (f : State → State) (s : State) (h : ∀ u : State, u.keep.grew (f u).keep) : s.keep.grew (fieldTx n f s).keep := by
  unfold fieldTx
  split
  · rw [lblErr_keep]; exact Keep.grew_refl _
  · exact grew_from s _ _ (modLbl_keep (fun x => { x with fieldEnd := s.us + n }) s rfl) (h _)
theorem fieldLock_grew (ext : Bool) (busy : Nat) (q : FieldReq) (s : State) : s.keep.grew (fieldLock ext busy q s).keep := by
  unfold fieldLock sized
  dsimp only
  generalize (if ext then 2 else 1 : Nat) = w
  split
  · split
    · rw [lblErr_keep]; exact Keep.grew_refl _
    · refine fieldTx_grew _ _ _ fun u => ?_
      split
      · rw [lblErr_keep]; exact Keep.grew_refl _
      split
      · rw [lblErr_keep]; exact Keep.grew_refl _
      · rw [lblAnswer_keep]
        exact ⟨rfl, rfl, fun c hc => mem_nset_of _ _ _ hc, Mem.within_refl _, fun h => h⟩
  · rw [lblErr_keep]; exact Keep.grew_refl _
theorem fieldRun_grew (mine : Nat → Bool) (req : Bytes) (f : FieldReq → State → State) (s : State)
    (h : ∀ q (u : State), u.keep.grew (f q u).keep) : ∃ t, fieldRun mine req f s = .next t ∧ s.keep.grew t.keep := by
  unfold fieldRun
  extract_lets
  repeat' split
  all_goals refine ⟨_, rfl, ?_⟩
  all_goals first
    | exact Keep.grew_refl _
    | exact h _ _
    | exact grew_of_keep _ _ (lblErr_keep _ _)
    | exact grew_of_keep _ _ (whenS_keep _ _ _ (modLbl_keep (fun x => { x with tag := 0 }) _ rfl))
theorem execLblLockBlock_grew (req : Bytes) (busy : Nat) (s : State) : ∃ t, execLblLockBlock req busy s = .next t ∧ s.keep.grew t.keep :=
  fieldRun_grew _ _ _ _ fun _ _ => fieldLock_grew _ _ _ _
theorem execExtendedLockSingleBlock_grew (req : Bytes) (busy : Nat) (s : State) :
    ∃ t, execExtendedLockSingleBlock req busy s = .next t ∧ s.keep.grew t.keep :=
  fieldRun_grew _ _ _ _ fun _ _ => fieldLock_grew _ _ _ _

theorem ran_of_keep (o : Out) (s : State) (h : ∃ t, o = .next t ∧ t.keep = s.keep) : ∃ t, o = .next t ∧ s.keep.grew t.keep := by
  obtain ⟨t, h, g⟩ := h; exact ⟨t, h, grew_of_keep _ _ g⟩
theorem ran_eq {o o' : Out} {s : State} (e : o = o') (h : ∃ t, o' = .next t ∧ s.keep.grew t.keep) : ∃ t, o = .next t ∧ s.keep.grew t.keep := e ▸ h
/-- Every command runs: the queue and the microseconds stay, OTP only gains bits, and label locks stay. -/
theorem exec_grew (c : Instr) (s : State) : ∃ t, exec c s = .next t ∧ s.keep.grew t.keep := by
  cases c with
  | powerOn => exact ran_eq (exec_powerOn s) (ran_of_keep _ s (execPowerOn_keep s))
  | vinOkHold => exact ran_eq (exec_vinOkHold s) (ran_of_keep _ s (execVinOkHold_keep s))
  | powerUpStart => exact ran_eq (exec_powerUpStart s) (ran_of_keep _ s (execPowerUpStart_keep s))
  | ibPgoodTimeout => exact ran_eq (exec_ibPgoodTimeout s) (ran_of_keep _ s (execIbPgoodTimeout_keep s))
  | ibcRetry => exact ran_eq (exec_ibcRetry s) (ran_of_keep _ s (execIbcRetry_keep s))
  | brownOut => exact ran_eq (exec_brownOut s) (ran_of_keep _ s (execBrownOut_keep s))
  | vinLow _ => exact ran_eq (exec_vinLow _ s) (ran_of_keep _ s (execVinLow_keep _ s))
  | vinOv _ _ => exact ran_eq (exec_vinOv _ _ s) (ran_of_keep _ s (execVinOv_keep _ _ s))
  | pfailSet _ => exact ran_eq (exec_pfailSet _ s) (ran_of_keep _ s (execPfailSet_keep _ s))
  | pfailClear _ => exact ran_eq (exec_pfailClear _ s) (ran_of_keep _ s (execPfailClear_keep _ s))
  | graceTimerExpiry => exact ran_eq (exec_graceTimerExpiry s) (ran_of_keep _ s (execGraceTimerExpiry_keep s))
  | holdLimitExpiry => exact ran_eq (exec_holdLimitExpiry s) (ran_of_keep _ s (execHoldLimitExpiry_keep s))
  | drainEnd => exact ran_eq (exec_drainEnd s) (ran_of_keep _ s (execDrainEnd_keep s))
  | waitingTransitionTaken => exact ran_eq (exec_waitingTransitionTaken s) (ran_of_keep _ s (execWaitingTransitionTaken_keep s))
  | shelfEntry => exact ran_eq (exec_shelfEntry s) (ran_of_keep _ s (execShelfEntry_keep s))
  | shelfRailsDown => exact ran_eq (exec_shelfRailsDown s) (ran_of_keep _ s (execShelfRailsDown_keep s))
  | railFault _ _ => exact ran_eq (exec_railFault _ _ s) (ran_of_keep _ s (execRailFault_keep _ _ s))
  | vcorePhaseAdd => exact ran_eq (exec_vcorePhaseAdd s) (ran_of_keep _ s (execVcorePhaseAdd_keep s))
  | vcorePhaseShed _ => exact ran_eq (exec_vcorePhaseShed _ s) (ran_of_keep _ s (execVcorePhaseShed_keep _ s))
  | rtcAlarmWake => exact ran_eq (exec_rtcAlarmWake s) (ran_of_keep _ s (execRtcAlarmWake_keep s))
  | wakeNWake => exact ran_eq (exec_wakeNWake s) (ran_of_keep _ s (execWakeNWake_keep s))
  | vbusReturnSample _ => exact ran_eq (exec_vbusReturnSample _ s) (ran_of_keep _ s (execVbusReturnSample_keep _ s))
  | vinRecoveryWake => exact ran_eq (exec_vinRecoveryWake s) (ran_of_keep _ s (execVinRecoveryWake_keep s))
  | domainSwitchDone _ => exact ran_eq (exec_domainSwitchDone _ s) (ran_of_keep _ s (execDomainSwitchDone_keep _ s))
  | domainPowerGoodTimeout _ => exact ran_eq (exec_domainPowerGoodTimeout _ s) (ran_of_keep _ s (execDomainPowerGoodTimeout_keep _ s))
  | idleGateTimeout _ => exact ran_eq (exec_idleGateTimeout _ s) (ran_of_keep _ s (execIdleGateTimeout_keep _ s))
  | ddrRegionWiped _ => exact ran_eq (exec_ddrRegionWiped _ s) (ran_of_keep _ s (execDdrRegionWiped_keep _ s))
  | resetNRegistered => exact ran_eq (exec_resetNRegistered s) (ran_of_keep _ s (execResetNRegistered_keep s))
  | resetNReleased _ => exact ran_eq (exec_resetNReleased _ s) (ran_of_keep _ s (execResetNReleased_keep _ s))
  | hkRoundStart => exact ran_eq (exec_hkRoundStart s) (ran_of_keep _ s (execHkRoundStart_keep s))
  | hkConversion _ _ => exact ran_eq (exec_hkConversion _ _ s) (ran_of_keep _ s (execHkConversion_keep _ _ s))
  | hkPublication _ _ _ => exact ran_eq (exec_hkPublication _ _ _ s) (ran_of_keep _ s (execHkPublication_keep _ _ _ s))
  | trimSlewStep => exact ran_eq (exec_trimSlewStep s) (ran_of_keep _ s (execTrimSlewStep_keep s))
  | clockLoss _ => exact ran_eq (exec_clockLoss _ s) (ran_of_keep _ s (execClockLoss_keep _ s))
  | refclkLost _ => exact ran_eq (exec_refclkLost _ s) (ran_of_keep _ s (execRefclkLost_keep _ s))
  | refclkReturn _ => exact ran_eq (exec_refclkReturn _ s) (ran_of_keep _ s (execRefclkReturn_keep _ s))
  | ddrPllUnlock _ => exact ran_eq (exec_ddrPllUnlock _ s) (ran_of_keep _ s (execDdrPllUnlock_keep _ s))
  | ddrPllRelockTimeout _ _ => exact ran_eq (exec_ddrPllRelockTimeout _ _ s) (ran_of_keep _ s (execDdrPllRelockTimeout_keep _ _ s))
  | commandTimeout _ => exact ran_eq (exec_commandTimeout _ s) (ran_of_keep _ s (execCommandTimeout_keep _ s))
  | throttleEnd _ _ _ => exact ran_eq (exec_throttleEnd _ _ _ s) (ran_of_keep _ s (execThrottleEnd_keep _ _ _ s))
  | chainTimeout _ _ _ => exact ran_eq (exec_chainTimeout _ _ _ s) (ran_of_keep _ s (execChainTimeout_keep _ _ _ s))
  | dcwGo _ => exact ran_eq (exec_dcwGo _ s) (ran_of_keep _ s (execDcwGo_keep _ s))
  | resultCountingRead _ _ => exact ran_eq (exec_resultCountingRead _ _ s) (ran_of_keep _ s (execResultCountingRead_keep _ _ s))
  | devIdentify => exact ran_eq (exec_devIdentify s) (ran_of_keep _ s (execDevIdentify_keep s))
  | devReset => exact ran_eq (exec_devReset s) (ran_of_keep _ s (execDevReset_keep s))
  | devResetWStart _ => exact ran_eq (exec_devResetWStart _ s) (ran_of_keep _ s (execDevResetWStart_keep _ s))
  | logRead => exact ran_eq (exec_logRead s) (ran_of_keep _ s (execLogRead_keep s))
  | devEcho => exact ran_eq (exec_devEcho s) (ran_of_keep _ s (execDevEcho_keep s))
  | hkpStatus => exact ran_eq (exec_hkpStatus s) (ran_of_keep _ s (execHkpStatus_keep s))
  | hkpThresholdsSet => exact ran_eq (exec_hkpThresholdsSet s) (ran_of_keep _ s (execHkpThresholdsSet_keep s))
  | clkStatus => exact ran_eq (exec_clkStatus s) (ran_of_keep _ s (execClkStatus_keep s))
  | pwrStateGet => exact ran_eq (exec_pwrStateGet s) (ran_of_keep _ s (execPwrStateGet_keep s))
  | pwrStateSet => exact ran_eq (exec_pwrStateSet s) (ran_of_keep _ s (execPwrStateSet_keep s))
  | shelfReplyDelivered => exact ran_eq (exec_shelfReplyDelivered s) (ran_of_keep _ s (execShelfReplyDelivered_keep s))
  | pwrDomainGet => exact ran_eq (exec_pwrDomainGet s) (ran_of_keep _ s (execPwrDomainGet_keep s))
  | pwrDomainSet => exact ran_eq (exec_pwrDomainSet s) (ran_of_keep _ s (execPwrDomainSet_keep s))
  | pwrConverterCfg => exact ran_eq (exec_pwrConverterCfg s) (ran_of_keep _ s (execPwrConverterCfg_keep s))
  | rtcGet => exact ran_eq (exec_rtcGet s) (ran_of_keep _ s (execRtcGet_keep s))
  | rtcSet => exact ran_eq (exec_rtcSet s) (ran_of_keep _ s (execRtcSet_keep s))
  | perstNAssert => exact ran_eq (exec_perstNAssert s) (ran_of_keep _ s (execPerstNAssert_keep s))
  | perstNDeassert => exact ran_eq (exec_perstNDeassert s) (ran_of_keep _ s (execPerstNDeassert_keep s))
  | hotResetReceived => exact ran_eq (exec_hotResetReceived s) (ran_of_keep _ s (execHotResetReceived_keep s))
  | linkDlDown => exact ran_eq (exec_linkDlDown s) (ran_of_keep _ s (execLinkDlDown_keep s))
  | linkTrainingStart => exact ran_eq (exec_linkTrainingStart s) (ran_of_keep _ s (execLinkTrainingStart_keep s))
  | configRequest _ _ _ => exact ran_eq (exec_configRequest _ _ _ s) (ran_of_keep _ s (execConfigRequest_keep _ _ _ s))
  | flrStart _ => exact ran_eq (exec_flrStart _ s) (ran_of_keep _ s (execFlrStart_keep _ s))
  | flrComplete _ => exact ran_eq (exec_flrComplete _ s) (ran_of_keep _ s (execFlrComplete_keep _ s))
  | vfEnableClear => exact ran_eq (exec_vfEnableClear s) (ran_of_keep _ s (execVfEnableClear_keep s))
  | dmaReadCompletion _ _ => exact ran_eq (exec_dmaReadCompletion _ _ s) (ran_of_keep _ s (execDmaReadCompletion_keep _ _ s))
  | completionTimeout _ => exact ran_eq (exec_completionTimeout _ s) (ran_of_keep _ s (execCompletionTimeout_keep _ s))
  | atsInvalidation _ _ _ => exact ran_eq (exec_atsInvalidation _ _ _ s) (ran_of_keep _ s (execAtsInvalidation_keep _ _ _ s))
  | msixPendingSend _ _ => exact ran_eq (exec_msixPendingSend _ _ s) (ran_of_keep _ s (execMsixPendingSend_keep _ _ s))
  | mgtEventWrite _ _ => exact ran_eq (exec_mgtEventWrite _ _ s) (ran_of_keep _ s (execMgtEventWrite_keep _ _ s))
  | mgtDmafCountRead _ => exact ran_eq (exec_mgtDmafCountRead _ s) (ran_of_keep _ s (execMgtDmafCountRead_keep _ s))
  | tntCharterSet => exact ran_eq (exec_tntCharterSet s) (ran_of_keep _ s (execTntCharterSet_keep s))
  | tntCharterGet => exact ran_eq (exec_tntCharterGet s) (ran_of_keep _ s (execTntCharterGet_keep s))
  | tntStateSet => exact ran_eq (exec_tntStateSet s) (ran_of_keep _ s (execTntStateSet_keep s))
  | tntReset => exact ran_eq (exec_tntReset s) (ran_of_keep _ s (execTntReset_keep s))
  | tntVfBind => exact ran_eq (exec_tntVfBind s) (ran_of_keep _ s (execTntVfBind_keep s))
  | qenDb _ _ _ => exact ran_eq (exec_qenDb _ _ _ s) (ran_of_keep _ s (execQenDb_keep _ _ _ s))
  | qenCqDb _ _ _ => exact ran_eq (exec_qenCqDb _ _ _ s) (ran_of_keep _ s (execQenCqDb_keep _ _ _ s))
  | pollTimerExpiry _ => exact ran_eq (exec_pollTimerExpiry _ s) (ran_of_keep _ s (execPollTimerExpiry_keep _ s))
  | pollReadCompletion _ _ _ => exact ran_eq (exec_pollReadCompletion _ _ _ s) (ran_of_keep _ s (execPollReadCompletion_keep _ _ _ s))
  | fetchIssue _ => exact ran_eq (exec_fetchIssue _ s) (ran_of_keep _ s (execFetchIssue_keep _ s))
  | fetchReadFailed _ => exact ran_eq (exec_fetchReadFailed _ s) (ran_of_keep _ s (execFetchReadFailed_keep _ s))
  | entryNop _ _ => exact ran_eq (exec_entryNop _ _ s) (ran_of_keep _ s (execEntryNop_keep _ _ s))
  | entryPacket _ _ _ => exact ran_eq (exec_entryPacket _ _ _ s) (ran_of_keep _ s (execEntryPacket_keep _ _ _ s))
  | entryTx _ _ _ => exact ran_eq (exec_entryTx _ _ _ s) (ran_of_keep _ s (execEntryTx_keep _ _ _ s))
  | entryRxPost _ _ => exact ran_eq (exec_entryRxPost _ _ s) (ran_of_keep _ s (execEntryRxPost_keep _ _ s))
  | moderationTimerExpiry _ => exact ran_eq (exec_moderationTimerExpiry _ s) (ran_of_keep _ s (execModerationTimerExpiry_keep _ s))
  | ringCreate => exact ran_eq (exec_ringCreate s) (ran_of_keep _ s (execRingCreate_keep s))
  | ringDestroy => exact ran_eq (exec_ringDestroy s) (ran_of_keep _ s (execRingDestroy_keep s))
  | ringDrained _ => exact ran_eq (exec_ringDrained _ s) (ran_of_keep _ s (execRingDrained_keep _ s))
  | ringNotifySet => exact ran_eq (exec_ringNotifySet s) (ran_of_keep _ s (execRingNotifySet_keep s))
  | cadWAlloc _ _ => exact ran_eq (exec_cadWAlloc _ _ s) (ran_of_keep _ s (execCadWAlloc_keep _ _ s))
  | cadWFree _ => exact ran_eq (exec_cadWFree _ s) (ran_of_keep _ s (execCadWFree_keep _ s))
  | waitingAllocServed => exact ran_eq (exec_waitingAllocServed s) (ran_of_keep _ s (execWaitingAllocServed_keep s))
  | engineWaitTimeout _ => exact ran_eq (exec_engineWaitTimeout _ s) (ran_of_keep _ s (execEngineWaitTimeout_keep _ s))
  | cacheRefill _ => exact ran_eq (exec_cacheRefill _ s) (ran_of_keep _ s (execCacheRefill_keep _ s))
  | caddyWipeDone _ => exact ran_eq (exec_caddyWipeDone _ s) (ran_of_keep _ s (execCaddyWipeDone_keep _ s))
  | cadPoolCreate => exact ran_eq (exec_cadPoolCreate s) (ran_of_keep _ s (execCadPoolCreate_keep s))
  | cadPoolDestroy => exact ran_eq (exec_cadPoolDestroy s) (ran_of_keep _ s (execCadPoolDestroy_keep s))
  | poolReleased _ => exact ran_eq (exec_poolReleased _ s) (ran_of_keep _ s (execPoolReleased_keep _ s))
  | cadPoolStatus => exact ran_eq (exec_cadPoolStatus s) (ran_of_keep _ s (execCadPoolStatus_keep s))
  | frameReceived _ _ _ _ => exact ran_eq (exec_frameReceived _ _ _ _ s) (ran_of_keep _ s (execFrameReceived_keep _ _ _ _ s))
  | pauseTimeExpiry _ _ => exact ran_eq (exec_pauseTimeExpiry _ _ s) (ran_of_keep _ s (execPauseTimeExpiry_keep _ _ s))
  | pauseGeneration _ => exact ran_eq (exec_pauseGeneration _ s) (ran_of_keep _ s (execPauseGeneration_keep _ s))
  | pauseRefresh _ => exact ran_eq (exec_pauseRefresh _ s) (ran_of_keep _ s (execPauseRefresh_keep _ s))
  | frameTransmit _ => exact ran_eq (exec_frameTransmit _ s) (ran_of_keep _ s (execFrameTransmit_keep _ s))
  | anComplete _ _ _ _ _ => exact ran_eq (exec_anComplete _ _ _ _ _ s) (ran_of_keep _ s (execAnComplete_keep _ _ _ _ _ s))
  | anRestart _ => exact ran_eq (exec_anRestart _ s) (ran_of_keep _ s (execAnRestart_keep _ s))
  | portLinkChange _ _ => exact ran_eq (exec_portLinkChange _ _ s) (ran_of_keep _ s (execPortLinkChange_keep _ _ s))
  | lldpTimer _ => exact ran_eq (exec_lldpTimer _ s) (ran_of_keep _ s (execLldpTimer_keep _ s))
  | lacpduReceived _ _ => exact ran_eq (exec_lacpduReceived _ _ s) (ran_of_keep _ s (execLacpduReceived_keep _ _ s))
  | lacpPeriodic _ => exact ran_eq (exec_lacpPeriodic _ s) (ran_of_keep _ s (execLacpPeriodic_keep _ s))
  | parkWindowEnd _ => exact ran_eq (exec_parkWindowEnd _ s) (ran_of_keep _ s (execParkWindowEnd_keep _ s))
  | parkDrainDone _ => exact ran_eq (exec_parkDrainDone _ s) (ran_of_keep _ s (execParkDrainDone_keep _ s))
  | deepPendingEnd _ => exact ran_eq (exec_deepPendingEnd _ s) (ran_of_keep _ s (execDeepPendingEnd_keep _ s))
  | memberActive _ => exact ran_eq (exec_memberActive _ s) (ran_of_keep _ s (execMemberActive_keep _ s))
  | wakeLate _ => exact ran_eq (exec_wakeLate _ s) (ran_of_keep _ s (execWakeLate_keep _ s))
  | failedMemberRetry _ => exact ran_eq (exec_failedMemberRetry _ s) (ran_of_keep _ s (execFailedMemberRetry_keep _ s))
  | eeeTlvExpiry _ => exact ran_eq (exec_eeeTlvExpiry _ s) (ran_of_keep _ s (execEeeTlvExpiry_keep _ s))
  | portModeSet => exact ran_eq (exec_portModeSet s) (ran_of_keep _ s (execPortModeSet_keep s))
  | portStatus => exact ran_eq (exec_portStatus s) (ran_of_keep _ s (execPortStatus_keep s))
  | portPauseSet => exact ran_eq (exec_portPauseSet s) (ran_of_keep _ s (execPortPauseSet_keep s))
  | portParkSet => exact ran_eq (exec_portParkSet s) (ran_of_keep _ s (execPortParkSet_keep s))
  | switchLookup _ => exact ran_eq (exec_switchLookup _ s) (ran_of_keep _ s (execSwitchLookup_keep _ s))
  | verdictArrival _ => exact ran_eq (exec_verdictArrival _ s) (ran_of_keep _ s (execVerdictArrival_keep _ s))
  | swxTableWrite => exact ran_eq (exec_swxTableWrite s) (ran_of_keep _ s (execSwxTableWrite_keep s))
  | swxTableCommit => exact ran_eq (exec_swxTableCommit s) (ran_of_keep _ s (execSwxTableCommit_keep s))
  | swxMirrorSet => exact ran_eq (exec_swxMirrorSet s) (ran_of_keep _ s (execSwxMirrorSet_keep s))
  | pointServe _ => exact ran_eq (exec_pointServe _ s) (ran_of_keep _ s (execPointServe_keep _ s))
  | schWeightsSet => exact ran_eq (exec_schWeightsSet s) (ran_of_keep _ s (execSchWeightsSet_keep s))
  | schLimitsSet => exact ran_eq (exec_schLimitsSet s) (ran_of_keep _ s (execSchLimitsSet_keep s))
  | cryptoItemDone _ => exact ran_eq (exec_cryptoItemDone _ s) (ran_of_keep _ s (execCryptoItemDone_keep _ s))
  | entryXtsEnc _ _ _ => exact ran_eq (exec_entryXtsEnc _ _ _ s) (ran_of_keep _ s (execEntryXtsEnc_keep _ _ _ s))
  | entryXtsDec _ _ _ => exact ran_eq (exec_entryXtsDec _ _ _ s) (ran_of_keep _ s (execEntryXtsDec_keep _ _ _ s))
  | drbgReseed => exact ran_eq (exec_drbgReseed s) (ran_of_keep _ s (execDrbgReseed_keep s))
  | drbgHealthFailure _ => exact ran_eq (exec_drbgHealthFailure _ s) (ran_of_keep _ s (execDrbgHealthFailure_keep _ s))
  | keyLoad => exact ran_eq (exec_keyLoad s) (ran_of_keep _ s (execKeyLoad_keep s))
  | keyErase => exact ran_eq (exec_keyErase s) (ran_of_keep _ s (execKeyErase_keep s))
  | keyKekSet => exact ran_eq (exec_keyKekSet s) (ran_of_keep _ s (execKeyKekSet_keep s))
  | crySaAdd => exact ran_eq (exec_crySaAdd s) (ran_of_keep _ s (execCrySaAdd_keep s))
  | crySaDel => exact ran_eq (exec_crySaDel s) (ran_of_keep _ s (execCrySaDel_keep s))
  | drbgStatus => exact ran_eq (exec_drbgStatus s) (ran_of_keep _ s (execDrbgStatus_keep s))
  | entryConnAttach _ _ _ => exact ran_eq (exec_entryConnAttach _ _ _ s) (ran_of_keep _ s (execEntryConnAttach_keep _ _ _ s))
  | entryConnDetach _ _ _ => exact ran_eq (exec_entryConnDetach _ _ _ s) (ran_of_keep _ s (execEntryConnDetach_keep _ _ _ s))
  | detachAcked _ => exact ran_eq (exec_detachAcked _ s) (ran_of_keep _ s (execDetachAcked_keep _ s))
  | detachTimeout _ => exact ran_eq (exec_detachTimeout _ s) (ran_of_keep _ s (execDetachTimeout_keep _ s))
  | entryConnRekey _ _ _ => exact ran_eq (exec_entryConnRekey _ _ _ s) (ran_of_keep _ s (execEntryConnRekey_keep _ _ _ s))
  | entryStoPost _ _ _ => exact ran_eq (exec_entryStoPost _ _ _ s) (ran_of_keep _ s (execEntryStoPost_keep _ _ _ s))
  | entryTgtResp _ _ _ => exact ran_eq (exec_entryTgtResp _ _ _ s) (ran_of_keep _ s (execEntryTgtResp_keep _ _ _ s))
  | entryIniCmd _ _ _ => exact ran_eq (exec_entryIniCmd _ _ _ s) (ran_of_keep _ s (execEntryIniCmd_keep _ _ _ s))
  | tcpSegmentReceived _ => exact ran_eq (exec_tcpSegmentReceived _ s) (ran_of_keep _ s (execTcpSegmentReceived_keep _ s))
  | retransmissionTimeout _ => exact ran_eq (exec_retransmissionTimeout _ s) (ran_of_keep _ s (execRetransmissionTimeout_keep _ s))
  | capsuleCmd _ => exact ran_eq (exec_capsuleCmd _ s) (ran_of_keep _ s (execCapsuleCmd_keep _ s))
  | capsuleResp _ => exact ran_eq (exec_capsuleResp _ s) (ran_of_keep _ s (execCapsuleResp_keep _ s))
  | h2cData _ => exact ran_eq (exec_h2cData _ s) (ran_of_keep _ s (execH2cData_keep _ s))
  | c2hData _ => exact ran_eq (exec_c2hData _ s) (ran_of_keep _ s (execC2hData_keep _ s))
  | termReq _ => exact ran_eq (exec_termReq _ s) (ran_of_keep _ s (execTermReq_keep _ s))
  | rocePacketReceived _ => exact ran_eq (exec_rocePacketReceived _ s) (ran_of_keep _ s (execRocePacketReceived_keep _ s))
  | cnpReceived _ => exact ran_eq (exec_cnpReceived _ s) (ran_of_keep _ s (execCnpReceived_keep _ s))
  | roceRateRecovery _ => exact ran_eq (exec_roceRateRecovery _ s) (ran_of_keep _ s (execRoceRateRecovery_keep _ s))
  | driveSubmit _ => exact ran_eq (exec_driveSubmit _ s) (ran_of_keep _ s (execDriveSubmit_keep _ s))
  | driveCqPoll _ _ _ _ => exact ran_eq (exec_driveCqPoll _ _ _ _ s) (ran_of_keep _ s (execDriveCqPoll_keep _ _ _ _ s))
  | driveTimeout _ _ => exact ran_eq (exec_driveTimeout _ _ s) (ran_of_keep _ s (execDriveTimeout_keep _ _ s))
  | stoTargetCfg => exact ran_eq (exec_stoTargetCfg s) (ran_of_keep _ s (execStoTargetCfg_keep s))
  | stoNsSet => exact ran_eq (exec_stoNsSet s) (ran_of_keep _ s (execStoNsSet_keep s))
  | stoConnStatus => exact ran_eq (exec_stoConnStatus s) (ran_of_keep _ s (execStoConnStatus_keep s))
  | entryFixEncode _ _ _ => exact ran_eq (exec_entryFixEncode _ _ _ s) (ran_of_keep _ s (execEntryFixEncode_keep _ _ _ s))
  | fixVerifyEntry _ _ _ => exact ran_eq (exec_fixVerifyEntry _ _ _ s) (ran_of_keep _ s (execFixVerifyEntry_keep _ _ _ s))
  | fixRepairEntry _ _ _ => exact ran_eq (exec_fixRepairEntry _ _ _ s) (ran_of_keep _ s (execFixRepairEntry_keep _ _ _ s))
  | entryFixMigrate _ _ _ => exact ran_eq (exec_entryFixMigrate _ _ _ s) (ran_of_keep _ s (execEntryFixMigrate_keep _ _ _ s))
  | fixJobDone _ _ => exact ran_eq (exec_fixJobDone _ _ s) (ran_of_keep _ s (execFixJobDone_keep _ _ s))
  | scrubStripe _ => exact ran_eq (exec_scrubStripe _ s) (ran_of_keep _ s (execScrubStripe_keep _ s))
  | fixVerify => exact ran_eq (exec_fixVerify s) (ran_of_keep _ s (execFixVerify_keep s))
  | fixRepair => exact ran_eq (exec_fixRepair s) (ran_of_keep _ s (execFixRepair_keep s))
  | fixScrubSet => exact ran_eq (exec_fixScrubSet s) (ran_of_keep _ s (execFixScrubSet_keep s))
  | fixRsCfg => exact ran_eq (exec_fixRsCfg s) (ran_of_keep _ s (execFixRsCfg_keep s))
  | tickBoundary => exact ran_eq (exec_tickBoundary s) (ran_of_keep _ s (execTickBoundary_keep s))
  | frameSyncEdge _ => exact ran_eq (exec_frameSyncEdge _ s) (ran_of_keep _ s (execFrameSyncEdge_keep _ s))
  | missedFrame => exact ran_eq (exec_missedFrame s) (ran_of_keep _ s (execMissedFrame_keep s))
  | sgeNop => exact ran_eq (exec_sgeNop s) (ran_of_keep _ s (execSgeNop_keep s))
  | sgeClr => exact ran_eq (exec_sgeClr s) (ran_of_keep _ s (execSgeClr_keep s))
  | sgeMov => exact ran_eq (exec_sgeMov s) (ran_of_keep _ s (execSgeMov_keep s))
  | sgeAdd => exact ran_eq (exec_sgeAdd s) (ran_of_keep _ s (execSgeAdd_keep s))
  | sgeSub => exact ran_eq (exec_sgeSub s) (ran_of_keep _ s (execSgeSub_keep s))
  | sgeNeg => exact ran_eq (exec_sgeNeg s) (ran_of_keep _ s (execSgeNeg_keep s))
  | sgeAbs => exact ran_eq (exec_sgeAbs s) (ran_of_keep _ s (execSgeAbs_keep s))
  | sgeMin => exact ran_eq (exec_sgeMin s) (ran_of_keep _ s (execSgeMin_keep s))
  | sgeMax => exact ran_eq (exec_sgeMax s) (ran_of_keep _ s (execSgeMax_keep s))
  | sgeAsh => exact ran_eq (exec_sgeAsh s) (ran_of_keep _ s (execSgeAsh_keep s))
  | sgeCsel => exact ran_eq (exec_sgeCsel s) (ran_of_keep _ s (execSgeCsel_keep s))
  | sgeClamp => exact ran_eq (exec_sgeClamp s) (ran_of_keep _ s (execSgeClamp_keep s))
  | sgeLdi => exact ran_eq (exec_sgeLdi s) (ran_of_keep _ s (execSgeLdi_keep s))
  | sgeLdc => exact ran_eq (exec_sgeLdc s) (ran_of_keep _ s (execSgeLdc_keep s))
  | sgeRdd => exact ran_eq (exec_sgeRdd s) (ran_of_keep _ s (execSgeRdd_keep s))
  | sgeWrd => exact ran_eq (exec_sgeWrd s) (ran_of_keep _ s (execSgeWrd_keep s))
  | sgeMac => exact ran_eq (exec_sgeMac s) (ran_of_keep _ s (execSgeMac_keep s))
  | sgeMaca => exact ran_eq (exec_sgeMaca s) (ran_of_keep _ s (execSgeMaca_keep s))
  | sgeMula => exact ran_eq (exec_sgeMula s) (ran_of_keep _ s (execSgeMula_keep s))
  | sgeMulab => exact ran_eq (exec_sgeMulab s) (ran_of_keep _ s (execSgeMulab_keep s))
  | sgeIn => exact ran_eq (exec_sgeIn s) (ran_of_keep _ s (execSgeIn_keep s))
  | sgeOut => exact ran_eq (exec_sgeOut s) (ran_of_keep _ s (execSgeOut_keep s))
  | sgeRes => exact ran_eq (exec_sgeRes s) (ran_of_keep _ s (execSgeRes_keep s))
  | sgeRep => exact ran_eq (exec_sgeRep s) (ran_of_keep _ s (execSgeRep_keep s))
  | sgeProgramLoad => exact ran_eq (exec_sgeProgramLoad s) (ran_of_keep _ s (execSgeProgramLoad_keep s))
  | sgeProgramSwap => exact ran_eq (exec_sgeProgramSwap s) (ran_of_keep _ s (execSgeProgramSwap_keep s))
  | sgeTickSet => exact ran_eq (exec_sgeTickSet s) (ran_of_keep _ s (execSgeTickSet_keep s))
  | sgeStrayCountRead _ => exact ran_eq (exec_sgeStrayCountRead _ s) (ran_of_keep _ s (execSgeStrayCountRead_keep _ s))
  | sgeMissCountRead _ => exact ran_eq (exec_sgeMissCountRead _ s) (ran_of_keep _ s (execSgeMissCountRead_keep _ s))
  | tdmFrameComplete _ _ => exact ran_eq (exec_tdmFrameComplete _ _ s) (ran_of_keep _ s (execTdmFrameComplete_keep _ _ s))
  | adcConversion _ _ => exact ran_eq (exec_adcConversion _ _ s) (ran_of_keep _ s (execAdcConversion_keep _ _ s))
  | captureEdge _ _ _ => exact ran_eq (exec_captureEdge _ _ _ s) (ran_of_keep _ s (execCaptureEdge_keep _ _ _ s))
  | pwmPeriodStart _ => exact ran_eq (exec_pwmPeriodStart _ s) (ran_of_keep _ s (execPwmPeriodStart_keep _ s))
  | pourCopyDone => exact ran_eq (exec_pourCopyDone s) (ran_of_keep _ s (execPourCopyDone_keep s))
  | sioPourValue _ _ => exact ran_eq (exec_sioPourValue _ _ s) (ran_of_keep _ s (execSioPourValue_keep _ _ s))
  | pourCommit _ => exact ran_eq (exec_pourCommit _ s) (ran_of_keep _ s (execPourCommit_keep _ s))
  | pourDiscard _ => exact ran_eq (exec_pourDiscard _ s) (ran_of_keep _ s (execPourDiscard_keep _ s))
  | sgePourStage => exact ran_eq (exec_sgePourStage s) (ran_of_keep _ s (execSgePourStage_keep s))
  | sgePourCommit => exact ran_eq (exec_sgePourCommit s) (ran_of_keep _ s (execSgePourCommit_keep s))
  | sgeSlotRead => exact ran_eq (exec_sgeSlotRead s) (ran_of_keep _ s (execSgeSlotRead_keep s))
  | fenAdd _ => exact ran_eq (exec_fenAdd _ s) (ran_of_keep _ s (execFenAdd_keep _ s))
  | fenSub _ => exact ran_eq (exec_fenSub _ s) (ran_of_keep _ s (execFenSub_keep _ s))
  | fenAnd _ => exact ran_eq (exec_fenAnd _ s) (ran_of_keep _ s (execFenAnd_keep _ s))
  | fenOr _ => exact ran_eq (exec_fenOr _ s) (ran_of_keep _ s (execFenOr_keep _ s))
  | fenXor _ => exact ran_eq (exec_fenXor _ s) (ran_of_keep _ s (execFenXor_keep _ s))
  | fenSlt _ => exact ran_eq (exec_fenSlt _ s) (ran_of_keep _ s (execFenSlt_keep _ s))
  | fenSltu _ => exact ran_eq (exec_fenSltu _ s) (ran_of_keep _ s (execFenSltu_keep _ s))
  | fenMul _ => exact ran_eq (exec_fenMul _ s) (ran_of_keep _ s (execFenMul_keep _ s))
  | fenMulhu _ => exact ran_eq (exec_fenMulhu _ s) (ran_of_keep _ s (execFenMulhu_keep _ s))
  | fenShli _ => exact ran_eq (exec_fenShli _ s) (ran_of_keep _ s (execFenShli_keep _ s))
  | fenShri _ => exact ran_eq (exec_fenShri _ s) (ran_of_keep _ s (execFenShri_keep _ s))
  | fenSari _ => exact ran_eq (exec_fenSari _ s) (ran_of_keep _ s (execFenSari_keep _ s))
  | fenBeq _ => exact ran_eq (exec_fenBeq _ s) (ran_of_keep _ s (execFenBeq_keep _ s))
  | fenBne _ => exact ran_eq (exec_fenBne _ s) (ran_of_keep _ s (execFenBne_keep _ s))
  | fenBlt _ => exact ran_eq (exec_fenBlt _ s) (ran_of_keep _ s (execFenBlt_keep _ s))
  | fenBge _ => exact ran_eq (exec_fenBge _ s) (ran_of_keep _ s (execFenBge_keep _ s))
  | fenBltu _ => exact ran_eq (exec_fenBltu _ s) (ran_of_keep _ s (execFenBltu_keep _ s))
  | fenBgeu _ => exact ran_eq (exec_fenBgeu _ s) (ran_of_keep _ s (execFenBgeu_keep _ s))
  | fenNot _ => exact ran_eq (exec_fenNot _ s) (ran_of_keep _ s (execFenNot_keep _ s))
  | fenNeg _ => exact ran_eq (exec_fenNeg _ s) (ran_of_keep _ s (execFenNeg_keep _ s))
  | fenJr _ => exact ran_eq (exec_fenJr _ s) (ran_of_keep _ s (execFenJr_keep _ s))
  | fenCallr _ => exact ran_eq (exec_fenCallr _ s) (ran_of_keep _ s (execFenCallr_keep _ s))
  | fenRet _ => exact ran_eq (exec_fenRet _ s) (ran_of_keep _ s (execFenRet_keep _ s))
  | fenPush _ => exact ran_eq (exec_fenPush _ s) (ran_of_keep _ s (execFenPush_keep _ s))
  | fenPop _ => exact ran_eq (exec_fenPop _ s) (ran_of_keep _ s (execFenPop_keep _ s))
  | fenYield _ => exact ran_eq (exec_fenYield _ s) (ran_of_keep _ s (execFenYield_keep _ s))
  | fenWait _ => exact ran_eq (exec_fenWait _ s) (ran_of_keep _ s (execFenWait_keep _ s))
  | fenExit _ => exact ran_eq (exec_fenExit _ s) (ran_of_keep _ s (execFenExit_keep _ s))
  | fenTrap _ => exact ran_eq (exec_fenTrap _ s) (ran_of_keep _ s (execFenTrap_keep _ s))
  | fenAddi _ => exact ran_eq (exec_fenAddi _ s) (ran_of_keep _ s (execFenAddi_keep _ s))
  | fenAndi _ => exact ran_eq (exec_fenAndi _ s) (ran_of_keep _ s (execFenAndi_keep _ s))
  | fenOri _ => exact ran_eq (exec_fenOri _ s) (ran_of_keep _ s (execFenOri_keep _ s))
  | fenXori _ => exact ran_eq (exec_fenXori _ s) (ran_of_keep _ s (execFenXori_keep _ s))
  | fenSlti _ => exact ran_eq (exec_fenSlti _ s) (ran_of_keep _ s (execFenSlti_keep _ s))
  | fenSltiu _ => exact ran_eq (exec_fenSltiu _ s) (ran_of_keep _ s (execFenSltiu_keep _ s))
  | fenLd _ => exact ran_eq (exec_fenLd _ s) (ran_of_keep _ s (execFenLd_keep _ s))
  | fenSt _ => exact ran_eq (exec_fenSt _ s) (ran_of_keep _ s (execFenSt_keep _ s))
  | fenLdp _ => exact ran_eq (exec_fenLdp _ s) (ran_of_keep _ s (execFenLdp_keep _ s))
  | fenXld _ => exact ran_eq (exec_fenXld _ s) (ran_of_keep _ s (execFenXld_keep _ s))
  | fenXst _ => exact ran_eq (exec_fenXst _ s) (ran_of_keep _ s (execFenXst_keep _ s))
  | deviceAccessComplete _ => exact ran_eq (exec_deviceAccessComplete _ s) (ran_of_keep _ s (execDeviceAccessComplete_keep _ s))
  | deviceAccessTimeout _ => exact ran_eq (exec_deviceAccessTimeout _ s) (ran_of_keep _ s (execDeviceAccessTimeout_keep _ s))
  | fenRdl _ => exact ran_eq (exec_fenRdl _ s) (ran_of_keep _ s (execFenRdl_keep _ s))
  | fenWrl _ => exact ran_eq (exec_fenWrl _ s) (ran_of_keep _ s (execFenWrl_keep _ s))
  | fenJmp _ => exact ran_eq (exec_fenJmp _ s) (ran_of_keep _ s (execFenJmp_keep _ s))
  | fenCall _ => exact ran_eq (exec_fenCall _ s) (ran_of_keep _ s (execFenCall_keep _ s))
  | timeSliceExpiry _ => exact ran_eq (exec_timeSliceExpiry _ s) (ran_of_keep _ s (execTimeSliceExpiry_keep _ s))
  | eventPost _ _ _ => exact ran_eq (exec_eventPost _ _ _ s) (ran_of_keep _ s (execEventPost_keep _ _ _ s))
  | taskCreate _ _ _ _ _ _ => exact ran_eq (exec_taskCreate _ _ _ _ _ _ s) (ran_of_keep _ s (execTaskCreate_keep _ _ _ _ _ _ s))
  | taskCancel _ _ _ => exact ran_eq (exec_taskCancel _ _ _ s) (ran_of_keep _ s (execTaskCancel_keep _ _ _ s))
  | wdnEvpost _ _ _ _ => exact ran_eq (exec_wdnEvpost _ _ _ _ s) (ran_of_keep _ s (execWdnEvpost_keep _ _ _ _ s))
  | wdnWdogKick _ => exact ran_eq (exec_wdnWdogKick _ s) (ran_of_keep _ s (execWdnWdogKick_keep _ s))
  | wdnEvdropRead _ => exact ran_eq (exec_wdnEvdropRead _ s) (ran_of_keep _ s (execWdnEvdropRead_keep _ s))
  | timerArm _ _ _ => exact ran_eq (exec_timerArm _ _ _ s) (ran_of_keep _ s (execTimerArm_keep _ _ _ s))
  | timerExpiry _ _ => exact ran_eq (exec_timerExpiry _ _ s) (ran_of_keep _ s (execTimerExpiry_keep _ _ s))
  | watchdogExpiry _ _ => exact ran_eq (exec_watchdogExpiry _ _ s) (ran_of_keep _ s (execWatchdogExpiry_keep _ _ s))
  | lckAcq _ _ => exact ran_eq (exec_lckAcq _ _ s) (ran_of_keep _ s (execLckAcq_keep _ _ s))
  | lckRel _ _ => exact ran_eq (exec_lckRel _ _ s) (ran_of_keep _ s (execLckRel_keep _ _ s))
  | batScan _ _ _ _ => exact ran_eq (exec_batScan _ _ _ _ s) (ran_of_keep _ s (execBatScan_keep _ _ _ _ s))
  | coulombSample _ => exact ran_eq (exec_coulombSample _ s) (ran_of_keep _ s (execCoulombSample_keep _ s))
  | ocd _ => exact ran_eq (exec_ocd _ s) (ran_of_keep _ s (execOcd_keep _ s))
  | openWireTest _ => exact ran_eq (exec_openWireTest _ s) (ran_of_keep _ s (execOpenWireTest_keep _ s))
  | openWirePeriod => exact ran_eq (exec_openWirePeriod s) (ran_of_keep _ s (execOpenWirePeriod_keep s))
  | restReached => exact ran_eq (exec_restReached s) (ran_of_keep _ s (execRestReached_keep s))
  | rebaseEvaluation => exact ran_eq (exec_rebaseEvaluation s) (ran_of_keep _ s (execRebaseEvaluation_keep s))
  | chargeUpdate _ => exact ran_eq (exec_chargeUpdate _ s) (ran_of_keep _ s (execChargeUpdate_keep _ s))
  | chargerRetry _ => exact ran_eq (exec_chargerRetry _ s) (ran_of_keep _ s (execChargerRetry_keep _ s))
  | batStatus => exact ran_eq (exec_batStatus s) (ran_of_keep _ s (execBatStatus_keep s))
  | batLimitsSet => exact ran_eq (exec_batLimitsSet s) (ran_of_keep _ s (execBatLimitsSet_keep s))
  | batOpenWireTest => exact ran_eq (exec_batOpenWireTest s) (ran_of_keep _ s (execBatOpenWireTest_keep s))
  | batChargerSet => exact ran_eq (exec_batChargerSet s) (ran_of_keep _ s (execBatChargerSet_keep s))
  | pltSetpointSet => exact ran_eq (exec_pltSetpointSet s) (ran_of_keep _ s (execPltSetpointSet_keep s))
  | setpointLegCommit _ => exact ran_eq (exec_setpointLegCommit _ s) (ran_of_keep _ s (execSetpointLegCommit_keep _ s))
  | pltStatus => exact ran_eq (exec_pltStatus s) (ran_of_keep _ s (execPltStatus_keep s))
  | pltStop => exact ran_eq (exec_pltStop s) (ran_of_keep _ s (execPltStop_keep s))
  | stopCtlAssert => exact ran_eq (exec_stopCtlAssert s) (ran_of_keep _ s (execStopCtlAssert_keep s))
  | stopCtlRelease _ => exact ran_eq (exec_stopCtlRelease _ s) (ran_of_keep _ s (execStopCtlRelease_keep _ s))
  | canCfg => exact ran_eq (exec_canCfg s) (ran_of_keep _ s (execCanCfg_keep s))
  | canFrameReceived _ _ _ _ _ _ _ => exact ran_eq (exec_canFrameReceived _ _ _ _ _ _ _ s) (ran_of_keep _ s (execCanFrameReceived_keep _ _ _ _ _ _ _ s))
  | canTxDone => exact ran_eq (exec_canTxDone s) (ran_of_keep _ s (execCanTxDone_keep s))
  | canErrorStateChange _ _ => exact ran_eq (exec_canErrorStateChange _ _ s) (ran_of_keep _ s (execCanErrorStateChange_keep _ _ s))
  | canRecovered => exact ran_eq (exec_canRecovered s) (ran_of_keep _ s (execCanRecovered_keep s))
  | canTxreq _ _ => exact ran_eq (exec_canTxreq _ _ s) (ran_of_keep _ s (execCanTxreq_keep _ _ s))
  | canTxabort _ _ => exact ran_eq (exec_canTxabort _ _ s) (ran_of_keep _ s (execCanTxabort_keep _ _ s))
  | canRecover => exact ran_eq (exec_canRecover s) (ran_of_keep _ s (execCanRecover_keep s))
  | canRxLostRead _ => exact ran_eq (exec_canRxLostRead _ s) (ran_of_keep _ s (execCanRxLostRead_keep _ s))
  | carriageSegment _ _ => exact ran_eq (exec_carriageSegment _ _ s) (ran_of_keep _ s (execCarriageSegment_keep _ _ s))
  | carriageGapTimeout _ => exact ran_eq (exec_carriageGapTimeout _ s) (ran_of_keep _ s (execCarriageGapTimeout_keep _ s))
  | lblInventory _ => exact ran_eq (exec_lblInventory _ s) (ran_of_keep _ s (execLblInventory_keep _ s))
  | lblStayQuiet _ => exact ran_eq (exec_lblStayQuiet _ s) (ran_of_keep _ s (execLblStayQuiet_keep _ s))
  | lblReadSingleBlock _ _ => exact ran_eq (exec_lblReadSingleBlock _ _ s) (ran_of_keep _ s (execLblReadSingleBlock_keep _ _ s))
  | lblWriteSingleBlock _ _ => exact ran_eq (exec_lblWriteSingleBlock _ _ s) (ran_of_keep _ s (execLblWriteSingleBlock_keep _ _ s))
  | lblLockBlock _ _ => exact ran_eq (exec_lblLockBlock _ _ s) (execLblLockBlock_grew _ _ s)
  | lblReadMultipleBlocks _ _ => exact ran_eq (exec_lblReadMultipleBlocks _ _ s) (ran_of_keep _ s (execLblReadMultipleBlocks_keep _ _ s))
  | lblWriteMultipleBlocks _ _ => exact ran_eq (exec_lblWriteMultipleBlocks _ _ s) (ran_of_keep _ s (execLblWriteMultipleBlocks_keep _ _ s))
  | lblSelect _ => exact ran_eq (exec_lblSelect _ s) (ran_of_keep _ s (execLblSelect_keep _ s))
  | lblResetToReady _ => exact ran_eq (exec_lblResetToReady _ s) (ran_of_keep _ s (execLblResetToReady_keep _ s))
  | lblGetSystemInfo _ => exact ran_eq (exec_lblGetSystemInfo _ s) (ran_of_keep _ s (execLblGetSystemInfo_keep _ s))
  | lblGetMultipleBlockSecurityStatus _ _ => exact ran_eq (exec_lblGetMultipleBlockSecurityStatus _ _ s) (ran_of_keep _ s (execLblGetMultipleBlockSecurityStatus_keep _ _ s))
  | extendedReadSingleBlock _ _ => exact ran_eq (exec_extendedReadSingleBlock _ _ s) (ran_of_keep _ s (execExtendedReadSingleBlock_keep _ _ s))
  | extendedWriteSingleBlock _ _ => exact ran_eq (exec_extendedWriteSingleBlock _ _ s) (ran_of_keep _ s (execExtendedWriteSingleBlock_keep _ _ s))
  | extendedLockSingleBlock _ _ => exact ran_eq (exec_extendedLockSingleBlock _ _ s) (execExtendedLockSingleBlock_grew _ _ s)
  | extendedReadMultipleBlocks _ _ => exact ran_eq (exec_extendedReadMultipleBlocks _ _ s) (ran_of_keep _ s (execExtendedReadMultipleBlocks_keep _ _ s))
  | extendedWriteMultipleBlocks _ _ => exact ran_eq (exec_extendedWriteMultipleBlocks _ _ s) (ran_of_keep _ s (execExtendedWriteMultipleBlocks_keep _ _ s))
  | extendedGetSystemInfo _ _ => exact ran_eq (exec_extendedGetSystemInfo _ _ s) (ran_of_keep _ s (execExtendedGetSystemInfo_keep _ _ s))
  | unsupportedFieldCommand _ => exact ran_eq (exec_unsupportedFieldCommand _ s) (ran_of_keep _ s (execUnsupportedFieldCommand_keep _ s))
  | mbxSubmit _ _ => exact ran_eq (exec_mbxSubmit _ _ s) (ran_of_keep _ s (execMbxSubmit_keep _ _ s))
  | lblWake _ => exact ran_eq (exec_lblWake _ s) (ran_of_keep _ s (execLblWake_keep _ s))
  | labelDeviceRead _ => exact ran_eq (exec_labelDeviceRead _ s) (ran_of_keep _ s (execLabelDeviceRead_keep _ s))
  | labelDeviceWrite _ => exact ran_eq (exec_labelDeviceWrite _ s) (ran_of_keep _ s (execLabelDeviceWrite_keep _ s))
  | labelDeferredRetry => exact ran_eq (exec_labelDeferredRetry s) (ran_of_keep _ s (execLabelDeferredRetry_keep s))
  | labelDeferTimeout => exact ran_eq (exec_labelDeferTimeout s) (ran_of_keep _ s (execLabelDeferTimeout_keep s))
  | labelWriteCommit => exact ran_eq (exec_labelWriteCommit s) (ran_of_keep _ s (execLabelWriteCommit_keep s))
  | mirrorTimeout => exact ran_eq (exec_mirrorTimeout s) (ran_of_keep _ s (execMirrorTimeout_keep s))
  | xspMasterRead _ => exact ran_eq (exec_xspMasterRead _ s) (ran_of_keep _ s (execXspMasterRead_keep _ s))
  | xspMasterWrite _ => exact ran_eq (exec_xspMasterWrite _ s) (ran_of_keep _ s (execXspMasterWrite_keep _ s))
  | xspMasterTransferDone _ => exact ran_eq (exec_xspMasterTransferDone _ s) (ran_of_keep _ s (execXspMasterTransferDone_keep _ s))
  | xspMasterTimeout => exact ran_eq (exec_xspMasterTimeout s) (ran_of_keep _ s (execXspMasterTimeout_keep s))
  | xspPktWrite _ _ => exact ran_eq (exec_xspPktWrite _ _ s) (ran_of_keep _ s (execXspPktWrite_keep _ _ s))
  | xspResultRead _ _ => exact ran_eq (exec_xspResultRead _ _ s) (ran_of_keep _ s (execXspResultRead_keep _ _ s))
  | xspLockAcq _ => exact ran_eq (exec_xspLockAcq _ s) (ran_of_keep _ s (execXspLockAcq_keep _ s))
  | xspLockRel _ => exact ran_eq (exec_xspLockRel _ s) (ran_of_keep _ s (execXspLockRel_keep _ s))
  | xspStatus _ _ => exact ran_eq (exec_xspStatus _ _ s) (ran_of_keep _ s (execXspStatus_keep _ _ s))
  | xspTargetReset _ => exact ran_eq (exec_xspTargetReset _ s) (ran_of_keep _ s (execXspTargetReset_keep _ s))
  | xspSelectRelease => exact ran_eq (exec_xspSelectRelease s) (ran_of_keep _ s (execXspSelectRelease_keep s))
  | latticeFrameReceived _ _ _ => exact ran_eq (exec_latticeFrameReceived _ _ _ s) (ran_of_keep _ s (execLatticeFrameReceived_keep _ _ _ s))
  | commandCarriage => exact ran_eq (exec_commandCarriage s) (ran_of_keep _ s (execCommandCarriage_keep s))
  | latticeFrameSlot _ => exact ran_eq (exec_latticeFrameSlot _ s) (ran_of_keep _ s (execLatticeFrameSlot_keep _ s))
  | symbolLockTimeout _ => exact ran_eq (exec_symbolLockTimeout _ s) (ran_of_keep _ s (execSymbolLockTimeout_keep _ s))
  | trainingTimeout _ => exact ran_eq (exec_trainingTimeout _ s) (ran_of_keep _ s (execTrainingTimeout_keep _ s))
  | linkRetrain _ => exact ran_eq (exec_linkRetrain _ s) (ran_of_keep _ s (execLinkRetrain_keep _ s))
  | helloTimer _ => exact ran_eq (exec_helloTimer _ s) (ran_of_keep _ s (execHelloTimer_keep _ s))
  | deadTimer _ => exact ran_eq (exec_deadTimer _ s) (ran_of_keep _ s (execDeadTimer_keep _ s))
  | replayTimer _ => exact ran_eq (exec_replayTimer _ s) (ran_of_keep _ s (execReplayTimer_keep _ s))
  | qualityWindow _ => exact ran_eq (exec_qualityWindow _ s) (ran_of_keep _ s (execQualityWindow_keep _ s))
  | tunnelFrameReceived _ _ => exact ran_eq (exec_tunnelFrameReceived _ _ s) (ran_of_keep _ s (execTunnelFrameReceived_keep _ _ s))
  | tunnelFlush _ => exact ran_eq (exec_tunnelFlush _ s) (ran_of_keep _ s (execTunnelFlush_keep _ s))
  | lsaReceived => exact ran_eq (exec_lsaReceived s) (ran_of_keep _ s (execLsaReceived_keep s))
  | lsaOriginate => exact ran_eq (exec_lsaOriginate s) (ran_of_keep _ s (execLsaOriginate_keep s))
  | lsaAgeExpiry _ => exact ran_eq (exec_lsaAgeExpiry _ s) (ran_of_keep _ s (execLsaAgeExpiry_keep _ s))
  | vertexClaimHeld => exact ran_eq (exec_vertexClaimHeld s) (ran_of_keep _ s (execVertexClaimHeld_keep s))
  | routeRecompute => exact ran_eq (exec_routeRecompute s) (ran_of_keep _ s (execRouteRecompute_keep s))
  | handoverStateReceived _ _ => exact ran_eq (exec_handoverStateReceived _ _ s) (ran_of_keep _ s (execHandoverStateReceived_keep _ _ s))
  | handoverStop => exact ran_eq (exec_handoverStop s) (ran_of_keep _ s (execHandoverStop_keep s))
  | handoverWorkDeadline => exact ran_eq (exec_handoverWorkDeadline s) (ran_of_keep _ s (execHandoverWorkDeadline_keep s))
  | handoverStopTimeout => exact ran_eq (exec_handoverStopTimeout s) (ran_of_keep _ s (execHandoverStopTimeout_keep s))
  | handoverSwitch => exact ran_eq (exec_handoverSwitch s) (ran_of_keep _ s (execHandoverSwitch_keep s))
  | handoverRelease => exact ran_eq (exec_handoverRelease s) (ran_of_keep _ s (execHandoverRelease_keep s))
  | latStatus => exact ran_eq (exec_latStatus s) (ran_of_keep _ s (execLatStatus_keep s))
  | latVertexSet => exact ran_eq (exec_latVertexSet s) (ran_of_keep _ s (execLatVertexSet_keep s))
  | latStackJoin => exact ran_eq (exec_latStackJoin s) (ran_of_keep _ s (execLatStackJoin_keep s))
  | latStackLeave => exact ran_eq (exec_latStackLeave s) (ran_of_keep _ s (execLatStackLeave_keep s))
  | latHandover => exact ran_eq (exec_latHandover s) (ran_of_keep _ s (execLatHandover_keep s))
  | secureBoot => exact ran_eq (exec_secureBoot s) (ran_of_keep _ s (execSecureBoot_keep s))
  | bootDone => exact ran_eq (exec_bootDone s) (ran_of_keep _ s (execBootDone_keep s))
  | confirmTimerExpiry _ => exact ran_eq (exec_confirmTimerExpiry _ s) (ran_of_keep _ s (execConfirmTimerExpiry_keep _ s))
  | lcyStateGet => exact ran_eq (exec_lcyStateGet s) (ran_of_keep _ s (execLcyStateGet_keep s))
  | lcyTransition _ => exact ran_eq (exec_lcyTransition _ s) (execLcyTransition_grew _ s)
  | transitionWStart _ => exact ran_eq (exec_transitionWStart _ s) (ran_of_keep _ s (execTransitionWStart_keep _ s))
  | otpSettingsWrite _ => exact ran_eq (exec_otpSettingsWrite _ s) (execOtpSettingsWrite_grew _ s)
  | fwImageLoad => exact ran_eq (exec_fwImageLoad s) (ran_of_keep _ s (execFwImageLoad_keep s))
  | fwImageActivate _ => exact ran_eq (exec_fwImageActivate _ s) (execFwImageActivate_grew _ s)
  | activationWStart _ => exact ran_eq (exec_activationWStart _ s) (ran_of_keep _ s (execActivationWStart_keep _ s))
  | trustRoll _ => exact ran_eq (exec_trustRoll _ s) (execTrustRoll_grew _ s)
  | rprStatus => exact ran_eq (exec_rprStatus s) (ran_of_keep _ s (execRprStatus_keep s))
  | rprFence _ => exact ran_eq (exec_rprFence _ s) (execRprFence_grew _ s)
  | rprUnfence _ => exact ran_eq (exec_rprUnfence _ s) (execRprUnfence_grew _ s)
  | rprSpareSwap => exact ran_eq (exec_rprSpareSwap s) (ran_of_keep _ s (execRprSpareSwap_keep s))
  | autoFence _ _ => exact ran_eq (exec_autoFence _ _ s) (ran_of_keep _ s (execAutoFence_keep _ _ s))
  | knownAnswerTest _ _ => exact ran_eq (exec_knownAnswerTest _ _ s) (ran_of_keep _ s (execKnownAnswerTest_keep _ _ s))
  | cntBankEnable => exact ran_eq (exec_cntBankEnable s) (ran_of_keep _ s (execCntBankEnable_keep s))
  | cntBankDisable => exact ran_eq (exec_cntBankDisable s) (ran_of_keep _ s (execCntBankDisable_keep s))
  | cntSnapshot => exact ran_eq (exec_cntSnapshot s) (ran_of_keep _ s (execCntSnapshot_keep s))
  | cntRead => exact ran_eq (exec_cntRead s) (ran_of_keep _ s (execCntRead_keep s))
  | jtagExtest => exact ran_eq (exec_jtagExtest s) (ran_of_keep _ s (execJtagExtest_keep s))
  | jtagIdcode => exact ran_eq (exec_jtagIdcode s) (ran_of_keep _ s (execJtagIdcode_keep s))
  | jtagSamplePreload => exact ran_eq (exec_jtagSamplePreload s) (ran_of_keep _ s (execJtagSamplePreload_keep s))
  | jtagClamp => exact ran_eq (exec_jtagClamp s) (ran_of_keep _ s (execJtagClamp_keep s))
  | jtagHighz => exact ran_eq (exec_jtagHighz s) (ran_of_keep _ s (execJtagHighz_keep s))
  | jtagExtestPulse => exact ran_eq (exec_jtagExtestPulse s) (ran_of_keep _ s (execJtagExtestPulse_keep s))
  | jtagExtestTrain => exact ran_eq (exec_jtagExtestTrain s) (ran_of_keep _ s (execJtagExtestTrain_keep s))
  | jtagBypass => exact ran_eq (exec_jtagBypass s) (ran_of_keep _ s (execJtagBypass_keep s))
  | dbgAccess => exact ran_eq (exec_dbgAccess s) (ran_of_keep _ s (execDbgAccess_keep s))
  | debugDeviceRead _ _ => exact ran_eq (exec_debugDeviceRead _ _ s) (ran_of_keep _ s (execDebugDeviceRead_keep _ _ s))
  | debugDeviceWrite _ _ _ => exact ran_eq (exec_debugDeviceWrite _ _ _ s) (ran_of_keep _ s (execDebugDeviceWrite_keep _ _ _ s))
  | debugWardenMemoryRead _ _ _ _ => exact ran_eq (exec_debugWardenMemoryRead _ _ _ _ s) (ran_of_keep _ s (execDebugWardenMemoryRead_keep _ _ _ _ s))
  | tapReset => exact ran_eq (exec_tapReset s) (ran_of_keep _ s (execTapReset_keep s))
  | registerWrite _ _ _ _ => exact ran_eq (exec_registerWrite _ _ _ _ s) (ran_of_keep _ s (execRegisterWrite_keep _ _ _ _ s))
  | aonPowerLoss => exact ran_eq (exec_aonPowerLoss s) (ran_of_keep _ s (execAonPowerLoss_keep s))
  | vinOkLoss => exact ran_eq (exec_vinOkLoss s) (ran_of_keep _ s (execVinOkLoss_keep s))
  | ibPgoodHigh _ _ _ => exact ran_eq (exec_ibPgoodHigh _ _ _ s) (ran_of_keep _ s (execIbPgoodHigh_keep _ _ _ s))
  | linkDlActive _ _ _ => exact ran_eq (exec_linkDlActive _ _ _ s) (ran_of_keep _ s (execLinkDlActive_keep _ _ _ s))
  | symbolLock _ => exact ran_eq (exec_symbolLock _ s) (ran_of_keep _ s (execSymbolLock_keep _ s))
  | roceAckTimeout _ => exact ran_eq (exec_roceAckTimeout _ s) (ran_of_keep _ s (execRoceAckTimeout_keep _ s))
  | roleMoveComplete _ _ => exact ran_eq (exec_roleMoveComplete _ _ s) (execRoleMoveComplete_grew _ _ s)
  | ddrSpent _ _ => exact ran_eq (exec_ddrSpent _ _ s) (ran_of_keep _ s (execDdrSpent_keep _ _ s))
  | readerField _ => exact ran_eq (exec_readerField _ s) (ran_of_keep _ s (execReaderField_keep _ s))

end Sys2Proof.Machine
end

