-- ==== Sys2Proof/Laws/Ops.lean ====
section
/-!
SUPPORT. Sys2Proof/Laws/Ops.lean: what the shared operations can do, one lemma each, to be cited instead of their definitions.
-/
namespace Sys2Proof.Machine
open Sys2Proof

/-! ### Control -/

theorem whenS_true (f : State → State) (s : State) : whenS true f s = f s := rfl
theorem whenS_false (f : State → State) (s : State) : whenS false f s = s := rfl
theorem forEach_cons {α : Type} (a : α) (l : List α) (f : α → State → State) (s : State) : forEach (a :: l) f s = forEach l f (f a s) := rfl
/-- What each turn of a loop keeps, the loop keeps. -/
theorem forEach_ind {α : Type} (P : State → Prop) (l : List α) (f : α → State → State) (s : State) (h : P s) (k : ∀ a s, P s → P (f a s)) :
    P (forEach l f s) := by
  induction l generalizing s with
  | nil => exact h
  | cons a t ih => exact ih (f a s) (k a s h)

/-! ### Free values (log 3) -/

theorem freeNat_spec (n : Nat) (s : State) : (freeNat n s).2 = { s with free := s.free + 1 } := rfl
theorem freeNat_lt (n : Nat) (s : State) (h : 0 < n) : (freeNat n s).1 < n := Nat.mod_lt _ h
theorem freeBytes_spec (n : Nat) (s : State) : (freeBytes n s).2 = { s with free := s.free + 1 } := rfl
theorem freeBytes_length (n : Nat) (s : State) : (freeBytes n s).1.length = n := by
  simp [freeBytes, zeros]

/-! ### Records, counters and messages (R63, R64, R220, R989) -/

/-- t differs from s in the log, the PCIe interface, the counters and what is on the interfaces only. -/
def State.Reported (s t : State) : Prop := ∃ l p c o, t = { s with log := l, pce := p, cnt := c, out := o }
theorem State.Reported.refl (s : State) : s.Reported s := ⟨s.log, s.pce, s.cnt, s.out, rfl⟩
theorem State.Reported.trans {a b c : State} (h : a.Reported b) (k : b.Reported c) : a.Reported c := by
  obtain ⟨l, p, n, o, rfl⟩ := h; obtain ⟨l', p', n', o', rfl⟩ := k; exact ⟨l', p', n', o', rfl⟩
theorem emit_spec (e : Emission) (s : State) : s.Reported (emit e s) := ⟨s.log, s.pce, s.cnt, _, rfl⟩
theorem countEv_spec (g sc c n : Nat) (s : State) : s.Reported (countEv g sc c n s) := by
  unfold countEv; dsimp only; split
  · exact ⟨s.log, s.pce, _, s.out, rfl⟩
  · exact .refl s
theorem modVec_spec (f v : Nat) (g : MsixVec → MsixVec) (s : State) : s.Reported (modVec f v g s) := ⟨s.log, _, s.cnt, s.out, rfl⟩
theorem sendMsix_spec (f v : Nat) (s : State) : s.Reported (sendMsix f v s) := by
  unfold sendMsix; split
  · exact .refl s
  · split
    · exact (emit_spec _ s).trans (countEv_spec ..)
    · exact modVec_spec ..
theorem mgtEvent_spec (b : Nat) (s : State) : s.Reported (mgtEvent b s) := by
  have h : s.Reported { s with pce := { s.pce with event := s.pce.event ||| b } } := ⟨s.log, _, s.cnt, s.out, rfl⟩
  unfold mgtEvent whenS; dsimp only; split
  · exact h.trans (sendMsix_spec ..)
  · exact h
theorem logEvent_spec (src code : Nat) (d : Bytes) (s : State) : s.Reported (logEvent src code d s) := by
  unfold logEvent; split
  · dsimp only
    have h (l : EventLog) : s.Reported { s with log := l } := ⟨l, s.pce, s.cnt, s.out, rfl⟩
    unfold whenS; split
    · exact (h _).trans (mgtEvent_spec ..)
    · exact h _
  · exact .refl s
theorem logLimited_spec (src code key n ivl : Nat) (d : Bytes) (s : State) : s.Reported (logLimited src code key n ivl d s) := by
  unfold logLimited; dsimp only; split
  · have h (l : EventLog) : s.Reported { s with log := l } := ⟨l, s.pce, s.cnt, s.out, rfl⟩
    exact (h _).trans (logEvent_spec ..)
  · exact .refl s

/-! ### Domains -/

/-- A domain takes its new value; the memory of one that is switched off is wiped (R30); nothing else changes. -/
theorem setDomain_spec (d : Nat) (v : Domain) (s : State) :
    ∃ m, setDomain d v s = { s with dom := tput {} s.dom d v, mem := m } ∧
      (m = s.mem ∨ ∃ r, memRange d = some r ∧ m = s.mem.wipe r.1 r.2) := by
  unfold setDomain; dsimp only
  split
  · split
    · exact ⟨_, rfl, .inr ⟨_, by assumption, rfl⟩⟩
    · exact ⟨s.mem, rfl, .inl rfl⟩
  · exact ⟨s.mem, rfl, .inl rfl⟩

/-! ### Numbers of the signal engine (R605, R606) -/

theorem clampI_range (lo hi x : Int) (h : lo ≤ hi) : lo ≤ clampI lo hi x ∧ clampI lo hi x ≤ hi := by
  unfold clampI; omega
theorem clampI_id (lo hi x : Int) (a : lo ≤ x) (b : x ≤ hi) : clampI lo hi x = x := by unfold clampI; omega
theorem conv_range (x : Int) : -(2 ^ 31) ≤ (conv x).1 ∧ (conv x).1 ≤ 2 ^ 31 - 1 := by
  unfold conv; exact clampI_range _ _ _ (by decide)

/-! ### Hardware locks (R720-R723) -/

/-- LCK_ACQ answers the holder, and writes the lock only when nobody holds it. -/
theorem lockAcquire_spec (h n : Nat) (s : State) :
    ((s.lock n).st = 1 ∧ (lockAcquire h n s).2 = s) ∨ ((s.lock n).st ≠ 1 ∧ (lockAcquire h n s).2 = setLock n ⟨1, h, s.holderEpoch h⟩ s) := by
  by_cases e : (s.lock n).st = 1
  · exact .inl ⟨e, by simp [lockAcquire, e]⟩
  · exact .inr ⟨e, by simp [lockAcquire, e]⟩
/-- LCK_REL of the holder frees the lock; of anybody else it writes a record at most. -/
theorem lockRelease_spec (h n : Nat) (s : State) :
    ((s.lock n).st = 1 ∧ (s.lock n).holder = h ∧ lockRelease h n s = setLock n { s.lock n with st := 0, holder := 0 } s) ∨
    (¬ ((s.lock n).st = 1 ∧ (s.lock n).holder = h) ∧ s.Reported (lockRelease h n s)) := by
  by_cases e : (s.lock n).st = 1 ∧ (s.lock n).holder = h
  · exact .inl ⟨e.1, e.2, by simp [lockRelease, e]⟩
  · refine .inr ⟨e, ?_⟩
    have : ((s.lock n).st = 1 && (s.lock n).holder = h : Bool) = false := by simpa using e
    unfold lockRelease; dsimp only
    split
    · next w => exact absurd (by simpa using w) e
    · exact logLimited_spec ..

/-! ### Commands (R76, R77, R97, R100) -/

/-- A command that waits: nothing else changes. -/
theorem waitFor_spec (p : Packet) (k : WaitKind) (s : State) :
    waitFor p k s = { s with cmd := { s.cmd with waits := s.cmd.waits ++ [⟨p, k⟩] } } := rfl
/-- Taking a command moves it out of the queue, and only if it carries the opcode. -/
theorem takeCmd_spec {op : Nat} {p : Packet} {s t : State} (h : takeCmd op s = some (p, t)) :
    p.opcode = op ∧ p ∈ s.cmd.queue ∧ t = { s with cmd := { s.cmd with queue := s.cmd.queue.erase p } } := by
  unfold takeCmd at h
  split at h
  · cases h
  · split at h
    · cases h
    · next q e =>
      split at h
      · next o => cases h; exact ⟨by simpa using o, List.mem_of_find?_eq_some e, rfl⟩
      · cases h
/-- All that an interpreter can do: nothing, a refusal of the command it took, or its own effect on it. -/
theorem interpret_spec (op : Nat) (f : Packet → State → State) (s : State) :
    (takeCmd op s = none ∧ interpret op f s = .next s) ∨
    ∃ p t, takeCmd op s = some (p, t) ∧ ((∃ st info, interpret op f s = .next (fail p st 0xFFFF info t)) ∨ interpret op f s = .next (f p t)) := by
  cases h : takeCmd op s with
  | none => exact .inl ⟨rfl, by simp [interpret, h]⟩
  | some x =>
    obtain ⟨p, t⟩ := x
    refine .inr ⟨p, t, rfl, ?_⟩
    simp only [interpret, h]
    split
    · exact .inl ⟨_, _, rfl⟩
    · split
      · exact .inl ⟨_, _, rfl⟩
      · split
        · exact .inl ⟨_, _, rfl⟩
        · exact .inr rfl
/-- All that a length and field check can do. -/
theorem checked_spec (p : Packet) (len : Nat) (fields : List (Nat × Bool)) (k : State → State) (s : State) :
    checked p len fields k s = fail p stBadLength 0xFFFF 0 s ∨ (∃ off, (off, false) ∈ fields ∧ checked p len fields k s = badParam p off s) ∨
    (p.params.length = len ∧ fields.all (·.2) = true ∧ checked p len fields k s = k s) := by
  unfold checked
  split
  · exact .inl rfl
  · next e =>
    split
    · next g h =>
      have m := List.mem_of_find?_eq_some h
      have v := List.find?_some h
      refine .inr (.inl ⟨g.1, ?_, rfl⟩)
      obtain ⟨a, b⟩ := g; cases b <;> simp_all
    · next h =>
      refine .inr (.inr ⟨by simpa using e, ?_, rfl⟩)
      simpa using h
end Sys2Proof.Machine
end

