-- ==== Sys2Proof/Laws/State.lean ====
section
/-!
SUPPORT. Sys2Proof/Laws/State.lean: what each update of State leaves in each of its fields, one lemma per field and update, all by rfl.
-/
namespace Sys2Proof.Machine
open Sys2Proof

@[simp] theorem modLcy_pending (f : Lcy → Lcy) (s : State) : (modLcy f s).pending = s.pending := rfl
@[simp] theorem modLcy_free (f : Lcy → Lcy) (s : State) : (modLcy f s).free = s.free := rfl
@[simp] theorem modLcy_out (f : Lcy → Lcy) (s : State) : (modLcy f s).out = s.out := rfl
@[simp] theorem modLcy_us (f : Lcy → Lcy) (s : State) : (modLcy f s).us = s.us := rfl
@[simp] theorem modLcy_log (f : Lcy → Lcy) (s : State) : (modLcy f s).log = s.log := rfl
@[simp] theorem modLcy_rst (f : Lcy → Lcy) (s : State) : (modLcy f s).rst = s.rst := rfl
@[simp] theorem modLcy_cmd (f : Lcy → Lcy) (s : State) : (modLcy f s).cmd = s.cmd := rfl
@[simp] theorem modLcy_aon (f : Lcy → Lcy) (s : State) : (modLcy f s).aon = s.aon := rfl
@[simp] theorem modLcy_pmc (f : Lcy → Lcy) (s : State) : (modLcy f s).pmc = s.pmc := rfl
@[simp] theorem modLcy_dom (f : Lcy → Lcy) (s : State) : (modLcy f s).dom = s.dom := rfl
@[simp] theorem modLcy_ckg (f : Lcy → Lcy) (s : State) : (modLcy f s).ckg = s.ckg := rfl
@[simp] theorem modLcy_hkp (f : Lcy → Lcy) (s : State) : (modLcy f s).hkp = s.hkp := rfl
@[simp] theorem modLcy_ddr0 (f : Lcy → Lcy) (s : State) : (modLcy f s).ddr0 = s.ddr0 := rfl
@[simp] theorem modLcy_ddr1 (f : Lcy → Lcy) (s : State) : (modLcy f s).ddr1 = s.ddr1 := rfl
@[simp] theorem modLcy_mem (f : Lcy → Lcy) (s : State) : (modLcy f s).mem = s.mem := rfl
@[simp] theorem modLcy_pce (f : Lcy → Lcy) (s : State) : (modLcy f s).pce = s.pce := rfl
@[simp] theorem modLcy_host (f : Lcy → Lcy) (s : State) : (modLcy f s).host = s.host := rfl
@[simp] theorem modLcy_cad (f : Lcy → Lcy) (s : State) : (modLcy f s).cad = s.cad := rfl
@[simp] theorem modLcy_net (f : Lcy → Lcy) (s : State) : (modLcy f s).net = s.net := rfl
@[simp] theorem modLcy_cry (f : Lcy → Lcy) (s : State) : (modLcy f s).cry = s.cry := rfl
@[simp] theorem modLcy_sto (f : Lcy → Lcy) (s : State) : (modLcy f s).sto = s.sto := rfl
@[simp] theorem modLcy_sge (f : Lcy → Lcy) (s : State) : (modLcy f s).sge = s.sge := rfl
@[simp] theorem modLcy_sio (f : Lcy → Lcy) (s : State) : (modLcy f s).sio = s.sio := rfl
@[simp] theorem modLcy_wdn (f : Lcy → Lcy) (s : State) : (modLcy f s).wdn = s.wdn := rfl
@[simp] theorem modLcy_bat (f : Lcy → Lcy) (s : State) : (modLcy f s).bat = s.bat := rfl
@[simp] theorem modLcy_plt (f : Lcy → Lcy) (s : State) : (modLcy f s).plt = s.plt := rfl
@[simp] theorem modLcy_can (f : Lcy → Lcy) (s : State) : (modLcy f s).can = s.can := rfl
@[simp] theorem modLcy_lbl (f : Lcy → Lcy) (s : State) : (modLcy f s).lbl = s.lbl := rfl
@[simp] theorem modLcy_xsp (f : Lcy → Lcy) (s : State) : (modLcy f s).xsp = s.xsp := rfl
@[simp] theorem modLcy_lat (f : Lcy → Lcy) (s : State) : (modLcy f s).lat = s.lat := rfl
@[simp] theorem modLcy_otp (f : Lcy → Lcy) (s : State) : (modLcy f s).otp = s.otp := rfl
@[simp] theorem modLcy_flash (f : Lcy → Lcy) (s : State) : (modLcy f s).flash = s.flash := rfl
@[simp] theorem modLcy_lcy (f : Lcy → Lcy) (s : State) : (modLcy f s).lcy = f s.lcy := rfl
@[simp] theorem modLcy_cnt (f : Lcy → Lcy) (s : State) : (modLcy f s).cnt = s.cnt := rfl

@[simp] theorem modPool_pending (p : Nat) (f : Pool → Pool) (s : State) : (modPool p f s).pending = s.pending := rfl
@[simp] theorem modPool_free (p : Nat) (f : Pool → Pool) (s : State) : (modPool p f s).free = s.free := rfl
@[simp] theorem modPool_out (p : Nat) (f : Pool → Pool) (s : State) : (modPool p f s).out = s.out := rfl
@[simp] theorem modPool_us (p : Nat) (f : Pool → Pool) (s : State) : (modPool p f s).us = s.us := rfl
@[simp] theorem modPool_log (p : Nat) (f : Pool → Pool) (s : State) : (modPool p f s).log = s.log := rfl
@[simp] theorem modPool_rst (p : Nat) (f : Pool → Pool) (s : State) : (modPool p f s).rst = s.rst := rfl
@[simp] theorem modPool_cmd (p : Nat) (f : Pool → Pool) (s : State) : (modPool p f s).cmd = s.cmd := rfl
@[simp] theorem modPool_aon (p : Nat) (f : Pool → Pool) (s : State) : (modPool p f s).aon = s.aon := rfl
@[simp] theorem modPool_pmc (p : Nat) (f : Pool → Pool) (s : State) : (modPool p f s).pmc = s.pmc := rfl
@[simp] theorem modPool_dom (p : Nat) (f : Pool → Pool) (s : State) : (modPool p f s).dom = s.dom := rfl
@[simp] theorem modPool_ckg (p : Nat) (f : Pool → Pool) (s : State) : (modPool p f s).ckg = s.ckg := rfl
@[simp] theorem modPool_hkp (p : Nat) (f : Pool → Pool) (s : State) : (modPool p f s).hkp = s.hkp := rfl
@[simp] theorem modPool_ddr0 (p : Nat) (f : Pool → Pool) (s : State) : (modPool p f s).ddr0 = s.ddr0 := rfl
@[simp] theorem modPool_ddr1 (p : Nat) (f : Pool → Pool) (s : State) : (modPool p f s).ddr1 = s.ddr1 := rfl
@[simp] theorem modPool_mem (p : Nat) (f : Pool → Pool) (s : State) : (modPool p f s).mem = s.mem := rfl
@[simp] theorem modPool_pce (p : Nat) (f : Pool → Pool) (s : State) : (modPool p f s).pce = s.pce := rfl
@[simp] theorem modPool_host (p : Nat) (f : Pool → Pool) (s : State) : (modPool p f s).host = s.host := rfl
@[simp] theorem modPool_cad (p : Nat) (f : Pool → Pool) (s : State) : (modPool p f s).cad = { s.cad with pools := tmod {} s.cad.pools p f } := rfl
@[simp] theorem modPool_net (p : Nat) (f : Pool → Pool) (s : State) : (modPool p f s).net = s.net := rfl
@[simp] theorem modPool_cry (p : Nat) (f : Pool → Pool) (s : State) : (modPool p f s).cry = s.cry := rfl
@[simp] theorem modPool_sto (p : Nat) (f : Pool → Pool) (s : State) : (modPool p f s).sto = s.sto := rfl
@[simp] theorem modPool_sge (p : Nat) (f : Pool → Pool) (s : State) : (modPool p f s).sge = s.sge := rfl
@[simp] theorem modPool_sio (p : Nat) (f : Pool → Pool) (s : State) : (modPool p f s).sio = s.sio := rfl
@[simp] theorem modPool_wdn (p : Nat) (f : Pool → Pool) (s : State) : (modPool p f s).wdn = s.wdn := rfl
@[simp] theorem modPool_bat (p : Nat) (f : Pool → Pool) (s : State) : (modPool p f s).bat = s.bat := rfl
@[simp] theorem modPool_plt (p : Nat) (f : Pool → Pool) (s : State) : (modPool p f s).plt = s.plt := rfl
@[simp] theorem modPool_can (p : Nat) (f : Pool → Pool) (s : State) : (modPool p f s).can = s.can := rfl
@[simp] theorem modPool_lbl (p : Nat) (f : Pool → Pool) (s : State) : (modPool p f s).lbl = s.lbl := rfl
@[simp] theorem modPool_xsp (p : Nat) (f : Pool → Pool) (s : State) : (modPool p f s).xsp = s.xsp := rfl
@[simp] theorem modPool_lat (p : Nat) (f : Pool → Pool) (s : State) : (modPool p f s).lat = s.lat := rfl
@[simp] theorem modPool_otp (p : Nat) (f : Pool → Pool) (s : State) : (modPool p f s).otp = s.otp := rfl
@[simp] theorem modPool_flash (p : Nat) (f : Pool → Pool) (s : State) : (modPool p f s).flash = s.flash := rfl
@[simp] theorem modPool_lcy (p : Nat) (f : Pool → Pool) (s : State) : (modPool p f s).lcy = s.lcy := rfl
@[simp] theorem modPool_cnt (p : Nat) (f : Pool → Pool) (s : State) : (modPool p f s).cnt = s.cnt := rfl

@[simp] theorem setCadWarden_pending (n : Nat) (v : CadWarden) (s : State) : (setCadWarden n v s).pending = s.pending := rfl
@[simp] theorem setCadWarden_free (n : Nat) (v : CadWarden) (s : State) : (setCadWarden n v s).free = s.free := rfl
@[simp] theorem setCadWarden_out (n : Nat) (v : CadWarden) (s : State) : (setCadWarden n v s).out = s.out := rfl
@[simp] theorem setCadWarden_us (n : Nat) (v : CadWarden) (s : State) : (setCadWarden n v s).us = s.us := rfl
@[simp] theorem setCadWarden_log (n : Nat) (v : CadWarden) (s : State) : (setCadWarden n v s).log = s.log := rfl
@[simp] theorem setCadWarden_rst (n : Nat) (v : CadWarden) (s : State) : (setCadWarden n v s).rst = s.rst := rfl
@[simp] theorem setCadWarden_cmd (n : Nat) (v : CadWarden) (s : State) : (setCadWarden n v s).cmd = s.cmd := rfl
@[simp] theorem setCadWarden_aon (n : Nat) (v : CadWarden) (s : State) : (setCadWarden n v s).aon = s.aon := rfl
@[simp] theorem setCadWarden_pmc (n : Nat) (v : CadWarden) (s : State) : (setCadWarden n v s).pmc = s.pmc := rfl
@[simp] theorem setCadWarden_dom (n : Nat) (v : CadWarden) (s : State) : (setCadWarden n v s).dom = s.dom := rfl
@[simp] theorem setCadWarden_ckg (n : Nat) (v : CadWarden) (s : State) : (setCadWarden n v s).ckg = s.ckg := rfl
@[simp] theorem setCadWarden_hkp (n : Nat) (v : CadWarden) (s : State) : (setCadWarden n v s).hkp = s.hkp := rfl
@[simp] theorem setCadWarden_ddr0 (n : Nat) (v : CadWarden) (s : State) : (setCadWarden n v s).ddr0 = s.ddr0 := rfl
@[simp] theorem setCadWarden_ddr1 (n : Nat) (v : CadWarden) (s : State) : (setCadWarden n v s).ddr1 = s.ddr1 := rfl
@[simp] theorem setCadWarden_mem (n : Nat) (v : CadWarden) (s : State) : (setCadWarden n v s).mem = s.mem := rfl
@[simp] theorem setCadWarden_pce (n : Nat) (v : CadWarden) (s : State) : (setCadWarden n v s).pce = s.pce := rfl
@[simp] theorem setCadWarden_host (n : Nat) (v : CadWarden) (s : State) : (setCadWarden n v s).host = s.host := rfl
@[simp] theorem setCadWarden_cad (n : Nat) (v : CadWarden) (s : State) : (setCadWarden n v s).cad = { s.cad with wardens := tput {} s.cad.wardens n v } := rfl
@[simp] theorem setCadWarden_net (n : Nat) (v : CadWarden) (s : State) : (setCadWarden n v s).net = s.net := rfl
@[simp] theorem setCadWarden_cry (n : Nat) (v : CadWarden) (s : State) : (setCadWarden n v s).cry = s.cry := rfl
@[simp] theorem setCadWarden_sto (n : Nat) (v : CadWarden) (s : State) : (setCadWarden n v s).sto = s.sto := rfl
@[simp] theorem setCadWarden_sge (n : Nat) (v : CadWarden) (s : State) : (setCadWarden n v s).sge = s.sge := rfl
@[simp] theorem setCadWarden_sio (n : Nat) (v : CadWarden) (s : State) : (setCadWarden n v s).sio = s.sio := rfl
@[simp] theorem setCadWarden_wdn (n : Nat) (v : CadWarden) (s : State) : (setCadWarden n v s).wdn = s.wdn := rfl
@[simp] theorem setCadWarden_bat (n : Nat) (v : CadWarden) (s : State) : (setCadWarden n v s).bat = s.bat := rfl
@[simp] theorem setCadWarden_plt (n : Nat) (v : CadWarden) (s : State) : (setCadWarden n v s).plt = s.plt := rfl
@[simp] theorem setCadWarden_can (n : Nat) (v : CadWarden) (s : State) : (setCadWarden n v s).can = s.can := rfl
@[simp] theorem setCadWarden_lbl (n : Nat) (v : CadWarden) (s : State) : (setCadWarden n v s).lbl = s.lbl := rfl
@[simp] theorem setCadWarden_xsp (n : Nat) (v : CadWarden) (s : State) : (setCadWarden n v s).xsp = s.xsp := rfl
@[simp] theorem setCadWarden_lat (n : Nat) (v : CadWarden) (s : State) : (setCadWarden n v s).lat = s.lat := rfl
@[simp] theorem setCadWarden_otp (n : Nat) (v : CadWarden) (s : State) : (setCadWarden n v s).otp = s.otp := rfl
@[simp] theorem setCadWarden_flash (n : Nat) (v : CadWarden) (s : State) : (setCadWarden n v s).flash = s.flash := rfl
@[simp] theorem setCadWarden_lcy (n : Nat) (v : CadWarden) (s : State) : (setCadWarden n v s).lcy = s.lcy := rfl
@[simp] theorem setCadWarden_cnt (n : Nat) (v : CadWarden) (s : State) : (setCadWarden n v s).cnt = s.cnt := rfl

@[simp] theorem setDbg_pending (data st : Nat) (s : State) : (setDbg data st s).pending = s.pending := rfl
@[simp] theorem setDbg_free (data st : Nat) (s : State) : (setDbg data st s).free = s.free := rfl
@[simp] theorem setDbg_out (data st : Nat) (s : State) : (setDbg data st s).out = s.out := rfl
@[simp] theorem setDbg_us (data st : Nat) (s : State) : (setDbg data st s).us = s.us := rfl
@[simp] theorem setDbg_log (data st : Nat) (s : State) : (setDbg data st s).log = s.log := rfl
@[simp] theorem setDbg_rst (data st : Nat) (s : State) : (setDbg data st s).rst = s.rst := rfl
@[simp] theorem setDbg_cmd (data st : Nat) (s : State) : (setDbg data st s).cmd = s.cmd := rfl
@[simp] theorem setDbg_aon (data st : Nat) (s : State) : (setDbg data st s).aon = s.aon := rfl
@[simp] theorem setDbg_pmc (data st : Nat) (s : State) : (setDbg data st s).pmc = s.pmc := rfl
@[simp] theorem setDbg_dom (data st : Nat) (s : State) : (setDbg data st s).dom = s.dom := rfl
@[simp] theorem setDbg_ckg (data st : Nat) (s : State) : (setDbg data st s).ckg = s.ckg := rfl
@[simp] theorem setDbg_hkp (data st : Nat) (s : State) : (setDbg data st s).hkp = s.hkp := rfl
@[simp] theorem setDbg_ddr0 (data st : Nat) (s : State) : (setDbg data st s).ddr0 = s.ddr0 := rfl
@[simp] theorem setDbg_ddr1 (data st : Nat) (s : State) : (setDbg data st s).ddr1 = s.ddr1 := rfl
@[simp] theorem setDbg_mem (data st : Nat) (s : State) : (setDbg data st s).mem = s.mem := rfl
@[simp] theorem setDbg_pce (data st : Nat) (s : State) : (setDbg data st s).pce = s.pce := rfl
@[simp] theorem setDbg_host (data st : Nat) (s : State) : (setDbg data st s).host = s.host := rfl
@[simp] theorem setDbg_cad (data st : Nat) (s : State) : (setDbg data st s).cad = s.cad := rfl
@[simp] theorem setDbg_net (data st : Nat) (s : State) : (setDbg data st s).net = s.net := rfl
@[simp] theorem setDbg_cry (data st : Nat) (s : State) : (setDbg data st s).cry = s.cry := rfl
@[simp] theorem setDbg_sto (data st : Nat) (s : State) : (setDbg data st s).sto = s.sto := rfl
@[simp] theorem setDbg_sge (data st : Nat) (s : State) : (setDbg data st s).sge = s.sge := rfl
@[simp] theorem setDbg_sio (data st : Nat) (s : State) : (setDbg data st s).sio = s.sio := rfl
@[simp] theorem setDbg_wdn (data st : Nat) (s : State) : (setDbg data st s).wdn = s.wdn := rfl
@[simp] theorem setDbg_bat (data st : Nat) (s : State) : (setDbg data st s).bat = s.bat := rfl
@[simp] theorem setDbg_plt (data st : Nat) (s : State) : (setDbg data st s).plt = s.plt := rfl
@[simp] theorem setDbg_can (data st : Nat) (s : State) : (setDbg data st s).can = s.can := rfl
@[simp] theorem setDbg_lbl (data st : Nat) (s : State) : (setDbg data st s).lbl = s.lbl := rfl
@[simp] theorem setDbg_xsp (data st : Nat) (s : State) : (setDbg data st s).xsp = s.xsp := rfl
@[simp] theorem setDbg_lat (data st : Nat) (s : State) : (setDbg data st s).lat = s.lat := rfl
@[simp] theorem setDbg_otp (data st : Nat) (s : State) : (setDbg data st s).otp = s.otp := rfl
@[simp] theorem setDbg_flash (data st : Nat) (s : State) : (setDbg data st s).flash = s.flash := rfl
@[simp] theorem setDbg_lcy (data st : Nat) (s : State) : (setDbg data st s).lcy = s.lcy := rfl
@[simp] theorem setDbg_cnt (data st : Nat) (s : State) : (setDbg data st s).cnt = { s.cnt with dbg := ⟨data, st⟩ } := rfl

@[simp] theorem modCry_pending (f : CryptoSide → CryptoSide) (s : State) : (modCry f s).pending = s.pending := rfl
@[simp] theorem modCry_free (f : CryptoSide → CryptoSide) (s : State) : (modCry f s).free = s.free := rfl
@[simp] theorem modCry_out (f : CryptoSide → CryptoSide) (s : State) : (modCry f s).out = s.out := rfl
@[simp] theorem modCry_us (f : CryptoSide → CryptoSide) (s : State) : (modCry f s).us = s.us := rfl
@[simp] theorem modCry_log (f : CryptoSide → CryptoSide) (s : State) : (modCry f s).log = s.log := rfl
@[simp] theorem modCry_rst (f : CryptoSide → CryptoSide) (s : State) : (modCry f s).rst = s.rst := rfl
@[simp] theorem modCry_cmd (f : CryptoSide → CryptoSide) (s : State) : (modCry f s).cmd = s.cmd := rfl
@[simp] theorem modCry_aon (f : CryptoSide → CryptoSide) (s : State) : (modCry f s).aon = s.aon := rfl
@[simp] theorem modCry_pmc (f : CryptoSide → CryptoSide) (s : State) : (modCry f s).pmc = s.pmc := rfl
@[simp] theorem modCry_dom (f : CryptoSide → CryptoSide) (s : State) : (modCry f s).dom = s.dom := rfl
@[simp] theorem modCry_ckg (f : CryptoSide → CryptoSide) (s : State) : (modCry f s).ckg = s.ckg := rfl
@[simp] theorem modCry_hkp (f : CryptoSide → CryptoSide) (s : State) : (modCry f s).hkp = s.hkp := rfl
@[simp] theorem modCry_ddr0 (f : CryptoSide → CryptoSide) (s : State) : (modCry f s).ddr0 = s.ddr0 := rfl
@[simp] theorem modCry_ddr1 (f : CryptoSide → CryptoSide) (s : State) : (modCry f s).ddr1 = s.ddr1 := rfl
@[simp] theorem modCry_mem (f : CryptoSide → CryptoSide) (s : State) : (modCry f s).mem = s.mem := rfl
@[simp] theorem modCry_pce (f : CryptoSide → CryptoSide) (s : State) : (modCry f s).pce = s.pce := rfl
@[simp] theorem modCry_host (f : CryptoSide → CryptoSide) (s : State) : (modCry f s).host = s.host := rfl
@[simp] theorem modCry_cad (f : CryptoSide → CryptoSide) (s : State) : (modCry f s).cad = s.cad := rfl
@[simp] theorem modCry_net (f : CryptoSide → CryptoSide) (s : State) : (modCry f s).net = s.net := rfl
@[simp] theorem modCry_cry (f : CryptoSide → CryptoSide) (s : State) : (modCry f s).cry = f s.cry := rfl
@[simp] theorem modCry_sto (f : CryptoSide → CryptoSide) (s : State) : (modCry f s).sto = s.sto := rfl
@[simp] theorem modCry_sge (f : CryptoSide → CryptoSide) (s : State) : (modCry f s).sge = s.sge := rfl
@[simp] theorem modCry_sio (f : CryptoSide → CryptoSide) (s : State) : (modCry f s).sio = s.sio := rfl
@[simp] theorem modCry_wdn (f : CryptoSide → CryptoSide) (s : State) : (modCry f s).wdn = s.wdn := rfl
@[simp] theorem modCry_bat (f : CryptoSide → CryptoSide) (s : State) : (modCry f s).bat = s.bat := rfl
@[simp] theorem modCry_plt (f : CryptoSide → CryptoSide) (s : State) : (modCry f s).plt = s.plt := rfl
@[simp] theorem modCry_can (f : CryptoSide → CryptoSide) (s : State) : (modCry f s).can = s.can := rfl
@[simp] theorem modCry_lbl (f : CryptoSide → CryptoSide) (s : State) : (modCry f s).lbl = s.lbl := rfl
@[simp] theorem modCry_xsp (f : CryptoSide → CryptoSide) (s : State) : (modCry f s).xsp = s.xsp := rfl
@[simp] theorem modCry_lat (f : CryptoSide → CryptoSide) (s : State) : (modCry f s).lat = s.lat := rfl
@[simp] theorem modCry_otp (f : CryptoSide → CryptoSide) (s : State) : (modCry f s).otp = s.otp := rfl
@[simp] theorem modCry_flash (f : CryptoSide → CryptoSide) (s : State) : (modCry f s).flash = s.flash := rfl
@[simp] theorem modCry_lcy (f : CryptoSide → CryptoSide) (s : State) : (modCry f s).lcy = s.lcy := rfl
@[simp] theorem modCry_cnt (f : CryptoSide → CryptoSide) (s : State) : (modCry f s).cnt = s.cnt := rfl

@[simp] theorem setKeks_pending (o : Nat) (k : Keks) (s : State) : (setKeks o k s).pending = s.pending := rfl
@[simp] theorem setKeks_free (o : Nat) (k : Keks) (s : State) : (setKeks o k s).free = s.free := rfl
@[simp] theorem setKeks_out (o : Nat) (k : Keks) (s : State) : (setKeks o k s).out = s.out := rfl
@[simp] theorem setKeks_us (o : Nat) (k : Keks) (s : State) : (setKeks o k s).us = s.us := rfl
@[simp] theorem setKeks_log (o : Nat) (k : Keks) (s : State) : (setKeks o k s).log = s.log := rfl
@[simp] theorem setKeks_rst (o : Nat) (k : Keks) (s : State) : (setKeks o k s).rst = s.rst := rfl
@[simp] theorem setKeks_cmd (o : Nat) (k : Keks) (s : State) : (setKeks o k s).cmd = s.cmd := rfl
@[simp] theorem setKeks_aon (o : Nat) (k : Keks) (s : State) : (setKeks o k s).aon = s.aon := rfl
@[simp] theorem setKeks_pmc (o : Nat) (k : Keks) (s : State) : (setKeks o k s).pmc = s.pmc := rfl
@[simp] theorem setKeks_dom (o : Nat) (k : Keks) (s : State) : (setKeks o k s).dom = s.dom := rfl
@[simp] theorem setKeks_ckg (o : Nat) (k : Keks) (s : State) : (setKeks o k s).ckg = s.ckg := rfl
@[simp] theorem setKeks_hkp (o : Nat) (k : Keks) (s : State) : (setKeks o k s).hkp = s.hkp := rfl
@[simp] theorem setKeks_ddr0 (o : Nat) (k : Keks) (s : State) : (setKeks o k s).ddr0 = s.ddr0 := rfl
@[simp] theorem setKeks_ddr1 (o : Nat) (k : Keks) (s : State) : (setKeks o k s).ddr1 = s.ddr1 := rfl
@[simp] theorem setKeks_mem (o : Nat) (k : Keks) (s : State) : (setKeks o k s).mem = s.mem := rfl
@[simp] theorem setKeks_pce (o : Nat) (k : Keks) (s : State) : (setKeks o k s).pce = s.pce := rfl
@[simp] theorem setKeks_host (o : Nat) (k : Keks) (s : State) : (setKeks o k s).host = s.host := rfl
@[simp] theorem setKeks_cad (o : Nat) (k : Keks) (s : State) : (setKeks o k s).cad = s.cad := rfl
@[simp] theorem setKeks_net (o : Nat) (k : Keks) (s : State) : (setKeks o k s).net = s.net := rfl
@[simp] theorem setKeks_sto (o : Nat) (k : Keks) (s : State) : (setKeks o k s).sto = s.sto := rfl
@[simp] theorem setKeks_sge (o : Nat) (k : Keks) (s : State) : (setKeks o k s).sge = s.sge := rfl
@[simp] theorem setKeks_sio (o : Nat) (k : Keks) (s : State) : (setKeks o k s).sio = s.sio := rfl
@[simp] theorem setKeks_wdn (o : Nat) (k : Keks) (s : State) : (setKeks o k s).wdn = s.wdn := rfl
@[simp] theorem setKeks_bat (o : Nat) (k : Keks) (s : State) : (setKeks o k s).bat = s.bat := rfl
@[simp] theorem setKeks_plt (o : Nat) (k : Keks) (s : State) : (setKeks o k s).plt = s.plt := rfl
@[simp] theorem setKeks_can (o : Nat) (k : Keks) (s : State) : (setKeks o k s).can = s.can := rfl
@[simp] theorem setKeks_lbl (o : Nat) (k : Keks) (s : State) : (setKeks o k s).lbl = s.lbl := rfl
@[simp] theorem setKeks_xsp (o : Nat) (k : Keks) (s : State) : (setKeks o k s).xsp = s.xsp := rfl
@[simp] theorem setKeks_lat (o : Nat) (k : Keks) (s : State) : (setKeks o k s).lat = s.lat := rfl
@[simp] theorem setKeks_otp (o : Nat) (k : Keks) (s : State) : (setKeks o k s).otp = s.otp := rfl
@[simp] theorem setKeks_flash (o : Nat) (k : Keks) (s : State) : (setKeks o k s).flash = s.flash := rfl
@[simp] theorem setKeks_lcy (o : Nat) (k : Keks) (s : State) : (setKeks o k s).lcy = s.lcy := rfl
@[simp] theorem setKeks_cnt (o : Nat) (k : Keks) (s : State) : (setKeks o k s).cnt = s.cnt := rfl

@[simp] theorem modLat_pending (f : Lattice → Lattice) (s : State) : (modLat f s).pending = s.pending := rfl
@[simp] theorem modLat_free (f : Lattice → Lattice) (s : State) : (modLat f s).free = s.free := rfl
@[simp] theorem modLat_out (f : Lattice → Lattice) (s : State) : (modLat f s).out = s.out := rfl
@[simp] theorem modLat_us (f : Lattice → Lattice) (s : State) : (modLat f s).us = s.us := rfl
@[simp] theorem modLat_log (f : Lattice → Lattice) (s : State) : (modLat f s).log = s.log := rfl
@[simp] theorem modLat_rst (f : Lattice → Lattice) (s : State) : (modLat f s).rst = s.rst := rfl
@[simp] theorem modLat_cmd (f : Lattice → Lattice) (s : State) : (modLat f s).cmd = s.cmd := rfl
@[simp] theorem modLat_aon (f : Lattice → Lattice) (s : State) : (modLat f s).aon = s.aon := rfl
@[simp] theorem modLat_pmc (f : Lattice → Lattice) (s : State) : (modLat f s).pmc = s.pmc := rfl
@[simp] theorem modLat_dom (f : Lattice → Lattice) (s : State) : (modLat f s).dom = s.dom := rfl
@[simp] theorem modLat_ckg (f : Lattice → Lattice) (s : State) : (modLat f s).ckg = s.ckg := rfl
@[simp] theorem modLat_hkp (f : Lattice → Lattice) (s : State) : (modLat f s).hkp = s.hkp := rfl
@[simp] theorem modLat_ddr0 (f : Lattice → Lattice) (s : State) : (modLat f s).ddr0 = s.ddr0 := rfl
@[simp] theorem modLat_ddr1 (f : Lattice → Lattice) (s : State) : (modLat f s).ddr1 = s.ddr1 := rfl
@[simp] theorem modLat_mem (f : Lattice → Lattice) (s : State) : (modLat f s).mem = s.mem := rfl
@[simp] theorem modLat_pce (f : Lattice → Lattice) (s : State) : (modLat f s).pce = s.pce := rfl
@[simp] theorem modLat_host (f : Lattice → Lattice) (s : State) : (modLat f s).host = s.host := rfl
@[simp] theorem modLat_cad (f : Lattice → Lattice) (s : State) : (modLat f s).cad = s.cad := rfl
@[simp] theorem modLat_net (f : Lattice → Lattice) (s : State) : (modLat f s).net = s.net := rfl
@[simp] theorem modLat_cry (f : Lattice → Lattice) (s : State) : (modLat f s).cry = s.cry := rfl
@[simp] theorem modLat_sto (f : Lattice → Lattice) (s : State) : (modLat f s).sto = s.sto := rfl
@[simp] theorem modLat_sge (f : Lattice → Lattice) (s : State) : (modLat f s).sge = s.sge := rfl
@[simp] theorem modLat_sio (f : Lattice → Lattice) (s : State) : (modLat f s).sio = s.sio := rfl
@[simp] theorem modLat_wdn (f : Lattice → Lattice) (s : State) : (modLat f s).wdn = s.wdn := rfl
@[simp] theorem modLat_bat (f : Lattice → Lattice) (s : State) : (modLat f s).bat = s.bat := rfl
@[simp] theorem modLat_plt (f : Lattice → Lattice) (s : State) : (modLat f s).plt = s.plt := rfl
@[simp] theorem modLat_can (f : Lattice → Lattice) (s : State) : (modLat f s).can = s.can := rfl
@[simp] theorem modLat_lbl (f : Lattice → Lattice) (s : State) : (modLat f s).lbl = s.lbl := rfl
@[simp] theorem modLat_xsp (f : Lattice → Lattice) (s : State) : (modLat f s).xsp = s.xsp := rfl
@[simp] theorem modLat_lat (f : Lattice → Lattice) (s : State) : (modLat f s).lat = f s.lat := rfl
@[simp] theorem modLat_otp (f : Lattice → Lattice) (s : State) : (modLat f s).otp = s.otp := rfl
@[simp] theorem modLat_flash (f : Lattice → Lattice) (s : State) : (modLat f s).flash = s.flash := rfl
@[simp] theorem modLat_lcy (f : Lattice → Lattice) (s : State) : (modLat f s).lcy = s.lcy := rfl
@[simp] theorem modLat_cnt (f : Lattice → Lattice) (s : State) : (modLat f s).cnt = s.cnt := rfl

@[simp] theorem modLink_pending (l : Nat) (f : LatLink → LatLink) (s : State) : (modLink l f s).pending = s.pending := rfl
@[simp] theorem modLink_free (l : Nat) (f : LatLink → LatLink) (s : State) : (modLink l f s).free = s.free := rfl
@[simp] theorem modLink_out (l : Nat) (f : LatLink → LatLink) (s : State) : (modLink l f s).out = s.out := rfl
@[simp] theorem modLink_us (l : Nat) (f : LatLink → LatLink) (s : State) : (modLink l f s).us = s.us := rfl
@[simp] theorem modLink_log (l : Nat) (f : LatLink → LatLink) (s : State) : (modLink l f s).log = s.log := rfl
@[simp] theorem modLink_rst (l : Nat) (f : LatLink → LatLink) (s : State) : (modLink l f s).rst = s.rst := rfl
@[simp] theorem modLink_cmd (l : Nat) (f : LatLink → LatLink) (s : State) : (modLink l f s).cmd = s.cmd := rfl
@[simp] theorem modLink_aon (l : Nat) (f : LatLink → LatLink) (s : State) : (modLink l f s).aon = s.aon := rfl
@[simp] theorem modLink_pmc (l : Nat) (f : LatLink → LatLink) (s : State) : (modLink l f s).pmc = s.pmc := rfl
@[simp] theorem modLink_dom (l : Nat) (f : LatLink → LatLink) (s : State) : (modLink l f s).dom = s.dom := rfl
@[simp] theorem modLink_ckg (l : Nat) (f : LatLink → LatLink) (s : State) : (modLink l f s).ckg = s.ckg := rfl
@[simp] theorem modLink_hkp (l : Nat) (f : LatLink → LatLink) (s : State) : (modLink l f s).hkp = s.hkp := rfl
@[simp] theorem modLink_ddr0 (l : Nat) (f : LatLink → LatLink) (s : State) : (modLink l f s).ddr0 = s.ddr0 := rfl
@[simp] theorem modLink_ddr1 (l : Nat) (f : LatLink → LatLink) (s : State) : (modLink l f s).ddr1 = s.ddr1 := rfl
@[simp] theorem modLink_mem (l : Nat) (f : LatLink → LatLink) (s : State) : (modLink l f s).mem = s.mem := rfl
@[simp] theorem modLink_pce (l : Nat) (f : LatLink → LatLink) (s : State) : (modLink l f s).pce = s.pce := rfl
@[simp] theorem modLink_host (l : Nat) (f : LatLink → LatLink) (s : State) : (modLink l f s).host = s.host := rfl
@[simp] theorem modLink_cad (l : Nat) (f : LatLink → LatLink) (s : State) : (modLink l f s).cad = s.cad := rfl
@[simp] theorem modLink_net (l : Nat) (f : LatLink → LatLink) (s : State) : (modLink l f s).net = s.net := rfl
@[simp] theorem modLink_cry (l : Nat) (f : LatLink → LatLink) (s : State) : (modLink l f s).cry = s.cry := rfl
@[simp] theorem modLink_sto (l : Nat) (f : LatLink → LatLink) (s : State) : (modLink l f s).sto = s.sto := rfl
@[simp] theorem modLink_sge (l : Nat) (f : LatLink → LatLink) (s : State) : (modLink l f s).sge = s.sge := rfl
@[simp] theorem modLink_sio (l : Nat) (f : LatLink → LatLink) (s : State) : (modLink l f s).sio = s.sio := rfl
@[simp] theorem modLink_wdn (l : Nat) (f : LatLink → LatLink) (s : State) : (modLink l f s).wdn = s.wdn := rfl
@[simp] theorem modLink_bat (l : Nat) (f : LatLink → LatLink) (s : State) : (modLink l f s).bat = s.bat := rfl
@[simp] theorem modLink_plt (l : Nat) (f : LatLink → LatLink) (s : State) : (modLink l f s).plt = s.plt := rfl
@[simp] theorem modLink_can (l : Nat) (f : LatLink → LatLink) (s : State) : (modLink l f s).can = s.can := rfl
@[simp] theorem modLink_lbl (l : Nat) (f : LatLink → LatLink) (s : State) : (modLink l f s).lbl = s.lbl := rfl
@[simp] theorem modLink_xsp (l : Nat) (f : LatLink → LatLink) (s : State) : (modLink l f s).xsp = s.xsp := rfl
@[simp] theorem modLink_otp (l : Nat) (f : LatLink → LatLink) (s : State) : (modLink l f s).otp = s.otp := rfl
@[simp] theorem modLink_flash (l : Nat) (f : LatLink → LatLink) (s : State) : (modLink l f s).flash = s.flash := rfl
@[simp] theorem modLink_lcy (l : Nat) (f : LatLink → LatLink) (s : State) : (modLink l f s).lcy = s.lcy := rfl
@[simp] theorem modLink_cnt (l : Nat) (f : LatLink → LatLink) (s : State) : (modLink l f s).cnt = s.cnt := rfl

@[simp] theorem modLbl_pending (f : Label → Label) (s : State) : (modLbl f s).pending = s.pending := rfl
@[simp] theorem modLbl_free (f : Label → Label) (s : State) : (modLbl f s).free = s.free := rfl
@[simp] theorem modLbl_out (f : Label → Label) (s : State) : (modLbl f s).out = s.out := rfl
@[simp] theorem modLbl_us (f : Label → Label) (s : State) : (modLbl f s).us = s.us := rfl
@[simp] theorem modLbl_log (f : Label → Label) (s : State) : (modLbl f s).log = s.log := rfl
@[simp] theorem modLbl_rst (f : Label → Label) (s : State) : (modLbl f s).rst = s.rst := rfl
@[simp] theorem modLbl_cmd (f : Label → Label) (s : State) : (modLbl f s).cmd = s.cmd := rfl
@[simp] theorem modLbl_aon (f : Label → Label) (s : State) : (modLbl f s).aon = s.aon := rfl
@[simp] theorem modLbl_pmc (f : Label → Label) (s : State) : (modLbl f s).pmc = s.pmc := rfl
@[simp] theorem modLbl_dom (f : Label → Label) (s : State) : (modLbl f s).dom = s.dom := rfl
@[simp] theorem modLbl_ckg (f : Label → Label) (s : State) : (modLbl f s).ckg = s.ckg := rfl
@[simp] theorem modLbl_hkp (f : Label → Label) (s : State) : (modLbl f s).hkp = s.hkp := rfl
@[simp] theorem modLbl_ddr0 (f : Label → Label) (s : State) : (modLbl f s).ddr0 = s.ddr0 := rfl
@[simp] theorem modLbl_ddr1 (f : Label → Label) (s : State) : (modLbl f s).ddr1 = s.ddr1 := rfl
@[simp] theorem modLbl_mem (f : Label → Label) (s : State) : (modLbl f s).mem = s.mem := rfl
@[simp] theorem modLbl_pce (f : Label → Label) (s : State) : (modLbl f s).pce = s.pce := rfl
@[simp] theorem modLbl_host (f : Label → Label) (s : State) : (modLbl f s).host = s.host := rfl
@[simp] theorem modLbl_cad (f : Label → Label) (s : State) : (modLbl f s).cad = s.cad := rfl
@[simp] theorem modLbl_net (f : Label → Label) (s : State) : (modLbl f s).net = s.net := rfl
@[simp] theorem modLbl_cry (f : Label → Label) (s : State) : (modLbl f s).cry = s.cry := rfl
@[simp] theorem modLbl_sto (f : Label → Label) (s : State) : (modLbl f s).sto = s.sto := rfl
@[simp] theorem modLbl_sge (f : Label → Label) (s : State) : (modLbl f s).sge = s.sge := rfl
@[simp] theorem modLbl_sio (f : Label → Label) (s : State) : (modLbl f s).sio = s.sio := rfl
@[simp] theorem modLbl_wdn (f : Label → Label) (s : State) : (modLbl f s).wdn = s.wdn := rfl
@[simp] theorem modLbl_bat (f : Label → Label) (s : State) : (modLbl f s).bat = s.bat := rfl
@[simp] theorem modLbl_plt (f : Label → Label) (s : State) : (modLbl f s).plt = s.plt := rfl
@[simp] theorem modLbl_can (f : Label → Label) (s : State) : (modLbl f s).can = s.can := rfl
@[simp] theorem modLbl_lbl (f : Label → Label) (s : State) : (modLbl f s).lbl = f s.lbl := rfl
@[simp] theorem modLbl_xsp (f : Label → Label) (s : State) : (modLbl f s).xsp = s.xsp := rfl
@[simp] theorem modLbl_lat (f : Label → Label) (s : State) : (modLbl f s).lat = s.lat := rfl
@[simp] theorem modLbl_otp (f : Label → Label) (s : State) : (modLbl f s).otp = s.otp := rfl
@[simp] theorem modLbl_flash (f : Label → Label) (s : State) : (modLbl f s).flash = s.flash := rfl
@[simp] theorem modLbl_lcy (f : Label → Label) (s : State) : (modLbl f s).lcy = s.lcy := rfl
@[simp] theorem modLbl_cnt (f : Label → Label) (s : State) : (modLbl f s).cnt = s.cnt := rfl

@[simp] theorem emit_pending (e : Emission) (s : State) : (emit e s).pending = s.pending := rfl
@[simp] theorem emit_free (e : Emission) (s : State) : (emit e s).free = s.free := rfl
@[simp] theorem emit_out (e : Emission) (s : State) : (emit e s).out = s.out ++ [e] := rfl
@[simp] theorem emit_us (e : Emission) (s : State) : (emit e s).us = s.us := rfl
@[simp] theorem emit_log (e : Emission) (s : State) : (emit e s).log = s.log := rfl
@[simp] theorem emit_rst (e : Emission) (s : State) : (emit e s).rst = s.rst := rfl
@[simp] theorem emit_cmd (e : Emission) (s : State) : (emit e s).cmd = s.cmd := rfl
@[simp] theorem emit_aon (e : Emission) (s : State) : (emit e s).aon = s.aon := rfl
@[simp] theorem emit_pmc (e : Emission) (s : State) : (emit e s).pmc = s.pmc := rfl
@[simp] theorem emit_dom (e : Emission) (s : State) : (emit e s).dom = s.dom := rfl
@[simp] theorem emit_ckg (e : Emission) (s : State) : (emit e s).ckg = s.ckg := rfl
@[simp] theorem emit_hkp (e : Emission) (s : State) : (emit e s).hkp = s.hkp := rfl
@[simp] theorem emit_ddr0 (e : Emission) (s : State) : (emit e s).ddr0 = s.ddr0 := rfl
@[simp] theorem emit_ddr1 (e : Emission) (s : State) : (emit e s).ddr1 = s.ddr1 := rfl
@[simp] theorem emit_mem (e : Emission) (s : State) : (emit e s).mem = s.mem := rfl
@[simp] theorem emit_pce (e : Emission) (s : State) : (emit e s).pce = s.pce := rfl
@[simp] theorem emit_host (e : Emission) (s : State) : (emit e s).host = s.host := rfl
@[simp] theorem emit_cad (e : Emission) (s : State) : (emit e s).cad = s.cad := rfl
@[simp] theorem emit_net (e : Emission) (s : State) : (emit e s).net = s.net := rfl
@[simp] theorem emit_cry (e : Emission) (s : State) : (emit e s).cry = s.cry := rfl
@[simp] theorem emit_sto (e : Emission) (s : State) : (emit e s).sto = s.sto := rfl
@[simp] theorem emit_sge (e : Emission) (s : State) : (emit e s).sge = s.sge := rfl
@[simp] theorem emit_sio (e : Emission) (s : State) : (emit e s).sio = s.sio := rfl
@[simp] theorem emit_wdn (e : Emission) (s : State) : (emit e s).wdn = s.wdn := rfl
@[simp] theorem emit_bat (e : Emission) (s : State) : (emit e s).bat = s.bat := rfl
@[simp] theorem emit_plt (e : Emission) (s : State) : (emit e s).plt = s.plt := rfl
@[simp] theorem emit_can (e : Emission) (s : State) : (emit e s).can = s.can := rfl
@[simp] theorem emit_lbl (e : Emission) (s : State) : (emit e s).lbl = s.lbl := rfl
@[simp] theorem emit_xsp (e : Emission) (s : State) : (emit e s).xsp = s.xsp := rfl
@[simp] theorem emit_lat (e : Emission) (s : State) : (emit e s).lat = s.lat := rfl
@[simp] theorem emit_otp (e : Emission) (s : State) : (emit e s).otp = s.otp := rfl
@[simp] theorem emit_flash (e : Emission) (s : State) : (emit e s).flash = s.flash := rfl
@[simp] theorem emit_lcy (e : Emission) (s : State) : (emit e s).lcy = s.lcy := rfl
@[simp] theorem emit_cnt (e : Emission) (s : State) : (emit e s).cnt = s.cnt := rfl

@[simp] theorem modFn_pending (f : Nat) (g : PciFn → PciFn) (s : State) : (modFn f g s).pending = s.pending := rfl
@[simp] theorem modFn_free (f : Nat) (g : PciFn → PciFn) (s : State) : (modFn f g s).free = s.free := rfl
@[simp] theorem modFn_out (f : Nat) (g : PciFn → PciFn) (s : State) : (modFn f g s).out = s.out := rfl
@[simp] theorem modFn_us (f : Nat) (g : PciFn → PciFn) (s : State) : (modFn f g s).us = s.us := rfl
@[simp] theorem modFn_log (f : Nat) (g : PciFn → PciFn) (s : State) : (modFn f g s).log = s.log := rfl
@[simp] theorem modFn_rst (f : Nat) (g : PciFn → PciFn) (s : State) : (modFn f g s).rst = s.rst := rfl
@[simp] theorem modFn_cmd (f : Nat) (g : PciFn → PciFn) (s : State) : (modFn f g s).cmd = s.cmd := rfl
@[simp] theorem modFn_aon (f : Nat) (g : PciFn → PciFn) (s : State) : (modFn f g s).aon = s.aon := rfl
@[simp] theorem modFn_pmc (f : Nat) (g : PciFn → PciFn) (s : State) : (modFn f g s).pmc = s.pmc := rfl
@[simp] theorem modFn_dom (f : Nat) (g : PciFn → PciFn) (s : State) : (modFn f g s).dom = s.dom := rfl
@[simp] theorem modFn_ckg (f : Nat) (g : PciFn → PciFn) (s : State) : (modFn f g s).ckg = s.ckg := rfl
@[simp] theorem modFn_hkp (f : Nat) (g : PciFn → PciFn) (s : State) : (modFn f g s).hkp = s.hkp := rfl
@[simp] theorem modFn_ddr0 (f : Nat) (g : PciFn → PciFn) (s : State) : (modFn f g s).ddr0 = s.ddr0 := rfl
@[simp] theorem modFn_ddr1 (f : Nat) (g : PciFn → PciFn) (s : State) : (modFn f g s).ddr1 = s.ddr1 := rfl
@[simp] theorem modFn_mem (f : Nat) (g : PciFn → PciFn) (s : State) : (modFn f g s).mem = s.mem := rfl
@[simp] theorem modFn_pce (f : Nat) (g : PciFn → PciFn) (s : State) : (modFn f g s).pce = { s.pce with fns := tmod {} s.pce.fns f g } := rfl
@[simp] theorem modFn_host (f : Nat) (g : PciFn → PciFn) (s : State) : (modFn f g s).host = s.host := rfl
@[simp] theorem modFn_cad (f : Nat) (g : PciFn → PciFn) (s : State) : (modFn f g s).cad = s.cad := rfl
@[simp] theorem modFn_net (f : Nat) (g : PciFn → PciFn) (s : State) : (modFn f g s).net = s.net := rfl
@[simp] theorem modFn_cry (f : Nat) (g : PciFn → PciFn) (s : State) : (modFn f g s).cry = s.cry := rfl
@[simp] theorem modFn_sto (f : Nat) (g : PciFn → PciFn) (s : State) : (modFn f g s).sto = s.sto := rfl
@[simp] theorem modFn_sge (f : Nat) (g : PciFn → PciFn) (s : State) : (modFn f g s).sge = s.sge := rfl
@[simp] theorem modFn_sio (f : Nat) (g : PciFn → PciFn) (s : State) : (modFn f g s).sio = s.sio := rfl
@[simp] theorem modFn_wdn (f : Nat) (g : PciFn → PciFn) (s : State) : (modFn f g s).wdn = s.wdn := rfl
@[simp] theorem modFn_bat (f : Nat) (g : PciFn → PciFn) (s : State) : (modFn f g s).bat = s.bat := rfl
@[simp] theorem modFn_plt (f : Nat) (g : PciFn → PciFn) (s : State) : (modFn f g s).plt = s.plt := rfl
@[simp] theorem modFn_can (f : Nat) (g : PciFn → PciFn) (s : State) : (modFn f g s).can = s.can := rfl
@[simp] theorem modFn_lbl (f : Nat) (g : PciFn → PciFn) (s : State) : (modFn f g s).lbl = s.lbl := rfl
@[simp] theorem modFn_xsp (f : Nat) (g : PciFn → PciFn) (s : State) : (modFn f g s).xsp = s.xsp := rfl
@[simp] theorem modFn_lat (f : Nat) (g : PciFn → PciFn) (s : State) : (modFn f g s).lat = s.lat := rfl
@[simp] theorem modFn_otp (f : Nat) (g : PciFn → PciFn) (s : State) : (modFn f g s).otp = s.otp := rfl
@[simp] theorem modFn_flash (f : Nat) (g : PciFn → PciFn) (s : State) : (modFn f g s).flash = s.flash := rfl
@[simp] theorem modFn_lcy (f : Nat) (g : PciFn → PciFn) (s : State) : (modFn f g s).lcy = s.lcy := rfl
@[simp] theorem modFn_cnt (f : Nat) (g : PciFn → PciFn) (s : State) : (modFn f g s).cnt = s.cnt := rfl

@[simp] theorem modCan_pending (f : Can → Can) (s : State) : (modCan f s).pending = s.pending := rfl
@[simp] theorem modCan_free (f : Can → Can) (s : State) : (modCan f s).free = s.free := rfl
@[simp] theorem modCan_out (f : Can → Can) (s : State) : (modCan f s).out = s.out := rfl
@[simp] theorem modCan_us (f : Can → Can) (s : State) : (modCan f s).us = s.us := rfl
@[simp] theorem modCan_log (f : Can → Can) (s : State) : (modCan f s).log = s.log := rfl
@[simp] theorem modCan_rst (f : Can → Can) (s : State) : (modCan f s).rst = s.rst := rfl
@[simp] theorem modCan_cmd (f : Can → Can) (s : State) : (modCan f s).cmd = s.cmd := rfl
@[simp] theorem modCan_aon (f : Can → Can) (s : State) : (modCan f s).aon = s.aon := rfl
@[simp] theorem modCan_pmc (f : Can → Can) (s : State) : (modCan f s).pmc = s.pmc := rfl
@[simp] theorem modCan_dom (f : Can → Can) (s : State) : (modCan f s).dom = s.dom := rfl
@[simp] theorem modCan_ckg (f : Can → Can) (s : State) : (modCan f s).ckg = s.ckg := rfl
@[simp] theorem modCan_hkp (f : Can → Can) (s : State) : (modCan f s).hkp = s.hkp := rfl
@[simp] theorem modCan_ddr0 (f : Can → Can) (s : State) : (modCan f s).ddr0 = s.ddr0 := rfl
@[simp] theorem modCan_ddr1 (f : Can → Can) (s : State) : (modCan f s).ddr1 = s.ddr1 := rfl
@[simp] theorem modCan_mem (f : Can → Can) (s : State) : (modCan f s).mem = s.mem := rfl
@[simp] theorem modCan_pce (f : Can → Can) (s : State) : (modCan f s).pce = s.pce := rfl
@[simp] theorem modCan_host (f : Can → Can) (s : State) : (modCan f s).host = s.host := rfl
@[simp] theorem modCan_cad (f : Can → Can) (s : State) : (modCan f s).cad = s.cad := rfl
@[simp] theorem modCan_net (f : Can → Can) (s : State) : (modCan f s).net = s.net := rfl
@[simp] theorem modCan_cry (f : Can → Can) (s : State) : (modCan f s).cry = s.cry := rfl
@[simp] theorem modCan_sto (f : Can → Can) (s : State) : (modCan f s).sto = s.sto := rfl
@[simp] theorem modCan_sge (f : Can → Can) (s : State) : (modCan f s).sge = s.sge := rfl
@[simp] theorem modCan_sio (f : Can → Can) (s : State) : (modCan f s).sio = s.sio := rfl
@[simp] theorem modCan_wdn (f : Can → Can) (s : State) : (modCan f s).wdn = s.wdn := rfl
@[simp] theorem modCan_bat (f : Can → Can) (s : State) : (modCan f s).bat = s.bat := rfl
@[simp] theorem modCan_plt (f : Can → Can) (s : State) : (modCan f s).plt = s.plt := rfl
@[simp] theorem modCan_can (f : Can → Can) (s : State) : (modCan f s).can = f s.can := rfl
@[simp] theorem modCan_lbl (f : Can → Can) (s : State) : (modCan f s).lbl = s.lbl := rfl
@[simp] theorem modCan_xsp (f : Can → Can) (s : State) : (modCan f s).xsp = s.xsp := rfl
@[simp] theorem modCan_lat (f : Can → Can) (s : State) : (modCan f s).lat = s.lat := rfl
@[simp] theorem modCan_otp (f : Can → Can) (s : State) : (modCan f s).otp = s.otp := rfl
@[simp] theorem modCan_flash (f : Can → Can) (s : State) : (modCan f s).flash = s.flash := rfl
@[simp] theorem modCan_lcy (f : Can → Can) (s : State) : (modCan f s).lcy = s.lcy := rfl
@[simp] theorem modCan_cnt (f : Can → Can) (s : State) : (modCan f s).cnt = s.cnt := rfl

@[simp] theorem modPlt_pending (f : Plt → Plt) (s : State) : (modPlt f s).pending = s.pending := rfl
@[simp] theorem modPlt_free (f : Plt → Plt) (s : State) : (modPlt f s).free = s.free := rfl
@[simp] theorem modPlt_out (f : Plt → Plt) (s : State) : (modPlt f s).out = s.out := rfl
@[simp] theorem modPlt_us (f : Plt → Plt) (s : State) : (modPlt f s).us = s.us := rfl
@[simp] theorem modPlt_log (f : Plt → Plt) (s : State) : (modPlt f s).log = s.log := rfl
@[simp] theorem modPlt_rst (f : Plt → Plt) (s : State) : (modPlt f s).rst = s.rst := rfl
@[simp] theorem modPlt_cmd (f : Plt → Plt) (s : State) : (modPlt f s).cmd = s.cmd := rfl
@[simp] theorem modPlt_aon (f : Plt → Plt) (s : State) : (modPlt f s).aon = s.aon := rfl
@[simp] theorem modPlt_pmc (f : Plt → Plt) (s : State) : (modPlt f s).pmc = s.pmc := rfl
@[simp] theorem modPlt_dom (f : Plt → Plt) (s : State) : (modPlt f s).dom = s.dom := rfl
@[simp] theorem modPlt_ckg (f : Plt → Plt) (s : State) : (modPlt f s).ckg = s.ckg := rfl
@[simp] theorem modPlt_hkp (f : Plt → Plt) (s : State) : (modPlt f s).hkp = s.hkp := rfl
@[simp] theorem modPlt_ddr0 (f : Plt → Plt) (s : State) : (modPlt f s).ddr0 = s.ddr0 := rfl
@[simp] theorem modPlt_ddr1 (f : Plt → Plt) (s : State) : (modPlt f s).ddr1 = s.ddr1 := rfl
@[simp] theorem modPlt_mem (f : Plt → Plt) (s : State) : (modPlt f s).mem = s.mem := rfl
@[simp] theorem modPlt_pce (f : Plt → Plt) (s : State) : (modPlt f s).pce = s.pce := rfl
@[simp] theorem modPlt_host (f : Plt → Plt) (s : State) : (modPlt f s).host = s.host := rfl
@[simp] theorem modPlt_cad (f : Plt → Plt) (s : State) : (modPlt f s).cad = s.cad := rfl
@[simp] theorem modPlt_net (f : Plt → Plt) (s : State) : (modPlt f s).net = s.net := rfl
@[simp] theorem modPlt_cry (f : Plt → Plt) (s : State) : (modPlt f s).cry = s.cry := rfl
@[simp] theorem modPlt_sto (f : Plt → Plt) (s : State) : (modPlt f s).sto = s.sto := rfl
@[simp] theorem modPlt_sge (f : Plt → Plt) (s : State) : (modPlt f s).sge = s.sge := rfl
@[simp] theorem modPlt_sio (f : Plt → Plt) (s : State) : (modPlt f s).sio = s.sio := rfl
@[simp] theorem modPlt_wdn (f : Plt → Plt) (s : State) : (modPlt f s).wdn = s.wdn := rfl
@[simp] theorem modPlt_bat (f : Plt → Plt) (s : State) : (modPlt f s).bat = s.bat := rfl
@[simp] theorem modPlt_plt (f : Plt → Plt) (s : State) : (modPlt f s).plt = f s.plt := rfl
@[simp] theorem modPlt_can (f : Plt → Plt) (s : State) : (modPlt f s).can = s.can := rfl
@[simp] theorem modPlt_lbl (f : Plt → Plt) (s : State) : (modPlt f s).lbl = s.lbl := rfl
@[simp] theorem modPlt_xsp (f : Plt → Plt) (s : State) : (modPlt f s).xsp = s.xsp := rfl
@[simp] theorem modPlt_lat (f : Plt → Plt) (s : State) : (modPlt f s).lat = s.lat := rfl
@[simp] theorem modPlt_otp (f : Plt → Plt) (s : State) : (modPlt f s).otp = s.otp := rfl
@[simp] theorem modPlt_flash (f : Plt → Plt) (s : State) : (modPlt f s).flash = s.flash := rfl
@[simp] theorem modPlt_lcy (f : Plt → Plt) (s : State) : (modPlt f s).lcy = s.lcy := rfl
@[simp] theorem modPlt_cnt (f : Plt → Plt) (s : State) : (modPlt f s).cnt = s.cnt := rfl

@[simp] theorem modWatch_pending (w : Nat) (f : Watch → Watch) (s : State) : (modWatch w f s).pending = s.pending := rfl
@[simp] theorem modWatch_free (w : Nat) (f : Watch → Watch) (s : State) : (modWatch w f s).free = s.free := rfl
@[simp] theorem modWatch_out (w : Nat) (f : Watch → Watch) (s : State) : (modWatch w f s).out = s.out := rfl
@[simp] theorem modWatch_us (w : Nat) (f : Watch → Watch) (s : State) : (modWatch w f s).us = s.us := rfl
@[simp] theorem modWatch_log (w : Nat) (f : Watch → Watch) (s : State) : (modWatch w f s).log = s.log := rfl
@[simp] theorem modWatch_rst (w : Nat) (f : Watch → Watch) (s : State) : (modWatch w f s).rst = s.rst := rfl
@[simp] theorem modWatch_cmd (w : Nat) (f : Watch → Watch) (s : State) : (modWatch w f s).cmd = s.cmd := rfl
@[simp] theorem modWatch_aon (w : Nat) (f : Watch → Watch) (s : State) : (modWatch w f s).aon = s.aon := rfl
@[simp] theorem modWatch_pmc (w : Nat) (f : Watch → Watch) (s : State) : (modWatch w f s).pmc = s.pmc := rfl
@[simp] theorem modWatch_dom (w : Nat) (f : Watch → Watch) (s : State) : (modWatch w f s).dom = s.dom := rfl
@[simp] theorem modWatch_ckg (w : Nat) (f : Watch → Watch) (s : State) : (modWatch w f s).ckg = s.ckg := rfl
@[simp] theorem modWatch_hkp (w : Nat) (f : Watch → Watch) (s : State) : (modWatch w f s).hkp = s.hkp := rfl
@[simp] theorem modWatch_ddr0 (w : Nat) (f : Watch → Watch) (s : State) : (modWatch w f s).ddr0 = s.ddr0 := rfl
@[simp] theorem modWatch_ddr1 (w : Nat) (f : Watch → Watch) (s : State) : (modWatch w f s).ddr1 = s.ddr1 := rfl
@[simp] theorem modWatch_mem (w : Nat) (f : Watch → Watch) (s : State) : (modWatch w f s).mem = s.mem := rfl
@[simp] theorem modWatch_pce (w : Nat) (f : Watch → Watch) (s : State) : (modWatch w f s).pce = s.pce := rfl
@[simp] theorem modWatch_host (w : Nat) (f : Watch → Watch) (s : State) : (modWatch w f s).host = s.host := rfl
@[simp] theorem modWatch_cad (w : Nat) (f : Watch → Watch) (s : State) : (modWatch w f s).cad = s.cad := rfl
@[simp] theorem modWatch_net (w : Nat) (f : Watch → Watch) (s : State) : (modWatch w f s).net = s.net := rfl
@[simp] theorem modWatch_cry (w : Nat) (f : Watch → Watch) (s : State) : (modWatch w f s).cry = s.cry := rfl
@[simp] theorem modWatch_sto (w : Nat) (f : Watch → Watch) (s : State) : (modWatch w f s).sto = s.sto := rfl
@[simp] theorem modWatch_sge (w : Nat) (f : Watch → Watch) (s : State) : (modWatch w f s).sge = s.sge := rfl
@[simp] theorem modWatch_sio (w : Nat) (f : Watch → Watch) (s : State) : (modWatch w f s).sio = s.sio := rfl
@[simp] theorem modWatch_wdn (w : Nat) (f : Watch → Watch) (s : State) : (modWatch w f s).wdn = s.wdn := rfl
@[simp] theorem modWatch_bat (w : Nat) (f : Watch → Watch) (s : State) : (modWatch w f s).bat = s.bat := rfl
@[simp] theorem modWatch_can (w : Nat) (f : Watch → Watch) (s : State) : (modWatch w f s).can = s.can := rfl
@[simp] theorem modWatch_lbl (w : Nat) (f : Watch → Watch) (s : State) : (modWatch w f s).lbl = s.lbl := rfl
@[simp] theorem modWatch_xsp (w : Nat) (f : Watch → Watch) (s : State) : (modWatch w f s).xsp = s.xsp := rfl
@[simp] theorem modWatch_lat (w : Nat) (f : Watch → Watch) (s : State) : (modWatch w f s).lat = s.lat := rfl
@[simp] theorem modWatch_otp (w : Nat) (f : Watch → Watch) (s : State) : (modWatch w f s).otp = s.otp := rfl
@[simp] theorem modWatch_flash (w : Nat) (f : Watch → Watch) (s : State) : (modWatch w f s).flash = s.flash := rfl
@[simp] theorem modWatch_lcy (w : Nat) (f : Watch → Watch) (s : State) : (modWatch w f s).lcy = s.lcy := rfl
@[simp] theorem modWatch_cnt (w : Nat) (f : Watch → Watch) (s : State) : (modWatch w f s).cnt = s.cnt := rfl

@[simp] theorem modBat_pending (f : Battery → Battery) (s : State) : (modBat f s).pending = s.pending := rfl
@[simp] theorem modBat_free (f : Battery → Battery) (s : State) : (modBat f s).free = s.free := rfl
@[simp] theorem modBat_out (f : Battery → Battery) (s : State) : (modBat f s).out = s.out := rfl
@[simp] theorem modBat_us (f : Battery → Battery) (s : State) : (modBat f s).us = s.us := rfl
@[simp] theorem modBat_log (f : Battery → Battery) (s : State) : (modBat f s).log = s.log := rfl
@[simp] theorem modBat_rst (f : Battery → Battery) (s : State) : (modBat f s).rst = s.rst := rfl
@[simp] theorem modBat_cmd (f : Battery → Battery) (s : State) : (modBat f s).cmd = s.cmd := rfl
@[simp] theorem modBat_aon (f : Battery → Battery) (s : State) : (modBat f s).aon = s.aon := rfl
@[simp] theorem modBat_pmc (f : Battery → Battery) (s : State) : (modBat f s).pmc = s.pmc := rfl
@[simp] theorem modBat_dom (f : Battery → Battery) (s : State) : (modBat f s).dom = s.dom := rfl
@[simp] theorem modBat_ckg (f : Battery → Battery) (s : State) : (modBat f s).ckg = s.ckg := rfl
@[simp] theorem modBat_hkp (f : Battery → Battery) (s : State) : (modBat f s).hkp = s.hkp := rfl
@[simp] theorem modBat_ddr0 (f : Battery → Battery) (s : State) : (modBat f s).ddr0 = s.ddr0 := rfl
@[simp] theorem modBat_ddr1 (f : Battery → Battery) (s : State) : (modBat f s).ddr1 = s.ddr1 := rfl
@[simp] theorem modBat_mem (f : Battery → Battery) (s : State) : (modBat f s).mem = s.mem := rfl
@[simp] theorem modBat_pce (f : Battery → Battery) (s : State) : (modBat f s).pce = s.pce := rfl
@[simp] theorem modBat_host (f : Battery → Battery) (s : State) : (modBat f s).host = s.host := rfl
@[simp] theorem modBat_cad (f : Battery → Battery) (s : State) : (modBat f s).cad = s.cad := rfl
@[simp] theorem modBat_net (f : Battery → Battery) (s : State) : (modBat f s).net = s.net := rfl
@[simp] theorem modBat_cry (f : Battery → Battery) (s : State) : (modBat f s).cry = s.cry := rfl
@[simp] theorem modBat_sto (f : Battery → Battery) (s : State) : (modBat f s).sto = s.sto := rfl
@[simp] theorem modBat_sge (f : Battery → Battery) (s : State) : (modBat f s).sge = s.sge := rfl
@[simp] theorem modBat_sio (f : Battery → Battery) (s : State) : (modBat f s).sio = s.sio := rfl
@[simp] theorem modBat_wdn (f : Battery → Battery) (s : State) : (modBat f s).wdn = s.wdn := rfl
@[simp] theorem modBat_bat (f : Battery → Battery) (s : State) : (modBat f s).bat = f s.bat := rfl
@[simp] theorem modBat_plt (f : Battery → Battery) (s : State) : (modBat f s).plt = s.plt := rfl
@[simp] theorem modBat_can (f : Battery → Battery) (s : State) : (modBat f s).can = s.can := rfl
@[simp] theorem modBat_lbl (f : Battery → Battery) (s : State) : (modBat f s).lbl = s.lbl := rfl
@[simp] theorem modBat_xsp (f : Battery → Battery) (s : State) : (modBat f s).xsp = s.xsp := rfl
@[simp] theorem modBat_lat (f : Battery → Battery) (s : State) : (modBat f s).lat = s.lat := rfl
@[simp] theorem modBat_otp (f : Battery → Battery) (s : State) : (modBat f s).otp = s.otp := rfl
@[simp] theorem modBat_flash (f : Battery → Battery) (s : State) : (modBat f s).flash = s.flash := rfl
@[simp] theorem modBat_lcy (f : Battery → Battery) (s : State) : (modBat f s).lcy = s.lcy := rfl
@[simp] theorem modBat_cnt (f : Battery → Battery) (s : State) : (modBat f s).cnt = s.cnt := rfl

@[simp] theorem modKeep_pending (f : BatKeep → BatKeep) (s : State) : (modKeep f s).pending = s.pending := rfl
@[simp] theorem modKeep_free (f : BatKeep → BatKeep) (s : State) : (modKeep f s).free = s.free := rfl
@[simp] theorem modKeep_out (f : BatKeep → BatKeep) (s : State) : (modKeep f s).out = s.out := rfl
@[simp] theorem modKeep_us (f : BatKeep → BatKeep) (s : State) : (modKeep f s).us = s.us := rfl
@[simp] theorem modKeep_log (f : BatKeep → BatKeep) (s : State) : (modKeep f s).log = s.log := rfl
@[simp] theorem modKeep_rst (f : BatKeep → BatKeep) (s : State) : (modKeep f s).rst = s.rst := rfl
@[simp] theorem modKeep_cmd (f : BatKeep → BatKeep) (s : State) : (modKeep f s).cmd = s.cmd := rfl
@[simp] theorem modKeep_aon (f : BatKeep → BatKeep) (s : State) : (modKeep f s).aon = { s.aon with bat := f s.aon.bat } := rfl
@[simp] theorem modKeep_pmc (f : BatKeep → BatKeep) (s : State) : (modKeep f s).pmc = s.pmc := rfl
@[simp] theorem modKeep_dom (f : BatKeep → BatKeep) (s : State) : (modKeep f s).dom = s.dom := rfl
@[simp] theorem modKeep_ckg (f : BatKeep → BatKeep) (s : State) : (modKeep f s).ckg = s.ckg := rfl
@[simp] theorem modKeep_hkp (f : BatKeep → BatKeep) (s : State) : (modKeep f s).hkp = s.hkp := rfl
@[simp] theorem modKeep_ddr0 (f : BatKeep → BatKeep) (s : State) : (modKeep f s).ddr0 = s.ddr0 := rfl
@[simp] theorem modKeep_ddr1 (f : BatKeep → BatKeep) (s : State) : (modKeep f s).ddr1 = s.ddr1 := rfl
@[simp] theorem modKeep_mem (f : BatKeep → BatKeep) (s : State) : (modKeep f s).mem = s.mem := rfl
@[simp] theorem modKeep_pce (f : BatKeep → BatKeep) (s : State) : (modKeep f s).pce = s.pce := rfl
@[simp] theorem modKeep_host (f : BatKeep → BatKeep) (s : State) : (modKeep f s).host = s.host := rfl
@[simp] theorem modKeep_cad (f : BatKeep → BatKeep) (s : State) : (modKeep f s).cad = s.cad := rfl
@[simp] theorem modKeep_net (f : BatKeep → BatKeep) (s : State) : (modKeep f s).net = s.net := rfl
@[simp] theorem modKeep_cry (f : BatKeep → BatKeep) (s : State) : (modKeep f s).cry = s.cry := rfl
@[simp] theorem modKeep_sto (f : BatKeep → BatKeep) (s : State) : (modKeep f s).sto = s.sto := rfl
@[simp] theorem modKeep_sge (f : BatKeep → BatKeep) (s : State) : (modKeep f s).sge = s.sge := rfl
@[simp] theorem modKeep_sio (f : BatKeep → BatKeep) (s : State) : (modKeep f s).sio = s.sio := rfl
@[simp] theorem modKeep_wdn (f : BatKeep → BatKeep) (s : State) : (modKeep f s).wdn = s.wdn := rfl
@[simp] theorem modKeep_bat (f : BatKeep → BatKeep) (s : State) : (modKeep f s).bat = s.bat := rfl
@[simp] theorem modKeep_plt (f : BatKeep → BatKeep) (s : State) : (modKeep f s).plt = s.plt := rfl
@[simp] theorem modKeep_can (f : BatKeep → BatKeep) (s : State) : (modKeep f s).can = s.can := rfl
@[simp] theorem modKeep_lbl (f : BatKeep → BatKeep) (s : State) : (modKeep f s).lbl = s.lbl := rfl
@[simp] theorem modKeep_xsp (f : BatKeep → BatKeep) (s : State) : (modKeep f s).xsp = s.xsp := rfl
@[simp] theorem modKeep_lat (f : BatKeep → BatKeep) (s : State) : (modKeep f s).lat = s.lat := rfl
@[simp] theorem modKeep_otp (f : BatKeep → BatKeep) (s : State) : (modKeep f s).otp = s.otp := rfl
@[simp] theorem modKeep_flash (f : BatKeep → BatKeep) (s : State) : (modKeep f s).flash = s.flash := rfl
@[simp] theorem modKeep_lcy (f : BatKeep → BatKeep) (s : State) : (modKeep f s).lcy = s.lcy := rfl
@[simp] theorem modKeep_cnt (f : BatKeep → BatKeep) (s : State) : (modKeep f s).cnt = s.cnt := rfl

@[simp] theorem modVf_pending (f : Nat) (g : Vf → Vf) (s : State) : (modVf f g s).pending = s.pending := rfl
@[simp] theorem modVf_free (f : Nat) (g : Vf → Vf) (s : State) : (modVf f g s).free = s.free := rfl
@[simp] theorem modVf_out (f : Nat) (g : Vf → Vf) (s : State) : (modVf f g s).out = s.out := rfl
@[simp] theorem modVf_us (f : Nat) (g : Vf → Vf) (s : State) : (modVf f g s).us = s.us := rfl
@[simp] theorem modVf_log (f : Nat) (g : Vf → Vf) (s : State) : (modVf f g s).log = s.log := rfl
@[simp] theorem modVf_rst (f : Nat) (g : Vf → Vf) (s : State) : (modVf f g s).rst = s.rst := rfl
@[simp] theorem modVf_cmd (f : Nat) (g : Vf → Vf) (s : State) : (modVf f g s).cmd = s.cmd := rfl
@[simp] theorem modVf_aon (f : Nat) (g : Vf → Vf) (s : State) : (modVf f g s).aon = s.aon := rfl
@[simp] theorem modVf_pmc (f : Nat) (g : Vf → Vf) (s : State) : (modVf f g s).pmc = s.pmc := rfl
@[simp] theorem modVf_dom (f : Nat) (g : Vf → Vf) (s : State) : (modVf f g s).dom = s.dom := rfl
@[simp] theorem modVf_ckg (f : Nat) (g : Vf → Vf) (s : State) : (modVf f g s).ckg = s.ckg := rfl
@[simp] theorem modVf_hkp (f : Nat) (g : Vf → Vf) (s : State) : (modVf f g s).hkp = s.hkp := rfl
@[simp] theorem modVf_ddr0 (f : Nat) (g : Vf → Vf) (s : State) : (modVf f g s).ddr0 = s.ddr0 := rfl
@[simp] theorem modVf_ddr1 (f : Nat) (g : Vf → Vf) (s : State) : (modVf f g s).ddr1 = s.ddr1 := rfl
@[simp] theorem modVf_mem (f : Nat) (g : Vf → Vf) (s : State) : (modVf f g s).mem = s.mem := rfl
@[simp] theorem modVf_pce (f : Nat) (g : Vf → Vf) (s : State) : (modVf f g s).pce = s.pce := rfl
@[simp] theorem modVf_host (f : Nat) (g : Vf → Vf) (s : State) : (modVf f g s).host = { s.host with vfs := tmod {} s.host.vfs f g } := rfl
@[simp] theorem modVf_cad (f : Nat) (g : Vf → Vf) (s : State) : (modVf f g s).cad = s.cad := rfl
@[simp] theorem modVf_net (f : Nat) (g : Vf → Vf) (s : State) : (modVf f g s).net = s.net := rfl
@[simp] theorem modVf_cry (f : Nat) (g : Vf → Vf) (s : State) : (modVf f g s).cry = s.cry := rfl
@[simp] theorem modVf_sto (f : Nat) (g : Vf → Vf) (s : State) : (modVf f g s).sto = s.sto := rfl
@[simp] theorem modVf_sge (f : Nat) (g : Vf → Vf) (s : State) : (modVf f g s).sge = s.sge := rfl
@[simp] theorem modVf_sio (f : Nat) (g : Vf → Vf) (s : State) : (modVf f g s).sio = s.sio := rfl
@[simp] theorem modVf_wdn (f : Nat) (g : Vf → Vf) (s : State) : (modVf f g s).wdn = s.wdn := rfl
@[simp] theorem modVf_bat (f : Nat) (g : Vf → Vf) (s : State) : (modVf f g s).bat = s.bat := rfl
@[simp] theorem modVf_plt (f : Nat) (g : Vf → Vf) (s : State) : (modVf f g s).plt = s.plt := rfl
@[simp] theorem modVf_can (f : Nat) (g : Vf → Vf) (s : State) : (modVf f g s).can = s.can := rfl
@[simp] theorem modVf_lbl (f : Nat) (g : Vf → Vf) (s : State) : (modVf f g s).lbl = s.lbl := rfl
@[simp] theorem modVf_xsp (f : Nat) (g : Vf → Vf) (s : State) : (modVf f g s).xsp = s.xsp := rfl
@[simp] theorem modVf_lat (f : Nat) (g : Vf → Vf) (s : State) : (modVf f g s).lat = s.lat := rfl
@[simp] theorem modVf_otp (f : Nat) (g : Vf → Vf) (s : State) : (modVf f g s).otp = s.otp := rfl
@[simp] theorem modVf_flash (f : Nat) (g : Vf → Vf) (s : State) : (modVf f g s).flash = s.flash := rfl
@[simp] theorem modVf_lcy (f : Nat) (g : Vf → Vf) (s : State) : (modVf f g s).lcy = s.lcy := rfl
@[simp] theorem modVf_cnt (f : Nat) (g : Vf → Vf) (s : State) : (modVf f g s).cnt = s.cnt := rfl

@[simp] theorem setRing_pending (g : Nat) (r : Option Ring) (s : State) : (setRing g r s).pending = s.pending := rfl
@[simp] theorem setRing_free (g : Nat) (r : Option Ring) (s : State) : (setRing g r s).free = s.free := rfl
@[simp] theorem setRing_out (g : Nat) (r : Option Ring) (s : State) : (setRing g r s).out = s.out := rfl
@[simp] theorem setRing_us (g : Nat) (r : Option Ring) (s : State) : (setRing g r s).us = s.us := rfl
@[simp] theorem setRing_log (g : Nat) (r : Option Ring) (s : State) : (setRing g r s).log = s.log := rfl
@[simp] theorem setRing_rst (g : Nat) (r : Option Ring) (s : State) : (setRing g r s).rst = s.rst := rfl
@[simp] theorem setRing_cmd (g : Nat) (r : Option Ring) (s : State) : (setRing g r s).cmd = s.cmd := rfl
@[simp] theorem setRing_aon (g : Nat) (r : Option Ring) (s : State) : (setRing g r s).aon = s.aon := rfl
@[simp] theorem setRing_pmc (g : Nat) (r : Option Ring) (s : State) : (setRing g r s).pmc = s.pmc := rfl
@[simp] theorem setRing_dom (g : Nat) (r : Option Ring) (s : State) : (setRing g r s).dom = s.dom := rfl
@[simp] theorem setRing_ckg (g : Nat) (r : Option Ring) (s : State) : (setRing g r s).ckg = s.ckg := rfl
@[simp] theorem setRing_hkp (g : Nat) (r : Option Ring) (s : State) : (setRing g r s).hkp = s.hkp := rfl
@[simp] theorem setRing_ddr0 (g : Nat) (r : Option Ring) (s : State) : (setRing g r s).ddr0 = s.ddr0 := rfl
@[simp] theorem setRing_ddr1 (g : Nat) (r : Option Ring) (s : State) : (setRing g r s).ddr1 = s.ddr1 := rfl
@[simp] theorem setRing_mem (g : Nat) (r : Option Ring) (s : State) : (setRing g r s).mem = s.mem := rfl
@[simp] theorem setRing_pce (g : Nat) (r : Option Ring) (s : State) : (setRing g r s).pce = s.pce := rfl
@[simp] theorem setRing_host (g : Nat) (r : Option Ring) (s : State) : (setRing g r s).host = { s.host with rings := tput none s.host.rings g r } := rfl
@[simp] theorem setRing_cad (g : Nat) (r : Option Ring) (s : State) : (setRing g r s).cad = s.cad := rfl
@[simp] theorem setRing_net (g : Nat) (r : Option Ring) (s : State) : (setRing g r s).net = s.net := rfl
@[simp] theorem setRing_cry (g : Nat) (r : Option Ring) (s : State) : (setRing g r s).cry = s.cry := rfl
@[simp] theorem setRing_sto (g : Nat) (r : Option Ring) (s : State) : (setRing g r s).sto = s.sto := rfl
@[simp] theorem setRing_sge (g : Nat) (r : Option Ring) (s : State) : (setRing g r s).sge = s.sge := rfl
@[simp] theorem setRing_sio (g : Nat) (r : Option Ring) (s : State) : (setRing g r s).sio = s.sio := rfl
@[simp] theorem setRing_wdn (g : Nat) (r : Option Ring) (s : State) : (setRing g r s).wdn = s.wdn := rfl
@[simp] theorem setRing_bat (g : Nat) (r : Option Ring) (s : State) : (setRing g r s).bat = s.bat := rfl
@[simp] theorem setRing_plt (g : Nat) (r : Option Ring) (s : State) : (setRing g r s).plt = s.plt := rfl
@[simp] theorem setRing_can (g : Nat) (r : Option Ring) (s : State) : (setRing g r s).can = s.can := rfl
@[simp] theorem setRing_lbl (g : Nat) (r : Option Ring) (s : State) : (setRing g r s).lbl = s.lbl := rfl
@[simp] theorem setRing_xsp (g : Nat) (r : Option Ring) (s : State) : (setRing g r s).xsp = s.xsp := rfl
@[simp] theorem setRing_lat (g : Nat) (r : Option Ring) (s : State) : (setRing g r s).lat = s.lat := rfl
@[simp] theorem setRing_otp (g : Nat) (r : Option Ring) (s : State) : (setRing g r s).otp = s.otp := rfl
@[simp] theorem setRing_flash (g : Nat) (r : Option Ring) (s : State) : (setRing g r s).flash = s.flash := rfl
@[simp] theorem setRing_lcy (g : Nat) (r : Option Ring) (s : State) : (setRing g r s).lcy = s.lcy := rfl
@[simp] theorem setRing_cnt (g : Nat) (r : Option Ring) (s : State) : (setRing g r s).cnt = s.cnt := rfl

@[simp] theorem modPoint_pending (k : Nat) (f : SchPoint → SchPoint) (s : State) : (modPoint k f s).pending = s.pending := rfl
@[simp] theorem modPoint_free (k : Nat) (f : SchPoint → SchPoint) (s : State) : (modPoint k f s).free = s.free := rfl
@[simp] theorem modPoint_out (k : Nat) (f : SchPoint → SchPoint) (s : State) : (modPoint k f s).out = s.out := rfl
@[simp] theorem modPoint_us (k : Nat) (f : SchPoint → SchPoint) (s : State) : (modPoint k f s).us = s.us := rfl
@[simp] theorem modPoint_log (k : Nat) (f : SchPoint → SchPoint) (s : State) : (modPoint k f s).log = s.log := rfl
@[simp] theorem modPoint_rst (k : Nat) (f : SchPoint → SchPoint) (s : State) : (modPoint k f s).rst = s.rst := rfl
@[simp] theorem modPoint_cmd (k : Nat) (f : SchPoint → SchPoint) (s : State) : (modPoint k f s).cmd = s.cmd := rfl
@[simp] theorem modPoint_aon (k : Nat) (f : SchPoint → SchPoint) (s : State) : (modPoint k f s).aon = s.aon := rfl
@[simp] theorem modPoint_pmc (k : Nat) (f : SchPoint → SchPoint) (s : State) : (modPoint k f s).pmc = s.pmc := rfl
@[simp] theorem modPoint_dom (k : Nat) (f : SchPoint → SchPoint) (s : State) : (modPoint k f s).dom = s.dom := rfl
@[simp] theorem modPoint_ckg (k : Nat) (f : SchPoint → SchPoint) (s : State) : (modPoint k f s).ckg = s.ckg := rfl
@[simp] theorem modPoint_hkp (k : Nat) (f : SchPoint → SchPoint) (s : State) : (modPoint k f s).hkp = s.hkp := rfl
@[simp] theorem modPoint_ddr0 (k : Nat) (f : SchPoint → SchPoint) (s : State) : (modPoint k f s).ddr0 = s.ddr0 := rfl
@[simp] theorem modPoint_ddr1 (k : Nat) (f : SchPoint → SchPoint) (s : State) : (modPoint k f s).ddr1 = s.ddr1 := rfl
@[simp] theorem modPoint_mem (k : Nat) (f : SchPoint → SchPoint) (s : State) : (modPoint k f s).mem = s.mem := rfl
@[simp] theorem modPoint_pce (k : Nat) (f : SchPoint → SchPoint) (s : State) : (modPoint k f s).pce = s.pce := rfl
@[simp] theorem modPoint_host (k : Nat) (f : SchPoint → SchPoint) (s : State) : (modPoint k f s).host = s.host := rfl
@[simp] theorem modPoint_cad (k : Nat) (f : SchPoint → SchPoint) (s : State) : (modPoint k f s).cad = s.cad := rfl
@[simp] theorem modPoint_net (k : Nat) (f : SchPoint → SchPoint) (s : State) : (modPoint k f s).net = { s.net with points := tmod {} s.net.points k f } := rfl
@[simp] theorem modPoint_cry (k : Nat) (f : SchPoint → SchPoint) (s : State) : (modPoint k f s).cry = s.cry := rfl
@[simp] theorem modPoint_sto (k : Nat) (f : SchPoint → SchPoint) (s : State) : (modPoint k f s).sto = s.sto := rfl
@[simp] theorem modPoint_sge (k : Nat) (f : SchPoint → SchPoint) (s : State) : (modPoint k f s).sge = s.sge := rfl
@[simp] theorem modPoint_sio (k : Nat) (f : SchPoint → SchPoint) (s : State) : (modPoint k f s).sio = s.sio := rfl
@[simp] theorem modPoint_wdn (k : Nat) (f : SchPoint → SchPoint) (s : State) : (modPoint k f s).wdn = s.wdn := rfl
@[simp] theorem modPoint_bat (k : Nat) (f : SchPoint → SchPoint) (s : State) : (modPoint k f s).bat = s.bat := rfl
@[simp] theorem modPoint_plt (k : Nat) (f : SchPoint → SchPoint) (s : State) : (modPoint k f s).plt = s.plt := rfl
@[simp] theorem modPoint_can (k : Nat) (f : SchPoint → SchPoint) (s : State) : (modPoint k f s).can = s.can := rfl
@[simp] theorem modPoint_lbl (k : Nat) (f : SchPoint → SchPoint) (s : State) : (modPoint k f s).lbl = s.lbl := rfl
@[simp] theorem modPoint_xsp (k : Nat) (f : SchPoint → SchPoint) (s : State) : (modPoint k f s).xsp = s.xsp := rfl
@[simp] theorem modPoint_lat (k : Nat) (f : SchPoint → SchPoint) (s : State) : (modPoint k f s).lat = s.lat := rfl
@[simp] theorem modPoint_otp (k : Nat) (f : SchPoint → SchPoint) (s : State) : (modPoint k f s).otp = s.otp := rfl
@[simp] theorem modPoint_flash (k : Nat) (f : SchPoint → SchPoint) (s : State) : (modPoint k f s).flash = s.flash := rfl
@[simp] theorem modPoint_lcy (k : Nat) (f : SchPoint → SchPoint) (s : State) : (modPoint k f s).lcy = s.lcy := rfl
@[simp] theorem modPoint_cnt (k : Nat) (f : SchPoint → SchPoint) (s : State) : (modPoint k f s).cnt = s.cnt := rfl

@[simp] theorem modPort_pending (p : Nat) (f : Port → Port) (s : State) : (modPort p f s).pending = s.pending := rfl
@[simp] theorem modPort_free (p : Nat) (f : Port → Port) (s : State) : (modPort p f s).free = s.free := rfl
@[simp] theorem modPort_out (p : Nat) (f : Port → Port) (s : State) : (modPort p f s).out = s.out := rfl
@[simp] theorem modPort_us (p : Nat) (f : Port → Port) (s : State) : (modPort p f s).us = s.us := rfl
@[simp] theorem modPort_log (p : Nat) (f : Port → Port) (s : State) : (modPort p f s).log = s.log := rfl
@[simp] theorem modPort_rst (p : Nat) (f : Port → Port) (s : State) : (modPort p f s).rst = s.rst := rfl
@[simp] theorem modPort_cmd (p : Nat) (f : Port → Port) (s : State) : (modPort p f s).cmd = s.cmd := rfl
@[simp] theorem modPort_aon (p : Nat) (f : Port → Port) (s : State) : (modPort p f s).aon = s.aon := rfl
@[simp] theorem modPort_pmc (p : Nat) (f : Port → Port) (s : State) : (modPort p f s).pmc = s.pmc := rfl
@[simp] theorem modPort_dom (p : Nat) (f : Port → Port) (s : State) : (modPort p f s).dom = s.dom := rfl
@[simp] theorem modPort_ckg (p : Nat) (f : Port → Port) (s : State) : (modPort p f s).ckg = s.ckg := rfl
@[simp] theorem modPort_hkp (p : Nat) (f : Port → Port) (s : State) : (modPort p f s).hkp = s.hkp := rfl
@[simp] theorem modPort_ddr0 (p : Nat) (f : Port → Port) (s : State) : (modPort p f s).ddr0 = s.ddr0 := rfl
@[simp] theorem modPort_ddr1 (p : Nat) (f : Port → Port) (s : State) : (modPort p f s).ddr1 = s.ddr1 := rfl
@[simp] theorem modPort_mem (p : Nat) (f : Port → Port) (s : State) : (modPort p f s).mem = s.mem := rfl
@[simp] theorem modPort_pce (p : Nat) (f : Port → Port) (s : State) : (modPort p f s).pce = s.pce := rfl
@[simp] theorem modPort_host (p : Nat) (f : Port → Port) (s : State) : (modPort p f s).host = s.host := rfl
@[simp] theorem modPort_cad (p : Nat) (f : Port → Port) (s : State) : (modPort p f s).cad = s.cad := rfl
@[simp] theorem modPort_net (p : Nat) (f : Port → Port) (s : State) : (modPort p f s).net = { s.net with ports := tmod {} s.net.ports p f } := rfl
@[simp] theorem modPort_cry (p : Nat) (f : Port → Port) (s : State) : (modPort p f s).cry = s.cry := rfl
@[simp] theorem modPort_sto (p : Nat) (f : Port → Port) (s : State) : (modPort p f s).sto = s.sto := rfl
@[simp] theorem modPort_sge (p : Nat) (f : Port → Port) (s : State) : (modPort p f s).sge = s.sge := rfl
@[simp] theorem modPort_sio (p : Nat) (f : Port → Port) (s : State) : (modPort p f s).sio = s.sio := rfl
@[simp] theorem modPort_wdn (p : Nat) (f : Port → Port) (s : State) : (modPort p f s).wdn = s.wdn := rfl
@[simp] theorem modPort_bat (p : Nat) (f : Port → Port) (s : State) : (modPort p f s).bat = s.bat := rfl
@[simp] theorem modPort_plt (p : Nat) (f : Port → Port) (s : State) : (modPort p f s).plt = s.plt := rfl
@[simp] theorem modPort_can (p : Nat) (f : Port → Port) (s : State) : (modPort p f s).can = s.can := rfl
@[simp] theorem modPort_lbl (p : Nat) (f : Port → Port) (s : State) : (modPort p f s).lbl = s.lbl := rfl
@[simp] theorem modPort_xsp (p : Nat) (f : Port → Port) (s : State) : (modPort p f s).xsp = s.xsp := rfl
@[simp] theorem modPort_lat (p : Nat) (f : Port → Port) (s : State) : (modPort p f s).lat = s.lat := rfl
@[simp] theorem modPort_otp (p : Nat) (f : Port → Port) (s : State) : (modPort p f s).otp = s.otp := rfl
@[simp] theorem modPort_flash (p : Nat) (f : Port → Port) (s : State) : (modPort p f s).flash = s.flash := rfl
@[simp] theorem modPort_lcy (p : Nat) (f : Port → Port) (s : State) : (modPort p f s).lcy = s.lcy := rfl
@[simp] theorem modPort_cnt (p : Nat) (f : Port → Port) (s : State) : (modPort p f s).cnt = s.cnt := rfl

@[simp] theorem modAgg_pending (a : Nat) (f : Agg → Agg) (s : State) : (modAgg a f s).pending = s.pending := rfl
@[simp] theorem modAgg_free (a : Nat) (f : Agg → Agg) (s : State) : (modAgg a f s).free = s.free := rfl
@[simp] theorem modAgg_out (a : Nat) (f : Agg → Agg) (s : State) : (modAgg a f s).out = s.out := rfl
@[simp] theorem modAgg_us (a : Nat) (f : Agg → Agg) (s : State) : (modAgg a f s).us = s.us := rfl
@[simp] theorem modAgg_log (a : Nat) (f : Agg → Agg) (s : State) : (modAgg a f s).log = s.log := rfl
@[simp] theorem modAgg_rst (a : Nat) (f : Agg → Agg) (s : State) : (modAgg a f s).rst = s.rst := rfl
@[simp] theorem modAgg_cmd (a : Nat) (f : Agg → Agg) (s : State) : (modAgg a f s).cmd = s.cmd := rfl
@[simp] theorem modAgg_aon (a : Nat) (f : Agg → Agg) (s : State) : (modAgg a f s).aon = s.aon := rfl
@[simp] theorem modAgg_pmc (a : Nat) (f : Agg → Agg) (s : State) : (modAgg a f s).pmc = s.pmc := rfl
@[simp] theorem modAgg_dom (a : Nat) (f : Agg → Agg) (s : State) : (modAgg a f s).dom = s.dom := rfl
@[simp] theorem modAgg_ckg (a : Nat) (f : Agg → Agg) (s : State) : (modAgg a f s).ckg = s.ckg := rfl
@[simp] theorem modAgg_hkp (a : Nat) (f : Agg → Agg) (s : State) : (modAgg a f s).hkp = s.hkp := rfl
@[simp] theorem modAgg_ddr0 (a : Nat) (f : Agg → Agg) (s : State) : (modAgg a f s).ddr0 = s.ddr0 := rfl
@[simp] theorem modAgg_ddr1 (a : Nat) (f : Agg → Agg) (s : State) : (modAgg a f s).ddr1 = s.ddr1 := rfl
@[simp] theorem modAgg_mem (a : Nat) (f : Agg → Agg) (s : State) : (modAgg a f s).mem = s.mem := rfl
@[simp] theorem modAgg_pce (a : Nat) (f : Agg → Agg) (s : State) : (modAgg a f s).pce = s.pce := rfl
@[simp] theorem modAgg_host (a : Nat) (f : Agg → Agg) (s : State) : (modAgg a f s).host = s.host := rfl
@[simp] theorem modAgg_cad (a : Nat) (f : Agg → Agg) (s : State) : (modAgg a f s).cad = s.cad := rfl
@[simp] theorem modAgg_net (a : Nat) (f : Agg → Agg) (s : State) : (modAgg a f s).net = { s.net with aggs := tmod {} s.net.aggs a f } := rfl
@[simp] theorem modAgg_cry (a : Nat) (f : Agg → Agg) (s : State) : (modAgg a f s).cry = s.cry := rfl
@[simp] theorem modAgg_sto (a : Nat) (f : Agg → Agg) (s : State) : (modAgg a f s).sto = s.sto := rfl
@[simp] theorem modAgg_sge (a : Nat) (f : Agg → Agg) (s : State) : (modAgg a f s).sge = s.sge := rfl
@[simp] theorem modAgg_sio (a : Nat) (f : Agg → Agg) (s : State) : (modAgg a f s).sio = s.sio := rfl
@[simp] theorem modAgg_wdn (a : Nat) (f : Agg → Agg) (s : State) : (modAgg a f s).wdn = s.wdn := rfl
@[simp] theorem modAgg_bat (a : Nat) (f : Agg → Agg) (s : State) : (modAgg a f s).bat = s.bat := rfl
@[simp] theorem modAgg_plt (a : Nat) (f : Agg → Agg) (s : State) : (modAgg a f s).plt = s.plt := rfl
@[simp] theorem modAgg_can (a : Nat) (f : Agg → Agg) (s : State) : (modAgg a f s).can = s.can := rfl
@[simp] theorem modAgg_lbl (a : Nat) (f : Agg → Agg) (s : State) : (modAgg a f s).lbl = s.lbl := rfl
@[simp] theorem modAgg_xsp (a : Nat) (f : Agg → Agg) (s : State) : (modAgg a f s).xsp = s.xsp := rfl
@[simp] theorem modAgg_lat (a : Nat) (f : Agg → Agg) (s : State) : (modAgg a f s).lat = s.lat := rfl
@[simp] theorem modAgg_otp (a : Nat) (f : Agg → Agg) (s : State) : (modAgg a f s).otp = s.otp := rfl
@[simp] theorem modAgg_flash (a : Nat) (f : Agg → Agg) (s : State) : (modAgg a f s).flash = s.flash := rfl
@[simp] theorem modAgg_lcy (a : Nat) (f : Agg → Agg) (s : State) : (modAgg a f s).lcy = s.lcy := rfl
@[simp] theorem modAgg_cnt (a : Nat) (f : Agg → Agg) (s : State) : (modAgg a f s).cnt = s.cnt := rfl

@[simp] theorem modXsp_pending (f : Xsp → Xsp) (s : State) : (modXsp f s).pending = s.pending := rfl
@[simp] theorem modXsp_free (f : Xsp → Xsp) (s : State) : (modXsp f s).free = s.free := rfl
@[simp] theorem modXsp_out (f : Xsp → Xsp) (s : State) : (modXsp f s).out = s.out := rfl
@[simp] theorem modXsp_us (f : Xsp → Xsp) (s : State) : (modXsp f s).us = s.us := rfl
@[simp] theorem modXsp_log (f : Xsp → Xsp) (s : State) : (modXsp f s).log = s.log := rfl
@[simp] theorem modXsp_rst (f : Xsp → Xsp) (s : State) : (modXsp f s).rst = s.rst := rfl
@[simp] theorem modXsp_cmd (f : Xsp → Xsp) (s : State) : (modXsp f s).cmd = s.cmd := rfl
@[simp] theorem modXsp_aon (f : Xsp → Xsp) (s : State) : (modXsp f s).aon = s.aon := rfl
@[simp] theorem modXsp_pmc (f : Xsp → Xsp) (s : State) : (modXsp f s).pmc = s.pmc := rfl
@[simp] theorem modXsp_dom (f : Xsp → Xsp) (s : State) : (modXsp f s).dom = s.dom := rfl
@[simp] theorem modXsp_ckg (f : Xsp → Xsp) (s : State) : (modXsp f s).ckg = s.ckg := rfl
@[simp] theorem modXsp_hkp (f : Xsp → Xsp) (s : State) : (modXsp f s).hkp = s.hkp := rfl
@[simp] theorem modXsp_ddr0 (f : Xsp → Xsp) (s : State) : (modXsp f s).ddr0 = s.ddr0 := rfl
@[simp] theorem modXsp_ddr1 (f : Xsp → Xsp) (s : State) : (modXsp f s).ddr1 = s.ddr1 := rfl
@[simp] theorem modXsp_mem (f : Xsp → Xsp) (s : State) : (modXsp f s).mem = s.mem := rfl
@[simp] theorem modXsp_pce (f : Xsp → Xsp) (s : State) : (modXsp f s).pce = s.pce := rfl
@[simp] theorem modXsp_host (f : Xsp → Xsp) (s : State) : (modXsp f s).host = s.host := rfl
@[simp] theorem modXsp_cad (f : Xsp → Xsp) (s : State) : (modXsp f s).cad = s.cad := rfl
@[simp] theorem modXsp_net (f : Xsp → Xsp) (s : State) : (modXsp f s).net = s.net := rfl
@[simp] theorem modXsp_cry (f : Xsp → Xsp) (s : State) : (modXsp f s).cry = s.cry := rfl
@[simp] theorem modXsp_sto (f : Xsp → Xsp) (s : State) : (modXsp f s).sto = s.sto := rfl
@[simp] theorem modXsp_sge (f : Xsp → Xsp) (s : State) : (modXsp f s).sge = s.sge := rfl
@[simp] theorem modXsp_sio (f : Xsp → Xsp) (s : State) : (modXsp f s).sio = s.sio := rfl
@[simp] theorem modXsp_wdn (f : Xsp → Xsp) (s : State) : (modXsp f s).wdn = s.wdn := rfl
@[simp] theorem modXsp_bat (f : Xsp → Xsp) (s : State) : (modXsp f s).bat = s.bat := rfl
@[simp] theorem modXsp_plt (f : Xsp → Xsp) (s : State) : (modXsp f s).plt = s.plt := rfl
@[simp] theorem modXsp_can (f : Xsp → Xsp) (s : State) : (modXsp f s).can = s.can := rfl
@[simp] theorem modXsp_lbl (f : Xsp → Xsp) (s : State) : (modXsp f s).lbl = s.lbl := rfl
@[simp] theorem modXsp_xsp (f : Xsp → Xsp) (s : State) : (modXsp f s).xsp = f s.xsp := rfl
@[simp] theorem modXsp_lat (f : Xsp → Xsp) (s : State) : (modXsp f s).lat = s.lat := rfl
@[simp] theorem modXsp_otp (f : Xsp → Xsp) (s : State) : (modXsp f s).otp = s.otp := rfl
@[simp] theorem modXsp_flash (f : Xsp → Xsp) (s : State) : (modXsp f s).flash = s.flash := rfl
@[simp] theorem modXsp_lcy (f : Xsp → Xsp) (s : State) : (modXsp f s).lcy = s.lcy := rfl
@[simp] theorem modXsp_cnt (f : Xsp → Xsp) (s : State) : (modXsp f s).cnt = s.cnt := rfl

@[simp] theorem modSge_pending (f : Sge → Sge) (s : State) : (modSge f s).pending = s.pending := rfl
@[simp] theorem modSge_free (f : Sge → Sge) (s : State) : (modSge f s).free = s.free := rfl
@[simp] theorem modSge_out (f : Sge → Sge) (s : State) : (modSge f s).out = s.out := rfl
@[simp] theorem modSge_us (f : Sge → Sge) (s : State) : (modSge f s).us = s.us := rfl
@[simp] theorem modSge_log (f : Sge → Sge) (s : State) : (modSge f s).log = s.log := rfl
@[simp] theorem modSge_rst (f : Sge → Sge) (s : State) : (modSge f s).rst = s.rst := rfl
@[simp] theorem modSge_cmd (f : Sge → Sge) (s : State) : (modSge f s).cmd = s.cmd := rfl
@[simp] theorem modSge_aon (f : Sge → Sge) (s : State) : (modSge f s).aon = s.aon := rfl
@[simp] theorem modSge_pmc (f : Sge → Sge) (s : State) : (modSge f s).pmc = s.pmc := rfl
@[simp] theorem modSge_dom (f : Sge → Sge) (s : State) : (modSge f s).dom = s.dom := rfl
@[simp] theorem modSge_ckg (f : Sge → Sge) (s : State) : (modSge f s).ckg = s.ckg := rfl
@[simp] theorem modSge_hkp (f : Sge → Sge) (s : State) : (modSge f s).hkp = s.hkp := rfl
@[simp] theorem modSge_ddr0 (f : Sge → Sge) (s : State) : (modSge f s).ddr0 = s.ddr0 := rfl
@[simp] theorem modSge_ddr1 (f : Sge → Sge) (s : State) : (modSge f s).ddr1 = s.ddr1 := rfl
@[simp] theorem modSge_mem (f : Sge → Sge) (s : State) : (modSge f s).mem = s.mem := rfl
@[simp] theorem modSge_pce (f : Sge → Sge) (s : State) : (modSge f s).pce = s.pce := rfl
@[simp] theorem modSge_host (f : Sge → Sge) (s : State) : (modSge f s).host = s.host := rfl
@[simp] theorem modSge_cad (f : Sge → Sge) (s : State) : (modSge f s).cad = s.cad := rfl
@[simp] theorem modSge_net (f : Sge → Sge) (s : State) : (modSge f s).net = s.net := rfl
@[simp] theorem modSge_cry (f : Sge → Sge) (s : State) : (modSge f s).cry = s.cry := rfl
@[simp] theorem modSge_sto (f : Sge → Sge) (s : State) : (modSge f s).sto = s.sto := rfl
@[simp] theorem modSge_sge (f : Sge → Sge) (s : State) : (modSge f s).sge = f s.sge := rfl
@[simp] theorem modSge_sio (f : Sge → Sge) (s : State) : (modSge f s).sio = s.sio := rfl
@[simp] theorem modSge_wdn (f : Sge → Sge) (s : State) : (modSge f s).wdn = s.wdn := rfl
@[simp] theorem modSge_bat (f : Sge → Sge) (s : State) : (modSge f s).bat = s.bat := rfl
@[simp] theorem modSge_plt (f : Sge → Sge) (s : State) : (modSge f s).plt = s.plt := rfl
@[simp] theorem modSge_can (f : Sge → Sge) (s : State) : (modSge f s).can = s.can := rfl
@[simp] theorem modSge_lbl (f : Sge → Sge) (s : State) : (modSge f s).lbl = s.lbl := rfl
@[simp] theorem modSge_xsp (f : Sge → Sge) (s : State) : (modSge f s).xsp = s.xsp := rfl
@[simp] theorem modSge_lat (f : Sge → Sge) (s : State) : (modSge f s).lat = s.lat := rfl
@[simp] theorem modSge_otp (f : Sge → Sge) (s : State) : (modSge f s).otp = s.otp := rfl
@[simp] theorem modSge_flash (f : Sge → Sge) (s : State) : (modSge f s).flash = s.flash := rfl
@[simp] theorem modSge_lcy (f : Sge → Sge) (s : State) : (modSge f s).lcy = s.lcy := rfl
@[simp] theorem modSge_cnt (f : Sge → Sge) (s : State) : (modSge f s).cnt = s.cnt := rfl

@[simp] theorem modSio_pending (f : Sio → Sio) (s : State) : (modSio f s).pending = s.pending := rfl
@[simp] theorem modSio_free (f : Sio → Sio) (s : State) : (modSio f s).free = s.free := rfl
@[simp] theorem modSio_out (f : Sio → Sio) (s : State) : (modSio f s).out = s.out := rfl
@[simp] theorem modSio_us (f : Sio → Sio) (s : State) : (modSio f s).us = s.us := rfl
@[simp] theorem modSio_log (f : Sio → Sio) (s : State) : (modSio f s).log = s.log := rfl
@[simp] theorem modSio_rst (f : Sio → Sio) (s : State) : (modSio f s).rst = s.rst := rfl
@[simp] theorem modSio_cmd (f : Sio → Sio) (s : State) : (modSio f s).cmd = s.cmd := rfl
@[simp] theorem modSio_aon (f : Sio → Sio) (s : State) : (modSio f s).aon = s.aon := rfl
@[simp] theorem modSio_pmc (f : Sio → Sio) (s : State) : (modSio f s).pmc = s.pmc := rfl
@[simp] theorem modSio_dom (f : Sio → Sio) (s : State) : (modSio f s).dom = s.dom := rfl
@[simp] theorem modSio_ckg (f : Sio → Sio) (s : State) : (modSio f s).ckg = s.ckg := rfl
@[simp] theorem modSio_hkp (f : Sio → Sio) (s : State) : (modSio f s).hkp = s.hkp := rfl
@[simp] theorem modSio_ddr0 (f : Sio → Sio) (s : State) : (modSio f s).ddr0 = s.ddr0 := rfl
@[simp] theorem modSio_ddr1 (f : Sio → Sio) (s : State) : (modSio f s).ddr1 = s.ddr1 := rfl
@[simp] theorem modSio_mem (f : Sio → Sio) (s : State) : (modSio f s).mem = s.mem := rfl
@[simp] theorem modSio_pce (f : Sio → Sio) (s : State) : (modSio f s).pce = s.pce := rfl
@[simp] theorem modSio_host (f : Sio → Sio) (s : State) : (modSio f s).host = s.host := rfl
@[simp] theorem modSio_cad (f : Sio → Sio) (s : State) : (modSio f s).cad = s.cad := rfl
@[simp] theorem modSio_net (f : Sio → Sio) (s : State) : (modSio f s).net = s.net := rfl
@[simp] theorem modSio_cry (f : Sio → Sio) (s : State) : (modSio f s).cry = s.cry := rfl
@[simp] theorem modSio_sto (f : Sio → Sio) (s : State) : (modSio f s).sto = s.sto := rfl
@[simp] theorem modSio_sge (f : Sio → Sio) (s : State) : (modSio f s).sge = s.sge := rfl
@[simp] theorem modSio_sio (f : Sio → Sio) (s : State) : (modSio f s).sio = f s.sio := rfl
@[simp] theorem modSio_wdn (f : Sio → Sio) (s : State) : (modSio f s).wdn = s.wdn := rfl
@[simp] theorem modSio_bat (f : Sio → Sio) (s : State) : (modSio f s).bat = s.bat := rfl
@[simp] theorem modSio_plt (f : Sio → Sio) (s : State) : (modSio f s).plt = s.plt := rfl
@[simp] theorem modSio_can (f : Sio → Sio) (s : State) : (modSio f s).can = s.can := rfl
@[simp] theorem modSio_lbl (f : Sio → Sio) (s : State) : (modSio f s).lbl = s.lbl := rfl
@[simp] theorem modSio_xsp (f : Sio → Sio) (s : State) : (modSio f s).xsp = s.xsp := rfl
@[simp] theorem modSio_lat (f : Sio → Sio) (s : State) : (modSio f s).lat = s.lat := rfl
@[simp] theorem modSio_otp (f : Sio → Sio) (s : State) : (modSio f s).otp = s.otp := rfl
@[simp] theorem modSio_flash (f : Sio → Sio) (s : State) : (modSio f s).flash = s.flash := rfl
@[simp] theorem modSio_lcy (f : Sio → Sio) (s : State) : (modSio f s).lcy = s.lcy := rfl
@[simp] theorem modSio_cnt (f : Sio → Sio) (s : State) : (modSio f s).cnt = s.cnt := rfl

@[simp] theorem modSto_pending (f : StoreSide → StoreSide) (s : State) : (modSto f s).pending = s.pending := rfl
@[simp] theorem modSto_free (f : StoreSide → StoreSide) (s : State) : (modSto f s).free = s.free := rfl
@[simp] theorem modSto_out (f : StoreSide → StoreSide) (s : State) : (modSto f s).out = s.out := rfl
@[simp] theorem modSto_us (f : StoreSide → StoreSide) (s : State) : (modSto f s).us = s.us := rfl
@[simp] theorem modSto_log (f : StoreSide → StoreSide) (s : State) : (modSto f s).log = s.log := rfl
@[simp] theorem modSto_rst (f : StoreSide → StoreSide) (s : State) : (modSto f s).rst = s.rst := rfl
@[simp] theorem modSto_cmd (f : StoreSide → StoreSide) (s : State) : (modSto f s).cmd = s.cmd := rfl
@[simp] theorem modSto_aon (f : StoreSide → StoreSide) (s : State) : (modSto f s).aon = s.aon := rfl
@[simp] theorem modSto_pmc (f : StoreSide → StoreSide) (s : State) : (modSto f s).pmc = s.pmc := rfl
@[simp] theorem modSto_dom (f : StoreSide → StoreSide) (s : State) : (modSto f s).dom = s.dom := rfl
@[simp] theorem modSto_ckg (f : StoreSide → StoreSide) (s : State) : (modSto f s).ckg = s.ckg := rfl
@[simp] theorem modSto_hkp (f : StoreSide → StoreSide) (s : State) : (modSto f s).hkp = s.hkp := rfl
@[simp] theorem modSto_ddr0 (f : StoreSide → StoreSide) (s : State) : (modSto f s).ddr0 = s.ddr0 := rfl
@[simp] theorem modSto_ddr1 (f : StoreSide → StoreSide) (s : State) : (modSto f s).ddr1 = s.ddr1 := rfl
@[simp] theorem modSto_mem (f : StoreSide → StoreSide) (s : State) : (modSto f s).mem = s.mem := rfl
@[simp] theorem modSto_pce (f : StoreSide → StoreSide) (s : State) : (modSto f s).pce = s.pce := rfl
@[simp] theorem modSto_host (f : StoreSide → StoreSide) (s : State) : (modSto f s).host = s.host := rfl
@[simp] theorem modSto_cad (f : StoreSide → StoreSide) (s : State) : (modSto f s).cad = s.cad := rfl
@[simp] theorem modSto_net (f : StoreSide → StoreSide) (s : State) : (modSto f s).net = s.net := rfl
@[simp] theorem modSto_cry (f : StoreSide → StoreSide) (s : State) : (modSto f s).cry = s.cry := rfl
@[simp] theorem modSto_sto (f : StoreSide → StoreSide) (s : State) : (modSto f s).sto = f s.sto := rfl
@[simp] theorem modSto_sge (f : StoreSide → StoreSide) (s : State) : (modSto f s).sge = s.sge := rfl
@[simp] theorem modSto_sio (f : StoreSide → StoreSide) (s : State) : (modSto f s).sio = s.sio := rfl
@[simp] theorem modSto_wdn (f : StoreSide → StoreSide) (s : State) : (modSto f s).wdn = s.wdn := rfl
@[simp] theorem modSto_bat (f : StoreSide → StoreSide) (s : State) : (modSto f s).bat = s.bat := rfl
@[simp] theorem modSto_plt (f : StoreSide → StoreSide) (s : State) : (modSto f s).plt = s.plt := rfl
@[simp] theorem modSto_can (f : StoreSide → StoreSide) (s : State) : (modSto f s).can = s.can := rfl
@[simp] theorem modSto_lbl (f : StoreSide → StoreSide) (s : State) : (modSto f s).lbl = s.lbl := rfl
@[simp] theorem modSto_xsp (f : StoreSide → StoreSide) (s : State) : (modSto f s).xsp = s.xsp := rfl
@[simp] theorem modSto_lat (f : StoreSide → StoreSide) (s : State) : (modSto f s).lat = s.lat := rfl
@[simp] theorem modSto_otp (f : StoreSide → StoreSide) (s : State) : (modSto f s).otp = s.otp := rfl
@[simp] theorem modSto_flash (f : StoreSide → StoreSide) (s : State) : (modSto f s).flash = s.flash := rfl
@[simp] theorem modSto_lcy (f : StoreSide → StoreSide) (s : State) : (modSto f s).lcy = s.lcy := rfl
@[simp] theorem modSto_cnt (f : StoreSide → StoreSide) (s : State) : (modSto f s).cnt = s.cnt := rfl

@[simp] theorem modScrub_pending (n : Nat) (f : Scrub → Scrub) (s : State) : (modScrub n f s).pending = s.pending := rfl
@[simp] theorem modScrub_free (n : Nat) (f : Scrub → Scrub) (s : State) : (modScrub n f s).free = s.free := rfl
@[simp] theorem modScrub_out (n : Nat) (f : Scrub → Scrub) (s : State) : (modScrub n f s).out = s.out := rfl
@[simp] theorem modScrub_us (n : Nat) (f : Scrub → Scrub) (s : State) : (modScrub n f s).us = s.us := rfl
@[simp] theorem modScrub_log (n : Nat) (f : Scrub → Scrub) (s : State) : (modScrub n f s).log = s.log := rfl
@[simp] theorem modScrub_rst (n : Nat) (f : Scrub → Scrub) (s : State) : (modScrub n f s).rst = s.rst := rfl
@[simp] theorem modScrub_cmd (n : Nat) (f : Scrub → Scrub) (s : State) : (modScrub n f s).cmd = s.cmd := rfl
@[simp] theorem modScrub_aon (n : Nat) (f : Scrub → Scrub) (s : State) : (modScrub n f s).aon = s.aon := rfl
@[simp] theorem modScrub_pmc (n : Nat) (f : Scrub → Scrub) (s : State) : (modScrub n f s).pmc = s.pmc := rfl
@[simp] theorem modScrub_dom (n : Nat) (f : Scrub → Scrub) (s : State) : (modScrub n f s).dom = s.dom := rfl
@[simp] theorem modScrub_ckg (n : Nat) (f : Scrub → Scrub) (s : State) : (modScrub n f s).ckg = s.ckg := rfl
@[simp] theorem modScrub_hkp (n : Nat) (f : Scrub → Scrub) (s : State) : (modScrub n f s).hkp = s.hkp := rfl
@[simp] theorem modScrub_ddr0 (n : Nat) (f : Scrub → Scrub) (s : State) : (modScrub n f s).ddr0 = s.ddr0 := rfl
@[simp] theorem modScrub_ddr1 (n : Nat) (f : Scrub → Scrub) (s : State) : (modScrub n f s).ddr1 = s.ddr1 := rfl
@[simp] theorem modScrub_mem (n : Nat) (f : Scrub → Scrub) (s : State) : (modScrub n f s).mem = s.mem := rfl
@[simp] theorem modScrub_pce (n : Nat) (f : Scrub → Scrub) (s : State) : (modScrub n f s).pce = s.pce := rfl
@[simp] theorem modScrub_host (n : Nat) (f : Scrub → Scrub) (s : State) : (modScrub n f s).host = s.host := rfl
@[simp] theorem modScrub_cad (n : Nat) (f : Scrub → Scrub) (s : State) : (modScrub n f s).cad = s.cad := rfl
@[simp] theorem modScrub_net (n : Nat) (f : Scrub → Scrub) (s : State) : (modScrub n f s).net = s.net := rfl
@[simp] theorem modScrub_cry (n : Nat) (f : Scrub → Scrub) (s : State) : (modScrub n f s).cry = s.cry := rfl
@[simp] theorem modScrub_sge (n : Nat) (f : Scrub → Scrub) (s : State) : (modScrub n f s).sge = s.sge := rfl
@[simp] theorem modScrub_sio (n : Nat) (f : Scrub → Scrub) (s : State) : (modScrub n f s).sio = s.sio := rfl
@[simp] theorem modScrub_wdn (n : Nat) (f : Scrub → Scrub) (s : State) : (modScrub n f s).wdn = s.wdn := rfl
@[simp] theorem modScrub_bat (n : Nat) (f : Scrub → Scrub) (s : State) : (modScrub n f s).bat = s.bat := rfl
@[simp] theorem modScrub_plt (n : Nat) (f : Scrub → Scrub) (s : State) : (modScrub n f s).plt = s.plt := rfl
@[simp] theorem modScrub_can (n : Nat) (f : Scrub → Scrub) (s : State) : (modScrub n f s).can = s.can := rfl
@[simp] theorem modScrub_lbl (n : Nat) (f : Scrub → Scrub) (s : State) : (modScrub n f s).lbl = s.lbl := rfl
@[simp] theorem modScrub_xsp (n : Nat) (f : Scrub → Scrub) (s : State) : (modScrub n f s).xsp = s.xsp := rfl
@[simp] theorem modScrub_lat (n : Nat) (f : Scrub → Scrub) (s : State) : (modScrub n f s).lat = s.lat := rfl
@[simp] theorem modScrub_otp (n : Nat) (f : Scrub → Scrub) (s : State) : (modScrub n f s).otp = s.otp := rfl
@[simp] theorem modScrub_flash (n : Nat) (f : Scrub → Scrub) (s : State) : (modScrub n f s).flash = s.flash := rfl
@[simp] theorem modScrub_lcy (n : Nat) (f : Scrub → Scrub) (s : State) : (modScrub n f s).lcy = s.lcy := rfl
@[simp] theorem modScrub_cnt (n : Nat) (f : Scrub → Scrub) (s : State) : (modScrub n f s).cnt = s.cnt := rfl

@[simp] theorem modWdn_pending (f : Wardens → Wardens) (s : State) : (modWdn f s).pending = s.pending := rfl
@[simp] theorem modWdn_free (f : Wardens → Wardens) (s : State) : (modWdn f s).free = s.free := rfl
@[simp] theorem modWdn_out (f : Wardens → Wardens) (s : State) : (modWdn f s).out = s.out := rfl
@[simp] theorem modWdn_us (f : Wardens → Wardens) (s : State) : (modWdn f s).us = s.us := rfl
@[simp] theorem modWdn_log (f : Wardens → Wardens) (s : State) : (modWdn f s).log = s.log := rfl
@[simp] theorem modWdn_rst (f : Wardens → Wardens) (s : State) : (modWdn f s).rst = s.rst := rfl
@[simp] theorem modWdn_cmd (f : Wardens → Wardens) (s : State) : (modWdn f s).cmd = s.cmd := rfl
@[simp] theorem modWdn_aon (f : Wardens → Wardens) (s : State) : (modWdn f s).aon = s.aon := rfl
@[simp] theorem modWdn_pmc (f : Wardens → Wardens) (s : State) : (modWdn f s).pmc = s.pmc := rfl
@[simp] theorem modWdn_dom (f : Wardens → Wardens) (s : State) : (modWdn f s).dom = s.dom := rfl
@[simp] theorem modWdn_ckg (f : Wardens → Wardens) (s : State) : (modWdn f s).ckg = s.ckg := rfl
@[simp] theorem modWdn_hkp (f : Wardens → Wardens) (s : State) : (modWdn f s).hkp = s.hkp := rfl
@[simp] theorem modWdn_ddr0 (f : Wardens → Wardens) (s : State) : (modWdn f s).ddr0 = s.ddr0 := rfl
@[simp] theorem modWdn_ddr1 (f : Wardens → Wardens) (s : State) : (modWdn f s).ddr1 = s.ddr1 := rfl
@[simp] theorem modWdn_mem (f : Wardens → Wardens) (s : State) : (modWdn f s).mem = s.mem := rfl
@[simp] theorem modWdn_pce (f : Wardens → Wardens) (s : State) : (modWdn f s).pce = s.pce := rfl
@[simp] theorem modWdn_host (f : Wardens → Wardens) (s : State) : (modWdn f s).host = s.host := rfl
@[simp] theorem modWdn_cad (f : Wardens → Wardens) (s : State) : (modWdn f s).cad = s.cad := rfl
@[simp] theorem modWdn_net (f : Wardens → Wardens) (s : State) : (modWdn f s).net = s.net := rfl
@[simp] theorem modWdn_cry (f : Wardens → Wardens) (s : State) : (modWdn f s).cry = s.cry := rfl
@[simp] theorem modWdn_sto (f : Wardens → Wardens) (s : State) : (modWdn f s).sto = s.sto := rfl
@[simp] theorem modWdn_sge (f : Wardens → Wardens) (s : State) : (modWdn f s).sge = s.sge := rfl
@[simp] theorem modWdn_sio (f : Wardens → Wardens) (s : State) : (modWdn f s).sio = s.sio := rfl
@[simp] theorem modWdn_wdn (f : Wardens → Wardens) (s : State) : (modWdn f s).wdn = f s.wdn := rfl
@[simp] theorem modWdn_bat (f : Wardens → Wardens) (s : State) : (modWdn f s).bat = s.bat := rfl
@[simp] theorem modWdn_plt (f : Wardens → Wardens) (s : State) : (modWdn f s).plt = s.plt := rfl
@[simp] theorem modWdn_can (f : Wardens → Wardens) (s : State) : (modWdn f s).can = s.can := rfl
@[simp] theorem modWdn_lbl (f : Wardens → Wardens) (s : State) : (modWdn f s).lbl = s.lbl := rfl
@[simp] theorem modWdn_xsp (f : Wardens → Wardens) (s : State) : (modWdn f s).xsp = s.xsp := rfl
@[simp] theorem modWdn_lat (f : Wardens → Wardens) (s : State) : (modWdn f s).lat = s.lat := rfl
@[simp] theorem modWdn_otp (f : Wardens → Wardens) (s : State) : (modWdn f s).otp = s.otp := rfl
@[simp] theorem modWdn_flash (f : Wardens → Wardens) (s : State) : (modWdn f s).flash = s.flash := rfl
@[simp] theorem modWdn_lcy (f : Wardens → Wardens) (s : State) : (modWdn f s).lcy = s.lcy := rfl
@[simp] theorem modWdn_cnt (f : Wardens → Wardens) (s : State) : (modWdn f s).cnt = s.cnt := rfl

@[simp] theorem modRole_pending (r : Nat) (f : Role → Role) (s : State) : (modRole r f s).pending = s.pending := rfl
@[simp] theorem modRole_free (r : Nat) (f : Role → Role) (s : State) : (modRole r f s).free = s.free := rfl
@[simp] theorem modRole_out (r : Nat) (f : Role → Role) (s : State) : (modRole r f s).out = s.out := rfl
@[simp] theorem modRole_us (r : Nat) (f : Role → Role) (s : State) : (modRole r f s).us = s.us := rfl
@[simp] theorem modRole_log (r : Nat) (f : Role → Role) (s : State) : (modRole r f s).log = s.log := rfl
@[simp] theorem modRole_rst (r : Nat) (f : Role → Role) (s : State) : (modRole r f s).rst = s.rst := rfl
@[simp] theorem modRole_cmd (r : Nat) (f : Role → Role) (s : State) : (modRole r f s).cmd = s.cmd := rfl
@[simp] theorem modRole_aon (r : Nat) (f : Role → Role) (s : State) : (modRole r f s).aon = s.aon := rfl
@[simp] theorem modRole_pmc (r : Nat) (f : Role → Role) (s : State) : (modRole r f s).pmc = s.pmc := rfl
@[simp] theorem modRole_dom (r : Nat) (f : Role → Role) (s : State) : (modRole r f s).dom = s.dom := rfl
@[simp] theorem modRole_ckg (r : Nat) (f : Role → Role) (s : State) : (modRole r f s).ckg = s.ckg := rfl
@[simp] theorem modRole_hkp (r : Nat) (f : Role → Role) (s : State) : (modRole r f s).hkp = s.hkp := rfl
@[simp] theorem modRole_ddr0 (r : Nat) (f : Role → Role) (s : State) : (modRole r f s).ddr0 = s.ddr0 := rfl
@[simp] theorem modRole_ddr1 (r : Nat) (f : Role → Role) (s : State) : (modRole r f s).ddr1 = s.ddr1 := rfl
@[simp] theorem modRole_mem (r : Nat) (f : Role → Role) (s : State) : (modRole r f s).mem = s.mem := rfl
@[simp] theorem modRole_pce (r : Nat) (f : Role → Role) (s : State) : (modRole r f s).pce = s.pce := rfl
@[simp] theorem modRole_host (r : Nat) (f : Role → Role) (s : State) : (modRole r f s).host = s.host := rfl
@[simp] theorem modRole_cad (r : Nat) (f : Role → Role) (s : State) : (modRole r f s).cad = s.cad := rfl
@[simp] theorem modRole_net (r : Nat) (f : Role → Role) (s : State) : (modRole r f s).net = s.net := rfl
@[simp] theorem modRole_cry (r : Nat) (f : Role → Role) (s : State) : (modRole r f s).cry = s.cry := rfl
@[simp] theorem modRole_sto (r : Nat) (f : Role → Role) (s : State) : (modRole r f s).sto = s.sto := rfl
@[simp] theorem modRole_sge (r : Nat) (f : Role → Role) (s : State) : (modRole r f s).sge = s.sge := rfl
@[simp] theorem modRole_sio (r : Nat) (f : Role → Role) (s : State) : (modRole r f s).sio = s.sio := rfl
@[simp] theorem modRole_bat (r : Nat) (f : Role → Role) (s : State) : (modRole r f s).bat = s.bat := rfl
@[simp] theorem modRole_plt (r : Nat) (f : Role → Role) (s : State) : (modRole r f s).plt = s.plt := rfl
@[simp] theorem modRole_can (r : Nat) (f : Role → Role) (s : State) : (modRole r f s).can = s.can := rfl
@[simp] theorem modRole_lbl (r : Nat) (f : Role → Role) (s : State) : (modRole r f s).lbl = s.lbl := rfl
@[simp] theorem modRole_xsp (r : Nat) (f : Role → Role) (s : State) : (modRole r f s).xsp = s.xsp := rfl
@[simp] theorem modRole_lat (r : Nat) (f : Role → Role) (s : State) : (modRole r f s).lat = s.lat := rfl
@[simp] theorem modRole_otp (r : Nat) (f : Role → Role) (s : State) : (modRole r f s).otp = s.otp := rfl
@[simp] theorem modRole_flash (r : Nat) (f : Role → Role) (s : State) : (modRole r f s).flash = s.flash := rfl
@[simp] theorem modRole_lcy (r : Nat) (f : Role → Role) (s : State) : (modRole r f s).lcy = s.lcy := rfl
@[simp] theorem modRole_cnt (r : Nat) (f : Role → Role) (s : State) : (modRole r f s).cnt = s.cnt := rfl

@[simp] theorem modTask_pending (r t : Nat) (f : WdTask → WdTask) (s : State) : (modTask r t f s).pending = s.pending := rfl
@[simp] theorem modTask_free (r t : Nat) (f : WdTask → WdTask) (s : State) : (modTask r t f s).free = s.free := rfl
@[simp] theorem modTask_out (r t : Nat) (f : WdTask → WdTask) (s : State) : (modTask r t f s).out = s.out := rfl
@[simp] theorem modTask_us (r t : Nat) (f : WdTask → WdTask) (s : State) : (modTask r t f s).us = s.us := rfl
@[simp] theorem modTask_log (r t : Nat) (f : WdTask → WdTask) (s : State) : (modTask r t f s).log = s.log := rfl
@[simp] theorem modTask_rst (r t : Nat) (f : WdTask → WdTask) (s : State) : (modTask r t f s).rst = s.rst := rfl
@[simp] theorem modTask_cmd (r t : Nat) (f : WdTask → WdTask) (s : State) : (modTask r t f s).cmd = s.cmd := rfl
@[simp] theorem modTask_aon (r t : Nat) (f : WdTask → WdTask) (s : State) : (modTask r t f s).aon = s.aon := rfl
@[simp] theorem modTask_pmc (r t : Nat) (f : WdTask → WdTask) (s : State) : (modTask r t f s).pmc = s.pmc := rfl
@[simp] theorem modTask_dom (r t : Nat) (f : WdTask → WdTask) (s : State) : (modTask r t f s).dom = s.dom := rfl
@[simp] theorem modTask_ckg (r t : Nat) (f : WdTask → WdTask) (s : State) : (modTask r t f s).ckg = s.ckg := rfl
@[simp] theorem modTask_hkp (r t : Nat) (f : WdTask → WdTask) (s : State) : (modTask r t f s).hkp = s.hkp := rfl
@[simp] theorem modTask_ddr0 (r t : Nat) (f : WdTask → WdTask) (s : State) : (modTask r t f s).ddr0 = s.ddr0 := rfl
@[simp] theorem modTask_ddr1 (r t : Nat) (f : WdTask → WdTask) (s : State) : (modTask r t f s).ddr1 = s.ddr1 := rfl
@[simp] theorem modTask_mem (r t : Nat) (f : WdTask → WdTask) (s : State) : (modTask r t f s).mem = s.mem := rfl
@[simp] theorem modTask_pce (r t : Nat) (f : WdTask → WdTask) (s : State) : (modTask r t f s).pce = s.pce := rfl
@[simp] theorem modTask_host (r t : Nat) (f : WdTask → WdTask) (s : State) : (modTask r t f s).host = s.host := rfl
@[simp] theorem modTask_cad (r t : Nat) (f : WdTask → WdTask) (s : State) : (modTask r t f s).cad = s.cad := rfl
@[simp] theorem modTask_net (r t : Nat) (f : WdTask → WdTask) (s : State) : (modTask r t f s).net = s.net := rfl
@[simp] theorem modTask_cry (r t : Nat) (f : WdTask → WdTask) (s : State) : (modTask r t f s).cry = s.cry := rfl
@[simp] theorem modTask_sto (r t : Nat) (f : WdTask → WdTask) (s : State) : (modTask r t f s).sto = s.sto := rfl
@[simp] theorem modTask_sge (r t : Nat) (f : WdTask → WdTask) (s : State) : (modTask r t f s).sge = s.sge := rfl
@[simp] theorem modTask_sio (r t : Nat) (f : WdTask → WdTask) (s : State) : (modTask r t f s).sio = s.sio := rfl
@[simp] theorem modTask_bat (r t : Nat) (f : WdTask → WdTask) (s : State) : (modTask r t f s).bat = s.bat := rfl
@[simp] theorem modTask_plt (r t : Nat) (f : WdTask → WdTask) (s : State) : (modTask r t f s).plt = s.plt := rfl
@[simp] theorem modTask_can (r t : Nat) (f : WdTask → WdTask) (s : State) : (modTask r t f s).can = s.can := rfl
@[simp] theorem modTask_lbl (r t : Nat) (f : WdTask → WdTask) (s : State) : (modTask r t f s).lbl = s.lbl := rfl
@[simp] theorem modTask_xsp (r t : Nat) (f : WdTask → WdTask) (s : State) : (modTask r t f s).xsp = s.xsp := rfl
@[simp] theorem modTask_lat (r t : Nat) (f : WdTask → WdTask) (s : State) : (modTask r t f s).lat = s.lat := rfl
@[simp] theorem modTask_otp (r t : Nat) (f : WdTask → WdTask) (s : State) : (modTask r t f s).otp = s.otp := rfl
@[simp] theorem modTask_flash (r t : Nat) (f : WdTask → WdTask) (s : State) : (modTask r t f s).flash = s.flash := rfl
@[simp] theorem modTask_lcy (r t : Nat) (f : WdTask → WdTask) (s : State) : (modTask r t f s).lcy = s.lcy := rfl
@[simp] theorem modTask_cnt (r t : Nat) (f : WdTask → WdTask) (s : State) : (modTask r t f s).cnt = s.cnt := rfl

@[simp] theorem modCore_pending (c : Nat) (f : WdCore → WdCore) (s : State) : (modCore c f s).pending = s.pending := rfl
@[simp] theorem modCore_free (c : Nat) (f : WdCore → WdCore) (s : State) : (modCore c f s).free = s.free := rfl
@[simp] theorem modCore_out (c : Nat) (f : WdCore → WdCore) (s : State) : (modCore c f s).out = s.out := rfl
@[simp] theorem modCore_us (c : Nat) (f : WdCore → WdCore) (s : State) : (modCore c f s).us = s.us := rfl
@[simp] theorem modCore_log (c : Nat) (f : WdCore → WdCore) (s : State) : (modCore c f s).log = s.log := rfl
@[simp] theorem modCore_rst (c : Nat) (f : WdCore → WdCore) (s : State) : (modCore c f s).rst = s.rst := rfl
@[simp] theorem modCore_cmd (c : Nat) (f : WdCore → WdCore) (s : State) : (modCore c f s).cmd = s.cmd := rfl
@[simp] theorem modCore_aon (c : Nat) (f : WdCore → WdCore) (s : State) : (modCore c f s).aon = s.aon := rfl
@[simp] theorem modCore_pmc (c : Nat) (f : WdCore → WdCore) (s : State) : (modCore c f s).pmc = s.pmc := rfl
@[simp] theorem modCore_dom (c : Nat) (f : WdCore → WdCore) (s : State) : (modCore c f s).dom = s.dom := rfl
@[simp] theorem modCore_ckg (c : Nat) (f : WdCore → WdCore) (s : State) : (modCore c f s).ckg = s.ckg := rfl
@[simp] theorem modCore_hkp (c : Nat) (f : WdCore → WdCore) (s : State) : (modCore c f s).hkp = s.hkp := rfl
@[simp] theorem modCore_ddr0 (c : Nat) (f : WdCore → WdCore) (s : State) : (modCore c f s).ddr0 = s.ddr0 := rfl
@[simp] theorem modCore_ddr1 (c : Nat) (f : WdCore → WdCore) (s : State) : (modCore c f s).ddr1 = s.ddr1 := rfl
@[simp] theorem modCore_mem (c : Nat) (f : WdCore → WdCore) (s : State) : (modCore c f s).mem = s.mem := rfl
@[simp] theorem modCore_pce (c : Nat) (f : WdCore → WdCore) (s : State) : (modCore c f s).pce = s.pce := rfl
@[simp] theorem modCore_host (c : Nat) (f : WdCore → WdCore) (s : State) : (modCore c f s).host = s.host := rfl
@[simp] theorem modCore_cad (c : Nat) (f : WdCore → WdCore) (s : State) : (modCore c f s).cad = s.cad := rfl
@[simp] theorem modCore_net (c : Nat) (f : WdCore → WdCore) (s : State) : (modCore c f s).net = s.net := rfl
@[simp] theorem modCore_cry (c : Nat) (f : WdCore → WdCore) (s : State) : (modCore c f s).cry = s.cry := rfl
@[simp] theorem modCore_sto (c : Nat) (f : WdCore → WdCore) (s : State) : (modCore c f s).sto = s.sto := rfl
@[simp] theorem modCore_sge (c : Nat) (f : WdCore → WdCore) (s : State) : (modCore c f s).sge = s.sge := rfl
@[simp] theorem modCore_sio (c : Nat) (f : WdCore → WdCore) (s : State) : (modCore c f s).sio = s.sio := rfl
@[simp] theorem modCore_bat (c : Nat) (f : WdCore → WdCore) (s : State) : (modCore c f s).bat = s.bat := rfl
@[simp] theorem modCore_plt (c : Nat) (f : WdCore → WdCore) (s : State) : (modCore c f s).plt = s.plt := rfl
@[simp] theorem modCore_can (c : Nat) (f : WdCore → WdCore) (s : State) : (modCore c f s).can = s.can := rfl
@[simp] theorem modCore_lbl (c : Nat) (f : WdCore → WdCore) (s : State) : (modCore c f s).lbl = s.lbl := rfl
@[simp] theorem modCore_xsp (c : Nat) (f : WdCore → WdCore) (s : State) : (modCore c f s).xsp = s.xsp := rfl
@[simp] theorem modCore_lat (c : Nat) (f : WdCore → WdCore) (s : State) : (modCore c f s).lat = s.lat := rfl
@[simp] theorem modCore_otp (c : Nat) (f : WdCore → WdCore) (s : State) : (modCore c f s).otp = s.otp := rfl
@[simp] theorem modCore_flash (c : Nat) (f : WdCore → WdCore) (s : State) : (modCore c f s).flash = s.flash := rfl
@[simp] theorem modCore_lcy (c : Nat) (f : WdCore → WdCore) (s : State) : (modCore c f s).lcy = s.lcy := rfl
@[simp] theorem modCore_cnt (c : Nat) (f : WdCore → WdCore) (s : State) : (modCore c f s).cnt = s.cnt := rfl

@[simp] theorem setLock_pending (n : Nat) (l : HwLock) (s : State) : (setLock n l s).pending = s.pending := rfl
@[simp] theorem setLock_free (n : Nat) (l : HwLock) (s : State) : (setLock n l s).free = s.free := rfl
@[simp] theorem setLock_out (n : Nat) (l : HwLock) (s : State) : (setLock n l s).out = s.out := rfl
@[simp] theorem setLock_us (n : Nat) (l : HwLock) (s : State) : (setLock n l s).us = s.us := rfl
@[simp] theorem setLock_log (n : Nat) (l : HwLock) (s : State) : (setLock n l s).log = s.log := rfl
@[simp] theorem setLock_rst (n : Nat) (l : HwLock) (s : State) : (setLock n l s).rst = s.rst := rfl
@[simp] theorem setLock_cmd (n : Nat) (l : HwLock) (s : State) : (setLock n l s).cmd = s.cmd := rfl
@[simp] theorem setLock_aon (n : Nat) (l : HwLock) (s : State) : (setLock n l s).aon = s.aon := rfl
@[simp] theorem setLock_pmc (n : Nat) (l : HwLock) (s : State) : (setLock n l s).pmc = s.pmc := rfl
@[simp] theorem setLock_dom (n : Nat) (l : HwLock) (s : State) : (setLock n l s).dom = s.dom := rfl
@[simp] theorem setLock_ckg (n : Nat) (l : HwLock) (s : State) : (setLock n l s).ckg = s.ckg := rfl
@[simp] theorem setLock_hkp (n : Nat) (l : HwLock) (s : State) : (setLock n l s).hkp = s.hkp := rfl
@[simp] theorem setLock_ddr0 (n : Nat) (l : HwLock) (s : State) : (setLock n l s).ddr0 = s.ddr0 := rfl
@[simp] theorem setLock_ddr1 (n : Nat) (l : HwLock) (s : State) : (setLock n l s).ddr1 = s.ddr1 := rfl
@[simp] theorem setLock_mem (n : Nat) (l : HwLock) (s : State) : (setLock n l s).mem = s.mem := rfl
@[simp] theorem setLock_pce (n : Nat) (l : HwLock) (s : State) : (setLock n l s).pce = s.pce := rfl
@[simp] theorem setLock_host (n : Nat) (l : HwLock) (s : State) : (setLock n l s).host = s.host := rfl
@[simp] theorem setLock_cad (n : Nat) (l : HwLock) (s : State) : (setLock n l s).cad = s.cad := rfl
@[simp] theorem setLock_net (n : Nat) (l : HwLock) (s : State) : (setLock n l s).net = s.net := rfl
@[simp] theorem setLock_cry (n : Nat) (l : HwLock) (s : State) : (setLock n l s).cry = s.cry := rfl
@[simp] theorem setLock_sto (n : Nat) (l : HwLock) (s : State) : (setLock n l s).sto = s.sto := rfl
@[simp] theorem setLock_sge (n : Nat) (l : HwLock) (s : State) : (setLock n l s).sge = s.sge := rfl
@[simp] theorem setLock_sio (n : Nat) (l : HwLock) (s : State) : (setLock n l s).sio = s.sio := rfl
@[simp] theorem setLock_bat (n : Nat) (l : HwLock) (s : State) : (setLock n l s).bat = s.bat := rfl
@[simp] theorem setLock_plt (n : Nat) (l : HwLock) (s : State) : (setLock n l s).plt = s.plt := rfl
@[simp] theorem setLock_can (n : Nat) (l : HwLock) (s : State) : (setLock n l s).can = s.can := rfl
@[simp] theorem setLock_lbl (n : Nat) (l : HwLock) (s : State) : (setLock n l s).lbl = s.lbl := rfl
@[simp] theorem setLock_xsp (n : Nat) (l : HwLock) (s : State) : (setLock n l s).xsp = s.xsp := rfl
@[simp] theorem setLock_lat (n : Nat) (l : HwLock) (s : State) : (setLock n l s).lat = s.lat := rfl
@[simp] theorem setLock_otp (n : Nat) (l : HwLock) (s : State) : (setLock n l s).otp = s.otp := rfl
@[simp] theorem setLock_flash (n : Nat) (l : HwLock) (s : State) : (setLock n l s).flash = s.flash := rfl
@[simp] theorem setLock_lcy (n : Nat) (l : HwLock) (s : State) : (setLock n l s).lcy = s.lcy := rfl
@[simp] theorem setLock_cnt (n : Nat) (l : HwLock) (s : State) : (setLock n l s).cnt = s.cnt := rfl
end Sys2Proof.Machine
end

