-- ==== Sys2Proof/Machine/HostRegs.lean ====
section
/-!
DEFINITION. Sys2Proof/Machine/HostRegs.lean: what the host reads in the memory BARs of PF0 and of a VF (ch 01, Table 01-5, Table 01-6; ch 06, Table 06-3
to Table 06-6). The opcode table has rows for the reads that have an effect of their own (RESULT_COUNTING_READ, MGT_DMAF_COUNT_READ, LCK_ACQ); the
functions here say what every read returns.
-/
namespace Sys2Proof.Machine
open Sys2Proof

/-- Word o of a list of bytes; 0 beyond its end. -/
def wordAt (b : Bytes) (o : Nat) : Nat := leAt b o 4

/-! ### Management window (Table 06-4) -/

/-- No fitted DDR5 region is dirty (R32). -/
def State.ddrClean (s : State) : Bool := s.ddr0.dirty.isEmpty && s.ddr1.dirty.isEmpty
/-- MGT_ID. -/
def State.mgtId (s : State) : Nat := leAt (putLe 2 0x5616 ++ s.otpAt 9 1 ++ s.otpAt 8 1) 0 4
/-- MGT_STATE. -/
def State.mgtState (s : State) : Nat := s.pmc.st.code + 256 * s.lcyState + 65536 * b2n s.bootDone + 131072 * b2n s.ddrClean
/-- MGT_LINK. -/
def State.mgtLink (s : State) : Nat := s.pce.speed + 16 * s.pce.width + 512 * b2n s.pce.reduced + 1024 * b2n s.pce.upcfg
/-- A 32-bit read of the management window; MGT_DMAF_COUNT is cleared by the read (R229). -/
def mgtRead (off : Nat) (s : State) : Nat × State :=
  match off with
  | 0x000 => (s.mgtId, s)
  | 0x004 => (s.mgtState, s)
  | 0x008 => (s.mgtLink, s)
  | 0x010 => (s.pce.event, s)
  | 0x014 => (s.pce.eventEn, s)
  | 0x020 => (s.pce.dmafAddr % 2 ^ 32, s)
  | 0x024 => (s.pce.dmafAddr / 2 ^ 32, s)
  | 0x028 => (s.pce.dmafInfo, s)
  | 0x02C => (s.pce.dmafLen, s)
  | 0x030 => (s.pce.dmafCount, { s with pce := { s.pce with dmafCount := 0 } })
  | 0x0F0 => (s.pce.scratch, s)
  | _ => (0, s)

/-! ### Rings and tenants -/

/-- QEN_RING_STATE of local index i of a function (R310, Table 08-10). -/
def State.ringStateWord (s : State) (f i : Nat) : Nat :=
  match s.ringAt f i with
  | none => 0
  | some (_, r) =>
    let held := s.pmc.st == .hold || (f != pf0 && ((s.vf f).tenant.any fun t => (s.tenant t).state == 2))
    let st := match r.st with
      | .running => if held then 2 else 1
      | .draining | .drainingFaulted => 3
      | .clearing => 4
      | .faulted => 5
    st + 256 * r.work.length + 65536 * r.head
/-- A 32-bit read of a doorbell page (Table 08-10): the doorbells are write-only. -/
def doorbellRead (f off : Nat) (s : State) : Nat := if off % 0x1000 = 8 then s.ringStateWord f (off / 0x1000) else 0
/-- CHG_SELF of VF f. -/
def State.chgSelf (s : State) (f : Nat) : Nat :=
  match (s.vf f).tenant with
  | none => 16 * f
  | some t => t + 16 * f + 1024 + 4096 * (s.tenant t).state
/-- The entry of the namespace list that stands at position i (Table 14-5); 0 for an unused one. -/
def namespaceEntry (x : Tenant) (i : Nat) : Bytes :=
  match x.spaces[i]? with
  | some n => putLe 4 n.nsid ++ putLe 2 n.index ++ putLe 1 n.flags ++ [0]
  | none => zeros 8
/-- A DMA window (Table 06-7). -/
def windowEntry (w : DmaWin) : Bytes := putLe 8 w.base ++ putLe 4 w.size4k ++ putLe 1 w.perm ++ zeros 3
/-- The charter page of VF f (R248, Table 07-3, Table 12-2). -/
def State.charterPage (s : State) (f : Nat) : Bytes :=
  match (s.vf f).tenant with
  | none => zeros 4 ++ putLe 4 (s.chgSelf f)
  | some t =>
    let x := s.tenant t
    let v := s.vf f
    let head := putLe 4 x.gen.toNat ++ putLe 4 (s.chgSelf f) ++ putLe 4 x.epoch.toNat ++ putLe 4 x.flags ++ putLe 8 (maskOf (s.tenantVfs t))
      ++ putLe 2 x.ringMax ++ putLe 2 x.keyMax ++ putLe 1 x.nsMax ++ putLe 1 x.tcMask ++ zeros 2 ++ putLe 4 x.quotaKib
      ++ putLe 1 x.macs.length ++ putLe 1 x.vlans.length ++ putLe 1 x.ip4s.length ++ putLe 1 x.ip6s.length ++ putLe 4 x.weight ++ zeros 4
      ++ putLe 4 x.rate ++ putLe 4 x.burst ++ putLe 4 v.rate ++ putLe 4 v.burst
    let pad (n : Nat) (b : Bytes) : Bytes := (b ++ zeros n).take n
    pad 0x100 head ++ padList 8 x.macs ++ pad 0x80 (padList 4 (x.vlans.map fun v => putLe 4 (v.1 + 4096 * v.2)))
      ++ pad 0x100 (padList 8 (x.ip4s.map fun v => putBe 4 v.1 ++ putLe 1 v.2)) ++ pad 0x200 (padList 20 (x.ip6s.map fun v => putBe 16 v.1 ++ putLe 1 v.2))
      ++ pad 0x100 (putLe 32 (maskOf (x.keys.map (·.1)))) ++ pad 0x200 ((List.range 64).map (namespaceEntry x)).flatten
      ++ pad 0x80 ((v.windows.map windowEntry).flatten)

/-! ### Result windows, locks and counters -/

/-- A read of a result window by the host: the header's low word is the counting read, every other word is that of the reader's last one (R56). -/
def windowRead (cls off : Nat) (s : State) : Nat × State :=
  let w := getWindow cls s
  if off = 0 then let r := countRead w 0; (wordAt r.1 0, setWindow cls r.2 s) else (wordAt (w.viewOf 0) off, s)
/-- A read of a result slot by the host, in the same way (R653, Table 17-4). -/
def slotRead (off : Nat) (s : State) : Nat × State :=
  let k := off / 64; let o := off % 64
  if o = 0 then let r := countSlot k 0 s; (wordAt r.1 0, r.2) else (if o < 0x28 then wordAt ((s.slot k).viewOf 0) o else 0, s)
/-- DCW_STATE. -/
def State.dcwState (s : State) : Nat := b2n s.cmd.dcwBusy + 2 * b2n s.cmd.dcwOverrun
/-- Entry i of the counter snapshot window, of a bank that is ON (R987, Table 28-1). -/
def State.snapshotEntry (s : State) (i : Nat) : Nat := if (s.bank (i / 64)).on then tget 0 s.cnt.window i else 0

/-! ### BARs -/

/-- A 32-bit read of PF0 BAR0 (Table 01-5): 0 in a reserved range (R18). -/
def bar0Word (off : Nat) (s : State) : Nat × State :=
  if off < 0x1000 then mgtRead off s
  else if off < 0x1FF4 then (leAt (s.cmd.dcwReq.readN (off - 0x1000) 4) 0 4, s)
  else if off = 0x1FFC then (s.dcwState, s)
  else if inR off 0x2000 0x2FFF then windowRead 2 (off - 0x2000) s
  else if inR off 0x3000 0x3FFF then (lckRead holderPf0 (off - 0x3000) s).getD (0, s)
  else if inR off 0x4000 0x7FFF then windowRead (3 + (off - 0x4000) / 0x1000) (off % 0x1000) s
  else if inR off 0x8000 0x8FFF then slotRead (off - 0x8000) s
  else if inR off 0x9000 0x9FFF then (leAt (putLe 8 (s.snapshotEntry ((off - 0x9000) / 8))) (off % 8) 4, s)
  else if inR off 0x10000 0x4FFFF then (doorbellRead pf0 (off - 0x10000) s, s)
  else (0, s)
/-- A 32-bit read of the BAR0 of VF f (Table 01-6, R19). -/
def vfBar0Word (f off : Nat) (s : State) : Nat × State :=
  if off < 0x1000 then (wordAt (s.charterPage f) off, s)
  else if inR off 0x10000 0x4FFFF then (doorbellRead f (off - 0x10000) s, s)
  else (0, s)
/-- A 32-bit read of the BAR2 of a function (Table 06-3): the MSI-X table, and the pending bits from 0x2000 on. -/
def bar2Word (f off : Nat) (s : State) : Nat :=
  let vectors := if f == pf0 then 64 else 31
  if off / 16 < vectors then
    let x := s.vec f (off / 16)
    match off % 16 / 4 with
    | 0 => x.addr % 2 ^ 32
    | 1 => x.addr / 2 ^ 32
    | 2 => x.data
    | _ => b2n x.masked + 65536 * x.st
  else if inR off 0x2000 0x2007 then wordAt (putLe 8 (maskOf ((List.range vectors).filter fun n => (s.vec f n).pending))) (off - 0x2000)
  else 0
/-- A read of 4 or 8 bytes of a function's BAR0 by the host; none while the function does not answer. One that is not naturally aligned returns zeros
(R17, R18). A 64-bit read is two 32-bit reads, the lower address first. -/
def hostRead (f off size : Nat) (s : State) : Option (Nat × State) :=
  let word (o : Nat) (s : State) : Nat × State := if f == pf0 then bar0Word o s else vfBar0Word f o s
  if !s.fnTalks f || (f != pf0 && !s.vfOn f) then none
  else if off % size != 0 || (size != 4 && size != 8) then some (0, s)
  else
    let lo := word off s
    if size = 4 then some lo else let hi := word (off + 4) lo.2; some (lo.1 + 2 ^ 32 * hi.1, hi.2)

end Sys2Proof.Machine
end

