-- ==== Sys2Proof/Machine/Pins.lean ====
section
/-!
DEFINITION. Sys2Proof/Machine/Pins.lean: the state that each pin has in the power state and reset in force (ch 29, Table 29-7).
-/
namespace Sys2Proof.Machine
open Sys2Proof

/-- The signal pins of Table 29-7. -/
inductive Pin where
  /-- VIN, VBUS_SNS, CELL0-16, BAT_STK, SHUNT_P, SHUNT_N. -/
  | hv
  /-- IB_EN. -/
  | ibEn
  /-- PH_EN. -/
  | phEn
  /-- PH_PWM0-7. -/
  | phPwm (n : Nat)
  /-- PMBus. -/
  | pmbus
  /-- PLANT_STOP_N. -/
  | plantStop
  /-- BAT_DSG_EN. -/
  | batDsg
  /-- BAT_CHG_EN. -/
  | batChg
  /-- WAKE_N. -/
  | wake
  /-- LBL_ANTA and LBL_ANTB. -/
  | label
  /-- PCIe transmit lane 0-15. -/
  | pcieTx (lane : Nat)
  /-- LN0-7 transmit. -/
  | lnTx (lane : Nat)
  /-- LT0-3 transmit. -/
  | ltTx (lane : Nat)
  /-- DDR0, DDR1. -/
  | ddr (ch : Nat)
  /-- PWM0-15. -/
  | pwm (n : Nat)
  /-- The TDMO pins. -/
  | tdmo
  /-- CAN_TXD. -/
  | canTxd
  /-- XCLK. -/
  | xclk
  /-- XSEL0_N-XSEL3_N. -/
  | xsel (n : Nat)
  /-- XD0-7. -/
  | xd
  /-- XSTB. -/
  | xstb
  /-- TDO. -/
  | tdo
  deriving DecidableEq, Repr

/-- What a pin does. -/
inductive PinState where
  /-- Input. -/
  | input
  /-- Input that is ignored. -/
  | ignored
  /-- Input that wakes the device. -/
  | wakes
  /-- Driven low. -/
  | low
  /-- Driven high. -/
  | high
  /-- High-impedance. -/
  | hiZ
  /-- Not driven: its supply is off (R1014). -/
  | undriven
  /-- Electrical idle. -/
  | idle
  /-- Self-refresh, DDRn_RESET_N high. -/
  | selfRefresh
  /-- DDRn_RESET_N low, other outputs high-impedance. -/
  | memReset
  /-- Powered by the reader's field only. -/
  | field
  /-- As the chapter of its block has it. -/
  | active
  deriving DecidableEq, Repr

/-- The columns of Table 29-7. -/
inductive PinColumn where
  /-- RUN and TRIM. -/
  | run
  /-- HOLD, and power-up after the OTP settings are loaded (log 98). -/
  | hold
  /-- A C or W until the OTP settings are loaded. -/
  | reset
  /-- SHELF. -/
  | shelf
  /-- OFF. -/
  | off
  deriving DecidableEq, Repr

/-- The column in force (R1013). -/
def State.pinColumn (s : State) : PinColumn :=
  match s.pmc.st with
  | .off => .off
  | .shelf => .shelf
  | .boot => if s.rst.active.isSome || decide (s.pmc.upStep < 7) then .reset else .hold
  | .hold => if s.rst.active.isSome then .reset else .hold
  | .trim | .run => if s.rst.active.isSome then .reset else .run

/-- A level. -/
def pinLevel (b : Bool) : PinState := if b then .high else .low
/-- A driven pin of a domain: high-impedance while the domain is not ON (Table 29-7). -/
def State.pinOf (s : State) (d : Nat) (v : PinState) : PinState := if s.isOn d then v else .hiZ
/-- The pins of the expansion port outside a reset (R825-R827). -/
def State.xspPin (s : State) (p : Pin) : PinState :=
  if !s.isOn 20 then .hiZ
  else match p with
  | .xclk => if s.xsp.target && s.bootDone then .input else .active
  | .xsel n => if !s.xsp.target then .active
    else if s.bootDone then (if n = 0 then .input else .high)
    else (if n = 1 then .active else .high)
  | .xstb => if s.xsp.target then (if s.xspReady then .high else .low) else .input
  | _ => .active

/-- The state of a pin (R1013, R1014, R744, R779, R782). -/
def State.pin (s : State) (p : Pin) : PinState :=
  let c := s.pinColumn
  match p with
  | .hv => .input
  | .plantStop => if c == .off then .undriven else pinLevel (!s.aon.stopLatch)
  | .batDsg => if c == .off then .undriven else pinLevel s.aon.dsgEn
  | .batChg => if c == .off then .undriven else pinLevel s.aon.chgEn
  | .wake => if c == .shelf then .wakes else if c == .off then .undriven else .ignored
  | .label => if c == .off then .field else .active
  | p => match c with
    | .off => .undriven
    | .shelf => match p with
      | .ibEn | .phEn => pinLevel false
      | .phPwm _ => .hiZ
      | _ => .undriven
    | .reset => match p with
      | .ibEn | .phEn => pinLevel s.pmc.ibEn
      | .phPwm _ | .tdo => .active
      | .pcieTx _ => .idle
      | .ddr _ => .memReset
      | .tdmo => .low
      | .canTxd => .high
      | .xclk => if s.xsp.target then .input else .low
      | .xsel n => if s.xsp.target && n = 0 then .input else .high
      | .xstb => if s.xsp.target then .low else .input
      | _ => .hiZ
    | c => match p with
      | .ibEn | .phEn => pinLevel s.pmc.ibEn
      | .pcieTx l => s.pinOf (31 + l / 4) .active
      | .lnTx l => if c == .hold then .hiZ else s.pinOf (50 + l) .active
      | .ltTx l => s.pinOf (59 + l) .active
      | .ddr n => if c == .hold then .selfRefresh else s.pinOf (86 + n) .active
      | .pwm n => (match s.pwmPin n with
        | .low => .low
        | .high => .high
        | .hiZ => .hiZ
        | .carrier .. => .active)
      | .tdmo => if s.sio.tdmOut.mode = 0 then .low else s.pinOf 29 .active
      | .canTxd => if s.isOn 24 then .active else .high
      | .xclk | .xsel _ | .xd | .xstb => s.xspPin p
      | _ => .active
end Sys2Proof.Machine
end

