-- ==== Sys2Proof/WellFormed.lean ====
section
/-!
DEFINITION. Sys2Proof/WellFormed.lean: the operands that a sender or an event of the device can bring with a command.
A command outside these bounds comes from nothing the device has; its meaning is total and mostly leaves the state alone.
-/
namespace Sys2Proof

/-- A warden core: W0 to W4 (ch 18). -/
abbrev isCore (c : Nat) : Prop := c < 5
/-- A function: VF 0 to 63, or 127 for PF0 (Table 06-1). -/
abbrev isFn (f : Nat) : Prop := f < 64 ∨ f = 127
/-- A ring pair of a queue engine lane: 2,048 on each of two (R272, ch 08). -/
abbrev isRing (g : Nat) : Prop := g < 4096
/-- Who reads: 0 PF0, 1 the service port, 16 + n warden core n, 22 the debug unit (log 89). -/
abbrev isReader (r : Nat) : Prop := r < 2 ∨ (16 ≤ r ∧ r ≤ 20) ∨ r = 22
/-- A ring entry has 64 or 128 bytes (Table 08-4, Table 08-5). -/
abbrev isEntry (e : Bytes) : Prop := e.length = 64 ∨ e.length = 128
/-- A result window, 2 the direct window and 3 to 6 CRW0 to CRW3, or result slot k as 16 + k (R50). -/
abbrev isWindow (w : Nat) : Prop := (2 ≤ w ∧ w ≤ 6) ∨ (16 ≤ w ∧ w < 80)
/-- A scheduling point: one of VPORT 0x00 to 0xFF, the delivery and the engine points (Table 12-1), numbered as Sys2Proof.Machine.State.point numbers them. -/
abbrev isPoint (k : Nat) : Prop := k < 0x107
/-- The value of a configuration write has at most 32 bits. -/
abbrev ofWrite (w : Option Nat) : Prop := w.getD 0 < 2 ^ 32
/-- A register write names a function or a core that exists. -/
def RegSpace.wf : RegSpace → Bool
  | .bar0 => true
  | .bar2 f => decide (isFn f)
  | .core c => decide (isCore c)

/-- The command is one that the device can be given. -/
def Instr.wf : Instr → Bool
  | .powerOn => true
  | .vinOkHold => true
  | .powerUpStart => true
  | .ibPgoodTimeout => true
  | .ibcRetry => true
  | .brownOut => true
  | .vinLow _ => true
  | .vinOv _ _ => true
  | .pfailSet _ => true
  | .pfailClear _ => true
  | .graceTimerExpiry => true
  | .holdLimitExpiry => true
  | .drainEnd => true
  | .waitingTransitionTaken => true
  | .shelfEntry => true
  | .shelfRailsDown => true
  | .railFault _ _ => true
  | .vcorePhaseAdd => true
  | .vcorePhaseShed phase => decide (phase < 64)
  | .rtcAlarmWake => true
  | .wakeNWake => true
  | .vbusReturnSample _ => true
  | .vinRecoveryWake => true
  | .domainSwitchDone d => decide (d < 148)
  | .domainPowerGoodTimeout d => decide (d < 148)
  | .idleGateTimeout d => decide (d < 148)
  | .ddrRegionWiped ch => decide (ch < 2)
  | .resetNRegistered => true
  | .resetNReleased _ => true
  | .hkRoundStart => true
  | .hkConversion value _ => decide (value < 65536)
  | .hkPublication _ _ _ => true
  | .trimSlewStep => true
  | .clockLoss _ => true
  | .refclkLost which => decide (which < 2)
  | .refclkReturn which => decide (which < 2)
  | .ddrPllUnlock ch => decide (ch < 2)
  | .ddrPllRelockTimeout ch _ => decide (ch < 2)
  | .commandTimeout opcode => decide (opcode < 65536)
  | .throttleEnd cls _ _ => decide (cls < 5)
  | .chainTimeout cls _ _ => decide (cls < 5)
  | .dcwGo size => decide (size < 65536)
  | .resultCountingRead win reader => decide (isWindow win ∧ isReader reader)
  | .devIdentify => true
  | .devReset => true
  | .devResetWStart _ => true
  | .logRead => true
  | .devEcho => true
  | .hkpStatus => true
  | .hkpThresholdsSet => true
  | .clkStatus => true
  | .pwrStateGet => true
  | .pwrStateSet => true
  | .shelfReplyDelivered => true
  | .pwrDomainGet => true
  | .pwrDomainSet => true
  | .pwrConverterCfg => true
  | .rtcGet => true
  | .rtcSet => true
  | .perstNAssert => true
  | .perstNDeassert => true
  | .hotResetReceived => true
  | .linkDlDown => true
  | .linkTrainingStart => true
  | .configRequest f _ write => decide (isFn f ∧ ofWrite write)
  | .flrStart f => decide (isFn f)
  | .flrComplete f => decide (isFn f)
  | .vfEnableClear => true
  | .dmaReadCompletion tag _ => decide (tag < 1024)
  | .completionTimeout tag => decide (tag < 1024)
  | .atsInvalidation f tag _ => decide (isFn f ∧ tag < 32)
  | .msixPendingSend f v => decide (isFn f ∧ v < 2048)
  | .mgtEventWrite bits also => decide (bits < 64 ∧ also < 64)
  | .mgtDmafCountRead reader => decide (isReader reader)
  | .tntCharterSet => true
  | .tntCharterGet => true
  | .tntStateSet => true
  | .tntReset => true
  | .tntVfBind => true
  | .qenDb f _ value => decide (isFn f ∧ value < 2 ^ 32)
  | .qenCqDb f _ value => decide (isFn f ∧ value < 2 ^ 32)
  | .pollTimerExpiry g => decide (isRing g)
  | .pollReadCompletion g _ _ => decide (isRing g)
  | .fetchIssue g => decide (isRing g)
  | .fetchReadFailed g => decide (isRing g)
  | .entryNop g entry => decide (isRing g ∧ isEntry entry)
  | .entryPacket g entry _ => decide (isRing g ∧ isEntry entry)
  | .entryTx g entry _ => decide (isRing g ∧ isEntry entry)
  | .entryRxPost g entry => decide (isRing g ∧ isEntry entry)
  | .moderationTimerExpiry g => decide (isRing g)
  | .ringCreate => true
  | .ringDestroy => true
  | .ringDrained g => decide (isRing g)
  | .ringNotifySet => true
  | .cadWAlloc core len256 => decide (isCore core ∧ len256 < 65536)
  | .cadWFree core => decide (isCore core)
  | .waitingAllocServed => true
  | .engineWaitTimeout _ => true
  | .cacheRefill pool => decide (pool < 8)
  | .caddyWipeDone pool => decide (pool < 8)
  | .cadPoolCreate => true
  | .cadPoolDestroy => true
  | .poolReleased pool => decide (pool < 8)
  | .cadPoolStatus => true
  | .frameReceived p _ _ _ => decide (p < 8)
  | .pauseTimeExpiry p cls => decide (p < 8 ∧ cls < 8)
  | .pauseGeneration p => decide (p < 8)
  | .pauseRefresh p => decide (p < 8)
  | .frameTransmit k => decide (isPoint k)
  | .anComplete p result _ _ _ => decide (p < 8 ∧ result < 4)
  | .anRestart p => decide (p < 8)
  | .portLinkChange p what => decide (p < 8 ∧ what < 4)
  | .lldpTimer p => decide (p < 8)
  | .lacpduReceived p _ => decide (p < 8)
  | .lacpPeriodic p => decide (p < 8)
  | .parkWindowEnd a => decide (a < 4)
  | .parkDrainDone p => decide (p < 8)
  | .deepPendingEnd p => decide (p < 8)
  | .memberActive p => decide (p < 8)
  | .wakeLate p => decide (p < 8)
  | .failedMemberRetry p => decide (p < 8)
  | .eeeTlvExpiry p => decide (p < 8)
  | .portModeSet => true
  | .portStatus => true
  | .portPauseSet => true
  | .portParkSet => true
  | .switchLookup _ => true
  | .verdictArrival _ => true
  | .swxTableWrite => true
  | .swxTableCommit => true
  | .swxMirrorSet => true
  | .pointServe k => decide (isPoint k)
  | .schWeightsSet => true
  | .schLimitsSet => true
  | .cryptoItemDone _ => true
  | .entryXtsEnc g entry _ => decide (isRing g ∧ isEntry entry)
  | .entryXtsDec g entry _ => decide (isRing g ∧ isEntry entry)
  | .drbgReseed => true
  | .drbgHealthFailure cause => decide ((1 ≤ cause ∧ cause ≤ 3))
  | .keyLoad => true
  | .keyErase => true
  | .keyKekSet => true
  | .crySaAdd => true
  | .crySaDel => true
  | .drbgStatus => true
  | .entryConnAttach g entry _ => decide (isRing g ∧ isEntry entry)
  | .entryConnDetach g entry _ => decide (isRing g ∧ isEntry entry)
  | .detachAcked _ => true
  | .detachTimeout _ => true
  | .entryConnRekey g entry _ => decide (isRing g ∧ isEntry entry)
  | .entryStoPost g entry _ => decide (isRing g ∧ isEntry entry)
  | .entryTgtResp g entry _ => decide (isRing g ∧ isEntry entry)
  | .entryIniCmd g entry _ => decide (isRing g ∧ isEntry entry)
  | .tcpSegmentReceived _ => true
  | .retransmissionTimeout _ => true
  | .capsuleCmd _ => true
  | .capsuleResp _ => true
  | .h2cData _ => true
  | .c2hData _ => true
  | .termReq _ => true
  | .rocePacketReceived _ => true
  | .cnpReceived _ => true
  | .roceRateRecovery _ => true
  | .driveSubmit d => decide (d < 24)
  | .driveCqPoll d _ _ _ => decide (d < 24)
  | .driveTimeout d _ => decide (d < 24)
  | .stoTargetCfg => true
  | .stoNsSet => true
  | .stoConnStatus => true
  | .entryFixEncode g entry _ => decide (isRing g ∧ isEntry entry)
  | .fixVerifyEntry g entry _ => decide (isRing g ∧ isEntry entry)
  | .fixRepairEntry g entry _ => decide (isRing g ∧ isEntry entry)
  | .entryFixMigrate g entry _ => decide (isRing g ∧ isEntry entry)
  | .fixJobDone _ _ => true
  | .scrubStripe n => decide (n < 16)
  | .fixVerify => true
  | .fixRepair => true
  | .fixScrubSet => true
  | .fixRsCfg => true
  | .tickBoundary => true
  | .frameSyncEdge _ => true
  | .missedFrame => true
  | .sgeNop => true
  | .sgeClr => true
  | .sgeMov => true
  | .sgeAdd => true
  | .sgeSub => true
  | .sgeNeg => true
  | .sgeAbs => true
  | .sgeMin => true
  | .sgeMax => true
  | .sgeAsh => true
  | .sgeCsel => true
  | .sgeClamp => true
  | .sgeLdi => true
  | .sgeLdc => true
  | .sgeRdd => true
  | .sgeWrd => true
  | .sgeMac => true
  | .sgeMaca => true
  | .sgeMula => true
  | .sgeMulab => true
  | .sgeIn => true
  | .sgeOut => true
  | .sgeRes => true
  | .sgeRep => true
  | .sgeProgramLoad => true
  | .sgeProgramSwap => true
  | .sgeTickSet => true
  | .sgeStrayCountRead reader => decide (isReader reader)
  | .sgeMissCountRead reader => decide (isReader reader)
  | .tdmFrameComplete input _ => decide (input < 2)
  | .adcConversion c code => decide (c < 8 ∧ code < 65536)
  | .captureEdge c _ _ => decide (c < 8)
  | .pwmPeriodStart k => decide (k < 16)
  | .pourCopyDone => true
  | .sioPourValue core value => decide (isCore core ∧ value < 2 ^ 32)
  | .pourCommit core => decide (isCore core)
  | .pourDiscard core => decide (isCore core)
  | .sgePourStage => true
  | .sgePourCommit => true
  | .sgeSlotRead => true
  | .fenAdd core => decide (isCore core)
  | .fenSub core => decide (isCore core)
  | .fenAnd core => decide (isCore core)
  | .fenOr core => decide (isCore core)
  | .fenXor core => decide (isCore core)
  | .fenSlt core => decide (isCore core)
  | .fenSltu core => decide (isCore core)
  | .fenMul core => decide (isCore core)
  | .fenMulhu core => decide (isCore core)
  | .fenShli core => decide (isCore core)
  | .fenShri core => decide (isCore core)
  | .fenSari core => decide (isCore core)
  | .fenBeq core => decide (isCore core)
  | .fenBne core => decide (isCore core)
  | .fenBlt core => decide (isCore core)
  | .fenBge core => decide (isCore core)
  | .fenBltu core => decide (isCore core)
  | .fenBgeu core => decide (isCore core)
  | .fenNot core => decide (isCore core)
  | .fenNeg core => decide (isCore core)
  | .fenJr core => decide (isCore core)
  | .fenCallr core => decide (isCore core)
  | .fenRet core => decide (isCore core)
  | .fenPush core => decide (isCore core)
  | .fenPop core => decide (isCore core)
  | .fenYield core => decide (isCore core)
  | .fenWait core => decide (isCore core)
  | .fenExit core => decide (isCore core)
  | .fenTrap core => decide (isCore core)
  | .fenAddi core => decide (isCore core)
  | .fenAndi core => decide (isCore core)
  | .fenOri core => decide (isCore core)
  | .fenXori core => decide (isCore core)
  | .fenSlti core => decide (isCore core)
  | .fenSltiu core => decide (isCore core)
  | .fenLd core => decide (isCore core)
  | .fenSt core => decide (isCore core)
  | .fenLdp core => decide (isCore core)
  | .fenXld core => decide (isCore core)
  | .fenXst core => decide (isCore core)
  | .deviceAccessComplete core => decide (isCore core)
  | .deviceAccessTimeout core => decide (isCore core)
  | .fenRdl core => decide (isCore core)
  | .fenWrl core => decide (isCore core)
  | .fenJmp core => decide (isCore core)
  | .fenCall core => decide (isCore core)
  | .timeSliceExpiry core => decide (isCore core)
  | .eventPost role task bit => decide (role < 4 ∧ task < 32 ∧ bit < 16)
  | .taskCreate core role task prio _ _ => decide (isCore core ∧ role < 4 ∧ task < 32 ∧ prio < 8)
  | .taskCancel core role task => decide (isCore core ∧ role < 4 ∧ task < 32)
  | .wdnEvpost core role task bit => decide (isCore core ∧ role < 4 ∧ task < 32 ∧ bit < 16)
  | .wdnWdogKick core => decide (isCore core)
  | .wdnEvdropRead core => decide (isCore core)
  | .timerArm core timer value => decide (isCore core ∧ timer < 16 ∧ value < 2 ^ 32)
  | .timerExpiry role timer => decide (role < 4 ∧ timer < 16)
  | .watchdogExpiry r _ => decide (r < 4)
  | .lckAcq reader lock => decide (isReader reader ∧ lock < 64)
  | .lckRel reader lock => decide (isReader reader ∧ lock < 64)
  | .batScan _ _ _ _ => true
  | .coulombSample _ => true
  | .ocd _ => true
  | .openWireTest _ => true
  | .openWirePeriod => true
  | .restReached => true
  | .rebaseEvaluation => true
  | .chargeUpdate _ => true
  | .chargerRetry _ => true
  | .batStatus => true
  | .batLimitsSet => true
  | .batOpenWireTest => true
  | .batChargerSet => true
  | .pltSetpointSet => true
  | .setpointLegCommit _ => true
  | .pltStatus => true
  | .pltStop => true
  | .stopCtlAssert => true
  | .stopCtlRelease key => decide (key < 256)
  | .canCfg => true
  | .canFrameReceived ident _ _ _ _ dlc data => decide (ident < 2 ^ 29 ∧ dlc < 16 ∧ data.length ≤ 64)
  | .canTxDone => true
  | .canErrorStateChange _ _ => true
  | .canRecovered => true
  | .canTxreq reg value => decide (reg < 2 ∧ value < 2 ^ 32)
  | .canTxabort reg value => decide (reg < 2 ∧ value < 2 ^ 32)
  | .canRecover => true
  | .canRxLostRead reader => decide (isReader reader)
  | .carriageSegment src data => decide (src < 128 ∧ data.length ≤ 64)
  | .carriageGapTimeout node => decide (node < 128)
  | .lblInventory _ => true
  | .lblStayQuiet _ => true
  | .lblReadSingleBlock _ _ => true
  | .lblWriteSingleBlock _ _ => true
  | .lblLockBlock _ _ => true
  | .lblReadMultipleBlocks _ _ => true
  | .lblWriteMultipleBlocks _ _ => true
  | .lblSelect _ => true
  | .lblResetToReady _ => true
  | .lblGetSystemInfo _ => true
  | .lblGetMultipleBlockSecurityStatus _ _ => true
  | .extendedReadSingleBlock _ _ => true
  | .extendedWriteSingleBlock _ _ => true
  | .extendedLockSingleBlock _ _ => true
  | .extendedReadMultipleBlocks _ _ => true
  | .extendedWriteMultipleBlocks _ _ => true
  | .extendedGetSystemInfo _ _ => true
  | .unsupportedFieldCommand _ => true
  | .mbxSubmit _ _ => true
  | .lblWake _ => true
  | .labelDeviceRead core => decide (isCore core)
  | .labelDeviceWrite core => decide (isCore core)
  | .labelDeferredRetry => true
  | .labelDeferTimeout => true
  | .labelWriteCommit => true
  | .mirrorTimeout => true
  | .xspMasterRead cmd => decide (cmd < 2 ^ 32)
  | .xspMasterWrite cmd => decide (cmd < 2 ^ 32)
  | .xspMasterTransferDone _ => true
  | .xspMasterTimeout => true
  | .xspPktWrite header _ => decide (header < 2 ^ 32)
  | .xspResultRead header _ => decide (header < 2 ^ 32)
  | .xspLockAcq header => decide (header < 2 ^ 32)
  | .xspLockRel header => decide (header < 2 ^ 32)
  | .xspStatus header _ => decide (header < 2 ^ 32)
  | .xspTargetReset header => decide (header < 2 ^ 32)
  | .xspSelectRelease => true
  | .latticeFrameReceived link _ bytes => decide (link < 4 ∧ bytes.length = 256)
  | .commandCarriage => true
  | .latticeFrameSlot link => decide (link < 4)
  | .symbolLockTimeout link => decide (link < 4)
  | .trainingTimeout link => decide (link < 4)
  | .linkRetrain link => decide (link < 4)
  | .helloTimer link => decide (link < 4)
  | .deadTimer link => decide (link < 4)
  | .replayTimer link => decide (link < 4)
  | .qualityWindow link => decide (link < 4)
  | .tunnelFrameReceived p _ => decide (p < 8)
  | .tunnelFlush link => decide (link < 4)
  | .lsaReceived => true
  | .lsaOriginate => true
  | .lsaAgeExpiry _ => true
  | .vertexClaimHeld => true
  | .routeRecompute => true
  | .handoverStateReceived link _ => decide (link < 4)
  | .handoverStop => true
  | .handoverWorkDeadline => true
  | .handoverStopTimeout => true
  | .handoverSwitch => true
  | .handoverRelease => true
  | .latStatus => true
  | .latVertexSet => true
  | .latStackJoin => true
  | .latStackLeave => true
  | .latHandover => true
  | .secureBoot => true
  | .bootDone => true
  | .confirmTimerExpiry _ => true
  | .lcyStateGet => true
  | .lcyTransition _ => true
  | .transitionWStart _ => true
  | .otpSettingsWrite _ => true
  | .fwImageLoad => true
  | .fwImageActivate _ => true
  | .activationWStart _ => true
  | .trustRoll _ => true
  | .rprStatus => true
  | .rprFence _ => true
  | .rprUnfence _ => true
  | .rprSpareSwap => true
  | .autoFence d cause => decide (d < 148 ∧ (1 ≤ cause ∧ cause ≤ 8))
  | .knownAnswerTest d _ => decide (d < 148)
  | .cntBankEnable => true
  | .cntBankDisable => true
  | .cntSnapshot => true
  | .cntRead => true
  | .jtagExtest => true
  | .jtagIdcode => true
  | .jtagSamplePreload => true
  | .jtagClamp => true
  | .jtagHighz => true
  | .jtagExtestPulse => true
  | .jtagExtestTrain => true
  | .jtagBypass => true
  | .dbgAccess => true
  | .debugDeviceRead addr _ => decide (addr < 2 ^ 32)
  | .debugDeviceWrite addr value _ => decide (addr < 2 ^ 32 ∧ value < 2 ^ 32)
  | .debugWardenMemoryRead core space addr _ => decide (isCore core ∧ space < 2 ∧ addr < 65536)
  | .tapReset => true
  | .registerWrite space _ size value => decide (space.wf ∧ (size = 1 ∨ size = 2 ∨ size = 4 ∨ size = 8) ∧ value < 256 ^ size)
  | .aonPowerLoss => true
  | .vinOkLoss => true
  | .ibPgoodHigh _ _ _ => true
  | .linkDlActive speed _ _ => decide ((1 ≤ speed ∧ speed ≤ 5))
  | .symbolLock link => decide (link < 4)
  | .roceAckTimeout _ => true
  | .roleMoveComplete r _ => decide (r < 4)
  | .ddrSpent ch device => decide (ch < 2 ∧ device < 256)
  | .readerField _ => true

end Sys2Proof
end

