-- ==== Sys2Proof/Tests/Slice0.lean ====
section
/-!
SUPPORT. Sys2Proof/Tests/Slice0.lean: tests of the model's own: well-formedness, single steps, and for each statement a state that it speaks about.
-/
open Sys2Proof Sys2Proof.Machine
set_option maxRecDepth 20000
set_option Elab.async false
set_option linter.unusedVariables false
namespace Sys2Proof.Tests

/-! ### States to start from -/

/-- SHELF with AON alone and a wake pending. -/
def shelf : State := { aon := { powered := true, vinOk := true, wakePending := some 0 }, pmc := { st := .shelf } }
/-- Power-up, with IB_EN high. -/
def rising : State := { aon := { powered := true, vinOk := true }, pmc := { st := .boot, upStep := 1, ibEn := true } }
/-- RUN after boot, every domain ON. -/
def run : State :=
  { aon := { powered := true, vinOk := true }, pmc := { st := .run, upStep := 8 }, dom := (List.range 148).map fun d => (d, { st := .on, cause := 0 })
    ckg := { xtal := true, pll := true }, lcy := { bootDone := true } }
/-- HOLD after boot. -/
def hold : State := { run with pmc := { run.pmc with st := .hold } }
/-- A management command. -/
def pkt (op : Nat) (params : Bytes) : Packet := { cls := 2, ident := 0xFFF, path := .dcw, opcode := op, tag := 1, seq := 0, params := params, parts := [params.length] }
/-- A state with one command waiting. -/
def given (op : Nat) (params : Bytes) (s : State) : State := { s with cmd := { s.cmd with queue := [pkt op params] } }

/-- RUN with a battery of four LFP cells. -/
def packed : State := { run with bat := { cfg := { chem := 1, n := 4 } } }
/-- The same, charging. -/
def charging : State := { packed with bat := { packed.bat with charging := true } }
/-- RUN with ring pair 0 of the function PF0, of class 2. -/
def pair0 : Ring := { fn := 127, loc := 0, cls := 2, wide := false, sqLog := 4, cqLog := 4, poll := true, sqBase := 0, cqBase := 0x1000, hdr := 0x2000, pollUs := 1, notify := 1, vector := 1, modCount := 0, modUs := 0, tph := false }
/-- A state with ring pair 0 as given, with bus mastering on. -/
def ringed (r : Ring) : State := { run with host := { run.host with rings := [(0, some r)] }, pce := { run.pce with fns := [(127, { bme := true })] } }
/-- RUN with buffer pool 0 ACTIVE in SRAM. -/
def pooled : State := { run with cad := { run.cad with pools := [(0, { st := 1, mode := 1, place := 1, store := 1, size := 256, n := 512, made := 512 })] } }
/-- Some item. -/
def anItem : QItem := { id := 5, part := 0, cost := 64, job := .entry 0 0 }
/-- RUN with a NOP entry queued at the egress of vport 1. -/
def queued : State := { run with net := { run.net with points := [(1, { queue := [anItem] })] } }
/-- A wait for an engine's buffer. -/
def theWait : CadWait := { cls := 1, agent := 1, owner := 17, fn := 255, len := 256, use := .packet }
/-- RUN with that wait and a pool that can serve it. -/
def waiting : State := { pooled with cad := { pooled.cad with waits := [theWait] } }
/-- RUN with a KEK and an AES key of PF0 and a working DRBG. -/
def keyed : State := { run with cry := { run.cry with drbg := { st := 1 }, keks := [(16, ⟨some ⟨1, zeros 32⟩, none⟩)], slots := [(5, ⟨16, 5, 1, zeros 32⟩)] } }
/-- Parameters of an ESP_OUT SA in transport mode. -/
def saParams : Bytes := [3, 0, 0x10, 0, 5, 0, 0, 0, 9, 0, 0, 0, 0, 0, 0, 0, 1, 4, 64, 0] ++ zeros 44
/-- A frame. -/
def aFrame : Frame := { id := 5, bytes := zeros 60, inVp := 0x48 }
/-- An item of the AES pool that protects the frame under SA 7. -/
def cryptItem : QItem := { id := 5, part := 17, cost := 64, job := .crypt aFrame true 7 { action := zeros 24 } }
/-- RUN with that item in an AES engine. -/
def inAes : State := { run with net := { run.net with points := [(0x104, { serving := [cryptItem] })] } }
/-- A warm move to core 4 with the role frozen. -/
def aMove : RoleMove := { warm := true, dest := 4, frozen := true, since := 0, fence := none }
/-- RUN with role 0 on its way to core 4. -/
def moving : State := modRole 0 (fun x => { x with move := some aMove }) run
/-- RUN with life-cycle state IN_SERVICE, which bars debug. -/
def barred : State := { run with otp := { mem := [(8, 0x53), (9, 0xB0), (0x40, 3)] } }
/-- RUN at 1 s with the watchdog of role 1 due. -/
def watched (last : Option Nat) : State := modRole 1 (fun x => { x with wdDue := some 0, lastWd := last }) { run with us := 1000000 }
/-- RUN with or without a debug session. -/
def debugging (on : Bool) : State := { run with cnt := { run.cnt with session := on } }
/-- RUN with the PCIe link up. -/
def linked : State := { run with pce := { speed := 5, width := 16 } }
/-- The link up and VFs enabled. -/
def virtual : State := { linked with pce := { linked.pce with vfEnable := true, numVfs := 64 } }
/-- A read of the host by VF 5. -/
def aRead : DmaRead := { tag := 3, fn := 127, addr := 0x1000, len := 64, use := .poll 0 }
/-- RUN with that read outstanding. -/
def reading : State := { linked with pce := { linked.pce with reads := [aRead] } }
/-- RUN with message 4 of PF0 pending and its vector open. -/
def messaging : State := { linked with pce := { linked.pce with fns := [(127, { bme := true, msixEn := true })], msix := [(127 * 64 + 4, { masked := false, pending := true })] } }
/-- A read of device space by task 0 of core 0. -/
def anAccess : WdAccess := { task := 0, addr := 0xFFFFFFFFFFFC, write := false, d := 1, value := 0 }
/-- RUN with that access. -/
def accessing : State := { run with wdn := { run.wdn with cores := [(0, { access := some anAccess })] } }
/-- RUN with one command source as given. -/
def sourced (x : Source) : State := { run with cmd := { run.cmd with sources := [x] } }
/-- A chain from the plant bus. -/
def aChain : Chain := { opcode := 0x0501, tag := 1, lastSeq := 0, parts := [], params := [], path := .dcw }
/-- RUN in TARGET mode. -/
def bmc : State := { run with xsp := { target := true } }
/-- An IPv4 frame of a protocol to a port, with the transport header's bytes from 8 on. -/
def ipFrame (proto : Nat) (port : Bytes) (rest : Bytes) : Bytes :=
  zeros 12 ++ [8, 0, 0x45, 0, 0, 48, 0, 0, 0, 0, 64] ++ putLe 1 proto ++ zeros 10 ++ [0, 0] ++ port ++ zeros 4 ++ rest ++ zeros (20 - rest.length)
/-- A connection: PROTO 1 is TCP, 3 RoCEv2. -/
def aConn (proto : Nat) : Conn := { fn := 127, raw := putLe 1 proto ++ [4] ++ zeros 126, engine := 0 }
/-- A frame of the connection. -/
def stoFrame (b : Bytes) : Frame := { id := 5, bytes := b, inVp := 0x48 }
/-- Its item. -/
def stoItem (b : Bytes) : QItem := { id := 5, part := 16, cost := 64, job := .store (stoFrame b) }
/-- RUN with connection 9 and an item in a storage engine. -/
def storing (c : Conn) (b : Bytes) : State :=
  { run with sto := { run.sto with conns := [(9, c)] }, net := { run.net with points := [(0x105, { serving := [stoItem b] })] } }
/-- RUN with drive 3. -/
def aDrive (x : Drive) : State := { run with sto := { run.sto with drives := [(3, x)] } }
/-- A read of a drive. -/
def drvCmd : DrvCmd := { handle := 9, cid := 1, op := 2, ns := 0, lba := 0, blocks := 1 }
/-- The 64 bytes of a drive's configuration. -/
def driveRaw : Bytes := [3, 1, 12, 0, 1, 0, 8, 0] ++ zeros 40 ++ putLe 4 4112 ++ putLe 2 8 ++ putLe 2 500 ++ putLe 8 4096
/-- Four bytes of data for R2T 0 of command 1. -/
def h2cPdu : Bytes := [6, 0, 24, 0, 28, 0, 0, 0, 1, 0, 0, 0, 0, 0, 0, 0, 4, 0, 0, 0, 0, 0, 0, 0, 1, 2, 3, 4]
/-- The connection that it comes on. -/
def h2cConn : Conn := { aConn 1 with pdus := [h2cPdu], cmds := [{ cid := 1, sqe := zeros 64, len := 4, r2ts := [(0, 0, 4)] }] }
/-- RUN with it. -/
def h2cState : State := storing h2cConn []
/-- Four bytes of data from a target for command 1. -/
def c2hPdu : Bytes := [7, 0, 24, 0, 28, 0, 0, 0, 1, 0, 0, 0, 0, 0, 0, 0, 4, 0, 0, 0, 0, 0, 0, 0, 1, 2, 3, 4]
/-- Command 1 of an initiator. -/
def c2hCmd : StoCmd := { cid := 1, sqe := zeros 64, len := 4, phase := 3 }
/-- The connection that it comes on. -/
def c2hConn : Conn := { aConn 2 with pdus := [c2hPdu], cmds := [c2hCmd] }
/-- RUN with it. -/
def c2hState : State := storing c2hConn []
/-- The response to command 1. -/
def respPdu : Bytes := [5, 0, 24, 0, 24, 0, 0, 0] ++ zeros 12 ++ [1, 0, 0, 0]
/-- The connection that it comes on. -/
def respConn : Conn := { aConn 2 with pdus := [respPdu], cmds := [c2hCmd] }
/-- RUN with it. -/
def respState : State := storing respConn []
/-- RUN with a drive that has a command out, with bus mastering on. -/
def cqState : State := { aDrive { raw := driveRaw, out := [(0, drvCmd)] } with pce := (ringed pair0).pce }
/-- The same after the read of its completion queue. -/
def cqGot : State := (dmaGet pf0 (u64 driveRaw 24) 64 (some (zeros 64)) cqState).2
/-- RUN with profile 1. -/
def fixed : State := { run with sto := { run.sto with profiles := [(1, ⟨1, 1, 16, 1, 9, 0, 0, 0⟩)] } }
/-- A fixity namespace on drive 3. -/
def scrubNs : Bytes := [1, 16, 7, 0, 1, 0, 0, 0, 2, 3, 0, 12] ++ zeros 12 ++ [0, 1] ++ zeros 8 ++ [1, 0]
/-- RUN with scrub session 2 of that namespace. -/
def scrubbing : State :=
  { fixed with sto := { fixed.sto with spaces := [(7, scrubNs)], drives := [(3, { raw := driveRaw })], scrubs := [(2, { on := true, ns := 7, rate := 100 })] } }
/-- Step 8 due with a trust hash and a policy. -/
def bootable : State :=
  let policy : Bytes := [0, 1, 1, 0] ++ zeros 12
  otpProgram true 0xF08 0xF08 (policy ++ putLe 4 (crc32c policy).toNat) (otpProgram true 0x80 0x80 [1] { rising with pmc := { rising.pmc with upStep := 7 } })
/-- RUN with VF 5 bound to tenant 2. -/
def bound : State := { run with host := { run.host with vfs := [(5, { tenant := some 2 })] } }
/-- RUN with the signal engine RUNNING and an input of each kind enabled. -/
def sigRun : State :=
  { run with sge := { running := true }, sio := { tdmIn := [(1, { on := true, slots := 2, width := 24 })], adc := [(7, { on := true, avg := 4 })], capture := [(7, { mode := 1, last := some 5, open_ := true })]
                                                  pwm := [(15, { set := true, mode := 1, div := 1000, word := 0x40000000 })] } }
/-- A program of two words. -/
def prog (w : Nat) : SgeProg := { base := 0, code := [0, w, 0], cost := 3, id := 5, clear := false, lines := (List.range 64).map fun i => (8 * i, 8) }
/-- The engine about to issue the second word. -/
def steep (w : Nat) : State :=
  { sigRun with sge := { running := true, active := some (prog w), pos := some 1, acc := [(2, 2 ^ 71 - 1), (1, -5 * 2 ^ 32), (0, -(2 ^ 71))], delay := [(3, 0x80000000)], rep := 2 }
                sio := { sigRun.sio with inputs := [(0x67, 77)], bank0 := [(0x48, 0xC0000000)] } }
/-- The engine with a staged program, STOPPED. -/
def stagedRun : State := { run with sge := { staged := some (prog 0) } }
/-- The engine with TDM input 0 as its source, in a source state. -/
def tdmRun (x : SrcState) : State := { run with sge := { source := 1, src := x }, sio := { tdmIn := [(0, { on := true, slots := 2, width := 24 })] } }
/-- An image of one NOP. -/
def nopImage : Bytes :=
  let head : Bytes := putLe 4 0x53475031 ++ [1, 0, 1, 0, 1, 0, 0, 0, 0, 0, 0, 0, 5, 0, 0, 0]
  let tail : Bytes := zeros 40 ++ zeros 8
  head ++ putLe 4 (crc32c (head ++ tail)).toNat ++ tail
/-- A command on the queue. -/
def asked (p : Packet) (s : State) : State := { s with cmd := { s.cmd with queue := [p] } }
/-- SGE_SLOT_READ on S. -/
def slotAsk : Packet := { pkt 0x0912 [63, 1, 0, 0] with cls := 3 }
/-- A setpoint. -/
def aPoint : Setpoint := { addr := 4095, lo := -100, hi := 1000, rate := 5 }
/-- RUN with setpoint 31. -/
def plantRun : State := { run with plt := { points := [(31, aPoint)] } }
/-- A configuration of the plant bus: MODE 1, node 1. -/
def canBytes : Bytes := [1, 3, 1, 1, 2, 0, 20, 0, 4, 4, 2, 4, 2, 1, 20, 0]
/-- RUN on the plant bus, buffer 5 to be sent and buffer 63 to receive. -/
def busRun : State :=
  { run with can := { cfg := canBytes, st := 1, txreq := [5], bufs := [(5, { id := 0x123, mode := 1, fdf := true, brs := true, dlc := 15 }), (63, { id := 0x123, mode := 2, mask := 0x7FF })] } }
/-- The same with carriage. -/
def carryRun : State := { busRun with can := { busRun.can with cfg := [1, 11] ++ canBytes.drop 2 } }
/-- Role 0 on core 4, its task 1 about to issue the word at code address 0xFFFF. -/
def fenRun (w imm : Nat) (regs : List (Nat × Nat)) (t : WdTask) (c : WdCore) : State :=
  { run with wdn := { run.wdn with map := [4, 1, 2, 3], cores := [(4, { c with code := [(0, imm), (65535, w)], data := [(1, 7), (32769, 9)] })]
                                   roles := [(0, { running := some 1, tasks := [(1, { t with st := 1, pc := 65535, w := regs })] })] } }
/-- The record of a role. -/
def aDesc : RoleDesc := { code := [], data := [], entry := 0, initSp := 0, slim := 0, sm := false, ovf := false, prio := 0, wdogMs := 10 }
/-- Role 0 on core 4: task 1 runs, task 2 waits for bit 15, timer 15 is armed; the service port holds lock 5. -/
def roleRun : State :=
  { run with wdn := { run.wdn with map := [4, 1, 2, 3], locks := [(5, ⟨1, holderService, 0⟩)]
                                   roles := [(0, { running := some 1, desc := some aDesc, tasks := [(1, { st := 2 }), (2, { st := 3, mask := 0x8000, wreg := 3 })]
                                                   timers := [(15, { mode := 2, count := 10, task := 2, bit := 15, due := some 9 })] })] } }
/-- RUN in mode 5 with ports 3 and 7 up, the Ethernet reference there and a pool for their frames. -/
def portRun : State :=
  let p : Port := { type := 0x42, st := 3, maxFrame := 1518, flags := 2, quanta := 9, pause := 1, xoff := [0, 0, 0, 0, 0, 0, 0, 0], xon := [0, 0, 0, 0, 0, 0, 0, 0] }
  { pooled with net := { run.net with mode := 5, ports := [(3, p), (7, p)] }, ckg := { run.ckg with ethRef := true } }
/-- A frame as it comes on the wire. -/
def onWire (b : Bytes) : Bytes := b ++ putLe 4 (fcs b).toNat
/-- A pause frame. -/
def pauseWire : Bytes := onWire (putBe 6 0x0180C2000001 ++ zeros 6 ++ [0x88, 0x08, 0, 1, 0, 9] ++ zeros 42)
/-- A frame of no known type. -/
def plainWire : Bytes := onWire (zeros 12 ++ [0x88, 0xB5] ++ zeros 46)
/-- A frame to send. -/
def outFrame : Frame := { id := 5, bytes := zeros 60, inVp := 0x41 }
/-- Its item. -/
def sendItem : QItem := { id := 5, part := 17, cost := 64, job := .send outFrame }
/-- RUN with that item at the egress of port 7. -/
def outgoing : State := { portRun with net := { portRun.net with points := [(0x4F, { queue := [sendItem] })] } }
/-- Port 7 with a frame stored from it and XOFF sent. -/
def crowded : State :=
  modPort 7 (fun x => { x with partnerPause := true, xoffSent := [0] }) { portRun with net := { portRun.net with inq := [{ frame := { aFrame with bufs := [5], arrival := some (7, 0) }, verdict := 0 }] } }
/-- Ports 3 and 7 as aggregate 0. -/
def aggRun : State :=
  { portRun with net := { portRun.net with aggs := [(0, { on := true, members := [3, 7], minActive := 1, parkPct := 20, wakePct := 60, wakeQueue := 16 })] } }
/-- The same in TRIM, calm for long. -/
def calmRun : State := modAgg 0 (fun g => { g with parkEn := true, holdMs := 10, calm := 9 }) { aggRun with pmc := { aggRun.pmc with st := .trim } }
/-- An action that forwards to port 7. -/
def aFound : Found := { action := [1, 0, 0x4F] ++ zeros 29 }
/-- A frame from port 0 that is being received. -/
def inFrame0 : InFrame := { frame := aFrame, verdict := 0 }
/-- RUN with a frame from port 0 in the switch, the default of its broadcast domain forwarding to port 7. -/
def arrived (judged : Bool) (verdict : Nat) (found : Option Found) : State :=
  { run with net := { run.net with active := { indexed := [(0x200000, [1, 0, 0, 0]), (0x300001, [1, 0, 0x4F] ++ zeros 29)] }, inq := [{ frame := aFrame, verdict := verdict, judged := judged, found := found }] } }
/-- The same without a default. -/
def unswitched : State := { run with net := { run.net with inq := [inFrame0] } }
/-- The key that the frame is looked up by. -/
def keyOf (_ : State) : Bytes := lookupKey aFrame.bytes 0 0x48 0 0 false
/-- The action. -/
def foundOf (_ : State) : Found := aFound
/-- The frame's bytes. -/
def innerOf (_ : State) : Bytes := aFrame.bytes
/-- The tables after one write. -/
def tableWritten : SwTables := match putRecords 5 1 40 1 0 {} ([255, 3, 0, 0, 1, 0, 0, 0, 0x4F] ++ List.replicate 31 255) with
  | .ok v => v
  | .error _ => {}
/-- portRun with one buffer of a pool of 2 KiB left. -/
def lastBuf : State := { portRun with cad := { portRun.cad with pools := [(0, { st := 1, mode := 1, place := 1, store := 1, size := 2048, n := 512, made := 512, fresh := 512, cache := [0] })] } }
/-- The same as the frame has been counted. -/
def lastBuf2 : State := countEv 1 7 0 1 (modPort 7 (fun x => { x with winRx := x.winRx + 8 * plainWire.length }) lastBuf)
/-- The same with the buffer taken. -/
def tookLast : State := poolEvents 0 1 (modPool 0 (fun (x : Pool) => { x with cache := [], owned := [({ index := 0, owner := 17, fn := 255 } : Buf)] }) (freeNat 1 lastBuf2).2)
theorem took_last : ingressBuffers plainWire (lastBuf.port 7).maxFrame lastBuf2 = some ([0], false, tookLast) := by
  have e0 : freeNat 1 lastBuf2 = (0, (freeNat 1 lastBuf2).2) := by simp [freeNat, Nat.mod_one]
  have e1 : takeFrom 0 17 255 lastBuf2 = some (0, tookLast) := by
    show (match freeNat 1 lastBuf2 with
      | (k, s) => some (handleOf false 0 (([0] : List Nat).getD k 0), poolEvents 0 (lastBuf2.pool 0).free (modPool 0 (fun _ => { lastBuf2.pool 0 with cache := ([0] : List Nat).eraseIdx k, owned := [] ++ [({ index := ([0] : List Nat).getD k 0, owner := 17, fn := 255 } : Buf)] }) s))) = _
    rw [e0]; decide +kernel
  have e2 : lastBuf2.pickPool 3 1518 = some 0 := by decide +kernel
  have e3 : lastBuf2.chainLens 1518 = [1518] := by decide +kernel
  have e4 : lastBuf2.quotaOk 17 (lastBuf2.pool 0).size = true := by decide +kernel
  have e5 : (parse plainWire).ver = 0 := by decide +kernel
  have e6 : (lastBuf.port 7).maxFrame = 1518 := by decide +kernel
  have e7 : plainWire.length = 64 := by decide +kernel
  have e8 : (tookLast.pool 0).size = 2048 := by decide +kernel
  have e9 : cadTake 3 17 255 1518 lastBuf2 = some ([0], tookLast) := by
    simp [cadTake, e3, takeChain, takeOne, e2, e4, e1]
  simp [ingressBuffers, e5, e6, e7, e8, e9]
/-- RUN with link 3, a lane, in a state. -/
def laneRun (st : Nat) : State := { run with lat := { links := [(3, { st := st })] }, ckg := { run.ckg with ethRef := true } }
/-- The carriage that has come on link 3. -/
def inboxCar (type : Nat) : Bytes := carriageHead 0 9 type 64
/-- RUN with a carriage of a type from link 3. -/
def inboxed (type : Nat) : State := modLat (fun x => { x with inbox := [(3, inboxCar type, [])] }) (laneRun 5)
/-- The same with it taken. -/
def takeAll (s : State) : State := modLat (fun x => { x with inbox := [] }) s
/-- RUN with an ID claimed. -/
def claimed : State := { run with lat := { id := 4095, vst := 1 } }
/-- The bytes of a tunnel's configuration: port 7, no tag, PEER_MAC 0. -/
def tunnelBlock : Bytes := [2, 2, 10, 4, 10, 0, 10, 0, 0x10, 0x27, 0x4F, 4, 0x88, 0xB5, 0x0F, 0xFF, 0, 0, 0, 0, 0, 0, 5, 0]
/-- portRun with link 2 as a tunnel, UP. -/
def tunnelRun : State := { portRun with lat := { links := [(2, { block := tunnelBlock, st := 5 })] } }
/-- A frame of that tunnel without frames in it. -/
def tunnelWire : Bytes := plainWire
/-- RUN with a serial of 7. -/
def numbered : State := otpProgram true 0 0 [7] run
/-- A stack of the devices 0 and 7. -/
def stackBytes : Bytes := [1, 1, 5, 2, 255, 255, 0, 0] ++ zeros 8 ++ putLe 8 7 ++ putLe 8 0x100 ++ zeros 48
/-- The source of a handover over link 3 in a phase, with a tenant ACTIVE. -/
def handing (phase : Nat) : State :=
  { modHo (fun _ => { phase := phase, source := true, peer := 9, link := 3 }) (laneRun 5) with host := { run.host with tenants := [(2, { state := 1 })], vfs := [(5, { tenant := some 2 })] } }
/-- The final copy of a handover. -/
def aFinal : HoFinal := { conns := [(9, 127, zeros 64)], sas := [], tenantTokens := [(2, 5)], vfTokens := [(5, 6)], scrubs := [], states := [3, 3, 1, 3, 3, 3, 3, 3, 3, 3, 3, 3, 3, 3, 3, 3] }
/-- The target that holds it. -/
def switching : State := modHo (fun h => { h with source := false, phase := 2, final := some aFinal }) (handing 2)
/-- A request of the field, with its CRC. -/
def asReq (flags code : Nat) (args : Bytes) : Bytes :=
  let b : Bytes := [BitVec.ofNat 8 flags, BitVec.ofNat 8 code] ++ (if flags = 0x22 then run.lblUid else []) ++ args
  b ++ putLe 2 (crc16 b).toNat
/-- A packet for the mailbox. -/
def mbxPacket : Bytes := [0x56, 0x4E] ++ zeros 6 ++ [0, 0x60] ++ zeros 10
/-- The wake code of blank OTP. -/
def wakeArgs : Bytes := putLe 4 shelf.lblWakeCode
/-- A warden's operation deferred by a field transaction. -/
def deferred : State := { run with lbl := { jobs := [{ use := .warden 4, addr := 64, since := some 0 }], done := false } }
/-- A mirror under way with one record in the log. -/
def mirroring : State := { logEvent 1 1 [] run with lbl := { mirrorAt := some 0 } }
/-! ### Well-formedness: for each check of WellFormed.lean a command that it refuses, and for each checked command one that passes -/

theorem test_wf_refuses_1 : ([
    .vcorePhaseShed 64, .domainSwitchDone 148, .domainPowerGoodTimeout 148, .idleGateTimeout 148, .ddrRegionWiped 2,
    .hkConversion 65536 none, .refclkLost 2, .refclkReturn 2, .ddrPllUnlock 2, .ddrPllRelockTimeout 2 false, .commandTimeout 65536,
    .throttleEnd 5 0 0, .chainTimeout 5 0 0, .dcwGo 65536, .resultCountingRead 7 0, .resultCountingRead 2 21,
    .configRequest 64 .vendorId none, .configRequest 0 .vendorId (some (2 ^ 32)), .flrStart 64, .flrComplete 64] : List Instr).all (fun c => !c.wf) = true := by decide
theorem test_wf_refuses_2 : ([
    .dmaReadCompletion 1024 false, .completionTimeout 1024, .atsInvalidation 64 0 none, .atsInvalidation 0 32 none, .msixPendingSend 64 0,
    .msixPendingSend 0 2048, .mgtEventWrite 64 0, .mgtEventWrite 0 64, .mgtDmafCountRead 21, .qenDb 64 0 0, .qenDb 0 0 (2 ^ 32),
    .qenCqDb 64 0 0, .qenCqDb 0 0 (2 ^ 32), .pollTimerExpiry 4096, .pollReadCompletion 4096 0 0, .fetchIssue 4096, .fetchReadFailed 4096,
    .entryNop 4096 (List.replicate 64 0), .entryNop 0 [], .entryPacket 4096 (List.replicate 64 0) []] : List Instr).all (fun c => !c.wf) = true := by decide
theorem test_wf_refuses_3 : ([
    .entryPacket 0 [] [], .entryTx 4096 (List.replicate 64 0) [], .entryTx 0 [] [], .entryRxPost 4096 (List.replicate 64 0),
    .entryRxPost 0 [], .moderationTimerExpiry 4096, .ringDrained 4096, .cadWAlloc 5 0, .cadWAlloc 0 65536, .cadWFree 5, .cacheRefill 8,
    .caddyWipeDone 8, .poolReleased 8, .frameReceived 8 [] false (0, 0), .pauseTimeExpiry 8 0, .pauseTimeExpiry 0 8, .pauseGeneration 8,
    .pauseRefresh 8, .frameTransmit 0x107, .anComplete 8 0 0 false false] : List Instr).all (fun c => !c.wf) = true := by decide
theorem test_wf_refuses_4 : ([
    .anComplete 0 4 0 false false, .anRestart 8, .portLinkChange 8 0, .portLinkChange 0 4, .lldpTimer 8, .lacpduReceived 8 [],
    .lacpPeriodic 8, .parkWindowEnd 4, .parkDrainDone 8, .deepPendingEnd 8, .memberActive 8, .wakeLate 8, .failedMemberRetry 8,
    .eeeTlvExpiry 8, .pointServe 0x107, .entryXtsEnc 4096 (List.replicate 64 0) [], .entryXtsEnc 0 [] [],
    .entryXtsDec 4096 (List.replicate 64 0) [], .entryXtsDec 0 [] [], .drbgHealthFailure 4] : List Instr).all (fun c => !c.wf) = true := by decide
theorem test_wf_refuses_5 : ([
    .entryConnAttach 4096 (List.replicate 64 0) [], .entryConnAttach 0 [] [], .entryConnDetach 4096 (List.replicate 64 0) [],
    .entryConnDetach 0 [] [], .entryConnRekey 4096 (List.replicate 64 0) [], .entryConnRekey 0 [] [],
    .entryStoPost 4096 (List.replicate 64 0) [], .entryStoPost 0 [] [], .entryTgtResp 4096 (List.replicate 64 0) [], .entryTgtResp 0 [] [],
    .entryIniCmd 4096 (List.replicate 64 0) [], .entryIniCmd 0 [] [], .driveSubmit 24, .driveCqPoll 24 none [] [], .driveTimeout 24 0,
    .entryFixEncode 4096 (List.replicate 64 0) [], .entryFixEncode 0 [] [], .fixVerifyEntry 4096 (List.replicate 64 0) [],
    .fixVerifyEntry 0 [] [], .fixRepairEntry 4096 (List.replicate 64 0) []] : List Instr).all (fun c => !c.wf) = true := by decide
theorem test_wf_refuses_6 : ([
    .fixRepairEntry 0 [] [], .entryFixMigrate 4096 (List.replicate 64 0) [], .entryFixMigrate 0 [] [], .scrubStripe 16,
    .sgeStrayCountRead 21, .sgeMissCountRead 21, .tdmFrameComplete 2 [], .adcConversion 8 0, .adcConversion 0 65536, .captureEdge 8 false 0,
    .pwmPeriodStart 16, .sioPourValue 5 0, .sioPourValue 0 (2 ^ 32), .pourCommit 5, .pourDiscard 5, .fenAdd 5, .fenSub 5, .fenAnd 5,
    .fenOr 5, .fenXor 5] : List Instr).all (fun c => !c.wf) = true := by decide
theorem test_wf_refuses_7 : ([
    .fenSlt 5, .fenSltu 5, .fenMul 5, .fenMulhu 5, .fenShli 5, .fenShri 5, .fenSari 5, .fenBeq 5, .fenBne 5, .fenBlt 5, .fenBge 5,
    .fenBltu 5, .fenBgeu 5, .fenNot 5, .fenNeg 5, .fenJr 5, .fenCallr 5, .fenRet 5, .fenPush 5, .fenPop 5] : List Instr).all (fun c => !c.wf) = true := by decide
theorem test_wf_refuses_8 : ([
    .fenYield 5, .fenWait 5, .fenExit 5, .fenTrap 5, .fenAddi 5, .fenAndi 5, .fenOri 5, .fenXori 5, .fenSlti 5, .fenSltiu 5, .fenLd 5,
    .fenSt 5, .fenLdp 5, .fenXld 5, .fenXst 5, .deviceAccessComplete 5, .deviceAccessTimeout 5, .fenRdl 5, .fenWrl 5, .fenJmp 5] : List Instr).all (fun c => !c.wf) = true := by decide
theorem test_wf_refuses_9 : ([
    .fenCall 5, .timeSliceExpiry 5, .eventPost 4 0 0, .eventPost 0 32 0, .eventPost 0 0 16, .taskCreate 5 0 0 0 false false,
    .taskCreate 0 4 0 0 false false, .taskCreate 0 0 32 0 false false, .taskCreate 0 0 0 8 false false, .taskCancel 5 0 0,
    .taskCancel 0 4 0, .taskCancel 0 0 32, .wdnEvpost 5 0 0 0, .wdnEvpost 0 4 0 0, .wdnEvpost 0 0 32 0, .wdnEvpost 0 0 0 16, .wdnWdogKick 5,
    .wdnEvdropRead 5, .timerArm 5 0 0, .timerArm 0 16 0] : List Instr).all (fun c => !c.wf) = true := by decide
theorem test_wf_refuses_10 : ([
    .timerArm 0 0 (2 ^ 32), .timerExpiry 4 0, .timerExpiry 0 16, .watchdogExpiry 4 0, .lckAcq 21 0, .lckAcq 0 64, .lckRel 21 0,
    .lckRel 0 64, .stopCtlRelease 256, .canFrameReceived (2 ^ 29) false false false false 0 [],
    .canFrameReceived 0 false false false false 16 [], .canFrameReceived 0 false false false false 0 (List.replicate 65 0), .canTxreq 2 0,
    .canTxreq 0 (2 ^ 32), .canTxabort 2 0, .canTxabort 0 (2 ^ 32), .canRxLostRead 21, .carriageSegment 128 [],
    .carriageSegment 0 (List.replicate 65 0), .carriageGapTimeout 128] : List Instr).all (fun c => !c.wf) = true := by decide
theorem test_wf_refuses_11 : ([
    .labelDeviceRead 5, .labelDeviceWrite 5, .xspMasterRead (2 ^ 32), .xspMasterWrite (2 ^ 32), .xspPktWrite (2 ^ 32) [],
    .xspResultRead (2 ^ 32) 0, .xspLockAcq (2 ^ 32), .xspLockRel (2 ^ 32), .xspStatus (2 ^ 32) 0, .xspTargetReset (2 ^ 32),
    .latticeFrameReceived 4 0 (List.replicate 256 0), .latticeFrameReceived 0 0 [], .latticeFrameSlot 4, .symbolLockTimeout 4,
    .trainingTimeout 4, .linkRetrain 4, .helloTimer 4, .deadTimer 4, .replayTimer 4, .qualityWindow 4] : List Instr).all (fun c => !c.wf) = true := by decide
theorem test_wf_refuses_12 : ([
    .tunnelFrameReceived 8 [], .tunnelFlush 4, .handoverStateReceived 4 .ready, .autoFence 148 1, .autoFence 0 9,
    .knownAnswerTest 148 false, .debugDeviceRead (2 ^ 32) false, .debugDeviceWrite (2 ^ 32) 0 false, .debugDeviceWrite 0 (2 ^ 32) false,
    .debugWardenMemoryRead 5 0 0 false, .debugWardenMemoryRead 0 2 0 false, .debugWardenMemoryRead 0 0 65536 false,
    .registerWrite (.core 5) 0 1 0, .registerWrite .bar0 0 3 0, .registerWrite .bar0 0 1 256, .linkDlActive 6 0 false, .symbolLock 4,
    .roleMoveComplete 4 false, .ddrSpent 2 0, .ddrSpent 0 256] : List Instr).all (fun c => !c.wf) = true := by decide

theorem test_wf_admits_1 : ([
    .vcorePhaseShed 0, .domainSwitchDone 0, .domainPowerGoodTimeout 0, .idleGateTimeout 0, .ddrRegionWiped 0, .hkConversion 0 none,
    .refclkLost 0, .refclkReturn 0, .ddrPllUnlock 0, .ddrPllRelockTimeout 0 false, .commandTimeout 0, .throttleEnd 0 0 0,
    .chainTimeout 0 0 0, .dcwGo 1, .resultCountingRead 2 0, .configRequest 0 .vendorId none, .flrStart 0, .flrComplete 0,
    .dmaReadCompletion 0 false, .completionTimeout 0, .atsInvalidation 0 0 none, .msixPendingSend 0 0, .mgtEventWrite 0 0,
    .mgtDmafCountRead 0, .qenDb 0 0 0, .qenCqDb 0 0 0, .pollTimerExpiry 0, .pollReadCompletion 0 0 0, .fetchIssue 0, .fetchReadFailed 0,
    .entryNop 0 (List.replicate 64 0), .entryPacket 0 (List.replicate 64 0) [], .entryTx 0 (List.replicate 64 0) [],
    .entryRxPost 0 (List.replicate 64 0), .moderationTimerExpiry 0, .ringDrained 0, .cadWAlloc 0 0, .cadWFree 0, .cacheRefill 0,
    .caddyWipeDone 0] : List Instr).all Instr.wf = true := by decide
theorem test_wf_admits_2 : ([
    .poolReleased 0, .frameReceived 0 [] false (0, 0), .pauseTimeExpiry 0 0, .pauseGeneration 0, .pauseRefresh 0, .frameTransmit 0,
    .anComplete 0 0 0 false false, .anRestart 0, .portLinkChange 0 0, .lldpTimer 0, .lacpduReceived 0 [], .lacpPeriodic 0, .parkWindowEnd 0,
    .parkDrainDone 0, .deepPendingEnd 0, .memberActive 0, .wakeLate 0, .failedMemberRetry 0, .eeeTlvExpiry 0, .pointServe 0,
    .entryXtsEnc 0 (List.replicate 64 0) [], .entryXtsDec 0 (List.replicate 64 0) [], .drbgHealthFailure 1,
    .entryConnAttach 0 (List.replicate 64 0) [], .entryConnDetach 0 (List.replicate 64 0) [], .entryConnRekey 0 (List.replicate 64 0) [],
    .entryStoPost 0 (List.replicate 64 0) [], .entryTgtResp 0 (List.replicate 64 0) [], .entryIniCmd 0 (List.replicate 64 0) [],
    .driveSubmit 0, .driveCqPoll 0 none [] [], .driveTimeout 0 0, .entryFixEncode 0 (List.replicate 64 0) [],
    .fixVerifyEntry 0 (List.replicate 64 0) [], .fixRepairEntry 0 (List.replicate 64 0) [], .entryFixMigrate 0 (List.replicate 64 0) [],
    .scrubStripe 0, .sgeStrayCountRead 0, .sgeMissCountRead 0, .tdmFrameComplete 0 []] : List Instr).all Instr.wf = true := by decide
theorem test_wf_admits_3 : ([
    .adcConversion 0 0, .captureEdge 0 false 0, .pwmPeriodStart 0, .sioPourValue 0 0, .pourCommit 0, .pourDiscard 0, .fenAdd 0, .fenSub 0,
    .fenAnd 0, .fenOr 0, .fenXor 0, .fenSlt 0, .fenSltu 0, .fenMul 0, .fenMulhu 0, .fenShli 0, .fenShri 0, .fenSari 0, .fenBeq 0, .fenBne 0,
    .fenBlt 0, .fenBge 0, .fenBltu 0, .fenBgeu 0, .fenNot 0, .fenNeg 0, .fenJr 0, .fenCallr 0, .fenRet 0, .fenPush 0, .fenPop 0,
    .fenYield 0, .fenWait 0, .fenExit 0, .fenTrap 0, .fenAddi 0, .fenAndi 0, .fenOri 0, .fenXori 0, .fenSlti 0] : List Instr).all Instr.wf = true := by decide
theorem test_wf_admits_4 : ([
    .fenSltiu 0, .fenLd 0, .fenSt 0, .fenLdp 0, .fenXld 0, .fenXst 0, .deviceAccessComplete 0, .deviceAccessTimeout 0, .fenRdl 0, .fenWrl 0,
    .fenJmp 0, .fenCall 0, .timeSliceExpiry 0, .eventPost 0 0 0, .taskCreate 0 0 0 0 false false, .taskCancel 0 0 0, .wdnEvpost 0 0 0 0,
    .wdnWdogKick 0, .wdnEvdropRead 0, .timerArm 0 0 0, .timerExpiry 0 0, .watchdogExpiry 0 0, .lckAcq 0 0, .lckRel 0 0, .stopCtlRelease 0,
    .canFrameReceived 0 false false false false 0 [], .canTxreq 0 0, .canTxabort 0 0, .canRxLostRead 0, .carriageSegment 0 [],
    .carriageGapTimeout 0, .labelDeviceRead 0, .labelDeviceWrite 0, .xspMasterRead 0, .xspMasterWrite 0, .xspPktWrite 0 [],
    .xspResultRead 0 0, .xspLockAcq 0, .xspLockRel 0, .xspStatus 0 0] : List Instr).all Instr.wf = true := by decide
theorem test_wf_admits_5 : ([
    .xspTargetReset 0, .latticeFrameReceived 0 0 (List.replicate 256 0), .latticeFrameSlot 0, .symbolLockTimeout 0, .trainingTimeout 0,
    .linkRetrain 0, .helloTimer 0, .deadTimer 0, .replayTimer 0, .qualityWindow 0, .tunnelFrameReceived 0 [], .tunnelFlush 0,
    .handoverStateReceived 0 .ready, .autoFence 0 1, .knownAnswerTest 0 false, .debugDeviceRead 0 false, .debugDeviceWrite 0 0 false,
    .debugWardenMemoryRead 0 0 0 false, .registerWrite .bar0 0 1 0, .linkDlActive 1 0 false, .symbolLock 0, .roleMoveComplete 0 false,
    .ddrSpent 0 0] : List Instr).all Instr.wf = true := by decide

/-! ### Single steps, with the results that the specification's worked examples give -/

/-- The state that a command leaves. -/
abbrev after (c : Instr) (s : State) : State := stateOf (exec c s) s
/-- Register n of the task that runs on core 4 of a fenRun state. -/
abbrev w (n : Nat) (s : State) : Nat := (s.task 0 1).reg n

/-- Worked example 18-1, step 1: the sum wraps. -/
theorem test_fen_add_wraps : w 6 (after (.fenAdd 4) (fenRun 0x1624 0 [(2, 0xFFFF), (4, 3)] {} {})) = 2 := by decide +kernel
/-- Worked example 18-1, step 2: the carry. -/
theorem test_fen_sltu_carry : w 1 (after (.fenSltu 4) (fenRun 0x7162 0 [(2, 0xFFFF), (6, 2)] {} {})) = 1 := by decide +kernel
/-- Worked example 18-1, step 4: the destination is also a source. -/
theorem test_fen_add_into_source : w 7 (after (.fenAdd 4) (fenRun 0x1771 0 [(1, 1), (7, 3)] {} {})) = 4 := by decide +kernel
/-- Worked example 18-1, step 5. -/
theorem test_fen_mul_low : w 8 (after (.fenMul 4) (fenRun 0x8824 0 [(2, 0xFFFF), (4, 3)] {} {})) = 0xFFFD := by decide +kernel
/-- Worked example 18-1, step 6. -/
theorem test_fen_mulhu_high : w 9 (after (.fenMulhu 4) (fenRun 0x9924 0 [(2, 0xFFFF), (4, 3)] {} {})) = 2 := by decide +kernel
/-- Worked example 18-2, register stack, step 1; the instruction stands at 0xFFFF here, so the return address is 1. -/
theorem test_fen_call_register_stack :
    let k := (after (.fenCall 4) (fenRun 0xF100 0x0400 [] { ovf := true } {})).task 0 1
    (k.pc, tget 0 k.stack 0, k.rsp, k.rsc) = (0x0400, 1, 1, 1) := by decide +kernel
/-- Worked example 18-2, register stack, step 5: RSTACK with INFO 2, and nothing of the stack changes. -/
theorem test_fen_ret_empty :
    let k := (after (.fenRet 4) (fenRun 0x0005 0 [] { ovf := true } {})).task 0 1
    (k.xcause, k.xinfo, k.rsp, k.rsc) = (2, 2, 0, 0) := by decide +kernel
/-- Under WRAP that RET pops entry 15, and RSC stays 0. -/
theorem test_fen_ret_wraps :
    let k := (after (.fenRet 4) (fenRun 0x0005 0 [] { stack := [(15, 0x0412)] } {})).task 0 1
    (k.pc, k.rsp, k.rsc) = (0x0412, 15, 0) := by decide +kernel
/-- Worked example 18-2, memory stack, step 1. -/
theorem test_fen_call_memory_stack :
    let t := after (.fenCall 4) (fenRun 0xF100 0x0400 [(15, 0x8000)] { sm := true, ovf := true, slim := 0x7F00 } {})
    (w 15 t, tget 0 (t.core 4).data 0x7FFF, (t.task 0 1).pc) = (0x7FFF, 1, 0x0400) := by decide +kernel
/-- Worked example 18-2, memory stack, step 3. -/
theorem test_fen_addi_frame : w 15 (after (.fenAddi 4) (fenRun 0xEFF1 0xFFF0 [(15, 0x7FFE)] { sm := true } {})) = 0x7FEE := by decide +kernel
/-- Worked example 18-2, the last paragraph: a PUSH at the limit raises RSTACK with INFO 3. -/
theorem test_fen_push_limit :
    let t := after (.fenPush 4) (fenRun 0x0066 0 [(6, 9), (15, 0x7F00)] { sm := true, ovf := true, slim := 0x7F00 } {})
    ((t.task 0 1).xcause, (t.task 0 1).xinfo, w 15 t) = (2, 3, 0x7F00) := by decide +kernel
/-- Worked example 16-2: the fields of three words. -/
theorem test_sge_encodings :
    (let m := 0x1330001400222460; (sgOp m, sgD m, sgLine m, sgTap m, sgCaddr m) = (0x13, 3, 5, 17, 0x123)) ∧
    (let r := 0x3000007F00000000; (sgOp r, sgPort r) = (0x30, 0x7F)) ∧ (let o := 0x2102004B00000000; (sgOp o, sgA o, sgPort o) = (0x21, 2, 0x4B)) := by decide +kernel
/-- Worked example 16-1: budgets at 48, 96 and 192 kHz, with the internal and an external source. -/
theorem test_sge_budgets :
    ([5, 7, 9].map fun r => (periodOf r, windowOf r, budgetOf r 0, budgetOf r 1)) = [(4000, 80, 3968, 3888), (2000, 40, 1968, 1928), (1000, 20, 968, 948)] := by
  decide +kernel
/-- Worked example 17-1: the values of pour 1 at its four ticks, and of pour 2, which starts from the value of the tick before. -/
theorem test_ramp_values :
    ([0, 1, 2, 3].map fun j => (⟨0x40, 0x20000000, 0x30000000, 4, j⟩ : Ramp).value) = [0x24000000, 0x28000000, 0x2C000000, 0x30000000] ∧
    ([0, 1].map fun j => (⟨0x40, 0x28000000, 0x10000000, 2, j⟩ : Ramp).value) = [0x1C000000, 0x10000000] := by decide +kernel
/-- Worked example 21-1: the first leg and the last. -/
theorem test_setpoint_legs :
    legOf 1048576 5 0x0C800000 0x0F000000 = (0x0C800000 + 1431633, 65535, false) ∧
    legOf 1048576 5 (0x0F000000 - 425683) 0x0F000000 = (0x0F000000, 19487, true) := by decide +kernel
/-- Worked example 09-1: the buffers of CAD0 and CAD5, and the reserve of CAD5. -/
theorem test_pool_sizes :
    maxBuffers 1073741824 256 true = 4129776 ∧ maxBuffers 16777216 9472 true = 1770 ∧ (({ n := 1770 } : Pool).rsv) = 89 := by decide +kernel
/-- Worked example 28-1: the counter's last value before the wrap, and one byte more. -/
theorem test_counter_wrap : bump 1 (2 ^ 48 - 1, 0) = (0, 1) ∧ bump 100000000000000 (280000000000000, 0) = (98525023289344, 1) := by decide +kernel
/-- Worked example 20-1: SOC_LO and SOC_HI, with a table that holds 3,265, 3,280 and 3,290 mV at 20, 25 and 30 %. -/
theorem test_soc_interval :
    let t := [3100, 3150, 3200, 3250, 3265, 3280, 3290, 3300]
    (socLo t 32650, socHi t 32850) = (200, 275) := by decide +kernel
/-- Worked example 22-1, step 2: a read of the field during a device-side write is answered with error 0xA1. -/
theorem test_label_busy :
    (after (.lblReadMultipleBlocks (asReq 2 0x23 [16, 0]) 300) { run with lbl := { jobs := [{ use := .warden 2, addr := 64, data := [1], running := true }] } }).out
      = [.labelReply ([1, 0xA1] ++ putLe 2 (crc16 [1, 0xA1]).toNat)] := by decide +kernel
/-- Worked example 03-1: the header of the reply. -/
theorem test_reply_header :
    (buildReply { run with lat := { run.lat with id := 5 } } 2 0x0101 0x2A 7 0 (zeros 32)).take 16 = [0x56, 0x4E, 1, 1, 1, 1, 0x2A, 0, 5, 0x20, 0x20, 0, 7, 0, 0, 0] := by
  decide +kernel
/-- Worked example 03-2: COUNT 200 of LOG_READ at parameter offset 4 is refused with BAD_PARAM. -/
theorem test_log_read_count :
    (match (after .logRead { run with cmd := { run.cmd with queue := [{ pkt 0x0103 [0, 0, 0, 0, 200, 0, 1, 0] with tag := 0x100, seq := 0x41 }] } }).cmd.dcwResult with
      | x => (x.status, x.body.drop 16 |>.take 4)) = (0x14, [4, 0, 0, 0]) := by decide +kernel

/-- Worked example 05-1: the diode reads 83.20 °C, P0 is 15.0 W and P4 22.0 W, so Z4 is at 86.30 °C. -/
theorem test_zone_estimate :
    let raw := (((List.replicate 32 0).set 0 8320).set 10 1500).set 14 2200
    ((zoneTemps run.hkp.k raw).getD 0 0, (zoneTemps run.hkp.k raw).getD 4 0) = (8320, 8630) := by decide +kernel

/-- Table 29-7: in SHELF the stop latch still drives PLANT_STOP_N, IB_EN is low and WAKE_N wakes; in HOLD the Ethernet lanes are high-impedance. -/
theorem test_pins :
    (shelf.pin .plantStop, shelf.pin .ibEn, shelf.pin .wake, hold.pin (.lnTx 0), State.reset.pin .plantStop) = (.low, .low, .wakes, .hiZ, .undriven) := by
  decide +kernel
/-- Table 06-4: MGT_ID reads PART, REVISION and GRADE; R18: an access that is not aligned reads zeros. -/
theorem test_host_read : ((hostRead pf0 0 4 run).map (·.1), (hostRead pf0 2 4 run).map (·.1)) = (some 0x53B05616, some 0) := by decide +kernel
/-- Table 07-3: the page of an unbound VF reads 0 at every offset but CHG_SELF, which holds the VF's number. -/
theorem test_charter_page : (wordAt (run.charterPage 37) 4, wordAt (run.charterPage 37) 0, wordAt (run.charterPage 37) 0x800) = (37 * 16, 0, 0) := by decide +kernel
/-- R640, BLANK OTP: a PWM output without a committed record is high-impedance; R824: without the strap the port drives XCLK. -/
theorem test_pins_run : (run.pin (.pwm 3), run.pin .xclk, run.pin (.pcieTx 15)) = (.hiZ, .active, .active) := by decide +kernel

/-! ### For each statement, states that its hypotheses allow -/

/-- Each clause of SupplyEventsComplete speaks about a state that there is. -/
theorem wit_SupplyEventsComplete :
    (∃ (s : State), (s.pmc.st = .off)) ∧ 
    (∃ (s : State), (s.aon.powered = true)) ∧ 
    (∃ (s : State) (w : Nat), (s.aon.wakePending = some w) ∧ (s.pmc.st = .shelf) ∧ (s.pmc.trans = none) ∧ (s.aon.vinOk = true) ∧ (s.aon.brownOut = false)) ∧ 
    (∃ (s : State) (w : Nat), (s.aon.wakePending = some w) ∧ (s.pmc.st = .shelf) ∧ (s.pmc.trans = none) ∧ (s.aon.vinOk = true) ∧ (s.aon.brownOut = true)) ∧ 
    (∃ (s : State), (s.pmc.st = .boot) ∧ (s.pmc.upStep = 1) ∧ (s.pmc.ibEn = true) ∧ (s.pmc.ibcTries < 7)) ∧ 
    (∃ (s : State), (s.pmc.st = .boot) ∧ (s.pmc.upStep = 1) ∧ (s.pmc.ibEn = true) ∧ (7 ≤ s.pmc.ibcTries)) ∧ 
    (∃ (s : State), (s.pmc.st = .boot) ∧ (s.pmc.upStep = 1) ∧ (s.pmc.ibEn = false)) ∧ 
    (∃ (s : State) (diode : Int), let u := railsSet s; (s.pmc.st = .boot) ∧ (s.pmc.upStep = 1) ∧ (s.pmc.ibEn = true)) ∧ 
    (∃ (s : State) (xtalOk pllOk : Bool) (diode : Int), let u := abandonPowerUp (railsSet s); (s.pmc.st = .boot) ∧ (s.pmc.upStep = 1) ∧ (s.pmc.ibEn = true) ∧ ((xtalOk && pllOk) = false)) ∧ 
    (∃ (s : State), (s.aon.powered = true)) ∧ 
    (∃ (s : State), (s.aon.brownOut = true) ∧ (s.pmc.st = .shelf)) :=
  ⟨⟨State.reset, by decide +kernel⟩,
   ⟨shelf, by decide +kernel⟩,
   ⟨shelf, 0, by decide +kernel, by decide +kernel, by decide +kernel, by decide +kernel, by decide +kernel⟩,
   ⟨{ shelf with aon := { shelf.aon with brownOut := true } }, 0, by decide +kernel, by decide +kernel, by decide +kernel, by decide +kernel, by decide +kernel⟩,
   ⟨rising, by decide +kernel, by decide +kernel, by decide +kernel, by decide +kernel⟩,
   ⟨{ rising with pmc := { rising.pmc with ibcTries := 7 } }, by decide +kernel, by decide +kernel, by decide +kernel, by decide +kernel⟩,
   ⟨{ rising with pmc := { rising.pmc with ibEn := false } }, by decide +kernel, by decide +kernel, by decide +kernel⟩,
   ⟨rising, 2500, by decide +kernel, by decide +kernel, by decide +kernel⟩,
   ⟨rising, true, false, 2500, by decide +kernel, by decide +kernel, by decide +kernel, by decide +kernel⟩,
   ⟨shelf, by decide +kernel⟩,
   ⟨{ shelf with aon := { shelf.aon with brownOut := true } }, by decide +kernel, by decide +kernel⟩⟩

/-- Each clause of InputSupervisionCompletes speaks about a state that there is. -/
theorem wit_InputSupervisionCompletes :
    (∃ (s : State) (vin : Nat), let u := logEvent 2 0x8008 (detail [(16, 2, vin)]) { s with pmc := { s.pmc with vinLow := true, vin := vin } }; (s.aon.powered = true)) ∧ 
    (∃ (s : State) (set : Bool) (vin : Nat), (s.pmc.vinOv = !set)) ∧ 
    (∃ (s : State) (vbus : Nat), let u := routePost 2 (powerEvent (logEvent 2 0x8002 (detail [(16, 2, vbus)]) (chargeEval { s with pmc := { s.pmc with pfail := true, vbus := vbus } }))); let v := whenS (u.dataOn && u.pmc.trans.isNone) startGrace u; (s.pmc.pfail = false) ∧ (s.aon.powered = true)) ∧ 
    (∃ (s : State) (vbus : Nat), let u := routePost 2 (powerEvent (logEvent 2 0x8003 (detail [(16, 2, vbus)]) (chargeEval { s with pmc := { s.pmc with pfail := false, vbus := vbus, graceEnd := none, limitEnd := none } }))); (s.pmc.pfail = true) ∧ (u.pmc.holdBy = none) ∧ (u.pmc.holdupDrain = false)) ∧ 
    (∃ (s : State), (s.pmc.graceEnd.isSome = true) ∧ (s.pmc.pfail = true) ∧ (s.dataOn = true)) ∧ 
    (∃ (s : State), let u := callDown true 1 (6 + b2n (s.aon.rtcAlarm != 0)) s.aon.rtcAlarm s.pmc.drainMs { s with pmc := { s.pmc with limitEnd := none } }; (s.pmc.limitEnd.isSome = true) ∧ (s.pmc.st = .hold) ∧ (s.pmc.trans = none)) :=
  ⟨⟨run, 3600, by decide +kernel⟩,
   ⟨run, true, 6000, by decide +kernel⟩,
   ⟨run, 3000, by decide +kernel, by decide +kernel⟩,
   ⟨{ run with pmc := { run.pmc with pfail := true } }, 4800, by decide +kernel, by decide +kernel, by decide +kernel⟩,
   ⟨{ run with pmc := { run.pmc with pfail := true, graceEnd := some 0 } }, by decide +kernel, by decide +kernel, by decide +kernel⟩,
   ⟨{ hold with pmc := { hold.pmc with limitEnd := some 0 } }, by decide +kernel, by decide +kernel, by decide +kernel⟩⟩

/-- Each clause of TransitionsComplete speaks about a state that there is. -/
theorem wit_TransitionsComplete :
    (∃ (s : State) (x : Transition), (s.pmc.trans = some x) ∧ (x.phase = .drain)) ∧ 
    (∃ (s : State) (c : TransCall) (rest : List TransCall), (s.pmc.trans = none) ∧ (s.pmc.calls = c :: rest) ∧ (s.live = true) ∧ (c.cause = 0) ∧ (c.target = 3 ∨ c.target = 0x10)) ∧ 
    (∃ (s : State) (c : TransCall) (rest : List TransCall), (s.pmc.trans = none) ∧ (s.pmc.calls = c :: rest) ∧ (s.live = true) ∧ (c.cause = 0) ∧ (c.target = 1 ∨ c.target = 2) ∧ (s.pmc.st.code ≠ c.target)) ∧ 
    (∃ (s : State) (x : Transition), (s.pmc.trans = some x) ∧ (x.phase = .held)) ∧ 
    (∃ (s : State) (x : Transition), let u := stateChange 3 0x10 x.shelfCause (linksDown (fun _ => true) 8 s); (s.pmc.trans = some x) ∧ (x.phase = .entry) ∧ (x.mirror ≠ 0) ∧ (s.pmc.st = .hold) ∧ (s.lbl.mirrorAt = none)) ∧ 
    (∃ (s : State) (x : Transition), let u := modLbl (fun y => { y with jobs := y.jobs.filter (·.running), mirrorAt := none }) s; (s.pmc.trans = some x) ∧ (x.phase = .falling)) :=
  ⟨⟨{ run with pmc := { run.pmc with trans := some { phase := .drain, toShelf := false, cause := 0 } } }, { phase := .drain, toShelf := false, cause := 0 }, by decide +kernel, by decide +kernel⟩,
   ⟨{ run with pmc := { run.pmc with calls := [{ target := 3, cause := 0 }] } }, { target := 3, cause := 0 }, [], by decide +kernel, by decide +kernel, by decide +kernel, by decide +kernel, by decide +kernel⟩,
   ⟨{ hold with pmc := { hold.pmc with calls := [{ target := 1, cause := 0 }] } }, { target := 1, cause := 0 }, [], by decide +kernel, by decide +kernel, by decide +kernel, by decide +kernel, by decide +kernel, by decide +kernel⟩,
   ⟨{ hold with pmc := { hold.pmc with trans := some { phase := .held, toShelf := true, cause := 0 } } }, { phase := .held, toShelf := true, cause := 0 }, by decide +kernel, by decide +kernel⟩,
   ⟨{ hold with pmc := { hold.pmc with trans := some { phase := .entry, toShelf := true, cause := 0, mirror := 2 } } }, { phase := .entry, toShelf := true, cause := 0, mirror := 2 }, by decide +kernel, by decide +kernel, by decide +kernel, by decide +kernel, by decide +kernel⟩,
   ⟨{ shelf with pmc := { shelf.pmc with trans := some { phase := .falling, toShelf := true, cause := 0 } } }, { phase := .falling, toShelf := true, cause := 0 }, by decide +kernel, by decide +kernel⟩⟩

/-- Each clause of RailsAndWakesComplete speaks about a state that there is. -/
theorem wit_RailsAndWakesComplete :
    (∃ (s : State) (rail : Nat) (mirrorOk : Bool), (s.live = true)) ∧ 
    (∃ (s : State), (s.live = true) ∧ (s.pmc.phasesOn + s.aon.phaseShed.length < s.pmc.phases)) ∧ 
    (∃ (s : State) (phase : Nat), let shed := nset phase s.aon.phaseShed; let left := s.pmc.phases - shed.length; (s.live = true) ∧ (phase ∉ s.aon.phaseShed) ∧ (phase < s.pmc.phases) ∧ (ceilDiv s.pmc.phases 2 ≤ left)) ∧ 
    (∃ (s : State) (phase : Nat), let shed := nset phase s.aon.phaseShed; let left := s.pmc.phases - shed.length; let u := logEvent 29 0x8005 (detail [(16, 1, phase), (17, 1, left)]) { s with aon := { s.aon with phaseShed := shed }, pmc := { s.pmc with phasesOn := min s.pmc.phasesOn left } }; (s.live = true) ∧ (phase ∉ s.aon.phaseShed) ∧ (phase < s.pmc.phases) ∧ (left < ceilDiv s.pmc.phases 2)) ∧ 
    (∃ (s : State), (s.pmc.st = .shelf) ∧ (s.pmc.trans = none) ∧ (s.aon.wakeMask.testBit 0 = true) ∧ (s.aon.wakePending = none)) ∧ 
    (∃ (s : State), (s.pmc.st = .shelf) ∧ (s.pmc.trans = none) ∧ (s.aon.wakeMask.testBit 1 = true) ∧ (s.aon.wakePending = none)) ∧ 
    (∃ (s : State), (s.pmc.st = .shelf) ∧ (s.pmc.trans = none) ∧ (s.aon.wakeMask.testBit 2 = true) ∧ (s.aon.wakePending = none)) :=
  ⟨⟨run, 2, true, by decide +kernel⟩,
   ⟨run, by decide +kernel, by decide +kernel⟩,
   ⟨run, 3, by decide +kernel, by decide +kernel, by decide +kernel, by decide +kernel⟩,
   ⟨{ run with aon := { run.aon with phaseShed := [0, 1, 2, 4] } }, 3, by decide +kernel, by decide +kernel, by decide +kernel, by decide +kernel⟩,
   ⟨{ shelf with aon := { shelf.aon with wakePending := none, wakeMask := 1 } }, by decide +kernel, by decide +kernel, by decide +kernel, by decide +kernel⟩,
   ⟨{ shelf with aon := { shelf.aon with wakePending := none, wakeMask := 2 } }, by decide +kernel, by decide +kernel, by decide +kernel, by decide +kernel⟩,
   ⟨{ shelf with aon := { shelf.aon with wakePending := none, wakeMask := 4 } }, by decide +kernel, by decide +kernel, by decide +kernel, by decide +kernel⟩⟩

/-- Each clause of DomainsComplete speaks about a state that there is. -/
theorem wit_DomainsComplete :
    (∃ (s : State) (d : Nat), ((s.domain d).switchingOn = false) ∧ ((s.domain d).switchingOff = true)) ∧ 
    (∃ (s : State) (d : Nat), let u := finishUnfence d (finishWaits (fun k => k == .domain d) stOk (fun _ => []) (setDomain d { s.domain d with st := .on, cause := 0, switchingOn := false } s)); let v := forEach (List.range 4) (fun r s => modRole r (fun y => { y with move := y.move.map fun m => if m.dest + 15 == d && !m.frozen then { m with frozen := true, since := s.us } else m }) s) u; ((s.domain d).switchingOn = true)) ∧ 
    (∃ (s : State) (d : Nat), ((s.domain d).switchingOn = true)) ∧ 
    (∃ (s : State) (d : Nat), (s.pmc.st = .trim) ∧ (trimOf d = 1) ∧ (s.isOn d = true) ∧ (s.domBusy d = false) ∧ (inR d 65 85 = false) ∧ ((s.domain d).forced = none)) ∧ 
    (∃ (s : State), (s.live = true)) ∧ 
    (∃ (s : State) (diode : Int), (s.rst.active = some .w)) ∧ 
    (∃ (s : State) (diode : Int), (s.rst.wPending = some 4) ∧ (s.live = true)) :=
  ⟨⟨{ run with dom := [(40, { st := .on, cause := 0, switchingOff := true })] }, 40, by decide +kernel, by decide +kernel⟩,
   ⟨{ run with dom := [(40, { switchingOn := true })] }, 40, by decide +kernel⟩,
   ⟨{ run with dom := [(40, { switchingOn := true })] }, 40, by decide +kernel⟩,
   ⟨{ run with pmc := { run.pmc with st := .trim } }, 102, by decide +kernel, by decide +kernel, by decide +kernel, by decide +kernel, by decide +kernel, by decide +kernel⟩,
   ⟨run, by decide +kernel⟩,
   ⟨{ rising with rst := { active := some .w, pinLow := true } }, 2500, by decide +kernel⟩,
   ⟨{ run with rst := { wPending := some 4 } }, 2500, by decide +kernel, by decide +kernel⟩⟩

/-- Each clause of PowerCommandsComplete speaks about a state that there is. -/
theorem wit_PowerCommandsComplete :
    (∃ (s t : State) (p : Packet), (Given 0x0201 p s t) ∧ (p.params.length = 0)) ∧ 
    (∃ (s t : State) (p : Packet), (Given 0x0202 p s t) ∧ (p.params.length = 16) ∧ (u8 p.params 0 = 1 ∨ u8 p.params 0 = 2) ∧ (u32 p.params 8 ≤ 1000) ∧ (t.pmc.st.code ≠ u8 p.params 0) ∧ (t.pmc.trans = none)) ∧ 
    (∃ (s t : State) (p : Packet), let ms := if u32 p.params 8 = 0 then 200 else u32 p.params 8; (Given 0x0202 p s t) ∧ (p.params.length = 16) ∧ (u8 p.params 0 = 3) ∧ (u32 p.params 8 ≤ 1000) ∧ (t.pmc.st.code ≠ 3) ∧ ((t.pmc.trans.any fun x => x.phase != .drain) = false)) ∧ 
    (∃ (s t : State) (p : Packet), (Given 0x0203 p s t) ∧ (p.params.length = 4) ∧ (1 ≤ u16 p.params 2) ∧ (u16 p.params 0 + u16 p.params 2 ≤ 148)) ∧ 
    (∃ (s t : State) (p : Packet), let u := modDomain (u16 p.params 0) (fun y => { y with forced := none }) t; let want := domainFor u u.pmc.st (u16 p.params 0); (Given 0x0204 p s t) ∧ (p.params.length = 4) ∧ (u16 p.params 0 < 148) ∧ (u8 p.params 2 = 3) ∧ (t.domLost (u16 p.params 0) = false) ∧ ((t.domain (u16 p.params 0)).st ≠ .spare) ∧ (want.st = (t.domain (u16 p.params 0)).st)) ∧ 
    (∃ (s t : State) (p : Packet), (Given 0x0205 p s t) ∧ (u8 p.params 0 = 1) ∧ (p.params.length = 8) ∧ (inR (u8 p.params 4) 8 0x77 = true) ∧ (addrTaken t 0 (u8 p.params 4) = false) ∧ (inR (u16 p.params 6) 10800 12600 = true)) ∧ 
    (∃ (s t : State) (p : Packet), (Given 0x0205 p s t) ∧ (u8 p.params 0 = 0x10) ∧ (p.params.length = 16) ∧ (inR (u16 p.params 4) 9000 58000 = true) ∧ (u32 p.params 8 ≤ 3600000) ∧ (u32 p.params 12 ≤ 86400)) ∧ 
    (∃ (s t : State) (p : Packet), (Given 0x0206 p s t) ∧ (p.params.length = 0)) ∧ 
    (∃ (s t : State) (p : Packet), (Given 0x0207 p s t) ∧ (p.params.length = 8)) :=
  ⟨⟨(given 0x0201 [] (run)), run, pkt 0x0201 [], ⟨rfl, rfl, rfl, rfl⟩, by decide +kernel⟩,
   ⟨(given 0x0202 ([1] ++ zeros 15) (hold)), hold, pkt 0x0202 ([1] ++ zeros 15), ⟨rfl, rfl, rfl, rfl⟩, by decide +kernel, by decide +kernel, by decide +kernel, by decide +kernel, by decide +kernel⟩,
   ⟨(given 0x0202 ([3] ++ zeros 15) (run)), run, pkt 0x0202 ([3] ++ zeros 15), ⟨rfl, rfl, rfl, rfl⟩, by decide +kernel, by decide +kernel, by decide +kernel, by decide +kernel, by decide +kernel⟩,
   ⟨(given 0x0203 [5, 0, 2, 0] (run)), run, pkt 0x0203 [5, 0, 2, 0], ⟨rfl, rfl, rfl, rfl⟩, by decide +kernel, by decide +kernel, by decide +kernel⟩,
   ⟨(given 0x0204 [40, 0, 3, 0] (run)), run, pkt 0x0204 [40, 0, 3, 0], ⟨rfl, rfl, rfl, rfl⟩, by decide +kernel, by decide +kernel, by decide +kernel, by decide +kernel, by decide +kernel, by decide +kernel⟩,
   ⟨(given 0x0205 [1, 0, 0, 0, 9, 0, 0xE0, 0x2E] (run)), run, pkt 0x0205 [1, 0, 0, 0, 9, 0, 0xE0, 0x2E], ⟨rfl, rfl, rfl, rfl⟩, by decide +kernel, by decide +kernel, by decide +kernel, by decide +kernel, by decide +kernel⟩,
   ⟨(given 0x0205 ([0x10, 0, 0, 0, 0x40, 0x9C] ++ zeros 10) (run)), run, pkt 0x0205 ([0x10, 0, 0, 0, 0x40, 0x9C] ++ zeros 10), ⟨rfl, rfl, rfl, rfl⟩, by decide +kernel, by decide +kernel, by decide +kernel, by decide +kernel, by decide +kernel⟩,
   ⟨(given 0x0206 [] (run)), run, pkt 0x0206 [], ⟨rfl, rfl, rfl, rfl⟩, by decide +kernel⟩,
   ⟨(given 0x0207 (zeros 8) (run)), run, pkt 0x0207 (zeros 8), ⟨rfl, rfl, rfl, rfl⟩, by decide +kernel⟩⟩

/-- Each clause of ClocksComplete speaks about a state that there is. -/
theorem wit_ClocksComplete :
    (∃ (s : State), (s.live = true) ∧ (s.unreset = true)) ∧ 
    (∃ (s : State) (value : Nat), (s.live = true) ∧ (s.hkp.conv < 31) ∧ (s.hkp.conv ≠ 1) ∧ (s.hkp.conv ≠ 2) ∧ ((s.domain 3).st ≠ .fenced)) ∧ 
    (∃ (s : State) (value : Nat), (s.live = true) ∧ (s.hkp.conv = 1) ∧ ((s.domain 3).st ≠ .fenced)) ∧ 
    (∃ (s : State) (value : Nat), (s.live = true) ∧ (s.hkp.conv = 31) ∧ ((s.domain 3).st ≠ .fenced)) ∧ 
    (∃ (s : State) (short0 short1 : Bool) (c : Nat), let tz := zoneTemps s.hkp.k s.hkp.raw; (s.live = true) ∧ (s.hkp.conv = 32) ∧ (s.hkp.raw.length = 32) ∧ ((s.domain 3).st ≠ .fenced) ∧ (sensorCheck false s.hkp.raw = some c) ∧ (c ≠ 3)) ∧ 
    (∃ (s : State), (s.live = true) ∧ (s.hkp.fault = none)) ∧ 
    (∃ (s : State) (pll : Bool), let u := shelfNow 7 false s; (s.live = true)) ∧ 
    (∃ (s : State) (pll : Bool), let u := abandonPowerUp s; (s.pmc.st = .boot) ∧ (6 ≤ s.pmc.upStep) ∧ (s.rst.active ≠ some .w)) ∧ 
    (∃ (s : State) (ch : Nat), (s.ckg.relocking.contains ch = true)) ∧ 
    (∃ (s : State) (ch : Nat), (s.ckg.relocking.contains ch = true)) ∧ 
    (∃ (s t : State) (p : Packet), (Given 0x0110 p s t) ∧ (p.params.length = 0) ∧ ((t.domain 3).st ≠ .fenced)) ∧ 
    (∃ (s t : State) (p : Packet), (Given 0x0111 p s t) ∧ (p.params.length = 16) ∧ ((thresholdFields p.params).all (·.2) = true)) ∧ 
    (∃ (s t : State) (p : Packet), let locked := fun ch => t.isOn (88 + ch) && !t.ckg.relocking.contains ch && !t.ckg.unlocked.contains ch; (Given 0x0112 p s t) ∧ (p.params.length = 0)) :=
  ⟨⟨run, by decide +kernel, by decide +kernel⟩,
   ⟨{ run with hkp := { conv := 0 } }, 2500, by decide +kernel, by decide +kernel, by decide +kernel, by decide +kernel, by decide +kernel⟩,
   ⟨{ run with hkp := { conv := 1, raw := [2500] } }, 4800, by decide +kernel, by decide +kernel, by decide +kernel⟩,
   ⟨{ run with hkp := { conv := 31, raw := List.replicate 31 0 } }, 5, by decide +kernel, by decide +kernel, by decide +kernel⟩,
   ⟨{ run with hkp := { conv := 32, raw := List.replicate 32 0 } }, true, false, 1, by decide +kernel, by decide +kernel, by decide +kernel, by decide +kernel, by decide +kernel, by decide +kernel⟩,
   ⟨run, by decide +kernel, by decide +kernel⟩,
   ⟨run, true, by decide +kernel⟩,
   ⟨{ rising with pmc := { rising.pmc with upStep := 6 } }, false, by decide +kernel, by decide +kernel, by decide +kernel⟩,
   ⟨{ run with ckg := { run.ckg with relocking := [1] } }, 1, by decide +kernel⟩,
   ⟨{ run with ckg := { run.ckg with relocking := [1] } }, 1, by decide +kernel⟩,
   ⟨(given 0x0110 [] (run)), run, pkt 0x0110 [], ⟨rfl, rfl, rfl, rfl⟩, by decide +kernel, by decide +kernel⟩,
   ⟨(given 0x0111 ([100, 0, 0, 0, 200, 0, 0, 0, 44, 1, 0, 0, 20] ++ zeros 3) (run)), run, pkt 0x0111 ([100, 0, 0, 0, 200, 0, 0, 0, 44, 1, 0, 0, 20] ++ zeros 3), ⟨rfl, rfl, rfl, rfl⟩, by decide +kernel, by decide +kernel⟩,
   ⟨(given 0x0112 [] (run)), run, pkt 0x0112 [], ⟨rfl, rfl, rfl, rfl⟩, by decide +kernel⟩⟩

/-- Each clause of BatteryEventsComplete speaks about a state that there is. -/
theorem wit_BatteryEventsComplete :
    (∃ (s : State) (cells : List Nat) (stack : Nat) (t0 t1 : Int), (s.batRuns = true)) ∧ 
    (∃ (s : State) (sample : Int), (s.batRuns = true) ∧ (-8388608 ≤ sample) ∧ (sample < 8388608)) ∧ 
    (∃ (s : State) (ma : Nat), (s.batRuns = true) ∧ (s.aon.ocdLatch = false) ∧ (s.bat.cfg.ocdMa < ma)) ∧ 
    (∃ (s : State) (change : Int) (n : Nat) (rest : List Nat), (s.batRuns = true) ∧ (s.bat.tests = n :: rest) ∧ (change.natAbs ≤ 400) ∧ (n ∉ s.bat.open_)) ∧ 
    (∃ (s : State) (change : Int) (n : Nat) (rest : List Nat), (s.batRuns = true) ∧ (s.bat.tests = n :: rest) ∧ (400 < change.natAbs) ∧ (n ∉ s.bat.open_)) ∧ 
    (∃ (s : State), (s.batRuns = true) ∧ (s.bat.cfg.owPeriod ≠ 0)) ∧ 
    (∃ (s : State), (s.batRuns = true) ∧ (s.bat.sample.natAbs * 5000000000 < s.aon.bat.cap * 8388608 * s.bat.cfg.shunt)) ∧ 
    (∃ (s : State), (s.batRuns = true)) ∧ 
    (∃ (s : State), (s.batRuns = true) ∧ (s.bat.charging = true) ∧ (s.bat.fails < 2)) ∧ 
    (∃ (s : State), let u := modBat (fun b => { b with fails := b.fails + 1 }) s; (s.batRuns = true) ∧ (s.bat.charging = true) ∧ (2 ≤ s.bat.fails)) ∧ 
    (∃ (s : State), let aim := s.bat.cfg.n * s.bat.chg.cell; let volts := min aim (((s.bat.stack * 10 + aim : Nat) : Int) - (s.bat.cfg.n * s.bat.highest.getD 0 / 10 : Nat)).toNat; (s.batRuns = true) ∧ (s.bat.charging = true) ∧ (s.bat.amps < 0) ∧ (0 < s.bat.chg.termMin)) ∧ 
    (∃ (s : State), (s.bat.fault = true)) :=
  ⟨⟨packed, [33000, 33000, 33000, 33000], 13200, 250, 250, by decide +kernel⟩,
   ⟨packed, -8388608, by decide +kernel, by decide +kernel, by decide +kernel⟩,
   ⟨packed, 2000000, by decide +kernel, by decide +kernel, by decide +kernel⟩,
   ⟨{ packed with bat := { packed.bat with tests := [2] } }, 400, 2, [], by decide +kernel, by decide +kernel, by decide +kernel, by decide +kernel⟩,
   ⟨{ packed with bat := { packed.bat with tests := [2] } }, -401, 2, [], by decide +kernel, by decide +kernel, by decide +kernel, by decide +kernel⟩,
   ⟨{ packed with bat := { packed.bat with cfg := { packed.bat.cfg with owPeriod := 60 } } }, by decide +kernel, by decide +kernel⟩,
   ⟨{ packed with aon := { packed.aon with bat := { cap := 10000 } }, bat := { packed.bat with cfg := { packed.bat.cfg with shunt := 50 } } }, by decide +kernel, by decide +kernel⟩,
   ⟨packed, by decide +kernel⟩,
   ⟨charging, by decide +kernel, by decide +kernel, by decide +kernel⟩,
   ⟨{ charging with bat := { charging.bat with fails := 2 } }, by decide +kernel, by decide +kernel, by decide +kernel⟩,
   ⟨{ charging with bat := { charging.bat with sample := -8388608, cfg := { charging.bat.cfg with shunt := 50 }, chg := { termMin := 1 } } }, by decide +kernel, by decide +kernel, by decide +kernel, by decide +kernel⟩,
   ⟨{ packed with bat := { packed.bat with fault := true } }, by decide +kernel⟩⟩

/-- Each clause of BatteryCommandsComplete speaks about a state that there is. -/
theorem wit_BatteryCommandsComplete :
    (∃ (s t : State) (p : Packet), (Given 0x0A02 p s t) ∧ (p.params.length = 48) ∧ (u8 p.params 0 = 1) ∧ ((batCfgFields p.params).all (·.2) = true)) ∧ 
    (∃ (s t : State) (p : Packet), (Given 0x0A02 p s t) ∧ (p.params.length = 4) ∧ (u8 p.params 0 = 3)) ∧ 
    (∃ (s t : State) (p : Packet), let first := u8 p.params 0; let last := u8 p.params 1; (Given 0x0A03 p s t) ∧ (p.params.length = 4) ∧ (u8 p.params 0 ≤ u8 p.params 1) ∧ (u8 p.params 1 ≤ 16) ∧ (t.bat.cfg.chem ≠ 0)) ∧ 
    (∃ (s t : State) (p : Packet), let c := chargerOf p.params; (Given 0x0A04 p s t) ∧ (p.params.length = 20) ∧ (u8 p.params 0 ≤ 1) ∧ (inR c.addr 8 0x77 = true) ∧ (railAddr c.addr t = false) ∧ (inR c.ma 100 200000 = true) ∧ (t.bat.cfg.chem = 0 ∨ c.cell + 50 ≤ t.bat.cfg.ov) ∧ (inR c.termMa 10 20000 = true) ∧ (inR c.recharge 50 99 = true) ∧ (inR c.termMin 1 120 = true)) ∧ 
    (∃ (s t : State) (p : Packet), let b := t.bat; let flags := maskOf (((([t.aon.dsgEn, t.aon.chgEn, b.charging, b.rested, t.aon.bat.counterDrift, t.aon.bat.relearn, t.aon.ocdLatch, b.stale, t.aon.dsgBlock, b.sumFlag, b.cfg.ocv.isSome, b.fault] : List Bool).zipIdx.filter fun x => x.1)).map (·.2)); let ntc := fun (fit : Bool) (x : Int) => if fit then unsigned 16 x else 0x8000; (Given 0x0A01 p s t) ∧ (p.params.length = 0)) :=
  ⟨⟨(given 0x0A02 ([1, 1, 4, 0, 0x42, 0x0E, 0x28, 0x0A, 0xDE, 0x0D, 0x8C, 0x0A, 0xF0, 0x0A, 20, 0, 5, 0, 0, 0, 100, 0, 0, 0, 1, 0, 50, 0, 0xE8, 3, 0, 0, 0, 0, 1, 0, 0, 0, 1, 0, 0, 0] ++ zeros 6) (run)), run, pkt 0x0A02 ([1, 1, 4, 0, 0x42, 0x0E, 0x28, 0x0A, 0xDE, 0x0D, 0x8C, 0x0A, 0xF0, 0x0A, 20, 0, 5, 0, 0, 0, 100, 0, 0, 0, 1, 0, 50, 0, 0xE8, 3, 0, 0, 0, 0, 1, 0, 0, 0, 1, 0, 0, 0] ++ zeros 6), ⟨rfl, rfl, rfl, rfl⟩, by decide +kernel, by decide +kernel, by decide +kernel⟩,
   ⟨(given 0x0A02 [3, 0, 0, 0] (run)), run, pkt 0x0A02 [3, 0, 0, 0], ⟨rfl, rfl, rfl, rfl⟩, by decide +kernel, by decide +kernel⟩,
   ⟨(given 0x0A03 [0, 4, 0, 0] (packed)), packed, pkt 0x0A03 [0, 4, 0, 0], ⟨rfl, rfl, rfl, rfl⟩, by decide +kernel, by decide +kernel, by decide +kernel, by decide +kernel⟩,
   ⟨(given 0x0A04 ([1, 9, 0, 0, 100, 0, 0, 0, 0x48, 0x0D, 10, 0, 90, 0, 5, 0] ++ zeros 4) (run)), run, pkt 0x0A04 ([1, 9, 0, 0, 100, 0, 0, 0, 0x48, 0x0D, 10, 0, 90, 0, 5, 0] ++ zeros 4), ⟨rfl, rfl, rfl, rfl⟩, by decide +kernel, by decide +kernel, by decide +kernel, by decide +kernel, by decide +kernel, by decide +kernel, by decide +kernel, by decide +kernel, by decide +kernel⟩,
   ⟨(given 0x0A01 [] (run)), run, pkt 0x0A01 [], ⟨rfl, rfl, rfl, rfl⟩, by decide +kernel⟩⟩

/-- Each clause of CaddiesComplete speaks about a state that there is. -/
theorem wit_CaddiesComplete :
    (∃ (s t : State) (core len256 h : Nat), (core ≤ 4) ∧ ((s.cadWarden core).done = true) ∧ (takeOne 0 17 254 ((len256 % 256 + 1) * 256) s = some (h, t))) ∧ 
    (∃ (s : State) (core len256 : Nat), (core ≤ 4) ∧ ((s.cadWarden core).done = true) ∧ (takeOne 0 17 254 ((len256 % 256 + 1) * 256) s = none)) ∧ 
    (∃ (s : State) (core : Nat), let h := (s.cadWarden core).handle.toNat; let r := cadFree 18 core h (forgetBuf h s); (core ≤ 4) ∧ ((s.cadWarden core).done = true)) ∧ 
    (∃ (s : State) (pool : Nat), ((s.pool pool).st ≠ 0) ∧ ((s.pool pool).store = 2) ∧ ((s.pool pool).cache.length < 512)) ∧ 
    (∃ (s : State) (pool : Nat), ((s.pool pool).st ≠ 0) ∧ ((s.pool pool).store = 1)) ∧ 
    (∃ (s : State) (pool i : Nat) (rest : List Nat), ((s.pool pool).wiping = i :: rest)) ∧ 
    (∃ (s : State) (pool : Nat), ((s.pool pool).st = 2) ∧ ((s.pool pool).owned = []) ∧ ((s.pool pool).wiping = [])) ∧ 
    (∃ (s t : State) (p : Packet) (n : Nat), let b := p.params; let units := (List.range (u8 b 9)).map (· + u8 b 8); let size := ([256, 512, 1024, 2048, 4096, 9472, 16384, 65536] : List Nat).getD (u8 b 0) 0; let x : Pool := { st := 1, mode := 1, place := 1, store := u8 b 3, size := size, spill := (u8 b 6).testBit 0, chan := 0, first := u8 b 8, count := u8 b 9, n := n, made := n, low := u16 b 16, high := u16 b 18, cache := List.range (min 512 n), fresh := min 512 n }; (Given 0x0410 p s t) ∧ (p.params.length = 24) ∧ ((poolFields t p.params).all (·.2) = true) ∧ (u8 p.params 1 = 1) ∧ (u8 p.params 2 = 1) ∧ ((t.pool (u8 b 0)).st = 0) ∧ (t.createdPools = []) ∧ (units.any (fun i => t.domLost (100 + i)) = false) ∧ (units.any (fun i => t.areaUsed 1 0 i) = false) ∧ (u32 b 20 = 0) ∧ (n = min (maxBuffers (u8 b 9 * 0x200000) size (u8 b 3 == 1)) 4194304) ∧ (16 ≤ n)) ∧ 
    (∃ (s t : State) (p : Packet), let q := u8 p.params 0; (Given 0x0411 p s t) ∧ (p.params.length = 4) ∧ (u8 p.params 0 ≤ 7) ∧ ((t.pool (u8 p.params 0)).st ≠ 0)) ∧ 
    (∃ (s t : State) (p : Packet), let kib := fun o => putLe 4 (ceilDiv (t.charge o) 1024); (Given 0x0412 p s t) ∧ (p.params.length = 0)) :=
  ⟨⟨pooled, ((takeOne 0 17 254 1024 pooled).getD (0, {})).2, 4, 3, ((takeOne 0 17 254 1024 pooled).getD (0, {})).1, by decide +kernel, by decide +kernel, by decide +kernel⟩,
   ⟨{ run with cad := { run.cad with ctl := (List.range 512).map fun i => ⟨i, 17, 255⟩ } }, 0, 255, by decide +kernel, by decide +kernel, by decide +kernel⟩,
   ⟨run, 4, by decide +kernel, by decide +kernel⟩,
   ⟨{ run with cad := { run.cad with pools := [(0, { st := 1, store := 2 })] } }, 0, by decide +kernel, by decide +kernel, by decide +kernel⟩,
   ⟨pooled, 0, by decide +kernel, by decide +kernel⟩,
   ⟨{ run with cad := { run.cad with pools := [(0, { st := 1, wiping := [5] })] } }, 0, 5, [], by decide +kernel⟩,
   ⟨{ run with cad := { run.cad with pools := [(0, { st := 2 })] } }, 0, by decide +kernel, by decide +kernel, by decide +kernel⟩,
   ⟨(given 0x0410 ([0, 1, 1, 1, 0, 0, 0, 0, 2, 1, 0, 0, 0, 0, 0, 0, 64, 0, 0, 1, 0, 0, 0, 0]) (run)), run, pkt 0x0410 ([0, 1, 1, 1, 0, 0, 0, 0, 2, 1, 0, 0, 0, 0, 0, 0, 64, 0, 0, 1, 0, 0, 0, 0]), maxBuffers 0x200000 256 true, ⟨rfl, rfl, rfl, rfl⟩, by decide +kernel, by decide +kernel, by decide +kernel, by decide +kernel, by decide +kernel, by decide +kernel, by decide +kernel, by decide +kernel, by decide +kernel, by decide +kernel, by decide +kernel⟩,
   ⟨(given 0x0411 [0, 0, 0, 0] (pooled)), pooled, pkt 0x0411 [0, 0, 0, 0], ⟨rfl, rfl, rfl, rfl⟩, by decide +kernel, by decide +kernel, by decide +kernel⟩,
   ⟨(given 0x0412 [] (pooled)), pooled, pkt 0x0412 [], ⟨rfl, rfl, rfl, rfl⟩, by decide +kernel⟩⟩

/-- Each clause of RingsComplete speaks about a state that there is. -/
theorem wit_RingsComplete :
    (∃ (s : State) (g : Nat) (r : Ring), (s.ring g = some r) ∧ (r.poll = true) ∧ (r.st ≠ .clearing) ∧ (s.dataOn = true) ∧ (r.pollRead = none) ∧ (s.pce.reads.length < 768) ∧ (dmaCheck r.fn r.hdr 8 false s = .pass)) ∧ 
    (∃ (s : State) (g cause : Nat) (r : Ring), (s.ring g = some r) ∧ (r.poll = true) ∧ (r.st ≠ .clearing) ∧ (s.dataOn = true) ∧ (r.pollRead = none) ∧ (s.pce.reads.length < 768) ∧ (dmaCheck r.fn r.hdr 8 false s = .refused cause)) ∧ 
    (∃ (s : State) (g tail head : Nat) (r : Ring) (x : Poll), (s.ring g = some r) ∧ (r.pollRead = some x) ∧ (x.tailStale = false) ∧ (x.headStale = false)) ∧ 
    (∃ (s : State) (g : Nat) (r : Ring), let size := if r.wide then 128 else 64; (s.ring g = some r) ∧ (s.mayFetch g r = true) ∧ (s.pce.reads.length < 768) ∧ (dmaCheck r.fn (r.sqBase + r.head * size) size false s = .pass)) ∧ 
    (∃ (s : State) (g : Nat) (r : Ring) (x : Fetch), (s.ring g = some r) ∧ (r.fetch = some x) ∧ (x.failed = true)) ∧ 
    (∃ (s : State) (g : Nat) (r : Ring), (s.ring g = some r) ∧ (r.modTimer = true) ∧ (0 < r.modNow)) ∧ 
    (∃ (s : State) (g : Nat) (r : Ring), (s.ring g = some r) ∧ (r.ending = true) ∧ (r.work = []) ∧ (r.fetch = none)) ∧ 
    (∃ (s t : State) (p : Packet) (g : Nat), let b := p.params; (Given 0x0401 p s t) ∧ (p.params.length = 40) ∧ (u8 p.params 0 = 127) ∧ (u8 p.params 1 ≤ 63) ∧ (inR (u8 p.params 2) 2 4 = true) ∧ (u8 p.params 3 = 0) ∧ (u8 p.params 4 ≤ 1) ∧ (inR (u8 p.params 5) 4 16 = true) ∧ (inR (u8 p.params 6) 4 16 = true) ∧ (u64 p.params 8 % 4096 = 0) ∧ (u64 p.params 16 % 4096 = 0) ∧ (u8 p.params 7 = 0) ∧ (u64 p.params 24 % 64 = 0) ∧ (u8 p.params 34 = 0) ∧ (t.ringAt 127 (u8 p.params 1) = none) ∧ (t.rings.length < 4096) ∧ (t.domLost 36 = false) ∧ (t.freeRing 0 = some g)) ∧ 
    (∃ (s t : State) (p : Packet) (g : Nat) (r : Ring), (Given 0x0402 p s t) ∧ (p.params.length = 4) ∧ (fnCode (u8 p.params 0) = true) ∧ (u8 p.params 1 ≤ 63) ∧ (t.ringAt (u8 p.params 0) (u8 p.params 1) = some (g, r)) ∧ (r.cls ≠ 1 ∨ p.cls ≠ 1) ∧ (r.work ≠ [])) ∧ 
    (∃ (s t : State) (p : Packet) (g : Nat) (r : Ring), (Given 0x0402 p s t) ∧ (p.params.length = 4) ∧ (fnCode (u8 p.params 0) = true) ∧ (u8 p.params 1 ≤ 63) ∧ (t.ringAt (u8 p.params 0) (u8 p.params 1) = some (g, r)) ∧ (r.cls ≠ 1 ∨ p.cls ≠ 1) ∧ (r.work = []) ∧ (r.fetch = none)) ∧ 
    (∃ (s t : State) (p : Packet) (g : Nat) (r : Ring), let b := p.params; (Given 0x0403 p s t) ∧ (p.params.length = 24) ∧ (fnCode (u8 p.params 0) = true) ∧ (u8 p.params 1 ≤ 63) ∧ (t.ringAt (u8 p.params 0) (u8 p.params 1) = some (g, r)) ∧ (u8 p.params 2 = 0) ∧ (u8 p.params 3 = 1) ∧ (u8 p.params 0 = 127) ∧ (inR (u8 p.params 4) 1 63 = true) ∧ (u64 p.params 16 % 64 = 0) ∧ (r.unannounced = 0)) :=
  ⟨⟨ringed pair0, 0, pair0, by decide +kernel, by decide +kernel, by decide +kernel, by decide +kernel, by decide +kernel, by decide +kernel, by decide +kernel⟩,
   ⟨{ ringed pair0 with pce := {} }, 0, 1, pair0, by decide +kernel, by decide +kernel, by decide +kernel, by decide +kernel, by decide +kernel, by decide +kernel, by decide +kernel⟩,
   ⟨ringed { pair0 with pollRead := some {} }, 0, 5, 0, { pair0 with pollRead := some {} }, {}, by decide +kernel, by decide +kernel, by decide +kernel, by decide +kernel⟩,
   ⟨ringed { pair0 with tail := 1 }, 0, { pair0 with tail := 1 }, by decide +kernel, by decide +kernel, by decide +kernel, by decide +kernel⟩,
   ⟨ringed { pair0 with fetch := some { reserve := 0, failed := true } }, 0, { pair0 with fetch := some { reserve := 0, failed := true } }, { reserve := 0, failed := true }, by decide +kernel, by decide +kernel, by decide +kernel⟩,
   ⟨ringed { pair0 with modTimer := true, modNow := 1 }, 0, { pair0 with modTimer := true, modNow := 1 }, by decide +kernel, by decide +kernel, by decide +kernel⟩,
   ⟨ringed { pair0 with st := .draining }, 0, { pair0 with st := .draining }, by decide +kernel, by decide +kernel, by decide +kernel, by decide +kernel⟩,
   ⟨(given 0x0401 ([127, 3, 2, 0, 0, 4, 16, 0] ++ zeros 32) (run)), run, pkt 0x0401 ([127, 3, 2, 0, 0, 4, 16, 0] ++ zeros 32), 0, ⟨rfl, rfl, rfl, rfl⟩, by decide +kernel, by decide +kernel, by decide +kernel, by decide +kernel, by decide +kernel, by decide +kernel, by decide +kernel, by decide +kernel, by decide +kernel, by decide +kernel, by decide +kernel, by decide +kernel, by decide +kernel, by decide +kernel, by decide +kernel, by decide +kernel, by decide +kernel⟩,
   ⟨(given 0x0402 [127, 0, 0, 0] ((ringed { pair0 with work := [{ seq := 0, entry := [], slots := [] }] }))), (ringed { pair0 with work := [{ seq := 0, entry := [], slots := [] }] }), pkt 0x0402 [127, 0, 0, 0], 0, { pair0 with work := [{ seq := 0, entry := [], slots := [] }] }, ⟨rfl, rfl, rfl, rfl⟩, by decide +kernel, by decide +kernel, by decide +kernel, by decide +kernel, by decide +kernel, by decide +kernel⟩,
   ⟨(given 0x0402 [127, 0, 0, 0] ((ringed pair0))), (ringed pair0), pkt 0x0402 [127, 0, 0, 0], 0, pair0, ⟨rfl, rfl, rfl, rfl⟩, by decide +kernel, by decide +kernel, by decide +kernel, by decide +kernel, by decide +kernel, by decide +kernel, by decide +kernel⟩,
   ⟨(given 0x0403 ([127, 0, 0, 1, 5] ++ zeros 19) ((ringed pair0))), (ringed pair0), pkt 0x0403 ([127, 0, 0, 1, 5] ++ zeros 19), 0, pair0, ⟨rfl, rfl, rfl, rfl⟩, by decide +kernel, by decide +kernel, by decide +kernel, by decide +kernel, by decide +kernel, by decide +kernel, by decide +kernel, by decide +kernel, by decide +kernel, by decide +kernel⟩⟩

/-- Each clause of SchedulingAndAllocationComplete speaks about a state that there is. -/
theorem wit_SchedulingAndAllocationComplete :
    (∃ (s t : State) (k : Nat) (i : QItem), (k < 0x48) ∧ ((s.point k).serving = []) ∧ (s.net.inq.any (fun q => q.cut == some k) = false) ∧ (popItem k [] s = some (i, t))) ∧ 
    (∃ (s : State), (s.unitsOn 0x106 = [])) ∧ 
    (∃ (s : State) (w : CadWait), (s.waitOrder.find? (fun w => (cadTake w.cls w.owner w.fn w.len s).isSome) = some w)) ∧ 
    (∃ (s : State) (n : Nat) (w : CadWait), let u := { s with cad := { s.cad with waits := s.cad.waits.eraseIdx n } }; (s.cad.waits[n]? = some w) ∧ (w.cls = 1)) ∧ 
    (∃ (s t : State) (p : Packet), let b := p.params; let u := forEach (List.range 16) (fun x s => if u8 b (4 + x) = 0 then s else charter x (fun y => { y with weight := u8 b (4 + x) }) s) t; (Given 0x0520 p s t) ∧ (p.params.length = 24) ∧ (u8 p.params 0 = 1)) ∧ 
    (∃ (s t : State) (p : Packet), let b := p.params; let rate := u32 b 4; let burst := u32 b 8 % 2 ^ 24; let x := u8 b 1; let u := settleTenant x t; (Given 0x0521 p s t) ∧ (p.params.length = 24) ∧ ((limitFields t p.params).all (·.2) = true) ∧ (u8 p.params 0 = 1) ∧ ((u.tenant x).rate ≠ rate)) :=
  ⟨⟨queued, ((popItem 1 [] queued).getD (anItem, {})).2, 1, ((popItem 1 [] queued).getD (anItem, {})).1, by decide +kernel, by decide +kernel, by decide +kernel, by decide +kernel⟩,
   ⟨State.reset, by decide +kernel⟩,
   ⟨waiting, theWait, by decide +kernel⟩,
   ⟨waiting, 0, theWait, by decide +kernel, by decide +kernel⟩,
   ⟨(given 0x0520 ([1, 0, 0, 0, 5] ++ zeros 19) (run)), run, pkt 0x0520 ([1, 0, 0, 0, 5] ++ zeros 19), ⟨rfl, rfl, rfl, rfl⟩, by decide +kernel, by decide +kernel⟩,
   ⟨(given 0x0521 ([1, 2, 0, 0, 100, 0, 0, 0, 64, 0, 0, 0, 64, 0, 0, 0, 64, 0, 0, 0] ++ zeros 4) (run)), run, pkt 0x0521 ([1, 2, 0, 0, 100, 0, 0, 0, 64, 0, 0, 0, 64, 0, 0, 0, 64, 0, 0, 0] ++ zeros 4), ⟨rfl, rfl, rfl, rfl⟩, by decide +kernel, by decide +kernel, by decide +kernel, by decide +kernel⟩⟩

/-- Each clause of CryptoEnginesComplete speaks about a state that there is. -/
theorem wit_CryptoEnginesComplete :
    (∃ (s : State) (id : Nat) (i : QItem) (f : Frame) (enc : Bool) (sa : Nat) (x : Found), let r := cryptLeave sa i.num f.bytes (outOfUnit 0x104 i s); (s.inUnit 0x104 id = some i) ∧ (i.job = .crypt f enc sa x) ∧ (((s.point 0x104).serving.takeWhile fun j => j.id != id).any (fun j => orderKey j.job == orderKey i.job) = false)) ∧ 
    (∃ (s : State), (s.cry.drbg.st = 1) ∧ (s.isOn 64 = true)) ∧ 
    (∃ (s : State) (cause : Nat), (inR cause 1 3 = true) ∧ (s.isOn 64 = true) ∧ (s.cry.drbg.st ≠ 2)) ∧ 
    (∃ (s : State) (cause : Nat), (inR cause 1 3 = true) ∧ (s.isOn 64 = true) ∧ (s.cry.drbg.st = 2)) ∧ 
    (∃ (s t : State) (p : Packet), let d := t.cry.drbg; (Given 0x0606 p s t) ∧ (p.params.length = 0)) :=
  ⟨⟨inAes, 5, cryptItem, aFrame, true, 7, { action := zeros 24 }, by decide +kernel, by decide +kernel, by decide +kernel⟩,
   ⟨{ run with cry := { run.cry with drbg := { st := 1 } } }, by decide +kernel, by decide +kernel⟩,
   ⟨{ run with cry := { run.cry with drbg := { st := 1 } } }, 2, by decide +kernel, by decide +kernel, by decide +kernel⟩,
   ⟨{ run with cry := { run.cry with drbg := { st := 2 } } }, 3, by decide +kernel, by decide +kernel, by decide +kernel⟩,
   ⟨(given 0x0606 [] (run)), run, pkt 0x0606 [], ⟨rfl, rfl, rfl, rfl⟩, by decide +kernel⟩⟩

/-- Each clause of KeyCommandsComplete speaks about a state that there is. -/
theorem wit_KeyCommandsComplete :
    (∃ (s t : State) (p : Packet) (d : Nat), let b := p.params; let blob := b.drop 8; (Given 0x0601 p s t) ∧ (p.params.length = 64) ∧ (u8 p.params 0 = 1) ∧ (u8 p.params 1 = 16) ∧ (loadSlot t 16 (u16 p.params 2) = .ok d) ∧ (u8 (p.params.drop 8) 0 = 1)) ∧ 
    (∃ (s t : State) (p : Packet) (d : Nat) (k : Kek), let b := p.params; let r := drawKey (u8 b 4) t; let u := putKey d 16 (u16 b 2) (u8 b 4) r.1 r.2; (Given 0x0601 p s t) ∧ (p.params.length = 8) ∧ (u8 p.params 0 = 2) ∧ (u8 p.params 1 = 16) ∧ (loadSlot t 16 (u16 p.params 2) = .ok d) ∧ (inR (u8 p.params 4) 1 3 = true) ∧ (t.domLost 64 = false) ∧ ((t.keksOf 16).cur = some k) ∧ (t.cry.drbg.st = 1)) ∧ 
    (∃ (s t : State) (p : Packet) (k : Kek), let blob := p.params.drop 8; (Given 0x0601 p s t) ∧ (p.params.length = 64) ∧ (u8 p.params 0 = 3) ∧ (u8 p.params 1 = 16) ∧ ((t.keksOf 16).cur = some k)) ∧ 
    (∃ (s t : State) (p : Packet), let sel := t.cry.slots.filter fun x => x.2.owner == 16; (Given 0x0602 p s t) ∧ (p.params.length = 4) ∧ (u8 p.params 0 = 16) ∧ (u8 p.params 1 = 2) ∧ (t.cry.sas.find? (fun x => x.2.kind != 1 && sel.any fun y => y.1 == x.2.slot) = none)) ∧ 
    (∃ (s t : State) (p : Packet), let b := p.params; let ks := t.keksOf (u8 b 0); (Given 0x0603 p s t) ∧ (p.params.length = 64) ∧ (u8 p.params 0 ≤ 16) ∧ (u8 p.params 1 = 1) ∧ (ks.cur.map (·.gen) ≠ some 65535) ∧ (u16 b 2 ≠ 0) ∧ (ks.cur = none ∨ ks.cur.map (·.gen + 1) = some (u16 b 2))) ∧ 
    (∃ (s t : State) (p : Packet), let o := u8 p.params 0; let ks := t.keksOf o; (Given 0x0603 p s t) ∧ (p.params.length = 8) ∧ (u8 p.params 0 ≤ 16) ∧ (u8 p.params 1 = 2)) ∧ 
    (∃ (s t : State) (p : Packet), let b := p.params; (Given 0x0604 p s t) ∧ (p.params.length = 64) ∧ ((saFields t p.params).all (·.2) = true) ∧ (u8 p.params 2 = 0x10) ∧ (t.saAny (u16 b 0) = none) ∧ (saRoom t 0x10 (u16 b 6) = true) ∧ ((t.cry.slots.lookup (u16 b 4)).map (·.type) = some 1)) ∧ 
    (∃ (s t : State) (p : Packet), let i := u16 p.params 0; (Given 0x0605 p s t) ∧ (p.params.length = 4) ∧ ((t.sa i).isSome = true) ∧ ((t.saAny i).map (·.kind) ≠ some 1) ∧ (t.connNames i = false)) :=
  ⟨⟨(given 0x0601 ([1, 16, 9, 0, 0, 0, 0, 0, 1, 16] ++ zeros 54) (run)), run, pkt 0x0601 ([1, 16, 9, 0, 0, 0, 0, 0, 1, 16] ++ zeros 54), 9, ⟨rfl, rfl, rfl, rfl⟩, by decide +kernel, by decide +kernel, by decide +kernel, rfl, by decide +kernel⟩,
   ⟨(given 0x0601 [2, 16, 9, 0, 1, 0, 0, 0] (keyed)), keyed, pkt 0x0601 [2, 16, 9, 0, 1, 0, 0, 0], 9, ⟨1, zeros 32⟩, ⟨rfl, rfl, rfl, rfl⟩, by decide +kernel, by decide +kernel, by decide +kernel, rfl, by decide +kernel, by decide +kernel, by decide +kernel, by decide +kernel⟩,
   ⟨(given 0x0601 ([3, 16, 9, 0, 0, 0, 0, 0, 1, 16] ++ zeros 54) (keyed)), keyed, pkt 0x0601 ([3, 16, 9, 0, 0, 0, 0, 0, 1, 16] ++ zeros 54), ⟨1, zeros 32⟩, ⟨rfl, rfl, rfl, rfl⟩, by decide +kernel, by decide +kernel, by decide +kernel, by decide +kernel⟩,
   ⟨(given 0x0602 [16, 2, 0, 0] (keyed)), keyed, pkt 0x0602 [16, 2, 0, 0], ⟨rfl, rfl, rfl, rfl⟩, by decide +kernel, by decide +kernel, by decide +kernel, by decide +kernel⟩,
   ⟨(given 0x0603 ([16, 1, 2, 0] ++ zeros 60) (keyed)), keyed, pkt 0x0603 ([16, 1, 2, 0] ++ zeros 60), ⟨rfl, rfl, rfl, rfl⟩, by decide +kernel, by decide +kernel, by decide +kernel, by decide +kernel, by decide +kernel, by decide +kernel⟩,
   ⟨(given 0x0603 [16, 2, 0, 0, 0, 0, 0, 0] (keyed)), keyed, pkt 0x0603 [16, 2, 0, 0, 0, 0, 0, 0], ⟨rfl, rfl, rfl, rfl⟩, by decide +kernel, by decide +kernel, by decide +kernel⟩,
   ⟨(given 0x0604 saParams (keyed)), keyed, pkt 0x0604 saParams, ⟨rfl, rfl, rfl, rfl⟩, by decide +kernel, by decide +kernel, by decide +kernel, by decide +kernel, by decide +kernel, by decide +kernel⟩,
   ⟨(given 0x0605 [7, 0, 0, 0] ({ keyed with cry := { keyed.cry with sas := [(7, { kind := 0x10, flags := 0, slot := 9, secy := 0, raw := zeros 56, next := 1 })] } })), { keyed with cry := { keyed.cry with sas := [(7, { kind := 0x10, flags := 0, slot := 9, secy := 0, raw := zeros 56, next := 1 })] } }, pkt 0x0605 [7, 0, 0, 0], ⟨rfl, rfl, rfl, rfl⟩, by decide +kernel, by decide +kernel, by decide +kernel, by decide +kernel⟩⟩

/-- Each clause of RepairComplete speaks about a state that there is. -/
theorem wit_RepairComplete :
    (∃ (s t : State) (p : Packet) (good : Bool), let d := u16 p.params 0; let f := fenceAll (fencePair d) 0 false t; (Given 0x0D02 p s t) ∧ (p.params.length = 8) ∧ (d < 148) ∧ (u8 p.params 3 = 0xA5) ∧ (u8 p.params 2 = 2) ∧ (fenceable d = true) ∧ (inR d 15 19 = false) ∧ (inR d 100 147 = false) ∧ (t.aon.fence.contains d = false)) ∧ 
    (∃ (s t : State) (p : Packet) (good : Bool), (Given 0x0D03 p s t) ∧ (p.params.length = 8) ∧ (u8 p.params 0 = 2) ∧ (u16 p.params 2 < 8) ∧ (u8 p.params 4 = 0xA5) ∧ (t.aon.phaseShed.contains (u16 p.params 2) = true)) ∧ 
    (∃ (s t : State) (p : Packet) (good : Bool), (Given 0x0D03 p s t) ∧ (p.params.length = 8) ∧ (u8 p.params 0 = 1) ∧ (u16 p.params 2 < 148) ∧ (u8 p.params 4 = 0xA5) ∧ (t.aon.fence.contains (u16 p.params 2) = false)) ∧ 
    (∃ (s t : State) (p : Packet), let used := ([1, 2, 3, 4, 5, 6, 7, 8] : List Nat).filter fun n => t.otpWritten (repairSlot n) 32; let pool := fun q => [(4 + 4 * q, 1, (t.activeUnits q).length), (5 + 4 * q, 1, ((t.spareOf q).map (· - (poolUnits q).headD 0)).getD 0xFF), (6 + 4 * q, 1, ((poolUnits q).filter fun d => (t.domain d).st == .fenced).length), (7 + 4 * q, 1, t.poolState q)]; let spent := fun ch => (t.aon.ddrSpent.filter fun x => x / 256 == ch).length; (Given 0x0D01 p s t) ∧ (p.params.length = 0)) ∧ 
    (∃ (s t : State) (p : Packet) (d u : Nat), let q := u8 p.params 0 - 1; let v := activate u (waitFor p swapWait { t with pmc := { t.pmc with swap := some (d, u, u8 p.params 2) } }); (Given 0x0D04 p s t) ∧ (p.params.length = 4) ∧ (inR (u8 p.params 0) 2 4 = true) ∧ ((poolUnits q)[u8 p.params 1]? = some d) ∧ ((t.activeUnits q).contains d = true) ∧ (inR (u8 p.params 2) 1 2 = true) ∧ (t.spareOf q = some u)) ∧ 
    (∃ (s : State) (d cause : Nat), (s.live = true) ∧ (causeFits cause d = true)) ∧ 
    (∃ (s : State) (d : Nat), (s.isOn d = true) ∧ (inR d 65 85 = true) ∧ (s.domBusy d = false)) ∧ 
    (∃ (s : State), (s.isOn 63 = true)) ∧ 
    (∃ (s : State) (ch device : Nat), let x := ch % 2 * 256 + device % 256; let u := logEvent 29 0x8006 (detail [(16, 1, ch % 2), (17, 1, device % 256)]) { s with aon := { s.aon with ddrSpent := nset x s.aon.ddrSpent } }; (s.live = true) ∧ (s.aon.ddrSpent.contains x = false)) ∧ 
    (∃ (s : State) (r : Nat) (good : Bool) (m : RoleMove) (c : Nat), let w := modWdn (fun x => { x with map := x.map.set r m.dest, spare := if x.spare == m.dest then 7 else x.spare }) (modCore c (fun _ => {}) (copyCore c m.dest s)); let w := sched r (modRole r (fun x => { x with move := none }) w); let v := logEvent 18 0x8003 (detail [(16, 1, r), (17, 1, c), (18, 1, m.dest), (19, 1, 0), (20, 4, w.us - m.since)]) w; ((s.role r).move = some m) ∧ (s.coreOf r = some c) ∧ (m.frozen = true) ∧ (m.warm = true) ∧ (m.fence = none) ∧ (s.isOn (15 + m.dest) = true) ∧ ((s.core c).access = none) ∧ (v.cmd.waits.find? (fun w => w.kind == moveWait r) = none)) ∧ 
    (∃ (s : State) (r : Nat) (diode : Int) (due : Nat), (s.live = true) ∧ ((s.role r).wdDue = some due) ∧ (due ≤ s.us) ∧ ((s.coreOf r).isSome = true) ∧ ((s.role r).lastWd = none)) ∧ 
    (∃ (s : State) (r : Nat) (diode : Int) (due last : Nat), (s.live = true) ∧ ((s.role r).wdDue = some due) ∧ (due ≤ s.us) ∧ ((s.coreOf r).isSome = true) ∧ ((s.role r).lastWd = some last) ∧ (s.us < last + 60000000) ∧ (s.spareOf 0 = none)) :=
  ⟨⟨(given 0x0D02 [86, 0, 2, 0xA5, 0, 0, 0, 0] (run)), run, pkt 0x0D02 [86, 0, 2, 0xA5, 0, 0, 0, 0], true, ⟨rfl, rfl, rfl, rfl⟩, by decide +kernel, by decide +kernel, by decide +kernel, by decide +kernel, by decide +kernel, by decide +kernel, by decide +kernel, by decide +kernel⟩,
   ⟨(given 0x0D03 [2, 0, 3, 0, 0xA5, 0, 0, 0] ({ run with aon := { run.aon with phaseShed := [3] } })), { run with aon := { run.aon with phaseShed := [3] } }, pkt 0x0D03 [2, 0, 3, 0, 0xA5, 0, 0, 0], true, ⟨rfl, rfl, rfl, rfl⟩, by decide +kernel, by decide +kernel, by decide +kernel, by decide +kernel, by decide +kernel⟩,
   ⟨(given 0x0D03 [1, 0, 3, 0, 0xA5, 0, 0, 0] (run)), run, pkt 0x0D03 [1, 0, 3, 0, 0xA5, 0, 0, 0], true, ⟨rfl, rfl, rfl, rfl⟩, by decide +kernel, by decide +kernel, by decide +kernel, by decide +kernel, by decide +kernel⟩,
   ⟨(given 0x0D01 [] (run)), run, pkt 0x0D01 [], ⟨rfl, rfl, rfl, rfl⟩, by decide +kernel⟩,
   ⟨(given 0x0D04 [2, 1, 1, 0] ((setDomain 70 { st := .spare } run))), (setDomain 70 { st := .spare } run), pkt 0x0D04 [2, 1, 1, 0], 66, 70, ⟨rfl, rfl, rfl, rfl⟩, by decide +kernel, by decide +kernel, by decide +kernel, by decide +kernel, by decide +kernel, by decide +kernel⟩,
   ⟨run, 65, 2, by decide +kernel, by decide +kernel⟩,
   ⟨run, 70, by decide +kernel, by decide +kernel, by decide +kernel⟩,
   ⟨run, by decide +kernel⟩,
   ⟨run, 1, 4, by decide +kernel, by decide +kernel⟩,
   ⟨moving, 0, true, aMove, 0, by decide +kernel, by decide +kernel, by decide +kernel, by decide +kernel, by decide +kernel, by decide +kernel, by decide +kernel, by decide +kernel⟩,
   ⟨watched none, 1, 2500, 0, by decide +kernel, by decide +kernel, by decide +kernel, by decide +kernel, by decide +kernel⟩,
   ⟨watched (some 0), 1, 2500, 0, 0, by decide +kernel, by decide +kernel, by decide +kernel, by decide +kernel, by decide +kernel, by decide +kernel, by decide +kernel⟩⟩

/-- Each clause of CountersAndDebugComplete speaks about a state that there is. -/
theorem wit_CountersAndDebugComplete :
    (∃ (s : State) (win reader : Nat), let r := countRead (getWindow win s) reader; (inR win 2 6 = true)) ∧ 
    (∃ (s : State) (win reader : Nat), let r := countSlot (win - 16) reader s; (16 ≤ win) ∧ (win < 80)) ∧ 
    (∃ (s t : State) (p : Packet), (Given 0x0101 p s t) ∧ (p.params.length = 0)) ∧ 
    (∃ (s t : State) (p : Packet), let k := u8 p.params 0; (Given 0x0E01 p s t) ∧ (p.params.length = 4) ∧ (u8 p.params 0 < 8) ∧ (inR (u8 p.params 1) 1 7 = true) ∧ (scopeOk (u8 p.params 1) (u16 p.params 2) = true) ∧ (t.domLost (90 + k) = false) ∧ ((t.bank k).on = false)) ∧ 
    (∃ (s t : State) (p : Packet), (Given 0x0E02 p s t) ∧ (p.params.length = 4) ∧ (u8 p.params 0 < 8) ∧ ((t.bank (u8 p.params 0)).on = true)) ∧ 
    (∃ (s t : State) (p : Packet), (Given 0x0E03 p s t) ∧ (p.params.length = 4) ∧ (u8 p.params 0 ≠ 0)) ∧ 
    (∃ (s t : State) (p : Packet), let x := t.bank (u8 p.params 0); (Given 0x0E04 p s t) ∧ (p.params.length = 4) ∧ (u8 p.params 0 < 8) ∧ (u8 p.params 1 < 64) ∧ (1 ≤ u8 p.params 2) ∧ (u8 p.params 1 + u8 p.params 2 ≤ 64)) ∧ 
    (∃ (s : State), (s.tapWorks = true)) ∧ 
    (∃ (s : State), (s.tapWorks = true)) ∧ 
    (∃ (s : State), (s.tapWorks = true)) ∧ 
    (∃ (s : State), (s.tapWorks = true)) ∧ 
    (∃ (s : State), (s.tapWorks = true)) ∧ 
    (∃ (s : State), (s.tapWorks = true)) ∧ 
    (∃ (s : State), (s.tapWorks = true)) ∧ 
    (∃ (s : State), (s.tapWorks = true)) ∧ 
    (∃ (s : State), let u := followUse 9 true { s with cnt := { s.cnt with ir := 0x10, session := true, dbg := ⟨0, 0⟩ } }; (s.dataOn = true) ∧ (s.cnt.session = false) ∧ (s.debugAllowed = true) ∧ (s.domLost 9 = false) ∧ (s.unreset = true)) ∧ 
    (∃ (s : State), let u := { s with cnt := { s.cnt with ir := 0x10 } }; (s.live = true) ∧ (s.cnt.session = false) ∧ (s.debugAllowed = false)) ∧ 
    (∃ (s : State) (addr : Nat), (s.cnt.session = true) ∧ (addr % 4 = 0) ∧ (addr < 2 ^ 48) ∧ (inKeySpace addr = false)) ∧ 
    (∃ (s : State) (addr : Nat), (s.cnt.session = true) ∧ (addr % 4 ≠ 0)) ∧ 
    (∃ (s : State) (addr value : Nat), (s.cnt.session = true) ∧ (addr % 4 = 0) ∧ (addr < 2 ^ 48) ∧ (inKeySpace addr = false)) ∧ 
    (∃ (s : State) (core space addr : Nat), (s.cnt.session = true) ∧ (core ≤ 4) ∧ (s.domLost (15 + core) = false) ∧ (s.isOn (15 + core) = true)) :=
  ⟨⟨run, 2, 0, by decide +kernel⟩,
   ⟨run, 16, 1, by decide +kernel, by decide +kernel⟩,
   ⟨(given 0x0101 [] (run)), run, pkt 0x0101 [], ⟨rfl, rfl, rfl, rfl⟩, by decide +kernel⟩,
   ⟨(given 0x0E01 [7, 7, 0, 0] (run)), run, pkt 0x0E01 [7, 7, 0, 0], ⟨rfl, rfl, rfl, rfl⟩, by decide +kernel, by decide +kernel, by decide +kernel, by decide +kernel, by decide +kernel, by decide +kernel⟩,
   ⟨(given 0x0E02 [3, 0, 0, 0] ({ run with cnt := { run.cnt with banks := [(3, { on := true, group := 7 })] } })), { run with cnt := { run.cnt with banks := [(3, { on := true, group := 7 })] } }, pkt 0x0E02 [3, 0, 0, 0], ⟨rfl, rfl, rfl, rfl⟩, by decide +kernel, by decide +kernel, by decide +kernel⟩,
   ⟨(given 0x0E03 [255, 0, 0, 0] (run)), run, pkt 0x0E03 [255, 0, 0, 0], ⟨rfl, rfl, rfl, rfl⟩, by decide +kernel, by decide +kernel⟩,
   ⟨(given 0x0E04 [7, 63, 1, 0] (run)), run, pkt 0x0E04 [7, 63, 1, 0], ⟨rfl, rfl, rfl, rfl⟩, by decide +kernel, by decide +kernel, by decide +kernel, by decide +kernel, by decide +kernel⟩,
   ⟨run, by decide +kernel⟩,
   ⟨run, by decide +kernel⟩,
   ⟨run, by decide +kernel⟩,
   ⟨run, by decide +kernel⟩,
   ⟨run, by decide +kernel⟩,
   ⟨run, by decide +kernel⟩,
   ⟨run, by decide +kernel⟩,
   ⟨run, by decide +kernel⟩,
   ⟨debugging false, by decide +kernel, by decide +kernel, by decide +kernel, by decide +kernel, by decide +kernel⟩,
   ⟨barred, by decide +kernel, by decide +kernel, by decide +kernel⟩,
   ⟨debugging true, 0x10000000, by decide +kernel, by decide +kernel, by decide +kernel, by decide +kernel⟩,
   ⟨debugging true, 1, by decide +kernel, by decide +kernel⟩,
   ⟨debugging true, 0x10000000, 7, by decide +kernel, by decide +kernel, by decide +kernel, by decide +kernel⟩,
   ⟨debugging true, 4, 0, 65535, by decide +kernel, by decide +kernel, by decide +kernel, by decide +kernel⟩⟩

/-- Each clause of HostLinkComplete speaks about a state that there is. -/
theorem wit_HostLinkComplete :
    (∃ (s : State), (s.awake = true) ∧ (s.unreset = true)) ∧ 
    (∃ (s : State), (s.pce.convReset = true)) ∧ 
    (∃ (s : State), (s.linkUp = true)) ∧ 
    (∃ (s : State), (s.linkUp = true)) ∧ 
    (∃ (s : State), (s.pce.perst = false) ∧ (s.ckg.pcieRef = true) ∧ (s.awake = true) ∧ (s.unreset = true) ∧ (s.pce.convReset = false) ∧ (s.pce.speed = 0) ∧ (s.domLost 30 = false) ∧ (s.domLost 31 = false)) ∧ 
    (∃ (s : State) (speed width : Nat) (upcfg : Bool), let sp := max 1 (min 5 speed); let w := min s.quadWidth (formedWidth width); (s.pce.training = true) ∧ (s.awake = true) ∧ (s.unreset = true)) ∧ 
    (∃ (s : State) (f : Nat) (reg : CfgReg), (s.linkUp = true) ∧ (s.pce.convReset = false) ∧ (s.bootDone = false) ∧ (s.us < s.pce.trainedAt + 1000000)) ∧ 
    (∃ (s : State) (f : Nat) (reg : CfgReg), (s.linkUp = true) ∧ (s.pce.convReset = false) ∧ (s.bootDone = true) ∧ (f = pf0 ∨ s.vfOn f = true)) ∧ 
    (∃ (s : State) (f v : Nat) (reg : CfgReg), (s.linkUp = true) ∧ (s.pce.convReset = false) ∧ (s.bootDone = true) ∧ (f = pf0 ∨ s.vfOn f = true)) ∧ 
    (∃ (s : State) (f : Nat) (reg : CfgReg) (write : Option Nat), (s.linkUp = true) ∧ (s.pce.convReset = false) ∧ (s.bootDone = true) ∧ (f ≠ pf0) ∧ (s.vfOn f = false)) ∧ 
    (∃ (s : State) (f : Nat), (s.pce.convReset = false) ∧ (f ≠ pf0) ∧ (s.vfOn f = true) ∧ ((s.fn f).flr = false)) ∧ 
    (∃ (s : State), let u := forEach s.enabledVfs (fun v s => modFn v (fun x => { x with flr := true }) (resetConfig v s)) (resetFn pf0 s); let u := modFn pf0 (fun x => { x with flr := true }) (resetConfig pf0 u); (s.pce.convReset = false) ∧ ((s.fn pf0).flr = false)) ∧ 
    (∃ (s : State), (s.pce.vfEnable = true)) ∧ 
    (∃ (s : State) (tag : Nat) (x : DmaRead), (s.pce.reads.find? (fun r => r.tag == tag) = some x)) ∧ 
    (∃ (s : State) (tag : Nat) (x : DmaRead), (s.pce.reads.find? (fun r => r.tag == tag) = some x)) ∧ 
    (∃ (s : State) (tag : Nat) (x : DmaRead), (s.pce.reads.find? (fun r => r.tag == tag) = some x)) ∧ 
    (∃ (s : State) (f v : Nat), ((s.vec f v).pending = true) ∧ ((s.fn f).msixEn = true) ∧ (s.vecOpen f v = true) ∧ (s.fnTalks f = true)) :=
  ⟨⟨run, by decide +kernel, by decide +kernel⟩,
   ⟨{ run with pce := { convReset := true } }, by decide +kernel⟩,
   ⟨linked, by decide +kernel⟩,
   ⟨linked, by decide +kernel⟩,
   ⟨{ run with ckg := { run.ckg with pcieRef := true }, pce := { perst := false } }, by decide +kernel, by decide +kernel, by decide +kernel, by decide +kernel, by decide +kernel, by decide +kernel, by decide +kernel, by decide +kernel⟩,
   ⟨{ run with pce := { training := true } }, 5, 16, true, by decide +kernel, by decide +kernel, by decide +kernel⟩,
   ⟨{ linked with lcy := {} }, 127, .vendorId, by decide +kernel, by decide +kernel, by decide +kernel, by decide +kernel⟩,
   ⟨linked, 127, .vendorId, by decide +kernel, by decide +kernel, by decide +kernel, by decide +kernel⟩,
   ⟨linked, 127, 1, .busMaster, by decide +kernel, by decide +kernel, by decide +kernel, by decide +kernel⟩,
   ⟨linked, 63, .vendorId, none, by decide +kernel, by decide +kernel, by decide +kernel, by decide +kernel, by decide +kernel⟩,
   ⟨virtual, 5, by decide +kernel, by decide +kernel, by decide +kernel, by decide +kernel⟩,
   ⟨virtual, by decide +kernel, by decide +kernel⟩,
   ⟨virtual, by decide +kernel⟩,
   ⟨reading, 3, aRead, by decide +kernel⟩,
   ⟨reading, 3, aRead, by decide +kernel⟩,
   ⟨reading, 3, aRead, by decide +kernel⟩,
   ⟨messaging, 127, 4, by decide +kernel, by decide +kernel, by decide +kernel, by decide +kernel⟩⟩

/-- Each clause of DeviceComplete speaks about a state that there is. -/
theorem wit_DeviceComplete :
    (∃ (s t : State) (core : Nat) (x : WdAccess) (res : Except Nat Nat), ((s.core core).access = some x) ∧ (x.write = false) ∧ (devRead ⟨core, x.task⟩ x.addr s = some (res, t))) ∧ 
    (∃ (s : State) (core : Nat) (x : WdAccess), ((s.core core).access = some x) ∧ (x.write = false)) ∧ 
    (∃ (s : State) (addr value : Nat), (s.fnTalks pf0 = true) ∧ (addr % 4 = 0)) ∧ 
    (∃ (s : State) (addr value : Nat), (s.fnTalks pf0 = true) ∧ (addr % 8 = 0)) ∧ 
    (∃ (s : State) (f addr value : Nat), (s.fnTalks f = true) ∧ (f < 64 ∨ f = pf0) ∧ (addr % 4 = 0)) ∧ 
    (∃ (s : State) (size : Nat), (s.transportsRun = true) ∧ (s.cmd.dcwBusy = false) ∧ (16 ≤ size) ∧ (size ≤ 4084)) ∧ 
    (∃ (s : State) (size : Nat), (s.transportsRun = true) ∧ (s.cmd.dcwBusy = true ∨ size < 16 ∨ 4084 < size)) ∧ 
    (∃ (s : State) (cls ident sub n : Nat), let k : SrcKey := ⟨cls, ident, sub⟩; ((getSource k s).throttle = some n)) ∧ 
    (∃ (s : State) (cls ident sub : Nat) (c : Chain), let k : SrcKey := ⟨cls, ident, sub⟩; let u := dropChain k s; ((getSource k s).chain = some c) ∧ (cls = 4 ∨ cls = 5)) ∧ 
    (∃ (s : State) (opcode : Nat) (w : Waiting), (s.cmd.waits.find? (fun w => w.pkt.opcode == opcode) = some w)) ∧ 
    (∃ (s t : State) (p : Packet), (Given 0x0104 p s t)) ∧ 
    (∃ (s t : State) (p : Packet), (Given 0x0102 p s t) ∧ (p.params.length = 4) ∧ (u8 p.params 0 = 2) ∧ (u8 p.params 1 = 0xA5)) ∧ 
    (∃ (s t : State) (p : Packet), let taken := t.log.records.take (u16 p.params 4); (Given 0x0103 p s t) ∧ (p.params.length = 8) ∧ (1 ≤ u16 p.params 4) ∧ (u16 p.params 4 ≤ 126) ∧ ((u16 p.params 6).testBit 0 = true)) :=
  ⟨⟨accessing, ((devRead ⟨0, 0⟩ 0xFFFFFFFFFFFC accessing).getD (.ok 0, {})).2, 0, anAccess, .error stFault, by decide +kernel, by decide +kernel, rfl⟩,
   ⟨accessing, 0, anAccess, by decide +kernel, by decide +kernel⟩,
   ⟨run, 0x100, 1, by decide +kernel, by decide +kernel⟩,
   ⟨run, 0x100, 1, by decide +kernel, by decide +kernel⟩,
   ⟨run, 127, 0, 1, by decide +kernel, by decide +kernel, by decide +kernel⟩,
   ⟨run, 4084, by decide +kernel, by decide +kernel, by decide +kernel, by decide +kernel⟩,
   ⟨run, 15, by decide +kernel, by decide +kernel⟩,
   ⟨sourced { key := ⟨2, 0xFFF, 0⟩, throttle := some 5 }, 2, 0xFFF, 0, 5, by decide +kernel⟩,
   ⟨sourced { key := ⟨5, 1, 0⟩, chain := some aChain }, 5, 1, 0, aChain, by decide +kernel, by decide +kernel⟩,
   ⟨{ run with cmd := { run.cmd with waits := [⟨pkt 0x0204 [], .domain 40⟩] } }, 0x0204, ⟨pkt 0x0204 [], .domain 40⟩, by decide +kernel⟩,
   ⟨(given 0x0104 [1, 2, 3] (run)), run, pkt 0x0104 [1, 2, 3], ⟨rfl, rfl, rfl, rfl⟩⟩,
   ⟨(given 0x0102 [2, 0xA5, 0, 0] (run)), run, pkt 0x0102 [2, 0xA5, 0, 0], ⟨rfl, rfl, rfl, rfl⟩, by decide +kernel, by decide +kernel, by decide +kernel⟩,
   ⟨(given 0x0103 [0, 0, 0, 0, 126, 0, 1, 0] (run)), run, pkt 0x0103 [0, 0, 0, 0, 126, 0, 1, 0], ⟨rfl, rfl, rfl, rfl⟩, by decide +kernel, by decide +kernel, by decide +kernel, by decide +kernel⟩⟩

/-- Each clause of ServicePortComplete speaks about a state that there is. -/
theorem wit_ServicePortComplete :
    (∃ (s : State) (cmd : Nat), let len := bitsOf cmd 29 21; let op := BitVec.ofNat 8 (bitsOf cmd 15 8); (s.xsp.xfer = none) ∧ (s.xsp.target = false) ∧ (len % 2 = 0) ∧ (len ≤ 256) ∧ (cmd.testBit 2 = false)) ∧ 
    (∃ (s : State) (cmd : Nat), let len := bitsOf cmd 29 21; let op := BitVec.ofNat 8 (bitsOf cmd 15 8); (s.xsp.xfer = none) ∧ (s.xsp.target = false) ∧ (len % 2 = 0) ∧ (len ≤ 256) ∧ (cmd.testBit 2 = true)) ∧ 
    (∃ (s : State) (data : Bytes) (v : Nat), (s.xsp.xfer = some v) ∧ (v.testBit 2 = false)) ∧ 
    (∃ (s : State) (v : Nat), (s.xsp.xfer = some v) ∧ (v.testBit 2 = false)) ∧ 
    (∃ (s : State) (h : Nat) (data : Bytes), (s.xsp.target = true) ∧ (s.xspReady = true) ∧ (s.xsp.deaf = false) ∧ (s.xsp.write = none) ∧ (xspHeaderOk h = true) ∧ (h % 256 = 1) ∧ (4 * bitsOf h 31 16 ≤ data.length)) ∧ 
    (∃ (s : State) (h words : Nat), let len := bitsOf h 31 16; let r := countRead s.cmd.crw0 1; (s.xsp.target = true) ∧ (s.xspReady = true) ∧ (s.xsp.deaf = false) ∧ (s.xsp.write = none) ∧ (xspHeaderOk h = true) ∧ (h % 256 = 2) ∧ (words ≠ 0)) ∧ 
    (∃ (s : State) (h : Nat), let r := lockAcquire holderService (bitsOf h 15 8) s; (s.xsp.target = true) ∧ (s.xspReady = true) ∧ (s.xsp.deaf = false) ∧ (s.xsp.write = none) ∧ (xspHeaderOk h = true) ∧ (h % 256 = 3)) ∧ 
    (∃ (s : State) (h : Nat), (s.xsp.target = true) ∧ (s.xspReady = true) ∧ (s.xsp.deaf = false) ∧ (s.xsp.write = none) ∧ (xspHeaderOk h = true) ∧ (h % 256 = 4)) ∧ 
    (∃ (s : State) (h words : Nat), (s.xsp.target = true) ∧ (s.xspReady = true) ∧ (s.xsp.deaf = false) ∧ (s.xsp.write = none) ∧ (xspHeaderOk h = true) ∧ (h % 256 = 5) ∧ (words ≠ 0)) ∧ 
    (∃ (s : State) (h : Nat), (s.xsp.target = true) ∧ (s.xspReady = true) ∧ (s.xsp.deaf = false) ∧ (s.xsp.write = none) ∧ (xspHeaderOk h = true) ∧ (h % 256 = 6)) ∧ 
    (∃ (s : State) (h words : Nat), (s.xsp.target = true) ∧ (s.xspReady = true) ∧ (s.xsp.deaf = false) ∧ (s.xsp.write = none) ∧ (xspHeaderOk h = false) ∧ (6 < h % 256)) ∧ 
    (∃ (s : State), (s.xsp.write = none)) ∧ 
    (∃ (s : State) (w : XspWrite), let u := modXsp (fun x => { x with deaf := false, write := none }) s; let u := whenS (outstanding u 3 none == 0) (postWindow 3 (buildReply u 3 0 0 0 stAborted (errParams 0xFFFF 0))) u; (s.xsp.write = some w) ∧ (w.bytes.length < 16)) :=
  ⟨⟨{ run with xsp := { target := false } }, 0xEE08, by decide +kernel, by decide +kernel, by decide +kernel, by decide +kernel, by decide +kernel⟩,
   ⟨{ run with xsp := { target := false } }, 0x0040120C, by decide +kernel, by decide +kernel, by decide +kernel, by decide +kernel, by decide +kernel⟩,
   ⟨{ run with xsp := { xfer := some 0xEE08 } }, [], 0xEE08, by decide +kernel, by decide +kernel⟩,
   ⟨{ run with xsp := { xfer := some 0xEE08 } }, 0xEE08, by decide +kernel, by decide +kernel⟩,
   ⟨bmc, 0x00040001, zeros 16, by decide +kernel, by decide +kernel, by decide +kernel, by decide +kernel, by decide +kernel, by decide +kernel, by decide +kernel⟩,
   ⟨bmc, 0x00020002, 2, by decide +kernel, by decide +kernel, by decide +kernel, by decide +kernel, by decide +kernel, by decide +kernel, by decide +kernel⟩,
   ⟨bmc, 0x00013F03, by decide +kernel, by decide +kernel, by decide +kernel, by decide +kernel, by decide +kernel, by decide +kernel⟩,
   ⟨bmc, 0x3F04, by decide +kernel, by decide +kernel, by decide +kernel, by decide +kernel, by decide +kernel, by decide +kernel⟩,
   ⟨bmc, 0x00010005, 1, by decide +kernel, by decide +kernel, by decide +kernel, by decide +kernel, by decide +kernel, by decide +kernel, by decide +kernel⟩,
   ⟨bmc, 0xA506, by decide +kernel, by decide +kernel, by decide +kernel, by decide +kernel, by decide +kernel, by decide +kernel⟩,
   ⟨bmc, 7, 1, by decide +kernel, by decide +kernel, by decide +kernel, by decide +kernel, by decide +kernel, by decide +kernel⟩,
   ⟨bmc, by decide +kernel⟩,
   ⟨{ bmc with xsp := { bmc.xsp with write := some ⟨4, zeros 8⟩ } }, ⟨4, zeros 8⟩, by decide +kernel, by decide +kernel⟩⟩

/-- Each clause of StorageConnectionsComplete speaks about a state that there is. -/
theorem wit_StorageConnectionsComplete :
    (∃ (s : State) (h g seq : Nat) (c : Conn) (w : RingWork), let u := connRemove h (modConn h (fun c => { c with detach := none }) s); let r := dmaPut c.fn (entAddr w.entry 0) c.finalBlock u; (s.conn h = some c) ∧ (c.detach = some (g, seq)) ∧ (c.quiet = true) ∧ (u.workOf g seq = some w) ∧ (r.1 = true)) ∧ 
    (∃ (s : State) (h g seq : Nat) (c : Conn), (s.conn h = some c) ∧ (c.detach = some (g, seq)) ∧ (c.quiet = false) ∧ (c.tcp = true)) ∧ 
    (∃ (s : State) (id h : Nat) (i : QItem) (f : Frame) (c : Conn), (s.inUnit 0x105 id = some i) ∧ (i.job = .store f) ∧ (s.connOf f.bytes = some (h, c)) ∧ (c.tcp = true) ∧ ((((s.point 0x105).serving.takeWhile fun j => j.id != id).filterMap fun j => j.job.frame?).any (fun e => connMatch c e.bytes) = false)) ∧ 
    (∃ (s : State) (id h : Nat) (i : QItem) (f : Frame) (c : Conn), (s.inUnit 0x105 id = some i) ∧ (i.job = .store f) ∧ (s.connOf f.bytes = some (h, c)) ∧ (c.tcp = false) ∧ (isCnp f.bytes = false) ∧ ((((s.point 0x105).serving.takeWhile fun j => j.id != id).filterMap fun j => j.job.frame?).any (fun e => connMatch c e.bytes) = false)) ∧ 
    (∃ (s : State) (id h : Nat) (i : QItem) (f : Frame) (c : Conn), let u := cadRelease f.bufs (outOfUnit 0x105 i s); (s.inUnit 0x105 id = some i) ∧ (i.job = .store f) ∧ (s.connOf f.bytes = some (h, c)) ∧ (c.tcp = false) ∧ (isCnp f.bytes = true) ∧ ((((s.point 0x105).serving.takeWhile fun j => j.id != id).filterMap fun j => j.job.frame?).any (fun e => connMatch c e.bytes) = false)) ∧ 
    (∃ (s : State) (h : Nat) (c : Conn), (s.conn h = some c) ∧ (c.tcp = true) ∧ (c.sent ≠ []) ∧ (c.timeouts < 7)) ∧ 
    (∃ (s : State) (h : Nat) (c : Conn), (s.conn h = some c) ∧ (c.tcp = true) ∧ (c.sent ≠ []) ∧ (c.timeouts = 7)) ∧ 
    (∃ (s : State) (h : Nat) (c : Conn) (p : Bytes) (rest : List Bytes), (s.conn h = some c) ∧ (c.pdus = p :: rest) ∧ (u8 p 0 = 4)) ∧ 
    (∃ (s : State) (h : Nat) (c : Conn) (p : Bytes) (rest : List Bytes), let u := modConn h (fun c => { c with pdus := rest }) s; (s.conn h = some c) ∧ (c.pdus = p :: rest) ∧ (u8 p 0 = 6) ∧ ((u.stoCmd h (u16 p 8)).bind (fun x => x.r2ts.find? fun r => r.1 == u16 p 10) = none)) ∧ 
    (∃ (s : State) (h : Nat) (c : Conn) (p : Bytes) (rest : List Bytes) (r : Nat × Nat × Nat), let u := modConn h (fun c => { c with pdus := rest }) s; let cid := u16 p 8; let tag := u16 p 10; let off := u32 p 12; let len := u32 p 16; let d := c.pduData p; let next := if len = r.2.2 then [] else [(tag, off + len, r.2.2 - len)]; (s.conn h = some c) ∧ (c.pdus = p :: rest) ∧ (u8 p 0 = 6) ∧ ((u.stoCmd h cid).bind (fun x => x.r2ts.find? fun r => r.1 == tag) = some r) ∧ (len = d.1.length) ∧ (off = r.2.1) ∧ (len ≤ r.2.2)) ∧ 
    (∃ (s : State) (h : Nat) (c : Conn) (p : Bytes) (rest : List Bytes), let u := modConn h (fun c => { c with pdus := rest }) s; (s.conn h = some c) ∧ (c.pdus = p :: rest) ∧ (u8 p 0 = 7) ∧ (u.stoCmd h (u16 p 8) = none)) ∧ 
    (∃ (s : State) (h : Nat) (c : Conn) (p : Bytes) (rest : List Bytes) (x : StoCmd), let u := modConn h (fun c => { c with pdus := rest }) s; let cid := u16 p 8; let off := u32 p 12; let d := c.pduData p; let addr := (x.entry.bind fun e => (u.workOf e.1 e.2).map fun w => entAddr w.entry 1).getD 0; let r := dmaPut c.fn (addr + off) d.1 (digestSeen h d.2 u); (s.conn h = some c) ∧ (c.pdus = p :: rest) ∧ (u8 p 0 = 7) ∧ ((u8 p 1).testBit 3 = false) ∧ (u.stoCmd h cid = some x) ∧ (u32 p 16 = d.1.length) ∧ (d.1 ≠ []) ∧ (off + u32 p 16 ≤ x.len)) ∧ 
    (∃ (s : State) (h : Nat) (c : Conn) (p : Bytes) (rest : List Bytes) (x : StoCmd), let u := modConn h (fun c => { c with pdus := rest }) s; (s.conn h = some c) ∧ (c.pdus = p :: rest) ∧ (u8 p 0 = 5) ∧ (u.stoCmd h (u16 p 20) = some x)) ∧ 
    (∃ (s : State) (h : Nat) (c : Conn) (p : Bytes) (rest : List Bytes), (s.conn h = some c) ∧ (c.pdus = p :: rest) ∧ (u8 p 0 = 2 ∨ u8 p 0 = 3)) ∧ 
    (∃ (s : State) (h : Nat) (c : Conn), (s.conn h = some c) ∧ (c.unacked ≠ [])) :=
  ⟨⟨{ storing { aConn 1 with detach := some (0, 0) } [] with host := (ringed { pair0 with work := [{ seq := 0, entry := zeros 64, slots := [] }] }).host, pce := (ringed pair0).pce }, 9, 0, 0, { aConn 1 with detach := some (0, 0) }, { seq := 0, entry := zeros 64, slots := [] }, by decide +kernel, by decide +kernel, by decide +kernel, by decide +kernel, by decide +kernel⟩,
   ⟨storing { aConn 1 with detach := some (0, 0), sent := [1] } [], 9, 0, 0, { aConn 1 with detach := some (0, 0), sent := [1] }, by decide +kernel, by decide +kernel, by decide +kernel, by decide +kernel⟩,
   ⟨storing (aConn 1) (ipFrame 6 [0, 0] []), 5, 9, stoItem (ipFrame 6 [0, 0] []), stoFrame (ipFrame 6 [0, 0] []), aConn 1, by decide +kernel, by decide +kernel, by decide +kernel, by decide +kernel, by decide +kernel⟩,
   ⟨storing (aConn 3) (ipFrame 17 [0x12, 0xB7] [4]), 5, 9, stoItem (ipFrame 17 [0x12, 0xB7] [4]), stoFrame (ipFrame 17 [0x12, 0xB7] [4]), aConn 3, by decide +kernel, by decide +kernel, by decide +kernel, by decide +kernel, by decide +kernel, by decide +kernel⟩,
   ⟨storing (aConn 3) (ipFrame 17 [0x12, 0xB7] [0x81]), 5, 9, stoItem (ipFrame 17 [0x12, 0xB7] [0x81]), stoFrame (ipFrame 17 [0x12, 0xB7] [0x81]), aConn 3, by decide +kernel, by decide +kernel, by decide +kernel, by decide +kernel, by decide +kernel, by decide +kernel⟩,
   ⟨storing { aConn 1 with sent := [1] } [], 9, { aConn 1 with sent := [1] }, by decide +kernel, by decide +kernel, by decide +kernel, by decide +kernel⟩,
   ⟨storing { aConn 1 with sent := [1], timeouts := 7 } [], 9, { aConn 1 with sent := [1], timeouts := 7 }, by decide +kernel, by decide +kernel, by decide +kernel, by decide +kernel⟩,
   ⟨storing { aConn 1 with pdus := [[4]] } [], 9, { aConn 1 with pdus := [[4]] }, [4], [], by decide +kernel, by decide +kernel, by decide +kernel⟩,
   ⟨storing { aConn 1 with pdus := [[6]] } [], 9, { aConn 1 with pdus := [[6]] }, [6], [], by decide +kernel, by decide +kernel, by decide +kernel, by decide +kernel⟩,
   ⟨h2cState, 9, h2cConn, h2cPdu, [], (0, 0, 4), by decide +kernel, by decide +kernel, by decide +kernel, by decide +kernel, by decide +kernel, by decide +kernel, by decide +kernel⟩,
   ⟨storing { aConn 2 with pdus := [[7]] } [], 9, { aConn 2 with pdus := [[7]] }, [7], [], by decide +kernel, by decide +kernel, by decide +kernel, by decide +kernel⟩,
   ⟨c2hState, 9, c2hConn, c2hPdu, [], c2hCmd, by decide +kernel, by decide +kernel, by decide +kernel, by decide +kernel, by decide +kernel, by decide +kernel, by decide +kernel, by decide +kernel⟩,
   ⟨respState, 9, respConn, respPdu, [], c2hCmd, by decide +kernel, by decide +kernel, by decide +kernel, by decide +kernel⟩,
   ⟨storing { aConn 1 with pdus := [[2]] } [], 9, { aConn 1 with pdus := [[2]] }, [2], [], by decide +kernel, by decide +kernel, by decide +kernel⟩,
   ⟨storing { aConn 3 with unacked := [(0, 0, [])] } [], 9, { aConn 3 with unacked := [(0, 0, [])] }, by decide +kernel, by decide +kernel⟩⟩

/-- Each clause of StorageDrivesComplete speaks about a state that there is. -/
theorem wit_StorageDrivesComplete :
    (∃ (s : State) (d k : Nat) (x : Drive) (c : DrvCmd), (s.drive d = some x) ∧ (x.failed = false) ∧ (x.out.length < x.limit) ∧ (nextCmd (x.out.map (·.2)) x.waiting = some c) ∧ ((List.range x.limit).find? (fun k => !(x.out.any fun o => o.1 == k)) = some k)) ∧ 
    (∃ (s t : State) (d : Nat) (x : Drive) (cqes : Option Bytes) (data recs : List (Option Bytes)), (s.drive d = some x) ∧ (x.out ≠ []) ∧ (dmaGet pf0 (u64 x.raw 24 + 16 * x.head) 64 cqes s = (none, t))) ∧ 
    (∃ (s t u : State) (d : Nat) (x : Drive) (b : Bytes) (cqes : Option Bytes) (data recs : List (Option Bytes)), (s.drive d = some x) ∧ (x.out ≠ []) ∧ (dmaGet pf0 (u64 x.raw 24 + 16 * x.head) 64 cqes s = (some b, t)) ∧ (takeCqes d 4 b data recs false t = (false, u))) ∧ 
    (∃ (s : State) (d slot : Nat) (x : Drive) (c : DrvCmd), (s.drive d = some x) ∧ (x.out.lookup slot = some c) ∧ (c.late = false) ∧ (c.dead = false) ∧ (x.timeouts < 2)) ∧ 
    (∃ (s t : State) (p : Packet), let b := p.params; let u := modSto (fun x => { x with drives := x.drives.filter fun y => y.1 != u8 b 0 }) t; (Given 0x0701 p s t) ∧ (p.params.length = 64) ∧ (u8 b 0 ≤ 23) ∧ (u8 b 1 = 1) ∧ (u8 b 2 = 9 ∨ u8 b 2 = 12) ∧ (u16 b 4 ≠ 0) ∧ (inR (u16 b 6) 2 4096 = true) ∧ (u64 b 8 % 4096 = 0) ∧ (u64 b 24 % 4096 = 0) ∧ (u64 b 40 % 4096 = 0) ∧ (inR (u32 b 48) 1028 16777216 = true) ∧ (u16 b 52 = u16 b 6) ∧ (inR (u16 b 54) 1 60000 = true) ∧ (inR (u64 b 56) 1 (2 ^ 48) = true) ∧ (t.drive (u8 b 0) = none)) ∧ 
    (∃ (s t : State) (p : Packet), let b := p.params; let u := modSto (fun x => { x with spaces := tins (u16 b 2) b x.spaces }) t; (Given 0x0702 p s t) ∧ (p.params.length = 36) ∧ (u8 b 0 = 1) ∧ (u8 b 1 ≤ 16) ∧ (u16 b 2 < 1024) ∧ (inR (u32 b 4) 1 0xFFFFFFFE = true) ∧ (u8 b 8 = 1) ∧ (u8 b 11 = 9 ∨ u8 b 11 = 12) ∧ (inR (u64 b 24) 1 (2 ^ 48) = true) ∧ (u8 b 34 ≤ 15) ∧ (spaceFault t b = none) ∧ (t.space (u16 b 2) = none)) ∧ 
    (∃ (s t : State) (p : Packet) (x : Bytes), let b := p.params; (Given 0x0702 p s t) ∧ (p.params.length = 36) ∧ (u8 b 0 = 2) ∧ (u8 b 1 ≤ 16) ∧ (u16 b 2 < 1024) ∧ (t.space (u16 b 2) = some x) ∧ (u8 x 1 = u8 b 1)) ∧ 
    (∃ (s t : State) (p : Packet), let l := (t.sto.conns.filter fun c => u16 p.params 0 ≤ c.1).take (u16 p.params 2); (Given 0x0703 p s t) ∧ (p.params.length = 4) ∧ (u16 p.params 0 ≤ 8191) ∧ (inR (u16 p.params 2) 1 63 = true)) :=
  ⟨⟨aDrive { raw := driveRaw, waiting := [drvCmd] }, 3, 0, { raw := driveRaw, waiting := [drvCmd] }, drvCmd, by decide +kernel, by decide +kernel, by decide +kernel, by decide +kernel, by decide +kernel⟩,
   ⟨aDrive { raw := driveRaw, out := [(0, drvCmd)] }, (dmaGet pf0 0 64 none (aDrive { raw := driveRaw, out := [(0, drvCmd)] })).2, 3, { raw := driveRaw, out := [(0, drvCmd)] }, none, [], [], by decide +kernel, by decide +kernel, by decide +kernel⟩,
   ⟨cqState, cqGot, (takeCqes 3 4 (zeros 64) [] [] false cqGot).2, 3, { raw := driveRaw, out := [(0, drvCmd)] }, zeros 64, some (zeros 64), [], [], by decide +kernel, by decide +kernel, by decide +kernel, by decide +kernel⟩,
   ⟨aDrive { raw := driveRaw, out := [(0, drvCmd)] }, 3, 0, { raw := driveRaw, out := [(0, drvCmd)] }, drvCmd, by decide +kernel, by decide +kernel, by decide +kernel, by decide +kernel, by decide +kernel⟩,
   ⟨(given 0x0701 driveRaw (run)), run, pkt 0x0701 driveRaw, ⟨rfl, rfl, rfl, rfl⟩, by decide +kernel, by decide +kernel, by decide +kernel, by decide +kernel, by decide +kernel, by decide +kernel, by decide +kernel, by decide +kernel, by decide +kernel, by decide +kernel, by decide +kernel, by decide +kernel, by decide +kernel, by decide +kernel⟩,
   ⟨(given 0x0702 ([1, 16, 5, 0, 1, 0, 0, 0, 1, 0, 0, 12] ++ zeros 12 ++ [1] ++ zeros 11) (run)), run, pkt 0x0702 ([1, 16, 5, 0, 1, 0, 0, 0, 1, 0, 0, 12] ++ zeros 12 ++ [1] ++ zeros 11), ⟨rfl, rfl, rfl, rfl⟩, by decide +kernel, by decide +kernel, by decide +kernel, by decide +kernel, by decide +kernel, by decide +kernel, by decide +kernel, by decide +kernel, by decide +kernel, by decide +kernel, by decide +kernel⟩,
   ⟨(given 0x0702 ([2, 16, 5, 0] ++ zeros 32) ({ run with sto := { run.sto with spaces := [(5, [1, 16] ++ zeros 34)] } })), { run with sto := { run.sto with spaces := [(5, [1, 16] ++ zeros 34)] } }, pkt 0x0702 ([2, 16, 5, 0] ++ zeros 32), [1, 16] ++ zeros 34, ⟨rfl, rfl, rfl, rfl⟩, by decide +kernel, by decide +kernel, by decide +kernel, by decide +kernel, by decide +kernel, by decide +kernel⟩,
   ⟨(given 0x0703 [0, 0, 63, 0] (run)), run, pkt 0x0703 [0, 0, 63, 0], ⟨rfl, rfl, rfl, rfl⟩, by decide +kernel, by decide +kernel, by decide +kernel⟩⟩

/-- Each clause of IntegrityComplete speaks about a state that there is. -/
theorem wit_IntegrityComplete :
    (∃ (s : State) (id g seq : Nat) (data : List (Option Bytes)) (i : QItem), (s.inUnit 0x106 id = some i) ∧ (i.job = .entry g seq)) ∧ 
    (∃ (s : State) (id n : Nat) (data : List (Option Bytes)) (i : QItem) (j : FixJob), let u := outOfUnit 0x106 i s; (s.inUnit 0x106 id = some i) ∧ (i.job = .fix n) ∧ (u.sto.jobs.find? (fun j => j.id == n) = some j)) ∧ 
    (∃ (s t : State) (p : Packet) (x : Profile), let b := p.params; let r := newId t; let u := modSto (fun y => { y with jobs := y.jobs ++ [⟨r.1, false, b⟩] }) r.2; (Given 0x0801 p s t) ∧ (p.params.length = 104) ∧ (t.profile (u8 b 0) = some x) ∧ ((u8 b 1).testBit 0 = false) ∧ (u16 b 2 = 0xFFFF) ∧ (u8 b 4 = 2) ∧ (u32 b 16 = 4096) ∧ (inR (u32 b 28) 1 16777216 = true) ∧ (streamLen (cmdSegments b) = x.n * x.chunk) ∧ ((slice b 32 72).all (· == 0) = true) ∧ (t.hmacOk x = true)) ∧ 
    (∃ (s t : State) (p : Packet) (x : Profile), let b := p.params; let r := newId t; let u := modSto (fun y => { y with jobs := y.jobs ++ [⟨r.1, true, b⟩] }) r.2; (Given 0x0802 p s t) ∧ (p.params.length = 104) ∧ (t.profile (u8 b 0) = some x) ∧ ((u8 b 1).testBit 0 = false) ∧ (u16 b 2 = 0xFFFF) ∧ (u8 b 4 = 2) ∧ (u32 b 16 = 4096) ∧ (inR (u32 b 28) 1 16777216 = true) ∧ (streamLen (cmdSegments b) = x.n * x.chunk) ∧ ((slice b 32 72).all (· == 0) = true) ∧ (t.hmacOk x = true)) ∧ 
    (∃ (s : State) (n : Nat) (b : Bytes) (x : Profile) (d : Drive), let y := s.scrub n; let c : DrvCmd := { handle := 0x10000 + n, cid := 0, op := 2, ns := y.ns, lba := stripeLba x b y.next, blocks := (stripeBlocks x b).2, stripe := some y.next }; (s.space y.ns = some b) ∧ (s.nsProfile b = some x) ∧ (s.drive (u8 b 9) = some d) ∧ (y.on = true) ∧ (d.failed = false) ∧ (d.scrubs n = false) ∧ (y.reads.all (fun r => decide (r.1 + ceilDiv (r.2 * 8) y.rate ≤ s.us)) = true) ∧ (s.unitsOn 0x105 ≠ []) ∧ (s.unitsOn 0x106 ≠ [])) ∧ 
    (∃ (s t : State) (p : Packet) (x : Bytes) (f : Profile), let b := p.params; let u := modScrub (u8 b 0) (fun _ => { on := true, ns := u16 b 2, flags := u8 b 4, rate := u32 b 8, next := u32 b 12 }) t; let y := u.scrub (u8 b 0); (Given 0x0803 p s t) ∧ (p.params.length = 16) ∧ (u8 b 0 ≤ 15) ∧ (u8 b 1 = 1) ∧ (t.space (u16 b 2) = some x) ∧ (t.nsProfile x = some f) ∧ (inR (u32 b 8) 1 100000 = true) ∧ (u32 b 12 < u64 x 24 / (stripeBlocks f x).1) ∧ ((List.range 16).any (fun m => (t.scrub m).on && (m == u8 b 0 || (t.scrub m).ns == u16 b 2)) = false)) ∧ 
    (∃ (s t : State) (p : Packet), let b := p.params; (Given 0x0804 p s t) ∧ (p.params.length = 32) ∧ (inR (u8 b 0) 1 15 = true) ∧ (u8 b 1 = 1) ∧ (inR (u8 b 2) 1 32 = true) ∧ (u8 b 3 ≤ 8) ∧ (inR (u8 b 4) 16 24 = true) ∧ (inR (u8 b 5) 1 2 = true) ∧ (inR (u8 b 6) 9 (u8 b 4) = true) ∧ (u64 b 16 % 4096 = 0) ∧ (u64 b 16 = 0 ∨ u32 b 24 ≠ 0) ∧ (t.sto.spaces.filter (fun x => u8 x.2 34 == u8 b 0) = []) ∧ (t.jobNames (u8 b 0) = false)) :=
  ⟨⟨{ run with net := { run.net with points := [(0x106, { serving := [anItem] })] } }, 5, 0, 0, [], anItem, by decide +kernel, by decide +kernel⟩,
   ⟨{ run with net := { run.net with points := [(0x106, { serving := [{ anItem with job := .fix 3 }] })] }, sto := { run.sto with jobs := [⟨3, false, []⟩] } }, 5, 3, [], { anItem with job := .fix 3 }, ⟨3, false, []⟩, by decide +kernel, by decide +kernel, by decide +kernel⟩,
   ⟨(given 0x0801 ([1, 0, 0xFF, 0xFF, 2, 0, 0, 0] ++ zeros 8 ++ putLe 4 4096 ++ zeros 8 ++ putLe 4 131072 ++ zeros 72) (fixed)), fixed, pkt 0x0801 ([1, 0, 0xFF, 0xFF, 2, 0, 0, 0] ++ zeros 8 ++ putLe 4 4096 ++ zeros 8 ++ putLe 4 131072 ++ zeros 72), ⟨1, 1, 16, 1, 9, 0, 0, 0⟩, ⟨rfl, rfl, rfl, rfl⟩, by decide +kernel, by decide +kernel, by decide +kernel, by decide +kernel, by decide +kernel, by decide +kernel, by decide +kernel, by decide +kernel, by decide +kernel, by decide +kernel⟩,
   ⟨(given 0x0802 ([1, 0, 0xFF, 0xFF, 2, 0, 0, 0] ++ zeros 8 ++ putLe 4 4096 ++ zeros 8 ++ putLe 4 131072 ++ zeros 72) (fixed)), fixed, pkt 0x0802 ([1, 0, 0xFF, 0xFF, 2, 0, 0, 0] ++ zeros 8 ++ putLe 4 4096 ++ zeros 8 ++ putLe 4 131072 ++ zeros 72), ⟨1, 1, 16, 1, 9, 0, 0, 0⟩, ⟨rfl, rfl, rfl, rfl⟩, by decide +kernel, by decide +kernel, by decide +kernel, by decide +kernel, by decide +kernel, by decide +kernel, by decide +kernel, by decide +kernel, by decide +kernel, by decide +kernel⟩,
   ⟨scrubbing, 2, scrubNs, ⟨1, 1, 16, 1, 9, 0, 0, 0⟩, { raw := driveRaw }, by decide +kernel, by decide +kernel, by decide +kernel, by decide +kernel, by decide +kernel, by decide +kernel, by decide +kernel, by decide +kernel, by decide +kernel⟩,
   ⟨(given 0x0803 ([2, 1, 7, 0, 0, 0, 0, 0, 100] ++ zeros 7) ({ scrubbing with sto := { scrubbing.sto with scrubs := [] } })), { scrubbing with sto := { scrubbing.sto with scrubs := [] } }, pkt 0x0803 ([2, 1, 7, 0, 0, 0, 0, 0, 100] ++ zeros 7), scrubNs, ⟨1, 1, 16, 1, 9, 0, 0, 0⟩, ⟨rfl, rfl, rfl, rfl⟩, by decide +kernel, by decide +kernel, by decide +kernel, by decide +kernel, by decide +kernel, by decide +kernel, by decide +kernel, by decide +kernel⟩,
   ⟨(given 0x0804 ([1, 1, 1, 1, 16, 1, 9] ++ zeros 25) (run)), run, pkt 0x0804 ([1, 1, 1, 1, 16, 1, 9] ++ zeros 25), ⟨rfl, rfl, rfl, rfl⟩, by decide +kernel, by decide +kernel, by decide +kernel, by decide +kernel, by decide +kernel, by decide +kernel, by decide +kernel, by decide +kernel, by decide +kernel, by decide +kernel, by decide +kernel, by decide +kernel⟩⟩

/-- Each clause of LifecycleComplete speaks about a state that there is. -/
theorem wit_LifecycleComplete :
    (∃ (s : State), let v := drawNonce { s with pmc := { s.pmc with upStep := 8 } }; let u := modLcy (fun l => { l with step8 := v.us }) v; (s.pmc.st = .boot) ∧ (s.pmc.upStep = 7) ∧ (s.rst.pinLow = false) ∧ (u.lcyState = 5 ∨ (List.range 12).any (fun i => u.hashWritten (i + 1)) = false ∨ u.policy 2 = 0)) ∧ 
    (∃ (s : State), let v := drawNonce { s with pmc := { s.pmc with upStep := 8 } }; let u := modLcy (fun l => { l with step8 := v.us }) v; (s.pmc.st = .boot) ∧ (s.pmc.upStep = 7) ∧ (s.rst.pinLow = false) ∧ (u.lcyState ≠ 5) ∧ ((List.range 12).any (fun i => u.hashWritten (i + 1)) = true) ∧ (u.policy 2 ≠ 0)) ∧ 
    (∃ (s : State), let u := lblBoot (enterBootState (modLcy (fun l => { l with bootDone := true }) s)); (s.pmc.st = .boot) ∧ (s.pmc.upStep = 8) ∧ (s.rst.pinLow = false) ∧ (s.lcy.running = none) ∧ (u.lcy.rom = true)) ∧ 
    (∃ (s : State) (diode : Int), (s.lcy.trial = true) ∧ (s.lcy.confirmEnd.isSome = true)) ∧ 
    (∃ (s : State) (diode : Int), (s.rst.wPending = some 6) ∧ (s.live = true)) ∧ 
    (∃ (s : State) (diode : Int), (s.rst.wPending = some 7) ∧ (s.live = true)) ∧ 
    (∃ (s t : State) (p : Packet), let l := t.lcy; let hashes := maskOf ((List.range 12).filter fun i => t.hashWritten (i + 1)); let flags := b2n l.rom + 2 * b2n l.fallback + 4 * b2n l.trial + 8 * b2n t.cnt.session + 16 * b2n (l.pendSlot.isSome || l.pendRec.isSome); let left := (match l.confirmEnd with | some e => ceilDiv (e - t.us) 1000000 | none => 0xFFFFFFFF); (Given 0x0C01 p s t) ∧ (p.params.length = 0)) ∧ 
    (∃ (s t : State) (p : Packet) (good : Bool), (Given 0x0C02 p s t) ∧ (p.params.length = 4) ∧ (inR (u8 p.params 0) 2 5 = true) ∧ (u8 p.params 1 = 0xA5) ∧ (u16 p.params 2 = 0) ∧ (t.lcyState ≠ u8 p.params 0) ∧ (transitionKnown t.lcyState (u8 p.params 0) = true) ∧ (t.transitionRefused t.lcyState (u8 p.params 0) = none) ∧ (transitionAuth t.lcyState (u8 p.params 0) = false)) ∧ 
    (∃ (s t : State) (p : Packet) (good : Bool), let c := p.params.drop 4; (Given 0x0C02 p s t) ∧ (p.params.length = 3272) ∧ (inR (u8 p.params 0) 2 5 = true) ∧ (u8 p.params 1 = 0xA5) ∧ (u16 p.params 2 = 3268) ∧ (t.lcyState ≠ u8 p.params 0) ∧ (transitionKnown t.lcyState (u8 p.params 0) = true) ∧ (t.transitionRefused t.lcyState (u8 p.params 0) = none) ∧ (transitionAuth t.lcyState (u8 p.params 0) = true)) ∧ 
    (∃ (s t : State) (p : Packet) (good : Bool), let g := u8 p.params 0; let data := slice p.params 4 (t.payloadSize g); (Given 0x0C03 p s t) ∧ (inR g 1 9 = true ∨ g = 11) ∧ (u8 p.params 1 = 0) ∧ (u16 p.params 2 = 0) ∧ (t.lcyState < 3) ∧ (p.params.length = 4 + t.payloadSize g) ∧ ((groupFields g data).all (·.2) = true) ∧ (t.settingsRefused g 0 = none)) ∧ 
    (∃ (s t : State) (p : Packet) (good : Bool), (Given 0x0C03 p s t) ∧ (u8 p.params 0 = 0x20) ∧ (inR (u8 p.params 1) 1 12 = true) ∧ (u16 p.params 2 = 0) ∧ (t.lcyState < 3) ∧ (p.params.length = 36) ∧ (t.settingsRefused 0x20 (u8 p.params 1) = none)) ∧ 
    (∃ (s t : State) (p : Packet), let k := t.inactiveSlot; let r := loadParts k (cutParts p.parts p.params) t; let u := r.2; (Given 0x0C04 p s t)) ∧ 
    (∃ (s t : State) (p : Packet) (good : Bool), let u := putRec { t.lcy.rec_ with trial := t.inactiveSlot, tries := u8 p.params 2, confirm := u32 p.params 4 } t; (Given 0x0C05 p s t) ∧ (p.params.length = 8) ∧ (u8 p.params 0 = 1) ∧ (u8 p.params 1 ≤ 1) ∧ (inR (u8 p.params 2) 1 8 = true) ∧ (inR (u32 p.params 4) 10 3600 = true) ∧ (t.lcy.slotSt.getD t.inactiveSlot 0 = 1)) ∧ 
    (∃ (s t : State) (p : Packet) (good : Bool), (Given 0x0C05 p s t) ∧ (p.params.length = 8) ∧ (u8 p.params 0 = 2) ∧ ((slice p.params 1 7).all (· == 0) = true) ∧ (t.lcy.trial = true)) ∧ 
    (∃ (s t : State) (p : Packet) (good : Bool), let c := p.params.drop 4; let new := conGen c; let u := otpProgram good 0x50 0x50 (putLe 2 (2 ^ (new - 1) - 1)) (acceptCon c t); (Given 0x0C06 p s t) ∧ (p.params.length = 3240) ∧ (u8 p.params 0 = 0xA5) ∧ (t.trustGen ≠ 12) ∧ (t.lcy.trial = false) ∧ (t.lcy.running = none)) :=
  ⟨⟨{ rising with pmc := { rising.pmc with upStep := 7 } }, by decide +kernel, by decide +kernel, by decide +kernel, by decide +kernel⟩,
   ⟨bootable, by decide +kernel, by decide +kernel, by decide +kernel, by decide +kernel, by decide +kernel, by decide +kernel⟩,
   ⟨{ rising with pmc := { rising.pmc with upStep := 8 }, lcy := { rom := true } }, by decide +kernel, by decide +kernel, by decide +kernel, by decide +kernel, by decide +kernel⟩,
   ⟨{ run with lcy := { run.lcy with trial := true, confirmEnd := some 9 } }, 2500, by decide +kernel, by decide +kernel⟩,
   ⟨{ run with rst := { wPending := some 6 } }, 2500, by decide +kernel, by decide +kernel⟩,
   ⟨{ run with rst := { wPending := some 7 } }, 2500, by decide +kernel, by decide +kernel⟩,
   ⟨(given 0x0C01 [] (run)), run, pkt 0x0C01 [], ⟨rfl, rfl, rfl, rfl⟩, by decide +kernel⟩,
   ⟨(given 0x0C02 [5, 0xA5, 0, 0] (run)), run, pkt 0x0C02 [5, 0xA5, 0, 0], true, ⟨rfl, rfl, rfl, rfl⟩, by decide +kernel, by decide +kernel, by decide +kernel, by decide +kernel, by decide +kernel, by decide +kernel, by decide +kernel, by decide +kernel⟩,
   ⟨(given 0x0C02 ([5, 0xA5, 0xC4, 0x0C] ++ zeros 3268) (barred)), barred, pkt 0x0C02 ([5, 0xA5, 0xC4, 0x0C] ++ zeros 3268), true, ⟨rfl, rfl, rfl, rfl⟩, by decide +kernel, by decide +kernel, by decide +kernel, by decide +kernel, by decide +kernel, by decide +kernel, by decide +kernel, by decide +kernel⟩,
   ⟨(given 0x0C03 ([5, 0, 0, 0, 1, 0, 0, 0, 0, 0, 0, 0]) (run)), run, pkt 0x0C03 ([5, 0, 0, 0, 1, 0, 0, 0, 0, 0, 0, 0]), true, ⟨rfl, rfl, rfl, rfl⟩, by decide +kernel, by decide +kernel, by decide +kernel, by decide +kernel, by decide +kernel, by decide +kernel, by decide +kernel⟩,
   ⟨(given 0x0C03 ([0x20, 3, 0, 0] ++ zeros 32) (run)), run, pkt 0x0C03 ([0x20, 3, 0, 0] ++ zeros 32), true, ⟨rfl, rfl, rfl, rfl⟩, by decide +kernel, by decide +kernel, by decide +kernel, by decide +kernel, by decide +kernel, by decide +kernel⟩,
   ⟨(given 0x0C04 (zeros 8) (run)), run, pkt 0x0C04 (zeros 8), ⟨rfl, rfl, rfl, rfl⟩⟩,
   ⟨(given 0x0C05 [1, 1, 8, 0, 10, 0, 0, 0] ({ run with lcy := { run.lcy with slotSt := [1, 1] } })), { run with lcy := { run.lcy with slotSt := [1, 1] } }, pkt 0x0C05 [1, 1, 8, 0, 10, 0, 0, 0], true, ⟨rfl, rfl, rfl, rfl⟩, by decide +kernel, by decide +kernel, by decide +kernel, by decide +kernel, by decide +kernel, by decide +kernel⟩,
   ⟨(given 0x0C05 [2, 0, 0, 0, 0, 0, 0, 0] ({ run with lcy := { run.lcy with trial := true } })), { run with lcy := { run.lcy with trial := true } }, pkt 0x0C05 [2, 0, 0, 0, 0, 0, 0, 0], true, ⟨rfl, rfl, rfl, rfl⟩, by decide +kernel, by decide +kernel, by decide +kernel, by decide +kernel⟩,
   ⟨(given 0x0C06 ([0xA5] ++ zeros 3239) (run)), run, pkt 0x0C06 ([0xA5] ++ zeros 3239), true, ⟨rfl, rfl, rfl, rfl⟩, by decide +kernel, by decide +kernel, by decide +kernel, by decide +kernel, by decide +kernel⟩⟩

/-- Each clause of TenantsComplete speaks about a state that there is. -/
theorem wit_TenantsComplete :
    (∃ (s t : State) (p : Packet), let old := t.tenant (u8 p.params 0); let new := charterNew p.params old; (Given 0x0301 p s t) ∧ (p.params.length = 664) ∧ (charterFault p.params old = none) ∧ (t.ringsUsed (u8 p.params 0) ≤ new.ringMax) ∧ (old.keys = []) ∧ (old.spaces.length ≤ new.nsMax) ∧ (t.charge (u8 p.params 0) ≤ new.quotaKib * 1024) ∧ (t.sumTenants (·.ringMax) - old.ringMax + new.ringMax ≤ 4096) ∧ (t.sumTenants (·.keyMax) - old.keyMax + new.keyMax ≤ 4096)) ∧ 
    (∃ (s t : State) (p : Packet), let n := u8 p.params 0; let x := t.tenant n; let vfs := t.tenantVfs n; (Given 0x0302 p s t) ∧ (p.params.length = 4) ∧ (u8 p.params 0 ≤ 15)) ∧ 
    (∃ (s t : State) (p : Packet), (Given 0x0303 p s t) ∧ (p.params.length = 4) ∧ (u8 p.params 0 ≤ 15) ∧ (inR (u8 p.params 1) 1 2 = true) ∧ ((t.tenant (u8 p.params 0)).state ≠ u8 p.params 1) ∧ (t.tenantVfs (u8 p.params 0) ≠ [])) ∧ 
    (∃ (s t : State) (p : Packet), (Given 0x0303 p s t) ∧ (p.params.length = 4) ∧ (u8 p.params 0 ≤ 15) ∧ (u8 p.params 1 = 3) ∧ (u8 p.params 2 = 0xA5) ∧ ((t.tenant (u8 p.params 0)).state ≠ 3)) ∧ 
    (∃ (s t : State) (p : Packet), (Given 0x0303 p s t) ∧ (p.params.length = 4) ∧ (u8 p.params 0 ≤ 15) ∧ (inR (u8 p.params 1) 1 3 = true) ∧ (u8 p.params 1 ≠ 3 ∨ u8 p.params 2 = 0xA5) ∧ ((t.tenant (u8 p.params 0)).state = u8 p.params 1)) ∧ 
    (∃ (s t : State) (p : Packet), (Given 0x0304 p s t) ∧ (p.params.length = 4) ∧ (u8 p.params 0 ≤ 15) ∧ (u8 p.params 1 = 0xA5)) ∧ 
    (∃ (s t : State) (p : Packet), let f := u8 p.params 0; let n := u8 p.params 1; (Given 0x0305 p s t) ∧ (p.params.length = 132) ∧ (u8 p.params 0 ≤ 63) ∧ (u8 p.params 1 ≤ 15) ∧ (windowFault p.params = none) ∧ ((t.vf (u8 p.params 0)).tenant = none) ∧ ((t.tenantVfs (u8 p.params 1)).length < 16)) ∧ 
    (∃ (s t : State) (p : Packet), (Given 0x0305 p s t) ∧ (p.params.length = 132) ∧ (u8 p.params 0 ≤ 63) ∧ (u8 p.params 1 = 0xFF) ∧ (allZero (slice p.params 4 128) = true) ∧ ((t.fn (u8 p.params 0)).flr = false)) ∧ 
    (∃ (s t : State) (p : Packet), (Given 0x0305 p s t) ∧ (p.params.length = 132) ∧ (u8 p.params 0 ≤ 63) ∧ (u8 p.params 1 = 0xFF) ∧ (allZero (slice p.params 4 128) = true) ∧ ((t.fn (u8 p.params 0)).flr = true)) ∧ 
    (∃ (s : State) (f : Nat), let u := flrDone f s; let due := u.cmd.waits.filter fun w => w.kind == flrWait f; (f ≠ pf0) ∧ ((s.fn f).flr = true)) :=
  ⟨⟨(given 0x0301 (zeros 664) (run)), run, pkt 0x0301 (zeros 664), ⟨rfl, rfl, rfl, rfl⟩, by decide +kernel, by decide +kernel, by decide +kernel, by decide +kernel, by decide +kernel, by decide +kernel, by decide +kernel, by decide +kernel⟩,
   ⟨(given 0x0302 [15, 0, 0, 0] (run)), run, pkt 0x0302 [15, 0, 0, 0], ⟨rfl, rfl, rfl, rfl⟩, by decide +kernel, by decide +kernel⟩,
   ⟨(given 0x0303 [2, 1, 0, 0] (bound)), bound, pkt 0x0303 [2, 1, 0, 0], ⟨rfl, rfl, rfl, rfl⟩, by decide +kernel, by decide +kernel, by decide +kernel, by decide +kernel, by decide +kernel⟩,
   ⟨(given 0x0303 [2, 3, 0xA5, 0] ({ bound with host := { bound.host with tenants := [(2, { state := 1 })] } })), { bound with host := { bound.host with tenants := [(2, { state := 1 })] } }, pkt 0x0303 [2, 3, 0xA5, 0], ⟨rfl, rfl, rfl, rfl⟩, by decide +kernel, by decide +kernel, by decide +kernel, by decide +kernel, by decide +kernel⟩,
   ⟨(given 0x0303 [2, 3, 0xA5, 0] (run)), run, pkt 0x0303 [2, 3, 0xA5, 0], ⟨rfl, rfl, rfl, rfl⟩, by decide +kernel, by decide +kernel, by decide +kernel, by decide +kernel, by decide +kernel⟩,
   ⟨(given 0x0304 [15, 0xA5, 0, 0] (run)), run, pkt 0x0304 [15, 0xA5, 0, 0], ⟨rfl, rfl, rfl, rfl⟩, by decide +kernel, by decide +kernel, by decide +kernel⟩,
   ⟨(given 0x0305 ([63, 15, 0, 0] ++ zeros 128) (run)), run, pkt 0x0305 ([63, 15, 0, 0] ++ zeros 128), ⟨rfl, rfl, rfl, rfl⟩, by decide +kernel, by decide +kernel, by decide +kernel, by decide +kernel, by decide +kernel, by decide +kernel⟩,
   ⟨(given 0x0305 ([5, 0xFF, 0, 0] ++ zeros 128) (bound)), bound, pkt 0x0305 ([5, 0xFF, 0, 0] ++ zeros 128), ⟨rfl, rfl, rfl, rfl⟩, by decide +kernel, by decide +kernel, by decide +kernel, by decide +kernel, by decide +kernel⟩,
   ⟨(given 0x0305 ([5, 0xFF, 0, 0] ++ zeros 128) ({ bound with pce := { bound.pce with fns := [(5, { flr := true })] } })), { bound with pce := { bound.pce with fns := [(5, { flr := true })] } }, pkt 0x0305 ([5, 0xFF, 0, 0] ++ zeros 128), ⟨rfl, rfl, rfl, rfl⟩, by decide +kernel, by decide +kernel, by decide +kernel, by decide +kernel, by decide +kernel⟩,
   ⟨{ bound with pce := { bound.pce with fns := [(5, { flr := true })] } }, 5, by decide +kernel, by decide +kernel⟩⟩

/-- Each clause of SignalInputsComplete speaks about a state that there is. -/
theorem wit_SignalInputsComplete :
    (∃ (s : State) (d : Nat) (words : List Nat), let t := s.tdm d; (d ≤ 1) ∧ ((s.tdm d).on = true) ∧ (s.isOn 29 = true)) ∧ 
    (∃ (s : State) (c code : Nat), (c ≤ 7) ∧ ((s.adcCh c).on = true) ∧ (s.isOn 27 = true) ∧ ((s.adcCh c).count < min (s.adcCh c).avg (adcMax s.sge.rate))) ∧ 
    (∃ (s : State) (c at_ : Nat) (rising : Bool), let x := s.cap c; let t := s.sge.cyc + at_; (c ≤ 7) ∧ ((s.cap c).mode ≠ 0) ∧ (s.isOn 28 = true) ∧ (rising ≠ (s.cap c).falling)) ∧ 
    (∃ (s : State) (c at_ : Nat) (rising : Bool), let x := s.cap c; let t := s.sge.cyc + at_; (c ≤ 7) ∧ ((s.cap c).mode ≠ 0) ∧ (s.isOn 28 = true) ∧ (rising = (s.cap c).falling)) ∧ 
    (∃ (s : State) (k : Nat), let x := s.pwmOut k; (k ≤ 15) ∧ ((s.pwmOut k).set = true) ∧ ((s.pwmOut k).mode ≠ 0) ∧ (s.sge.running = true) ∧ (s.isOn 28 = true)) ∧ 
    (∃ (s t : State) (p : Packet) (caddr ramp value : Nat), (Given 0x0910 p s t) ∧ (t.sio.pour = none) ∧ (p.parts = [12]) ∧ (caddr < 4096) ∧ (1 ≤ ramp) ∧ (ramp < 65536) ∧ (value < 2 ^ 32) ∧ (p.params = [1, 0, 1, 0] ++ putLe 2 caddr ++ putLe 2 ramp ++ putLe 4 value) ∧ (rampedAfter t.sio [(caddr, ramp, value)] ≤ 256)) ∧ 
    (∃ (s t : State) (p : Packet), (Given 0x0910 p s t) ∧ (t.sio.pour.isSome = true)) ∧ 
    (∃ (s t : State) (p : Packet), let u := modSio discardPour t; (Given 0x0911 p s t) ∧ (p.params.length = 8) ∧ (t.sio.pour = none) ∧ (u8 p.params 4 = 2)) ∧ 
    (∃ (s t : State) (p : Packet), (Given 0x0911 p s t) ∧ (p.params.length = 8) ∧ (t.sio.pour = none) ∧ (u8 p.params 4 = 1) ∧ (commitFault t.sio (u32 p.params 0) = none)) ∧ 
    (∃ (s : State) (b : W32), let u := modSio (fun x => { (x.modShadow fun t => x.copy.foldl (fun t r => tput 0 t r.1 r.2) t) with copy := [], pour := none }) s; (s.sio.pour = some (.copying 0 b)) ∧ (s.sio.late = none)) ∧ 
    (∃ (s : State) (b : W32) (who : Nat), let u := modSio (fun x => { (x.modShadow fun t => x.copy.foldl (fun t r => tput 0 t r.1 r.2) t) with copy := [], pour := none }) s; (s.sio.pour = some (.copying who b)) ∧ (who ≠ 0) ∧ (s.sio.late = none)) ∧ 
    (∃ (s : State) (core value : Nat), (s.sio.resDone = true) ∧ (s.sio.pour = none) ∧ ((s.domain 25).st ≠ .fenced) ∧ ((s.domain 99).st ≠ .fenced) ∧ (s.sio.ramp ≠ 0) ∧ (rampedAfter s.sio [(s.sio.entry, s.sio.ramp, value % 2 ^ 32)] ≤ 256)) ∧ 
    (∃ (s : State) (core : Nat), (s.sio.resDone = true) ∧ (s.sio.pour = none) ∧ ((s.domain 25).st ≠ .fenced) ∧ ((s.domain 99).st ≠ .fenced) ∧ (commitFault s.sio s.sio.expect.toNat = none)) ∧ 
    (∃ (s : State) (core : Nat), (s.sio.resDone = true) ∧ (s.sio.pour = none) ∧ ((s.domain 25).st ≠ .fenced) ∧ ((s.domain 99).st ≠ .fenced)) ∧ 
    (∃ (s t : State) (p : Packet), (Given 0x0912 p s t) ∧ (p.params.length = 4) ∧ (p.cls ≠ 3) ∧ (inR (u8 p.params 1) 1 64 = true) ∧ (u8 p.params 0 + u8 p.params 1 ≤ 64)) ∧ 
    (∃ (s t : State) (p : Packet), let r := countSlots (u8 p.params 1) (u8 p.params 0) 1 t; (Given 0x0912 p s t) ∧ (p.params.length = 4) ∧ (p.cls = 3) ∧ (inR (u8 p.params 1) 1 64 = true) ∧ (u8 p.params 0 + u8 p.params 1 ≤ 64)) :=
  ⟨⟨sigRun, 1, [3, 0x1234567], by decide +kernel, by decide +kernel, by decide +kernel⟩,
   ⟨sigRun, 7, 65535, by decide +kernel, by decide +kernel, by decide +kernel, by decide +kernel⟩,
   ⟨sigRun, 7, 100, true, by decide +kernel, by decide +kernel, by decide +kernel, by decide +kernel⟩,
   ⟨sigRun, 7, 100, false, by decide +kernel, by decide +kernel, by decide +kernel, by decide +kernel⟩,
   ⟨sigRun, 15, by decide +kernel, by decide +kernel, by decide +kernel, by decide +kernel, by decide +kernel⟩,
   ⟨(given 0x0910 ([1, 0, 1, 0, 255, 15, 2, 0, 1, 2, 3, 4]) (sigRun)), sigRun, pkt 0x0910 ([1, 0, 1, 0, 255, 15, 2, 0, 1, 2, 3, 4]), 4095, 2, 67305985, ⟨rfl, rfl, rfl, rfl⟩, by decide +kernel, by decide +kernel, by decide +kernel, by decide +kernel, by decide +kernel, by decide +kernel, by decide +kernel, by decide +kernel⟩,
   ⟨(given 0x0910 ([1, 0, 1, 0, 255, 15, 2, 0, 1, 2, 3, 4]) ({ sigRun with sio := { pour := some (.waiting 2) } })), { sigRun with sio := { pour := some (.waiting 2) } }, pkt 0x0910 ([1, 0, 1, 0, 255, 15, 2, 0, 1, 2, 3, 4]), ⟨rfl, rfl, rfl, rfl⟩, by decide +kernel⟩,
   ⟨(given 0x0911 [1, 0, 0, 0, 2, 0, 0, 0] (sigRun)), sigRun, pkt 0x0911 [1, 0, 0, 0, 2, 0, 0, 0], ⟨rfl, rfl, rfl, rfl⟩, by decide +kernel, by decide +kernel, by decide +kernel⟩,
   ⟨(given 0x0911 [255, 255, 255, 255, 1, 0, 0, 0] ({ sigRun with sio := { staged := [(5, (1, 9))] } })), { sigRun with sio := { staged := [(5, (1, 9))] } }, pkt 0x0911 [255, 255, 255, 255, 1, 0, 0, 0], ⟨rfl, rfl, rfl, rfl⟩, by decide +kernel, by decide +kernel, by decide +kernel, by decide +kernel⟩,
   ⟨{ sigRun with sio := { pour := some (.copying 0 7) } }, 7, by decide +kernel, by decide +kernel⟩,
   ⟨{ sigRun with sio := { pour := some (.copying 3 7) } }, 7, 3, by decide +kernel, by decide +kernel, by decide +kernel⟩,
   ⟨sigRun, 2, 77, by decide +kernel, by decide +kernel, by decide +kernel, by decide +kernel, by decide +kernel, by decide +kernel⟩,
   ⟨{ sigRun with sio := { staged := [(5, (1, 9))] } }, 4, by decide +kernel, by decide +kernel, by decide +kernel, by decide +kernel, by decide +kernel⟩,
   ⟨sigRun, 4, by decide +kernel, by decide +kernel, by decide +kernel, by decide +kernel⟩,
   ⟨(given 0x0912 [63, 1, 0, 0] (sigRun)), sigRun, pkt 0x0912 [63, 1, 0, 0], ⟨rfl, rfl, rfl, rfl⟩, by decide +kernel, by decide +kernel, by decide +kernel, by decide +kernel⟩,
   ⟨asked slotAsk sigRun, sigRun, slotAsk, ⟨rfl, rfl, rfl, rfl⟩, by decide +kernel, by decide +kernel, by decide +kernel, by decide +kernel⟩⟩

/-- Each clause of SignalEngineComplete speaks about a state that there is. -/
theorem wit_SignalEngineComplete :
    (∃ (s : State), (s.sge.src ≠ .locked)) ∧ 
    (∃ (s : State) (d : Nat), let p := periodOf s.sge.rate; let w := windowOf s.sge.rate; let hit := inR d (p - w) (p + w) || decide ((d : Int) + s.sge.phi ≤ w); (s.edgesOn = true) ∧ (s.sge.src = .acquiring)) ∧ 
    (∃ (s : State) (d : Nat), (s.edgesOn = true) ∧ (s.sge.src = .locked) ∧ (inR d (periodOf s.sge.rate - windowOf s.sge.rate) (periodOf s.sge.rate + windowOf s.sge.rate) = true)) ∧ 
    (∃ (s : State) (d : Nat), (s.edgesOn = true) ∧ (s.sge.src = .locked) ∧ (inR d (periodOf s.sge.rate - windowOf s.sge.rate) (periodOf s.sge.rate + windowOf s.sge.rate) = false)) ∧ 
    (∃ (s : State) (d : Nat), (s.edgesOn = true) ∧ (s.sge.src = .lost) ∧ (s.sge.autoReturn = true)) ∧ 
    (∃ (s : State), (s.sge.src = .locked) ∧ (s.sge.missed < 3)) ∧ 
    (∃ (s : State), let u := modSge (fun g => { g with miss := min 0xFFFFFFFF (g.miss + 1), missed := g.missed + 1 }) s; let v := modSge (fun g => { g with src := .lost, wasLost := true, missed := 0, flags := g.flags ||| 4 }) u; (s.sge.src = .locked) ∧ (3 ≤ s.sge.missed)) ∧ 
    (∃ (s t : State) (p : Packet) (b : Bytes) (g : SgeProg), let parts := cutParts p.parts p.params; (Given 0x0901 p s t) ∧ (parts.all (fun c => decide (8 ≤ c.length)) = true) ∧ (joinChunks (u16 p.params 0) 0 parts [] = .ok b) ∧ (checkImage t (u16 p.params 0) b = .ok g)) ∧ 
    (∃ (s t : State) (p : Packet), (Given 0x0902 p s t) ∧ (p.params.length = 4) ∧ (u8 p.params 0 = 1) ∧ (t.sge.staged.isSome = true)) ∧ 
    (∃ (s t : State) (p : Packet), (Given 0x0902 p s t) ∧ (p.params.length = 4) ∧ (u8 p.params 0 = 2) ∧ (t.sge.running = false) ∧ (t.sge.staged.isSome = true ∨ t.sge.active.isSome = true)) ∧ 
    (∃ (s t : State) (p : Packet), (Given 0x0902 p s t) ∧ (p.params.length = 4) ∧ (u8 p.params 0 = 3) ∧ (t.sge.running = true)) ∧ 
    (∃ (s t : State) (p : Packet), let u := modSge (fun g => { g with staged := none }) t; (Given 0x0902 p s t) ∧ (p.params.length = 4) ∧ (u8 p.params 0 = 4) ∧ (t.sge.staged.isSome = true)) ∧ 
    (∃ (s t : State) (p : Packet), (Given 0x0902 p s t) ∧ (p.params.length = 4) ∧ (u8 p.params 0 = 5)) ∧ 
    (∃ (s t : State) (p : Packet), (Given 0x0903 p s t) ∧ (p.params.length = 8) ∧ (inR (u8 p.params 0) 1 9 = true) ∧ (u8 p.params 1 ≤ 2) ∧ (t.sge.active.any (fun x => decide (budgetOf (u8 p.params 0) (u8 p.params 1) < x.cost)) = false) ∧ (t.sge.staged.any (fun x => decide (budgetOf (u8 p.params 0) (u8 p.params 1) < x.cost)) = false)) :=
  ⟨⟨sigRun, by decide +kernel⟩,
   ⟨tdmRun .acquiring, 5999, by decide +kernel, by decide +kernel⟩,
   ⟨tdmRun .locked, 3920, by decide +kernel, by decide +kernel, by decide +kernel⟩,
   ⟨tdmRun .locked, 3, by decide +kernel, by decide +kernel, by decide +kernel⟩,
   ⟨{ tdmRun .lost with sge := { (tdmRun .lost).sge with autoReturn := true } }, 3, by decide +kernel, by decide +kernel, by decide +kernel⟩,
   ⟨tdmRun .locked, by decide +kernel, by decide +kernel⟩,
   ⟨{ tdmRun .locked with sge := { (tdmRun .locked).sge with missed := 3 } }, by decide +kernel, by decide +kernel⟩,
   ⟨(given 0x0901 ([7, 0, 0, 0, 0, 0, 0, 0] ++ nopImage) (sigRun)), sigRun, pkt 0x0901 ([7, 0, 0, 0, 0, 0, 0, 0] ++ nopImage), nopImage, ⟨7, [0], 1, 5, false, []⟩, ⟨rfl, rfl, rfl, rfl⟩, by decide +kernel, rfl, rfl⟩,
   ⟨(given 0x0902 [1, 0, 0, 0] (stagedRun)), stagedRun, pkt 0x0902 [1, 0, 0, 0], ⟨rfl, rfl, rfl, rfl⟩, by decide +kernel, by decide +kernel, by decide +kernel⟩,
   ⟨(given 0x0902 [2, 0, 0, 0] (stagedRun)), stagedRun, pkt 0x0902 [2, 0, 0, 0], ⟨rfl, rfl, rfl, rfl⟩, by decide +kernel, by decide +kernel, by decide +kernel, by decide +kernel⟩,
   ⟨(given 0x0902 [3, 0, 0, 0] (sigRun)), sigRun, pkt 0x0902 [3, 0, 0, 0], ⟨rfl, rfl, rfl, rfl⟩, by decide +kernel, by decide +kernel, by decide +kernel⟩,
   ⟨(given 0x0902 [4, 0, 0, 0] (stagedRun)), stagedRun, pkt 0x0902 [4, 0, 0, 0], ⟨rfl, rfl, rfl, rfl⟩, by decide +kernel, by decide +kernel, by decide +kernel⟩,
   ⟨(given 0x0902 [5, 0, 0, 0] (sigRun)), sigRun, pkt 0x0902 [5, 0, 0, 0], ⟨rfl, rfl, rfl, rfl⟩, by decide +kernel, by decide +kernel⟩,
   ⟨(given 0x0903 [9, 2, 0, 0, 0, 0, 0, 0] (stagedRun)), stagedRun, pkt 0x0903 [9, 2, 0, 0, 0, 0, 0, 0], ⟨rfl, rfl, rfl, rfl⟩, by decide +kernel, by decide +kernel, by decide +kernel, by decide +kernel, by decide +kernel⟩⟩

/-- Each clause of SignalInstructionsComplete speaks about a state that there is. -/
theorem wit_SignalInstructionsComplete :
    (∃ (s : State) (n w : Nat) (q : SgeProg), (s.sge.pos = some n) ∧ (s.sge.active = some q) ∧ (q.code[n]? = some w) ∧ (sgOp w = 0x00)) ∧ 
    (∃ (s : State) (n w : Nat) (q : SgeProg), (s.sge.pos = some n) ∧ (s.sge.active = some q) ∧ (q.code[n]? = some w) ∧ (sgOp w = 0x01)) ∧ 
    (∃ (s : State) (n w : Nat) (q : SgeProg), (s.sge.pos = some n) ∧ (s.sge.active = some q) ∧ (q.code[n]? = some w) ∧ (sgOp w = 0x02)) ∧ 
    (∃ (s : State) (n w : Nat) (q : SgeProg), (s.sge.pos = some n) ∧ (s.sge.active = some q) ∧ (q.code[n]? = some w) ∧ (sgOp w = 0x03)) ∧ 
    (∃ (s : State) (n w : Nat) (q : SgeProg), (s.sge.pos = some n) ∧ (s.sge.active = some q) ∧ (q.code[n]? = some w) ∧ (sgOp w = 0x04)) ∧ 
    (∃ (s : State) (n w : Nat) (q : SgeProg), (s.sge.pos = some n) ∧ (s.sge.active = some q) ∧ (q.code[n]? = some w) ∧ (sgOp w = 0x05)) ∧ 
    (∃ (s : State) (n w : Nat) (q : SgeProg), (s.sge.pos = some n) ∧ (s.sge.active = some q) ∧ (q.code[n]? = some w) ∧ (sgOp w = 0x06)) ∧ 
    (∃ (s : State) (n w : Nat) (q : SgeProg), (s.sge.pos = some n) ∧ (s.sge.active = some q) ∧ (q.code[n]? = some w) ∧ (sgOp w = 0x07)) ∧ 
    (∃ (s : State) (n w : Nat) (q : SgeProg), (s.sge.pos = some n) ∧ (s.sge.active = some q) ∧ (q.code[n]? = some w) ∧ (sgOp w = 0x08)) ∧ 
    (∃ (s : State) (n w : Nat) (q : SgeProg), (s.sge.pos = some n) ∧ (s.sge.active = some q) ∧ (q.code[n]? = some w) ∧ (sgOp w = 0x09)) ∧ 
    (∃ (s : State) (n w : Nat) (q : SgeProg), (s.sge.pos = some n) ∧ (s.sge.active = some q) ∧ (q.code[n]? = some w) ∧ (sgOp w = 0x0A)) ∧ 
    (∃ (s : State) (n w : Nat) (q : SgeProg), (s.sge.pos = some n) ∧ (s.sge.active = some q) ∧ (q.code[n]? = some w) ∧ (sgOp w = 0x0B)) ∧ 
    (∃ (s : State) (n w : Nat) (q : SgeProg), (s.sge.pos = some n) ∧ (s.sge.active = some q) ∧ (q.code[n]? = some w) ∧ (sgOp w = 0x0C)) ∧ 
    (∃ (s : State) (n w : Nat) (q : SgeProg), (s.sge.pos = some n) ∧ (s.sge.active = some q) ∧ (q.code[n]? = some w) ∧ (sgOp w = 0x10)) ∧ 
    (∃ (s : State) (n w : Nat) (q : SgeProg), (s.sge.pos = some n) ∧ (s.sge.active = some q) ∧ (q.code[n]? = some w) ∧ (sgOp w = 0x11)) ∧ 
    (∃ (s : State) (n w : Nat) (q : SgeProg), (s.sge.pos = some n) ∧ (s.sge.active = some q) ∧ (q.code[n]? = some w) ∧ (sgOp w = 0x12)) ∧ 
    (∃ (s : State) (n w : Nat) (q : SgeProg), (s.sge.pos = some n) ∧ (s.sge.active = some q) ∧ (q.code[n]? = some w) ∧ (sgOp w = 0x13)) ∧ 
    (∃ (s : State) (n w : Nat) (q : SgeProg), (s.sge.pos = some n) ∧ (s.sge.active = some q) ∧ (q.code[n]? = some w) ∧ (sgOp w = 0x14)) ∧ 
    (∃ (s : State) (n w : Nat) (q : SgeProg), (s.sge.pos = some n) ∧ (s.sge.active = some q) ∧ (q.code[n]? = some w) ∧ (sgOp w = 0x15)) ∧ 
    (∃ (s : State) (n w : Nat) (q : SgeProg), (s.sge.pos = some n) ∧ (s.sge.active = some q) ∧ (q.code[n]? = some w) ∧ (sgOp w = 0x16)) ∧ 
    (∃ (s : State) (n w : Nat) (q : SgeProg), (s.sge.pos = some n) ∧ (s.sge.active = some q) ∧ (q.code[n]? = some w) ∧ (sgOp w = 0x20)) ∧ 
    (∃ (s : State) (n w : Nat) (q : SgeProg), (s.sge.pos = some n) ∧ (s.sge.active = some q) ∧ (q.code[n]? = some w) ∧ (sgOp w = 0x21)) ∧ 
    (∃ (s : State) (n w : Nat) (q : SgeProg), (s.sge.pos = some n) ∧ (s.sge.active = some q) ∧ (q.code[n]? = some w) ∧ (sgOp w = 0x22)) ∧ 
    (∃ (s : State) (n w : Nat) (q : SgeProg), (s.sge.pos = some n) ∧ (s.sge.active = some q) ∧ (q.code[n]? = some w) ∧ (sgOp w = 0x30)) :=
  ⟨⟨steep (0x00 * 2 ^ 56 + 0x0121234567890B), 1, 0x00 * 2 ^ 56 + 0x0121234567890B, prog (0x00 * 2 ^ 56 + 0x0121234567890B), by decide +kernel, by decide +kernel, by decide +kernel, by decide +kernel⟩,
   ⟨steep (0x01 * 2 ^ 56 + 0x0121234567890B), 1, 0x01 * 2 ^ 56 + 0x0121234567890B, prog (0x01 * 2 ^ 56 + 0x0121234567890B), by decide +kernel, by decide +kernel, by decide +kernel, by decide +kernel⟩,
   ⟨steep (0x02 * 2 ^ 56 + 0x0121234567890B), 1, 0x02 * 2 ^ 56 + 0x0121234567890B, prog (0x02 * 2 ^ 56 + 0x0121234567890B), by decide +kernel, by decide +kernel, by decide +kernel, by decide +kernel⟩,
   ⟨steep (0x03 * 2 ^ 56 + 0x0121234567890B), 1, 0x03 * 2 ^ 56 + 0x0121234567890B, prog (0x03 * 2 ^ 56 + 0x0121234567890B), by decide +kernel, by decide +kernel, by decide +kernel, by decide +kernel⟩,
   ⟨steep (0x04 * 2 ^ 56 + 0x0121234567890B), 1, 0x04 * 2 ^ 56 + 0x0121234567890B, prog (0x04 * 2 ^ 56 + 0x0121234567890B), by decide +kernel, by decide +kernel, by decide +kernel, by decide +kernel⟩,
   ⟨steep (0x05 * 2 ^ 56 + 0x0121234567890B), 1, 0x05 * 2 ^ 56 + 0x0121234567890B, prog (0x05 * 2 ^ 56 + 0x0121234567890B), by decide +kernel, by decide +kernel, by decide +kernel, by decide +kernel⟩,
   ⟨steep (0x06 * 2 ^ 56 + 0x0121234567890B), 1, 0x06 * 2 ^ 56 + 0x0121234567890B, prog (0x06 * 2 ^ 56 + 0x0121234567890B), by decide +kernel, by decide +kernel, by decide +kernel, by decide +kernel⟩,
   ⟨steep (0x07 * 2 ^ 56 + 0x0121234567890B), 1, 0x07 * 2 ^ 56 + 0x0121234567890B, prog (0x07 * 2 ^ 56 + 0x0121234567890B), by decide +kernel, by decide +kernel, by decide +kernel, by decide +kernel⟩,
   ⟨steep (0x08 * 2 ^ 56 + 0x0121234567890B), 1, 0x08 * 2 ^ 56 + 0x0121234567890B, prog (0x08 * 2 ^ 56 + 0x0121234567890B), by decide +kernel, by decide +kernel, by decide +kernel, by decide +kernel⟩,
   ⟨steep (0x09 * 2 ^ 56 + 0x0121234567890B), 1, 0x09 * 2 ^ 56 + 0x0121234567890B, prog (0x09 * 2 ^ 56 + 0x0121234567890B), by decide +kernel, by decide +kernel, by decide +kernel, by decide +kernel⟩,
   ⟨steep (0x0A * 2 ^ 56 + 0x0121234567890B), 1, 0x0A * 2 ^ 56 + 0x0121234567890B, prog (0x0A * 2 ^ 56 + 0x0121234567890B), by decide +kernel, by decide +kernel, by decide +kernel, by decide +kernel⟩,
   ⟨steep (0x0B * 2 ^ 56 + 0x0121234567890B), 1, 0x0B * 2 ^ 56 + 0x0121234567890B, prog (0x0B * 2 ^ 56 + 0x0121234567890B), by decide +kernel, by decide +kernel, by decide +kernel, by decide +kernel⟩,
   ⟨steep (0x0C * 2 ^ 56 + 0x0121234567890B), 1, 0x0C * 2 ^ 56 + 0x0121234567890B, prog (0x0C * 2 ^ 56 + 0x0121234567890B), by decide +kernel, by decide +kernel, by decide +kernel, by decide +kernel⟩,
   ⟨steep (0x10 * 2 ^ 56 + 0x0121234567890B), 1, 0x10 * 2 ^ 56 + 0x0121234567890B, prog (0x10 * 2 ^ 56 + 0x0121234567890B), by decide +kernel, by decide +kernel, by decide +kernel, by decide +kernel⟩,
   ⟨steep (0x11 * 2 ^ 56 + 0x0121234567890B), 1, 0x11 * 2 ^ 56 + 0x0121234567890B, prog (0x11 * 2 ^ 56 + 0x0121234567890B), by decide +kernel, by decide +kernel, by decide +kernel, by decide +kernel⟩,
   ⟨steep (0x12 * 2 ^ 56 + 0x0121234567890B), 1, 0x12 * 2 ^ 56 + 0x0121234567890B, prog (0x12 * 2 ^ 56 + 0x0121234567890B), by decide +kernel, by decide +kernel, by decide +kernel, by decide +kernel⟩,
   ⟨steep (0x13 * 2 ^ 56 + 0x0121234567890B), 1, 0x13 * 2 ^ 56 + 0x0121234567890B, prog (0x13 * 2 ^ 56 + 0x0121234567890B), by decide +kernel, by decide +kernel, by decide +kernel, by decide +kernel⟩,
   ⟨steep (0x14 * 2 ^ 56 + 0x0121234567890B), 1, 0x14 * 2 ^ 56 + 0x0121234567890B, prog (0x14 * 2 ^ 56 + 0x0121234567890B), by decide +kernel, by decide +kernel, by decide +kernel, by decide +kernel⟩,
   ⟨steep (0x15 * 2 ^ 56 + 0x0121234567890B), 1, 0x15 * 2 ^ 56 + 0x0121234567890B, prog (0x15 * 2 ^ 56 + 0x0121234567890B), by decide +kernel, by decide +kernel, by decide +kernel, by decide +kernel⟩,
   ⟨steep (0x16 * 2 ^ 56 + 0x0121234567890B), 1, 0x16 * 2 ^ 56 + 0x0121234567890B, prog (0x16 * 2 ^ 56 + 0x0121234567890B), by decide +kernel, by decide +kernel, by decide +kernel, by decide +kernel⟩,
   ⟨steep (0x20 * 2 ^ 56 + 0x0121234567890B), 1, 0x20 * 2 ^ 56 + 0x0121234567890B, prog (0x20 * 2 ^ 56 + 0x0121234567890B), by decide +kernel, by decide +kernel, by decide +kernel, by decide +kernel⟩,
   ⟨steep (0x21 * 2 ^ 56 + 0x0121234567890B), 1, 0x21 * 2 ^ 56 + 0x0121234567890B, prog (0x21 * 2 ^ 56 + 0x0121234567890B), by decide +kernel, by decide +kernel, by decide +kernel, by decide +kernel⟩,
   ⟨steep (0x22 * 2 ^ 56 + 0x0121234567890B), 1, 0x22 * 2 ^ 56 + 0x0121234567890B, prog (0x22 * 2 ^ 56 + 0x0121234567890B), by decide +kernel, by decide +kernel, by decide +kernel, by decide +kernel⟩,
   ⟨steep (0x30 * 2 ^ 56 + 0x0121234567890B), 1, 0x30 * 2 ^ 56 + 0x0121234567890B, prog (0x30 * 2 ^ 56 + 0x0121234567890B), by decide +kernel, by decide +kernel, by decide +kernel, by decide +kernel⟩⟩

/-- Each clause of SetpointsAndStopComplete speaks about a state that there is. -/
theorem wit_SetpointsAndStopComplete :
    (∃ (s t : State) (p : Packet) (x : Setpoint), let n := u8 p.params 1; (Given 0x0A10 p s t) ∧ (p.params.length = 16) ∧ (u8 p.params 0 = 1) ∧ (u8 p.params 1 ≤ 31) ∧ (t.setpointAt (u8 p.params 1) = some x) ∧ (t.domLost 25 = false) ∧ (t.domLost 99 = false)) ∧ 
    (∃ (s t : State) (p : Packet), (Given 0x0A10 p s t) ∧ (p.params.length = 16) ∧ (p.cls ≠ 5) ∧ (u8 p.params 0 = 2) ∧ (u8 p.params 1 ≤ 31) ∧ (u16 p.params 2 ≤ 4095) ∧ (signed 32 (u32 p.params 4) ≤ signed 32 (u32 p.params 8)) ∧ (t.plt.points.find? (fun x => x.1 != u8 p.params 1 && x.2.addr == u16 p.params 2) = none)) ∧ 
    (∃ (s t : State) (p : Packet) (x : Setpoint), (Given 0x0A10 p s t) ∧ (p.params.length = 16) ∧ (p.cls ≠ 5) ∧ (u8 p.params 0 = 3) ∧ (u8 p.params 1 ≤ 31) ∧ (t.setpointAt (u8 p.params 1) = some x)) ∧ 
    (∃ (s : State) (n left : Nat) (x : Setpoint) (y : Int), (s.setpointAt n = some x) ∧ (x.slew = some ⟨y, .runs left false⟩) ∧ (left ≤ 1) ∧ (s.isOn 23 = true)) ∧ 
    (∃ (s t : State) (p : Packet), (Given 0x0A12 p s t) ∧ (p.params.length = 4) ∧ (u8 p.params 0 = 1)) ∧ 
    (∃ (s t : State) (p : Packet), (Given 0x0A12 p s t) ∧ (p.params.length = 4) ∧ (p.cls ≠ 5) ∧ (u8 p.params 0 = 2) ∧ (u8 p.params 1 = 0xA5) ∧ (t.stopRefusal = none)) ∧ 
    (∃ (s : State), (s.isOn 23 = true)) ∧ 
    (∃ (s : State) (key : Nat), (s.isOn 23 = true) ∧ (key = 0xA5) ∧ (s.stopRefusal = none)) ∧ 
    (∃ (s : State) (key : Nat), (key % 256 ≠ 0xA5)) ∧ 
    (∃ (s t : State) (p : Packet), let viol := maskOf ((t.plt.watches.filter fun w => w.2.violating).map (·.1)); let slewing := maskOf ((t.plt.points.filter fun x => x.2.slew.isSome).map (·.1)); let c := t.can; (Given 0x0A11 p s t) ∧ (p.params.length = 0)) :=
  ⟨⟨(given 0x0A10 ([1, 31, 0, 0, 255, 255, 255, 127] ++ zeros 8) (plantRun)), plantRun, pkt 0x0A10 ([1, 31, 0, 0, 255, 255, 255, 127] ++ zeros 8), aPoint, ⟨rfl, rfl, rfl, rfl⟩, by decide +kernel, by decide +kernel, by decide +kernel, by decide +kernel, by decide +kernel, by decide +kernel⟩,
   ⟨(given 0x0A10 ([2, 0, 254, 15, 0, 0, 0, 128, 255, 255, 255, 127, 1, 0, 0, 0]) (plantRun)), plantRun, pkt 0x0A10 ([2, 0, 254, 15, 0, 0, 0, 128, 255, 255, 255, 127, 1, 0, 0, 0]), ⟨rfl, rfl, rfl, rfl⟩, by decide +kernel, by decide +kernel, by decide +kernel, by decide +kernel, by decide +kernel, by decide +kernel, by decide +kernel⟩,
   ⟨(given 0x0A10 ([3, 31] ++ zeros 14) (plantRun)), plantRun, pkt 0x0A10 ([3, 31] ++ zeros 14), aPoint, ⟨rfl, rfl, rfl, rfl⟩, by decide +kernel, by decide +kernel, by decide +kernel, by decide +kernel, by decide +kernel⟩,
   ⟨{ plantRun with plt := { points := [(31, { aPoint with slew := some ⟨5, .runs 1 false⟩ })] } }, 31, 1, { aPoint with slew := some ⟨5, .runs 1 false⟩ }, 5, by decide +kernel, by decide +kernel, by decide +kernel, by decide +kernel⟩,
   ⟨(given 0x0A12 [1, 0, 255, 0] (plantRun)), plantRun, pkt 0x0A12 [1, 0, 255, 0], ⟨rfl, rfl, rfl, rfl⟩, by decide +kernel, by decide +kernel⟩,
   ⟨(given 0x0A12 [2, 0xA5, 0, 0] (plantRun)), plantRun, pkt 0x0A12 [2, 0xA5, 0, 0], ⟨rfl, rfl, rfl, rfl⟩, by decide +kernel, by decide +kernel, by decide +kernel, by decide +kernel, by decide +kernel⟩,
   ⟨plantRun, by decide +kernel⟩,
   ⟨plantRun, 0xA5, by decide +kernel, by decide +kernel, by decide +kernel⟩,
   ⟨plantRun, 0xA4, by decide +kernel⟩,
   ⟨(given 0x0A11 [] (plantRun)), plantRun, pkt 0x0A11 [], ⟨rfl, rfl, rfl, rfl⟩, by decide +kernel⟩⟩

/-- Each clause of PlantBusComplete speaks about a state that there is. -/
theorem wit_PlantBusComplete :
    (∃ (s t : State) (p : Packet), (Given 0x0A13 p s t) ∧ (p.params.length = 16) ∧ ((canFields p.params).all (·.2) = true)) ∧ 
    (∃ (s : State) (ident dlc b : Nat) (ide fdf brs esi : Bool) (data : Bytes), let fits := fun b => (s.can.buf b).mode == 2 && (s.can.buf b).ide == ide && ((s.can.buf b).id &&& (s.can.buf b).mask) == (ident &&& (s.can.buf b).mask); let put := fun (x : CanBuffer) => { x with id := ident % 2 ^ 29, ide := ide, fdf := fdf, brs := brs, esi := esi, dlc := dlc % 16, data := Mem.writeN x.data 0 ((data ++ zeros 64).take (dlcLen fdf dlc)) }; let u := modCan (fun c => { integrated c with received := (c.received + 1) % 2 ^ 32 }) s; (s.canOn = true) ∧ (fdf = false ∨ s.can.flag 0 = true) ∧ (s.can.carriage = false) ∧ (((List.range 64).filter fits).find? (fun b => !s.can.rxnew.contains b || (s.can.buf b).overOk) = some b)) ∧ 
    (∃ (s : State) (ident dlc : Nat) (ide fdf brs esi : Bool) (data : Bytes), let fits := fun b => (s.can.buf b).mode == 2 && (s.can.buf b).ide == ide && ((s.can.buf b).id &&& (s.can.buf b).mask) == (ident &&& (s.can.buf b).mask); let recent := (s.can.lostAt.filter fun t => decide (s.us < t + 1000000)) ++ [s.us]; let u := modCan (fun c => { integrated c with received := (c.received + 1) % 2 ^ 32 }) s; (s.canOn = true) ∧ (fdf = false ∨ s.can.flag 0 = true) ∧ (s.can.carriage = false) ∧ ((List.range 64).any fits = true) ∧ (((List.range 64).filter fits).find? (fun b => !s.can.rxnew.contains b || (s.can.buf b).overOk) = none)) ∧ 
    (∃ (s : State) (ident dlc : Nat) (brs esi : Bool) (data : Bytes), let u := modCan (fun c => { integrated c with received := (c.received + 1) % 2 ^ 32 }) s; (s.canOn = true) ∧ (s.can.carriage = true) ∧ (s.transportsUp = true) ∧ (ident / 2 ^ 21 % 256 = u8 s.can.cfg 3) ∧ (ident / 2 ^ 13 % 128 = u8 s.can.cfg 2) ∧ (ident % 64 = 0) ∧ (ident.testBit 20 = false)) ∧ 
    (∃ (s : State) (b : Nat), let u := modCan (fun c => { integrated c with sent := (c.sent + 1) % 2 ^ 32, resume := none }) s; let x := s.can.buf b; let fd := x.fdf && s.can.flag 0; (s.canOn = true) ∧ (s.can.mode = 1) ∧ (s.can.offered = some b) ∧ (b ≠ 64)) ∧ 
    (∃ (s : State) (tec rec_ : Nat), (s.canOn = true) ∧ (tec ≤ 255) ∧ (128 ≤ tec ∨ 128 ≤ rec_) ∧ ((integrated s.can).st = 1)) ∧ 
    (∃ (s : State) (tec rec_ : Nat), let st := if s.can.flag 2 then 4 else 3; (s.canOn = true) ∧ (255 < tec)) ∧ 
    (∃ (s : State) (tec rec_ : Nat), (s.canOn = true) ∧ (tec < 128) ∧ (rec_ < 128) ∧ ((integrated s.can).st = 1)) ∧ 
    (∃ (s : State), (s.can.st = 4) ∧ (s.isOn 24 = true)) ∧ 
    (∃ (s : State) (reg value : Nat), let bits := (bitsSet 32 value).map (· + 32 * (reg % 2)); let u := modCan (fun c => { c with txreq := bits.foldl (fun l b => nset b l) c.txreq }) s; (s.domLost 24 = false)) ∧ 
    (∃ (s : State) (reg value : Nat), let bits := (bitsSet 32 value).map (· + 32 * (reg % 2)); (s.domLost 24 = false)) ∧ 
    (∃ (s : State), (s.domLost 24 = false)) ∧ 
    (∃ (s : State) (reader : Nat), (s.domLost 24 = false)) ∧ 
    (∃ (s : State) (src : Nat) (data : Bytes), (s.canOn = true) ∧ (s.can.carriage = true) ∧ (s.transportsUp = true)) ∧ 
    (∃ (s : State) (node : Nat), (s.can.parts.any (fun x => x.node == node) = true)) :=
  ⟨⟨(given 0x0A13 canBytes (plantRun)), plantRun, pkt 0x0A13 canBytes, ⟨rfl, rfl, rfl, rfl⟩, by decide +kernel, by decide +kernel⟩,
   ⟨busRun, 0x123, 8, 63, false, false, false, false, [1, 2], by decide +kernel, by decide +kernel, by decide +kernel, by decide +kernel⟩,
   ⟨{ busRun with can := { busRun.can with rxnew := [63] } }, 0x123, 8, false, false, false, false, [1, 2], by decide +kernel, by decide +kernel, by decide +kernel, by decide +kernel, by decide +kernel⟩,
   ⟨carryRun, 0x202140, 9, true, false, [0x80, 1], by decide +kernel, by decide +kernel, by decide +kernel, by decide +kernel, by decide +kernel, by decide +kernel, by decide +kernel⟩,
   ⟨busRun, 5, by decide +kernel, by decide +kernel, by decide +kernel, by decide +kernel⟩,
   ⟨busRun, 255, 0, by decide +kernel, by decide +kernel, by decide +kernel, by decide +kernel⟩,
   ⟨busRun, 256, 0, by decide +kernel, by decide +kernel⟩,
   ⟨busRun, 127, 127, by decide +kernel, by decide +kernel, by decide +kernel, by decide +kernel⟩,
   ⟨{ busRun with can := { busRun.can with st := 4 } }, by decide +kernel, by decide +kernel⟩,
   ⟨busRun, 1, 0x80000001, by decide +kernel⟩,
   ⟨busRun, 0, 32, by decide +kernel⟩,
   ⟨{ busRun with can := { busRun.can with st := 3 } }, by decide +kernel⟩,
   ⟨busRun, 0, by decide +kernel⟩,
   ⟨carryRun, 127, [0x80, 1], by decide +kernel, by decide +kernel, by decide +kernel⟩,
   ⟨{ carryRun with can := { carryRun.can with parts := [⟨127, 1, 1, []⟩] } }, 127, by decide +kernel⟩⟩

/-- Each clause of FenuithArithmeticComplete speaks about a state that there is. -/
theorem wit_FenuithArithmeticComplete :
    (∃ (s : State) (c r t w len : Nat) (i : FenIns), let k := s.task r t; let core := s.core c; let next := (k.pc + len) % 65536; (s.issuer c = some (r, t)) ∧ (fenFetch core k.pc = .ok (i, w, len)) ∧ (i.op = .add)) ∧ 
    (∃ (s : State) (c r t w len : Nat) (i : FenIns), let k := s.task r t; let core := s.core c; let next := (k.pc + len) % 65536; (s.issuer c = some (r, t)) ∧ (fenFetch core k.pc = .ok (i, w, len)) ∧ (i.op = .sub)) ∧ 
    (∃ (s : State) (c r t w len : Nat) (i : FenIns), let k := s.task r t; let core := s.core c; let next := (k.pc + len) % 65536; (s.issuer c = some (r, t)) ∧ (fenFetch core k.pc = .ok (i, w, len)) ∧ (i.op = .and)) ∧ 
    (∃ (s : State) (c r t w len : Nat) (i : FenIns), let k := s.task r t; let core := s.core c; let next := (k.pc + len) % 65536; (s.issuer c = some (r, t)) ∧ (fenFetch core k.pc = .ok (i, w, len)) ∧ (i.op = .or)) ∧ 
    (∃ (s : State) (c r t w len : Nat) (i : FenIns), let k := s.task r t; let core := s.core c; let next := (k.pc + len) % 65536; (s.issuer c = some (r, t)) ∧ (fenFetch core k.pc = .ok (i, w, len)) ∧ (i.op = .xor)) ∧ 
    (∃ (s : State) (c r t w len : Nat) (i : FenIns), let k := s.task r t; let core := s.core c; let next := (k.pc + len) % 65536; (s.issuer c = some (r, t)) ∧ (fenFetch core k.pc = .ok (i, w, len)) ∧ (i.op = .slt)) ∧ 
    (∃ (s : State) (c r t w len : Nat) (i : FenIns), let k := s.task r t; let core := s.core c; let next := (k.pc + len) % 65536; (s.issuer c = some (r, t)) ∧ (fenFetch core k.pc = .ok (i, w, len)) ∧ (i.op = .sltu)) ∧ 
    (∃ (s : State) (c r t w len : Nat) (i : FenIns), let k := s.task r t; let core := s.core c; let next := (k.pc + len) % 65536; (s.issuer c = some (r, t)) ∧ (fenFetch core k.pc = .ok (i, w, len)) ∧ (i.op = .mul)) ∧ 
    (∃ (s : State) (c r t w len : Nat) (i : FenIns), let k := s.task r t; let core := s.core c; let next := (k.pc + len) % 65536; (s.issuer c = some (r, t)) ∧ (fenFetch core k.pc = .ok (i, w, len)) ∧ (i.op = .mulhu)) ∧ 
    (∃ (s : State) (c r t w len : Nat) (i : FenIns), let k := s.task r t; let core := s.core c; let next := (k.pc + len) % 65536; (s.issuer c = some (r, t)) ∧ (fenFetch core k.pc = .ok (i, w, len)) ∧ (i.op = .shli)) ∧ 
    (∃ (s : State) (c r t w len : Nat) (i : FenIns), let k := s.task r t; let core := s.core c; let next := (k.pc + len) % 65536; (s.issuer c = some (r, t)) ∧ (fenFetch core k.pc = .ok (i, w, len)) ∧ (i.op = .shri)) ∧ 
    (∃ (s : State) (c r t w len : Nat) (i : FenIns), let k := s.task r t; let core := s.core c; let next := (k.pc + len) % 65536; (s.issuer c = some (r, t)) ∧ (fenFetch core k.pc = .ok (i, w, len)) ∧ (i.op = .sari)) ∧ 
    (∃ (s : State) (c r t w len : Nat) (i : FenIns), let k := s.task r t; let core := s.core c; let next := (k.pc + len) % 65536; (s.issuer c = some (r, t)) ∧ (fenFetch core k.pc = .ok (i, w, len)) ∧ (i.op = .not)) ∧ 
    (∃ (s : State) (c r t w len : Nat) (i : FenIns), let k := s.task r t; let core := s.core c; let next := (k.pc + len) % 65536; (s.issuer c = some (r, t)) ∧ (fenFetch core k.pc = .ok (i, w, len)) ∧ (i.op = .neg)) ∧ 
    (∃ (s : State) (c r t w len : Nat) (i : FenIns), let k := s.task r t; let core := s.core c; let next := (k.pc + len) % 65536; (s.issuer c = some (r, t)) ∧ (fenFetch core k.pc = .ok (i, w, len)) ∧ (i.op = .addi)) ∧ 
    (∃ (s : State) (c r t w len : Nat) (i : FenIns), let k := s.task r t; let core := s.core c; let next := (k.pc + len) % 65536; (s.issuer c = some (r, t)) ∧ (fenFetch core k.pc = .ok (i, w, len)) ∧ (i.op = .andi)) ∧ 
    (∃ (s : State) (c r t w len : Nat) (i : FenIns), let k := s.task r t; let core := s.core c; let next := (k.pc + len) % 65536; (s.issuer c = some (r, t)) ∧ (fenFetch core k.pc = .ok (i, w, len)) ∧ (i.op = .ori)) ∧ 
    (∃ (s : State) (c r t w len : Nat) (i : FenIns), let k := s.task r t; let core := s.core c; let next := (k.pc + len) % 65536; (s.issuer c = some (r, t)) ∧ (fenFetch core k.pc = .ok (i, w, len)) ∧ (i.op = .xori)) ∧ 
    (∃ (s : State) (c r t w len : Nat) (i : FenIns), let k := s.task r t; let core := s.core c; let next := (k.pc + len) % 65536; (s.issuer c = some (r, t)) ∧ (fenFetch core k.pc = .ok (i, w, len)) ∧ (i.op = .slti)) ∧ 
    (∃ (s : State) (c r t w len : Nat) (i : FenIns), let k := s.task r t; let core := s.core c; let next := (k.pc + len) % 65536; (s.issuer c = some (r, t)) ∧ (fenFetch core k.pc = .ok (i, w, len)) ∧ (i.op = .sltiu)) :=
  ⟨⟨(fenRun 0x1312 0x8001 [(1, 0x8000), (2, 3)] {} {}), 4, 0, 1, 0x1312, 1, ((fenDecode 0x1312 0x8001).getD ⟨.add, 0, 0, 0, 0⟩), by decide +kernel, rfl, by decide +kernel⟩,
   ⟨(fenRun 0x2321 0x8001 [(1, 0x8000), (2, 3)] {} {}), 4, 0, 1, 0x2321, 1, ((fenDecode 0x2321 0x8001).getD ⟨.add, 0, 0, 0, 0⟩), by decide +kernel, rfl, by decide +kernel⟩,
   ⟨(fenRun 0x3312 0x8001 [(1, 0x8000), (2, 3)] {} {}), 4, 0, 1, 0x3312, 1, ((fenDecode 0x3312 0x8001).getD ⟨.add, 0, 0, 0, 0⟩), by decide +kernel, rfl, by decide +kernel⟩,
   ⟨(fenRun 0x4312 0x8001 [(1, 0x8000), (2, 3)] {} {}), 4, 0, 1, 0x4312, 1, ((fenDecode 0x4312 0x8001).getD ⟨.add, 0, 0, 0, 0⟩), by decide +kernel, rfl, by decide +kernel⟩,
   ⟨(fenRun 0x5311 0x8001 [(1, 0x8000), (2, 3)] {} {}), 4, 0, 1, 0x5311, 1, ((fenDecode 0x5311 0x8001).getD ⟨.add, 0, 0, 0, 0⟩), by decide +kernel, rfl, by decide +kernel⟩,
   ⟨(fenRun 0x6312 0x8001 [(1, 0x8000), (2, 3)] {} {}), 4, 0, 1, 0x6312, 1, ((fenDecode 0x6312 0x8001).getD ⟨.add, 0, 0, 0, 0⟩), by decide +kernel, rfl, by decide +kernel⟩,
   ⟨(fenRun 0x7312 0x8001 [(1, 0x8000), (2, 3)] {} {}), 4, 0, 1, 0x7312, 1, ((fenDecode 0x7312 0x8001).getD ⟨.add, 0, 0, 0, 0⟩), by decide +kernel, rfl, by decide +kernel⟩,
   ⟨(fenRun 0x8312 0x8001 [(1, 0x8000), (2, 3)] {} {}), 4, 0, 1, 0x8312, 1, ((fenDecode 0x8312 0x8001).getD ⟨.add, 0, 0, 0, 0⟩), by decide +kernel, rfl, by decide +kernel⟩,
   ⟨(fenRun 0x9312 0x8001 [(1, 0x8000), (2, 3)] {} {}), 4, 0, 1, 0x9312, 1, ((fenDecode 0x9312 0x8001).getD ⟨.add, 0, 0, 0, 0⟩), by decide +kernel, rfl, by decide +kernel⟩,
   ⟨(fenRun 0xA31F 0x8001 [(1, 0x8000), (2, 3)] {} {}), 4, 0, 1, 0xA31F, 1, ((fenDecode 0xA31F 0x8001).getD ⟨.add, 0, 0, 0, 0⟩), by decide +kernel, rfl, by decide +kernel⟩,
   ⟨(fenRun 0xB31F 0x8001 [(1, 0x8000), (2, 3)] {} {}), 4, 0, 1, 0xB31F, 1, ((fenDecode 0xB31F 0x8001).getD ⟨.add, 0, 0, 0, 0⟩), by decide +kernel, rfl, by decide +kernel⟩,
   ⟨(fenRun 0xD31F 0x8001 [(1, 0x8000), (2, 3)] {} {}), 4, 0, 1, 0xD31F, 1, ((fenDecode 0xD31F 0x8001).getD ⟨.add, 0, 0, 0, 0⟩), by decide +kernel, rfl, by decide +kernel⟩,
   ⟨(fenRun 0x0311 0x8001 [(1, 0x8000), (2, 3)] {} {}), 4, 0, 1, 0x0311, 1, ((fenDecode 0x0311 0x8001).getD ⟨.add, 0, 0, 0, 0⟩), by decide +kernel, rfl, by decide +kernel⟩,
   ⟨(fenRun 0x0312 0x8001 [(1, 0x8000), (2, 3)] {} {}), 4, 0, 1, 0x0312, 1, ((fenDecode 0x0312 0x8001).getD ⟨.add, 0, 0, 0, 0⟩), by decide +kernel, rfl, by decide +kernel⟩,
   ⟨(fenRun 0xE311 0x8001 [(1, 0x8000), (2, 3)] {} {}), 4, 0, 1, 0xE311, 2, ((fenDecode 0xE311 0x8001).getD ⟨.add, 0, 0, 0, 0⟩), by decide +kernel, rfl, by decide +kernel⟩,
   ⟨(fenRun 0xE312 0x8001 [(1, 0x8000), (2, 3)] {} {}), 4, 0, 1, 0xE312, 2, ((fenDecode 0xE312 0x8001).getD ⟨.add, 0, 0, 0, 0⟩), by decide +kernel, rfl, by decide +kernel⟩,
   ⟨(fenRun 0xE313 0x8001 [(1, 0x8000), (2, 3)] {} {}), 4, 0, 1, 0xE313, 2, ((fenDecode 0xE313 0x8001).getD ⟨.add, 0, 0, 0, 0⟩), by decide +kernel, rfl, by decide +kernel⟩,
   ⟨(fenRun 0xE314 0x8001 [(1, 0x8000), (2, 3)] {} {}), 4, 0, 1, 0xE314, 2, ((fenDecode 0xE314 0x8001).getD ⟨.add, 0, 0, 0, 0⟩), by decide +kernel, rfl, by decide +kernel⟩,
   ⟨(fenRun 0xE315 0x8001 [(1, 0x8000), (2, 3)] {} {}), 4, 0, 1, 0xE315, 2, ((fenDecode 0xE315 0x8001).getD ⟨.add, 0, 0, 0, 0⟩), by decide +kernel, rfl, by decide +kernel⟩,
   ⟨(fenRun 0xE316 0x8001 [(1, 0x8000), (2, 3)] {} {}), 4, 0, 1, 0xE316, 2, ((fenDecode 0xE316 0x8001).getD ⟨.add, 0, 0, 0, 0⟩), by decide +kernel, rfl, by decide +kernel⟩⟩

/-- Each clause of FenuithControlComplete speaks about a state that there is. -/
theorem wit_FenuithControlComplete :
    (∃ (s : State) (c r t w len : Nat) (i : FenIns), let k := s.task r t; let core := s.core c; let next := (k.pc + len) % 65536; (s.issuer c = some (r, t)) ∧ (fenFetch core k.pc = .ok (i, w, len)) ∧ (i.op = .branch 0)) ∧ 
    (∃ (s : State) (c r t w len : Nat) (i : FenIns), let k := s.task r t; let core := s.core c; let next := (k.pc + len) % 65536; (s.issuer c = some (r, t)) ∧ (fenFetch core k.pc = .ok (i, w, len)) ∧ (i.op = .branch 1)) ∧ 
    (∃ (s : State) (c r t w len : Nat) (i : FenIns), let k := s.task r t; let core := s.core c; let next := (k.pc + len) % 65536; (s.issuer c = some (r, t)) ∧ (fenFetch core k.pc = .ok (i, w, len)) ∧ (i.op = .branch 2)) ∧ 
    (∃ (s : State) (c r t w len : Nat) (i : FenIns), let k := s.task r t; let core := s.core c; let next := (k.pc + len) % 65536; (s.issuer c = some (r, t)) ∧ (fenFetch core k.pc = .ok (i, w, len)) ∧ (i.op = .branch 3)) ∧ 
    (∃ (s : State) (c r t w len : Nat) (i : FenIns), let k := s.task r t; let core := s.core c; let next := (k.pc + len) % 65536; (s.issuer c = some (r, t)) ∧ (fenFetch core k.pc = .ok (i, w, len)) ∧ (i.op = .branch 4)) ∧ 
    (∃ (s : State) (c r t w len : Nat) (i : FenIns), let k := s.task r t; let core := s.core c; let next := (k.pc + len) % 65536; (s.issuer c = some (r, t)) ∧ (fenFetch core k.pc = .ok (i, w, len)) ∧ (i.op = .branch 5)) ∧ 
    (∃ (s : State) (c r t w len : Nat) (i : FenIns), let k := s.task r t; let core := s.core c; (s.issuer c = some (r, t)) ∧ (fenFetch core k.pc = .ok (i, w, len)) ∧ (i.op = .jr)) ∧ 
    (∃ (s : State) (c r t w len : Nat) (i : FenIns), let k := s.task r t; let core := s.core c; (s.issuer c = some (r, t)) ∧ (fenFetch core k.pc = .ok (i, w, len)) ∧ (i.op = .jmp)) ∧ 
    (∃ (s : State) (c r t w len : Nat) (i : FenIns), let k := s.task r t; let core := s.core c; let next := (k.pc + len) % 65536; (s.issuer c = some (r, t)) ∧ (fenFetch core k.pc = .ok (i, w, len)) ∧ (i.op = .callr) ∧ (k.sm = false) ∧ (k.ovf = false ∨ k.rsc ≠ 16)) ∧ 
    (∃ (s : State) (c r t w len : Nat) (i : FenIns), let k := s.task r t; let core := s.core c; let next := (k.pc + len) % 65536; let q := (k.reg 15 + 65535) % 65536; (s.issuer c = some (r, t)) ∧ (fenFetch core k.pc = .ok (i, w, len)) ∧ (i.op = .callr) ∧ (k.sm = true) ∧ (k.ovf = false ∨ k.slim < k.reg 15)) ∧ 
    (∃ (s : State) (c r t w len : Nat) (i : FenIns), let k := s.task r t; let core := s.core c; let next := (k.pc + len) % 65536; (s.issuer c = some (r, t)) ∧ (fenFetch core k.pc = .ok (i, w, len)) ∧ (i.op = .call) ∧ (k.sm = false) ∧ (k.ovf = false ∨ k.rsc ≠ 16)) ∧ 
    (∃ (s : State) (c r t w len : Nat) (i : FenIns), let k := s.task r t; let core := s.core c; let next := (k.pc + len) % 65536; let q := (k.reg 15 + 65535) % 65536; (s.issuer c = some (r, t)) ∧ (fenFetch core k.pc = .ok (i, w, len)) ∧ (i.op = .call) ∧ (k.sm = true) ∧ (k.ovf = false ∨ k.slim < k.reg 15)) ∧ 
    (∃ (s : State) (c r t w len : Nat) (i : FenIns), let k := s.task r t; let core := s.core c; let q := (k.rsp + 15) % 16; (s.issuer c = some (r, t)) ∧ (fenFetch core k.pc = .ok (i, w, len)) ∧ (i.op = .ret) ∧ (k.sm = false) ∧ (k.ovf = false ∨ k.rsc ≠ 0)) ∧ 
    (∃ (s : State) (c r t w len : Nat) (i : FenIns), let k := s.task r t; let core := s.core c; (s.issuer c = some (r, t)) ∧ (fenFetch core k.pc = .ok (i, w, len)) ∧ (i.op = .ret) ∧ (k.sm = true) ∧ (core.dataBad.contains (k.reg 15) = false)) ∧ 
    (∃ (s : State) (c r t w len : Nat) (i : FenIns), let k := s.task r t; let core := s.core c; let next := (k.pc + len) % 65536; let q := (k.reg 15 + 65535) % 65536; (s.issuer c = some (r, t)) ∧ (fenFetch core k.pc = .ok (i, w, len)) ∧ (i.op = .push) ∧ (k.sm = true) ∧ (k.ovf = false ∨ k.slim < k.reg 15)) ∧ 
    (∃ (s : State) (c r t w len : Nat) (i : FenIns), let k := s.task r t; let core := s.core c; (s.issuer c = some (r, t)) ∧ (fenFetch core k.pc = .ok (i, w, len)) ∧ (i.op = .push) ∧ (k.sm = false)) ∧ 
    (∃ (s : State) (c r t w len : Nat) (i : FenIns), let k := s.task r t; let core := s.core c; let next := (k.pc + len) % 65536; (s.issuer c = some (r, t)) ∧ (fenFetch core k.pc = .ok (i, w, len)) ∧ (i.op = .pop) ∧ (k.sm = true) ∧ (core.dataBad.contains (k.reg 15) = false)) ∧ 
    (∃ (s : State) (c r t w len : Nat) (i : FenIns), let k := s.task r t; let core := s.core c; (s.issuer c = some (r, t)) ∧ (fenFetch core k.pc = .ok (i, w, len)) ∧ (i.op = .pop) ∧ (k.sm = false)) ∧ 
    (∃ (s : State) (c r t w len : Nat) (i : FenIns), let k := s.task r t; let core := s.core c; let next := (k.pc + len) % 65536; (s.issuer c = some (r, t)) ∧ (fenFetch core k.pc = .ok (i, w, len)) ∧ (i.op = .yield)) ∧ 
    (∃ (s : State) (c r t w len : Nat) (i : FenIns), let k := s.task r t; let core := s.core c; let next := (k.pc + len) % 65536; (s.issuer c = some (r, t)) ∧ (fenFetch core k.pc = .ok (i, w, len)) ∧ (i.op = .wait) ∧ (k.reg i.a ≠ 0) ∧ (k.pending &&& k.reg i.a = 0)) ∧ 
    (∃ (s : State) (c r t w len : Nat) (i : FenIns), let k := s.task r t; let core := s.core c; let next := (k.pc + len) % 65536; (s.issuer c = some (r, t)) ∧ (fenFetch core k.pc = .ok (i, w, len)) ∧ (i.op = .wait) ∧ (k.pending &&& k.reg i.a ≠ 0)) ∧ 
    (∃ (s : State) (c r t w len : Nat) (i : FenIns), let k := s.task r t; let core := s.core c; let next := (k.pc + len) % 65536; (s.issuer c = some (r, t)) ∧ (fenFetch core k.pc = .ok (i, w, len)) ∧ (i.op = .wait) ∧ (k.reg i.a = 0)) ∧ 
    (∃ (s : State) (c r t w len : Nat) (i : FenIns), let k := s.task r t; let core := s.core c; let next := (k.pc + len) % 65536; (s.issuer c = some (r, t)) ∧ (fenFetch core k.pc = .ok (i, w, len)) ∧ (i.op = .exit)) ∧ 
    (∃ (s : State) (c r t w len : Nat) (i : FenIns), let k := s.task r t; let core := s.core c; (s.issuer c = some (r, t)) ∧ (fenFetch core k.pc = .ok (i, w, len)) ∧ (i.op = .trap)) :=
  ⟨⟨(fenRun 0xC012 0x8001 [(1, 0x8000), (2, 3)] {} {}), 4, 0, 1, 0xC012, 2, ((fenDecode 0xC012 0x8001).getD ⟨.add, 0, 0, 0, 0⟩), by decide +kernel, rfl, by decide +kernel⟩,
   ⟨(fenRun 0xC112 0x8001 [(1, 0x8000), (2, 3)] {} {}), 4, 0, 1, 0xC112, 2, ((fenDecode 0xC112 0x8001).getD ⟨.add, 0, 0, 0, 0⟩), by decide +kernel, rfl, by decide +kernel⟩,
   ⟨(fenRun 0xC212 0x8001 [(1, 0x8000), (2, 3)] {} {}), 4, 0, 1, 0xC212, 2, ((fenDecode 0xC212 0x8001).getD ⟨.add, 0, 0, 0, 0⟩), by decide +kernel, rfl, by decide +kernel⟩,
   ⟨(fenRun 0xC312 0x8001 [(1, 0x8000), (2, 3)] {} {}), 4, 0, 1, 0xC312, 2, ((fenDecode 0xC312 0x8001).getD ⟨.add, 0, 0, 0, 0⟩), by decide +kernel, rfl, by decide +kernel⟩,
   ⟨(fenRun 0xC412 0x8001 [(1, 0x8000), (2, 3)] {} {}), 4, 0, 1, 0xC412, 2, ((fenDecode 0xC412 0x8001).getD ⟨.add, 0, 0, 0, 0⟩), by decide +kernel, rfl, by decide +kernel⟩,
   ⟨(fenRun 0xC512 0x8001 [(1, 0x8000), (2, 3)] {} {}), 4, 0, 1, 0xC512, 2, ((fenDecode 0xC512 0x8001).getD ⟨.add, 0, 0, 0, 0⟩), by decide +kernel, rfl, by decide +kernel⟩,
   ⟨(fenRun 0x0013 0x8001 [(1, 0x8000), (2, 3)] {} {}), 4, 0, 1, 0x0013, 1, ((fenDecode 0x0013 0x8001).getD ⟨.add, 0, 0, 0, 0⟩), by decide +kernel, rfl, by decide +kernel⟩,
   ⟨(fenRun 0xF000 0x8001 [(1, 0x8000), (2, 3)] {} {}), 4, 0, 1, 0xF000, 2, ((fenDecode 0xF000 0x8001).getD ⟨.add, 0, 0, 0, 0⟩), by decide +kernel, rfl, by decide +kernel⟩,
   ⟨(fenRun 0x0014 0x8001 [(1, 0x8000), (2, 3)] { rsp := 15, rsc := 16 } {}), 4, 0, 1, 0x0014, 1, ((fenDecode 0x0014 0x8001).getD ⟨.add, 0, 0, 0, 0⟩), by decide +kernel, rfl, by decide +kernel, by decide +kernel, by decide +kernel⟩,
   ⟨(fenRun 0x0014 0x8001 [(1, 0x8000), (2, 3)] { sm := true } {}), 4, 0, 1, 0x0014, 1, ((fenDecode 0x0014 0x8001).getD ⟨.add, 0, 0, 0, 0⟩), by decide +kernel, rfl, by decide +kernel, by decide +kernel, by decide +kernel⟩,
   ⟨(fenRun 0xF100 0x8001 [(1, 0x8000), (2, 3)] { rsp := 15, rsc := 16 } {}), 4, 0, 1, 0xF100, 2, ((fenDecode 0xF100 0x8001).getD ⟨.add, 0, 0, 0, 0⟩), by decide +kernel, rfl, by decide +kernel, by decide +kernel, by decide +kernel⟩,
   ⟨(fenRun 0xF100 0x8001 [(1, 0x8000), (2, 3)] { sm := true } {}), 4, 0, 1, 0xF100, 2, ((fenDecode 0xF100 0x8001).getD ⟨.add, 0, 0, 0, 0⟩), by decide +kernel, rfl, by decide +kernel, by decide +kernel, by decide +kernel⟩,
   ⟨(fenRun 0x0005 0x8001 [(1, 0x8000), (2, 3)] {} {}), 4, 0, 1, 0x0005, 1, ((fenDecode 0x0005 0x8001).getD ⟨.add, 0, 0, 0, 0⟩), by decide +kernel, rfl, by decide +kernel, by decide +kernel, by decide +kernel⟩,
   ⟨(fenRun 0x0005 0x8001 [(1, 0x8000), (2, 3)] { sm := true } {}), 4, 0, 1, 0x0005, 1, ((fenDecode 0x0005 0x8001).getD ⟨.add, 0, 0, 0, 0⟩), by decide +kernel, rfl, by decide +kernel, by decide +kernel, by decide +kernel⟩,
   ⟨(fenRun 0x0016 0x8001 [(1, 0x8000), (2, 3)] { sm := true } {}), 4, 0, 1, 0x0016, 1, ((fenDecode 0x0016 0x8001).getD ⟨.add, 0, 0, 0, 0⟩), by decide +kernel, rfl, by decide +kernel, by decide +kernel, by decide +kernel⟩,
   ⟨(fenRun 0x0016 0x8001 [(1, 0x8000), (2, 3)] {} {}), 4, 0, 1, 0x0016, 1, ((fenDecode 0x0016 0x8001).getD ⟨.add, 0, 0, 0, 0⟩), by decide +kernel, rfl, by decide +kernel, by decide +kernel⟩,
   ⟨(fenRun 0x0F07 0x8001 [(1, 0x8000), (2, 3)] { sm := true } {}), 4, 0, 1, 0x0F07, 1, ((fenDecode 0x0F07 0x8001).getD ⟨.add, 0, 0, 0, 0⟩), by decide +kernel, rfl, by decide +kernel, by decide +kernel, by decide +kernel⟩,
   ⟨(fenRun 0x0F07 0x8001 [(1, 0x8000), (2, 3)] {} {}), 4, 0, 1, 0x0F07, 1, ((fenDecode 0x0F07 0x8001).getD ⟨.add, 0, 0, 0, 0⟩), by decide +kernel, rfl, by decide +kernel, by decide +kernel⟩,
   ⟨(fenRun 0x0008 0x8001 [(1, 0x8000), (2, 3)] {} {}), 4, 0, 1, 0x0008, 1, ((fenDecode 0x0008 0x8001).getD ⟨.add, 0, 0, 0, 0⟩), by decide +kernel, rfl, by decide +kernel⟩,
   ⟨(fenRun 0x0019 0x8001 [(1, 0x8000), (2, 3)] {} {}), 4, 0, 1, 0x0019, 1, ((fenDecode 0x0019 0x8001).getD ⟨.add, 0, 0, 0, 0⟩), by decide +kernel, rfl, by decide +kernel, by decide +kernel, by decide +kernel⟩,
   ⟨(fenRun 0x0019 0x8001 [(1, 0x8000), (2, 3)] { pending := 0xFFFF } {}), 4, 0, 1, 0x0019, 1, ((fenDecode 0x0019 0x8001).getD ⟨.add, 0, 0, 0, 0⟩), by decide +kernel, rfl, by decide +kernel, by decide +kernel⟩,
   ⟨(fenRun 0x0009 0x8001 [(1, 0x8000), (2, 3)] {} {}), 4, 0, 1, 0x0009, 1, ((fenDecode 0x0009 0x8001).getD ⟨.add, 0, 0, 0, 0⟩), by decide +kernel, rfl, by decide +kernel, by decide +kernel⟩,
   ⟨(fenRun 0x000A 0x8001 [(1, 0x8000), (2, 3)] {} {}), 4, 0, 1, 0x000A, 1, ((fenDecode 0x000A 0x8001).getD ⟨.add, 0, 0, 0, 0⟩), by decide +kernel, rfl, by decide +kernel⟩,
   ⟨(fenRun 0x0F0B 0x8001 [(1, 0x8000), (2, 3)] {} {}), 4, 0, 1, 0x0F0B, 1, ((fenDecode 0x0F0B 0x8001).getD ⟨.add, 0, 0, 0, 0⟩), by decide +kernel, rfl, by decide +kernel⟩⟩

/-- Each clause of FenuithMemoryComplete speaks about a state that there is. -/
theorem wit_FenuithMemoryComplete :
    (∃ (s : State) (c r t w len : Nat) (i : FenIns), let k := s.task r t; let core := s.core c; let next := (k.pc + len) % 65536; let a := (k.reg i.a + i.imm) % 65536; (s.issuer c = some (r, t)) ∧ (fenFetch core k.pc = .ok (i, w, len)) ∧ (i.op = .ld) ∧ (core.dataBad.contains a = false)) ∧ 
    (∃ (s : State) (c r t w len : Nat) (i : FenIns), let k := s.task r t; let core := s.core c; let next := (k.pc + len) % 65536; let a := (k.reg i.a + i.imm) % 65536; (s.issuer c = some (r, t)) ∧ (fenFetch core k.pc = .ok (i, w, len)) ∧ (i.op = .st)) ∧ 
    (∃ (s : State) (c r t w len : Nat) (i : FenIns), let k := s.task r t; let core := s.core c; let next := (k.pc + len) % 65536; let a := (k.reg i.a + i.imm) % 65536; (s.issuer c = some (r, t)) ∧ (fenFetch core k.pc = .ok (i, w, len)) ∧ (i.op = .ldp) ∧ (core.codeBad.contains a = false)) ∧ 
    (∃ (s : State) (c r t w len : Nat) (i : FenIns), let k := s.task r t; let core := s.core c; let n := i.imm / 8192; let a := tget 0 core.win (2 * n) * 2 ^ 16 + tget 0 core.win (2 * n + 1) * 2 ^ 32 + 4 * ((k.reg i.a + i.imm % 8192) % 65536); let v := k.reg i.d + k.reg (i.d + 1) * 65536; (s.issuer c = some (r, t)) ∧ (fenFetch core k.pc = .ok (i, w, len)) ∧ (i.op = .xld) ∧ (i.d % 2 = 0)) ∧ 
    (∃ (s : State) (c r t w len : Nat) (i : FenIns), let k := s.task r t; let core := s.core c; let n := i.imm / 8192; let a := tget 0 core.win (2 * n) * 2 ^ 16 + tget 0 core.win (2 * n + 1) * 2 ^ 32 + 4 * ((k.reg i.a + i.imm % 8192) % 65536); let v := k.reg i.d + k.reg (i.d + 1) * 65536; (s.issuer c = some (r, t)) ∧ (fenFetch core k.pc = .ok (i, w, len)) ∧ (i.op = .xst) ∧ (i.d % 2 = 0)) ∧ 
    (∃ (s : State) (c r t w len : Nat) (i : FenIns) (v : Nat) (q : WdCore), let k := s.task r t; let core := s.core c; let next := (k.pc + len) % 65536; (s.issuer c = some (r, t)) ∧ (fenFetch core k.pc = .ok (i, w, len)) ∧ (i.op = .rdl) ∧ (fenLocal c t i.imm (s.wdCycles c) k core = some (v, q))) ∧ 
    (∃ (s : State) (c r t w len : Nat) (i : FenIns), let k := s.task r t; let core := s.core c; (s.issuer c = some (r, t)) ∧ (fenFetch core k.pc = .ok (i, w, len)) ∧ (i.op = .rdl) ∧ (fenLocal c t i.imm (s.wdCycles c) k core = none)) ∧ 
    (∃ (s : State) (c r t w len : Nat) (i : FenIns), let k := s.task r t; let core := s.core c; let next := (k.pc + len) % 65536; (s.issuer c = some (r, t)) ∧ (fenFetch core k.pc = .ok (i, w, len)) ∧ (i.op = .wrl) ∧ (i.imm = 0x011)) ∧ 
    (∃ (s : State) (c r t w len : Nat) (i : FenIns), let k := s.task r t; let core := s.core c; let next := (k.pc + len) % 65536; (s.issuer c = some (r, t)) ∧ (fenFetch core k.pc = .ok (i, w, len)) ∧ (i.op = .wrl) ∧ (inR i.imm 0x20 0x2F = true)) ∧ 
    (∃ (s : State) (c r t w len : Nat) (i : FenIns), let k := s.task r t; let core := s.core c; (s.issuer c = some (r, t)) ∧ (fenFetch core k.pc = .ok (i, w, len)) ∧ (i.op = .wrl) ∧ (i.imm ≠ 0x011) ∧ (inR i.imm 0x20 0x2F = false)) :=
  ⟨⟨(fenRun 0xE317 0x8001 [(1, 0x8000), (2, 3)] {} {}), 4, 0, 1, 0xE317, 2, ((fenDecode 0xE317 0x8001).getD ⟨.add, 0, 0, 0, 0⟩), by decide +kernel, rfl, by decide +kernel, by decide +kernel⟩,
   ⟨(fenRun 0xE218 0x8001 [(1, 0x8000), (2, 3)] {} {}), 4, 0, 1, 0xE218, 2, ((fenDecode 0xE218 0x8001).getD ⟨.add, 0, 0, 0, 0⟩), by decide +kernel, rfl, by decide +kernel⟩,
   ⟨(fenRun 0xE319 0x8001 [(1, 0x8000), (2, 3)] {} {}), 4, 0, 1, 0xE319, 2, ((fenDecode 0xE319 0x8001).getD ⟨.add, 0, 0, 0, 0⟩), by decide +kernel, rfl, by decide +kernel, by decide +kernel⟩,
   ⟨(fenRun 0xE21A 0xFFFF [(1, 0x8000), (2, 3)] {} { win := [(14, 0xFFFF), (15, 0xFFFF)] }), 4, 0, 1, 0xE21A, 2, ((fenDecode 0xE21A 0xFFFF).getD ⟨.add, 0, 0, 0, 0⟩), by decide +kernel, rfl, by decide +kernel, by decide +kernel⟩,
   ⟨(fenRun 0xE21B 0xFFFF [(1, 0x8000), (2, 3)] {} { win := [(14, 0xFFFF), (15, 0xFFFF)] }), 4, 0, 1, 0xE21B, 2, ((fenDecode 0xE21B 0xFFFF).getD ⟨.add, 0, 0, 0, 0⟩), by decide +kernel, rfl, by decide +kernel, by decide +kernel⟩,
   ⟨(fenRun 0xE30C 0x0018 [(1, 0x8000), (2, 3)] {} {}), 4, 0, 1, 0xE30C, 2, ((fenDecode 0xE30C 0x0018).getD ⟨.add, 0, 0, 0, 0⟩), 0, (fenRun 0xE30C 0x0018 [(1, 0x8000), (2, 3)] {} {}).core 4, by decide +kernel, rfl, by decide +kernel, by decide +kernel⟩,
   ⟨(fenRun 0xE30C 0x001B [(1, 0x8000), (2, 3)] {} {}), 4, 0, 1, 0xE30C, 2, ((fenDecode 0xE30C 0x001B).getD ⟨.add, 0, 0, 0, 0⟩), by decide +kernel, rfl, by decide +kernel, by decide +kernel⟩,
   ⟨(fenRun 0xE01D 0x0011 [(1, 0x8000), (2, 3)] {} {}), 4, 0, 1, 0xE01D, 2, ((fenDecode 0xE01D 0x0011).getD ⟨.add, 0, 0, 0, 0⟩), by decide +kernel, rfl, by decide +kernel, by decide +kernel⟩,
   ⟨(fenRun 0xE01D 0x002F [(1, 0x8000), (2, 3)] {} {}), 4, 0, 1, 0xE01D, 2, ((fenDecode 0xE01D 0x002F).getD ⟨.add, 0, 0, 0, 0⟩), by decide +kernel, rfl, by decide +kernel, by decide +kernel⟩,
   ⟨(fenRun 0xE01D 0x0030 [(1, 0x8000), (2, 3)] {} {}), 4, 0, 1, 0xE01D, 2, ((fenDecode 0xE01D 0x0030).getD ⟨.add, 0, 0, 0, 0⟩), by decide +kernel, rfl, by decide +kernel, by decide +kernel, by decide +kernel⟩⟩

/-- Each clause of WardenRuntimeComplete speaks about a state that there is. -/
theorem wit_WardenRuntimeComplete :
    (∃ (s : State) (core r : Nat), (s.roleOn core = some r) ∧ ((s.role r).running.isSome = true)) ∧ 
    (∃ (s : State) (role task bit : Nat), (role ≤ 3) ∧ (task ≤ 31) ∧ (bit ≤ 15) ∧ ((s.task role task).live = false)) ∧ 
    (∃ (s : State) (role task bit : Nat), let k := s.task role task; let all := k.pending ||| 2 ^ bit; let u := modRole role (fun x => { x with timers := tmodAll {} x.timers (x.timers.map (·.1)) fun _ m => if m.mode == 1 && m.due.isSome && m.task == task && m.guard.testBit bit then { m with due := none } else m }) s; (role ≤ 3) ∧ (task ≤ 31) ∧ (bit ≤ 15) ∧ (k.st = 3) ∧ (k.mask &&& 2 ^ bit ≠ 0)) ∧ 
    (∃ (s : State) (role task bit : Nat), let all := (s.task role task).pending ||| 2 ^ bit; let u := modRole role (fun x => { x with timers := tmodAll {} x.timers (x.timers.map (·.1)) fun _ m => if m.mode == 1 && m.due.isSome && m.task == task && m.guard.testBit bit then { m with due := none } else m }) s; (role ≤ 3) ∧ (task ≤ 31) ∧ (bit ≤ 15) ∧ (inR (s.task role task).st 1 2 = true)) ∧ 
    (∃ (s : State) (core r role task prio : Nat) (sm ovf : Bool), let x := s.role r; (s.roleOn core = some r) ∧ ((s.role r).tcDone = true) ∧ (role ≤ 3) ∧ (task ≤ 31) ∧ (prio ≤ 7) ∧ ((s.task role task).live = false)) ∧ 
    (∃ (s : State) (core r role task prio : Nat) (sm ovf : Bool), (s.roleOn core = some r) ∧ ((s.role r).tcDone = true) ∧ (role ≤ 3) ∧ (task ≤ 31) ∧ (prio ≤ 7) ∧ ((s.task role task).live = true)) ∧ 
    (∃ (s : State) (core r role task : Nat), (s.roleOn core = some r) ∧ ((s.role r).tcDone = true) ∧ (role ≤ 3) ∧ (1 ≤ task) ∧ (task ≤ 31) ∧ ((s.task role task).live = true) ∧ ((s.task role task).st ≠ 2 ∨ s.inAccess role = false)) ∧ 
    (∃ (s : State) (core r role task : Nat), (s.roleOn core = some r) ∧ ((s.role r).tcDone = true) ∧ (task = 0)) ∧ 
    (∃ (s : State) (core r role task bit : Nat), (s.roleOn core = some r) ∧ (role ≤ 3) ∧ (task ≤ 31) ∧ (bit ≤ 15) ∧ (bit ≠ 15 ∨ task ≠ 0)) ∧ 
    (∃ (s : State) (core r : Nat) (d : RoleDesc), (s.roleOn core = some r) ∧ ((s.role r).desc = some d) ∧ ((s.coreOf r).isSome = true)) ∧ 
    (∃ (s : State) (core r : Nat), (s.roleOn core = some r)) ∧ 
    (∃ (s : State) (core r timer value : Nat), (s.roleOn core = some r) ∧ (timer ≤ 15) ∧ (inR (value % 4) 1 2 = true) ∧ ((tget {} (s.role r).timers timer).count ≠ 0)) ∧ 
    (∃ (s : State) (core r timer value : Nat), (s.roleOn core = some r) ∧ (timer ≤ 15) ∧ (value % 4 = 0)) ∧ 
    (∃ (s : State) (role timer d : Nat), let m := tget {} (s.role role).timers timer; (role ≤ 3) ∧ (timer ≤ 15) ∧ (m.due = some d)) ∧ 
    (∃ (s : State) (reader n h : Nat), (s.holderOf reader = some h) ∧ (n ≤ 63) ∧ ((s.lock n).st ≠ 1)) ∧ 
    (∃ (s : State) (reader n h : Nat), (s.holderOf reader = some h) ∧ (n ≤ 63) ∧ ((s.lock n).st = 1)) ∧ 
    (∃ (s : State) (reader n h : Nat), (s.holderOf reader = some h) ∧ (n ≤ 63) ∧ ((s.lock n).st = 1) ∧ ((s.lock n).holder = h)) ∧ 
    (∃ (s : State) (reader n h : Nat), (s.holderOf reader = some h) ∧ (n ≤ 63) ∧ ((s.lock n).st ≠ 1 ∨ (s.lock n).holder ≠ h)) :=
  ⟨⟨roleRun, 4, 0, by decide +kernel, by decide +kernel⟩,
   ⟨roleRun, 3, 31, 15, by decide +kernel, by decide +kernel, by decide +kernel, by decide +kernel⟩,
   ⟨roleRun, 0, 2, 15, by decide +kernel, by decide +kernel, by decide +kernel, by decide +kernel, by decide +kernel⟩,
   ⟨roleRun, 0, 1, 15, by decide +kernel, by decide +kernel, by decide +kernel, by decide +kernel⟩,
   ⟨roleRun, 4, 0, 3, 31, 7, true, true, by decide +kernel, by decide +kernel, by decide +kernel, by decide +kernel, by decide +kernel, by decide +kernel⟩,
   ⟨roleRun, 4, 0, 0, 1, 7, true, true, by decide +kernel, by decide +kernel, by decide +kernel, by decide +kernel, by decide +kernel, by decide +kernel⟩,
   ⟨roleRun, 4, 0, 0, 2, by decide +kernel, by decide +kernel, by decide +kernel, by decide +kernel, by decide +kernel, by decide +kernel, by decide +kernel⟩,
   ⟨roleRun, 4, 0, 0, 0, by decide +kernel, by decide +kernel, by decide +kernel⟩,
   ⟨roleRun, 4, 0, 3, 31, 15, by decide +kernel, by decide +kernel, by decide +kernel, by decide +kernel, by decide +kernel⟩,
   ⟨roleRun, 4, 0, aDesc, by decide +kernel, by decide +kernel, by decide +kernel⟩,
   ⟨roleRun, 4, 0, by decide +kernel⟩,
   ⟨roleRun, 4, 0, 15, 0xFFFFF1F2, by decide +kernel, by decide +kernel, by decide +kernel, by decide +kernel⟩,
   ⟨roleRun, 4, 0, 15, 0xFFFFF1F0, by decide +kernel, by decide +kernel, by decide +kernel⟩,
   ⟨roleRun, 0, 15, 9, by decide +kernel, by decide +kernel, by decide +kernel⟩,
   ⟨roleRun, 20, 63, holderTask 0 1, by decide +kernel, by decide +kernel, by decide +kernel⟩,
   ⟨roleRun, 0, 5, holderPf0, by decide +kernel, by decide +kernel, by decide +kernel⟩,
   ⟨roleRun, 1, 5, holderService, by decide +kernel, by decide +kernel, by decide +kernel, by decide +kernel⟩,
   ⟨roleRun, 0, 5, holderPf0, by decide +kernel, by decide +kernel, by decide +kernel⟩⟩

/-- Each clause of PortsComplete speaks about a state that there is. -/
theorem wit_PortsComplete :
    (∃ (s : State) (p : Nat) (bytes : Bytes) (phyErr : Bool) (fec : Nat × Nat), (s.portOpen p = true) ∧ (bytes.length < 64)) ∧ 
    (∃ (s : State) (p : Nat) (bytes : Bytes) (fec : Nat × Nat), let body := bytes.take (bytes.length - 4); (s.portOpen p = true) ∧ (64 ≤ bytes.length) ∧ (bytes.length ≤ (s.port p).maxFrame) ∧ (u32 bytes (bytes.length - 4) = (fcs body).toNat) ∧ (beAt body 12 2 = 0x8808)) ∧ 
    (∃ (s v : State) (p : Nat) (bytes : Bytes) (hs : List Nat) (fec : Nat × Nat), let body := bytes.take (bytes.length - 4); let u := countEv 1 p 0 1 (wireIn p bytes.length fec s); let q := parse body; let w := countEv 1 p 6 bytes.length v; let vp := w.portVp p; let n := newId w; (s.portOpen p = true) ∧ (64 ≤ bytes.length) ∧ (bytes.length ≤ (s.port p).maxFrame) ∧ (u32 bytes (bytes.length - 4) = (fcs body).toNat) ∧ (beAt body 12 2 ≠ 0x8808) ∧ (macsecArrive u (u.portVp p) body = .pass) ∧ (ingressBuffers bytes (s.port p).maxFrame u = some (hs, false, v)) ∧ (q.ver ≠ 0 → q.total + 4 ≤ bytes.length ∧ bytes.length ≤ max 64 (q.total + 4)) ∧ (q.ether ≠ 0x88CC)) ∧ 
    (∃ (s : State) (p : Nat), let needs := pauseNeeds s p; let sent := needs.foldl (fun l e => if e.2 == 0 then nclr e.1 l else nset e.1 l) (s.port p).xoffSent; (pauseNeeds s p ≠ []) ∧ (s.portUp p = true)) ∧ 
    (∃ (s : State) (p : Nat), let x := s.port p; let due := (x.xoffSent.filter fun e => decide (x.xon.getD e 0 * 1024 < s.entryOcc p e)).map fun e => (e, x.quanta); (due ≠ []) ∧ (s.portUp p = true)) ∧ 
    (∃ (s t : State) (k : Nat) (i : QItem) (f : Frame), let p := k - 0x48; (inR k 0x48 0x4F = true) ∧ (s.portUp p = true) ∧ ((s.port p).park ≤ 1) ∧ ((s.port p).paused = []) ∧ ((s.point k).serving = []) ∧ (popItem k [] s = some (i, t)) ∧ (i.job = .send f) ∧ (t.aggOf p = none) ∧ ((sendMac p f.bytes false (cadRelease f.bufs t)).aggOf p = none)) ∧ 
    (∃ (s : State) (p fec : Nat) (pause eee : Bool), ((s.port p).st = 2) ∧ ((s.port p).an = true)) ∧ 
    (∃ (s : State) (p result fec : Nat) (pause eee : Bool), ((s.port p).st = 2) ∧ ((s.port p).an = true) ∧ (result ≠ 0)) ∧ 
    (∃ (s : State) (p : Nat), ((s.port p).an = true) ∧ ((s.port p).st = 1) ∧ (s.macsOpen = true) ∧ (s.lat.ho.held = false)) ∧ 
    (∃ (s : State) (p : Nat), ((s.port p).st ≠ 0) ∧ ((s.port p).st ≠ 5) ∧ (s.macsOpen = true) ∧ (s.lat.ho.held = false)) ∧ 
    (∃ (s : State) (p : Nat), ((s.port p).st ≠ 0) ∧ ((s.port p).st ≠ 5) ∧ (s.macsOpen = true) ∧ (s.lat.ho.held = false) ∧ ((s.port p).an = false ∨ (s.port p).st ≠ 2)) ∧ 
    (∃ (s : State) (p : Nat), ((s.port p).st ≠ 0) ∧ ((s.port p).st ≠ 5) ∧ (s.macsOpen = true) ∧ (s.lat.ho.held = false)) ∧ 
    (∃ (s : State) (p : Nat), ((s.port p).st ≠ 0) ∧ ((s.port p).st ≠ 5) ∧ (s.macsOpen = true) ∧ (s.lat.ho.held = false)) ∧ 
    (∃ (s : State) (p : Nat), ((s.port p).flags.testBit 1 = true) ∧ (s.portUp p = true) ∧ (s.macsOpen = true)) ∧ 
    (∃ (s t : State) (p : Packet), let b := p.params; let m := u8 b 0; let u := modLat (fun x => { x with ho := { x.ho with held := false } }) (applyMode b (portsDown 4 t)); (Given 0x0501 p s t) ∧ (p.params.length = 72) ∧ ((portCfgFields p.params).all (·.2) = true) ∧ ((List.range 4).any (fun a => (t.agg a).on) = false) ∧ ((((List.range (modePorts m)).filter fun q => u8 b (8 + 8 * q) != 0).map (modeLanes m)).flatten.find? (fun l => t.domLost (50 + l) || t.domLost (46 + l / 2)) = none)) ∧ 
    (∃ (s t : State) (p : Packet), (Given 0x0502 p s t) ∧ (p.params.length = 0)) ∧ 
    (∃ (s t : State) (p : Packet), let b := p.params; let q := u8 b 0; let m := u8 b 1; let row := fun o => (List.range 8).map fun c => u16 b (o + 4 * c); (Given 0x0503 p s t) ∧ (p.params.length = 40) ∧ (q < modePorts t.net.mode) ∧ (m ≤ 2) ∧ (m = 2 ∨ (u8 b 2 = 0 ∧ u8 b 3 = 0)) ∧ (1 ≤ u16 b 4) ∧ ((List.range 8).all (fun c => decide (16 ≤ u16 b (8 + 4 * c)) && decide (u16 b (10 + 4 * c) < u16 b (8 + 4 * c))) = true) ∧ ((t.port q).xoffSent = [])) :=
  ⟨⟨portRun, 7, zeros 63, true, (3, 1), by decide +kernel, by decide +kernel⟩,
   ⟨portRun, 7, pauseWire, (0, 0), by decide +kernel, by decide +kernel, by decide +kernel, by decide +kernel, by decide +kernel⟩,
   ⟨lastBuf, tookLast, 7, plainWire, [0], (2, 0), by decide +kernel, by decide +kernel, by decide +kernel, by decide +kernel, by decide +kernel, by decide +kernel, took_last, by decide +kernel, by decide +kernel⟩,
   ⟨modPort 7 (fun x => { x with pause := 2, txMask := 255, xoffSent := [3] }) portRun, 7, by decide +kernel, by decide +kernel⟩,
   ⟨crowded, 7, by decide +kernel, by decide +kernel⟩,
   ⟨outgoing, ((popItem 0x4F [] outgoing).getD (anItem, {})).2, 0x4F, sendItem, outFrame, by decide +kernel, by decide +kernel, by decide +kernel, by decide +kernel, by decide +kernel, by decide +kernel, by decide +kernel, by decide +kernel, by decide +kernel⟩,
   ⟨modPort 7 (fun x => { x with st := 2, an := true }) portRun, 7, 1, true, true, by decide +kernel, by decide +kernel⟩,
   ⟨modPort 7 (fun x => { x with st := 2, an := true }) portRun, 7, 3, 1, true, true, by decide +kernel, by decide +kernel, by decide +kernel⟩,
   ⟨modPort 7 (fun x => { x with st := 1, an := true }) portRun, 7, by decide +kernel, by decide +kernel, by decide +kernel, by decide +kernel⟩,
   ⟨portRun, 7, by decide +kernel, by decide +kernel, by decide +kernel, by decide +kernel⟩,
   ⟨portRun, 7, by decide +kernel, by decide +kernel, by decide +kernel, by decide +kernel, by decide +kernel⟩,
   ⟨portRun, 7, by decide +kernel, by decide +kernel, by decide +kernel, by decide +kernel⟩,
   ⟨portRun, 7, by decide +kernel, by decide +kernel, by decide +kernel, by decide +kernel⟩,
   ⟨portRun, 7, by decide +kernel, by decide +kernel, by decide +kernel⟩,
   ⟨(given 0x0501 ([0, 0, 0, 0, 0, 0, 0, 0] ++ zeros 64) (run)), run, pkt 0x0501 ([0, 0, 0, 0, 0, 0, 0, 0] ++ zeros 64), ⟨rfl, rfl, rfl, rfl⟩, by decide +kernel, by decide +kernel, by decide +kernel, by decide +kernel⟩,
   ⟨(given 0x0502 [] (portRun)), portRun, pkt 0x0502 [], ⟨rfl, rfl, rfl, rfl⟩, by decide +kernel⟩,
   ⟨(given 0x0503 ([7, 2, 255, 255, 1, 0, 0, 0] ++ (List.replicate 8 [16, 0, 15, 0]).flatten) (portRun)), portRun, pkt 0x0503 ([7, 2, 255, 255, 1, 0, 0, 0] ++ (List.replicate 8 [16, 0, 15, 0]).flatten), ⟨rfl, rfl, rfl, rfl⟩, by decide +kernel, by decide +kernel, by decide +kernel, by decide +kernel, by decide +kernel, by decide +kernel, by decide +kernel⟩⟩

/-- Each clause of AggregatesComplete speaks about a state that there is. -/
theorem wit_AggregatesComplete :
    (∃ (s : State) (p a : Nat) (pdu : Bytes), let info := (slice pdu 18 15 ++ zeros 15).take 15; let ps := u8 info 14; let u := modPort p (fun x => { x with partner := ps, partnerInfo := info }) s; let away := (u.port p).park == 3; let act := actorState (u.agg a).fast true (ps.testBit 3 && !away) (ps.testBit 3 && ps.testBit 4 && !away && (u.port p).park != 1 && (u.port p).park != 2); (s.aggOf p = some a) ∧ (s.portOpen p = true)) ∧ 
    (∃ (s : State) (p a : Nat), (s.aggOf p = some a) ∧ (s.portOpen p = true)) ∧ 
    (∃ (s : State) (a : Nat), let u := forEach (s.agg a).members (fun p s => modPort p (fun x => { x with winTx := 0, winRx := 0 }) s) s; ((s.agg a).on = false ∨ (s.agg a).parkEn = false ∨ s.lat.bound.contains a = true ∨ s.pmc.st ≠ .trim ∨ s.pmc.trans.isSome = true)) ∧ 
    (∃ (s : State) (a p : Nat), let g := s.agg a; let act := s.activeMembers a; let u := forEach g.members (fun p s => modPort p (fun x => { x with winTx := 0, winRx := 0 }) s) s; (g.on = true) ∧ (g.parkEn = true) ∧ (s.lat.bound.contains a = false) ∧ (s.pmc.st = .trim) ∧ (s.pmc.trans = none) ∧ ((s.agg a).members.all (fun p => (s.port p).winTx == 0 && (s.port p).winRx == 0) = true) ∧ (u.pmc = s.pmc) ∧ (u.lat = s.lat) ∧ (1 ≤ g.wakePct) ∧ (1 ≤ modeRate s.net.mode) ∧ (1 ≤ g.parkPct) ∧ (1 ≤ g.minActive) ∧ (g.minActive < act.length) ∧ (act.any (fun p => decide (g.wakeQueue * 1024 < (s.point (0x48 + p)).queued none)) = false) ∧ (g.members.any (fun p => (s.port p).park == 1 || (s.port p).park == 3) = false) ∧ (g.holdMs ≤ g.calm + 1) ∧ ((act.filter fun p => (u.parkable a).contains p).getLast? = some p)) ∧ 
    (∃ (s : State) (p a : Nat), let x := s.port p; let lpi := typeLpi x.type && (s.agg a).lpi && x.wakeTime.isSome; let u := logEvent 9 0x8004 (detail [(16, 1, a), (17, 1, p), (18, 1, 1)]) s; let v := releaseHeld a (modPort p (fun x => { x with park := 3 }) u); (s.aggOf p = some a) ∧ (x.park = 1) ∧ ((s.point (0x48 + p)).queue = []) ∧ ((s.point (0x48 + p)).serving = []) ∧ (lpi = false)) ∧ 
    (∃ (s : State) (p a : Nat), let x := s.port p; let lpi := typeLpi x.type && (s.agg a).lpi && x.wakeTime.isSome; let u := logEvent 9 0x8004 (detail [(16, 1, a), (17, 1, p), (18, 1, 0)]) s; let v := releaseHeld a (modPort p (fun x => { x with park := 2 }) u); (s.aggOf p = some a) ∧ (x.park = 1) ∧ ((s.point (0x48 + p)).queue = []) ∧ ((s.point (0x48 + p)).serving = []) ∧ (lpi = true)) ∧ 
    (∃ (s : State) (p : Nat), let u := setPort p 1 6 (modPort p (fun x => { x with park := 4 }) s); let v := powerDomains (u.laneDomains p) false 3 u; ((s.port p).park = 3)) ∧ 
    (∃ (s : State) (p a : Nat), let u := modPort p (fun x => { x with park := 0, actor := actorState (s.agg a).fast true true true }) s; (s.aggOf p = some a) ∧ (inR (s.port p).park 5 6 = true) ∧ (s.macsOpen = true) ∧ ((s.port p).st = 3)) ∧ 
    (∃ (s : State) (p a : Nat), let u := logEvent 9 0x8006 (detail [(16, 1, a), (17, 1, p), (18, 1, b2n (s.port p).deep)]) (modPort p (fun x => { x with park := 6 }) s); (s.aggOf p = some a) ∧ ((s.port p).park = 5) ∧ ((u.parkable a).find? (fun q => (u.port q).parking) = none)) ∧ 
    (∃ (s : State) (p a q : Nat), let u := logEvent 9 0x8006 (detail [(16, 1, a), (17, 1, p), (18, 1, b2n (s.port p).deep)]) (modPort p (fun x => { x with park := 6 }) s); (s.aggOf p = some a) ∧ ((s.port p).park = 5) ∧ ((u.parkable a).find? (fun q => (u.port q).parking) = some q)) ∧ 
    (∃ (s : State) (p : Nat), ((s.port p).park = 6) ∧ ((s.port p).st ≠ 3) ∧ ((s.port p).st ≠ 5)) ∧ 
    (∃ (s : State) (p : Nat), let u := modPort p (fun x => { x with partnerTw := none }) s; ((s.port p).park ≠ 2) ∧ ((u.port p).park ≠ 2)) ∧ 
    (∃ (s : State) (p : Nat), let u := modPort p (fun x => { x with partnerTw := none }) s; ((u.port p).park = 2)) ∧ 
    (∃ (s t : State) (p : Packet), (Given 0x0504 p s t) ∧ (p.params.length = 20) ∧ (u8 p.params 0 ≤ 3) ∧ (u8 p.params 1 = 2)) ∧ 
    (∃ (s t : State) (p : Packet), let b := p.params; let a := u8 b 0; let ms := bitsSet 8 (u8 b 2); let u := wakeAgg a t; let old := u.agg a; let fl := u8 b 3; let g : Agg := { old with on := true, members := ms, parkEn := fl.testBit 0, fast := fl.testBit 1, lpi := fl.testBit 2, key := u16 b 4, pri := u16 b 6, minActive := u8 b 8, parkPct := u8 b 9, wakePct := u8 b 10, holdMs := u16 b 12, wakeQueue := u16 b 14, twExtra := u16 b 16, calm := 0 }; let gone := fun (e : Nat × Nat) => ms.contains (e.2 - 1); let v := modAgg a (fun _ => { g with conv := old.conv.filter gone, alt := old.alt.filter gone }) u; (Given 0x0504 p s t) ∧ (p.params.length = 20) ∧ ((parkFields t p.params).all (·.2) = true) ∧ (u8 p.params 1 = 1) ∧ (ms.findSome? (fun q => (t.aggOf q).filter (· != a)) = none) ∧ ((v.point (0x50 + a)).strict = []) ∧ ((v.point (0x50 + a)).cweight = []) ∧ ((v.point (0x50 + a)).qlimit = none)) :=
  ⟨⟨aggRun, 7, 0, zeros 32 ++ [0x3D], by decide +kernel, by decide +kernel⟩,
   ⟨aggRun, 7, 0, by decide +kernel, by decide +kernel⟩,
   ⟨aggRun, 0, by decide +kernel⟩,
   ⟨calmRun, 0, 7, by decide +kernel, by decide +kernel, by decide +kernel, by decide +kernel, by decide +kernel, by decide +kernel, by decide +kernel, by decide +kernel, by decide +kernel, by decide +kernel, by decide +kernel, by decide +kernel, by decide +kernel, by decide +kernel, by decide +kernel, by decide +kernel, by decide +kernel⟩,
   ⟨modPort 7 (fun x => { x with park := 1 }) aggRun, 7, 0, by decide +kernel, by decide +kernel, by decide +kernel, by decide +kernel, by decide +kernel⟩,
   ⟨modAgg 0 (fun g => { g with lpi := true }) (modPort 7 (fun x => { x with park := 1, eeeAble := true, partnerTw := some 5, type := 0x41 }) aggRun), 7, 0, by decide +kernel, by decide +kernel, by decide +kernel, by decide +kernel, by decide +kernel⟩,
   ⟨modPort 7 (fun x => { x with park := 3 }) aggRun, 7, by decide +kernel⟩,
   ⟨modPort 7 (fun x => { x with park := 6 }) aggRun, 7, 0, by decide +kernel, by decide +kernel, by decide +kernel, by decide +kernel⟩,
   ⟨modPort 7 (fun x => { x with park := 5 }) aggRun, 7, 0, by decide +kernel, by decide +kernel, by decide +kernel⟩,
   ⟨modPort 3 (fun x => { x with park := 2 }) (modPort 7 (fun x => { x with park := 5 }) aggRun), 7, 0, 3, by decide +kernel, by decide +kernel, by decide +kernel⟩,
   ⟨modPort 7 (fun x => { x with park := 6, st := 4 }) aggRun, 7, by decide +kernel, by decide +kernel, by decide +kernel⟩,
   ⟨aggRun, 7, by decide +kernel, by decide +kernel⟩,
   ⟨modPort 7 (fun x => { x with park := 2 }) aggRun, 7, by decide +kernel⟩,
   ⟨(given 0x0504 ([0, 2] ++ zeros 18) (aggRun)), aggRun, pkt 0x0504 ([0, 2] ++ zeros 18), ⟨rfl, rfl, rfl, rfl⟩, by decide +kernel, by decide +kernel, by decide +kernel⟩,
   ⟨(given 0x0504 [0, 1, 0x88, 7, 1, 0, 1, 0, 1, 5, 95, 0, 10, 0, 16, 0, 0, 0, 0, 0] (aggRun)), aggRun, pkt 0x0504 [0, 1, 0x88, 7, 1, 0, 1, 0, 1, 5, 95, 0, 10, 0, 16, 0, 0, 0, 0, 0], ⟨rfl, rfl, rfl, rfl⟩, by decide +kernel, by decide +kernel, by decide +kernel, by decide +kernel, by decide +kernel, by decide +kernel, by decide +kernel⟩⟩

/-- Each clause of SwitchComplete speaks about a state that there is. -/
theorem wit_SwitchComplete :
    (∃ (s : State) (id : Nat) (q : InFrame) (x : Found) (inner key : Bytes) (tun : Nat), let f := { q.frame with bytes := inner, tunnel := tun, hash := convHash key, csum := rxCsum inner }; (s.net.inq.find? (fun x => x.frame.id == id && x.found.isNone && x.sealed.isNone) = some q) ∧ (s.sliceOn = true) ∧ (lookupFrame s.net.active q.frame.bytes q.frame.inVp q.frame.tc (s.domLost 45) = .act x inner tun key) ∧ (q.judged = true)) ∧ 
    (∃ (s : State) (id : Nat) (q : InFrame), (s.net.inq.find? (fun x => x.frame.id == id && x.found.isNone && x.sealed.isNone) = some q) ∧ (s.sliceOn = true) ∧ (lookupFrame s.net.active q.frame.bytes q.frame.inVp q.frame.tc (s.domLost 45) = .drop 0 0)) ∧ 
    (∃ (s : State) (id : Nat) (q : InFrame) (x : Found), (s.net.inq.find? (fun x => x.frame.id == id && !x.judged) = some q) ∧ (q.verdict = 0) ∧ (q.sec = none) ∧ (q.sealed = none) ∧ (q.cut = none) ∧ (q.early = []) ∧ (q.found = some x)) ∧ 
    (∃ (s : State) (id : Nat) (q : InFrame), (s.net.inq.find? (fun x => x.frame.id == id && !x.judged) = some q) ∧ (q.verdict = 0) ∧ (q.sec = none) ∧ (q.sealed = none) ∧ (q.cut = none) ∧ (q.early = []) ∧ (q.found = none)) ∧ 
    (∃ (s : State) (id : Nat) (q : InFrame), (s.net.inq.find? (fun x => x.frame.id == id && !x.judged) = some q) ∧ (q.verdict ≠ 0) ∧ (q.sec = none) ∧ (q.sealed = none) ∧ (q.cut = none) ∧ (q.early = [])) ∧ 
    (∃ (s t : State) (p : Packet) (max bytes key : Nat) (v : SwTables), let size := if key == 0 then bytes + 4 else bytes; (Given 0x0510 p s t) ∧ (4 ≤ p.params.length) ∧ (tableShape (u8 p.params 0) = some (max, bytes, key)) ∧ (inR (u8 p.params 1) 1 2 = true) ∧ (u16 p.params 2 ≠ 0) ∧ (p.parts = [p.params.length]) ∧ (p.params.length = 4 + u16 p.params 2 * size) ∧ (putRecords (u8 p.params 0) (u8 p.params 1) size (u16 p.params 2) 0 t.net.shadow (p.params.drop 4) = .ok v)) ∧ 
    (∃ (s t : State) (p : Packet) (max bytes : Nat), (Given 0x0510 p s t) ∧ (p.params.length = 4) ∧ (p.parts = [4]) ∧ (tableShape (u8 p.params 0) = some (max, bytes, 0)) ∧ (u8 p.params 1 = 3) ∧ (u16 p.params 2 = 0) ∧ (t.net.shadow.anyRef (u8 p.params 0) = false)) ∧ 
    (∃ (s t : State) (p : Packet), let u := { t with net := { t.net with active := t.net.shadow, gen := t.net.gen + 1 } }; let n := t.net.active.changes t.net.shadow; let v := logEvent 10 0x8001 (detail [(16, 4, u.net.gen.toNat), (20, 4, n), (24, 2, p.cls * 4096 + p.ident)]) u; (Given 0x0511 p s t) ∧ (p.params.length = 8) ∧ (u8 p.params 4 = 1) ∧ (u32 p.params 0 = 0xFFFFFFFF ∨ u32 p.params 0 = t.net.gen.toNat) ∧ (t.net.active.changes t.net.shadow ≠ 0)) ∧ 
    (∃ (s t : State) (p : Packet), (Given 0x0511 p s t) ∧ (p.params.length = 8) ∧ (u8 p.params 4 = 2) ∧ (u32 p.params 0 = 0xFFFFFFFF ∨ u32 p.params 0 = t.net.gen.toNat)) ∧ 
    (∃ (s t : State) (p : Packet), (Given 0x0511 p s t) ∧ (p.params.length = 8) ∧ (u8 p.params 4 = 1) ∧ (u32 p.params 0 = 0xFFFFFFFF ∨ u32 p.params 0 = t.net.gen.toNat) ∧ (t.net.active.changes t.net.shadow = 0)) ∧ 
    (∃ (s t : State) (p : Packet), let b := p.params; let m : Mirror := { on := (u8 b 1).testBit 0, dest := u8 b 2, ring := u8 b 3, trunc := u16 b 4, tunnel := none, sampleN := u32 b 8 }; (Given 0x0512 p s t) ∧ (p.params.length = 16) ∧ (u8 b 0 ≤ 3) ∧ (isNetVp (u8 b 2) = true) ∧ (u8 b 2 ≠ 0x40) ∧ (u16 b 4 = 0 ∨ inR (u16 b 4) 64 9216 = true) ∧ (u16 b 6 = 0xFFFF) ∧ (inR (u32 b 8) 1 16777216 = true)) :=
  ⟨⟨arrived true 0 none, 5, (arrived true 0 none).net.inq.headD inFrame0, foundOf (arrived true 0 none), innerOf (arrived true 0 none), keyOf (arrived true 0 none), 0, by decide +kernel, by decide +kernel, by decide +kernel, by decide +kernel⟩,
   ⟨unswitched, 5, unswitched.net.inq.headD inFrame0, by decide +kernel, by decide +kernel, by decide +kernel⟩,
   ⟨arrived false 0 (some aFound), 5, (arrived false 0 (some aFound)).net.inq.headD inFrame0, aFound, by decide +kernel, by decide +kernel, by decide +kernel, by decide +kernel, by decide +kernel, by decide +kernel, by decide +kernel⟩,
   ⟨arrived false 0 none, 5, (arrived false 0 none).net.inq.headD inFrame0, by decide +kernel, by decide +kernel, by decide +kernel, by decide +kernel, by decide +kernel, by decide +kernel, by decide +kernel⟩,
   ⟨arrived false 1 none, 5, (arrived false 1 none).net.inq.headD inFrame0, by decide +kernel, by decide +kernel, by decide +kernel, by decide +kernel, by decide +kernel, by decide +kernel⟩,
   ⟨(given 0x0510 ([5, 1, 1, 0, 255, 3, 0, 0, 1, 0, 0, 0, 0x4F] ++ List.replicate 31 255) (run)), run, pkt 0x0510 ([5, 1, 1, 0, 255, 3, 0, 0, 1, 0, 0, 0, 0x4F] ++ List.replicate 31 255), 1024, 36, 0, tableWritten, ⟨rfl, rfl, rfl, rfl⟩, by decide +kernel, by decide +kernel, by decide +kernel, by decide +kernel, by decide +kernel, by decide +kernel, rfl⟩,
   ⟨(given 0x0510 [2, 3, 0, 0] (run)), run, pkt 0x0510 [2, 3, 0, 0], 4096, 4, ⟨rfl, rfl, rfl, rfl⟩, by decide +kernel, by decide +kernel, by decide +kernel, by decide +kernel, by decide +kernel, by decide +kernel⟩,
   ⟨(given 0x0511 [255, 255, 255, 255, 1, 0, 0, 0] ({ run with net := { run.net with shadow := { indexed := [(0x200FFF, [1, 2, 3, 4])] } } })), { run with net := { run.net with shadow := { indexed := [(0x200FFF, [1, 2, 3, 4])] } } }, pkt 0x0511 [255, 255, 255, 255, 1, 0, 0, 0], ⟨rfl, rfl, rfl, rfl⟩, by decide +kernel, by decide +kernel, by decide +kernel, by decide +kernel⟩,
   ⟨(given 0x0511 [255, 255, 255, 255, 2, 0, 0, 0] (run)), run, pkt 0x0511 [255, 255, 255, 255, 2, 0, 0, 0], ⟨rfl, rfl, rfl, rfl⟩, by decide +kernel, by decide +kernel, by decide +kernel⟩,
   ⟨(given 0x0511 [0, 0, 0, 0, 1, 0, 0, 0] (run)), run, pkt 0x0511 [0, 0, 0, 0, 1, 0, 0, 0], ⟨rfl, rfl, rfl, rfl⟩, by decide +kernel, by decide +kernel, by decide +kernel, by decide +kernel⟩,
   ⟨(given 0x0512 [3, 1, 0x4F, 0, 64, 0, 255, 255, 0, 0, 0, 1, 0, 0, 0, 0] (run)), run, pkt 0x0512 [3, 1, 0x4F, 0, 64, 0, 255, 255, 0, 0, 0, 1, 0, 0, 0, 0], ⟨rfl, rfl, rfl, rfl⟩, by decide +kernel, by decide +kernel, by decide +kernel, by decide +kernel, by decide +kernel, by decide +kernel, by decide +kernel⟩⟩

/-- Each clause of LatticeLinksComplete speaks about a state that there is. -/
theorem wit_LatticeLinksComplete :
    (∃ (s : State) (link offset : Nat) (bytes : Bytes), (link ≤ 3) ∧ ((s.link link).mode = 1) ∧ (s.isOn 58 = true) ∧ (s.isOn (59 + link) = true)) ∧ 
    (∃ (s : State) (link k : Nat) (g : LatSeg), let x := s.link link; let u := modLink link (fun x => { x with resend := if k + 1 < x.replay.length then some (k + 1) else none, now := { x.now with retx := x.now.retx + 1 } }) s; (link ≤ 3) ∧ (2 ≤ x.st) ∧ (x.resend = some k) ∧ (x.replay[k]? = some g)) ∧ 
    (∃ (s : State) (link : Nat), let x := s.link link; (link ≤ 3) ∧ (4 ≤ x.st) ∧ (x.resend = none) ∧ (x.tx = none) ∧ (x.helloDue = true)) ∧ 
    (∃ (s : State) (link : Nat), let x := s.link link; (link ≤ 3) ∧ (2 ≤ x.st) ∧ (x.mode = 1) ∧ (x.resend = none) ∧ (x.tx = none) ∧ (x.helloDue = false) ∧ (x.st ≠ 5 ∨ (x.ctrlQ = [] ∧ x.dataQ = []))) ∧ 
    (∃ (s : State) (link : Nat), (link ≤ 3) ∧ ((s.link link).mode = 1) ∧ ((s.link link).st = 2)) ∧ 
    (∃ (s : State) (link : Nat), (link ≤ 3) ∧ ((s.link link).mode = 1) ∧ ((s.link link).st = 2)) ∧ 
    (∃ (s : State) (link : Nat), (link ≤ 3) ∧ (inR (s.link link).st 2 4 = true)) ∧ 
    (∃ (s : State) (link : Nat), (link ≤ 3) ∧ ((s.link link).retrain = true)) ∧ 
    (∃ (s : State) (link : Nat), (link ≤ 3) ∧ (4 ≤ (s.link link).st)) ∧ 
    (∃ (s : State) (link : Nat), (link ≤ 3) ∧ ((s.link link).st = 5)) ∧ 
    (∃ (s : State) (link : Nat), (link ≤ 3) ∧ ((s.link link).st = 5) ∧ ((s.link link).replay ≠ []) ∧ ((s.link link).expiries < 7)) ∧ 
    (∃ (s : State) (link : Nat), (link ≤ 3) ∧ ((s.link link).st = 5) ∧ ((s.link link).replay ≠ []) ∧ (7 ≤ (s.link link).expiries)) ∧ 
    (∃ (s : State) (link : Nat), (link ≤ 3) ∧ ((s.link link).now.rx = 0 ∨ (s.link link).st < 4)) ∧ 
    (∃ (s : State) (link : Nat), let x := s.link link; let w := x.now; let u := modLink link (fun x => { x with last := w, now := {} }) s; let v := modLink link (fun x => { x with degraded := true, calm := 0 }) u; (link ≤ 3) ∧ (0 < w.rx) ∧ (x.st = 4) ∧ (x.degraded = false) ∧ (u16 x.block 6 * w.rx ≤ (w.bad + w.fcrc) * 1000000)) ∧ 
    (∃ (s : State) (p l : Nat) (bytes : Bytes), let body := bytes.take (bytes.length - 4); (64 ≤ bytes.length) ∧ (bytes.length ≤ (s.port p).maxFrame) ∧ (u32 bytes (bytes.length - 4) = (fcs body).toNat) ∧ (s.portUp p = true) ∧ (s.dataOn = true) ∧ (s.pmc.trans = none) ∧ (s.tunnelLink p body = some l)) ∧ 
    (∃ (s : State) (link : Nat), (link ≤ 3) ∧ ((s.link link).mode = 2)) ∧ 
    (∃ (s t : State) (l : Nat) (b : Bytes), let src := u16 b 2 % 4096; (takeInbox (fun _ b => u8 b 4 == 1) s = some (l, b, t)) ∧ (t.transportsUp = true) ∧ (t.domLost 58 = false)) :=
  ⟨⟨laneRun 4, 3, 2047, latFrame 0 0 0 0 0 [], by decide +kernel, by decide +kernel, by decide +kernel, by decide +kernel⟩,
   ⟨modLink 3 (fun x => { x with resend := some 0, replay := [⟨50, 4095, 3, [1, 2, 3]⟩] }) (laneRun 5), 3, 0, ⟨50, 4095, 3, [1, 2, 3]⟩, by decide +kernel, by decide +kernel, by decide +kernel, by decide +kernel⟩,
   ⟨modLink 3 (fun x => { x with helloDue := true }) (laneRun 4), 3, by decide +kernel, by decide +kernel, by decide +kernel, by decide +kernel, by decide +kernel⟩,
   ⟨laneRun 5, 3, by decide +kernel, by decide +kernel, by decide +kernel, by decide +kernel, by decide +kernel, by decide +kernel, by decide +kernel⟩,
   ⟨laneRun 2, 3, by decide +kernel, by decide +kernel, by decide +kernel⟩,
   ⟨laneRun 2, 3, by decide +kernel, by decide +kernel, by decide +kernel⟩,
   ⟨laneRun 4, 3, by decide +kernel, by decide +kernel⟩,
   ⟨modLink 3 (fun x => { x with retrain := true }) (laneRun 1), 3, by decide +kernel, by decide +kernel⟩,
   ⟨laneRun 4, 3, by decide +kernel, by decide +kernel⟩,
   ⟨laneRun 5, 3, by decide +kernel, by decide +kernel⟩,
   ⟨modLink 3 (fun x => { x with replay := [⟨50, 4095, 3, [1, 2, 3]⟩], expiries := 6 }) (laneRun 5), 3, by decide +kernel, by decide +kernel, by decide +kernel, by decide +kernel⟩,
   ⟨modLink 3 (fun x => { x with replay := [⟨50, 4095, 3, [1, 2, 3]⟩], expiries := 7 }) (laneRun 5), 3, by decide +kernel, by decide +kernel, by decide +kernel, by decide +kernel⟩,
   ⟨laneRun 5, 3, by decide +kernel, by decide +kernel⟩,
   ⟨modLink 3 (fun x => { x with now := { rx := 1000000, bad := 9, fcrc := 1 } }) (laneRun 4), 3, by decide +kernel, by decide +kernel, by decide +kernel, by decide +kernel, by decide +kernel⟩,
   ⟨tunnelRun, 7, 2, tunnelWire, by decide +kernel, by decide +kernel, by decide +kernel, by decide +kernel, by decide +kernel, by decide +kernel, by decide +kernel⟩,
   ⟨tunnelRun, 2, by decide +kernel, by decide +kernel⟩,
   ⟨inboxed 1, (takeAll (inboxed 1)), 3, inboxCar 1, by decide +kernel, by decide +kernel, by decide +kernel⟩⟩

/-- Each clause of LatticeRoutesComplete speaks about a state that there is. -/
theorem wit_LatticeRoutesComplete :
    (∃ (s t : State) (l : Nat) (b : Bytes), (takeInbox (fun _ b => u8 b 4 == 0x10) s = some (l, b, t)) ∧ (t.domLost 58 = false)) ∧ 
    (∃ (s : State), let u := modLat (fun x => { x with seq := (x.seq + 1) % 2 ^ 32, lsaDue := false, lsaAt := some s.us }) s; (s.transportsUp = true) ∧ (s.isOn 58 = true) ∧ (s.lat.lsaAt = none)) ∧ 
    (∃ (s : State) (serial : Nat), (serial ≠ s.ownSerial)) ∧ 
    (∃ (s : State), (s.lat.vst = 1)) ∧ 
    (∃ (s t : State) (p : Packet), let x := t.lat; (Given 0x0B01 p s t) ∧ (p.params.length = 0)) ∧ 
    (∃ (s t : State) (p : Packet), let u := modLat (fun x => { x with mode := 1, fixed := u16 p.params 2, alias_ := 0 }) t; (Given 0x0B02 p s t) ∧ (p.params.length = 4) ∧ (u8 p.params 0 = 1) ∧ (u8 p.params 1 = 1) ∧ (inR (u16 p.params 2) 1 4095 = true) ∧ (t.lat.mode ≠ 1 ∨ u16 p.params 2 ≠ t.lat.fixed)) ∧ 
    (∃ (s t : State) (p : Packet), (Given 0x0B02 p s t) ∧ (p.params.length = 32) ∧ (u8 p.params 0 = 2) ∧ ((linkFields t p.params).all (·.2) = true)) ∧ 
    (∃ (s t : State) (p : Packet), let b := p.params; (Given 0x0B03 p s t) ∧ (p.params.length = 80) ∧ (u8 p.params 0 = 1) ∧ (1 ≤ u8 b 1) ∧ (inR (u8 b 3) 2 8 = true) ∧ (u16 b 4 = 0xFFFF) ∧ ((u8 b 6).testBit 0 = false) ∧ (serialsBad b = none) ∧ ((List.range (u8 b 3)).any (fun i => u64 b (16 + 8 * i) == t.ownSerial) = true) ∧ (t.lat.stackId = 0 ∨ t.lat.stackId = u8 b 1)) ∧ 
    (∃ (s t : State) (p : Packet), (Given 0x0B03 p s t) ∧ (p.params.length = 8) ∧ (u8 p.params 0 = 2) ∧ (u8 p.params 1 ≤ 3) ∧ (u8 p.params 2 = 1) ∧ ((t.agg (u8 p.params 1)).on = true) ∧ (t.lat.stack ≠ [])) ∧ 
    (∃ (s t : State) (p : Packet), (Given 0x0B03 p s t) ∧ (p.params.length = 8) ∧ (u8 p.params 0 = 2) ∧ (u8 p.params 1 ≤ 3) ∧ (u8 p.params 2 = 2)) ∧ 
    (∃ (s t : State) (p : Packet), (Given 0x0B04 p s t) ∧ (p.params.length = 4) ∧ (u8 p.params 0 = 0xA5)) :=
  ⟨⟨inboxed 16, (takeAll (inboxed 16)), 3, inboxCar 16, by decide +kernel, by decide +kernel⟩,
   ⟨laneRun 5, by decide +kernel, by decide +kernel, by decide +kernel⟩,
   ⟨laneRun 5, 9, by decide +kernel⟩,
   ⟨claimed, by decide +kernel⟩,
   ⟨(given 0x0B01 [] ((laneRun 5))), (laneRun 5), pkt 0x0B01 [], ⟨rfl, rfl, rfl, rfl⟩, by decide +kernel⟩,
   ⟨(given 0x0B02 [1, 1, 255, 15] ((laneRun 5))), (laneRun 5), pkt 0x0B02 [1, 1, 255, 15], ⟨rfl, rfl, rfl, rfl⟩, by decide +kernel, by decide +kernel, by decide +kernel, by decide +kernel, by decide +kernel⟩,
   ⟨(given 0x0B02 ([2, 0, 0, 0] ++ [3, 1, 10, 4, 10, 0, 10, 0, 0x10, 0x27, 0, 4, 0x88, 0xB5, 0x0F, 0xFF, 0, 0, 0, 0, 0, 0, 5, 0] ++ [1, 0, 0, 0]) (run)), run, pkt 0x0B02 ([2, 0, 0, 0] ++ [3, 1, 10, 4, 10, 0, 10, 0, 0x10, 0x27, 0, 4, 0x88, 0xB5, 0x0F, 0xFF, 0, 0, 0, 0, 0, 0, 5, 0] ++ [1, 0, 0, 0]), ⟨rfl, rfl, rfl, rfl⟩, by decide +kernel, by decide +kernel, by decide +kernel⟩,
   ⟨(given 0x0B03 stackBytes (numbered)), numbered, pkt 0x0B03 stackBytes, ⟨rfl, rfl, rfl, rfl⟩, by decide +kernel, by decide +kernel, by decide +kernel, by decide +kernel, by decide +kernel, by decide +kernel, by decide +kernel, by decide +kernel, by decide +kernel⟩,
   ⟨(given 0x0B03 [2, 0, 1, 0, 0, 0, 0, 0] ({ aggRun with lat := { stack := stackBytes } })), { aggRun with lat := { stack := stackBytes } }, pkt 0x0B03 [2, 0, 1, 0, 0, 0, 0, 0], ⟨rfl, rfl, rfl, rfl⟩, by decide +kernel, by decide +kernel, by decide +kernel, by decide +kernel, by decide +kernel, by decide +kernel⟩,
   ⟨(given 0x0B03 [2, 3, 2, 0, 0, 0, 0, 0] (run)), run, pkt 0x0B03 [2, 3, 2, 0, 0, 0, 0, 0], ⟨rfl, rfl, rfl, rfl⟩, by decide +kernel, by decide +kernel, by decide +kernel, by decide +kernel⟩,
   ⟨(given 0x0B04 [0xA5, 0, 0, 0] ({ aggRun with lat := { stack := stackBytes } })), { aggRun with lat := { stack := stackBytes } }, pkt 0x0B04 [0xA5, 0, 0, 0], ⟨rfl, rfl, rfl, rfl⟩, by decide +kernel, by decide +kernel⟩⟩

/-- Each clause of HandoverComplete speaks about a state that there is. -/
theorem wit_HandoverComplete :
    (∃ (s t : State) (link l : Nat) (b : Bytes) (msg : HoMsg), (takeInbox (fun l b => l == link && (u8 b 4 == 0x14 || u8 b 4 == 0x15)) s = some (l, b, t)) ∧ (t.latUp link = true)) ∧ 
    (∃ (s : State) (link : Nat), (takeInbox (fun l b => l == link && (u8 b 4 == 0x14 || u8 b 4 == 0x15)) s = none) ∧ (s.latUp link = true) ∧ (s.lat.ho.link = link) ∧ (s.lat.ho.source = true) ∧ (s.lat.ho.phase = 1)) ∧ 
    (∃ (s : State), let states := (List.range 16).map fun t => (s.tenant t).state; let u := forEach (List.range 16) (fun t s => if (s.tenant t).state == 1 then setTenantState t 2 s else s) s; (s.lat.ho.source = true) ∧ (s.lat.ho.phase = 1) ∧ (s.lat.ho.ready = true)) ∧ 
    (∃ (s : State), let left := fun f => s.rings.foldl (fun n x => if x.2.fn == f then n + x.2.work.length else n) 0; let n := s.boundVfs.foldl (fun n f => n + left f) 0; let r := freeNat (2 ^ 32) (forEach s.boundVfs (fun f s => failWorkOf f stAborted s) s); (s.lat.ho.source = true) ∧ (s.lat.ho.phase = 2) ∧ (s.lat.ho.sent = false)) ∧ 
    (∃ (s : State), (s.lat.ho.source = true) ∧ (s.lat.ho.phase = 2) ∧ (s.lat.ho.applied = false)) ∧ 
    (∃ (s : State) (f : HoFinal), let h := s.lat.ho; let a := forEach f.states.zipIdx (fun x s => if x.1 = 3 then s else setTenantState x.2 x.1 s) s; let b := forEach f.tenantTokens (fun x s => modTenant x.1 (fun t => { t with tokens := x.2, tokensAt := s.us }) s) a; let c := forEach f.vfTokens (fun x s => modVf x.1 (fun v => { v with tokens := x.2, tokensAt := s.us }) s) b; let taken := f.conns.filter fun e => ((c.ringAt e.2.1 (u8 e.2.2 6)).any fun r => r.2.cls == 4) && c.connEngine.isSome; let d := forEach taken (fun c s => modSto (fun x => { x with conns := tins c.1 (freshConn c.2.1 (s.connEngine.getD 0) c.2.2) x.conns }) s) c; let e := lsaDue (modLat (fun x => { x with alias_ := h.peer }) (modSto (fun x => { x with scrubs := f.scrubs }) d)); (h.final = some f) ∧ (h.source = false) ∧ (h.phase = 2)) ∧ 
    (∃ (s : State), let a := closeConns (fun _ _ => true) (modHo (fun h => { h with phase := 4, held := true }) s); let b := forEach (List.range 16) (fun t s => setTenantState t 3 s) a; let c := forEach b.boundVfs (fun f s => unbindVf f ((s.vf f).tenant.getD 0) s) b; let r := freeNat 6 c; let e := modHo (fun h => { h with phase := 5 }) (hoSend .released (hoRecord false (portsDown r.1 r.2))); (s.lat.ho.source = true) ∧ (s.lat.ho.phase = 3)) ∧ 
    (∃ (s t : State) (p : Packet), (Given 0x0B05 p s t) ∧ (p.params.length = 8) ∧ (u8 p.params 0 = 1) ∧ (u8 p.params 1 = 0xA5) ∧ (inR (u16 p.params 2) 1 4095 = true)) ∧ 
    (∃ (s t : State) (p : Packet), (Given 0x0B05 p s t) ∧ (p.params.length = 8) ∧ (u8 p.params 0 = 2) ∧ (inR t.lat.ho.phase 3 5 = false)) ∧ 
    (∃ (s t : State) (p : Packet), (Given 0x0B05 p s t) ∧ (p.params.length = 8) ∧ (u8 p.params 0 = 3)) :=
  ⟨⟨inboxed 20, (takeAll (inboxed 20)), 3, 3, inboxCar 20, .ready, by decide +kernel, by decide +kernel⟩,
   ⟨handing 1, 3, by decide +kernel, by decide +kernel, by decide +kernel, by decide +kernel, by decide +kernel⟩,
   ⟨modHo (fun h => { h with ready := true }) (handing 1), by decide +kernel, by decide +kernel, by decide +kernel⟩,
   ⟨handing 2, by decide +kernel, by decide +kernel, by decide +kernel⟩,
   ⟨handing 2, by decide +kernel, by decide +kernel, by decide +kernel⟩,
   ⟨switching, aFinal, by decide +kernel, by decide +kernel, by decide +kernel⟩,
   ⟨handing 3, by decide +kernel, by decide +kernel⟩,
   ⟨(given 0x0B05 [1, 0xA5, 255, 15, 0, 0, 0, 0] (run)), run, pkt 0x0B05 [1, 0xA5, 255, 15, 0, 0, 0, 0], ⟨rfl, rfl, rfl, rfl⟩, by decide +kernel, by decide +kernel, by decide +kernel, by decide +kernel⟩,
   ⟨(given 0x0B05 [2, 0, 0, 0, 0, 0, 0, 0] ((handing 2))), (handing 2), pkt 0x0B05 [2, 0, 0, 0, 0, 0, 0, 0], ⟨rfl, rfl, rfl, rfl⟩, by decide +kernel, by decide +kernel, by decide +kernel⟩,
   ⟨(given 0x0B05 [3, 0, 0, 0, 0, 0, 0, 0] ((handing 2))), (handing 2), pkt 0x0B05 [3, 0, 0, 0, 0, 0, 0, 0], ⟨rfl, rfl, rfl, rfl⟩, by decide +kernel, by decide +kernel⟩⟩

/-- Each clause of LabelReadsComplete speaks about a state that there is. -/
theorem wit_LabelReadsComplete :
    (∃ (s : State) (req : Bytes) (q : FieldReq), let len := u8 q.args 0; (Asked req q s) ∧ (q.code = 0x01) ∧ (q.flags.testBit 4 = false) ∧ (q.args.length = 1 + ceilDiv len 8) ∧ (len ≤ 64) ∧ (leAt (q.args.drop 1) 0 (ceilDiv len 8) % 2 ^ len = u64 s.lblUid 0 % 2 ^ len)) ∧ 
    (∃ (s : State) (req : Bytes) (q : FieldReq), (Asked req q s) ∧ (q.code = 0x02) ∧ (q.flags.testBit 5 = true)) ∧ 
    (∃ (s : State) (req : Bytes) (q : FieldReq), (Asked req q s) ∧ (q.code = 0x25) ∧ (q.flags.testBit 5 = true)) ∧ 
    (∃ (s : State) (req : Bytes) (q : FieldReq), (Asked req q s) ∧ (q.code = 0x26)) ∧ 
    (∃ (s : State) (req : Bytes) (busy : Nat) (q : FieldReq), let b := leAt q.args 0 1; let n := 1; let u := modLbl (fun x => { x with fieldEnd := s.us + busy }) s; (Asked req q s) ∧ (q.code = 0x20) ∧ (q.args.length = 1) ∧ (b + n ≤ 256) ∧ (s.lblWriting = false)) ∧ 
    (∃ (s : State) (req : Bytes) (busy : Nat) (q : FieldReq), let b := leAt q.args 0 1; let n := leAt q.args 1 1 + 1; let u := modLbl (fun x => { x with fieldEnd := s.us + busy }) s; (Asked req q s) ∧ (q.code = 0x23) ∧ (q.args.length = 2) ∧ (b + n ≤ 256) ∧ (n ≤ 64) ∧ (s.lblWriting = false)) ∧ 
    (∃ (s : State) (req : Bytes) (busy : Nat) (q : FieldReq), let b := leAt q.args 0 2; let n := 1; let u := modLbl (fun x => { x with fieldEnd := s.us + busy }) s; (Asked req q s) ∧ (q.code = 0x30) ∧ (q.args.length = 2) ∧ (b + n ≤ 2048) ∧ (s.lblWriting = false)) ∧ 
    (∃ (s : State) (req : Bytes) (busy : Nat) (q : FieldReq), let b := leAt q.args 0 2; let n := leAt q.args 2 2 + 1; let u := modLbl (fun x => { x with fieldEnd := s.us + busy }) s; (Asked req q s) ∧ (q.code = 0x33) ∧ (q.args.length = 4) ∧ (b + n ≤ 2048) ∧ (n ≤ 64) ∧ (s.lblWriting = false)) ∧ 
    (∃ (s : State) (req : Bytes) (busy : Nat) (q : FieldReq), let b := leAt q.args 0 1; let n := 1; let u := modLbl (fun x => { x with fieldEnd := s.us + min busy 2000 }) s; (Asked req q s) ∧ (q.code = 0x21) ∧ (1 ≤ q.args.length) ∧ (q.args.length = 1 + 4 * n) ∧ (b + n ≤ 256) ∧ (s.lblWriting = false) ∧ ((List.range n).all (fun i => lblOpen (b + i) && !s.lbl.locked.contains (b + i)) = true)) ∧ 
    (∃ (s : State) (req : Bytes) (busy : Nat) (q : FieldReq), let b := leAt q.args 0 1; let n := leAt q.args 1 1 + 1; let u := modLbl (fun x => { x with fieldEnd := s.us + min busy 2000 }) s; (Asked req q s) ∧ (q.code = 0x24) ∧ (2 ≤ q.args.length) ∧ (q.args.length = 2 + 4 * n) ∧ (b + n ≤ 256) ∧ (n ≤ 8) ∧ (s.lblWriting = false) ∧ ((List.range n).all (fun i => lblOpen (b + i) && !s.lbl.locked.contains (b + i)) = true)) ∧ 
    (∃ (s : State) (req : Bytes) (busy : Nat) (q : FieldReq), let b := leAt q.args 0 2; let n := 1; let u := modLbl (fun x => { x with fieldEnd := s.us + min busy 2000 }) s; (Asked req q s) ∧ (q.code = 0x31) ∧ (2 ≤ q.args.length) ∧ (q.args.length = 2 + 4 * n) ∧ (b + n ≤ 2048) ∧ (s.lblWriting = false) ∧ ((List.range n).all (fun i => lblOpen (b + i) && !s.lbl.locked.contains (b + i)) = true)) ∧ 
    (∃ (s : State) (req : Bytes) (busy : Nat) (q : FieldReq), let b := leAt q.args 0 2; let n := leAt q.args 2 2 + 1; let u := modLbl (fun x => { x with fieldEnd := s.us + min busy 2000 }) s; (Asked req q s) ∧ (q.code = 0x34) ∧ (4 ≤ q.args.length) ∧ (q.args.length = 4 + 4 * n) ∧ (b + n ≤ 2048) ∧ (n ≤ 8) ∧ (s.lblWriting = false) ∧ ((List.range n).all (fun i => lblOpen (b + i) && !s.lbl.locked.contains (b + i)) = true)) ∧ 
    (∃ (s : State) (req : Bytes) (busy : Nat) (q : FieldReq), let b := leAt q.args 0 1; let u := modLbl (fun x => { x with fieldEnd := s.us + min busy 2000 }) s; (Asked req q s) ∧ (q.code = 0x22) ∧ (q.args.length = 1) ∧ (b < 256) ∧ (lblOpen b = true) ∧ (s.lbl.locked.contains b = false) ∧ (s.lblWriting = false)) ∧ 
    (∃ (s : State) (req : Bytes) (busy : Nat) (q : FieldReq), let b := leAt q.args 0 2; let u := modLbl (fun x => { x with fieldEnd := s.us + min busy 2000 }) s; (Asked req q s) ∧ (q.code = 0x32) ∧ (q.args.length = 2) ∧ (b < 2048) ∧ (lblOpen b = true) ∧ (s.lbl.locked.contains b = false) ∧ (s.lblWriting = false)) ∧ 
    (∃ (s : State) (req : Bytes) (busy : Nat) (q : FieldReq), let b := u8 q.args 0; let n := u8 q.args 1 + 1; let u := modLbl (fun x => { x with fieldEnd := s.us + busy }) s; (Asked req q s) ∧ (q.code = 0x2C) ∧ (q.args.length = 2) ∧ (b + n ≤ 256) ∧ (s.lblWriting = false)) ∧ 
    (∃ (s : State) (req : Bytes) (q : FieldReq), (Asked req q s) ∧ (q.code = 0x2B) ∧ (q.args = [])) ∧ 
    (∃ (s : State) (req : Bytes) (busy : Nat) (q : FieldReq), let ask := u8 q.args 0 % 8; (Asked req q s) ∧ (q.code = 0x3B) ∧ (q.args.length = 1)) ∧ 
    (∃ (s : State) (req : Bytes) (busy : Nat) (q : FieldReq), let b := leAt q.args 0 2; let n := leAt q.args 2 2 + 1; let u := modLbl (fun x => { x with fieldEnd := s.us + busy }) s; (Asked req q s) ∧ (q.code = 0x3C) ∧ (q.args.length = 4) ∧ (b + n ≤ 2048) ∧ (s.lblWriting = false)) ∧ 
    (∃ (s : State) (req : Bytes) (q : FieldReq), (Asked req q s) ∧ (fieldCode q.code = false)) ∧ 
    (∃ (s : State) (req : Bytes) (busy : Nat) (q : FieldReq), (Asked req q s) ∧ (q.code = 0x20) ∧ (q.args.length = 1) ∧ (s.lblWriting = true)) :=
  ⟨⟨run, asReq 6 0x01 [8, 0], ⟨6, 0x01, [8, 0]⟩, by unfold Asked; decide +kernel, by decide +kernel, by decide +kernel, by decide +kernel, by decide +kernel, by decide +kernel⟩,
   ⟨run, asReq 34 0x02 [], ⟨34, 0x02, []⟩, by unfold Asked; decide +kernel, by decide +kernel, by decide +kernel⟩,
   ⟨run, asReq 34 0x25 [], ⟨34, 0x25, []⟩, by unfold Asked; decide +kernel, by decide +kernel, by decide +kernel⟩,
   ⟨run, asReq 2 0x26 [], ⟨2, 0x26, []⟩, by unfold Asked; decide +kernel, by decide +kernel⟩,
   ⟨run, asReq 2 0x20 [255], 300, ⟨2, 0x20, [255]⟩, by unfold Asked; decide +kernel, by decide +kernel, by decide +kernel, by decide +kernel, by decide +kernel⟩,
   ⟨run, asReq 2 0x23 [192, 63], 300, ⟨2, 0x23, [192, 63]⟩, by unfold Asked; decide +kernel, by decide +kernel, by decide +kernel, by decide +kernel, by decide +kernel, by decide +kernel⟩,
   ⟨run, asReq 2 0x30 [255, 7], 300, ⟨2, 0x30, [255, 7]⟩, by unfold Asked; decide +kernel, by decide +kernel, by decide +kernel, by decide +kernel, by decide +kernel⟩,
   ⟨run, asReq 2 0x33 [192, 7, 63, 0], 300, ⟨2, 0x33, [192, 7, 63, 0]⟩, by unfold Asked; decide +kernel, by decide +kernel, by decide +kernel, by decide +kernel, by decide +kernel, by decide +kernel⟩,
   ⟨run, asReq 2 0x21 ([255, 1, 2, 3, 4]), 300, ⟨2, 0x21, ([255, 1, 2, 3, 4])⟩, by unfold Asked; decide +kernel, by decide +kernel, by decide +kernel, by decide +kernel, by decide +kernel, by decide +kernel, by decide +kernel⟩,
   ⟨run, asReq 2 0x24 ([248, 7] ++ List.replicate 32 5), 300, ⟨2, 0x24, ([248, 7] ++ List.replicate 32 5)⟩, by unfold Asked; decide +kernel, by decide +kernel, by decide +kernel, by decide +kernel, by decide +kernel, by decide +kernel, by decide +kernel, by decide +kernel⟩,
   ⟨run, asReq 2 0x31 ([255, 7, 1, 2, 3, 4]), 300, ⟨2, 0x31, ([255, 7, 1, 2, 3, 4])⟩, by unfold Asked; decide +kernel, by decide +kernel, by decide +kernel, by decide +kernel, by decide +kernel, by decide +kernel, by decide +kernel⟩,
   ⟨run, asReq 2 0x34 ([248, 7, 7, 0] ++ List.replicate 32 5), 300, ⟨2, 0x34, ([248, 7, 7, 0] ++ List.replicate 32 5)⟩, by unfold Asked; decide +kernel, by decide +kernel, by decide +kernel, by decide +kernel, by decide +kernel, by decide +kernel, by decide +kernel, by decide +kernel⟩,
   ⟨run, asReq 2 0x22 [255], 300, ⟨2, 0x22, [255]⟩, by unfold Asked; decide +kernel, by decide +kernel, by decide +kernel, by decide +kernel, by decide +kernel, by decide +kernel, by decide +kernel⟩,
   ⟨run, asReq 2 0x32 [255, 7], 300, ⟨2, 0x32, [255, 7]⟩, by unfold Asked; decide +kernel, by decide +kernel, by decide +kernel, by decide +kernel, by decide +kernel, by decide +kernel, by decide +kernel⟩,
   ⟨run, asReq 2 0x2C [192, 63], 300, ⟨2, 0x2C, [192, 63]⟩, by unfold Asked; decide +kernel, by decide +kernel, by decide +kernel, by decide +kernel, by decide +kernel⟩,
   ⟨run, asReq 2 0x2B [], ⟨2, 0x2B, []⟩, by unfold Asked; decide +kernel, by decide +kernel, by decide +kernel⟩,
   ⟨run, asReq 2 0x3B [7], 300, ⟨2, 0x3B, [7]⟩, by unfold Asked; decide +kernel, by decide +kernel, by decide +kernel⟩,
   ⟨run, asReq 2 0x3C [192, 7, 63, 0], 300, ⟨2, 0x3C, [192, 7, 63, 0]⟩, by unfold Asked; decide +kernel, by decide +kernel, by decide +kernel, by decide +kernel, by decide +kernel⟩,
   ⟨run, asReq 2 0x9F [], ⟨2, 0x9F, []⟩, by unfold Asked; decide +kernel, by decide +kernel⟩,
   ⟨{ run with lbl := { jobs := [{ use := .ident, addr := 2048, running := true }] } }, asReq 2 0x20 [255], 300, ⟨2, 0x20, [255]⟩, by unfold Asked; decide +kernel, by decide +kernel, by decide +kernel, by decide +kernel⟩⟩

/-- Each clause of LabelDeviceComplete speaks about a state that there is. -/
theorem wit_LabelDeviceComplete :
    (∃ (s : State) (req : Bytes) (busy : Nat) (q : FieldReq), let p := q.args; let u := modLbl (fun x => { x with fieldEnd := s.us + min busy 2000 }) s; (Asked req q s) ∧ (q.code = 0xA0) ∧ (inR p.length 20 64 = true) ∧ (p.length % 4 = 0) ∧ (u16 p 8 = 0x6000) ∧ (s.transportsUp = true) ∧ (s.lblOn = true) ∧ (s.lblWriting = false) ∧ (u8 (u.lbl.mem.readN 4352 1) 0 ≠ 1)) ∧ 
    (∃ (s : State) (req : Bytes) (q : FieldReq), (Asked req q s) ∧ (q.code = 0xA1) ∧ (q.args.length = 4) ∧ (u32 q.args 0 = s.lblWakeCode) ∧ (s.lbl.barred ≤ s.us) ∧ (s.pmc.st = .shelf) ∧ (s.aon.wakeMask.testBit 3 = true)) ∧ 
    (∃ (s : State) (req : Bytes) (q : FieldReq), let w := s.lbl.wrong.filter (fun t => decide (s.us < t + 60000000)) ++ [s.us]; (Asked req q s) ∧ (q.code = 0xA1) ∧ (q.args.length = 4) ∧ (u32 q.args 0 ≠ s.lblWakeCode) ∧ (s.lbl.barred ≤ s.us) ∧ (s.pmc.st ≠ .off)) ∧ 
    (∃ (s : State) (core : Nat), let x := s.lbl; let u := modLbl (fun x => { x with done := false, status := 0 }) s; (x.done = true) ∧ (inR x.count 1 64 = true) ∧ (x.block + x.count ≤ 2048)) ∧ 
    (∃ (s : State) (core : Nat), let x := s.lbl; let u := modLbl (fun x => { x with done := false, status := 0 }) s; (x.done = true) ∧ (inR x.count 1 64 = true) ∧ (x.block + x.count ≤ 2048) ∧ (((List.range x.count).map (x.block + ·)).all (fun b => lblOpen b && !x.locked.contains b) = true)) ∧ 
    (∃ (s : State) (core : Nat), let x := s.lbl; (x.done = true) ∧ (inR x.count 1 64 = true) ∧ (x.block + x.count ≤ 2048) ∧ (((List.range x.count).map (x.block + ·)).all (fun b => lblOpen b && !x.locked.contains b) = false)) ∧ 
    (∃ (s : State) (j : LblJob) (rest : List LblJob) (core t : Nat), let u := logEvent 24 0x8003 (detail [(16, 1, core), (18, 2, j.addr / 4)]) s; (s.lbl.jobs = j :: rest) ∧ (j.running = false) ∧ (j.since = some t) ∧ (j.use = .warden core)) ∧ 
    (∃ (s : State) (j : LblJob) (rest : List LblJob), (s.lbl.jobs = j :: rest) ∧ (j.running = true)) ∧ 
    (∃ (s : State) (t : Nat), let u := logEvent 24 0x8002 (detail [(16, 1, s.lbl.mirrored)]) (modLbl (fun x => { x with jobs := [] }) s); (s.lbl.mirrorAt = some t) ∧ (s.lbl.jobs = []) ∧ (s.lblField = false) ∧ (s.lbl.mirrored < s.mirrorRecords.length)) :=
  ⟨⟨run, asReq 2 0xA0 (0 :: mbxPacket), 300, ⟨2, 0xA0, mbxPacket⟩, by unfold Asked; decide +kernel, by decide +kernel, by decide +kernel, by decide +kernel, by decide +kernel, by decide +kernel, by decide +kernel, by decide +kernel, by decide +kernel⟩,
   ⟨{ shelf with aon := { shelf.aon with wakeMask := 8 } }, asReq 2 0xA1 (0 :: wakeArgs), ⟨2, 0xA1, wakeArgs⟩, by unfold Asked; decide +kernel, by decide +kernel, by decide +kernel, by decide +kernel, by decide +kernel, by decide +kernel, by decide +kernel⟩,
   ⟨{ shelf with lbl := { wrong := [0, 0, 0] } }, asReq 2 0xA1 [0, 1, 2, 3, 4], ⟨2, 0xA1, [1, 2, 3, 4]⟩, by unfold Asked; decide +kernel, by decide +kernel, by decide +kernel, by decide +kernel, by decide +kernel, by decide +kernel⟩,
   ⟨{ run with lbl := { block := 1984, count := 64 } }, 4, by decide +kernel, by decide +kernel, by decide +kernel⟩,
   ⟨{ run with lbl := { block := 1984, count := 64 } }, 4, by decide +kernel, by decide +kernel, by decide +kernel, by decide +kernel⟩,
   ⟨{ run with lbl := { block := 511, count := 2 } }, 4, by decide +kernel, by decide +kernel, by decide +kernel, by decide +kernel⟩,
   ⟨deferred, { use := .warden 4, addr := 64, since := some 0 }, [], 4, 0, by decide +kernel, by decide +kernel, by decide +kernel, by decide +kernel⟩,
   ⟨{ run with lbl := { jobs := [{ use := .warden 4, addr := 64, data := [1, 2, 3, 4], running := true }] } }, { use := .warden 4, addr := 64, data := [1, 2, 3, 4], running := true }, [], by decide +kernel, by decide +kernel⟩,
   ⟨mirroring, 0, by decide +kernel, by decide +kernel, by decide +kernel, by decide +kernel⟩⟩

/-- OtpFormHolds speaks about steps that there are: a command in front, and an empty queue. -/
theorem wit_OtpFormHolds : barred.otpWf ∧ ∃ t u, step { barred with pending := [.sgeNop] } = .next t ∧ step barred = .next u :=
  ⟨by unfold State.otpWf; decide +kernel, _, _, rfl, rfl⟩

/-- OtpBitsOnlySet speaks about a step of a state with OTP bits set. -/
theorem wit_OtpBitsOnlySet : ∃ t, step { barred with pending := [.fwImageActivate false] } = .next t := ⟨_, rfl⟩

/-- LabelLocksPermanent speaks about a step of a state with a locked block. -/
theorem wit_LabelLocksPermanent : ∃ s t, step s = .next t ∧ 255 ∈ s.lbl.locked := ⟨{ run with lbl := { locked := [255] } }, _, rfl, by decide⟩

/-- OtpAndLockFrame speaks about a command that there is. -/
theorem wit_OtpAndLockFrame : ∃ c s t, exec c s = .next t ∧ programsOtp c = false ∧ locksLabel c = false := ⟨.sgeNop, run, run, rfl, rfl, rfl⟩

/-- The clauses of AccumulatorsSaturate speak about states and values that there are. -/
theorem wit_AccumulatorsSaturate : run.accOk ∧ (1 : Nat) ≠ sgD 0 ∧ (-(2 ^ 71) : Int) ≤ 2 ^ 71 - 1 ∧ (2 ^ 71 - 1 : Int) < 2 ^ 71 ∧ (-(2 ^ 71) - 1 : Int) < -(2 ^ 71) :=
  ⟨fun _ => ⟨by show (-(2 ^ 71) : Int) ≤ 0; decide, by show (0 : Int) ≤ 2 ^ 71 - 1; decide⟩, by decide, by decide, by decide, by decide⟩

/-- EngineInstructionFrame speaks about instructions that there are: a delay write, an output and a result word. -/
theorem wit_EngineInstructionFrame :
    (∃ s t p w base n, sgeRow .sgeWrd = some 0x12 ∧ exec .sgeWrd s = .next t ∧ NextWord p w s ∧ sgOp w = 0x12 ∧ p.lines[sgLine w]? = some (base, n)) ∧
    (∃ s t p w, sgeRow .sgeOut = some 0x21 ∧ exec .sgeOut s = .next t ∧ NextWord p w s ∧ sgOp w = 0x21) ∧
    (∃ s t p w, sgeRow .sgeRes = some 0x22 ∧ exec .sgeRes s = .next t ∧ NextWord p w s ∧ sgOp w = 0x22) :=
  let d := 0x0121234567890B
  ⟨⟨steep (0x12 * 2 ^ 56 + d), _, prog (0x12 * 2 ^ 56 + d), 0x12 * 2 ^ 56 + d, 8 * sgLine (0x12 * 2 ^ 56 + d), 8, rfl, rfl, ⟨rfl, 1, rfl, rfl⟩, by decide +kernel, by decide +kernel⟩,
   ⟨steep (0x21 * 2 ^ 56 + d), _, prog (0x21 * 2 ^ 56 + d), 0x21 * 2 ^ 56 + d, rfl, rfl, ⟨rfl, 1, rfl, rfl⟩, by decide +kernel⟩,
   ⟨steep (0x22 * 2 ^ 56 + d), _, prog (0x22 * 2 ^ 56 + d), 0x22 * 2 ^ 56 + d, rfl, rfl, ⟨rfl, 1, rfl, rfl⟩, by decide +kernel⟩⟩

/-- ZeroRegister speaks about registers that there are. -/
theorem wit_ZeroRegister : (15 : Nat) ≠ 0 ∧ (14 : Nat) ≠ 15 := by decide

/-- WardenComputeFrame speaks about an instruction that there is. -/
theorem wit_WardenComputeFrame : ∃ i s t, fenCompute (.fenAdd 4) = some (.add, 4) ∧ Issues 4 0 1 i s ∧ i.op = .add ∧ exec (.fenAdd 4) s = .next t :=
  ⟨(fenDecode 0x1312 0).getD ⟨.add, 0, 0, 0, 0⟩, fenRun 0x1312 0 [(1, 0x8000), (2, 3)] {} {}, _, rfl, ⟨by decide +kernel, 0x1312, 1, rfl⟩, by decide +kernel, rfl⟩

/-- WardenStoreFrame speaks about an instruction that there is. -/
theorem wit_WardenStoreFrame : ∃ i s t, Issues 4 0 1 i s ∧ i.op = .st ∧ exec (.fenSt 4) s = .next t :=
  ⟨(fenDecode 0xE218 0x8001).getD ⟨.add, 0, 0, 0, 0⟩, fenRun 0xE218 0x8001 [(1, 0x8000), (2, 3)] {} {}, _, ⟨by decide +kernel, 0xE218, 2, rfl⟩, by decide +kernel, rfl⟩

/-- LockRelease speaks about a state that there is, in each of its cases. -/
theorem wit_LockRelease : run.holderOf 0 = some holderPf0 ∧ ¬((run.lock 63).st = 1 ∧ (run.lock 63).holder = holderPf0) ∧ run.awake = true ∧
    (let u := setLock 63 ⟨1, holderPf0, 0⟩ run; (u.lock 63).st = 1 ∧ (u.lock 63).holder = holderPf0) := by decide +kernel

/-- CounterWrap speaks about a state that there is: a counter at its last value. -/
theorem wit_CounterWrap : ∃ s : State, (s.bank 7).on = true ∧ (tget (0, 0) (s.bank 7).counts 3 : Nat × Nat) = (2 ^ 48 - 1, 0x7FFF) :=
  ⟨{ run with cnt := { banks := [(7, { on := true, group := 5, scope := 0x7F, counts := [(3, (2 ^ 48 - 1, 0x7FFF))] })] } }, by decide +kernel⟩

/-- A WAKE with a wrong code. -/
def wrongReq : Bytes := asReq 2 0xA1 [0, 1, 2, 3, 4]
/-- The state after it, at a later microsecond. -/
def afterWrong (u : Nat) (s : State) : State := { stateOf (execLblWake wrongReq s) s with us := u }
theorem ran_to (c : Instr) (s : State) : exec c s = .next (stateOf (exec c s) s) := by
  obtain ⟨t, h, _⟩ := exec_grew c s; rw [h]; rfl
theorem wrong_wake (s : State) (h : Asked wrongReq ⟨2, 0xA1, [1, 2, 3, 4]⟩ s) (g : u32 [1, 2, 3, 4] 0 ≠ s.lblWakeCode) (p : s.pmc.st ≠ .off) :
    WrongWake s (stateOf (exec (.lblWake wrongReq) s) s) := ⟨wrongReq, _, h, rfl, rfl, g, p, ran_to _ _⟩
/-- LabelWakeLockout speaks about states that there are. -/
theorem wit_LabelWakeLockout : ∃ s0 s1 s2 s3 s4 : State, s0.lbl.wrong = [] ∧ s0.lbl.barred ≤ s0.us ∧ WrongWake s0 s1 ∧ WrongWake { s1 with us := 1 } s2 ∧
    WrongWake { s2 with us := 2 } s3 ∧ WrongWake { s3 with us := 59999999 } s4 ∧ Asked wrongReq ⟨2, 0xA1, [1, 2, 3, 4]⟩ { s4 with us := 119999998 } ∧
    s4.pmc.st ≠ .off :=
  ⟨shelf, _, _, _, stateOf (exec (.lblWake wrongReq) (afterWrong 59999999 (afterWrong 2 (afterWrong 1 shelf)))) (afterWrong 59999999 (afterWrong 2 (afterWrong 1 shelf))),
   rfl, by decide, wrong_wake _ (by unfold Asked; decide +kernel) (by decide +kernel) (by decide +kernel),
   wrong_wake (afterWrong 1 shelf) (by unfold Asked; decide +kernel) (by decide +kernel) (by decide +kernel),
   wrong_wake (afterWrong 2 (afterWrong 1 shelf)) (by unfold Asked; decide +kernel) (by decide +kernel) (by decide +kernel),
   wrong_wake (afterWrong 59999999 (afterWrong 2 (afterWrong 1 shelf))) (by unfold Asked; decide +kernel) (by decide +kernel) (by decide +kernel),
   by unfold Asked; decide +kernel, by decide +kernel⟩

/-- LabelWriteFrame speaks about a request that there is, and about a byte that no field write reaches. -/
theorem wit_LabelWriteFrame : ∃ req q t, writesLabel (.lblWriteSingleBlock req 300) = some req ∧ exec (.lblWriteSingleBlock req 300) run = .next t ∧
    Asked req q run ∧ (lblOpen (0 / 4) && !run.lbl.locked.contains (0 / 4)) = false :=
  ⟨asReq 2 0x21 [255, 1, 2, 3, 4], ⟨2, 0x21, [255, 1, 2, 3, 4]⟩, _, rfl, ran_to _ _, by unfold Asked; decide +kernel, by decide +kernel⟩

/-- MemoryWiped speaks about domains that there are, at both ends of the banks and in DDR5. -/
theorem wit_MemoryWiped : memRange 100 = some (0, 0x200000) ∧ memRange 147 = some (0x5E00000, 0x6000000) ∧ memRange 87 = some (0x2000000000, 0x3000000000) := by decide

end Sys2Proof.Tests
end

section
/-!
Proofs of the statements on rules that hold everywhere: the wipe of a domain's memory, the completion of the domain rows, the reset values.
-/
namespace Sys2Proof.Machine
open Sys2Proof

/-! ### Filtered tables and wiped memories -/

/-- A key that the filter lets pass reads as before; any other reads the default. -/
theorem tget_filter {α : Type} [DecidableEq α] (d : α) (p : Nat → Bool) (t : List (Nat × α)) (k : Nat) :
    tget d (t.filter fun c => p c.1) k = if p k then tget d t k else d := by
  induction t with
  | nil => simp [tget_nil]
  | cons x t ih =>
    obtain ⟨j, v⟩ := x
    rw [List.filter_cons, tget_cons]
    by_cases hk : k = j
    · subst hk
      by_cases hp : p k = true
      · simp [tget_cons, hp]
      · simp [ih, hp]
    · by_cases hp : p j = true
      · simp [tget_cons, hk, hp, ih]
      · simp [hk, hp, ih]

theorem DevMem.read_wipe_inside (m : DevMem) {lo hi a : Nat} (hlo : lo ≤ a) (hhi : a < hi) : (m.wipe lo hi).bytes.read a = 0 :=
  (tget_filter 0 (fun a => decide (a < lo) || decide (hi ≤ a)) m.bytes a).trans
    (if_neg (by simp only [Bool.or_eq_true, decide_eq_true_eq]; omega))

theorem DevMem.read_wipe_outside (m : DevMem) {lo hi a : Nat} (h : a < lo ∨ hi ≤ a) :
    (m.wipe lo hi).bytes.read a = m.bytes.read a :=
  (tget_filter 0 (fun a => decide (a < lo) || decide (hi ≤ a)) m.bytes a).trans (if_pos (by simpa using h))

theorem DevMem.mem_known_wipe (m : DevMem) (lo hi a : Nat) :
    a ∈ (m.wipe lo hi).known ↔ a ∈ m.known ∧ (a < lo ∨ hi ≤ a) := by
  simp [DevMem.wipe]

/-! ### The domain table -/

theorem setDomain_domain (d e : Nat) (v : Domain) (s : State) : (setDomain d v s).domain e = if e = d then v else s.domain e := by
  obtain ⟨m, h, -⟩ := setDomain_spec d v s
  rw [h]
  exact tget_tput {} s.dom d e v

/-- A domain with memory that is switched off or fenced has it wiped (R29, R30). -/
theorem setDomain_mem_of_off {d lo hi : Nat} {v : Domain} (s : State) (hr : memRange d = some (lo, hi))
    (hv : v.st = .gated ∨ v.st = .fenced) : (setDomain d v s).mem = s.mem.wipe lo hi := by
  have off : (v.st == .gated || v.st == .fenced) = true := by simpa using hv
  simp only [setDomain, hr, off, if_true]

/-- Settles O60: what the domain's new value does to the memory is one wipe of its range. -/
theorem memoryWiped : Obligations.MemoryWiped := by
  intro s d lo hi v hr hv
  rw [setDomain_mem_of_off s hr hv]
  refine ⟨fun a hlo hhi => ⟨s.mem.read_wipe_inside hlo hhi, ?_⟩, fun a => s.mem.read_wipe_outside, ?_, ?_⟩
  · rw [DevMem.mem_known_wipe]
    omega
  · rw [setDomain_domain, if_pos rfl]
  · intro e he
    rw [setDomain_domain, if_neg he]

/-! ### The rows of the domains and of the reset pin, each where it acts -/

/-- RUN, TRIM and HOLD are neither OFF nor SHELF. -/
theorem State.not_down_of_live {s : State} (h : s.live = true) : (s.pmc.st == .off || s.pmc.st == .shelf) = false := by
  cases hs : s.pmc.st <;> simp_all [State.live]

theorem execDomainSwitchDone_of_off {s : State} {d : Nat} (hon : (s.domain d).switchingOn = false) (hoff : (s.domain d).switchingOff = true) :
    execDomainSwitchDone d s = .next (finishWaits (fun k => k == .domain d) stOk (fun _ => [])
      (leftOn (s.isOn 20) (setDomain d { s.domain d with st := .gated, switchingOff := false } s))) := by
  simp only [execDomainSwitchDone, hon, hoff, if_true, Bool.false_eq_true, if_false]

/-- A domain that is on its way ON is ON, and its wait, its swap and the move that wants it go on (R149, R716, R976). -/
theorem execDomainSwitchDone_of_on {s : State} {d : Nat} (hon : (s.domain d).switchingOn = true) :
    let u := finishUnfence d (finishWaits (fun k => k == .domain d) stOk (fun _ => [])
      (setDomain d { s.domain d with st := .on, cause := 0, switchingOn := false } s))
    let v := forEach (List.range 4) (fun r s => modRole r (fun y => { y with move := y.move.map fun m =>
      if m.dest + 15 == d && !m.frozen then { m with frozen := true, since := s.us } else m }) s) u
    execDomainSwitchDone d s = .next (ifSome (v.pmc.swap.filter fun w => w.2.1 == d) finishSwap v) :=
  if_pos hon

theorem execDomainPowerGoodTimeout_of_on {s : State} {d : Nat} (hon : (s.domain d).switchingOn = true) :
    execDomainPowerGoodTimeout d s = .next (poolCheck 0x104 (poolCheck 0x105 (poolCheck 0x106 (dropMoves d (refence d (dropSwap d
      (failWaits (fun k => k == .domain d) stFault 0 (logEvent 2 0x8009 (detail [(16, 2, d)])
        (setDomain d { s.domain d with st := .gated, cause := 5, switchingOn := false } s))))))))) :=
  if_pos hon

/-- Outside the engine pools an idle domain is never the last engine of one (R150). -/
theorem execIdleGateTimeout_of_idle {s : State} {d : Nat} (htrim : s.pmc.st = .trim) (hcol : trimOf d = 1) (hon : s.isOn d = true)
    (hidle : s.domBusy d = false) (hpool : inR d 65 85 = false) (hforce : (s.domain d).forced = none) :
    execIdleGateTimeout d s = .next (modDomain d (fun x => { x with st := .gated, cause := 2 }) s) := by
  simp [execIdleGateTimeout, htrim, hcol, hon, hidle, hpool, hforce]

theorem execResetNRegistered_of_live {s : State} (h : s.live = true) :
    execResetNRegistered s = .next { takeReset .w 3 s with
      rst := { (takeReset .w 3 s).rst with active := some .w, pinLow := true }
      pmc := { (takeReset .w 3 s).pmc with st := .boot, upStep := 6 } } := by
  simp only [execResetNRegistered, State.not_down_of_live h, h, Bool.true_or, if_true, Bool.false_eq_true, if_false]

theorem execResetNReleased_of_w {s : State} (diode : Int) (h : s.rst.active = some .w) :
    execResetNReleased diode s = .next (resetDone diode { s with rst := { s.rst with pinLow := false } }) :=
  if_pos (beq_iff_eq.mpr h)

theorem execDevResetWStart_of_pending {s : State} (diode : Int) (hw : s.rst.wPending = some 4) (hlive : s.live = true) :
    execDevResetWStart diode s = .next (resetDone diode (takeReset .w 4 s)) := by
  simp only [execDevResetWStart, hw, hlive, beq_self_eq_true, Bool.and_self, if_true]

/-- Settles O5: each row in the branch that its premises select. -/
theorem domainsComplete : Obligations.DomainsComplete :=
  ⟨fun _ _ hon hoff => execDomainSwitchDone_of_off hon hoff,
   fun _ _ hon => execDomainSwitchDone_of_on hon,
   fun _ _ hon => execDomainPowerGoodTimeout_of_on hon,
   fun _ _ htrim hcol hon hidle hpool hforce => execIdleGateTimeout_of_idle htrim hcol hon hidle hpool hforce,
   fun s ch => exec_ddrRegionWiped ch s,
   fun _ hlive => execResetNRegistered_of_live hlive,
   fun _ diode hw => execResetNReleased_of_w diode hw,
   fun _ diode hw hlive => execDevResetWStart_of_pending diode hw hlive⟩

/-! ### The state after reset -/

/-- PF0 and DEV, the owners 16 and 17, at their defaults (Table 09-6). -/
theorem reset_ownerShares (i : Nat) (h : i = 16 ∨ i = 17) :
    tget 0 State.reset.net.weights i = 16 ∧ tget 0 State.reset.net.txCaps i = 4096 ∧ tget 0 State.reset.net.engCaps i = 16384 := by
  rcases h with rfl | rfl <;> decide

/-- No accumulator is listed, so each reads 0. -/
theorem reset_acc (d : Nat) : State.reset.acc d = 0 := tget_nil 0 d

/-- No lock is listed, so each is FREE. -/
theorem reset_lock_free (n : Nat) : (State.reset.lock n).st = 0 := congrArg HwLock.st (tget_nil ({} : HwLock) n)

/-- Settles O44: the defaults of the state's fields, and the tables' at every key. -/
theorem resetValues : Obligations.ResetValues :=
  ⟨rfl, rfl, rfl, rfl, rfl, rfl, rfl, rfl, rfl, reset_ownerShares, rfl, rfl, reset_acc, rfl, rfl, rfl, rfl, reset_lock_free⟩

end Sys2Proof.Machine
end

section
/-!
Proofs of the statements on command packets: a step and the queue, every command's answer, the rows of the direct command window, of the front
end's timers, of register writes and device accesses, and the device opcodes.
-/
namespace Sys2Proof.Machine
open Sys2Proof

/-! ### A step and the queue -/

theorem step_of_cons (c : Instr) (rest : List Instr) (s : State) : step { s with pending := c :: rest } = exec c { s with pending := rest } := rfl

theorem step_of_nil (s : State) : step { s with pending := [] } = .next (idleTick { s with pending := [] }) := rfl

/-- Settles O42: one equation for each shape of the queue. -/
theorem stepRunsFrontCommand : Obligations.StepRunsFrontCommand := ⟨step_of_cons, step_of_nil⟩

/-- Settles O43: the queue and the microseconds are in what every command keeps or lets grow. -/
theorem everyCommandRuns : Obligations.EveryCommandRuns := by
  intro c s
  obtain ⟨t, ht, hpending, hus, -⟩ := exec_grew c s
  exact ⟨t, ht, hpending, hus⟩

/-! ### Device accesses of a warden core (R680-R682) -/

/-- Reads and writes alike: what the access answers is what the core's access ends with. -/
theorem execDeviceAccessComplete_of_access {s t : State} {core : Nat} {x : WdAccess} {res : Except Nat Nat} (hx : (s.core core).access = some x)
    (hdev : (if x.write then devWrite ⟨core, x.task⟩ x.addr x.value s else devRead ⟨core, x.task⟩ x.addr s) = some (res, t)) :
    execDeviceAccessComplete core s = .next (endAccess core res t) := by
  simp only [execDeviceAccessComplete, hx, hdev]

/-- A read that timed out has changed nothing but the free values (log 65). -/
theorem execDeviceAccessTimeout_of_read {s : State} {core : Nat} {x : WdAccess} (hx : (s.core core).access = some x) (hread : x.write = false) :
    execDeviceAccessTimeout core s = .next (endAccess core (.error stTimeout) (freeNat 2 s).2) := by
  simp only [execDeviceAccessTimeout, hx, hread, Bool.false_and, Bool.false_eq_true, if_false]

/-! ### Register writes of the host (R17, R18) -/

theorem execRegisterWrite_bar0_word {s : State} {addr : Nat} (value : Nat) (htalks : s.fnTalks pf0 = true) (haddr : addr % 4 = 0) :
    execRegisterWrite .bar0 addr 4 value s = .next (bar0Write addr (value % 2 ^ 32) s) := by
  simp [execRegisterWrite, htalks, haddr]

/-- The low word first. -/
theorem execRegisterWrite_bar0_pair {s : State} {addr : Nat} (value : Nat) (htalks : s.fnTalks pf0 = true) (haddr : addr % 8 = 0) :
    execRegisterWrite .bar0 addr 8 value s =
      .next (bar0Write (addr + 4) (value / 2 ^ 32 % 2 ^ 32) (bar0Write addr (value % 2 ^ 32) s)) := by
  simp [execRegisterWrite, htalks, haddr]

theorem execRegisterWrite_bar2_word {s : State} {f addr : Nat} (value : Nat) (htalks : s.fnTalks f = true) (hf : f < 64 ∨ f = pf0)
    (haddr : addr % 4 = 0) : execRegisterWrite (.bar2 f) addr 4 value s = .next (bar2Write f addr (value % 2 ^ 32) s) := by
  simp [execRegisterWrite, htalks, haddr, hf.symm]

/-! ### The direct command window (R105, R106) -/

/-- What DCW_GO takes: a size of 16 to 4,084 while not BUSY. -/
theorem execDcwGo_of_free {s : State} {size : Nat} (hrun : s.transportsRun = true) (hfree : s.cmd.dcwBusy = false) (hlo : 16 ≤ size)
    (hhi : size ≤ 4084) : execDcwGo size s =
      .next (frontEnd ⟨2, 0xFFF, 0⟩ 0 .dcw (s.cmd.dcwReq.readN 0 size) { s with cmd := { s.cmd with dcwBusy := true } }) := by
  simp [execDcwGo, hrun, hfree, Nat.not_lt.mpr hlo, Nat.not_lt.mpr hhi]

theorem execDcwGo_of_overrun {s : State} {size : Nat} (hrun : s.transportsRun = true)
    (hover : s.cmd.dcwBusy = true ∨ size < 16 ∨ 4084 < size) :
    execDcwGo size s = .next { s with cmd := { s.cmd with dcwOverrun := true } } := by
  simp [execDcwGo, hrun, or_assoc, hover]

/-! ### Timers of the front end (R83, R88, R100) -/

theorem execThrottleEnd_of_throttled {s : State} {cls ident sub n : Nat} (hn : (getSource ⟨cls, ident, sub⟩ s).throttle = some n) :
    execThrottleEnd cls ident sub s = .next (logEvent 20 0x8002 (cmdDetail ⟨cls, ident, sub⟩ 0 0 0 0 0xFFFF n)
      (setSource { getSource ⟨cls, ident, sub⟩ s with throttle := none, violations := [] } s)) := by
  simp only [execThrottleEnd, hn]

/-- The lattice and the plant bus, classes 4 and 5: the reply goes out over the transport, whatever is outstanding. -/
theorem execChainTimeout_of_delivered {s : State} {cls ident sub : Nat} {c : Chain} (hc : (getSource ⟨cls, ident, sub⟩ s).chain = some c)
    (hcls : cls = 4 ∨ cls = 5) : execChainTimeout cls ident sub s = .next (deliver c.path
      (buildReply (dropChain ⟨cls, ident, sub⟩ s) cls c.opcode c.tag c.lastSeq stAborted (errParams 0xFFFF 0)) (dropChain ⟨cls, ident, sub⟩ s)) := by
  rcases hcls with rfl | rfl <;> simp only [execChainTimeout, hc]

theorem execCommandTimeout_of_waiting {s : State} {opcode : Nat} {w : Waiting}
    (hw : s.cmd.waits.find? (fun w => w.pkt.opcode == opcode) = some w) : execCommandTimeout opcode s =
      .next (fail w.pkt stTimeout 0xFFFF 0 { s with cmd := { s.cmd with waits := s.cmd.waits.erase w } }) := by
  simp only [execCommandTimeout, hw]

/-! ### The device opcodes (Table 03-11) -/

theorem execDevReset_given {s t : State} {p : Packet} (given : Given 0x0102 p s t) (hlen : p.params.length = 4) (hkind : u8 p.params 0 = 2)
    (hkey : u8 p.params 1 = 0xA5) : execDevReset s = .next (ok p { t with rst := { t.rst with wPending := some 4 } }) :=
  (interpret_given _ given).trans (congrArg _ (checked_ok _ _ _ _ _ hlen (by simp [hkind, hkey])))

/-- With the flag for the oldest record START_SEQ is not looked at, and the status is OK. -/
theorem execLogRead_of_fromOldest {s t : State} {p : Packet} (given : Given 0x0103 p s t) (hlen : p.params.length = 8)
    (hlo : 1 ≤ u16 p.params 4) (hhi : u16 p.params 4 ≤ 126) (hflag : (u16 p.params 6).testBit 0 = true) :
    let taken := t.log.records.take (u16 p.params 4)
    execLogRead s = .next (complete p stOk (putLe 4 ((taken.head?.map (·.seq)).getD t.log.nextSeq).toNat ++ putLe 2 taken.length ++
      putLe 2 0 ++ (taken.map LogRecord.bytes).flatten) t) := by
  have fields : [(4, inR (u16 p.params 4) 1 126)].all (·.2) = true := by simp [inR, hlo, hhi]
  refine (interpret_given _ given).trans (congrArg _ ((checked_ok _ _ _ _ _ hlen fields).trans ?_))
  simp only [hflag, Bool.not_true, Bool.false_and, Bool.true_or, if_true, Bool.false_eq_true, if_false, List.drop_zero]

/-- Settles O18: each row in the branch that its premises select. -/
theorem deviceComplete : Obligations.DeviceComplete :=
  ⟨fun _ _ _ _ _ hx hread hdev => execDeviceAccessComplete_of_access hx (by simpa [hread] using hdev),
   fun _ _ _ hx hread => execDeviceAccessTimeout_of_read hx hread,
   fun _ _ value htalks haddr => execRegisterWrite_bar0_word value htalks haddr,
   fun _ _ value htalks haddr => execRegisterWrite_bar0_pair value htalks haddr,
   fun _ _ _ value htalks hf haddr => execRegisterWrite_bar2_word value htalks hf haddr,
   fun _ _ hrun hfree hlo hhi => execDcwGo_of_free hrun hfree hlo hhi,
   fun _ _ hrun hover => execDcwGo_of_overrun hrun hover,
   fun _ _ _ _ _ hn => execThrottleEnd_of_throttled hn,
   fun _ _ _ _ _ hc hcls => execChainTimeout_of_delivered hc hcls,
   fun _ _ _ hw => execCommandTimeout_of_waiting hw,
   fun _ _ _ given => interpret_given _ given,
   fun _ _ _ given hlen hkind hkey => execDevReset_given given hlen hkind hkey,
   fun _ _ _ given hlen hlo hhi hflag => execLogRead_of_fromOldest given hlen hlo hhi hflag⟩

end Sys2Proof.Machine
end

section
/-!
Proofs of the statements on power input, standby and domains: the supply events and the way to power-up, the supervision of VIN and VBUS, drains and
SHELF entry, rails and wakes, and the power opcodes. The statements are about the branch that the premises select; each row has a lemma of its own.
-/
namespace Sys2Proof.Machine
open Sys2Proof

/-! ### Supply events and power-up (R116-R123) -/

theorem execPowerOn_of_off {s : State} (h : s.pmc.st = .off) : execPowerOn s = .next { s with
    aon := { ({} : Aon) with powered := true, wakePending := some 0 }, pmc := { s.pmc with st := .shelf }, dom := [] } :=
  if_pos (beq_iff_eq.mpr h)

theorem execVinOkHold_of_powered {s : State} (h : s.aon.powered = true) :
    execVinOkHold s = .next { s with aon := { s.aon with vinOk := true }, pmc := { s.pmc with vinLow := false } } :=
  if_pos h

/-- Step 1 of Table 04-3 takes the C of cause 1 either way; only the latch of a brown-out stays as it was (R122, R142). -/
theorem execPowerUpStart_of_wake {s : State} {w : Nat} (hwake : s.aon.wakePending = some w) (hst : s.pmc.st = .shelf)
    (htrans : s.pmc.trans = none) (hvin : s.aon.vinOk = true) : execPowerUpStart s = .next { takeReset .c 1 s with
      rst := { (takeReset .c 1 s).rst with latch := if s.aon.brownOut then s.rst.latch else (takeReset .c 1 s).rst.latch }
      aon := { (takeReset .c 1 s).aon with wakePending := none, wakeCause := w, commitMark := false }
      pmc := { (takeReset .c 1 s).pmc with st := .boot, upStep := 1, ibEn := true, ibcTries := 0 } } := by
  have ready : (s.pmc.st == .shelf && s.pmc.trans.isNone && s.aon.vinOk) = true := by simp [hst, htrans, hvin]
  simp only [execPowerUpStart, hwake, ready, if_true]

theorem execPowerUpStart_of_clean {s : State} {w : Nat} (hwake : s.aon.wakePending = some w) (hst : s.pmc.st = .shelf)
    (htrans : s.pmc.trans = none) (hvin : s.aon.vinOk = true) (hbrown : s.aon.brownOut = false) : execPowerUpStart s = .next { takeReset .c 1 s with
      aon := { (takeReset .c 1 s).aon with wakePending := none, wakeCause := w, commitMark := false }
      pmc := { (takeReset .c 1 s).pmc with st := .boot, upStep := 1, ibEn := true, ibcTries := 0 } } := by
  rw [execPowerUpStart_of_wake hwake hst htrans hvin, hbrown]
  simp only [Bool.false_eq_true, if_false]

theorem execPowerUpStart_of_brownOut {s : State} {w : Nat} (hwake : s.aon.wakePending = some w) (hst : s.pmc.st = .shelf)
    (htrans : s.pmc.trans = none) (hvin : s.aon.vinOk = true) (hbrown : s.aon.brownOut = true) : execPowerUpStart s = .next { takeReset .c 1 s with
      rst := { (takeReset .c 1 s).rst with latch := s.rst.latch }
      aon := { (takeReset .c 1 s).aon with wakePending := none, wakeCause := w, commitMark := false }
      pmc := { (takeReset .c 1 s).pmc with st := .boot, upStep := 1, ibEn := true, ibcTries := 0 } } := by
  rw [execPowerUpStart_of_wake hwake hst htrans hvin, hbrown]
  simp only [if_true]

/-- PMC waits in step 1 of Table 04-3 with IB_EN asserted. -/
theorem awaitsPgood {s : State} (hst : s.pmc.st = .boot) (hstep : s.pmc.upStep = 1) (hib : s.pmc.ibEn = true) :
    (s.pmc.st == .boot && s.pmc.upStep == 1 && s.pmc.ibEn) = true := by
  simp [hst, hstep, hib]

theorem execIbPgoodTimeout_of_triesLeft {s : State} (hst : s.pmc.st = .boot) (hstep : s.pmc.upStep = 1) (hib : s.pmc.ibEn = true)
    (htries : s.pmc.ibcTries < 7) :
    execIbPgoodTimeout s = .next { s with pmc := { s.pmc with ibEn := false, ibcTries := s.pmc.ibcTries + 1 } } := by
  have left : ¬ 8 ≤ s.pmc.ibcTries + 1 := by omega
  simp only [execIbPgoodTimeout, awaitsPgood hst hstep hib, if_true, left, if_false]

/-- The eighth attempt was the last (R123). -/
theorem execIbPgoodTimeout_of_lastTry {s : State} (hst : s.pmc.st = .boot) (hstep : s.pmc.upStep = 1) (hib : s.pmc.ibEn = true)
    (htries : 7 ≤ s.pmc.ibcTries) :
    execIbPgoodTimeout s = .next { abandonPowerUp s with aon := { (abandonPowerUp s).aon with ibcFail := true } } := by
  have last : 8 ≤ s.pmc.ibcTries + 1 := by omega
  simp only [execIbPgoodTimeout, awaitsPgood hst hstep hib, if_true, last]

theorem execIbcRetry_of_failed {s : State} (hst : s.pmc.st = .boot) (hstep : s.pmc.upStep = 1) (hib : s.pmc.ibEn = false) :
    execIbcRetry s = .next { s with pmc := { s.pmc with ibEn := true } } :=
  if_pos (by simp [hst, hstep, hib])

theorem execIbPgoodHigh_of_clocks {s : State} (diode : Int) (hst : s.pmc.st = .boot) (hstep : s.pmc.upStep = 1) (hib : s.pmc.ibEn = true) :
    execIbPgoodHigh true true diode s = .next (resetDone diode { railsSet s with
      pmc := { (railsSet s).pmc with upStep := 6 }, ckg := { (railsSet s).ckg with xtal := true, pll := true, trim := 0 } }) :=
  if_pos (awaitsPgood hst hstep hib)

/-- Without crystal or lock CLK_FAIL names what is missing, the crystal first (R170). -/
theorem execIbPgoodHigh_of_clockFailure {s : State} {xtalOk pllOk : Bool} (diode : Int) (hst : s.pmc.st = .boot) (hstep : s.pmc.upStep = 1)
    (hib : s.pmc.ibEn = true) (hclk : (xtalOk && pllOk) = false) : execIbPgoodHigh xtalOk pllOk diode s = .next { abandonPowerUp (railsSet s) with
      aon := { (abandonPowerUp (railsSet s)).aon with clkFail := some (if xtalOk then 1 else 0) } } := by
  have missing : (!xtalOk || !pllOk) = true := by rw [← Bool.not_and, hclk]; rfl
  simp only [execIbPgoodHigh, awaitsPgood hst hstep hib, missing, if_true]

theorem execBrownOut_of_powered {s : State} (h : s.aon.powered = true) : execBrownOut s = .next { takeReset .c 2 s with
    aon := { (takeReset .c 2 s).aon with vinOk := false, brownOut := true, wakePending := some 5, commitMark := false }
    pmc := { (takeReset .c 2 s).pmc with st := .shelf, ibEn := false, upStep := 0, trans := none, calls := [] }
    ckg := { (takeReset .c 2 s).ckg with xtal := false, pll := false } } :=
  if_neg (by simp [h])

theorem execVinRecoveryWake_of_brownOut {s : State} (hbrown : s.aon.brownOut = true) (hst : s.pmc.st = .shelf) :
    execVinRecoveryWake s = .next { s with aon := { s.aon with vinOk := true, wakePending := some (s.aon.wakePending.getD 5) } } :=
  if_pos (by simp [hbrown, hst])

/-- Settles O1: each supply event in the branch that its premises select. -/
theorem supplyEventsComplete : Obligations.SupplyEventsComplete :=
  ⟨fun _ hoff => execPowerOn_of_off hoff,
   fun s => exec_aonPowerLoss s,
   fun _ hpow => execVinOkHold_of_powered hpow,
   fun s => exec_vinOkLoss s,
   fun _ _ hwake hst htrans hvin hbrown => execPowerUpStart_of_clean hwake hst htrans hvin hbrown,
   fun _ _ hwake hst htrans hvin hbrown => execPowerUpStart_of_brownOut hwake hst htrans hvin hbrown,
   fun _ hst hstep hib htries => execIbPgoodTimeout_of_triesLeft hst hstep hib htries,
   fun _ hst hstep hib htries => execIbPgoodTimeout_of_lastTry hst hstep hib htries,
   fun _ hst hstep hib => execIbcRetry_of_failed hst hstep hib,
   fun _ diode hst hstep hib => execIbPgoodHigh_of_clocks diode hst hstep hib,
   fun _ _ _ diode hst hstep hib hclk => execIbPgoodHigh_of_clockFailure diode hst hstep hib hclk,
   fun _ hpow => execBrownOut_of_powered hpow,
   fun _ hbrown hst => execVinRecoveryWake_of_brownOut hbrown hst⟩

/-! ### Supervision of VIN and VBUS (R134-R138) -/

theorem execVinLow_of_powered {s : State} (vin : Nat) (h : s.aon.powered = true) :
    let u := logEvent 2 0x8008 (detail [(16, 2, vin)]) { s with pmc := { s.pmc with vinLow := true, vin := vin } }
    execVinLow vin s = .next (whenS u.live (callDown true 2 6 0 50) u) :=
  if_neg (by simp [h])

theorem execVinOv_of_change {s : State} {set : Bool} (vin : Nat) (h : s.pmc.vinOv = !set) :
    execVinOv set vin s = .next (logEvent 2 0x8007 (detail [(16, 2, vin)]) { s with pmc := { s.pmc with vinOv := set, vin := vin } }) :=
  if_neg (by simp [h])

theorem execPfailSet_of_clear {s : State} (vbus : Nat) (hpf : s.pmc.pfail = false) (hpow : s.aon.powered = true) :
    let u := routePost 2 (powerEvent (logEvent 2 0x8002 (detail [(16, 2, vbus)]) (chargeEval { s with pmc := { s.pmc with pfail := true, vbus := vbus } })))
    let v := whenS (u.dataOn && u.pmc.trans.isNone) startGrace u
    execPfailSet vbus s = .next (whenS (v.pmc.st == .hold && v.pmc.limitEnd.isNone) startLimit v) := by
  have counts : (s.pmc.pfail || !s.aon.powered) = false := by simp [hpf, hpow]
  simp only [execPfailSet, counts, Bool.false_eq_true, if_false]

/-- With no HOLD by hold-up to return from, and no drain toward one, nothing but the flag, its record and the timers changes (R136, R137). -/
theorem execPfailClear_of_set {s : State} (vbus : Nat) (hpf : s.pmc.pfail = true) :
    let u := routePost 2 (powerEvent (logEvent 2 0x8003 (detail [(16, 2, vbus)])
      (chargeEval { s with pmc := { s.pmc with pfail := false, vbus := vbus, graceEnd := none, limitEnd := none } })))
    u.pmc.holdBy = none → u.pmc.holdupDrain = false → execPfailClear vbus s = .next u := by
  intro u hheld hdrain
  simp only [u] at hheld hdrain
  simp only [execPfailClear, hpf, Bool.not_true, Bool.false_eq_true, if_false, hheld, hdrain, Bool.false_and, u]

theorem execGraceTimerExpiry_of_pfail {s : State} (hgrace : s.pmc.graceEnd.isSome = true) (hpf : s.pmc.pfail = true) (hdata : s.dataOn = true) :
    execGraceTimerExpiry s =
      .next (callDown false 1 0 0 s.pmc.drainMs { s with pmc := { s.pmc with graceEnd := none, holdupDrain := true } }) :=
  if_pos (by simp [hgrace, hpf, hdata])

theorem execHoldLimitExpiry_of_hold {s : State} (hlimit : s.pmc.limitEnd.isSome = true) (hst : s.pmc.st = .hold) (htrans : s.pmc.trans = none) :
    let u := callDown true 1 (6 + b2n (s.aon.rtcAlarm != 0)) s.aon.rtcAlarm s.pmc.drainMs { s with pmc := { s.pmc with limitEnd := none } }
    execHoldLimitExpiry s = .next { u with pmc := { u.pmc with trans := u.pmc.trans.map fun x => { x with fromLimit := true } } } :=
  if_pos (by simp [hlimit, hst, htrans])

/-- Settles O2: each event of the supervision in the branch that its premises select. -/
theorem inputSupervisionCompletes : Obligations.InputSupervisionCompletes :=
  ⟨fun _ vin hpow => execVinLow_of_powered vin hpow,
   fun _ _ vin hov => execVinOv_of_change vin hov,
   fun _ vbus hpf hpow => execPfailSet_of_clear vbus hpf hpow,
   fun _ vbus hpf => execPfailClear_of_set vbus hpf,
   fun _ hgrace hpf hdata => execGraceTimerExpiry_of_pfail hgrace hpf hdata,
   fun _ hlimit hst htrans => execHoldLimitExpiry_of_hold hlimit hst htrans⟩

/-! ### Drains, waiting calls and SHELF entry (R128, R131, R139, R160, R1043) -/

theorem execDrainEnd_of_drain {s : State} {x : Transition} (htrans : s.pmc.trans = some x) (hphase : x.phase = .drain) :
    execDrainEnd s = .next (reachHold (whenS ((drainAbort s).1 != 0) (logEvent 2 0x8005 (detail [(16, 4, (drainAbort s).1)])) (drainAbort s).2)) := by
  simp only [execDrainEnd, htrans, hphase, beq_self_eq_true, if_true]

/-- A command's call holds whatever has happened meanwhile (R1043); while the device is live it is taken. -/
theorem execWaitingTransitionTaken_of_command {s : State} {c : TransCall} {rest : List TransCall} (htrans : s.pmc.trans = none)
    (hcalls : s.pmc.calls = c :: rest) (hlive : s.live = true) (hcause : c.cause = 0) :
    let u := { s with pmc := { s.pmc with calls := rest } }
    execWaitingTransitionTaken s =
      if c.target == 1 || c.target == 2 then
        .next (finishWaits (fun k => k == .power c.target) stOk (fun _ => [])
          (if s.pmc.st.code == c.target then u else enterRunTrim (stateOfCode c.target) c.cause u))
      else .next (answerHeld (callDown (c.target == 0x10) c.cause c.mask c.alarm c.drainMs u)) := by
  have taken : (false || !s.live) = false := by simp [hlive]
  simp only [execWaitingTransitionTaken, htrans, hcalls, hcause]
  exact if_neg (Bool.eq_false_iff.mp taken)

theorem execWaitingTransitionTaken_down {s : State} {c : TransCall} {rest : List TransCall} (htrans : s.pmc.trans = none)
    (hcalls : s.pmc.calls = c :: rest) (hlive : s.live = true) (hcause : c.cause = 0) (htarget : c.target = 3 ∨ c.target = 0x10) :
    execWaitingTransitionTaken s =
      .next (answerHeld (callDown (c.target == 0x10) c.cause c.mask c.alarm c.drainMs { s with pmc := { s.pmc with calls := rest } })) :=
  (execWaitingTransitionTaken_of_command htrans hcalls hlive hcause).trans (if_neg (by rcases htarget with h | h <;> simp [h]))

theorem execWaitingTransitionTaken_up {s : State} {c : TransCall} {rest : List TransCall} (htrans : s.pmc.trans = none)
    (hcalls : s.pmc.calls = c :: rest) (hlive : s.live = true) (hcause : c.cause = 0) (htarget : c.target = 1 ∨ c.target = 2)
    (hother : s.pmc.st.code ≠ c.target) :
    execWaitingTransitionTaken s = .next (finishWaits (fun k => k == .power c.target) stOk (fun _ => [])
      (enterRunTrim (stateOfCode c.target) c.cause { s with pmc := { s.pmc with calls := rest } })) := by
  refine (execWaitingTransitionTaken_of_command htrans hcalls hlive hcause).trans ((if_pos (by simpa using htarget)).trans ?_)
  rw [if_neg (by simpa using hother)]

theorem execShelfReplyDelivered_of_held {s : State} {x : Transition} (htrans : s.pmc.trans = some x) (hphase : x.phase = .held) :
    execShelfReplyDelivered s = .next { s with pmc := { s.pmc with trans := some { x with phase := .entry } } } := by
  simp only [execShelfReplyDelivered, htrans, hphase, beq_self_eq_true, if_true]

/-- Steps 2-4 of Table 04-6 once the label no longer holds the mirror. -/
theorem execShelfEntry_of_mirrored {s : State} {x : Transition} (htrans : s.pmc.trans = some x) (hphase : x.phase = .entry)
    (hmirror : x.mirror ≠ 0) (hst : s.pmc.st = .hold) (hlbl : s.lbl.mirrorAt = none) :
    let u := stateChange 3 0x10 x.shelfCause (linksDown (fun _ => true) 8 s)
    execShelfEntry s = .next (applyDomains .shelf (batShelf (latRefresh { u with
      aon := { u.aon with wakeMask := x.mask, rtcAlarm := x.alarm, commitMark := true }
      pmc := { u.pmc with st := .shelf, ibEn := false, upStep := 0, limitEnd := none, holdBy := none, calls := [],
                          trans := some { x with phase := .falling } }
      cmd := { u.cmd with waits := [], queue := [] } }))) := by
  have made : (x.mirror == 0) = false := beq_false_of_ne hmirror
  simp only [execShelfEntry, htrans, hphase, hst, beq_self_eq_true, Bool.and_self, if_true, made, whenS_false, hlbl, Option.isSome_none,
    Bool.false_eq_true, if_false]

theorem execShelfRailsDown_of_falling {s : State} {x : Transition} (htrans : s.pmc.trans = some x) (hphase : x.phase = .falling) :
    let u := modLbl (fun y => { y with jobs := y.jobs.filter (·.running), mirrorAt := none }) s
    execShelfRailsDown s = .next { u with pmc := { u.pmc with trans := none, st := .shelf }, ckg := { u.ckg with xtal := false, pll := false } } := by
  simp only [execShelfRailsDown, htrans, hphase, beq_self_eq_true, if_true]

/-- Settles O3: each turn of a transition in the phase that its premises name. -/
theorem transitionsComplete : Obligations.TransitionsComplete :=
  ⟨fun _ _ htrans hphase => execDrainEnd_of_drain htrans hphase,
   fun _ _ _ htrans hcalls hlive hcause htarget => execWaitingTransitionTaken_down htrans hcalls hlive hcause htarget,
   fun _ _ _ htrans hcalls hlive hcause htarget hother => execWaitingTransitionTaken_up htrans hcalls hlive hcause htarget hother,
   fun _ _ htrans hphase => execShelfReplyDelivered_of_held htrans hphase,
   fun _ _ htrans hphase hmirror hst hlbl => execShelfEntry_of_mirrored htrans hphase hmirror hst hlbl,
   fun _ _ htrans hphase => execShelfRailsDown_of_falling htrans hphase⟩

/-! ### Rails, phases and wakes (R124, R126, R141, R981) -/

theorem execRailFault_of_live {s : State} (rail : Nat) (mirrorOk : Bool) (h : s.live = true) :
    execRailFault rail mirrorOk s = .next (shelfNow 4 mirrorOk (logEvent 2 0x8006 (detail [(16, 1, rail)]) s)) :=
  if_pos h

theorem execVcorePhaseAdd_of_room {s : State} (hlive : s.live = true) (hroom : s.pmc.phasesOn + s.aon.phaseShed.length < s.pmc.phases) :
    execVcorePhaseAdd s = .next { s with pmc := { s.pmc with phasesOn := s.pmc.phasesOn + 1 } } :=
  if_pos (by simp [hlive, hroom])

/-- The phase is marked and recorded either way; the phases left decide whether the device also goes to HOLD (R981). -/
theorem execVcorePhaseShed_of_fitted {s : State} {phase : Nat} (hlive : s.live = true) (hnew : phase ∉ s.aon.phaseShed) (hfit : phase < s.pmc.phases) :
    let shed := nset phase s.aon.phaseShed
    let left := s.pmc.phases - shed.length
    let u := logEvent 29 0x8005 (detail [(16, 1, phase), (17, 1, left)])
      { s with aon := { s.aon with phaseShed := shed }, pmc := { s.pmc with phasesOn := min s.pmc.phasesOn left } }
    execVcorePhaseShed phase s = if left < ceilDiv s.pmc.phases 2 then .next (callDown false 8 0 0 50 (logEvent 2 0x8006 (detail [(16, 1, 2)]) u))
      else .next u := by
  have taken : (s.aon.phaseShed.contains phase || decide (s.pmc.phases ≤ phase) || !s.live) = false := by simp [hlive, hnew, hfit]
  simp only [execVcorePhaseShed, taken, Bool.false_eq_true, if_false, decide_eq_true_eq]

/-- In SHELF with no transition running a source with its mask bit set is latched as the pending wake (R140, R141). -/
theorem wakeEvent_of_shelf {s : State} {cause maskBit : Nat} (hst : s.pmc.st = .shelf) (htrans : s.pmc.trans = none)
    (hmask : s.aon.wakeMask.testBit maskBit = true) (hfirst : s.aon.wakePending = none) :
    wakeEvent cause maskBit s = { s with aon := { s.aon with wakePending := some cause } } := by
  simp only [wakeEvent, htrans, hst, hmask, hfirst, beq_self_eq_true, Bool.and_self, Bool.not_true, Bool.false_eq_true, if_false, Option.getD_none]

/-- Settles O4: the rail and phase rows in the branch that their premises select, and the three wake sources through the one wake event. -/
theorem railsAndWakesComplete : Obligations.RailsAndWakesComplete :=
  ⟨fun _ rail mirrorOk hlive => execRailFault_of_live rail mirrorOk hlive,
   fun _ hlive hroom => execVcorePhaseAdd_of_room hlive hroom,
   fun _ _ hlive hnew hfit henough => (execVcorePhaseShed_of_fitted hlive hnew hfit).trans (if_neg (Nat.not_lt.mpr henough)),
   fun _ _ hlive hnew hfit hfew => (execVcorePhaseShed_of_fitted hlive hnew hfit).trans (if_pos hfew),
   fun _ hst htrans hmask hfirst => congrArg _ (wakeEvent_of_shelf hst htrans hmask hfirst),
   fun _ hst htrans hmask hfirst => congrArg _ (wakeEvent_of_shelf hst htrans hmask hfirst),
   fun _ hst htrans hmask hfirst => congrArg _ (wakeEvent_of_shelf hst htrans hmask hfirst)⟩

/-! ### The power opcodes (Table 04-13) -/

theorem execPwrStateGet_given {s t : State} {p : Packet} (given : Given 0x0201 p s t) (hlen : p.params.length = 0) :
    execPwrStateGet s = .next (complete p stOk (layout 16 [(0, 1, t.pmc.st.code), (1, 1, t.powerTarget), (2, 1, t.aon.wakeCause),
      (3, 1, b2n t.pmc.pfail + 2 * b2n t.pmc.vinOv + 4 * b2n t.pmc.vinLow + 8 * b2n t.pmc.graceEnd.isSome + 16 * b2n t.pmc.holdBy.isSome),
      (4, 2, t.pmc.vin), (6, 2, t.pmc.vbus),
      (8, 4, match t.pmc.graceEnd, t.pmc.limitEnd with | some e, _ => t.msLeft e | none, some e => t.msLeft e | none, none => 0xFFFFFFFF)]) t) :=
  (interpret_given _ given).trans (congrArg _ (checked_ok _ _ _ _ _ hlen rfl))

/-- From RUN or TRIM to the other, or out of HOLD, with no transition running (R159). -/
theorem execPwrStateSet_up {s t : State} {p : Packet} (given : Given 0x0202 p s t) (hlen : p.params.length = 16)
    (htarget : u8 p.params 0 = 1 ∨ u8 p.params 0 = 2) (hms : u32 p.params 8 ≤ 1000) (hother : t.pmc.st.code ≠ u8 p.params 0)
    (htrans : t.pmc.trans = none) : execPwrStateSet s = .next (ok p (enterRunTrim (stateOfCode (u8 p.params 0)) 0 t)) := by
  have notShelf : (u8 p.params 0 == 0x10) = false := by rcases htarget with h | h <;> simp [h]
  have notHold : (u8 p.params 0 == 3) = false := by rcases htarget with h | h <;> simp [h]
  have moves : (u8 p.params 0 == t.pmc.st.code) = false := beq_false_of_ne hother.symm
  refine (interpret_given _ given).trans (congrArg _ ((checked_ok _ _ _ _ _ hlen ?_).trans ?_))
  · rcases htarget with h | h <;> simp [h, hms]
  · simp only [notShelf, notHold, moves, htrans, Bool.false_and, Bool.or_self, Bool.false_eq_true, if_false]

/-- To HOLD: the call is not refused and its command waits for HOLD to be reached (R160, R161, R1043). -/
theorem execPwrStateSet_hold {s t : State} {p : Packet} (given : Given 0x0202 p s t) (hlen : p.params.length = 16) (htarget : u8 p.params 0 = 3)
    (hms : u32 p.params 8 ≤ 1000) (hother : t.pmc.st.code ≠ 3) (hdrain : (t.pmc.trans.any fun x => x.phase != .drain) = false) :
    let ms := if u32 p.params 8 = 0 then 200 else u32 p.params 8
    execPwrStateSet s = .next (answerHeld (callDown false 0 (u16 p.params 2 % 16) (u32 p.params 4) ms
      (waitFor p (.power 3) { t with pmc := { t.pmc with drainMs := ms } }))) := by
  have moves : (3 == t.pmc.st.code) = false := beq_false_of_ne hother.symm
  have notShelf : ((3 : Nat) == 0x10) = false := rfl
  refine (interpret_given _ given).trans (congrArg _ ((checked_ok _ _ _ _ _ hlen ?_).trans ?_))
  · simp [htarget, hms]
  · simp only [htarget, notShelf, moves, hdrain, beq_self_eq_true, beq_iff_eq, Bool.false_and, Bool.true_or, Bool.false_eq_true, if_true, if_false]

theorem execPwrDomainGet_given {s t : State} {p : Packet} (given : Given 0x0203 p s t) (hlen : p.params.length = 4) (hcount : 1 ≤ u16 p.params 2)
    (hrange : u16 p.params 0 + u16 p.params 2 ≤ 148) : execPwrDomainGet s = .next (complete p stOk (putLe 2 (u16 p.params 0) ++
      putLe 2 (u16 p.params 2) ++ ((List.range (u16 p.params 2)).map fun i => domainEntry t (u16 p.params 0 + i)).flatten) t) := by
  have hfirst : u16 p.params 0 < 148 := by omega
  have hmost : u16 p.params 2 ≤ 148 := by omega
  exact (interpret_given _ given).trans (congrArg _ (checked_ok _ _ _ _ _ hlen (by simp [inR, hfirst, hcount, hmost, hrange])))

/-- To policy, where the policy asks for no switch (R162). -/
theorem execPwrDomainSet_policy {s t : State} {p : Packet} (given : Given 0x0204 p s t) (hlen : p.params.length = 4) (hd : u16 p.params 0 < 148)
    (hact : u8 p.params 2 = 3) (hlost : t.domLost (u16 p.params 0) = false) (hspare : (t.domain (u16 p.params 0)).st ≠ .spare) :
    let u := modDomain (u16 p.params 0) (fun y => { y with forced := none }) t
    let want := domainFor u u.pmc.st (u16 p.params 0)
    want.st = (t.domain (u16 p.params 0)).st → execPwrDomainSet s = .next (ok p (setDomain (u16 p.params 0) want u)) := by
  intro u want hwant
  have notSpare : ((t.domain (u16 p.params 0)).st == .spare) = false := beq_false_of_ne hspare
  have notOn : (want.st == .on && (t.domain (u16 p.params 0)).st != .on) = false := by rw [hwant]; exact Bool.and_not_self _
  have notOff : (want.st == .gated && (t.domain (u16 p.params 0)).st == .on) = false := by
    rw [hwant]
    cases (t.domain (u16 p.params 0)).st <;> rfl
  refine (interpret_given _ given).trans (congrArg _ ((checked_ok _ _ _ _ _ hlen (by simp [inR, hd, hact])).trans ?_))
  simp only [hact, hlost, notSpare, Nat.reduceBEq, Bool.false_and, Bool.or_self, Bool.false_eq_true, if_false]
  exact (if_neg (Bool.eq_false_iff.mp notOn)).trans (if_neg (Bool.eq_false_iff.mp notOff))

theorem execPwrConverterCfg_rail0 {s t : State} {p : Packet} (given : Given 0x0205 p s t) (hsel : u8 p.params 0 = 1) (hlen : p.params.length = 8)
    (haddr : inR (u8 p.params 4) 8 0x77 = true) (hfree : addrTaken t 0 (u8 p.params 4) = false) (hmv : inR (u16 p.params 6) 10800 12600 = true) :
    execPwrConverterCfg s = .next (ok p (emit (.pmbus (u8 p.params 4) 0x21 (u16 p.params 6)) (setRail 0 (u8 p.params 4) (u16 p.params 6) t))) := by
  refine (interpret_given _ given).trans (congrArg _ ?_)
  simp only [hsel]
  exact checked_ok _ _ _ _ _ hlen (by simp [haddr, hfree, hmv])

theorem execPwrConverterCfg_powerFail {s t : State} {p : Packet} (given : Given 0x0205 p s t) (hsel : u8 p.params 0 = 0x10)
    (hlen : p.params.length = 16) (hmv : inR (u16 p.params 4) 9000 58000 = true) (hgrace : u32 p.params 8 ≤ 3600000)
    (hlimit : u32 p.params 12 ≤ 86400) : execPwrConverterCfg s = .next (ok p { t with pmc := { t.pmc with
      pfailMv := u16 p.params 4, autoResume := (u16 p.params 6).testBit 0, graceMs := u32 p.params 8, holdLimitS := u32 p.params 12 } }) := by
  refine (interpret_given _ given).trans (congrArg _ ?_)
  simp only [hsel]
  exact checked_ok _ _ _ _ _ hlen (by simp [hmv, hgrace, hlimit])

theorem execRtcGet_given {s t : State} {p : Packet} (given : Given 0x0206 p s t) (hlen : p.params.length = 0) : execRtcGet s =
    .next (complete p stOk (layout 8 [(0, 4, t.aon.rtcSec.toNat), (4, 2, t.aon.rtcSub), (6, 1, b2n t.aon.rtcLost)]) t) :=
  (interpret_given _ given).trans (congrArg _ (checked_ok _ _ _ _ _ hlen rfl))

theorem execRtcSet_given {s t : State} {p : Packet} (given : Given 0x0207 p s t) (hlen : p.params.length = 8) : execRtcSet s =
    .next (ok p { t with aon := { t.aon with rtcSec := BitVec.ofNat 32 (u32 p.params 0), rtcSub := 0, rtcAcc := 0, rtcLost := false } }) :=
  (interpret_given _ given).trans (congrArg _ (checked_ok _ _ _ _ _ hlen rfl))

/-- Settles O6: each opcode taken, its parameters checked, in the branch that they select. -/
theorem powerCommandsComplete : Obligations.PowerCommandsComplete :=
  ⟨fun _ _ _ given hlen => execPwrStateGet_given given hlen,
   fun _ _ _ given hlen htarget hms hother htrans => execPwrStateSet_up given hlen htarget hms hother htrans,
   fun _ _ _ given hlen htarget hms hother hdrain => execPwrStateSet_hold given hlen htarget hms hother hdrain,
   fun _ _ _ given hlen hcount hrange => execPwrDomainGet_given given hlen hcount hrange,
   fun _ _ _ given hlen hd hact hlost hspare => execPwrDomainSet_policy given hlen hd hact hlost hspare,
   fun _ _ _ given hsel hlen haddr hfree hmv => execPwrConverterCfg_rail0 given hsel hlen haddr hfree hmv,
   fun _ _ _ given hsel hlen hmv hgrace hlimit => execPwrConverterCfg_powerFail given hsel hlen hmv hgrace hlimit,
   fun _ _ _ given hlen => execRtcGet_given given hlen,
   fun _ _ _ given hlen => execRtcSet_given given hlen⟩

end Sys2Proof.Machine
end

section
/-!
Proofs of the statement on clocks and housekeeping (ch 05): the rounds and the trim, clock loss, the reference clocks, the DDR PLLs, and the three
housekeeping opcodes.
-/
namespace Sys2Proof.Machine
open Sys2Proof

/-! ### Housekeeping rounds and the trim (R167, R174, R175, R181) -/

theorem execHkRoundStart_of_live {s : State} (hlive : s.live = true) (hunreset : s.unreset = true) :
    execHkRoundStart s = .next { s with hkp := { s.hkp with started := s.hkp.started + 1, conv := 0, raw := [], thrRound := s.hkp.thr } } :=
  if_pos (by simp [hlive, hunreset])

/-- A conversion while D003 is not FENCED: channel 31 reads 0, and channels 1 and 2 are VIN and VBUS as well (Table 05-3). -/
theorem execHkConversion_of_unfenced {s : State} (value : Nat) (hlive : s.live = true) (hconv : s.hkp.conv < 32)
    (hfree : (s.domain 3).st ≠ .fenced) :
    let v := if s.hkp.conv = 31 then 0 else value % 65536
    let u := { s with hkp := { s.hkp with conv := s.hkp.conv + 1, raw := s.hkp.raw ++ [v] } }
    execHkConversion value none s = .next (if s.hkp.conv = 1 then { u with pmc := { u.pmc with vin := v } }
      else if s.hkp.conv = 2 then { u with pmc := { u.pmc with vbus := v } } else u) := by
  have taken : (decide (s.hkp.conv < 32) && s.live) = true := by simp [hlive, hconv]
  have unfenced : ((s.domain 3).st == .fenced) = false := beq_false_of_ne hfree
  simp only [execHkConversion, taken, unfenced, ifSome, beq_iff_eq, Bool.false_eq_true, if_true, if_false]

theorem execHkConversion_of_plain {s : State} (value : Nat) (hlive : s.live = true) (hconv : s.hkp.conv < 31) (hvin : s.hkp.conv ≠ 1)
    (hvbus : s.hkp.conv ≠ 2) (hfree : (s.domain 3).st ≠ .fenced) : execHkConversion value none s =
      .next { s with hkp := { s.hkp with conv := s.hkp.conv + 1, raw := s.hkp.raw ++ [value % 65536] } } := by
  refine (execHkConversion_of_unfenced value hlive (by omega) hfree).trans ?_
  simp only [Nat.ne_of_lt hconv, hvin, hvbus, if_false]

theorem execHkConversion_of_vin {s : State} (value : Nat) (hlive : s.live = true) (hconv : s.hkp.conv = 1) (hfree : (s.domain 3).st ≠ .fenced) :
    execHkConversion value none s = .next { s with
      hkp := { s.hkp with conv := 2, raw := s.hkp.raw ++ [value % 65536] }
      pmc := { s.pmc with vin := value % 65536 } } := by
  refine (execHkConversion_of_unfenced value hlive (by omega) hfree).trans ?_
  simp only [hconv, Nat.reduceEqDiff, Nat.reduceAdd, if_true, if_false]

theorem execHkConversion_of_last {s : State} (value : Nat) (hlive : s.live = true) (hconv : s.hkp.conv = 31)
    (hfree : (s.domain 3).st ≠ .fenced) :
    execHkConversion value none s = .next { s with hkp := { s.hkp with conv := 32, raw := s.hkp.raw ++ [0] } } := by
  refine (execHkConversion_of_unfenced value hlive (by omega) hfree).trans ?_
  simp only [hconv, Nat.reduceEqDiff, Nat.reduceAdd, if_true, if_false]

/-- The published estimates come from the readings in every sensor fault but the fenced one, which is 3 (R181, R197). -/
theorem execHkPublication_of_fault {s : State} {c : Nat} (hot : Option (Nat × Nat × Nat)) (short0 short1 : Bool) (hlive : s.live = true)
    (hconv : s.hkp.conv = 32) (hraw : s.hkp.raw.length = 32) (hfree : (s.domain 3).st ≠ .fenced)
    (hbad : sensorCheck false s.hkp.raw = some c) (hc : c ≠ 3) :
    let tz := zoneTemps s.hkp.k s.hkp.raw
    execHkPublication hot short0 short1 s = .next (conditionNotice (actTrim (sensorFault c (routePost 1 (overtempStep hot { s with
      hkp := { s.hkp with round := s.hkp.started, chan := s.hkp.raw, raw := [], tz := tz, gov := (governing tz).1, govZone := (governing tz).2,
                          mr4Short := [short0, short1] } }))))) := by
  have ready : (s.hkp.conv == 32 && s.hkp.raw.length == 32 && s.live) = true := by simp [hlive, hconv, hraw]
  have unfenced : ((s.domain 3).st == .fenced) = false := beq_false_of_ne hfree
  have judged : (some c == some 3) = false := beq_false_of_ne (mt Option.some.inj hc)
  simp only [execHkPublication, ready, unfenced, hbad, judged, Bool.not_true, Bool.false_eq_true, if_false]

theorem execTrimSlewStep_of_sound {s : State} (hlive : s.live = true) (hsound : s.hkp.fault = none) : execTrimSlewStep s = .next { s with
    ckg := { s.ckg with trim := s.ckg.trim + max (-10) (min 10 (s.ckg.trims.getD s.ckg.trimBand 0 - s.ckg.trim)) } } :=
  if_pos (by simp [hlive, hsound])

/-! ### Loss of clocks and of locks (R168-R170, R172, R173) -/

theorem execClockLoss_of_live {s : State} (pll : Bool) (hlive : s.live = true) :
    let u := shelfNow 7 false s
    execClockLoss pll s = .next { u with rst := { u.rst with active := none }, aon := { u.aon with clkFail := some (b2n pll) } } := by
  simp only [execClockLoss, hlive, Bool.true_or, if_true]

theorem execClockLoss_of_rising {s : State} (pll : Bool) (hboot : s.pmc.st = .boot) (hstep : 6 ≤ s.pmc.upStep) (hw : s.rst.active ≠ some .w) :
    let u := abandonPowerUp s
    execClockLoss pll s = .next { u with aon := { u.aon with clkFail := some (b2n pll) } } :=
  (if_neg (by simp [State.live, hboot, hw])).trans (if_pos (by simp [hboot, hstep]))

theorem execDdrPllRelockTimeout_of_relocking {s : State} {ch : Nat} (relocked : Bool) (hch : s.ckg.relocking.contains ch = true) :
    let u := { s with ckg := { s.ckg with relocking := nclr ch s.ckg.relocking } }
    execDdrPllRelockTimeout ch relocked s = if relocked then .next u
      else .next (fenceChannel ch (logEvent 3 0x8004 (detail [(16, 1, ch)]) { u with ckg := { u.ckg with unlocked := nset ch u.ckg.unlocked } })) :=
  if_pos hch

/-! ### The housekeeping opcodes (Table 05-5) -/

/-- The band is the one in force while D003 is not FENCED (R197). -/
theorem execHkpStatus_given {s t : State} {p : Packet} (given : Given 0x0110 p s t) (hlen : p.params.length = 0)
    (hfree : (t.domain 3).st ≠ .fenced) : execHkpStatus s = .next (complete p stOk (layout 16 [(0, 2, t.hkp.chan.getD 0 0),
      (2, 2, unsigned 16 t.hkp.gov), (4, 1, t.hkp.band), (5, 1, t.hkp.govZone), (6, 2, unsigned 16 (t.hkp.r1.getD 0)),
      (8, 2, unsigned 16 (t.hkp.r10.getD 0)),
      (10, 1, b2n t.hkp.warn + 2 * b2n t.hkp.act + 4 * b2n t.hkp.trip + 8 * b2n t.hkp.fault.isSome + 16 * b2n t.hkp.r1.isSome
        + 32 * b2n t.hkp.r10.isSome + 64 * b2n t.hkp.overtemp),
      (12, 4, t.hkp.round)] ++ (t.hkp.chan.map (putLe 2)).flatten ++ (t.hkp.tz.map fun x => putLe 2 (unsigned 16 x)).flatten) t) := by
  have unfenced : ((t.domain 3).st == .fenced) = false := beq_false_of_ne hfree
  refine (interpret_given _ given).trans (congrArg _ ((checked_ok _ _ _ _ _ hlen rfl).trans ?_))
  simp only [unfenced, Bool.false_eq_true, if_false]

theorem execHkpThresholdsSet_given {s t : State} {p : Packet} (given : Given 0x0111 p s t) (hlen : p.params.length = 16)
    (hfields : (thresholdFields p.params).all (·.2) = true) :
    execHkpThresholdsSet s = .next (ok p { t with hkp := { t.hkp with thr := thresholdsOf p.params } }) :=
  (interpret_given _ given).trans (congrArg _ (checked_ok _ _ _ _ _ hlen hfields))

theorem execClkStatus_given {s t : State} {p : Packet} (given : Given 0x0112 p s t) (hlen : p.params.length = 0) :
    let locked := fun ch => t.isOn (88 + ch) && !t.ckg.relocking.contains ch && !t.ckg.unlocked.contains ch
    execClkStatus s = .next (complete p stOk (layout 16 [
      (0, 1, b2n t.ckg.pll + 2 * b2n t.ckg.xtal + 4 * b2n t.ckg.ethRef + 8 * b2n t.ckg.pcieRef + 16 * b2n (locked 0) + 32 * b2n (locked 1)
        + 64 * b2n t.aon.powered + 128 * b2n t.aon.clkFail.isSome),
      (1, 1, t.ckg.trimBand), (2, 2, unsigned 16 t.ckg.trim), (4, 2, unsigned 16 (t.ckg.trims.getD t.ckg.trimBand 0)),
      (6, 2, t.hkp.chan.getD 30 0)]) t) :=
  (interpret_given _ given).trans (congrArg _ (checked_ok _ _ _ _ _ hlen rfl))

/-- Settles O7: each event of the clocks and of a round in the branch that its premises select, and each opcode taken with its parameters checked. -/
theorem clocksComplete : Obligations.ClocksComplete :=
  ⟨fun _ hlive hunreset => execHkRoundStart_of_live hlive hunreset,
   fun _ value hlive hconv hvin hvbus hfree => execHkConversion_of_plain value hlive hconv hvin hvbus hfree,
   fun _ value hlive hconv hfree => execHkConversion_of_vin value hlive hconv hfree,
   fun _ value hlive hconv hfree => execHkConversion_of_last value hlive hconv hfree,
   fun _ short0 short1 _ hlive hconv hraw hfree hbad hc => execHkPublication_of_fault none short0 short1 hlive hconv hraw hfree hbad hc,
   fun _ hlive hsound => execTrimSlewStep_of_sound hlive hsound,
   fun _ pll hlive => execClockLoss_of_live pll hlive,
   fun _ pll hboot hstep hw => execClockLoss_of_rising pll hboot hstep hw,
   exec_refclkLost 0,
   exec_refclkLost 1,
   exec_refclkReturn 0,
   exec_refclkReturn 1,
   fun s ch => exec_ddrPllUnlock ch s,
   fun _ _ hch => execDdrPllRelockTimeout_of_relocking true hch,
   fun _ _ hch => execDdrPllRelockTimeout_of_relocking false hch,
   fun _ _ _ given hlen hfree => execHkpStatus_given given hlen hfree,
   fun _ _ _ given hlen hfields => execHkpThresholdsSet_given given hlen hfields,
   fun _ _ _ given hlen => execClkStatus_given given hlen⟩

end Sys2Proof.Machine
end

section
/-!
Proofs of the statement on the host interface (ch 06): the PCIe link and its conventional resets, configuration requests, function level resets, reads
and translations, pending messages, and the management registers. What an FLR leaves of the configuration is the model's choice (log 31).
-/
namespace Sys2Proof.Machine
open Sys2Proof

/-! ### The link and its conventional resets (R202, R207, R1044) -/

/-- A row that acts under one condition, where the condition holds. -/
theorem next_whenS_of {c : Bool} (hc : c = true) (f : State → State) (s : State) : (.next (whenS c f s) : Out) = .next (f s) := by
  rw [hc, whenS_true]

theorem execPerstNAssert_of_awake {s : State} (hawake : s.awake = true) (hunreset : s.unreset = true) :
    execPerstNAssert s = .next (convReset 0 { s with pce := { s.pce with perst := true } }) :=
  next_whenS_of (Bool.and_eq_true_iff.mpr ⟨hawake, hunreset⟩) _ _

theorem execPerstNDeassert_of_convReset {s : State} (hconv : s.pce.convReset = true) :
    execPerstNDeassert s = .next (endConvReset { s with pce := { s.pce with perst := false } }) :=
  next_whenS_of hconv _ _

theorem execLinkTrainingStart_of_ready {s : State} (hperst : s.pce.perst = false) (href : s.ckg.pcieRef = true) (hawake : s.awake = true)
    (hunreset : s.unreset = true) (hconv : s.pce.convReset = false) (hdown : s.pce.speed = 0) (hcore : s.domLost 30 = false)
    (hphy : s.domLost 31 = false) :
    execLinkTrainingStart s = .next { s with pce := { s.pce with training := true, trainedAt := s.us } } := by
  simp [execLinkTrainingStart, hperst, href, hawake, hunreset, hconv, hdown, hcore, hphy]

theorem execLinkDlActive_of_training {s : State} (speed width : Nat) (upcfg : Bool) (htrain : s.pce.training = true) (hawake : s.awake = true)
    (hunreset : s.unreset = true) :
    let sp := max 1 (min 5 speed)
    let w := min s.quadWidth (formedWidth width)
    execLinkDlActive speed width upcfg s = .next (logEvent 5 0x8002 (detail [(16, 1, sp), (17, 1, w), (18, 1, 0)])
      { s with pce := { s.pce with training := false, speed := sp, width := w, upcfg := upcfg } }) :=
  if_pos (by simp [htrain, hawake, hunreset])

/-! ### Configuration requests (R203, R212) -/

/-- The guard that configuration requests and FLRs share: PF0 is there, and so is a VF that is enabled. -/
theorem absent_eq_false {s : State} {f : Nat} (hf : f = pf0 ∨ s.vfOn f = true) : (f != pf0 && !s.vfOn f) = false := by
  rcases hf with rfl | hon
  · rfl
  · rw [hon]
    exact Bool.and_false _

/-- Reads and writes alike. -/
theorem execConfigRequest_of_unbooted {s : State} (f : Nat) (reg : CfgReg) (write : Option Nat) (hup : s.linkUp = true)
    (hconv : s.pce.convReset = false) (hboot : s.bootDone = false) (hearly : s.us < s.pce.trainedAt + 1000000) :
    execConfigRequest f reg write s = .next (emit (.cfgReply f 2 0) s) :=
  (if_neg (by simp [hup, hconv])).trans (if_pos (by simp [hboot, hearly]))

theorem execConfigRequest_of_absent {s : State} {f : Nat} (reg : CfgReg) (write : Option Nat) (hup : s.linkUp = true)
    (hconv : s.pce.convReset = false) (hboot : s.bootDone = true) (hf : f ≠ pf0) (hoff : s.vfOn f = false) :
    execConfigRequest f reg write s = .next (emit (.cfgReply f 1 0xFFFFFFFF) s) :=
  (if_neg (by simp [hup, hconv])).trans ((if_neg (by simp [hboot])).trans (if_pos (by simp [hf, hoff])))

theorem execConfigRequest_read {s : State} {f : Nat} (reg : CfgReg) (hup : s.linkUp = true) (hconv : s.pce.convReset = false)
    (hboot : s.bootDone = true) (hf : f = pf0 ∨ s.vfOn f = true) :
    execConfigRequest f reg none s = .next (emit (.cfgReply f 0 (cfgValue s f reg)) s) :=
  (if_neg (by simp [hup, hconv])).trans ((if_neg (by simp [hboot])).trans (if_neg (Bool.eq_false_iff.mp (absent_eq_false hf))))

theorem execConfigRequest_write {s : State} {f : Nat} (reg : CfgReg) (v : Nat) (hup : s.linkUp = true) (hconv : s.pce.convReset = false)
    (hboot : s.bootDone = true) (hf : f = pf0 ∨ s.vfOn f = true) :
    execConfigRequest f reg (some v) s = .next (emit (.cfgReply f 0 0) (cfgWrite f reg v s)) :=
  (if_neg (by simp [hup, hconv])).trans ((if_neg (by simp [hboot])).trans (if_neg (Bool.eq_false_iff.mp (absent_eq_false hf))))

/-! ### Function level resets (R208-R210) -/

/-- An FLR that is taken: PF0 takes every enabled VF with it and loses VF Enable and NumVFs, a VF is alone. -/
theorem execFlrStart_of_free {s : State} {f : Nat} (hconv : s.pce.convReset = false) (hf : f = pf0 ∨ s.vfOn f = true)
    (hflr : (s.fn f).flr = false) :
    let vfs := if f == pf0 then s.enabledVfs else []
    let u := forEach vfs (fun v s => modFn v (fun x => { x with flr := true }) (resetConfig v s)) (resetFn f s)
    let u := modFn f (fun x => { x with flr := true }) (resetConfig f u)
    execFlrStart f s = .next (if f == pf0 then { u with pce := { u.pce with vfEnable := false, numVfs := 0 } } else u) :=
  if_neg (by rw [hconv, absent_eq_false hf, hflr]; decide)

theorem execFlrStart_vf {s : State} {f : Nat} (hconv : s.pce.convReset = false) (hf : f ≠ pf0) (hon : s.vfOn f = true)
    (hflr : (s.fn f).flr = false) :
    execFlrStart f s = .next (modFn f (fun x => { x with flr := true }) (resetConfig f (resetFn f s))) := by
  have notPf0 : (f == pf0) = false := beq_false_of_ne hf
  refine (execFlrStart_of_free hconv (.inr hon) hflr).trans ?_
  rw [notPf0]
  rfl

/-! ### Reads, translations and messages (R219, R220, R227, R232) -/

theorem takeRead_of_find {s : State} {tag : Nat} {x : DmaRead} (hx : s.pce.reads.find? (fun r => r.tag == tag) = some x) :
    takeRead tag s = some (x, { s with pce := { s.pce with reads := s.pce.reads.erase x } }) := by
  simp only [takeRead, hx, Option.map_some]

/-- The tag is free in either case; what a good completion brought is left to the row that takes it. -/
theorem execDmaReadCompletion_of_find {s : State} {tag : Nat} {x : DmaRead} (good : Bool)
    (hx : s.pce.reads.find? (fun r => r.tag == tag) = some x) :
    let u := { s with pce := { s.pce with reads := s.pce.reads.erase x } }
    execDmaReadCompletion tag good s = .next (if good then u else readFailed x 2 u) := by
  simp only [execDmaReadCompletion, takeRead_of_find hx]

theorem execCompletionTimeout_of_find {s : State} {tag : Nat} {x : DmaRead} (hx : s.pce.reads.find? (fun r => r.tag == tag) = some x) :
    execCompletionTimeout tag s = .next (readFailed x 3 { s with pce := { s.pce with reads := s.pce.reads.erase x } }) := by
  simp only [execCompletionTimeout, takeRead_of_find hx]

theorem execMsixPendingSend_of_open {s : State} {f v : Nat} (hpend : (s.vec f v).pending = true) (hen : (s.fn f).msixEn = true)
    (hopen : s.vecOpen f v = true) (htalks : s.fnTalks f = true) :
    execMsixPendingSend f v s = .next (sendMsix f v (modVec f v (fun x => { x with pending := false }) s)) :=
  if_pos (by simp [hpend, hen, hopen, htalks])

/-- Settles O17: each row in the branch that its premises select; the rows without premises have one branch. -/
theorem hostLinkComplete : Obligations.HostLinkComplete :=
  ⟨fun _ hawake hunreset => execPerstNAssert_of_awake hawake hunreset,
   fun _ hconv => execPerstNDeassert_of_convReset hconv,
   fun _ hup => next_whenS_of hup _ _,
   fun _ hup => next_whenS_of hup _ _,
   fun _ hperst href hawake hunreset hconv hdown hcore hphy =>
     execLinkTrainingStart_of_ready hperst href hawake hunreset hconv hdown hcore hphy,
   fun _ speed width upcfg htrain hawake hunreset => execLinkDlActive_of_training speed width upcfg htrain hawake hunreset,
   fun _ f reg hup hconv hboot hearly => execConfigRequest_of_unbooted f reg none hup hconv hboot hearly,
   fun _ _ reg hup hconv hboot hf => execConfigRequest_read reg hup hconv hboot hf,
   fun _ _ v reg hup hconv hboot hf => execConfigRequest_write reg v hup hconv hboot hf,
   fun _ _ reg write hup hconv hboot hf hoff => execConfigRequest_of_absent reg write hup hconv hboot hf hoff,
   fun _ _ hconv hf hon hflr => execFlrStart_vf hconv hf hon hflr,
   fun _ hconv hflr => execFlrStart_of_free hconv (.inl rfl) hflr,
   fun _ hvf => next_whenS_of hvf _ _,
   fun _ _ _ hx => execDmaReadCompletion_of_find true hx,
   fun _ _ _ hx => execDmaReadCompletion_of_find false hx,
   fun _ _ _ hx => execCompletionTimeout_of_find hx,
   fun s f tag page => exec_atsInvalidation f tag page s,
   fun _ _ _ hpend hen hopen htalks => execMsixPendingSend_of_open hpend hen hopen htalks,
   fun s bits also => exec_mgtEventWrite bits also s,
   fun s reader => exec_mgtDmafCountRead reader s⟩

end Sys2Proof.Machine
end

section
/-!
Proofs of the statement on tenants (ch 07): charters, tenant states and resets, the bindings of VFs, and the FLR of a VF that an unbinding waits for.
-/
namespace Sys2Proof.Machine
open Sys2Proof

/-! ### Charters (R249, R252, R270, R271) -/

/-- A charter without faults whose limits hold what the tenant has. With no keys held, the highest key slot bounds nothing. -/
theorem execTntCharterSet_of_fits {s t : State} {p : Packet} (given : Given 0x0301 p s t) (hlen : p.params.length = 664) :
    let n := u8 p.params 0
    let old := t.tenant n
    let new := charterNew p.params old
    charterFault p.params old = none → t.ringsUsed n ≤ new.ringMax → old.keys = [] → old.spaces.length ≤ new.nsMax →
      t.charge n ≤ new.quotaKib * 1024 → t.sumTenants (·.ringMax) - old.ringMax + new.ringMax ≤ 4096 →
      t.sumTenants (·.keyMax) - old.keyMax + new.keyMax ≤ 4096 →
      execTntCharterSet s = .next (ok p (charter n (fun _ => new) t)) := by
  intro n old new hfault hrings hkeys hspaces hcharge hsumRings hsumKeys
  refine (interpret_given _ given).trans (congrArg _ ((if_neg (by simp [hlen])).trans ?_))
  have noneLow : [(8, decide (t.ringsUsed n ≤ new.ringMax)), (10, decide (old.keys.length ≤ new.keyMax) && old.keys.all fun k => decide (k.1 < new.keyMax)),
      (12, decide (old.spaces.length ≤ new.nsMax)), (16, decide (t.charge n ≤ new.quotaKib * 1024))].find? (fun f => !f.2) = none := by
    simp [hrings, hkeys, hspaces, hcharge]
  simp only [n, old, new] at hfault noneLow hsumRings hsumKeys ⊢
  simp [hfault, noneLow, Nat.not_lt.mpr hsumRings, Nat.not_lt.mpr hsumKeys]

theorem execTntCharterGet_given {s t : State} {p : Packet} (given : Given 0x0302 p s t) (hlen : p.params.length = 4) (hn : u8 p.params 0 ≤ 15) :
    let n := u8 p.params 0
    let x := t.tenant n
    let vfs := t.tenantVfs n
    execTntCharterGet s = .next (complete p stOk (charterBytes n x ++ putLe 4 x.gen.toNat ++ putLe 1 x.state ++ [0, 0, 0] ++ putLe 4 x.epoch.toNat
      ++ putLe 8 (maskOf vfs) ++ putLe 2 (t.ringsUsed n) ++ putLe 2 x.keys.length ++ putLe 2 x.spaces.length ++ [0, 0]
      ++ ((vfs.map fun f => putLe 4 (t.vf f).spoof).flatten ++ zeros 64).take 64) t) :=
  (interpret_given _ given).trans (congrArg _ (checked_ok _ _ _ _ _ hlen (by simp [hn])))

/-! ### Tenant states and resets (R257, R260, R267) -/

/-- What a state move comes to once its parameters are in range: REVOKED asks for the key 0xA5. -/
theorem execTntStateSet_given {s t : State} {p : Packet} (given : Given 0x0303 p s t) (hlen : p.params.length = 4) (hn : u8 p.params 0 ≤ 15)
    (hst : inR (u8 p.params 1) 1 3 = true) (hkey : u8 p.params 1 ≠ 3 ∨ u8 p.params 2 = 0xA5) :
    execTntStateSet s = .next (
      if (t.tenant (u8 p.params 0)).state == u8 p.params 1 then ok p t
      else if u8 p.params 1 != 3 && (t.tenantVfs (u8 p.params 0)).isEmpty then fail p stBadParam 1 1 t
      else ok p (setTenantState (u8 p.params 0) (u8 p.params 1) t)) :=
  (interpret_given _ given).trans (congrArg _ (checked_ok _ _ _ _ _ hlen (by rcases hkey with h | h <;> simp [hn, hst, h])))

theorem execTntStateSet_stays {s t : State} {p : Packet} (given : Given 0x0303 p s t) (hlen : p.params.length = 4) (hn : u8 p.params 0 ≤ 15)
    (hst : inR (u8 p.params 1) 1 3 = true) (hkey : u8 p.params 1 ≠ 3 ∨ u8 p.params 2 = 0xA5)
    (hsame : (t.tenant (u8 p.params 0)).state = u8 p.params 1) : execTntStateSet s = .next (ok p t) :=
  (execTntStateSet_given given hlen hn hst hkey).trans (congrArg _ (if_pos (beq_of_eq hsame)))

/-- A move to another state: only REVOKED may be entered by a tenant without VFs. -/
theorem execTntStateSet_moves {s t : State} {p : Packet} (given : Given 0x0303 p s t) (hlen : p.params.length = 4) (hn : u8 p.params 0 ≤ 15)
    (hst : inR (u8 p.params 1) 1 3 = true) (hkey : u8 p.params 1 ≠ 3 ∨ u8 p.params 2 = 0xA5)
    (hother : (t.tenant (u8 p.params 0)).state ≠ u8 p.params 1) (hvfs : u8 p.params 1 = 3 ∨ t.tenantVfs (u8 p.params 0) ≠ []) :
    execTntStateSet s = .next (ok p (setTenantState (u8 p.params 0) (u8 p.params 1) t)) := by
  refine (execTntStateSet_given given hlen hn hst hkey).trans (congrArg _ ((if_neg (by simpa using hother)).trans (if_neg ?_)))
  rcases hvfs with h | h <;> simp [h]

/-- To a state other than REVOKED. -/
theorem execTntStateSet_unrevoked {s t : State} {p : Packet} (given : Given 0x0303 p s t) (hlen : p.params.length = 4) (hn : u8 p.params 0 ≤ 15)
    (hst : inR (u8 p.params 1) 1 2 = true) (hother : (t.tenant (u8 p.params 0)).state ≠ u8 p.params 1)
    (hvfs : t.tenantVfs (u8 p.params 0) ≠ []) :
    execTntStateSet s = .next (ok p (setTenantState (u8 p.params 0) (u8 p.params 1) t)) := by
  have bounds : 1 ≤ u8 p.params 1 ∧ u8 p.params 1 ≤ 2 := by simpa [inR] using hst
  obtain ⟨hlo, hhi⟩ := bounds
  exact execTntStateSet_moves given hlen hn (by simp [inR, hlo]; omega) (.inl (by omega)) hother (.inr hvfs)

theorem execTntStateSet_revoked {s t : State} {p : Packet} (given : Given 0x0303 p s t) (hlen : p.params.length = 4) (hn : u8 p.params 0 ≤ 15)
    (hst : u8 p.params 1 = 3) (hkey : u8 p.params 2 = 0xA5) (hother : (t.tenant (u8 p.params 0)).state ≠ 3) :
    execTntStateSet s = .next (ok p (setTenantState (u8 p.params 0) 3 t)) :=
  hst ▸ execTntStateSet_moves given hlen hn (by simp [inR, hst]) (.inr hkey) (hst ▸ hother) (.inl hst)

theorem execTntReset_given {s t : State} {p : Packet} (given : Given 0x0304 p s t) (hlen : p.params.length = 4) (hn : u8 p.params 0 ≤ 15)
    (hkey : u8 p.params 1 = 0xA5) : execTntReset s = .next (ok p (bumpGen (u8 p.params 0) (resetTenant (u8 p.params 0) t))) :=
  (interpret_given _ given).trans (congrArg _ (checked_ok _ _ _ _ _ hlen (by simp [hn, hkey])))

/-! ### Bindings of VFs (R241-R243) -/

theorem execTntVfBind_of_free {s t : State} {p : Packet} (given : Given 0x0305 p s t) (hlen : p.params.length = 132) (hf : u8 p.params 0 ≤ 63)
    (hn : u8 p.params 1 ≤ 15) (hwin : windowFault p.params = none) (hfree : (t.vf (u8 p.params 0)).tenant = none)
    (hroom : (t.tenantVfs (u8 p.params 1)).length < 16) :
    let f := u8 p.params 0
    let n := u8 p.params 1
    execTntVfBind s = .next (ok p (bindRecord f 0xFF n (bumpGen n (fillVf f
      (modVf f (fun x => { x with tenant := some n, windows := (List.range 8).map (windowAt p.params) }) t))))) := by
  have binds : (u8 p.params 1 == 0xFF) = false := beq_false_of_ne (by omega)
  refine (interpret_given _ given).trans (congrArg _ ((checked_ok _ _ _ _ _ hlen (by simp [hf, hn])).trans ?_))
  simp only [binds, hwin, hfree, Nat.not_le.mpr hroom, Bool.false_eq_true, if_false]

/-- An unbinding: it acts at once, or waits for the end of the FLR that the VF is in. -/
theorem execTntVfBind_unbinds {s t : State} {p : Packet} (given : Given 0x0305 p s t) (hlen : p.params.length = 132) (hf : u8 p.params 0 ≤ 63)
    (hn : u8 p.params 1 = 0xFF) (hzero : allZero (slice p.params 4 128) = true) :
    execTntVfBind s = .next (if (t.fn (u8 p.params 0)).flr then waitFor p (flrWait (u8 p.params 0)) t else doUnbind p (u8 p.params 0) t) :=
  (interpret_given _ given).trans (congrArg _ ((checked_ok _ _ _ _ _ hlen (by simp [hf, hn])).trans
    ((if_pos (beq_of_eq hn)).trans (if_neg (by simp [hzero])))))

/-! ### The end of a VF's FLR (R208, R243) -/

/-- The FLR of a VF is its own alone: only the unbindings that wait for this VF act. -/
theorem execFlrComplete_vf {s : State} {f : Nat} (hf : f ≠ pf0) (hflr : (s.fn f).flr = true) :
    let u := flrDone f s
    let due := u.cmd.waits.filter fun w => w.kind == flrWait f
    execFlrComplete f s = .next (forEach due (fun w s => doUnbind w.pkt (u8 w.pkt.params 0) s)
      { u with cmd := { u.cmd with waits := u.cmd.waits.filter fun w => !due.contains w } }) := by
  have alone : (f == pf0) = false := beq_false_of_ne hf
  refine (if_neg (by simp [hflr])).trans ?_
  simp only [alone, Bool.false_eq_true, if_false, forEach, List.foldl_nil, List.any_cons, List.any_nil, Bool.or_false]

/-- Settles O24: each opcode taken, its parameters checked, in the branch that its premises select. -/
theorem tenantsComplete : Obligations.TenantsComplete :=
  ⟨fun _ _ _ given hlen => execTntCharterSet_of_fits given hlen,
   fun _ _ _ given hlen hn => execTntCharterGet_given given hlen hn,
   fun _ _ _ given hlen hn hst hother hvfs => execTntStateSet_unrevoked given hlen hn hst hother hvfs,
   fun _ _ _ given hlen hn hst hkey hother => execTntStateSet_revoked given hlen hn hst hkey hother,
   fun _ _ _ given hlen hn hst hkey hsame => execTntStateSet_stays given hlen hn hst hkey hsame,
   fun _ _ _ given hlen hn hkey => execTntReset_given given hlen hn hkey,
   fun _ _ _ given hlen hf hn hwin hfree hroom => execTntVfBind_of_free given hlen hf hn hwin hfree hroom,
   fun _ _ _ given hlen hf hn hzero hflr => (execTntVfBind_unbinds given hlen hf hn hzero).trans (congrArg _ (if_neg (by simp [hflr]))),
   fun _ _ _ given hlen hf hn hzero hflr => (execTntVfBind_unbinds given hlen hf hn hzero).trans (congrArg _ (if_pos hflr)),
   fun _ _ hf hflr => execFlrComplete_vf hf hflr⟩

end Sys2Proof.Machine
end

section
/-!
Proofs of the statement on caddies (ch 09): the warden registers, the free cache and the wiping of a pool's buffers, and the pool opcodes.
-/
namespace Sys2Proof.Machine
open Sys2Proof

/-! ### The warden registers (R325, R336, R337) -/

/-- The guard of CAD_W_OP: the core is one of WD0-WD4 and its last operation is DONE. -/
theorem cadWarden_ready {s : State} {core : Nat} (hcore : core ≤ 4) (hdone : (s.cadWarden core).done = true) :
    ¬ (decide (4 < core) || !(s.cadWarden core).done) = true := by
  simp [hcore, hdone]

theorem execCadWAlloc_of_served {s t : State} {core len256 h : Nat} (hcore : core ≤ 4) (hdone : (s.cadWarden core).done = true)
    (htake : takeOne 0 17 254 ((len256 % 256 + 1) * 256) s = some (h, t)) :
    execCadWAlloc core len256 s = .next (setCadWarden core ⟨BitVec.ofNat 32 h, stOk, true⟩ (forgetBuf h t)) :=
  (if_neg (cadWarden_ready hcore hdone)).trans (by simp only [htake])

theorem execCadWAlloc_of_unserved {s : State} {core len256 : Nat} (hcore : core ≤ 4) (hdone : (s.cadWarden core).done = true)
    (htake : takeOne 0 17 254 ((len256 % 256 + 1) * 256) s = none) :
    execCadWAlloc core len256 s = .next (setCadWarden core { s.cadWarden core with status := stNoResource } s) :=
  (if_neg (cadWarden_ready hcore hdone)).trans (by simp only [htake])

/-- What the free answers is the status; the handle stays as it was. -/
theorem execCadWFree_of_done {s : State} {core : Nat} (hcore : core ≤ 4) (hdone : (s.cadWarden core).done = true) :
    let h := (s.cadWarden core).handle.toNat
    let r := cadFree 18 core h (forgetBuf h s)
    execCadWFree core s = .next (setCadWarden core { s.cadWarden core with status := r.1 } r.2) :=
  if_neg (cadWarden_ready hcore hdone)

/-! ### The free cache and wiping (R332, R334, R335) -/

theorem execCacheRefill_of_list {s : State} {pool : Nat} (hst : (s.pool pool).st ≠ 0) (hstore : (s.pool pool).store = 2) :
    execCacheRefill pool s =
      .next (modPool pool (fun x => if x.cache.length < 512 then x.refill (min 16 (512 - x.cache.length)) else x) s) :=
  (if_neg (by simpa using hst)).trans (if_pos (beq_of_eq hstore))

theorem execCacheRefill_of_ring {s : State} {pool : Nat} (hst : (s.pool pool).st ≠ 0) (hstore : (s.pool pool).store = 1) :
    execCacheRefill pool s =
      .next (modPool pool (fun x => if x.cache.length < x.low then x.refill 64 else if x.high < x.cache.length then x.spillBack else x) s) :=
  (if_neg (by simpa using hst)).trans (if_neg (by simp [hstore]))

theorem execCaddyWipeDone_of_cons {s : State} {pool i : Nat} {rest : List Nat} (hwiping : (s.pool pool).wiping = i :: rest) :
    execCaddyWipeDone pool s = .next (modPool pool (fun x => { (x.giveBack i) with wiping := rest }) s) := by
  simp only [execCaddyWipeDone, hwiping]

/-! ### The pool opcodes (R316-R319, R339, R342, R343) -/

/-- A DRAINING pool with neither an owned buffer nor one being wiped is gone, and the command that waits for it is answered. -/
theorem releasePool_of_returned {s : State} {q : Nat} (hst : (s.pool q).st = 2) (howned : (s.pool q).owned = [])
    (hwiping : (s.pool q).wiping = []) :
    releasePool q s = finishWaits (fun k => k == .pool q) stOk (fun _ => [])
      (logEvent 8 0x8005 (detail [(16, 1, q), (20, 4, (s.pool q).returned)]) (modPool q (fun _ => {}) s)) :=
  if_pos (by simp [hst, howned, hwiping])

/-- The first pool, of mode 1 in SRAM banks that are usable and without a use: it has all the buffers that its area holds, up to the 2^22 of R318. -/
theorem execCadPoolCreate_first_sram {s t : State} {p : Packet} {n : Nat} (given : Given 0x0410 p s t) (hlen : p.params.length = 24)
    (hfields : (poolFields t p.params).all (·.2) = true) (hmode : u8 p.params 1 = 1) (hplace : u8 p.params 2 = 1) :
    let b := p.params
    let units := (List.range (u8 b 9)).map (· + u8 b 8)
    let size := ([256, 512, 1024, 2048, 4096, 9472, 16384, 65536] : List Nat).getD (u8 b 0) 0
    (t.pool (u8 b 0)).st = 0 → t.createdPools = [] → units.any (fun i => t.domLost (100 + i)) = false →
      units.any (fun i => t.areaUsed 1 0 i) = false → u32 b 20 = 0 →
      n = min (maxBuffers (u8 b 9 * 0x200000) size (u8 b 3 == 1)) 4194304 → 16 ≤ n →
      let x : Pool := { st := 1, mode := 1, place := 1, store := u8 b 3, size := size, spill := (u8 b 6).testBit 0, chan := 0,
                        first := u8 b 8, count := u8 b 9, n := n, made := n, low := u16 b 16, high := u16 b 18,
                        cache := List.range (min 512 n), fresh := min 512 n }
      execCadPoolCreate s = .next (complete p stOk (putLe 4 n ++ putLe 4 x.rsv) (modPool (u8 b 0) (fun _ => x) (markUsed units t))) := by
  intro b units size hfree hfirst hon hunused hmax hn hroom
  refine (interpret_given _ given).trans (congrArg _ ((checked_ok _ _ _ _ _ hlen hfields).trans ?_))
  simp only [b, units, size] at hfree hon hunused hmax hn ⊢
  have enough : ¬ n < 16 := Nat.not_lt.mpr hroom
  simp only [hmode, hplace, hfree, hfirst, hon, hunused, hmax, ← hn, enough, beq_self_eq_true, bne_self_eq_false, List.any_nil,
    List.foldl_nil, Nat.sub_zero, Bool.false_and, Bool.true_and, List.map_id', Nat.reduceBEq, Bool.false_eq_true, if_true, if_false]

theorem execCadPoolDestroy_of_created {s t : State} {p : Packet} (given : Given 0x0411 p s t) (hlen : p.params.length = 4)
    (hq : u8 p.params 0 ≤ 7) (hst : (t.pool (u8 p.params 0)).st ≠ 0) :
    let q := u8 p.params 0
    execCadPoolDestroy s = .next (releasePool q (waitFor p (.pool q) (modPool q (fun x => { x with st := 2 }) t))) :=
  (interpret_given _ given).trans (congrArg _ (checked_ok _ _ _ _ _ hlen (by simp [hq, hst])))

theorem execCadPoolStatus_given {s t : State} {p : Packet} (given : Given 0x0412 p s t) (hlen : p.params.length = 0) :
    let kib := fun o => putLe 4 (ceilDiv (t.charge o) 1024)
    execCadPoolStatus s = .next (complete p stOk (((List.range 8).map fun q => poolBytes (t.pool q)).flatten
      ++ ((List.range 16).map kib).flatten ++ putLe 2 (512 - t.cad.ctl.length) ++ [0, 0] ++ kib 16 ++ kib 17) t) :=
  (interpret_given _ given).trans (congrArg _ (checked_ok _ _ _ _ _ hlen rfl))

/-- Settles O10: each row of the Caddy Manager in the branch that its premises select, and each pool opcode taken with its parameters checked. -/
theorem caddiesComplete : Obligations.CaddiesComplete :=
  ⟨fun _ _ _ _ _ hcore hdone htake => (exec_cadWAlloc ..).trans (execCadWAlloc_of_served hcore hdone htake),
   fun _ _ _ hcore hdone htake => (exec_cadWAlloc ..).trans (execCadWAlloc_of_unserved hcore hdone htake),
   fun _ _ hcore hdone => execCadWFree_of_done hcore hdone,
   fun _ _ hst hstore _ => execCacheRefill_of_list hst hstore,
   fun _ _ hst hstore => execCacheRefill_of_ring hst hstore,
   fun _ _ _ _ hwiping => execCaddyWipeDone_of_cons hwiping,
   fun _ _ hst howned hwiping => congrArg Host.Outcome.next (releasePool_of_returned hst howned hwiping),
   fun _ _ _ _ given hlen hfields hmode hplace => execCadPoolCreate_first_sram given hlen hfields hmode hplace,
   fun _ _ _ given hlen hq hst => execCadPoolDestroy_of_created given hlen hq hst,
   fun _ _ _ given hlen => execCadPoolStatus_given given hlen⟩

end Sys2Proof.Machine
end

section
/-!
Proofs of the statement on the Ethernet ports (ch 10): what arrives and what leaves at a MAC, pause, negotiation and link state, LLDP, and the port
opcodes. The statements are about the branch that the premises select; each row has a lemma of its own.
-/
namespace Sys2Proof.Machine
open Sys2Proof

/-! ### Received frames (R353-R357, Table 10-3) -/

theorem execFrameReceived_of_runt {s : State} {p : Nat} {bytes : Bytes} (phyErr : Bool) (fec : Nat × Nat) (hopen : s.portOpen p = true)
    (hshort : bytes.length < 64) :
    execFrameReceived p bytes phyErr fec s = .next (countEv 1 p 1 1 (wireIn p bytes.length fec s)) := by
  simp only [execFrameReceived, hopen, hshort, Bool.not_true, Bool.false_eq_true, if_true, if_false]

/-- A frame that is neither short nor long, without a PHY error and with the right FCS, comes to the last two rows of Table 10-3. -/
theorem execFrameReceived_of_pause {s : State} {p : Nat} {bytes : Bytes} (fec : Nat × Nat) (hopen : s.portOpen p = true)
    (hmin : 64 ≤ bytes.length) (hmax : bytes.length ≤ (s.port p).maxFrame)
    (hfcs : u32 bytes (bytes.length - 4) = (fcs (bytes.take (bytes.length - 4))).toNat)
    (hether : beAt (bytes.take (bytes.length - 4)) 12 2 = 0x8808) :
    execFrameReceived p bytes false fec s =
      .next (registerPause p (bytes.take (bytes.length - 4)) (countEv 1 p 4 1 (wireIn p bytes.length fec s))) := by
  have long : ¬ bytes.length < 64 := Nat.not_lt.mpr hmin
  have fits : ¬ (s.port p).maxFrame < bytes.length := Nat.not_lt.mpr hmax
  simp only [execFrameReceived, hopen, long, fits, hfcs, hether, Bool.not_true, Bool.not_false, bne_self_eq_false, beq_self_eq_true,
    decide_false, Bool.or_self, Bool.and_self, Bool.false_eq_true, if_true, if_false]

/-- The verdict of a frame that took all its buffers is 0 when its length field, where it has one, agrees with its length (R355). -/
theorem execFrameReceived_of_good {s v : State} {p : Nat} {bytes : Bytes} {hs : List Nat} (fec : Nat × Nat) (hopen : s.portOpen p = true)
    (hmin : 64 ≤ bytes.length) (hmax : bytes.length ≤ (s.port p).maxFrame) :
    let body := bytes.take (bytes.length - 4)
    let u := countEv 1 p 0 1 (wireIn p bytes.length fec s)
    let q := parse body
    let w := countEv 1 p 6 bytes.length v
    let n := newId w
    u32 bytes (bytes.length - 4) = (fcs body).toNat → beAt body 12 2 ≠ 0x8808 → macsecArrive u (u.portVp p) body = .pass →
      ingressBuffers bytes (s.port p).maxFrame u = some (hs, false, v) →
      (q.ver ≠ 0 → q.total + 4 ≤ bytes.length ∧ bytes.length ≤ max 64 (q.total + 4)) → q.ether ≠ 0x88CC →
      execFrameReceived p bytes false fec s = .next (portEnter
        { id := n.1, bytes := body, inVp := w.portVp p, tc := n.2.classIn (w.portVp p) body, bufs := hs,
          arrival := some (p, (q.tags.head?.map fun t => t.2 / 8192).getD 0) } 0 false none n.2) := by
  intro body u q w n hfcs hether hsec hbufs hlen hlldp
  have long : ¬ bytes.length < 64 := Nat.not_lt.mpr hmin
  have fits : ¬ (s.port p).maxFrame < bytes.length := Nat.not_lt.mpr hmax
  have notPause : (beAt body 12 2 == 0x8808) = false := beq_false_of_ne hether
  have notLldp : (q.ether == 0x88CC) = false := beq_false_of_ne hlldp
  have bodyLength : body.length + 4 = bytes.length := by simp only [body, List.length_take]; omega
  have lenGood : (q.ver != 0 && (decide (bytes.length < q.total + 4) || decide (max 64 (q.total + 4) < bytes.length))) = false := by
    by_cases hver : q.ver = 0
    · simp [hver]
    · obtain ⟨hlo, hhi⟩ := hlen hver
      simp [Nat.not_lt.mpr hlo, Nat.not_lt.mpr hhi]
  simp only [body, u, q] at hfcs hsec hbufs notPause notLldp bodyLength lenGood
  simp only [execFrameReceived, hopen, long, fits, hfcs, notPause, hsec, hbufs, bodyLength, lenGood, notLldp, Bool.not_true, Bool.not_false,
    bne_self_eq_false, decide_false, Bool.or_self, Bool.and_self, Bool.and_false, Bool.true_and, Option.isSome_some, Bool.false_eq_true, if_false,
    body, q, w, n]

/-! ### Pause and PFC (R361-R367) -/

theorem execPauseGeneration_of_needs {s : State} {p : Nat} (hneeds : pauseNeeds s p ≠ []) (hup : s.portUp p = true) :
    let sent := (pauseNeeds s p).foldl (fun l e => if e.2 == 0 then nclr e.1 l else nset e.1 l) (s.port p).xoffSent
    execPauseGeneration p s =
      .next (sendPause p ((s.port p).pauseNow == 2) (pauseNeeds s p) (modPort p (fun x => { x with xoffSent := sent }) s)) :=
  if_neg (by simp [hneeds, hup])

theorem execPauseRefresh_of_due {s : State} {p : Nat} :
    let x := s.port p
    let due := (x.xoffSent.filter fun e => decide (x.xon.getD e 0 * 1024 < s.entryOcc p e)).map fun e => (e, x.quanta)
    due ≠ [] → s.portUp p = true → execPauseRefresh p s = .next (sendPause p (x.pauseNow == 2) due s) := by
  intro x due hdue hup
  exact congrArg Host.Outcome.next (if_neg (by rw [hup, Bool.not_true, Bool.or_false, List.isEmpty_iff]; exact hdue))

/-! ### Transmission (R358, R445) -/

/-- At a port that is up, neither parked nor paused and in no aggregate, with nothing being served, the scheduler's choice goes out. -/
theorem transmit_of_popped {s t : State} {k : Nat} {i : QItem} {f : Frame} (hk : inR k 0x48 0x4F = true) (hup : s.portUp (k - 0x48) = true)
    (hpark : (s.port (k - 0x48)).park ≤ 1) (hpaused : (s.port (k - 0x48)).paused = []) (hserving : (s.point k).serving = [])
    (hpop : popItem k [] s = some (i, t)) (hjob : i.job = .send f)
    (halone : (sendMac (k - 0x48) f.bytes false (cadRelease f.bufs t)).aggOf (k - 0x48) = none) :
    transmit k s = sendMac (k - 0x48) f.bytes false (cadRelease f.bufs t) := by
  simp only [transmit, hk, hup, hpark, hpaused, hserving, hpop, hjob, Job.frame?, halone, List.contains_nil, decide_true, Bool.and_self,
    Bool.not_true, Bool.or_self, Bool.false_eq_true, if_true, if_false]

/-! ### Negotiation and link state (R347, R348, R352) -/

/-- A port in negotiation, as both rows of AN_COMPLETE need it. -/
theorem negotiating {x : Port} (hst : x.st = 2) (han : x.an = true) : (x.st != 2 || !x.an) = false := by
  rw [hst, han]
  rfl

theorem execAnComplete_of_agreed {s : State} {p : Nat} (fec : Nat) (pause eee : Bool) (hst : (s.port p).st = 2) (han : (s.port p).an = true) :
    execAnComplete p 0 fec pause eee s = .next (setPort p 3 0 (modPort p (fun x =>
      { x with partnerPause := pause, eeeAble := eee && typeLpi x.type, fecNow := if x.fec == 0xFF then fec else x.fec }) s)) :=
  if_neg (Bool.eq_false_iff.mp (negotiating hst han))

theorem execAnComplete_of_failed {s : State} {p result : Nat} (fec : Nat) (pause eee : Bool) (hst : (s.port p).st = 2)
    (han : (s.port p).an = true) (hresult : result ≠ 0) :
    execAnComplete p result fec pause eee s =
      .next (setPort p 1 0 (logEvent 9 0x8003 (detail [(16, 1, p), (17, 1, result - 1)]) s)) :=
  (if_neg (Bool.eq_false_iff.mp (negotiating hst han))).trans (if_neg (by simp [hresult]))

theorem execAnRestart_of_down {s : State} {p : Nat} (han : (s.port p).an = true) (hst : (s.port p).st = 1) (hmacs : s.macsOpen = true)
    (hheld : s.lat.ho.held = false) : execAnRestart p s = .next (setPort p 2 0 s) :=
  congrArg Host.Outcome.next (if_pos (by simp [han, hst, hmacs, hheld]))

/-- A port that can follow its link: neither disabled nor fenced, its MAC admits frames, and no handover holds the ports (R352). -/
def State.linkFollowed (s : State) (p : Nat) : Prop :=
  (s.port p).st ≠ 0 ∧ (s.port p).st ≠ 5 ∧ s.macsOpen = true ∧ s.lat.ho.held = false

theorem State.linkFollowed.guard {s : State} {p : Nat} (h : s.linkFollowed p) :
    ¬ ((s.port p).st == 0 || (s.port p).st == 5 || !s.macsOpen || s.lat.ho.held) = true := by
  obtain ⟨hon, hfence, hmacs, hheld⟩ := h
  simp [hon, hfence, hmacs, hheld]

theorem execPortLinkChange_lost {s : State} {p : Nat} (h : s.linkFollowed p) :
    execPortLinkChange p 0 s = .next (hoCheck (setPort p (if (s.port p).an then 2 else 1) 0 s)) :=
  if_neg h.guard

/-- Link up means nothing to a port that still negotiates. -/
theorem execPortLinkChange_up {s : State} {p : Nat} (h : s.linkFollowed p) (hdone : (s.port p).an = false ∨ (s.port p).st ≠ 2) :
    execPortLinkChange p 1 s = .next (setPort p 3 0 s) := by
  have done : ¬ ((s.port p).an && (s.port p).st == 2) = true := by
    rcases hdone with han | hst
    · simp [han]
    · simp [hst]
  exact (if_neg h.guard).trans (congrArg Host.Outcome.next (if_neg done))

theorem execPortLinkChange_localFault {s : State} {p : Nat} (h : s.linkFollowed p) :
    execPortLinkChange p 2 s = .next (hoCheck (setPort p 4 1 (modPort p (fun x => { x with remoteFault := false }) s))) :=
  if_neg h.guard

theorem execPortLinkChange_remoteFault {s : State} {p : Nat} (h : s.linkFollowed p) :
    execPortLinkChange p 3 s = .next (hoCheck (setPort p 4 1 (modPort p (fun x => { x with remoteFault := true }) s))) :=
  if_neg h.guard

/-! ### LLDP (R370) -/

theorem execLldpTimer_of_agent {s : State} {p : Nat} (hagent : (s.port p).flags.testBit 1 = true) (hup : s.portUp p = true)
    (hmacs : s.macsOpen = true) :
    execLldpTimer p s = .next (sendMac p (lldpdu s p) false (modPort p (fun x => { x with lldpDirty := false }) s)) :=
  congrArg Host.Outcome.next (if_pos (by simp [hagent, hup, hmacs]))

/-! ### The port opcodes (R386-R388, Tables 10-5, 10-6, 10-8) -/

/-- With no aggregate and no lane lost the ports go down, the mode is applied, and its ports are brought up. -/
theorem execPortModeSet_of_free {s t : State} {p : Packet} (given : Given 0x0501 p s t) (hlen : p.params.length = 72)
    (hfields : (portCfgFields p.params).all (·.2) = true) :
    let b := p.params
    let m := u8 b 0
    (List.range 4).any (fun a => (t.agg a).on) = false →
      (((List.range (modePorts m)).filter fun q => u8 b (8 + 8 * q) != 0).map (modeLanes m)).flatten.find?
        (fun l => t.domLost (50 + l) || t.domLost (46 + l / 2)) = none →
      execPortModeSet s = .next (ok p (forEach (List.range (modePorts m)) bringUp
        (modLat (fun x => { x with ho := { x.ho with held := false } }) (applyMode b (portsDown 4 t))))) := by
  intro b m hfree hlanes
  refine (interpret_given _ given).trans (congrArg _ ((checked_ok _ _ _ _ _ hlen hfields).trans ?_))
  simp only [b, m] at hlanes
  simp only [hfree, hlanes, Bool.false_eq_true, if_false, b, m]

theorem execPortStatus_given {s t : State} {p : Packet} (given : Given 0x0502 p s t) (hlen : p.params.length = 0) :
    execPortStatus s = .next (complete p stOk (putLe 1 t.net.mode ++ zeros 3 ++ ((List.range 4).map fun a => putLe 1 (t.aggState a)).flatten
      ++ ((List.range 8).map (portBytes t)).flatten) t) :=
  (interpret_given _ given).trans (congrArg _ (checked_ok _ _ _ _ _ hlen rfl))

/-- A port for which no frame with non-zero quanta is in force sends none with 0 (R388). -/
theorem execPortPauseSet_of_noneSent {s t : State} {p : Packet} (given : Given 0x0503 p s t) (hlen : p.params.length = 40) :
    let b := p.params
    let q := u8 b 0
    let m := u8 b 1
    let row := fun o => (List.range 8).map fun c => u16 b (o + 4 * c)
    q < modePorts t.net.mode → m ≤ 2 → m = 2 ∨ (u8 b 2 = 0 ∧ u8 b 3 = 0) → 1 ≤ u16 b 4 →
      (List.range 8).all (fun c => decide (16 ≤ u16 b (8 + 4 * c)) && decide (u16 b (10 + 4 * c) < u16 b (8 + 4 * c))) = true →
      (t.port q).xoffSent = [] →
      execPortPauseSet s = .next (ok p (modPort q (fun x =>
        { x with pause := m, rxMask := u8 b 2, txMask := u8 b 3, quanta := u16 b 4, xoff := row 8, xon := row 10, paused := [], xoffSent := [] }) t)) := by
  intro b q m row hq hm hmasks hquanta hrows hsent
  have masks : (m == 2 || u8 b 2 == 0) = true ∧ (m == 2 || u8 b 3 == 0) = true := by
    rcases hmasks with hpfc | ⟨hrx, htx⟩
    · simp [hpfc]
    · simp [hrx, htx]
  have rows : ((List.range 8).map fun c => [(8 + 4 * c, decide (16 ≤ u16 b (8 + 4 * c))),
      (10 + 4 * c, decide (u16 b (10 + 4 * c) < u16 b (8 + 4 * c)))]).flatten.all (·.2) = true := by
    simpa [List.all_flatten, List.all_map] using hrows
  refine (interpret_given _ given).trans (congrArg _ ((checked_ok _ _ _ _ _ hlen ?_).trans ?_))
  · rw [List.all_append, rows]
    obtain ⟨rx, tx⟩ := masks
    simp only [List.all_cons, List.all_nil, Bool.and_true]
    simp only [b, q, m] at hq hm rx tx hquanta
    simp only [hq, hm, rx, tx, hquanta, decide_true, Bool.and_self]
  · simp only [q, b] at hsent
    simp only [hsent, List.isEmpty_nil, Bool.true_or, if_true, b, q, m, row]

/-- Settles O34: each row in the branch that its premises select, and each port opcode taken with its parameters checked. -/
theorem portsComplete : Obligations.PortsComplete :=
  ⟨fun _ _ _ phyErr fec hopen hshort => execFrameReceived_of_runt phyErr fec hopen hshort,
   fun _ _ _ fec hopen hmin hmax hfcs hether => execFrameReceived_of_pause fec hopen hmin hmax hfcs hether,
   fun _ _ _ _ _ fec hopen hmin hmax hfcs hether hsec hbufs _ hlen hlldp =>
     execFrameReceived_of_good fec hopen hmin hmax hfcs hether hsec hbufs (fun _ => hlen) hlldp,
   fun s p cls => exec_pauseTimeExpiry p cls s,
   fun _ _ hneeds hup => execPauseGeneration_of_needs hneeds hup,
   fun _ _ hdue hup => execPauseRefresh_of_due hdue hup,
   fun _ _ _ _ _ hk hup hpark hpaused hserving hpop hjob _ halone =>
     congrArg Host.Outcome.next (transmit_of_popped hk hup hpark hpaused hserving hpop hjob halone),
   fun _ _ fec pause eee hst han => execAnComplete_of_agreed fec pause eee hst han,
   fun _ _ _ fec pause eee hst han hresult => execAnComplete_of_failed fec pause eee hst han hresult,
   fun _ _ han hst hmacs hheld => execAnRestart_of_down han hst hmacs hheld,
   fun _ _ hon hfence hmacs hheld => execPortLinkChange_lost ⟨hon, hfence, hmacs, hheld⟩,
   fun _ _ hon hfence hmacs hheld hdone => execPortLinkChange_up ⟨hon, hfence, hmacs, hheld⟩ hdone,
   fun _ _ hon hfence hmacs hheld => execPortLinkChange_localFault ⟨hon, hfence, hmacs, hheld⟩,
   fun _ _ hon hfence hmacs hheld => execPortLinkChange_remoteFault ⟨hon, hfence, hmacs, hheld⟩,
   fun _ _ hagent hup hmacs => execLldpTimer_of_agent hagent hup hmacs,
   fun _ _ _ given hlen hfields hfree hlanes => execPortModeSet_of_free given hlen hfields hfree hlanes,
   fun _ _ _ given hlen => execPortStatus_given given hlen,
   fun _ _ _ given hlen hq hm hmasks hquanta hrows hsent => execPortPauseSet_of_noneSent given hlen hq hm hmasks hquanta hrows hsent⟩

end Sys2Proof.Machine
end

section
/-!
Proofs of the statement on link aggregation and parking (ch 10): LACP, the window of the load, the ways into and out of a park, and PORT_PARK_SET.
-/
namespace Sys2Proof.Machine
open Sys2Proof

/-! ### LACP (R373) -/

/-- What the partner sent is kept in either case; only a change of the actor's state is answered. -/
theorem execLacpduReceived_of_open {s : State} {p a : Nat} (pdu : Bytes) (hagg : s.aggOf p = some a) (hopen : s.portOpen p = true) :
    let info := (slice pdu 18 15 ++ zeros 15).take 15
    let ps := u8 info 14
    let u := modPort p (fun x => { x with partner := ps, partnerInfo := info }) s
    let away := (u.port p).park == 3
    let act := actorState (u.agg a).fast true (ps.testBit 3 && !away)
      (ps.testBit 3 && ps.testBit 4 && !away && (u.port p).park != 1 && (u.port p).park != 2)
    execLacpduReceived p pdu s = .next (if act = (u.port p).actor then u else sendLacp p act u) := by
  simp only [execLacpduReceived, hagg, hopen, Bool.not_true, Bool.false_eq_true, beq_iff_eq, if_false]

theorem execLacpPeriodic_of_open {s : State} {p a : Nat} (hagg : s.aggOf p = some a) (hopen : s.portOpen p = true) :
    execLacpPeriodic p s =
      .next (sendLacp p (if (s.port p).actor == 0 then actorState (s.agg a).fast true false false else (s.port p).actor) s) := by
  simp only [execLacpPeriodic, hagg, hopen, Bool.not_true, Bool.false_eq_true, if_false]

/-! ### The end of a window (R377, R378, R381) -/

/-- A new window starts at the ports ms. -/
def clearWindows (ms : List Nat) (s : State) : State := forEach ms (fun p s => modPort p (fun x => { x with winTx := 0, winRx := 0 }) s) s

theorem clearWindows_eq (ms : List Nat) (s : State) :
    clearWindows ms s = forEach ms (fun p s => modPort p (fun x => { x with winTx := 0, winRx := 0 }) s) s := rfl
@[simp] theorem clearWindows_pmc (ms : List Nat) (s : State) : (clearWindows ms s).pmc = s.pmc :=
  forEach_ind (fun t => t.pmc = s.pmc) _ _ _ rfl fun _ _ h => h
@[simp] theorem clearWindows_lat (ms : List Nat) (s : State) : (clearWindows ms s).lat = s.lat :=
  forEach_ind (fun t => t.lat = s.lat) _ _ _ rfl fun _ _ h => h
@[simp] theorem clearWindows_park (ms : List Nat) (s : State) (q : Nat) : ((clearWindows ms s).port q).park = (s.port q).park := by
  refine forEach_ind (fun t => (t.port q).park = (s.port q).park) _ _ _ rfl fun p t ih => ?_
  rw [← ih]
  simp only [State.port, modPort_net, tget_tmod]
  split
  · next hq => rw [hq]
  · rfl

/-- Parking acts on aggregate a: it is made with parking enabled, no handover binds it, and the power state is TRIM without a transition. -/
def State.parks (s : State) (a : Nat) : Prop :=
  (s.agg a).on = true ∧ (s.agg a).parkEn = true ∧ s.lat.bound.contains a = false ∧ s.pmc.st = .trim ∧ s.pmc.trans = none

/-- The counts of the window are no part of it. -/
theorem State.parks.guard {s : State} {a : Nat} (h : s.parks a) (ms : List Nat) :
    (!(s.agg a).on || !(s.agg a).parkEn || (clearWindows ms s).lat.bound.contains a || (clearWindows ms s).pmc.st != .trim
      || (clearWindows ms s).pmc.trans.isSome) = false := by
  obtain ⟨hon, hpark, hbound, hst, htrans⟩ := h
  simp only [clearWindows_lat, clearWindows_pmc, hon, hpark, hbound, hst, htrans, Bool.not_true, bne_self_eq_false, Option.isSome_none, Bool.or_self]

theorem execParkWindowEnd_of_off {s : State} {a : Nat} (hoff : (s.agg a).on = false ∨ (s.agg a).parkEn = false ∨
      s.lat.bound.contains a = true ∨ s.pmc.st ≠ .trim ∨ s.pmc.trans.isSome = true) :
    execParkWindowEnd a s = .next (modAgg a (fun g => { g with calm := 0 }) (clearWindows (s.agg a).members s)) := by
  have off : (!(s.agg a).on || !(s.agg a).parkEn || (clearWindows (s.agg a).members s).lat.bound.contains a
      || (clearWindows (s.agg a).members s).pmc.st != .trim || (clearWindows (s.agg a).members s).pmc.trans.isSome) = true := by
    simpa [or_assoc] using hoff
  exact if_pos off

/-- The traffic of ports without any is none. -/
theorem foldl_add_eq_zero {l : List Nat} {f : Nat → Nat} (h : ∀ p ∈ l, f p = 0) : l.foldl (fun t p => t + f p) 0 = 0 := by
  induction l with
  | nil => rfl
  | cons p l ih =>
    rw [List.foldl_cons, h p List.mem_cons_self]
    exact ih fun q hq => h q (List.mem_cons_of_mem p hq)

theorem mem_members_of_active {s : State} {a p : Nat} (h : p ∈ s.activeMembers a) : p ∈ (s.agg a).members :=
  (List.mem_filter.mp h).1

/-- Members that carried nothing in the window: its load, taken as R377 takes it, is 0. -/
theorem windowLoad_eq_zero {s : State} {a : Nat} (parked : Nat → Bool)
    (hidle : (s.agg a).members.all (fun p => (s.port p).winTx == 0 && (s.port p).winRx == 0) = true) :
    max ((s.activeMembers a).foldl (fun t p => t + (s.port p).winTx) 0)
      ((s.activeMembers a ++ (s.agg a).members.filter parked).foldl (fun t p => t + (s.port p).winRx) 0) = 0 := by
  have idle : ∀ p ∈ (s.agg a).members, (s.port p).winTx = 0 ∧ (s.port p).winRx = 0 := by simpa using hidle
  have tx := foldl_add_eq_zero (f := fun p => (s.port p).winTx) fun p (hp : p ∈ s.activeMembers a) => (idle p (mem_members_of_active hp)).1
  have rx := foldl_add_eq_zero (f := fun p => (s.port p).winRx) (l := s.activeMembers a ++ (s.agg a).members.filter parked) fun p hp =>
    (idle p ((List.mem_append.mp hp).elim mem_members_of_active fun h => (List.mem_filter.mp h).1)).2
  rw [tx, rx, Nat.max_self]

/-- An aggregate that has been idle for HOLD_MS, with members to spare and none on its way into a park, drains the last one that may be parked. -/
theorem execParkWindowEnd_of_calm {s : State} {a p : Nat} (h : s.parks a) :
    let g := s.agg a
    let act := s.activeMembers a
    let u := clearWindows g.members s
    g.members.all (fun p => (s.port p).winTx == 0 && (s.port p).winRx == 0) = true → 1 ≤ g.wakePct → 1 ≤ modeRate s.net.mode → 1 ≤ g.parkPct →
      1 ≤ g.minActive → g.minActive < act.length →
      act.any (fun p => decide (g.wakeQueue * 1024 < (s.point (0x48 + p)).queued none)) = false →
      g.members.any (fun p => (s.port p).park == 1 || (s.port p).park == 3) = false → g.holdMs ≤ g.calm + 1 →
      (act.filter fun p => (u.parkable a).contains p).getLast? = some p →
      execParkWindowEnd a s = .next (modPort p (fun x => { x with park := 1 }) (modAgg a (fun g => { g with calm := 0 }) u)) := by
  intro g act u hidle hwake hrate hpct hmin hspare hqueues hbusy hhold hlast
  have load := windowLoad_eq_zero (fun p => (u.port p).park == 2) hidle
  have rate : 0 < modeRate s.net.mode * 1000 := Nat.mul_pos hrate (by decide)
  have calm : ¬ g.wakePct * act.length * (modeRate s.net.mode * 1000) ≤ 100 * 0 := by
    have active : 0 < act.length := by omega
    have busy : 0 < g.wakePct * act.length * (modeRate s.net.mode * 1000) := Nat.mul_pos (Nat.mul_pos hwake active) rate
    omega
  have room : 100 * 0 < g.parkPct * (act.length - 1) * (modeRate s.net.mode * 1000) := by
    have others : 0 < act.length - 1 := by omega
    exact Nat.mul_pos (Nat.mul_pos hpct others) rate
  simp only [g, act, u, clearWindows_park] at load calm room hspare hqueues hbusy hhold hlast
  simp only [execParkWindowEnd, ← clearWindows_eq, h.guard, clearWindows_park, load, calm, hqueues, hspare, room, hhold, hbusy, hlast, decide_true,
    decide_false, Bool.or_self, Bool.and_self, Bool.not_false, Bool.false_eq_true, if_true, if_false, u, g]

/-! ### Into a park (R379, Table 10-4) -/

/-- A member that drains and has nothing left to send. -/
theorem drained {x : Port} {y : SchPoint} (hpark : x.park = 1) (hqueue : y.queue = []) (hserving : y.serving = []) :
    (x.park != 1 || !(y.queue.isEmpty && y.serving.isEmpty)) = false := by
  rw [hpark, hqueue, hserving]
  rfl

theorem execParkDrainDone_deep {s : State} {p a : Nat} (hagg : s.aggOf p = some a) (hpark : (s.port p).park = 1)
    (hqueue : (s.point (0x48 + p)).queue = []) (hserving : (s.point (0x48 + p)).serving = [])
    (hlpi : (typeLpi (s.port p).type && (s.agg a).lpi && (s.port p).wakeTime.isSome) = false) :
    let u := logEvent 9 0x8004 (detail [(16, 1, a), (17, 1, p), (18, 1, 1)]) s
    let v := releaseHeld a (modPort p (fun x => { x with park := 3 }) u)
    execParkDrainDone p s = .next (sendLacp p (actorState (v.agg a).fast true false false) v) := by
  simp only [execParkDrainDone, hagg, drained hpark hqueue hserving, hlpi, Bool.not_false, b2n, Bool.false_eq_true, if_true, if_false]

theorem execParkDrainDone_lpi {s : State} {p a : Nat} (hagg : s.aggOf p = some a) (hpark : (s.port p).park = 1)
    (hqueue : (s.point (0x48 + p)).queue = []) (hserving : (s.point (0x48 + p)).serving = [])
    (hlpi : (typeLpi (s.port p).type && (s.agg a).lpi && (s.port p).wakeTime.isSome) = true) :
    let u := logEvent 9 0x8004 (detail [(16, 1, a), (17, 1, p), (18, 1, 0)]) s
    execParkDrainDone p s = .next (countEv 1 p 20 1 (releaseHeld a (modPort p (fun x => { x with park := 2 }) u))) := by
  simp only [execParkDrainDone, hagg, drained hpark hqueue hserving, hlpi, Bool.not_true, b2n, Bool.false_eq_true, if_true, if_false]

theorem execDeepPendingEnd_of_pending {s : State} {p : Nat} (hpark : (s.port p).park = 3) :
    let u := setPort p 1 6 (modPort p (fun x => { x with park := 4 }) s)
    let v := powerDomains (u.laneDomains p) false 3 u
    execDeepPendingEnd p s = .next (powerDomains ([46, 47, 48, 49].filter v.laneParks) false 3 v) :=
  if_neg (by simp [hpark])

/-! ### Out of a park (R371, R382) -/

/-- A member that wakes and one that has failed alike. -/
theorem execMemberActive_of_up {s : State} {p a : Nat} (hagg : s.aggOf p = some a) (hpark : inR (s.port p).park 5 6 = true)
    (hmacs : s.macsOpen = true) (hst : (s.port p).st = 3) :
    let u := modPort p (fun x => { x with park := 0, actor := actorState (s.agg a).fast true true true }) s
    execMemberActive p s = .next (aggCheck a (logEvent 9 0x8005
      (detail [(16, 1, a), (17, 1, p), (18, 1, b2n (s.port p).deep), (20, 4, u.us - (s.port p).wakeAt)]) u)) := by
  have away : ((s.port p).park == 5 || (s.port p).park == 6) = true := by
    simp only [inR, Bool.and_eq_true, decide_eq_true_eq] at hpark
    simp only [Bool.or_eq_true, beq_iff_eq]
    omega
  simp only [execMemberActive, hagg, away, hmacs, hst, Bool.not_true, Bool.or_self, beq_self_eq_true, Bool.false_eq_true, if_true, if_false]

/-- The member that was late is FAILED; the lowest-numbered parked one, if there is one, wakes in its place. -/
theorem execWakeLate_of_waking {s : State} {p a : Nat} (hagg : s.aggOf p = some a) (hpark : (s.port p).park = 5) :
    let u := logEvent 9 0x8006 (detail [(16, 1, a), (17, 1, p), (18, 1, b2n (s.port p).deep)]) (modPort p (fun x => { x with park := 6 }) s)
    execWakeLate p s = .next (ifSome ((u.parkable a).find? fun q => (u.port q).parking) startWake u) := by
  intro u
  simp only [execWakeLate, hagg, hpark, bne_self_eq_false, Bool.false_eq_true, if_false]
  cases (u.parkable a).find? fun q => (u.port q).parking <;> rfl

theorem execWakeLate_of_noneParked {s : State} {p a : Nat} (hagg : s.aggOf p = some a) (hpark : (s.port p).park = 5) :
    let u := logEvent 9 0x8006 (detail [(16, 1, a), (17, 1, p), (18, 1, b2n (s.port p).deep)]) (modPort p (fun x => { x with park := 6 }) s)
    (u.parkable a).find? (fun q => (u.port q).parking) = none → execWakeLate p s = .next u := by
  intro u hnone
  exact (execWakeLate_of_waking hagg hpark).trans (congrArg (fun o => (.next (ifSome o startWake u) : Out)) hnone)

theorem execWakeLate_of_parked {s : State} {p a q : Nat} (hagg : s.aggOf p = some a) (hpark : (s.port p).park = 5) :
    let u := logEvent 9 0x8006 (detail [(16, 1, a), (17, 1, p), (18, 1, b2n (s.port p).deep)]) (modPort p (fun x => { x with park := 6 }) s)
    (u.parkable a).find? (fun q => (u.port q).parking) = some q → execWakeLate p s = .next (startWake q u) := by
  intro u hsome
  exact (execWakeLate_of_waking hagg hpark).trans (congrArg (fun o => (.next (ifSome o startWake u) : Out)) hsome)

theorem execFailedMemberRetry_of_failed {s : State} {p : Nat} (hpark : (s.port p).park = 6) (hdown : (s.port p).st ≠ 3)
    (hfence : (s.port p).st ≠ 5) : execFailedMemberRetry p s = .next (modPort p (fun x => { x with st := if x.an then 2 else 1 }) s) :=
  congrArg Host.Outcome.next (if_pos (by simp [hpark, hdown, hfence]))

theorem execEeeTlvExpiry_of_notLpi {s : State} {p : Nat} :
    let u := modPort p (fun x => { x with partnerTw := none }) s
    (u.port p).park ≠ 2 → execEeeTlvExpiry p s = .next u :=
  fun hpark => congrArg Host.Outcome.next (if_neg (by simpa using hpark))

theorem execEeeTlvExpiry_of_lpi {s : State} {p : Nat} :
    let u := modPort p (fun x => { x with partnerTw := none }) s
    (u.port p).park = 2 → execEeeTlvExpiry p s = .next (startWake p u) :=
  fun hpark => congrArg Host.Outcome.next (if_pos (beq_iff_eq.mpr hpark))

/-! ### PORT_PARK_SET (R373, R383, Table 10-7) -/

theorem parkFields_dissolve (s : State) {b : Bytes} (hop : u8 b 1 = 2) : parkFields s b = [(0, decide (u8 b 0 ≤ 3))] :=
  if_pos (beq_iff_eq.mpr hop)

theorem execPortParkSet_dissolve {s t : State} {p : Packet} (given : Given 0x0504 p s t) (hlen : p.params.length = 20) (ha : u8 p.params 0 ≤ 3)
    (hop : u8 p.params 1 = 2) : execPortParkSet s = .next (ok p (dissolve (u8 p.params 0) t)) := by
  have fields : (parkFields t p.params).all (·.2) = true := by rw [parkFields_dissolve t hop]; simp [ha]
  exact (interpret_given _ given).trans (congrArg _ ((checked_ok _ _ _ _ _ hlen fields).trans (if_pos (beq_iff_eq.mpr hop))))

/-- Ports of no other aggregate become one; with no scheduling and no limit set for the aggregate's point its members' points stay as they are. -/
theorem execPortParkSet_make {s t : State} {p : Packet} (given : Given 0x0504 p s t) (hlen : p.params.length = 20)
    (hfields : (parkFields t p.params).all (·.2) = true) (hop : u8 p.params 1 = 1) :
    let b := p.params
    let a := u8 b 0
    let ms := bitsSet 8 (u8 b 2)
    let u := wakeAgg a t
    let old := u.agg a
    let fl := u8 b 3
    let g : Agg := { old with
      on := true, members := ms, parkEn := fl.testBit 0, fast := fl.testBit 1, lpi := fl.testBit 2, key := u16 b 4, pri := u16 b 6,
      minActive := u8 b 8, parkPct := u8 b 9, wakePct := u8 b 10, holdMs := u16 b 12, wakeQueue := u16 b 14, twExtra := u16 b 16, calm := 0 }
    let gone := fun (e : Nat × Nat) => ms.contains (e.2 - 1)
    let v := modAgg a (fun _ => { g with conv := old.conv.filter gone, alt := old.alt.filter gone }) u
    ms.findSome? (fun q => (t.aggOf q).filter (· != a)) = none → (v.point (0x50 + a)).strict = [] → (v.point (0x50 + a)).cweight = [] →
      (v.point (0x50 + a)).qlimit = none → execPortParkSet s = .next (ok p (aggCheck a v)) := by
  intro b a ms u old fl g gone v hfree hstrict hweight hlimit
  refine (interpret_given _ given).trans (congrArg _ ((checked_ok _ _ _ _ _ hlen hfields).trans ?_))
  have unset : ((v.point (0x50 + a)).strict.isEmpty && (v.point (0x50 + a)).cweight.isEmpty && (v.point (0x50 + a)).qlimit.isNone) = true := by
    rw [hstrict, hweight, hlimit]
    rfl
  refine (if_neg (by simp [hop])).trans ?_
  simp only [ms, a, b] at hfree
  simp only [hfree]
  exact congrArg (fun w => ok p (aggCheck a w)) (if_pos unset)

/-- Settles O35: each row of LACP and of parking in the branch that its premises select, and PORT_PARK_SET taken with its parameters checked. -/
theorem aggregatesComplete : Obligations.AggregatesComplete :=
  ⟨fun _ _ _ pdu hagg hopen => execLacpduReceived_of_open pdu hagg hopen,
   fun _ _ _ hagg hopen => execLacpPeriodic_of_open hagg hopen,
   fun _ _ hoff => execParkWindowEnd_of_off hoff,
   fun _ _ _ hon hpark hbound hst htrans hidle _ _ hwake hrate hpct hmin hspare hqueues hbusy hhold hlast =>
     execParkWindowEnd_of_calm ⟨hon, hpark, hbound, hst, htrans⟩ hidle hwake hrate hpct hmin hspare hqueues hbusy hhold hlast,
   fun _ _ _ hagg hpark hqueue hserving hlpi => execParkDrainDone_deep hagg hpark hqueue hserving hlpi,
   fun _ _ _ hagg hpark hqueue hserving hlpi => execParkDrainDone_lpi hagg hpark hqueue hserving hlpi,
   fun _ _ hpark => execDeepPendingEnd_of_pending hpark,
   fun _ _ _ hagg hpark hmacs hst => execMemberActive_of_up hagg hpark hmacs hst,
   fun _ _ _ hagg hpark hnone => execWakeLate_of_noneParked hagg hpark hnone,
   fun _ _ _ _ hagg hpark hsome => execWakeLate_of_parked hagg hpark hsome,
   fun _ _ hpark hdown hfence => execFailedMemberRetry_of_failed hpark hdown hfence,
   fun _ _ _ hkept => execEeeTlvExpiry_of_notLpi hkept,
   fun _ _ hpark => execEeeTlvExpiry_of_lpi hpark,
   fun _ _ _ given hlen ha hop => execPortParkSet_dissolve given hlen ha hop,
   fun _ _ _ given hlen hfields hop hfree hstrict hweight hlimit => execPortParkSet_make given hlen hfields hop hfree hstrict hweight hlimit⟩

end Sys2Proof.Machine
end

section
/-!
Proofs of the statement on the switch (ch 11): SWITCH_LOOKUP and VERDICT_ARRIVAL of a stored frame, SWX_TABLE_WRITE, SWX_TABLE_COMMIT and
SWX_MIRROR_SET.
-/
namespace Sys2Proof.Machine
open Sys2Proof

/-! ### The lookup (R399, R400, R418, R426) -/

theorem execSwitchLookup_of_judged {s : State} {id tun : Nat} {q : InFrame} {x : Found} {inner key : Bytes}
    (hq : s.net.inq.find? (fun x => x.frame.id == id && x.found.isNone && x.sealed.isNone) = some q) (hon : s.sliceOn = true)
    (hact : lookupFrame s.net.active q.frame.bytes q.frame.inVp q.frame.tc (s.domLost 45) = .act x inner tun key) (hjudged : q.judged = true) :
    execSwitchLookup id s =
      .next (applyAction x { q.frame with bytes := inner, tunnel := tun, hash := convHash key, csum := rxCsum inner } (dropIn id s)) := by
  simp only [execSwitchLookup, hq, hon, hact, hjudged, Bool.not_true, Bool.false_eq_true, if_false, if_true]

theorem execSwitchLookup_of_drop {s : State} {id : Nat} {q : InFrame}
    (hq : s.net.inq.find? (fun x => x.frame.id == id && x.found.isNone && x.sealed.isNone) = some q) (hon : s.sliceOn = true)
    (hdrop : lookupFrame s.net.active q.frame.bytes q.frame.inVp q.frame.tc (s.domLost 45) = .drop 0 0) :
    execSwitchLookup id s = .next (countEv 4 q.frame.inVp 5 1 (dropFrame none q.frame (dropIn id s))) := by
  simp only [execSwitchLookup, hq, hon, hdrop, Bool.not_true, Bool.false_eq_true, if_false]

/-! ### The verdict of a stored frame (R420, R426) -/

/-- Received frame q was neither protected nor sealed, and no part of it has left: its verdict decides on the whole frame. -/
structure InFrame.Stored (q : InFrame) : Prop where
  sec : q.sec = none
  sealed : q.sealed = none
  cut : q.cut = none
  early : q.early = []

section
variable {s : State} {id : Nat} {q : InFrame}

theorem execVerdictArrival_of_bad (hq : s.net.inq.find? (fun x => x.frame.id == id && !x.judged) = some q) (stored : q.Stored)
    (hbad : q.verdict ≠ 0) : execVerdictArrival id s = .next (dropFrame none q.frame (dropIn id s)) := by
  obtain ⟨hsec, hsealed, hcut, hearly⟩ := stored
  simp [execVerdictArrival, hq, hsec, hsealed, hcut, hearly, hbad]

theorem execVerdictArrival_of_found {x : Found} (hq : s.net.inq.find? (fun x => x.frame.id == id && !x.judged) = some q)
    (stored : q.Stored) (hgood : q.verdict = 0) (hfound : q.found = some x) :
    execVerdictArrival id s = .next (applyAction x q.frame (dropIn id s)) := by
  obtain ⟨hsec, hsealed, hcut, hearly⟩ := stored
  simp [execVerdictArrival, hq, hsec, hsealed, hcut, hearly, hgood, hfound]

theorem execVerdictArrival_of_unfound (hq : s.net.inq.find? (fun x => x.frame.id == id && !x.judged) = some q)
    (stored : q.Stored) (hgood : q.verdict = 0) (hfound : q.found = none) :
    execVerdictArrival id s = .next (modIn id (fun q => { q with judged := true }) s) := by
  obtain ⟨hsec, hsealed, hcut, hearly⟩ := stored
  simp [execVerdictArrival, hq, hsec, hsealed, hcut, hearly, hgood, hfound]

end

/-! ### SWX_TABLE_WRITE (R406, R409, R410) -/

/-- A command of whole records in one packet is not split inside a record. -/
theorem no_straddle (n size : Nat) :
    (decide (4 + n * size < 4) || (4 + n * size - 4) % size != 0 || ([] : List Nat).any fun x => x % size != 0) = false := by
  simp

theorem execSwxTableWrite_of_records {s t : State} {p : Packet} {max bytes key : Nat} {v : SwTables} (given : Given 0x0510 p s t)
    (hshape : tableShape (u8 p.params 0) = some (max, bytes, key))
    (hop : inR (u8 p.params 1) 1 2 = true) (hn : u16 p.params 2 ≠ 0) :
    let size := if key == 0 then bytes + 4 else bytes
    p.parts = [p.params.length] → p.params.length = 4 + u16 p.params 2 * size →
      putRecords (u8 p.params 0) (u8 p.params 1) size (u16 p.params 2) 0 t.net.shadow (p.params.drop 4) = .ok v →
      execSwxTableWrite s = .next (ok p { t with net := { t.net with shadow := v } }) := by
  intro size hparts hlen hput
  obtain ⟨hlo, hhi⟩ : 1 ≤ u8 p.params 1 ∧ u8 p.params 1 ≤ 2 := by simpa [inR] using hop
  have hin : inR (u8 p.params 1) 1 3 = true := by simp [inR]; omega
  have hnotClear : (u8 p.params 1 == 3) = false := beq_false_of_ne (by omega)
  refine (interpret_given _ given).trans (congrArg _ ?_)
  simp only [hshape, hparts, hlen]
  rw [if_neg (by omega), if_neg (by simp [hin]), if_neg (by simp [hnotClear, hn]), if_neg (by rw [no_straddle]; simp [size]), if_neg (by simp [hnotClear])]
  simp only [size] at hput
  rw [hput]

/-- CLEAR of an indexed table that no entry references takes its entries out. -/
theorem execSwxTableWrite_clears {s t : State} {p : Packet} {max bytes : Nat} (given : Given 0x0510 p s t) (hlen : p.params.length = 4)
    (hparts : p.parts = [4]) (hshape : tableShape (u8 p.params 0) = some (max, bytes, 0)) (hop : u8 p.params 1 = 3)
    (hn : u16 p.params 2 = 0) (hfree : t.net.shadow.anyRef (u8 p.params 0) = false) :
    execSwxTableWrite s = .next (ok p { t with net := { t.net with shadow :=
      { t.net.shadow with indexed := t.net.shadow.indexed.filter fun e => e.1 / 2 ^ 20 != u8 p.params 0 } } }) := by
  refine (interpret_given _ given).trans (congrArg _ ?_)
  simp [hshape, hparts, hlen, hop, hn, hfree, inR]

/-! ### SWX_TABLE_COMMIT (R407) -/

/-- The command asks for the generation that is active, or for any. -/
def Packet.wantsGen (p : Packet) (t : State) : Prop := u32 p.params 0 = 0xFFFFFFFF ∨ u32 p.params 0 = t.net.gen.toNat

theorem Packet.wantsGen.guard {p : Packet} {t : State} (h : p.wantsGen t) :
    ¬(u32 p.params 0 != 0xFFFFFFFF && u32 p.params 0 != t.net.gen.toNat) = true := by
  simp only [Bool.and_eq_true, bne_iff_ne]
  exact fun ⟨hany, hactive⟩ => h.elim hany hactive

section
variable {s t : State} {p : Packet}

theorem execSwxTableCommit_discards (given : Given 0x0511 p s t) (hlen : p.params.length = 8) (hop : u8 p.params 4 = 2) (hgen : p.wantsGen t) :
    execSwxTableCommit s = .next (complete p stOk (putLe 4 t.net.gen.toNat ++ putLe 4 (t.net.active.changes t.net.shadow))
      { t with net := { t.net with shadow := t.net.active } }) :=
  (interpret_given _ given).trans (congrArg _ ((checked_ok _ _ _ _ _ hlen (by simp [hop, inR])).trans
    ((if_neg hgen.guard).trans (if_pos (beq_iff_eq.mpr hop)))))

theorem execSwxTableCommit_of_unchanged (given : Given 0x0511 p s t) (hlen : p.params.length = 8) (hop : u8 p.params 4 = 1)
    (hgen : p.wantsGen t) (hsame : t.net.active.changes t.net.shadow = 0) :
    execSwxTableCommit s = .next (complete p stNote (putLe 4 t.net.gen.toNat ++ putLe 4 0) t) := by
  refine (interpret_given _ given).trans (congrArg _ ((checked_ok _ _ _ _ _ hlen (by simp [hop, inR])).trans
    ((if_neg hgen.guard).trans ((if_neg (by simp [hop])).trans ((if_pos hsame).trans ?_)))))
  rw [hsame]

theorem execSwxTableCommit_of_changed (given : Given 0x0511 p s t) (hlen : p.params.length = 8) (hop : u8 p.params 4 = 1)
    (hgen : p.wantsGen t) (hchanged : t.net.active.changes t.net.shadow ≠ 0) :
    let u := { t with net := { t.net with active := t.net.shadow, gen := t.net.gen + 1 } }
    let n := t.net.active.changes t.net.shadow
    let v := logEvent 10 0x8001 (detail [(16, 4, u.net.gen.toNat), (20, 4, n), (24, 2, p.cls * 4096 + p.ident)]) u
    execSwxTableCommit s = .next (complete p stOk (putLe 4 v.net.gen.toNat ++ putLe 4 n) v) :=
  (interpret_given _ given).trans (congrArg _ ((checked_ok _ _ _ _ _ hlen (by simp [hop, inR])).trans
    ((if_neg hgen.guard).trans ((if_neg (by simp [hop])).trans (if_neg hchanged)))))

/-! ### SWX_MIRROR_SET (R431) -/

/-- A mirror to a vport of the network needs no ring, and one with TUNNEL 0xFFFF no tunnel profile. -/
theorem execSwxMirrorSet_of_vport (given : Given 0x0512 p s t) (hlen : p.params.length = 16) :
    let b := p.params
    u8 b 0 ≤ 3 → isNetVp (u8 b 2) = true → u8 b 2 ≠ 0x40 → u16 b 4 = 0 ∨ inR (u16 b 4) 64 9216 = true → u16 b 6 = 0xFFFF →
      inR (u32 b 8) 1 16777216 = true →
      let m : Mirror := { on := (u8 b 1).testBit 0, dest := u8 b 2, ring := u8 b 3, trunc := u16 b 4, tunnel := none, sampleN := u32 b 8 }
      execSwxMirrorSet s = .next (ok p (syncUse 98 { t with net := { t.net with mirrors := tput {} t.net.mirrors (u8 b 0) m } })) := by
  intro b hindex hdest hnotRing htrunc htunnel hsample
  refine (interpret_given _ given).trans (congrArg _ ((checked_ok _ _ _ _ _ hlen ?_).trans ?_))
  · simp only [b] at hindex hdest hnotRing htrunc htunnel hsample
    simp [hindex, hdest, hnotRing, htrunc, htunnel, hsample]
  · have untunnelled : (u16 p.params 6 == 0xFFFF) = true := beq_iff_eq.mpr htunnel
    rw [if_pos untunnelled]

end

/-- Settles O36: the lookup and the verdict in the branch that their premises select, and each switch opcode with its parameters checked. -/
theorem switchComplete : Obligations.SwitchComplete :=
  ⟨fun _ _ _ _ _ _ _ hq hon hact hjudged => execSwitchLookup_of_judged hq hon hact hjudged,
   fun _ _ _ hq hon hdrop => execSwitchLookup_of_drop hq hon hdrop,
   fun _ _ _ _ hq hgood hsec hsealed hcut hearly hfound =>
     execVerdictArrival_of_found hq ⟨hsec, hsealed, hcut, hearly⟩ hgood hfound,
   fun _ _ _ hq hgood hsec hsealed hcut hearly hfound =>
     execVerdictArrival_of_unfound hq ⟨hsec, hsealed, hcut, hearly⟩ hgood hfound,
   fun _ _ _ hq hbad hsec hsealed hcut hearly => execVerdictArrival_of_bad hq ⟨hsec, hsealed, hcut, hearly⟩ hbad,
   fun _ _ _ _ _ _ _ given _ hshape hop hn hparts hlen hput => execSwxTableWrite_of_records given hshape hop hn hparts hlen hput,
   fun _ _ _ _ _ given hlen hparts hshape hop hn hfree => execSwxTableWrite_clears given hlen hparts hshape hop hn hfree,
   fun _ _ _ given hlen hop hgen hchanged => execSwxTableCommit_of_changed given hlen hop hgen hchanged,
   fun _ _ _ given hlen hop hgen => execSwxTableCommit_discards given hlen hop hgen,
   fun _ _ _ given hlen hop hgen hsame => execSwxTableCommit_of_unchanged given hlen hop hgen hsame,
   fun _ _ _ given hlen hindex hdest hnotRing htrunc htunnel hsample =>
     execSwxMirrorSet_of_vport given hlen hindex hdest hnotRing htrunc htunnel hsample⟩

end Sys2Proof.Machine
end

section
/-!
Proofs of the statement on keys (ch 13): KEY_LOAD, KEY_ERASE and KEY_KEK_SET, and the addition and deletion of security associations.
-/
namespace Sys2Proof.Machine
open Sys2Proof

section
variable {s t : State} {p : Packet}

/-! ### KEY_LOAD for the device's own keys (R466, R468, R474-R476) -/

/-- A LOAD of a blob that says AES-256: a key of that type has no halves that may not be equal (R477). -/
theorem execKeyLoad_load {d : Nat} (given : Given 0x0601 p s t) (hlen : p.params.length = 64) (hact : u8 p.params 0 = 1)
    (howner : u8 p.params 1 = 16) (hslot : loadSlot t 16 (u16 p.params 2) = .ok d) (htype : u8 (p.params.drop 8) 0 = 1) :
    execKeyLoad s = .next (match unwrapBlob t 16 false (p.params.drop 8) with
      | .error i => unwrapFail p 16 i (p.params.drop 8) t
      | .ok key =>
        let u := putKey d 16 (u16 p.params 2) 1 key t
        complete p stOk (putLe 2 d ++ zeros 2 ++ putLe 4 (tget 0 u.cry.gens d).toNat) u) := by
  refine (interpret_given _ given).trans (congrArg _ ?_)
  cases hblob : unwrapBlob t 16 false (p.params.drop 8) with
  | error i => simp [hlen, hact, howner, hslot, hblob, inR]
  | ok key => simp [hlen, hact, howner, hslot, htype, hblob, inR]

theorem execKeyLoad_generate {d : Nat} {k : Kek} (given : Given 0x0601 p s t) (hlen : p.params.length = 8) (hact : u8 p.params 0 = 2)
    (howner : u8 p.params 1 = 16) (hslot : loadSlot t 16 (u16 p.params 2) = .ok d) (htype : inR (u8 p.params 4) 1 3 = true)
    (hdrbg : t.domLost 64 = false) (hkek : (t.keksOf 16).cur = some k) (hst : t.cry.drbg.st = 1) :
    let r := drawKey (u8 p.params 4) t
    let u := putKey d 16 (u16 p.params 2) (u8 p.params 4) r.1 r.2
    execKeyLoad s = .next (complete p stOk
      (putLe 2 d ++ zeros 2 ++ putLe 4 (tget 0 u.cry.gens d).toNat ++ wrapBlob (u8 p.params 4) 16 k r.1) u) := by
  have act : inR 2 1 3 = true := rfl
  exact (interpret_given _ given).trans (congrArg _ (by simp [hlen, hact, howner, hslot, act, htype, hdrbg, hkek, hst]))

/-- A REWRAP takes a key of any type, and no slot. -/
theorem execKeyLoad_rewrap {k : Kek} (given : Given 0x0601 p s t) (hlen : p.params.length = 64) (hact : u8 p.params 0 = 3)
    (howner : u8 p.params 1 = 16) (hkek : (t.keksOf 16).cur = some k) :
    execKeyLoad s = .next (match unwrapBlob t 16 false (p.params.drop 8) with
      | .error i => unwrapFail p 16 i (p.params.drop 8) t
      | .ok key => complete p stOk (wrapBlob (u8 (p.params.drop 8) 0) 16 k key) t) := by
  refine (interpret_given _ given).trans (congrArg _ ?_)
  cases hblob : unwrapBlob t 16 false (p.params.drop 8) with
  | error i => simp [hlen, hact, howner, hblob, inR]
  | ok key => simp [hlen, hact, howner, hkek, hblob, inR]

/-! ### KEY_ERASE (R468, R507) -/

/-- An erase of all the device's slots, none of which is the key of an SA (a SecY has no key). -/
theorem execKeyErase_all (given : Given 0x0602 p s t) (hlen : p.params.length = 4) (howner : u8 p.params 0 = 16) (hall : u8 p.params 1 = 2) :
    let sel := t.cry.slots.filter fun x => x.2.owner == 16
    t.cry.sas.find? (fun x => x.2.kind != 1 && sel.any fun y => y.1 == x.2.slot) = none →
      execKeyErase s = .next (ok p (forEach sel (fun x s => eraseSlot x.1 x.2 s) t)) := by
  intro sel hunnamed
  refine (interpret_given _ given).trans (congrArg _ ((checked_ok _ _ _ _ _ hlen (by simp [howner, hall, inR])).trans ?_))
  have selected : (t.cry.slots.filter fun x => x.2.owner == u8 p.params 0 && (u8 p.params 1 == 2 || x.2.index == u16 p.params 2)) = sel := by
    simp [sel, howner, hall]
  simp only [selected, hunnamed]
  exact if_neg (by simp [hall])

/-! ### KEY_KEK_SET (R471-R473) -/

/-- The guards of an INSTALL whose generation follows the current KEK's, or of any generation where there is none, let it through (R472). -/
theorem installGen_ok {ks : Keks} {gen : Nat} (hlast : ks.cur.map (·.gen) ≠ some 65535) (hgen : gen ≠ 0)
    (hnext : ks.cur = none ∨ ks.cur.map (·.gen + 1) = some gen) :
    ((ks.cur.map (·.gen)).getD 0 == 65535) = false ∧ ((ks.cur.isSome && gen != (ks.cur.map (·.gen)).getD 0 + 1) || gen == 0) = false := by
  cases hcur : ks.cur with
  | none => simp [hgen]
  | some k => simp_all

theorem execKeyKekSet_install (given : Given 0x0603 p s t) (hlen : p.params.length = 64) (howner : u8 p.params 0 ≤ 16)
    (hact : u8 p.params 1 = 1) :
    let b := p.params
    let ks := t.keksOf (u8 b 0)
    ks.cur.map (·.gen) ≠ some 65535 → u16 b 2 ≠ 0 → ks.cur = none ∨ ks.cur.map (·.gen + 1) = some (u16 b 2) →
      execKeyKekSet s = .next (match unwrapBlob t (u8 b 0) true (b.drop 8) with
        | .error i => unwrapFail p (u8 b 0) i (b.drop 8) t
        | .ok key => ok p (logEvent 13 0x8003 (detail [(16, 1, u8 b 0), (17, 1, 1), (18, 2, u16 b 2)])
          (setKeks (u8 b 0) ⟨some ⟨u16 b 2, key⟩, ks.cur⟩ t))) := by
  intro b ks hlast hgen hnext
  obtain ⟨hroom, hfits⟩ := installGen_ok hlast hgen hnext
  simp only [ks, b] at hroom hfits ⊢
  refine (interpret_given _ given).trans (congrArg _ ?_)
  simp only [hroom, hfits]
  cases unwrapBlob t (u8 p.params 0) true (p.params.drop 8) with
  | error i => simp [hlen, hact, Nat.not_lt.mpr howner, inR]
  | ok key => simp [hlen, hact, Nat.not_lt.mpr howner, inR]

theorem execKeyKekSet_retire (given : Given 0x0603 p s t) (hlen : p.params.length = 8) (howner : u8 p.params 0 ≤ 16)
    (hact : u8 p.params 1 = 2) :
    let o := u8 p.params 0
    let ks := t.keksOf o
    execKeyKekSet s = .next (ok p (logEvent 13 0x8003 (detail [(16, 1, o), (17, 1, 2), (18, 2, (ks.cur.map (·.gen)).getD 0)])
      (setKeks o { ks with prev := none } t))) :=
  (interpret_given _ given).trans (congrArg _ (by simp [hlen, hact, Nat.not_lt.mpr howner, inR]))

/-! ### Security associations (R504-R506) -/

/-- An outbound ESP SA has no match that another SA could share, and is bound to no SecY: only its index, its room and its key count. -/
theorem execCrySaAdd_espOut (given : Given 0x0604 p s t) (hlen : p.params.length = 64) (hfields : (saFields t p.params).all (·.2) = true)
    (hkind : u8 p.params 2 = 0x10) (hfree : t.saAny (u16 p.params 0) = none) (hroom : saRoom t 0x10 (u16 p.params 6) = true)
    (hkey : (t.cry.slots.lookup (u16 p.params 4)).map (·.type) = some 1) :
    let b := p.params
    execCrySaAdd s = .next (ok p (modCry (fun c => { c with
      sas := tins (u16 b 0) { kind := 0x10, flags := u8 b 3, slot := u16 b 4, secy := u16 b 6, raw := b.drop 8, next := 1 } c.sas }) t)) :=
  (interpret_given _ given).trans (congrArg _ ((checked_ok _ _ _ _ _ hlen hfields).trans (by simp [hkind, hfree, hroom, hkey])))

/-- Only a SecY can still have SAs, so any other SA goes unless a storage connection names it. -/
theorem execCrySaDel_of_unnamed (given : Given 0x0605 p s t) (hlen : p.params.length = 4) :
    let i := u16 p.params 0
    (t.sa i).isSome = true → (t.saAny i).map (·.kind) ≠ some 1 → t.connNames i = false →
      execCrySaDel s = .next (finishSaDel (waitFor p (.saDel i) (modSa i (fun x => { x with going := true }) t))) := by
  intro i hsa hkind hconn
  have noSecy : (t.cry.sas.any fun x => (x.2.kind == 2 || x.2.kind == 3) && x.2.secy == i && ((t.saAny i).map (·.kind)) == some 1) = false := by
    simp [beq_false_of_ne hkind]
  exact (interpret_given _ given).trans (congrArg _ ((checked_ok _ _ _ _ _ hlen (by simpa using hsa)).trans
    ((if_neg (ne_true_of_eq_false noSecy)).trans (if_neg (ne_true_of_eq_false hconn)))))

end

/-- Settles O14: each opcode taken, its parameters checked, in the branch that its premises select. -/
theorem keyCommandsComplete : Obligations.KeyCommandsComplete :=
  ⟨fun _ _ _ _ given hlen hact howner hslot htype => execKeyLoad_load given hlen hact howner hslot htype,
   fun _ _ _ _ _ given hlen hact howner hslot htype hdrbg hkek hst => execKeyLoad_generate given hlen hact howner hslot htype hdrbg hkek hst,
   fun _ _ _ _ given hlen hact howner hkek => execKeyLoad_rewrap given hlen hact howner hkek,
   fun _ _ _ given hlen howner hall hunnamed => execKeyErase_all given hlen howner hall hunnamed,
   fun _ _ _ given hlen howner hact hlast hgen hnext => execKeyKekSet_install given hlen howner hact hlast hgen hnext,
   fun _ _ _ given hlen howner hact => execKeyKekSet_retire given hlen howner hact,
   fun _ _ _ given hlen hfields hkind hfree hroom hkey => execCrySaAdd_espOut given hlen hfields hkind hfree hroom hkey,
   fun _ _ _ given hlen hsa hkind hconn => execCrySaDel_of_unnamed given hlen hsa hkind hconn⟩

end Sys2Proof.Machine
end

section
/-!
Proofs of the statement on drives (ch 14): the submission of a command, the poll of a completion queue, a command that is late, and the storage opcodes.
-/
namespace Sys2Proof.Machine
open Sys2Proof

section
variable {s t u : State} {p : Packet} {d : Nat} {x : Drive} {c : DrvCmd}

/-! ### The queues of a drive (R545-R548) -/

theorem execDriveSubmit_of_room {k : Nat} (hdrive : s.drive d = some x) (hgood : x.failed = false) (hroom : x.out.length < x.limit)
    (hnext : nextCmd (x.out.map (·.2)) x.waiting = some c)
    (hslot : (List.range x.limit).find? (fun k => !(x.out.any fun o => o.1 == k)) = some k) :
    execDriveSubmit d s = .next (driveIssue d x c k s) := by
  simp [execDriveSubmit, hdrive, hgood, Nat.not_le.mpr hroom, hnext, hslot]

section
variable {b : Bytes} {cqes : Option Bytes} {data recs : List (Option Bytes)}

theorem execDriveCqPoll_of_unread (hdrive : s.drive d = some x) (hout : x.out ≠ [])
    (hread : dmaGet pf0 (u64 x.raw 24 + 16 * x.head) 64 cqes s = (none, t)) :
    execDriveCqPoll d cqes data recs s = .next (failDrive d 1 t) := by
  simp [execDriveCqPoll, hdrive, hout, hread]

/-- With no new CQE the head stays, and its doorbell is not written. -/
theorem execDriveCqPoll_of_none_taken (hdrive : s.drive d = some x) (hout : x.out ≠ [])
    (hread : dmaGet pf0 (u64 x.raw 24 + 16 * x.head) 64 cqes s = (some b, t)) (htake : takeCqes d 4 b data recs false t = (false, u)) :
    execDriveCqPoll d cqes data recs s = .next u := by
  simp [execDriveCqPoll, hdrive, hout, hread, htake]

end

/-- The first timeout of a command is counted and answered whatever the count is; with the third the drive fails. -/
theorem execDriveTimeout_of_first {slot : Nat} (hdrive : s.drive d = some x) (hcmd : x.out.lookup slot = some c) (hfirst : c.late = false)
    (hlive : c.dead = false) :
    execDriveTimeout d slot s = .next (whenS (decide (3 ≤ x.timeouts + 1)) (failDrive d 0) (partDone c.handle c.cid 0x06 0 0
      (logEvent 14 0x8003 (detail [(16, 1, d), (20, 2, c.cid)]) (modDrive d (fun x =>
        { x with timeouts := x.timeouts + 1, out := x.out.map fun o => if o.1 == slot then (o.1, { o.2 with late := true }) else o }) s)))) := by
  simp [execDriveTimeout, hdrive, hcmd, hfirst, hlive]

theorem execDriveTimeout_before_third {slot : Nat} (hdrive : s.drive d = some x) (hcmd : x.out.lookup slot = some c)
    (hfirst : c.late = false) (hlive : c.dead = false) (hcount : x.timeouts < 2) :
    execDriveTimeout d slot s = .next (partDone c.handle c.cid 0x06 0 0 (logEvent 14 0x8003 (detail [(16, 1, d), (20, 2, c.cid)])
      (modDrive d (fun x =>
        { x with timeouts := x.timeouts + 1, out := x.out.map fun o => if o.1 == slot then (o.1, { o.2 with late := true }) else o }) s))) := by
  have notThird : decide (3 ≤ x.timeouts + 1) = false := by simpa using hcount
  rw [execDriveTimeout_of_first hdrive hcmd hfirst hlive, notThird, whenS_false]

/-! ### STO_TARGET_CFG (R543, R554) -/

/-- A SET of a drive that was not set: it has no commands to end. -/
theorem execStoTargetCfg_of_unset (given : Given 0x0701 p s t) (hlen : p.params.length = 64) :
    let b := p.params
    u8 b 0 ≤ 23 → u8 b 1 = 1 → u8 b 2 = 9 ∨ u8 b 2 = 12 → u16 b 4 ≠ 0 → inR (u16 b 6) 2 4096 = true → u64 b 8 % 4096 = 0 →
      u64 b 24 % 4096 = 0 → u64 b 40 % 4096 = 0 → inR (u32 b 48) 1028 16777216 = true → u16 b 52 = u16 b 6 →
      inR (u16 b 54) 1 60000 = true → inR (u64 b 56) 1 (2 ^ 48) = true → t.drive (u8 b 0) = none →
      let u := modSto (fun x => { x with drives := x.drives.filter fun y => y.1 != u8 b 0 }) t
      execStoTargetCfg s = .next (ok p (modSto (fun x => { x with drives := tins (u8 b 0) { raw := b } x.drives }) u)) := by
  have act : inR 1 1 2 = true := rfl
  intro b hd hset hblock hid hdepth hsq hcq hdata hsize hsame htime hblocks hnew
  simp only [b] at *
  refine (interpret_given _ given).trans (congrArg _ ((checked_ok _ _ _ _ _ hlen ?_).trans ?_))
  · simpa [hd, hset, hblock, hid, hdepth, hsq, hcq, hdata, hsize, hsame, htime, act] using hblocks
  · simp [hset, hnew, forEach]

/-! ### STO_NS_SET (R535, R555) -/

theorem dropSpace_of_none {i : Nat} (h : s.space i = none) : dropSpace i s = s := by simp [dropSpace, h]

/-- A SET of an index not in use, of a backend other than a drive: nothing is dropped, and no other owner's list changes. -/
theorem execStoNsSet_adds (given : Given 0x0702 p s t) (hlen : p.params.length = 36) :
    let b := p.params
    u8 b 0 = 1 → u8 b 1 ≤ 16 → u16 b 2 < 1024 → inR (u32 b 4) 1 0xFFFFFFFE = true → u8 b 8 = 1 → u8 b 11 = 9 ∨ u8 b 11 = 12 →
      inR (u64 b 24) 1 (2 ^ 48) = true → u8 b 34 ≤ 15 → spaceFault t b = none → t.space (u16 b 2) = none →
      let u := modSto (fun x => { x with spaces := tins (u16 b 2) b x.spaces }) t
      execStoNsSet s = .next (ok p (modSpaces (u8 b 1) (fun l => withoutSpace (u16 b 2) l ++ [⟨u32 b 4, u16 b 2, listFlags b⟩]) u)) := by
  have act : inR 1 1 2 = true := rfl
  intro b hset howner hindex hnsid hback hblock hsize hprofile hfits hfree
  simp only [b] at *
  refine (interpret_given _ given).trans (congrArg _ ((checked_ok _ _ _ _ _ hlen ?_).trans ?_))
  · simpa [hset, howner, hindex, hnsid, hback, hblock, hprofile, act] using hsize
  · simp [hset, hfits, hfree, dropSpace_of_none hfree]

theorem execStoNsSet_removes {x : Bytes} (given : Given 0x0702 p s t) (hlen : p.params.length = 36) :
    let b := p.params
    u8 b 0 = 2 → u8 b 1 ≤ 16 → u16 b 2 < 1024 → t.space (u16 b 2) = some x → u8 x 1 = u8 b 1 →
      execStoNsSet s = .next (ok p (modSpaces (u8 b 1) (withoutSpace (u16 b 2)) (dropSpace (u16 b 2) t))) := by
  intro b hremove howner hindex hspace hmine
  simp only [b] at *
  refine (interpret_given _ given).trans (congrArg _ ((checked_ok _ _ _ _ _ hlen ?_).trans ?_))
  · simp [hremove, howner, hindex, inR]
  · simp [hremove, hspace, hmine]

/-! ### STO_CONN_STATUS (Table 14-10) -/

theorem execStoConnStatus_lists (given : Given 0x0703 p s t) (hlen : p.params.length = 4) (hfirst : u16 p.params 0 ≤ 8191)
    (hcount : inR (u16 p.params 2) 1 63 = true) :
    let l := (t.sto.conns.filter fun c => u16 p.params 0 ≤ c.1).take (u16 p.params 2)
    execStoConnStatus s = .next (complete p stOk (putLe 2 ((l.head?.map (·.1)).getD (u16 p.params 0)) ++ putLe 2 l.length
      ++ putLe 2 t.sto.conns.length ++ zeros 2 ++ (l.map fun c => connEntry t c.1 c.2).flatten) t) :=
  (interpret_given _ given).trans (congrArg _ (checked_ok _ _ _ _ _ hlen (by simp [hfirst, hcount])))

end

/-- Settles O21: each event of a drive in the branch that its premises select, and each storage opcode taken with its parameters checked. -/
theorem storageDrivesComplete : Obligations.StorageDrivesComplete :=
  ⟨fun _ _ _ _ _ hdrive hgood hroom hnext hslot => execDriveSubmit_of_room hdrive hgood hroom hnext hslot,
   fun _ _ _ _ _ _ _ hdrive hout hread => execDriveCqPoll_of_unread hdrive hout hread,
   fun _ _ _ _ _ _ _ _ _ hdrive hout hread htake => execDriveCqPoll_of_none_taken hdrive hout hread htake,
   fun _ _ _ _ _ hdrive hcmd hfirst hlive hcount => execDriveTimeout_before_third hdrive hcmd hfirst hlive hcount,
   fun _ _ _ given hlen hd hset hblock hid hdepth hsq hcq hdata hsize hsame htime hblocks hnew =>
     execStoTargetCfg_of_unset given hlen hd hset hblock hid hdepth hsq hcq hdata hsize hsame htime hblocks hnew,
   fun _ _ _ given hlen hset howner hindex hnsid hback hblock hsize hprofile hfits hfree =>
     execStoNsSet_adds given hlen hset howner hindex hnsid hback hblock hsize hprofile hfits hfree,
   fun _ _ _ _ given hlen hremove howner hindex hspace hmine => execStoNsSet_removes given hlen hremove howner hindex hspace hmine,
   fun _ _ _ given hlen hfirst hcount => execStoConnStatus_lists given hlen hfirst hcount⟩

end Sys2Proof.Machine
end

section
/-!
Proofs of the statements on what every step keeps: the form and the bits of OTP (ch 26) and the field locks of the label (ch 22).
-/
namespace Sys2Proof.Machine
open Sys2Proof

theorem idleTick_otp (s : State) : (idleTick s).otp = s.otp := by
  unfold idleTick
  dsimp only
  split <;> split <;> rfl

theorem idleTick_lbl (s : State) : (idleTick s).lbl = s.lbl := by
  unfold idleTick
  dsimp only
  split <;> split <;> rfl

/-- A step, of a command or of idle time, clears no OTP bit, keeps the OTP in form and unlocks no label block: `exec_grew` for every shape of the queue. -/
theorem step_grew {s t : State} (h : step s = .next t) :
    s.otpGrew t ∧ (s.otpWf → t.otpWf) ∧ ∀ b ∈ s.lbl.locked, b ∈ t.lbl.locked := by
  cases hp : s.pending with
  | nil =>
    simp only [step, hp, Host.Outcome.next.injEq] at h
    subst h
    rw [State.otpGrew, State.otpWf, State.otpWf, idleTick_otp, idleTick_lbl]
    exact ⟨Mem.within_refl _, id, fun _ => id⟩
  | cons c rest =>
    simp only [step, hp] at h
    obtain ⟨u, hu, -, -, hlocked, hbits, hform⟩ := exec_grew c { s with pending := rest }
    cases h.symm.trans hu
    exact ⟨hbits, hform, hlocked⟩

/-- Settles O46: the form is one part of what every step lets grow. -/
theorem otpFormHolds : Obligations.OtpFormHolds := fun _ _ hform h => (step_grew h).2.1 hform

/-- Settles O47: the bits are one part of what every step lets grow. -/
theorem otpBitsOnlySet : Obligations.OtpBitsOnlySet := fun _ _ h => (step_grew h).1

/-- Settles O48: the locks are one part of what every step lets grow. -/
theorem labelLocksPermanent : Obligations.LabelLocksPermanent := fun _ _ b h => (step_grew h).2.2 b

/-- Settles O45: nothing is programmed at reset (R938). -/
theorem resetOtpForm : Obligations.ResetOtpForm := rfl

end Sys2Proof.Machine
end

section
/-!
Proofs of the statements on the signal engine (ch 16): its accumulators, what an instruction leaves unchanged, the instructions one by one, and the
tick, its source and the program commands.
-/
namespace Sys2Proof.Machine
open Sys2Proof

/-! ### Writing an accumulator (R605) -/

/-- The saturating write of R605, by cases on where the value lies. -/
theorem clampI_acc (v : Int) :
    clampI (-(2 ^ 71)) (2 ^ 71 - 1) v = if v < -(2 ^ 71) then -(2 ^ 71) else if 2 ^ 71 - 1 < v then 2 ^ 71 - 1 else v := by
  unfold clampI
  split
  · omega
  · split <;> omega

theorem satRecord_reported (s : State) : s.Reported (satRecord s) := logLimited_spec ..

theorem State.Reported.sge {s t : State} (h : s.Reported t) : t.sge = s.sge := by
  obtain ⟨l, p, c, o, rfl⟩ := h
  rfl

theorem satRecord_sge (s : State) : (satRecord s).sge = s.sge := (satRecord_reported s).sge

/-- A value in the range is written as it is, and one outside saturates, sets its bits and is recorded. -/
theorem setAcc_of_inRange {d : Nat} {v : Int} (s : State) (h : clampI (-(2 ^ 71)) (2 ^ 71 - 1) v = v) :
    setAcc d v s = modSge (fun g => { g with acc := tput 0 g.acc d v }) s := by
  simp only [setAcc, h, if_true]

theorem setAcc_of_outOfRange {d : Nat} {v : Int} (s : State) (h : clampI (-(2 ^ 71)) (2 ^ 71 - 1) v ≠ v) :
    setAcc d v s = satRecord (modSge (fun g => { g with
      acc := tput 0 g.acc d (clampI (-(2 ^ 71)) (2 ^ 71 - 1) v), ovf := g.ovf ||| 2 ^ d, flags := g.flags ||| 1 }) s) := by
  simp only [setAcc, h, if_false]
  rfl

theorem setAcc_acc (d e : Nat) (v : Int) (s : State) :
    (setAcc d v s).acc e = if e = d then clampI (-(2 ^ 71)) (2 ^ 71 - 1) v else s.acc e := by
  by_cases h : clampI (-(2 ^ 71)) (2 ^ 71 - 1) v = v
  · rw [setAcc_of_inRange s h, h]
    exact tget_tput 0 s.sge.acc d e v
  · rw [setAcc_of_outOfRange s h, State.acc, satRecord_sge]
    exact tget_tput 0 s.sge.acc d e _

/-! ### What an instruction can do (Table 16-5) -/

/-- An accumulator, the two registers that note saturation, and what a record changes: nothing else is different. -/
def State.ComputedFrom (s t : State) : Prop :=
  ∃ acc ovf flags l p c o, t = { s with sge := { s.sge with acc := acc, ovf := ovf, flags := flags }, log := l, pce := p, cnt := c, out := o }

/-- t is s after accumulator d may have been computed: the frame, the other accumulators, and the range of them all (R605). -/
structure State.Computed (d : Nat) (s t : State) : Prop where
  frame : s.ComputedFrom t
  others : ∀ e, e ≠ d → t.acc e = s.acc e
  range : s.accOk → t.accOk

theorem State.Computed.refl (d : Nat) (s : State) : s.Computed d s :=
  ⟨⟨_, _, _, _, _, _, _, rfl⟩, fun _ _ => rfl, id⟩

theorem State.Computed.trans {d : Nat} {s t u : State} (h : s.Computed d t) (k : t.Computed d u) : s.Computed d u := by
  refine ⟨?_, fun e he => (k.others e he).trans (h.others e he), fun r => k.range (h.range r)⟩
  obtain ⟨_, _, _, _, _, _, _, rfl⟩ := h.frame
  obtain ⟨_, _, _, _, _, _, _, rfl⟩ := k.frame
  exact ⟨_, _, _, _, _, _, _, rfl⟩

theorem setAcc_computed (d : Nat) (v : Int) (s : State) : s.Computed d (setAcc d v s) := by
  refine ⟨?_, fun e he => (setAcc_acc d e v s).trans (if_neg he), fun range e => ?_⟩
  · by_cases h : clampI (-(2 ^ 71)) (2 ^ 71 - 1) v = v
    · rw [setAcc_of_inRange s h]
      exact ⟨_, _, _, _, _, _, _, rfl⟩
    · rw [setAcc_of_outOfRange s h]
      obtain ⟨_, _, _, _, hrec⟩ := satRecord_reported (modSge (fun g => { g with
        acc := tput 0 g.acc d (clampI (-(2 ^ 71)) (2 ^ 71 - 1) v), ovf := g.ovf ||| 2 ^ d, flags := g.flags ||| 1 }) s)
      exact ⟨_, _, _, _, _, _, _, hrec⟩
  · rw [setAcc_acc]
    split
    · exact clampI_range _ _ v (by decide)
    · exact range e

/-- A conversion computes no accumulator: it can set SAT and write a record (R606). -/
theorem convAcc_computed (d a : Nat) (s : State) : s.Computed d (convAcc a s).2.2 := by
  unfold convAcc
  dsimp only
  split
  · obtain ⟨_, _, _, _, hrec⟩ := satRecord_reported (modSge (fun g => { g with flags := g.flags ||| 2 }) s)
    have hacc (e : Nat) : (satRecord (modSge (fun g => { g with flags := g.flags ||| 2 }) s)).acc e = s.acc e := by
      rw [State.acc, satRecord_sge]
      rfl
    exact ⟨⟨_, _, _, _, _, _, _, hrec⟩, fun e _ => hacc e, fun range e => hacc e ▸ range e⟩
  · exact .refl d s

theorem macRun_computed (w n i : Nat) (s : State) : s.Computed (sgD w) (macRun w n i s) := by
  induction n generalizing i s with
  | zero => exact .refl _ s
  | succ n ih => exact (setAcc_computed _ _ _).trans (ih _ _)

section
variable {w : Nat} {s : State}

theorem sgeDo_nop (h : sgOp w = 0x00) : sgeDo w s = s := by simp only [sgeDo, h]
theorem sgeDo_clr (h : sgOp w = 0x01) : sgeDo w s = setAcc (sgD w) 0 s := by simp only [sgeDo, h]
theorem sgeDo_mov (h : sgOp w = 0x02) : sgeDo w s = setAcc (sgD w) (s.acc (sgA w)) s := by simp only [sgeDo, h]
theorem sgeDo_add (h : sgOp w = 0x03) : sgeDo w s = setAcc (sgD w) (s.acc (sgA w) + s.acc (sgB w)) s := by simp only [sgeDo, h]
theorem sgeDo_sub (h : sgOp w = 0x04) : sgeDo w s = setAcc (sgD w) (s.acc (sgA w) - s.acc (sgB w)) s := by simp only [sgeDo, h]
theorem sgeDo_neg (h : sgOp w = 0x05) : sgeDo w s = setAcc (sgD w) (-s.acc (sgA w)) s := by simp only [sgeDo, h]
theorem sgeDo_abs (h : sgOp w = 0x06) : sgeDo w s = setAcc (sgD w) ((s.acc (sgA w)).natAbs : Int) s := by simp only [sgeDo, h]
theorem sgeDo_min (h : sgOp w = 0x07) : sgeDo w s = setAcc (sgD w) (min (s.acc (sgA w)) (s.acc (sgB w))) s := by simp only [sgeDo, h]
theorem sgeDo_max (h : sgOp w = 0x08) : sgeDo w s = setAcc (sgD w) (max (s.acc (sgA w)) (s.acc (sgB w))) s := by simp only [sgeDo, h]
theorem sgeDo_ash (h : sgOp w = 0x09) : sgeDo w s = setAcc (sgD w) (ash (s.acc (sgA w)) (sgSh w)) s := by simp only [sgeDo, h]
theorem sgeDo_csel (h : sgOp w = 0x0A) :
    sgeDo w s = setAcc (sgD w) (if cselTest (sgMod w) (s.acc (sgD w)) then s.acc (sgA w) else s.acc (sgB w)) s := by simp only [sgeDo, h]
theorem sgeDo_clamp (h : sgOp w = 0x0B) : sgeDo w s =
    setAcc (sgD w) (min (max (s.acc (sgA w)) (s.coef (sgCaddr w) * 2 ^ 31)) (s.coef (sgCaddr w + 1) * 2 ^ 31)) s := by simp only [sgeDo, h]
theorem sgeDo_ldi (h : sgOp w = 0x0C) : sgeDo w s = setAcc (sgD w) (sgImm w * 2 ^ 30) s := by simp only [sgeDo, h]
theorem sgeDo_ldc (h : sgOp w = 0x10) : sgeDo w s = setAcc (sgD w) (s.coef (sgCaddr w) * 2 ^ 31) s := by simp only [sgeDo, h]
theorem sgeDo_rdd (h : sgOp w = 0x11) : sgeDo w s = setAcc (sgD w) (s.tapWord (sgLine w) (sgTap w) * 2 ^ 30) s := by simp only [sgeDo, h]
theorem sgeDo_wrd (h : sgOp w = 0x12) :
    sgeDo w s = let r := convAcc (sgA w) s; writeLine (sgLine w) r.1 r.2.2 := by simp only [sgeDo, h]
theorem sgeDo_mac (h : sgOp w = 0x13) : sgeDo w s = macRun w s.sge.rep 0 s := by simp only [sgeDo, h]
theorem sgeDo_maca (h : sgOp w = 0x14) : sgeDo w s =
    let r := convAcc (sgA w) s; setAcc (sgD w) (r.2.2.acc (sgD w) + r.1 * r.2.2.coef (sgCaddr w)) r.2.2 := by simp only [sgeDo, h]
theorem sgeDo_mula (h : sgOp w = 0x15) : sgeDo w s =
    let r := convAcc (sgA w) s; setAcc (sgD w) (r.1 * r.2.2.coef (sgCaddr w)) r.2.2 := by simp only [sgeDo, h]
theorem sgeDo_mulab (h : sgOp w = 0x16) : sgeDo w s =
    let r := convAcc (sgA w) s; let u := convAcc (sgB w) r.2.2; setAcc (sgD w) (r.1 * u.1 / 2) u.2.2 := by simp only [sgeDo, h]
theorem sgeDo_in (h : sgOp w = 0x20) : sgeDo w s = setAcc (sgD w) (signed 32 (tget 0 s.sio.inputs (sgPort w)) * 2 ^ 30) s := by
  simp only [sgeDo, h]
theorem sgeDo_out (h : sgOp w = 0x21) : sgeDo w s =
    let r := convAcc (sgA w) s; modSge (fun g => { g with outs := tins (sgPort w) (unsigned 32 r.1) g.outs }) r.2.2 := by simp only [sgeDo, h]
theorem sgeDo_res (h : sgOp w = 0x22) : sgeDo w s =
    let r := convAcc (sgA w) s
    modSge (fun g => { g with res := tins (sgPort w * 8 + sgWord w) (unsigned 32 r.1) g.res
                              resSat := if r.2.1 then nset (sgPort w) g.resSat else g.resSat }) r.2.2 := by simp only [sgeDo, h]
theorem sgeDo_rep (h : sgOp w = 0x30) : sgeDo w s = s := by simp only [sgeDo, h]

end

/-- Every instruction but WRD, OUT and RES only computes an accumulator, and D alone. -/
theorem sgeDo_computed {w : Nat} (s : State) (hwrd : sgOp w ≠ 0x12) (hout : sgOp w ≠ 0x21) (hres : sgOp w ≠ 0x22) :
    s.Computed (sgD w) (sgeDo w s) := by
  unfold sgeDo
  dsimp only
  split
  case h_15 h => exact absurd h hwrd
  case h_16 => exact macRun_computed ..
  case h_17 => exact (convAcc_computed ..).trans (setAcc_computed ..)
  case h_18 => exact (convAcc_computed ..).trans (setAcc_computed ..)
  case h_19 => exact ((convAcc_computed ..).trans (convAcc_computed ..)).trans (setAcc_computed ..)
  case h_21 h => exact absurd h hout
  case h_22 h => exact absurd h hres
  case h_23 => exact .refl _ s
  all_goals exact setAcc_computed ..

theorem writeLine_acc (line : Nat) (v : Int) (s : State) (e : Nat) : (writeLine line v s).acc e = s.acc e := by
  unfold writeLine
  split <;> rfl

/-- The three instructions that store compute no accumulator. -/
theorem sgeDo_accs (w : Nat) (s : State) :
    (∀ e, e ≠ sgD w → (sgeDo w s).acc e = s.acc e) ∧ (s.accOk → (sgeDo w s).accOk) := by
  by_cases hwrd : sgOp w = 0x12
  · have h := convAcc_computed (sgD w) (sgA w) s
    rw [sgeDo_wrd hwrd]
    exact ⟨fun e he => (writeLine_acc ..).trans (h.others e he), fun range e => by rw [writeLine_acc]; exact h.range range e⟩
  by_cases hout : sgOp w = 0x21
  · have h := convAcc_computed (sgD w) (sgA w) s
    rw [sgeDo_out hout]
    exact ⟨h.others, h.range⟩
  by_cases hres : sgOp w = 0x22
  · have h := convAcc_computed (sgD w) (sgA w) s
    rw [sgeDo_res hres]
    exact ⟨h.others, h.range⟩
  have h := sgeDo_computed s hwrd hout hres
  exact ⟨h.others, h.range⟩

/-- Settles O51: what each instruction does to the accumulators, and the saturating write by where its value lies. -/
theorem accumulatorsSaturate : Obligations.AccumulatorsSaturate := by
  refine ⟨fun w s => (sgeDo_accs w s).2, fun w d s hd => (sgeDo_accs w s).1 d hd, fun d v s => ⟨?_, ?_, fun h => ?_, fun h => ?_⟩⟩
  · rw [setAcc_acc, if_pos rfl, clampI_acc]
  · intro e he
    rw [setAcc_acc, if_neg he]
  · rw [setAcc_of_inRange s (clampI_id _ _ v h.1 h.2)]
    exact ⟨rfl, rfl⟩
  · have hout : clampI (-(2 ^ 71)) (2 ^ 71 - 1) v ≠ v := by
      have := clampI_range (-(2 ^ 71)) (2 ^ 71 - 1) v (by decide)
      omega
    rw [setAcc_of_outOfRange s hout, satRecord_sge]
    exact ⟨rfl, rfl⟩

/-! ### What an instruction leaves unchanged (R608, R611, R612) -/

/-- What no instruction of the engine changes: SIO, the programs, the pointers, the tick, and the other blocks that a steep could reach. -/
def State.SameBesideSteep (s t : State) : Prop :=
  t.sio = s.sio ∧ t.sge.active = s.sge.active ∧ t.sge.staged = s.sge.staged ∧ t.sge.ptr = s.sge.ptr ∧ t.sge.tick = s.sge.tick ∧
  t.wdn = s.wdn ∧ t.net = s.net ∧ t.dom = s.dom ∧ t.mem = s.mem

/-- The delay memory and the two lists of staged words. -/
def Sge.stores (g : Sge) : List (Nat × Nat) × List (Nat × Nat) × List (Nat × Nat) := (g.delay, g.outs, g.res)

theorem State.SameBesideSteep.refl (s : State) : s.SameBesideSteep s := ⟨rfl, rfl, rfl, rfl, rfl, rfl, rfl, rfl, rfl⟩

theorem State.ComputedFrom.beside {s t : State} (h : s.ComputedFrom t) : s.SameBesideSteep t := by
  obtain ⟨_, _, _, _, _, _, _, rfl⟩ := h
  exact .refl s

theorem State.ComputedFrom.stores {s t : State} (h : s.ComputedFrom t) : t.sge.stores = s.sge.stores := by
  obtain ⟨_, _, _, _, _, _, _, rfl⟩ := h
  rfl

theorem writeLine_beside (line : Nat) (v : Int) (s : State) : s.SameBesideSteep (writeLine line v s) := by
  unfold writeLine
  split <;> exact .refl s

theorem writeLine_outs_res (line : Nat) (v : Int) (s : State) :
    (writeLine line v s).sge.outs = s.sge.outs ∧ (writeLine line v s).sge.res = s.sge.res := by
  unfold writeLine
  split <;> exact ⟨rfl, rfl⟩

theorem State.SameBesideSteep.trans {s t u : State} (h : s.SameBesideSteep t) (k : t.SameBesideSteep u) : s.SameBesideSteep u := by
  obtain ⟨h1, h2, h3, h4, h5, h6, h7, h8, h9⟩ := h
  obtain ⟨k1, k2, k3, k4, k5, k6, k7, k8, k9⟩ := k
  exact ⟨k1.trans h1, k2.trans h2, k3.trans h3, k4.trans h4, k5.trans h5, k6.trans h6, k7.trans h7, k8.trans h8, k9.trans h9⟩

theorem sgeDo_beside (w : Nat) (s : State) : s.SameBesideSteep (sgeDo w s) := by
  have hconv := (convAcc_computed (sgD w) (sgA w) s).frame.beside
  by_cases hwrd : sgOp w = 0x12
  · rw [sgeDo_wrd hwrd]
    exact hconv.trans (writeLine_beside ..)
  by_cases hout : sgOp w = 0x21
  · rw [sgeDo_out hout]
    exact hconv
  by_cases hres : sgOp w = 0x22
  · rw [sgeDo_res hres]
    exact hconv
  exact (sgeDo_computed s hwrd hout hres).frame.beside

/-- Only WRD writes delay memory, only OUT stages an output word, and only RES a result word. -/
theorem sgeDo_stores_kept (w : Nat) (s : State) :
    (sgOp w ≠ 0x12 → (sgeDo w s).sge.delay = s.sge.delay) ∧ (sgOp w ≠ 0x21 → (sgeDo w s).sge.outs = s.sge.outs) ∧
    (sgOp w ≠ 0x22 → (sgeDo w s).sge.res = s.sge.res) := by
  obtain ⟨hdelay, hstaged⟩ := Prod.ext_iff.mp (convAcc_computed (sgD w) (sgA w) s).frame.stores
  obtain ⟨houts, hress⟩ := Prod.ext_iff.mp hstaged
  by_cases hwrd : sgOp w = 0x12
  · obtain ⟨ho, hr⟩ := writeLine_outs_res (sgLine w) (convAcc (sgA w) s).1 (convAcc (sgA w) s).2.2
    rw [sgeDo_wrd hwrd]
    exact ⟨fun h => absurd hwrd h, fun _ => ho.trans houts, fun _ => hr.trans hress⟩
  by_cases hout : sgOp w = 0x21
  · rw [sgeDo_out hout]
    exact ⟨fun _ => hdelay, fun h => absurd hout h, fun _ => hress⟩
  by_cases hres : sgOp w = 0x22
  · rw [sgeDo_res hres]
    exact ⟨fun _ => hdelay, fun _ => houts, fun h => absurd hres h⟩
  obtain ⟨hd, hs⟩ := Prod.ext_iff.mp (sgeDo_computed s hwrd hout hres).frame.stores
  obtain ⟨ho, hr⟩ := Prod.ext_iff.mp hs
  exact ⟨fun _ => hd, fun _ => ho, fun _ => hr⟩

/-- WRD writes the word at tap 0 of its line, and no other word of delay memory (R613). -/
theorem sgeDo_wrd_delay {w base n : Nat} {p : SgeProg} {s : State} (hop : sgOp w = 0x12) (hp : s.sge.active = some p)
    (hline : p.lines[sgLine w]? = some (base, n)) {a : Nat} (ha : a ≠ base + tget 0 s.sge.ptr (sgLine w)) :
    tget 0 (sgeDo w s).sge.delay a = tget 0 s.sge.delay a := by
  have hconv := convAcc_computed (sgD w) (sgA w) s
  obtain ⟨-, hactive, -, hptr, -⟩ := hconv.frame.beside
  have hbind : ((convAcc (sgA w) s).2.2.sge.active.bind fun p => p.lines[sgLine w]?) = some (base, n) := by
    rw [hactive, hp]
    exact hline
  rw [sgeDo_wrd hop]
  simp only [writeLine, hbind, modSge_sge, tget_tput, hptr, if_neg ha]
  exact congrArg (tget 0 · a) (Prod.ext_iff.mp hconv.frame.stores).1

theorem lookup_tins_of_ne {α : Type} {k j : Nat} (v : α) (t : List (Nat × α)) (h : j ≠ k) : (tins k v t).lookup j = t.lookup j := by
  have hb : (j == k) = false := beq_false_of_ne h
  induction t with
  | nil => simp [tins, List.lookup, hb]
  | cons x t ih =>
    obtain ⟨i, u⟩ := x
    unfold tins
    split
    · simp [List.lookup, hb]
    · split
      · next hki =>
        subst hki
        simp [List.lookup, hb]
      · simp [List.lookup, ih]

theorem sgeDo_out_others {w k : Nat} (s : State) (hop : sgOp w = 0x21) (hk : k ≠ sgPort w) :
    (sgeDo w s).sge.outs.lookup k = s.sge.outs.lookup k := by
  have hstaged := (Prod.ext_iff.mp (convAcc_computed (sgD w) (sgA w) s).frame.stores).2
  rw [sgeDo_out hop]
  exact (lookup_tins_of_ne _ _ hk).trans (congrArg (List.lookup k) (Prod.ext_iff.mp hstaged).1)

theorem sgeDo_res_others {w k : Nat} (s : State) (hop : sgOp w = 0x22) (hk : k ≠ 8 * sgPort w + sgWord w) :
    (sgeDo w s).sge.res.lookup k = s.sge.res.lookup k := by
  have hstaged := (Prod.ext_iff.mp (convAcc_computed (sgD w) (sgA w) s).frame.stores).2
  rw [sgeDo_res hop]
  exact (lookup_tins_of_ne _ _ (by omega)).trans (congrArg (List.lookup k) (Prod.ext_iff.mp hstaged).2)

/-! ### Issuing the next instruction (R589, R610) -/

/-- The steep moves on past the word w at index i of q, with the count that a REP leaves. -/
def stepPast (q : SgeProg) (i rep : Nat) (s : State) : State :=
  modSge (fun g => { g with pos := if i + 1 < q.code.length then some (i + 1) else none, rep := rep }) s

theorem issueRow_of_next {op n w : Nat} {q : SgeProg} {s : State} (hpos : s.sge.pos = some n) (hact : s.sge.active = some q)
    (hw : q.code[n]? = some w) (hop : sgOp w = op) :
    issueRow op s = .next (stepPast q n (if op = 0x30 then sgPort w + 1 else 1) (sgeDo w s)) := by
  simp only [issueRow, State.nextOp, issueNext, hpos, hact, hw, Option.map_some, hop, beq_self_eq_true, if_true]
  rfl

/-- A row of another OP than the next instruction's, or of none, does nothing. -/
theorem issueRow_cases (op : Nat) (s : State) : issueRow op s = .next s ∨
    ∃ n w q, NextWord q w s ∧ sgOp w = op ∧ issueRow op s = .next (stepPast q n (if op = 0x30 then sgPort w + 1 else 1) (sgeDo w s)) := by
  by_cases hop : s.nextOp = some op
  · right
    unfold State.nextOp at hop
    split at hop
    case h_1 n q hpos hact =>
      obtain ⟨w, hw, hsg⟩ := Option.map_eq_some_iff.mp hop
      exact ⟨n, w, q, ⟨hact, n, hpos, hw⟩, hsg, issueRow_of_next hpos hact hw hsg⟩
    case h_2 => cases hop
  · left
    simp [issueRow, hop]

theorem NextWord.word_eq {p q : SgeProg} {v w : Nat} {s : State} (h : NextWord p v s) (k : NextWord q w s) : v = w := by
  obtain ⟨hp, i, hi, hv⟩ := h
  obtain ⟨hq, j, hj, hw⟩ := k
  cases hp.symm.trans hq
  cases hi.symm.trans hj
  exact Option.some.inj (hv.symm.trans hw)

theorem exec_of_sgeRow {c : Instr} {op : Nat} (h : sgeRow c = some op) (s : State) : exec c s = issueRow op s := by
  unfold sgeRow at h
  split at h <;> cases h <;> rfl

/-- Settles O52: a row either issues nothing, or what its word does says which one store it writes. -/
theorem engineInstructionFrame : Obligations.EngineInstructionFrame := by
  intro c op s t hc ht
  rw [exec_of_sgeRow hc] at ht
  rcases issueRow_cases op s with hid | ⟨n, w, q, hnext, hop, hdo⟩
  · cases hid.symm.trans ht
    exact ⟨rfl, rfl, rfl, rfl, rfl, rfl, rfl, rfl, rfl, fun _ => rfl, fun _ => rfl, fun _ => rfl,
      fun _ _ _ _ _ _ _ _ _ => rfl, fun _ _ _ _ _ _ => rfl, fun _ _ _ _ _ _ => rfl⟩
  · cases hdo.symm.trans ht
    subst hop
    obtain ⟨hsio, hactive, hstaged, hptr, htick, hwdn, hnet, hdom, hmem⟩ := sgeDo_beside w s
    obtain ⟨hdelay, houts, hres⟩ := sgeDo_stores_kept w s
    refine ⟨hsio, hactive, hstaged, hptr, htick, hwdn, hnet, hdom, hmem, hdelay, houts, hres, ?_, ?_, ?_⟩
    · intro p v hv hwrd base m hline a ha
      cases hv.word_eq hnext
      exact sgeDo_wrd_delay hwrd hv.1 hline ha
    · intro p v hv hout k hk
      cases hv.word_eq hnext
      exact sgeDo_out_others s hout hk
    · intro p v hv hout k hk
      cases hv.word_eq hnext
      exact sgeDo_res_others s hout hk

/-! ### The instructions one by one (Table 16-5) -/

/-- The issue of an instruction other than REP: what the word does, and the steep moves on. -/
theorem issueRow_of_word {op n w : Nat} {q : SgeProg} {s t : State} (hpos : s.sge.pos = some n) (hact : s.sge.active = some q)
    (hw : q.code[n]? = some w) (hop : sgOp w = op) (hrep : op ≠ 0x30) (hdo : sgeDo w s = t) :
    issueRow op s = .next (stepPast q n 1 t) := by
  rw [issueRow_of_next hpos hact hw hop, if_neg hrep, hdo]

/-- Settles O27: each row issues its word, and the word's meaning is the equation of its OP. -/
theorem signalInstructionsComplete : Obligations.SignalInstructionsComplete :=
  ⟨fun _ _ _ _ hpos hact hw hop => issueRow_of_word hpos hact hw hop (by decide) (sgeDo_nop hop),
   fun _ _ _ _ hpos hact hw hop => issueRow_of_word hpos hact hw hop (by decide) (sgeDo_clr hop),
   fun _ _ _ _ hpos hact hw hop => issueRow_of_word hpos hact hw hop (by decide) (sgeDo_mov hop),
   fun _ _ _ _ hpos hact hw hop => issueRow_of_word hpos hact hw hop (by decide) (sgeDo_add hop),
   fun _ _ _ _ hpos hact hw hop => issueRow_of_word hpos hact hw hop (by decide) (sgeDo_sub hop),
   fun _ _ _ _ hpos hact hw hop => issueRow_of_word hpos hact hw hop (by decide) (sgeDo_neg hop),
   fun _ _ _ _ hpos hact hw hop => issueRow_of_word hpos hact hw hop (by decide) (sgeDo_abs hop),
   fun _ _ _ _ hpos hact hw hop => issueRow_of_word hpos hact hw hop (by decide) (sgeDo_min hop),
   fun _ _ _ _ hpos hact hw hop => issueRow_of_word hpos hact hw hop (by decide) (sgeDo_max hop),
   fun _ _ _ _ hpos hact hw hop => issueRow_of_word hpos hact hw hop (by decide) (sgeDo_ash hop),
   fun _ _ _ _ hpos hact hw hop => issueRow_of_word hpos hact hw hop (by decide) (sgeDo_csel hop),
   fun _ _ _ _ hpos hact hw hop => issueRow_of_word hpos hact hw hop (by decide) (sgeDo_clamp hop),
   fun _ _ _ _ hpos hact hw hop => issueRow_of_word hpos hact hw hop (by decide) (sgeDo_ldi hop),
   fun _ _ _ _ hpos hact hw hop => issueRow_of_word hpos hact hw hop (by decide) (sgeDo_ldc hop),
   fun _ _ _ _ hpos hact hw hop => issueRow_of_word hpos hact hw hop (by decide) (sgeDo_rdd hop),
   fun _ _ _ _ hpos hact hw hop => issueRow_of_word hpos hact hw hop (by decide) (sgeDo_wrd hop),
   fun _ _ _ _ hpos hact hw hop => issueRow_of_word hpos hact hw hop (by decide) (sgeDo_mac hop),
   fun _ _ _ _ hpos hact hw hop => issueRow_of_word hpos hact hw hop (by decide) (sgeDo_maca hop),
   fun _ _ _ _ hpos hact hw hop => issueRow_of_word hpos hact hw hop (by decide) (sgeDo_mula hop),
   fun _ _ _ _ hpos hact hw hop => issueRow_of_word hpos hact hw hop (by decide) (sgeDo_mulab hop),
   fun _ _ _ _ hpos hact hw hop => issueRow_of_word hpos hact hw hop (by decide) (sgeDo_in hop),
   fun _ _ _ _ hpos hact hw hop => issueRow_of_word hpos hact hw hop (by decide) (sgeDo_out hop),
   fun _ _ _ _ hpos hact hw hop => issueRow_of_word hpos hact hw hop (by decide) (sgeDo_res hop),
   fun _ _ _ _ hpos hact hw hop => (issueRow_of_next hpos hact hw hop).trans (by rw [sgeDo_rep hop, if_pos rfl]; rfl)⟩

/-! ### The tick and its source (R589, R596-R602) -/

theorem execTickBoundary_of_unlocked {s : State} (hsrc : s.sge.src ≠ .locked) : execTickBoundary s = .next (ownBoundary s) := by
  simp [execTickBoundary, hsrc]

theorem execFrameSyncEdge_of_acquiring {s : State} {d : Nat} (hon : s.edgesOn = true) (hsrc : s.sge.src = .acquiring) :
    let p := periodOf s.sge.rate
    let w := windowOf s.sge.rate
    let hit := inR d (p - w) (p + w) || decide ((d : Int) + s.sge.phi ≤ w)
    execFrameSyncEdge d s = .next (modSge (fun g => { g with edge := some d, inWin := g.inWin || hit }) s) := by
  simp only [execFrameSyncEdge, hon, hsrc, Bool.not_true, Bool.false_eq_true, if_false]

/-- In LOCKED an edge is a boundary in the window, and stray outside it. -/
theorem execFrameSyncEdge_of_locked {s : State} {d : Nat} (hon : s.edgesOn = true) (hsrc : s.sge.src = .locked) :
    execFrameSyncEdge d s =
      if inR d (periodOf s.sge.rate - windowOf s.sge.rate) (periodOf s.sge.rate + windowOf s.sge.rate) then
        .next (boundary d (modSge (fun g => { g with missed := 0 }) s))
      else .next (strayEdge s) := by
  simp only [execFrameSyncEdge, hon, hsrc, Bool.not_true, Bool.false_eq_true, if_false]

theorem execFrameSyncEdge_of_lost {s : State} {d : Nat} (hon : s.edgesOn = true) (hsrc : s.sge.src = .lost) (hauto : s.sge.autoReturn = true) :
    execFrameSyncEdge d s = .next (modSge (fun g => { g with
      src := .acquiring, edge := some d, matched := 0, inWin := false, phi := 0, wasLost := true }) s) := by
  simp only [execFrameSyncEdge, hon, hsrc, hauto, Bool.not_true, Bool.false_eq_true, if_false, if_true]

theorem execMissedFrame_of_kept {s : State} (hsrc : s.sge.src = .locked) (hfew : s.sge.missed < 3) :
    execMissedFrame s = .next (boundary (periodOf s.sge.rate + windowOf s.sge.rate)
      (modSge (fun g => { g with miss := min 0xFFFFFFFF (g.miss + 1), missed := g.missed + 1 }) s)) := by
  have kept : decide (3 ≤ s.sge.missed) = false := decide_eq_false (by omega)
  simp only [execMissedFrame, hsrc, bne_self_eq_false, kept, whenS_false, Bool.false_eq_true, if_false]

/-- The fourth miss in a row. -/
theorem execMissedFrame_of_lost {s : State} (hsrc : s.sge.src = .locked) (hmany : 3 ≤ s.sge.missed) :
    let u := modSge (fun g => { g with miss := min 0xFFFFFFFF (g.miss + 1), missed := g.missed + 1 }) s
    let v := modSge (fun g => { g with src := .lost, wasLost := true, missed := 0, flags := g.flags ||| 4 }) u
    execMissedFrame s = .next (sourceRecord 0x8001 (boundary (periodOf s.sge.rate + windowOf s.sge.rate) v)) := by
  simp only [execMissedFrame, hsrc, bne_self_eq_false, decide_eq_true hmany, whenS_true, Bool.false_eq_true, if_false, if_true]

/-! ### The program commands (R616-R623, Table 16-9) -/

section
variable {s t : State} {p : Packet}

theorem execSgeProgramLoad_of_image {b : Bytes} {g : SgeProg} (given : Given 0x0901 p s t)
    (hlong : (cutParts p.parts p.params).all (fun c => decide (8 ≤ c.length)) = true)
    (hjoin : joinChunks (u16 p.params 0) 0 (cutParts p.parts p.params) [] = .ok b) (hcheck : checkImage t (u16 p.params 0) b = .ok g) :
    execSgeProgramLoad s = .next (complete p stOk (putLe 2 g.base ++ putLe 2 g.code.length ++ putLe 4 g.cost)
      (modSge (fun x => { x with staged := some g }) (wipeLines g t))) := by
  have noShort : (cutParts p.parts p.params).any (fun c => decide (c.length < 8)) = false := by
    simpa [List.any_eq_false, List.all_eq_true] using hlong
  refine (interpret_given _ given).trans (congrArg _ ?_)
  simp only [noShort, hjoin, hcheck, Bool.false_eq_true, if_false]

section
variable (given : Given 0x0902 p s t) (hlen : p.params.length = 4)
include given hlen

theorem execSgeProgramSwap_swap (hact : u8 p.params 0 = 1) (hstaged : t.sge.staged.isSome = true) :
    execSgeProgramSwap s = .next (waitFor p (.boundary 0) t) := by
  refine (interpret_given _ given).trans (congrArg _ ((checked_ok _ _ _ _ _ hlen (by simp [hact, inR])).trans ?_))
  simp [hact, Option.isSome_iff_ne_none.mp hstaged]

theorem execSgeProgramSwap_start (hact : u8 p.params 0 = 2) (hstopped : t.sge.running = false)
    (hprog : t.sge.staged.isSome = true ∨ t.sge.active.isSome = true) : execSgeProgramSwap s = .next (waitFor p (.boundary 1) t) := by
  refine (interpret_given _ given).trans (congrArg _ ((checked_ok _ _ _ _ _ hlen (by simp [hact, inR])).trans ?_))
  rcases hprog with h | h <;> simp [hact, hstopped, Option.isSome_iff_ne_none.mp h]

theorem execSgeProgramSwap_stop (hact : u8 p.params 0 = 3) (hrun : t.sge.running = true) :
    execSgeProgramSwap s = .next (waitFor p (.boundary 2) t) := by
  refine (interpret_given _ given).trans (congrArg _ ((checked_ok _ _ _ _ _ hlen (by simp [hact, inR])).trans ?_))
  simp [hact, hrun]

theorem execSgeProgramSwap_discard (hact : u8 p.params 0 = 4) (hstaged : t.sge.staged.isSome = true) :
    let u := modSge (fun g => { g with staged := none }) t
    execSgeProgramSwap s = .next (complete p stOk (sgeStatus u u.sge.tick.toNat) u) := by
  refine (interpret_given _ given).trans (congrArg _ ((checked_ok _ _ _ _ _ hlen (by simp [hact, inR])).trans ?_))
  simp [hact, Option.isSome_iff_ne_none.mp hstaged]

theorem execSgeProgramSwap_status (hact : u8 p.params 0 = 5) :
    execSgeProgramSwap s = .next (complete p stOk (sgeStatus t t.sge.tick.toNat) t) := by
  refine (interpret_given _ given).trans (congrArg _ ((checked_ok _ _ _ _ _ hlen (by simp [hact, inR])).trans ?_))
  simp [hact]

end

theorem execSgeTickSet_of_fits (given : Given 0x0903 p s t) (hlen : p.params.length = 8) (hrate : inR (u8 p.params 0) 1 9 = true)
    (hsource : u8 p.params 1 ≤ 2)
    (hactive : t.sge.active.any (fun x => decide (budgetOf (u8 p.params 0) (u8 p.params 1) < x.cost)) = false)
    (hstaged : t.sge.staged.any (fun x => decide (budgetOf (u8 p.params 0) (u8 p.params 1) < x.cost)) = false) :
    execSgeTickSet s = .next (waitFor p (.boundary 3) t) := by
  refine (interpret_given _ given).trans (congrArg _ ((checked_ok _ _ _ _ _ hlen (by simp [hrate, hsource])).trans ?_))
  simp only [hactive, hstaged, Bool.false_eq_true, if_false]

end

/-- Settles O26: each event of the tick in the branch that its premises select, and each command taken with its parameters checked. -/
theorem signalEngineComplete : Obligations.SignalEngineComplete :=
  ⟨fun _ hsrc => execTickBoundary_of_unlocked hsrc,
   fun _ _ hon hsrc => execFrameSyncEdge_of_acquiring hon hsrc,
   fun _ _ hon hsrc hin => (execFrameSyncEdge_of_locked hon hsrc).trans (if_pos hin),
   fun _ _ hon hsrc hout => (execFrameSyncEdge_of_locked hon hsrc).trans (if_neg (Bool.eq_false_iff.mp hout)),
   fun _ _ hon hsrc hauto => execFrameSyncEdge_of_lost hon hsrc hauto,
   fun _ hsrc hfew => execMissedFrame_of_kept hsrc hfew,
   fun _ hsrc hmany => execMissedFrame_of_lost hsrc hmany,
   fun _ _ _ _ _ given hlong hjoin hcheck => execSgeProgramLoad_of_image given hlong hjoin hcheck,
   fun _ _ _ given hlen hact hstaged => execSgeProgramSwap_swap given hlen hact hstaged,
   fun _ _ _ given hlen hact hstopped hprog => execSgeProgramSwap_start given hlen hact hstopped hprog,
   fun _ _ _ given hlen hact hrun => execSgeProgramSwap_stop given hlen hact hrun,
   fun _ _ _ given hlen hact hstaged => execSgeProgramSwap_discard given hlen hact hstaged,
   fun _ _ _ given hlen hact => execSgeProgramSwap_status given hlen hact,
   fun _ _ _ given hlen hrate hsource hactive hstaged => execSgeTickSet_of_fits given hlen hrate hsource hactive hstaged,
   fun _ _ => rfl,
   fun _ _ => rfl⟩

end Sys2Proof.Machine
end

section
/-!
Proofs of the statements on the Fenuith-16 instruction set (ch 18): the registers of a task, what each instruction does, and what the register
instructions and ST leave unchanged.
-/
namespace Sys2Proof.Machine
open Sys2Proof

/-! ### Registers (R660) -/

theorem WdTask.reg_zero (t : WdTask) : t.reg 0 = 0 := rfl

theorem WdTask.setReg_zero (t : WdTask) (v : Nat) : t.setReg 0 v = t := rfl

theorem WdTask.setReg_of_ne {n : Nat} (t : WdTask) (v : Nat) (hn : n ≠ 0) : t.setReg n v = { t with w := tput 0 t.w n (v % 65536) } := if_neg hn

theorem WdTask.reg_setReg_same {n : Nat} (t : WdTask) (v : Nat) (hn : n ≠ 0) : (t.setReg n v).reg n = v % 65536 := by
  rw [t.setReg_of_ne v hn]
  simp [WdTask.reg, hn, tget_tput]

theorem WdTask.reg_setReg_of_ne {m n : Nat} (t : WdTask) (v : Nat) (hm : m ≠ n) : (t.setReg n v).reg m = t.reg m := by
  by_cases hn : n = 0
  · rw [hn, t.setReg_zero]
  · rw [t.setReg_of_ne v hn]
    simp [WdTask.reg, tget_tput, hm]

theorem WdTask.setReg_sm (t : WdTask) (n v : Nat) : (t.setReg n v).sm = t.sm := by
  unfold WdTask.setReg
  split <;> rfl

/-- Settles O53: the register file is a table without an entry for w0. -/
theorem zeroRegister : Obligations.ZeroRegister := fun t _ v =>
  ⟨t.reg_zero, t.setReg_zero v, t.reg_setReg_same v, fun _ => t.reg_setReg_of_ne v⟩

/-! ### The issue of an instruction that could be fetched (R662) -/

/-- Core c issues instruction i, with first word w and its length, for task t of role r. -/
def Fetched (c r t w len : Nat) (i : FenIns) (s : State) : Prop :=
  s.issuer c = some (r, t) ∧ fenFetch (s.core c) (s.task r t).pc = .ok (i, w, len)

/-- The effect of i when core c issues it for task t of role r. -/
def State.effectOf (s : State) (c r t w len : Nat) (i : FenIns) : FenEff :=
  fenEffect i c t w (((s.task r t).pc + len) % 65536) (s.wdCycles c) (s.task r t) (s.core c)

section
variable {c r t w len : Nat} {i : FenIns} {s : State} {op : FenOp} (hf : Fetched c r t w len i s) (hop : i.op = op)
include hf hop

theorem issueFen_go {k : WdTask} {x : WdCore} {n : Nat} (he : s.effectOf c r t w len i = .go k x n) :
    issueFen op c s = fenDone c r n (modTask r t (fun _ => k) (modCore c (fun _ => x) s)) := by
  have hsame : (i.op != op) = false := by simp [hop]
  simp only [State.effectOf] at he
  simp only [issueFen, hf.1, hf.2, hsame, he, Bool.false_eq_true, if_false]

theorem issueFen_trap {cause info : Nat} (he : s.effectOf c r t w len i = .trap cause info) : issueFen op c s = exception c r t cause info s := by
  have hsame : (i.op != op) = false := by simp [hop]
  simp only [State.effectOf] at he
  simp only [issueFen, hf.1, hf.2, hsame, he, Bool.false_eq_true, if_false]

theorem issueFen_access {a : WdAccess} (he : s.effectOf c r t w len i = .access a) : issueFen op c s =
    emit (.deviceAccess c a.addr a.write (if a.write then a.value else 0)) (modCore c (fun x => { x with access := some a }) s) := by
  have hsame : (i.op != op) = false := by simp [hop]
  simp only [State.effectOf] at he
  simp only [issueFen, hf.1, hf.2, hsame, he, Bool.false_eq_true, if_false]

theorem issueFen_yield (he : s.effectOf c r t w len i = .yield) : issueFen op c s =
    fenDone c r 1 (modRole r (fun x => x.ready t false) (modTask r t (fun k => { k with pc := ((s.task r t).pc + len) % 65536 }) s)) := by
  have hsame : (i.op != op) = false := by simp [hop]
  simp only [State.effectOf] at he
  simp only [issueFen, hf.1, hf.2, hsame, he, Bool.false_eq_true, if_false]

theorem issueFen_wait {a : Nat} (he : s.effectOf c r t w len i = .wait a) :
    issueFen op c s = fenWait c r t a (((s.task r t).pc + len) % 65536) s := by
  have hsame : (i.op != op) = false := by simp [hop]
  simp only [State.effectOf] at he
  simp only [issueFen, hf.1, hf.2, hsame, he, Bool.false_eq_true, if_false]

theorem issueFen_exit (he : s.effectOf c r t w len i = .exit) : issueFen op c s =
    fenDone c r 1 (park r t stOk (modTask r t (fun k => { k with pc := ((s.task r t).pc + len) % 65536 }) s)) := by
  have hsame : (i.op != op) = false := by simp [hop]
  simp only [State.effectOf] at he
  simp only [issueFen, hf.1, hf.2, hsame, he, Bool.false_eq_true, if_false]

end

/-! ### The instructions that compute a register (Table 18-3) -/

/-- The rows of Table 18-3 that write D from A and from B, N or IMM. -/
def fenComputes (op : FenOp) : Bool := (fenAlu op 0 0).isSome

theorem fenEffect_compute (i : FenIns) (core task w next now : Nat) (t : WdTask) (c : WdCore) (h : fenComputes i.op = true) :
    fenEffect i core task w next now t c =
      .go { t.setReg i.d ((fenAlu i.op (t.reg i.a) (if fenWide i.op then i.imm else if fenReg i.op then t.reg i.b else i.b)).getD 0) with pc := next }
        c (if fenWide i.op then 2 else 1) := by
  obtain ⟨op, d, a, b, imm⟩ := i
  cases op <;> cases h <;> rfl

section
variable {c r t w len : Nat} {i : FenIns} {s : State} {op : FenOp} (hf : Fetched c r t w len i s) (hop : i.op = op)
include hf hop

/-- The value written is that of `fenAlu`, and an instruction of two words takes one cycle more. -/
theorem issueFen_compute (h : fenComputes op = true) :
    issueFen op c s = fenDone c r (if fenWide op then 2 else 1) (modTask r t (fun _ => { (s.task r t).setReg i.d ((fenAlu op ((s.task r t).reg i.a)
      (if fenWide op then i.imm else if fenReg op then (s.task r t).reg i.b else i.b)).getD 0) with pc := ((s.task r t).pc + len) % 65536 })
      (modCore c (fun _ => s.core c) s)) := by
  subst hop
  exact issueFen_go hf rfl (fenEffect_compute i c t w _ _ _ _ h)

end

/-- Settles O30: each of the twenty rows is a computing instruction, with its own value, operand and cycles. -/
theorem fenuithArithmeticComplete : Obligations.FenuithArithmeticComplete := by
  and_intros <;>
    exact fun _ _ _ _ _ _ _ hissuer hfetch hop => congrArg _ (issueFen_compute ⟨hissuer, hfetch⟩ hop rfl)

/-! ### The stacks (R671-R676) -/

section
variable {k : WdTask} {x : WdCore} (v : Nat)

/-- In register-stack mode a push that does not trap on a full stack. -/
theorem fenPush_registers (hsm : k.sm = false) (hroom : k.ovf = false ∨ k.rsc ≠ 16) :
    fenPush v k x = .ok ({ k with stack := tput 0 k.stack k.rsp v, rsp := (k.rsp + 1) % 16, rsc := min (k.rsc + 1) 16 }, x) := by
  rcases hroom with h | h <;> simp [fenPush, hsm, h]

/-- In memory-stack mode a push that stays above LR_SLIM, or may pass it. -/
theorem fenPush_memory (hsm : k.sm = true) (hroom : k.ovf = false ∨ k.slim < k.reg 15) :
    let q := (k.reg 15 + 65535) % 65536
    fenPush v k x = .ok (k.setReg 15 q, { x with data := tput 0 x.data q v, dataBad := nclr q x.dataBad }) := by
  have stays : (k.ovf && decide (k.reg 15 ≤ k.slim)) = false := by
    rcases hroom with h | h
    · rw [h, Bool.false_and]
    · rw [decide_eq_false (Nat.not_le.mpr h), Bool.and_false]
  simp only [fenPush, hsm, stays, Bool.false_eq_true, if_false, if_true]

theorem fenPop_registers (hsm : k.sm = false) (hfull : k.ovf = false ∨ k.rsc ≠ 0) :
    let q := (k.rsp + 15) % 16
    fenPop k x = .ok (tget 0 k.stack q, { k with rsp := q, rsc := k.rsc - 1 }) := by
  rcases hfull with h | h <;> simp [fenPop, hsm, h]

theorem fenPop_memory (hsm : k.sm = true) (hgood : x.dataBad.contains (k.reg 15) = false) :
    fenPop k x = .ok (tget 0 x.data (k.reg 15), k.setReg 15 ((k.reg 15 + 1) % 65536)) := by
  simp only [fenPop, hsm, hgood, Bool.false_eq_true, if_false, if_true]

end

/-! ### Branches, jumps and calls (R662, R671, R691) -/

section
variable {c r t w len : Nat} {i : FenIns} {s : State} (hf : Fetched c r t w len i s)
include hf

theorem issueFen_branch {cond : Nat} (hop : i.op = .branch cond) : issueFen (.branch cond) c s =
    if fenCond cond ((s.task r t).reg i.a) ((s.task r t).reg i.b) then
      fenDone c r 3 (modTask r t (fun _ => { s.task r t with pc := i.imm }) (modCore c (fun _ => s.core c) s))
    else fenDone c r 2 (modTask r t (fun _ => { s.task r t with pc := ((s.task r t).pc + len) % 65536 }) (modCore c (fun _ => s.core c) s)) := by
  split
  · next h => exact issueFen_go hf hop (by simp only [State.effectOf, fenEffect, hop, h, if_true])
  · next h => exact issueFen_go hf hop (by simp only [State.effectOf, fenEffect, hop, h, Bool.false_eq_true, if_false])

theorem issueFen_jr (hop : i.op = .jr) : issueFen .jr c s =
    fenDone c r 2 (modTask r t (fun _ => { s.task r t with pc := (s.task r t).reg i.a }) (modCore c (fun _ => s.core c) s)) :=
  issueFen_go hf hop (by simp only [State.effectOf, fenEffect, hop])

theorem issueFen_jmp (hop : i.op = .jmp) : issueFen .jmp c s =
    fenDone c r 3 (modTask r t (fun _ => { s.task r t with pc := i.imm }) (modCore c (fun _ => s.core c) s)) :=
  issueFen_go hf hop (by simp only [State.effectOf, fenEffect, hop])

/-- CALLR reads its target before it pushes (log 63). -/
theorem issueFen_callr {k : WdTask} {n : Nat} {x : WdCore} (hop : i.op = .callr)
    (hpush : fenPush (((s.task r t).pc + len) % 65536) (s.task r t) (s.core c) = .ok (k, x))
    (hn : b2n k.sm = n) : issueFen .callr c s =
    fenDone c r (2 + n) (modTask r t (fun _ => { k with pc := (s.task r t).reg i.a }) (modCore c (fun _ => x) s)) :=
  issueFen_go hf hop (by simp only [State.effectOf, fenEffect, hop, hpush, hn])

theorem issueFen_call {k : WdTask} {n : Nat} {x : WdCore} (hop : i.op = .call)
    (hpush : fenPush (((s.task r t).pc + len) % 65536) (s.task r t) (s.core c) = .ok (k, x))
    (hn : b2n k.sm = n) : issueFen .call c s =
    fenDone c r (3 + n) (modTask r t (fun _ => { k with pc := i.imm }) (modCore c (fun _ => x) s)) :=
  issueFen_go hf hop (by simp only [State.effectOf, fenEffect, hop, hpush, hn])

theorem issueFen_ret {k : WdTask} {n : Nat} {v : Nat} (hop : i.op = .ret) (hpop : fenPop (s.task r t) (s.core c) = .ok (v, k))
    (hn : b2n k.sm = n) : issueFen .ret c s =
    fenDone c r (2 + n) (modTask r t (fun _ => { k with pc := v }) (modCore c (fun _ => s.core c) s)) :=
  issueFen_go hf hop (by simp only [State.effectOf, fenEffect, hop, hpop, hn])

theorem issueFen_push {k : WdTask} {x : WdCore} (hop : i.op = .push) (hsm : (s.task r t).sm = true)
    (hpush : fenPush ((s.task r t).reg i.a) (s.task r t) (s.core c) = .ok (k, x)) : issueFen .push c s =
    fenDone c r 2 (modTask r t (fun _ => { k with pc := ((s.task r t).pc + len) % 65536 }) (modCore c (fun _ => x) s)) :=
  issueFen_go hf hop (by simp only [State.effectOf, fenEffect, hop, hsm, hpush, Bool.not_true, Bool.false_eq_true, if_false])

theorem issueFen_push_illegal (hop : i.op = .push) (hsm : (s.task r t).sm = false) : issueFen .push c s = exception c r t 1 w s :=
  issueFen_trap hf hop (by simp only [State.effectOf, fenEffect, hop, hsm, Bool.not_false, if_true])

theorem issueFen_pop {k : WdTask} {v : Nat} (hop : i.op = .pop) (hsm : (s.task r t).sm = true)
    (hpop : fenPop (s.task r t) (s.core c) = .ok (v, k)) : issueFen .pop c s =
    fenDone c r 2 (modTask r t (fun _ => { k.setReg i.d v with pc := ((s.task r t).pc + len) % 65536 }) (modCore c (fun _ => s.core c) s)) :=
  issueFen_go hf hop (by simp only [State.effectOf, fenEffect, hop, hsm, hpop, Bool.not_true, Bool.false_eq_true, if_false])

theorem issueFen_pop_illegal (hop : i.op = .pop) (hsm : (s.task r t).sm = false) : issueFen .pop c s = exception c r t 1 w s :=
  issueFen_trap hf hop (by simp only [State.effectOf, fenEffect, hop, hsm, Bool.not_false, if_true])

end

/-! ### Giving the core up (R701, R703) -/

theorem role_modRole (r q : Nat) (f : Role → Role) (s : State) : (modRole r f s).role q = if q = r then f (s.role r) else s.role q :=
  tget_tmod ({} : Role) s.wdn.roles r q f

theorem task_modTask (r t q m : Nat) (f : WdTask → WdTask) (s : State) :
    (modTask r t f s).task q m = if q = r ∧ m = t then f (s.task r t) else s.task q m := by
  simp only [State.task, modTask, role_modRole]
  by_cases hq : q = r
  · subst hq
    simp [tget_tmod]
  · simp [hq]

/-- A change of a task is decided by what it makes of the task as it is. -/
theorem modTask_congr {r t : Nat} {f g : WdTask → WdTask} {s : State} (h : f (s.task r t) = g (s.task r t)) : modTask r t f s = modTask r t g s := by
  have same : tmod {} (s.role r).tasks t f = tmod {} (s.role r).tasks t g := congrArg (tput ({} : WdTask) (s.role r).tasks t) h
  unfold modTask modRole
  refine congrArg (fun l => modWdn (fun x => { x with roles := l }) s) (congrArg (tput ({} : Role) s.wdn.roles r) ?_)
  exact congrArg (fun l => { s.role r with tasks := l }) same

section
variable {c r t a next : Nat} {s : State}

theorem fenWait_of_waits (hmask : (s.task r t).reg a ≠ 0) (hnone : (s.task r t).pending &&& (s.task r t).reg a = 0) :
    fenWait c r t a next s = fenDone c r 1 (modRole r (fun x => { x with running := none })
      (modTask r t (fun k => { k with st := 3, mask := k.reg a, wreg := a }) (modTask r t (fun k => { k with pc := next }) s))) := by
  simp only [fenWait, hmask, hnone, bne_self_eq_false, Bool.false_eq_true, if_false]
  refine congrArg (fun u => fenDone c r 1 (modRole r (fun x => { x with running := none }) u)) (modTask_congr ?_)
  rw [task_modTask, if_pos ⟨rfl, rfl⟩]
  rfl

theorem fenWait_of_hits (hhit : (s.task r t).pending &&& (s.task r t).reg a ≠ 0) :
    let hits := (s.task r t).pending &&& (s.task r t).reg a
    fenWait c r t a next s = fenDone c r 1 (modTask r t (fun x => { x.setReg a hits with pending := x.pending - hits })
      (modTask r t (fun k => { k with pc := next }) s)) := by
  have hmask : (s.task r t).reg a ≠ 0 := fun h => hhit (by rw [h, Nat.and_zero])
  have hsome : ((s.task r t).pending &&& (s.task r t).reg a != 0) = true := bne_iff_ne.mpr hhit
  simp only [fenWait, hmask, hsome, if_false, if_true]

theorem fenWait_of_no_mask (hmask : (s.task r t).reg a = 0) : fenWait c r t a next s =
    fenDone c r 1 (modRole r (fun x => x.ready t false) (modTask r t (fun k => { k with pc := next }) s)) := by
  simp only [fenWait, hmask, if_true]

end

section
variable {c r t w len : Nat} {i : FenIns} {s : State} (hf : Fetched c r t w len i s)
include hf

theorem execFenYield_of_fetched (hop : i.op = .yield) : execFenYield c s = .next (fenDone c r 1 (modRole r (fun x => x.ready t false)
    (modTask r t (fun k => { k with pc := ((s.task r t).pc + len) % 65536 }) s))) :=
  congrArg _ (issueFen_yield hf hop (by simp only [State.effectOf, fenEffect, hop]))

theorem execFenWait_of_fetched (hop : i.op = .wait) : execFenWait c s = .next (fenWait c r t i.a (((s.task r t).pc + len) % 65536) s) :=
  congrArg _ (issueFen_wait hf hop (by simp only [State.effectOf, fenEffect, hop]))

theorem execFenExit_of_fetched (hop : i.op = .exit) : execFenExit c s =
    .next (fenDone c r 1 (park r t stOk (modTask r t (fun k => { k with pc := ((s.task r t).pc + len) % 65536 }) s))) :=
  congrArg _ (issueFen_exit hf hop (by simp only [State.effectOf, fenEffect, hop]))

theorem execFenTrap_of_fetched (hop : i.op = .trap) : execFenTrap c s = .next (exception c r t 6 i.d s) :=
  congrArg _ (issueFen_trap hf hop (by simp only [State.effectOf, fenEffect, hop]))

end

/-- Settles O31: each row by the effect of its instruction, the calls and the stack rows by the mode of the stack. -/
theorem fenuithControlComplete : Obligations.FenuithControlComplete :=
  ⟨fun _ _ _ _ _ _ _ hi hw hop => congrArg _ ((issueFen_branch ⟨hi, hw⟩ hop).trans (by simp [fenCond])),
   fun _ _ _ _ _ _ _ hi hw hop => congrArg _ ((issueFen_branch ⟨hi, hw⟩ hop).trans (by simp [fenCond])),
   fun _ _ _ _ _ _ _ hi hw hop => congrArg _ ((issueFen_branch ⟨hi, hw⟩ hop).trans (by simp [fenCond])),
   fun _ _ _ _ _ _ _ hi hw hop => congrArg _ ((issueFen_branch ⟨hi, hw⟩ hop).trans (by simp [fenCond])),
   fun _ _ _ _ _ _ _ hi hw hop => congrArg _ ((issueFen_branch ⟨hi, hw⟩ hop).trans (by simp [fenCond])),
   fun _ _ _ _ _ _ _ hi hw hop => congrArg _ ((issueFen_branch ⟨hi, hw⟩ hop).trans (by simp [fenCond])),
   fun _ _ _ _ _ _ _ hi hw hop => congrArg _ (issueFen_jr ⟨hi, hw⟩ hop),
   fun _ _ _ _ _ _ _ hi hw hop => congrArg _ (issueFen_jmp ⟨hi, hw⟩ hop),
   fun _ _ _ _ _ _ _ hi hw hop hsm hroom => congrArg _ (issueFen_callr ⟨hi, hw⟩ hop (fenPush_registers _ hsm hroom) (congrArg b2n hsm)),
   fun _ _ _ _ _ _ _ hi hw hop hsm hroom => congrArg _ (issueFen_callr ⟨hi, hw⟩ hop (fenPush_memory _ hsm hroom) (congrArg b2n ((WdTask.setReg_sm ..).trans hsm))),
   fun _ _ _ _ _ _ _ hi hw hop hsm hroom => congrArg _ (issueFen_call ⟨hi, hw⟩ hop (fenPush_registers _ hsm hroom) (congrArg b2n hsm)),
   fun _ _ _ _ _ _ _ hi hw hop hsm hroom => congrArg _ (issueFen_call ⟨hi, hw⟩ hop (fenPush_memory _ hsm hroom) (congrArg b2n ((WdTask.setReg_sm ..).trans hsm))),
   fun _ _ _ _ _ _ _ hi hw hop hsm hfull => congrArg _ (issueFen_ret ⟨hi, hw⟩ hop (fenPop_registers hsm hfull) (congrArg b2n hsm)),
   fun _ _ _ _ _ _ _ hi hw hop hsm hgood => congrArg _ (issueFen_ret ⟨hi, hw⟩ hop (fenPop_memory hsm hgood) (congrArg b2n ((WdTask.setReg_sm ..).trans hsm))),
   fun _ _ _ _ _ _ _ hi hw hop hsm hroom => congrArg _ (issueFen_push ⟨hi, hw⟩ hop hsm (fenPush_memory _ hsm hroom)),
   fun _ _ _ _ _ _ _ hi hw hop hsm => congrArg _ (issueFen_push_illegal ⟨hi, hw⟩ hop hsm),
   fun _ _ _ _ _ _ _ hi hw hop hsm hgood => congrArg _ (issueFen_pop ⟨hi, hw⟩ hop hsm (fenPop_memory hsm hgood)),
   fun _ _ _ _ _ _ _ hi hw hop hsm => congrArg _ (issueFen_pop_illegal ⟨hi, hw⟩ hop hsm),
   fun _ _ _ _ _ _ _ hi hw hop => execFenYield_of_fetched ⟨hi, hw⟩ hop,
   fun _ _ _ _ _ _ _ hi hw hop hmask hnone => (execFenWait_of_fetched ⟨hi, hw⟩ hop).trans (congrArg _ (fenWait_of_waits hmask hnone)),
   fun _ _ _ _ _ _ _ hi hw hop hhit => (execFenWait_of_fetched ⟨hi, hw⟩ hop).trans (congrArg _ (fenWait_of_hits hhit)),
   fun _ _ _ _ _ _ _ hi hw hop hmask => (execFenWait_of_fetched ⟨hi, hw⟩ hop).trans (congrArg _ (fenWait_of_no_mask hmask)),
   fun _ _ _ _ _ _ _ hi hw hop => execFenExit_of_fetched ⟨hi, hw⟩ hop,
   fun _ _ _ _ _ _ _ hi hw hop => execFenTrap_of_fetched ⟨hi, hw⟩ hop⟩

/-! ### Memory, device accesses and warden-local registers (R666, R667, R678, R684) -/

section
variable {c r t w len : Nat} {i : FenIns} {s : State} (hf : Fetched c r t w len i s)
include hf

theorem execFenLd_of_good (hop : i.op = .ld) (hgood : (s.core c).dataBad.contains (((s.task r t).reg i.a + i.imm) % 65536) = false) :
    execFenLd c s = .next (fenDone c r 3 (modTask r t (fun _ => { (s.task r t).setReg i.d
      (tget 0 (s.core c).data (((s.task r t).reg i.a + i.imm) % 65536)) with pc := ((s.task r t).pc + len) % 65536 }) (modCore c (fun _ => s.core c) s))) :=
  congrArg _ (issueFen_go hf hop (by simp only [State.effectOf, fenEffect, hop, hgood, Bool.false_eq_true, if_false]))

theorem execFenSt_of_fetched (hop : i.op = .st) :
    let a := ((s.task r t).reg i.a + i.imm) % 65536
    execFenSt c s = .next (fenDone c r 2 (modTask r t (fun _ => { s.task r t with pc := ((s.task r t).pc + len) % 65536 })
      (modCore c (fun _ => { s.core c with data := tput 0 (s.core c).data a ((s.task r t).reg i.d), dataBad := nclr a (s.core c).dataBad }) s))) :=
  congrArg _ (issueFen_go hf hop (by simp only [State.effectOf, fenEffect, hop]))

theorem execFenLdp_of_good (hop : i.op = .ldp) (hgood : (s.core c).codeBad.contains (((s.task r t).reg i.a + i.imm) % 65536) = false) :
    execFenLdp c s = .next (fenDone c r 3 (modTask r t (fun _ => { (s.task r t).setReg i.d
      (tget 0 (s.core c).code (((s.task r t).reg i.a + i.imm) % 65536)) with pc := ((s.task r t).pc + len) % 65536 }) (modCore c (fun _ => s.core c) s))) :=
  congrArg _ (issueFen_go hf hop (by simp only [State.effectOf, fenEffect, hop, hgood, Bool.false_eq_true, if_false]))

theorem execFenXld_of_even (hop : i.op = .xld) (heven : i.d % 2 = 0) :
    let n := i.imm / 8192
    let a := tget 0 (s.core c).win (2 * n) * 2 ^ 16 + tget 0 (s.core c).win (2 * n + 1) * 2 ^ 32
      + 4 * (((s.task r t).reg i.a + i.imm % 8192) % 65536)
    let v := (s.task r t).reg i.d + (s.task r t).reg (i.d + 1) * 65536
    execFenXld c s = .next (emit (.deviceAccess c a false 0) (modCore c (fun x => { x with access := some ⟨t, a, false, i.d, v⟩ }) s)) :=
  congrArg _ (issueFen_access hf hop (by simp only [State.effectOf, fenEffect, hop, heven, Nat.zero_ne_one, if_false]; rfl))

theorem execFenXst_of_even (hop : i.op = .xst) (heven : i.d % 2 = 0) :
    let n := i.imm / 8192
    let a := tget 0 (s.core c).win (2 * n) * 2 ^ 16 + tget 0 (s.core c).win (2 * n + 1) * 2 ^ 32
      + 4 * (((s.task r t).reg i.a + i.imm % 8192) % 65536)
    let v := (s.task r t).reg i.d + (s.task r t).reg (i.d + 1) * 65536
    execFenXst c s = .next (emit (.deviceAccess c a true v) (modCore c (fun x => { x with access := some ⟨t, a, true, i.d, v⟩ }) s)) :=
  congrArg _ (issueFen_access hf hop (by simp only [State.effectOf, fenEffect, hop, heven, Nat.zero_ne_one, if_false]; rfl))

theorem execFenRdl_of_listed {v : Nat} {q : WdCore} (hop : i.op = .rdl)
    (hlocal : fenLocal c t i.imm (s.wdCycles c) (s.task r t) (s.core c) = some (v, q)) : execFenRdl c s =
    .next (fenDone c r 2 (modTask r t (fun _ => { (s.task r t).setReg i.d v with pc := ((s.task r t).pc + len) % 65536 }) (modCore c (fun _ => q) s))) :=
  congrArg _ (issueFen_go hf hop (by simp only [State.effectOf, fenEffect, hop, hlocal]))

theorem execFenRdl_of_unlisted (hop : i.op = .rdl) (hlocal : fenLocal c t i.imm (s.wdCycles c) (s.task r t) (s.core c) = none) :
    execFenRdl c s = .next (exception c r t 1 w s) :=
  congrArg _ (issueFen_trap hf hop (by simp only [State.effectOf, fenEffect, hop, hlocal]))

theorem execFenWrl_slim (hop : i.op = .wrl) (hslim : i.imm = 0x011) : execFenWrl c s = .next (fenDone c r 2
    (modTask r t (fun _ => { s.task r t with slim := (s.task r t).reg i.a, pc := ((s.task r t).pc + len) % 65536 }) (modCore c (fun _ => s.core c) s))) :=
  congrArg _ (issueFen_go hf hop (by simp only [State.effectOf, fenEffect, hop, hslim, if_true]))

theorem execFenWrl_window (hop : i.op = .wrl) (hwin : inR i.imm 0x20 0x2F = true) : execFenWrl c s = .next (fenDone c r 2
    (modTask r t (fun _ => { s.task r t with pc := ((s.task r t).pc + len) % 65536 })
      (modCore c (fun _ => { s.core c with win := tput 0 (s.core c).win (i.imm - 0x20) ((s.task r t).reg i.a) }) s))) := by
  have hslim : i.imm ≠ 0x011 := fun h => by simp [h, inR] at hwin
  exact congrArg _ (issueFen_go hf hop (by simp only [State.effectOf, fenEffect, hop, hslim, hwin, if_false, if_true]))

theorem execFenWrl_illegal (hop : i.op = .wrl) (hslim : i.imm ≠ 0x011) (hwin : inR i.imm 0x20 0x2F = false) :
    execFenWrl c s = .next (exception c r t 1 w s) :=
  congrArg _ (issueFen_trap hf hop (by simp only [State.effectOf, fenEffect, hop, hslim, hwin, Bool.false_eq_true, if_false]))

end

/-- Settles O32: each row by the effect of its instruction. -/
theorem fenuithMemoryComplete : Obligations.FenuithMemoryComplete :=
  ⟨fun _ _ _ _ _ _ _ hi hw hop hgood => execFenLd_of_good ⟨hi, hw⟩ hop hgood,
   fun _ _ _ _ _ _ _ hi hw hop => execFenSt_of_fetched ⟨hi, hw⟩ hop,
   fun _ _ _ _ _ _ _ hi hw hop hgood => execFenLdp_of_good ⟨hi, hw⟩ hop hgood,
   fun _ _ _ _ _ _ _ hi hw hop heven => execFenXld_of_even ⟨hi, hw⟩ hop heven,
   fun _ _ _ _ _ _ _ hi hw hop heven => execFenXst_of_even ⟨hi, hw⟩ hop heven,
   fun _ _ _ _ _ _ _ _ _ hi hw hop hlocal => execFenRdl_of_listed ⟨hi, hw⟩ hop hlocal,
   fun _ _ _ _ _ _ _ hi hw hop hlocal => execFenRdl_of_unlisted ⟨hi, hw⟩ hop hlocal,
   fun _ _ _ _ _ _ _ hi hw hop hslim => execFenWrl_slim ⟨hi, hw⟩ hop hslim,
   fun _ _ _ _ _ _ _ hi hw hop hwin => execFenWrl_window ⟨hi, hw⟩ hop hwin,
   fun _ _ _ _ _ _ _ hi hw hop hslim hwin => execFenWrl_illegal ⟨hi, hw⟩ hop hslim hwin⟩

/-! ### What an instruction leaves unchanged -/

theorem core_modCore (c j : Nat) (f : WdCore → WdCore) (s : State) : (modCore c f s).core j = if j = c then f (s.core c) else s.core j :=
  tget_tmod ({} : WdCore) s.wdn.cores c j f

theorem core_modTask (r t j : Nat) (f : WdTask → WdTask) (s : State) : (modTask r t f s).core j = s.core j := rfl

/-- The order of the tasks and their STATE may differ, and nothing else of the slots or the timers. -/
def Role.Rescheduled (x y : Role) : Prop :=
  y.timers = x.timers ∧ ∀ t, ∃ n, tget {} y.tasks t = { tget {} x.tasks t with st := n }

theorem Role.Rescheduled.refl (x : Role) : x.Rescheduled x := ⟨rfl, fun _ => ⟨_, rfl⟩⟩

theorem Role.Rescheduled.trans {x y z : Role} (h : x.Rescheduled y) (k : y.Rescheduled z) : x.Rescheduled z := by
  refine ⟨k.1.trans h.1, fun t => ?_⟩
  obtain ⟨m, hm⟩ := h.2 t
  obtain ⟨n, hn⟩ := k.2 t
  exact ⟨n, by rw [hn, hm]⟩

/-- A slot's STATE is set. -/
theorem tasks_st_rescheduled (x : Role) (t n : Nat) (order : List Nat) (running : Option Nat) (ran : Nat) :
    x.Rescheduled { x with order := order, running := running, ran := ran, tasks := tmod {} x.tasks t fun k => { k with st := n } } := by
  refine ⟨rfl, fun m => ?_⟩
  rw [tget_tmod]
  split
  · next h =>
    subst h
    exact ⟨n, rfl⟩
  · exact ⟨_, rfl⟩

theorem Role.run_rescheduled (x : Role) (t : Nat) : x.Rescheduled (x.run t) := tasks_st_rescheduled x t 2 _ _ _

theorem Role.ready_rescheduled (x : Role) (t : Nat) (head : Bool) : x.Rescheduled (x.ready t head) := tasks_st_rescheduled x t 1 _ _ _

theorem Role.choose_rescheduled (x : Role) : x.Rescheduled x.choose := by
  unfold Role.choose
  dsimp only
  split
  · exact .refl x
  · exact x.run_rescheduled _
  · exact .refl x
  · split
    · exact (x.ready_rescheduled ..).trans (Role.run_rescheduled ..)
    · split
      · exact (x.ready_rescheduled ..).trans (Role.run_rescheduled ..)
      · exact .refl x

/-- Cycles have passed and roles have chosen their tasks again: nothing else differs. -/
structure State.Scheduled (s t : State) : Prop where
  roles : ∀ q, (s.role q).Rescheduled (t.role q)
  cores : ∀ j, ∃ n, t.core j = { s.core j with cyc := n }
  frame : ∃ cores roles, t = { s with wdn := { s.wdn with cores := cores, roles := roles } }

theorem State.Scheduled.refl (s : State) : s.Scheduled s := ⟨fun _ => .refl _, fun _ => ⟨_, rfl⟩, ⟨_, _, rfl⟩⟩

theorem State.Scheduled.trans {s t u : State} (h : s.Scheduled t) (k : t.Scheduled u) : s.Scheduled u := by
  refine ⟨fun q => (h.roles q).trans (k.roles q), fun j => ?_, ?_⟩
  · obtain ⟨m, hm⟩ := h.cores j
    obtain ⟨n, hn⟩ := k.cores j
    exact ⟨n, by rw [hn, hm]⟩
  · obtain ⟨_, _, rfl⟩ := h.frame
    obtain ⟨_, _, rfl⟩ := k.frame
    exact ⟨_, _, rfl⟩

theorem modRole_scheduled (r : Nat) {f : Role → Role} (s : State) (hf : (s.role r).Rescheduled (f (s.role r))) : s.Scheduled (modRole r f s) := by
  refine ⟨fun q => ?_, fun _ => ⟨_, rfl⟩, ⟨_, _, rfl⟩⟩
  rw [role_modRole]
  split
  · next h =>
    subst h
    exact hf
  · exact .refl _

theorem modCore_cyc_scheduled (c n : Nat) (s : State) : s.Scheduled (modCore c (fun k => { k with cyc := k.cyc + n }) s) := by
  refine ⟨fun _ => .refl _, fun j => ?_, ⟨_, _, rfl⟩⟩
  rw [core_modCore]
  split
  · next h =>
    subst h
    exact ⟨_, rfl⟩
  · exact ⟨_, rfl⟩

theorem sched_scheduled (r : Nat) (s : State) : s.Scheduled (sched r s) := by
  unfold sched
  split
  · exact .refl s
  · exact modRole_scheduled r s (s.role r).choose_rescheduled

theorem fenDone_scheduled (c r n : Nat) (s : State) : s.Scheduled (fenDone c r n s) :=
  ((modCore_cyc_scheduled c n s).trans (modRole_scheduled r _ ⟨rfl, fun _ => ⟨_, rfl⟩⟩)).trans (sched_scheduled r _)

theorem State.Scheduled.task {s t : State} (h : s.Scheduled t) (q m : Nat) : ∃ n, t.task q m = { s.task q m with st := n } := (h.roles q).2 m

/-- A write of a register changes the register file alone. -/
theorem WdTask.setReg_file (t : WdTask) (n v : Nat) : ∃ file, t.setReg n v = { t with w := file } := by
  unfold WdTask.setReg
  split
  · exact ⟨t.w, rfl⟩
  · exact ⟨_, rfl⟩

theorem role_modTask_timers (r t : Nat) (f : WdTask → WdTask) (s : State) (q : Nat) : ((modTask r t f s).role q).timers = (s.role q).timers := by
  unfold modTask
  rw [role_modRole]
  split
  · next h =>
    subst h
    rfl
  · rfl

/-- The computing rows are those of Table 18-3, and each issues its operation. -/
theorem exec_of_fenCompute {cmd : Instr} {op : FenOp} {c : Nat} (h : fenCompute cmd = some (op, c)) (s : State) :
    fenComputes op = true ∧ exec cmd s = .next (issueFen op c s) := by
  unfold fenCompute at h
  split at h <;> cases h <;> exact ⟨rfl, rfl⟩

/-- Settles O54: the instruction writes D and the PC of its task, and the rest of the step only schedules. -/
theorem wardenComputeFrame : Obligations.WardenComputeFrame := by
  intro cmd op c r k i s t hcmd hissue hop ht
  obtain ⟨hissuer, w, len, hfetch⟩ := hissue
  obtain ⟨hcomputes, hexec⟩ := exec_of_fenCompute hcmd s
  rw [hexec, issueFen_compute ⟨hissuer, hfetch⟩ hop hcomputes] at ht
  cases ht
  generalize (fenAlu op _ _).getD 0 = v
  generalize (if fenWide op then 2 else 1) = cycles
  generalize hu : modTask r k _ (modCore c (fun _ => s.core c) s) = u
  have hsched := fenDone_scheduled c r cycles u
  have htask (q m : Nat) : u.task q m = if q = r ∧ m = k then { (s.task r k).setReg i.d v with pc := ((s.task r k).pc + len) % 65536 } else s.task q m := by
    rw [← hu, task_modTask]
    rfl
  have hcore (j : Nat) : u.core j = s.core j := by
    rw [← hu, core_modTask, core_modCore]
    split
    · next h => rw [h]
    · rfl
  refine ⟨fun q m n hother => ?_, fun q m => ?_, fun j => ?_, ?_, fun q => ?_, ?_⟩
  · obtain ⟨st, hst⟩ := hsched.task q m
    have hreg : (u.task q m).reg n = (s.task q m).reg n := by
      rw [htask]
      split
      · next h =>
        obtain ⟨rfl, rfl⟩ := h
        have hreg : n ≠ i.d := (hother.resolve_left (· rfl)).resolve_left (· rfl)
        exact WdTask.reg_setReg_of_ne _ v hreg
      · rfl
    rw [hst]
    exact hreg
  · obtain ⟨st, hst⟩ := hsched.task q m
    obtain ⟨file, hfile⟩ := (s.task r k).setReg_file i.d v
    rw [hst, htask, hfile]
    split
    · next h =>
      obtain ⟨rfl, rfl⟩ := h
      exact ⟨rfl, rfl, rfl, rfl, rfl, rfl⟩
    · exact ⟨rfl, rfl, rfl, rfl, rfl, rfl⟩
  · obtain ⟨cyc, hcyc⟩ := hsched.cores j
    rw [hcyc, hcore]
    exact ⟨rfl, rfl, rfl⟩
  · obtain ⟨_, _, hframe⟩ := hsched.frame
    rw [hframe, ← hu]
    rfl
  · rw [(hsched.roles q).1, ← hu]
    exact role_modTask_timers r k _ _ q
  · obtain ⟨_, _, hframe⟩ := hsched.frame
    rw [hframe, ← hu]
    exact ⟨rfl, rfl, rfl, rfl⟩

/-- Settles O55: the instruction writes one data word of its core and the PC of its task, and the rest of the step only schedules. -/
theorem wardenStoreFrame : Obligations.WardenStoreFrame := by
  intro c r k i s t hissue hop ht a
  obtain ⟨hissuer, w, len, hfetch⟩ := hissue
  rw [exec_fenSt, execFenSt_of_fetched ⟨hissuer, hfetch⟩ hop] at ht
  cases ht
  generalize hu : modTask r k _ (modCore c _ s) = u
  have hsched := fenDone_scheduled c r 2 u
  have hcore (j : Nat) : u.core j = if j = c then { s.core c with
      data := tput 0 (s.core c).data a ((s.task r k).reg i.d), dataBad := nclr a (s.core c).dataBad } else s.core j := by
    rw [← hu, core_modTask, core_modCore]
  have hdata (j b : Nat) : tget 0 ((fenDone c r 2 u).core j).data b = if j = c ∧ b = a then (s.task r k).reg i.d else tget 0 (s.core j).data b := by
    obtain ⟨cyc, hcyc⟩ := hsched.cores j
    rw [hcyc, hcore]
    by_cases hj : j = c
    · subst hj
      simp [tget_tput]
    · simp [hj]
  refine ⟨?_, fun j b hother => ?_, fun j => ?_, fun q m n => ?_, ?_⟩
  · rw [hdata, if_pos ⟨rfl, rfl⟩]
  · have hword : ¬(j = c ∧ b = a) := fun ⟨hj, hb⟩ => hother.elim (· hj) (· hb)
    rw [hdata, if_neg hword]
  · obtain ⟨cyc, hcyc⟩ := hsched.cores j
    rw [hcyc, hcore]
    split
    · next h =>
      subst h
      rfl
    · rfl
  · obtain ⟨st, hst⟩ := hsched.task q m
    rw [hst, ← hu, task_modTask]
    split
    · next h =>
      obtain ⟨rfl, rfl⟩ := h
      rfl
    · rfl
  · obtain ⟨_, _, hframe⟩ := hsched.frame
    rw [hframe, ← hu]
    exact ⟨rfl, rfl, rfl⟩

end Sys2Proof.Machine
end

section
/-!
Proofs of the statements on the warden runtime (ch 19): tasks, events, timers, the watchdog and the hardware locks.
-/
namespace Sys2Proof.Machine
open Sys2Proof

/-! ### Tasks and task control (R698, R702, R703) -/

theorem asRole_of_role {core r : Nat} {s : State} (f : Nat → State → State) (h : s.roleOn core = some r) : asRole core f s = f r s := by
  simp only [asRole, h, ifSome]

section
variable {s : State} {core r : Nat} (hrole : s.roleOn core = some r)
include hrole

theorem execTimeSliceExpiry_of_role : execTimeSliceExpiry core s =
    .next (sched r (modRole r (fun x => { x with ran := if x.running.isSome then max x.ran 10000 else x.ran }) s)) :=
  congrArg _ (asRole_of_role _ hrole)

theorem execTaskCreate_of_role {role task prio : Nat} (sm ovf : Bool) (h : role ≤ 3) (ht : task ≤ 31) (hp : prio ≤ 7) :
    execTaskCreate core role task prio sm ovf s = .next (tcCreate r role task prio sm ovf s) := by
  refine congrArg _ ((asRole_of_role _ hrole).trans ?_)
  rw [Nat.mod_eq_of_lt (by omega : role < 4), Nat.mod_eq_of_lt (by omega : task < 32), Nat.mod_eq_of_lt (by omega : prio < 8)]

theorem execTaskCreate_of_free {role task prio : Nat} (sm ovf : Bool) (hdone : (s.role r).tcDone = true) (h : role ≤ 3) (ht : task ≤ 31)
    (hp : prio ≤ 7) (hfree : (s.task role task).live = false) :
    let x := s.role r
    execTaskCreate core role task prio sm ovf s = .next (tcDone r stOk (startTask role task
      (freshTask (x.tcArg % 65536) (x.tcArg / 65536 % 65536) x.tcSlim prio sm ovf (s.task role task).epoch) s)) := by
  rw [execTaskCreate_of_role hrole sm ovf h ht hp]
  simp only [tcCreate, hdone, hfree, Bool.not_true, Bool.false_eq_true, if_false]

theorem execTaskCreate_of_live {role task prio : Nat} (sm ovf : Bool) (hdone : (s.role r).tcDone = true) (h : role ≤ 3) (ht : task ≤ 31)
    (hp : prio ≤ 7) (hlive : (s.task role task).live = true) :
    execTaskCreate core role task prio sm ovf s = .next (tcDone r stBusy s) := by
  rw [execTaskCreate_of_role hrole sm ovf h ht hp]
  simp only [tcCreate, hdone, hlive, Bool.not_true, Bool.false_eq_true, if_false, if_true]

theorem execTaskCancel_of_live {role task : Nat} (hdone : (s.role r).tcDone = true) (h : role ≤ 3) (ht1 : 1 ≤ task) (ht : task ≤ 31)
    (hlive : (s.task role task).live = true) (hidle : (s.task role task).st ≠ 2 ∨ s.inAccess role = false) :
    execTaskCancel core role task s = .next (sched role (tcDone r stOk (park role task stCancelled s))) := by
  have notBusy : ((s.task role task).st == 2 && s.inAccess role) = false := by
    rcases hidle with h | h <;> simp [h]
  refine congrArg _ ((asRole_of_role _ hrole).trans ?_)
  rw [Nat.mod_eq_of_lt (by omega : role < 4), Nat.mod_eq_of_lt (by omega : task < 32)]
  simp only [tcCancel, hdone, hlive, notBusy, Nat.ne_of_gt ht1, Bool.not_true, Bool.false_eq_true, if_false]

theorem execTaskCancel_of_zero (role : Nat) (hdone : (s.role r).tcDone = true) :
    execTaskCancel core role 0 s = .next (tcDone r stDenied s) := by
  refine congrArg _ ((asRole_of_role _ hrole).trans ?_)
  simp only [tcCancel, hdone, Bool.not_true, Bool.false_eq_true, if_false, Nat.zero_mod, if_true]

/-! ### The role's registers (R706, R708, R712, R713) -/

/-- Every post but that of bit 15 to task 0. -/
theorem execWdnEvpost_of_role {role task bit : Nat} (h : role ≤ 3) (ht : task ≤ 31) (hb : bit ≤ 15) (hguard : bit ≠ 15 ∨ task ≠ 0) :
    execWdnEvpost core role task bit s = .next (postBit role task bit s) := by
  refine congrArg _ ((asRole_of_role _ hrole).trans ?_)
  have hbit : (bit % 16 + task % 32 * 16 + role % 4 * 512) % 16 = bit := by omega
  have htask : bitsOf (bit % 16 + task % 32 * 16 + role % 4 * 512) 8 4 = task := by
    simp only [bitsOf, Nat.reducePow, Nat.reduceSub, Nat.reduceAdd]
    omega
  have hrole : bitsOf (bit % 16 + task % 32 * 16 + role % 4 * 512) 10 9 = role := by
    simp only [bitsOf, Nat.reducePow, Nat.reduceSub, Nat.reduceAdd]
    omega
  have notGuarded : (decide (bit = 15) && decide (task = 0)) = false := by
    rcases hguard with h | h <;> simp [h]
  simp only [evPost, hbit, htask, hrole, notGuarded, Bool.false_eq_true, if_false]

theorem execWdnWdogKick_of_role {d : RoleDesc} (hdesc : (s.role r).desc = some d) (hcore : (s.coreOf r).isSome = true) :
    execWdnWdogKick core s = .next (modRole r (fun x => { x with wdDue := some (s.us + 1000 * d.wdogMs) }) s) := by
  obtain ⟨c, hc⟩ := Option.isSome_iff_exists.mp hcore
  refine congrArg _ ((asRole_of_role _ hrole).trans ?_)
  simp only [kick, hdesc, hc]

theorem execWdnEvdropRead_of_role : execWdnEvdropRead core s =
    .next (modRole r (fun x => { x with evdrop := 0 }) (answerRead (16 + core) (putLe 4 (s.role r).evdrop) s)) :=
  congrArg _ (asRole_of_role _ hrole)

theorem execTimerArm_of_role {timer : Nat} (value : Nat) (ht : timer ≤ 15) : execTimerArm core timer value s = .next (timerArm r timer value s) := by
  refine congrArg _ ((asRole_of_role _ hrole).trans ?_)
  rw [Nat.mod_eq_of_lt (by omega : timer < 16)]

end

/-- A change of a timer is decided by what it makes of the timer as it is. -/
theorem modTimer_congr {r n : Nat} {f g : WdTimer → WdTimer} {s : State} (h : f (tget {} (s.role r).timers n) = g (tget {} (s.role r).timers n)) :
    modRole r (fun x => { x with timers := tmod {} x.timers n f }) s = modRole r (fun x => { x with timers := tmod {} x.timers n g }) s := by
  have same : tmod {} (s.role r).timers n f = tmod {} (s.role r).timers n g := congrArg (tput ({} : WdTimer) (s.role r).timers n) h
  unfold modRole
  refine congrArg (fun l => modWdn (fun x => { x with roles := l }) s) (congrArg (tput ({} : Role) s.wdn.roles r) ?_)
  exact congrArg (fun l => { s.role r with timers := l }) same

/-- One shot or periodic, with a COUNT. -/
theorem timerArm_of_mode {r n v : Nat} {s : State} (hmode : inR (v % 4) 1 2 = true) (hcount : (tget {} (s.role r).timers n).count ≠ 0) :
    timerArm r n v s = modRole r (fun x => { x with timers := tmod {} x.timers n fun m => { m with
      mode := v % 4, task := bitsOf v 8 4, bit := bitsOf v 15 12, guard := bitsOf v 31 16, due := some (s.us + m.count) } }) s := by
  simp only [inR, Bool.and_eq_true, decide_eq_true_eq] at hmode
  have hlisted : v % 4 ≠ 3 := by omega
  have hon : v % 4 ≠ 0 := by omega
  exact modTimer_congr (by simp [hlisted, hon, hcount])

theorem timerArm_off {r n v : Nat} {s : State} (hmode : v % 4 = 0) :
    timerArm r n v s = modRole r (fun x => { x with timers := tmod {} x.timers n fun m => { m with
      mode := 0, task := bitsOf v 8 4, bit := bitsOf v 15 12, guard := bitsOf v 31 16, due := none } }) s :=
  modTimer_congr (by simp [hmode])

theorem execTimerExpiry_of_armed {s : State} {role timer d : Nat} (h : role ≤ 3) (ht : timer ≤ 15)
    (hdue : (tget {} (s.role role).timers timer).due = some d) :
    let m := tget {} (s.role role).timers timer
    execTimerExpiry role timer s = .next (postBit role m.task m.bit (modRole role (fun x => { x with timers := tmod {} x.timers timer fun y =>
      { y with due := if m.mode = 2 then some (d + m.count) else none } }) s)) := by
  simp only [execTimerExpiry, Nat.mod_eq_of_lt (by omega : role < 4), Nat.mod_eq_of_lt (by omega : timer < 16), timerExpire, hdue]

/-! ### Posts (R701, R706, R711) -/

/-- The guarded timers that a post beats are disarmed. -/
def disarmBeaten (r t b : Nat) (s : State) : State :=
  modRole r (fun x => { x with timers := tmodAll {} x.timers (x.timers.map (·.1)) fun _ m =>
    if m.mode == 1 && m.due.isSome && m.task == t && m.guard.testBit b then { m with due := none } else m }) s

theorem disarmBeaten_task (r t b q m : Nat) (s : State) : (disarmBeaten r t b s).task q m = s.task q m := by
  unfold disarmBeaten State.task
  rw [role_modRole]
  split
  · next h =>
    subst h
    rfl
  · rfl

theorem postBit_of_dead {r t : Nat} (b : Nat) {s : State} (h : (s.task r t).live = false) :
    postBit r t b s = modRole r (fun x => { x with evdrop := min 0xFFFFFFFF (x.evdrop + 1) }) s := by
  simp only [postBit, h, Bool.not_false, if_true]

/-- A bit of the mask is among the hits of its post. -/
theorem hits_ne_zero {pending mask b : Nat} (h : mask &&& 2 ^ b ≠ 0) : (pending ||| 2 ^ b) &&& mask ≠ 0 := by
  have hmask : mask.testBit b = true := by
    cases hb : mask.testBit b with
    | true => rfl
    | false =>
      refine absurd (Nat.eq_of_testBit_eq fun i => ?_) h
      rw [Nat.testBit_and, Nat.testBit_two_pow, Nat.zero_testBit]
      by_cases hi : b = i
      · rw [← hi, hb, Bool.false_and]
      · rw [decide_eq_false hi, Bool.and_false]
  intro h0
  have hit : ((pending ||| 2 ^ b) &&& mask).testBit b = true := by simp [Nat.testBit_and, Nat.testBit_or, hmask]
  rw [h0, Nat.zero_testBit] at hit
  cases hit

theorem postBit_of_awaited {r t b : Nat} {s : State} (hst : (s.task r t).st = 3) (hmask : (s.task r t).mask &&& 2 ^ b ≠ 0) :
    let all := (s.task r t).pending ||| 2 ^ b
    postBit r t b s = sched r (modRole r (fun x => x.ready t false) (modTask r t (fun k => { k.setReg k.wreg (all &&& k.mask) with
      pending := all - (all &&& k.mask), mask := 0 }) (disarmBeaten r t b s))) := by
  have hlive : (s.task r t).live = true := by simp [WdTask.live, hst, inR]
  have hhits : (((s.task r t).pending ||| 2 ^ b) &&& (s.task r t).mask != 0) = true := bne_iff_ne.mpr (hits_ne_zero hmask)
  simp only [postBit, hlive, hst, hhits, Bool.not_true, Bool.false_eq_true, if_false, beq_self_eq_true, Bool.and_self, if_true]
  refine congrArg (fun u => sched r (modRole r (fun x => x.ready t false) u)) (modTask_congr (s := disarmBeaten r t b s) ?_)
  rw [disarmBeaten_task]

theorem postBit_of_ready {r t b : Nat} {s : State} (hst : inR (s.task r t).st 1 2 = true) :
    postBit r t b s = modTask r t (fun k => { k with pending := (s.task r t).pending ||| 2 ^ b }) (disarmBeaten r t b s) := by
  simp only [inR, Bool.and_eq_true, decide_eq_true_eq] at hst
  have hlive : (s.task r t).live = true := by
    simp only [WdTask.live, inR, Bool.and_eq_true, decide_eq_true_eq]
    omega
  have notWaiting : ((s.task r t).st == 3) = false := beq_false_of_ne (by omega)
  simp only [postBit, hlive, notWaiting, Bool.not_true, Bool.false_and, Bool.false_eq_true, if_false]
  rfl

theorem execEventPost_of_slot {role task bit : Nat} (s : State) (h : role ≤ 3) (ht : task ≤ 31) (hb : bit ≤ 15) :
    execEventPost role task bit s = .next (postBit role task bit s) := by
  rw [execEventPost, Nat.mod_eq_of_lt (by omega : role < 4), Nat.mod_eq_of_lt (by omega : task < 32), Nat.mod_eq_of_lt (by omega : bit < 16)]

/-! ### Hardware locks (R720-R723) -/

section
variable {s : State} {reader n h : Nat} (hholder : s.holderOf reader = some h) (hn : n ≤ 63)
include hholder hn

theorem execLckAcq_of_holder : execLckAcq reader n s =
    .next (answerRead reader (putLe 4 (lockAcquire h n s).1) (lockAcquire h n s).2) := by
  simp only [execLckAcq, hholder, Nat.mod_eq_of_lt (by omega : n < 64)]

theorem execLckAcq_of_unheld (hst : (s.lock n).st ≠ 1) : execLckAcq reader n s =
    .next (answerRead reader (putLe 4 ((if (s.lock n).st = 2 then stOrphan else stOk) + 32768 + h * 65536)) (setLock n ⟨1, h, s.holderEpoch h⟩ s)) := by
  rw [execLckAcq_of_holder hholder hn]
  simp only [lockAcquire, hst, if_false]

theorem execLckAcq_of_held (hst : (s.lock n).st = 1) : execLckAcq reader n s =
    .next (answerRead reader (putLe 4 ((if (s.lock n).holder = h then stNote + 32768 else stBusy) + (s.lock n).holder * 65536)) s) := by
  rw [execLckAcq_of_holder hholder hn]
  simp only [lockAcquire, hst, if_true]

theorem execLckRel_of_holder : execLckRel reader n s = .next (lockRelease h n s) := by
  simp only [execLckRel, hholder, Nat.mod_eq_of_lt (by omega : n < 64)]

end

theorem lockRelease_of_held {s : State} {n h : Nat} (hst : (s.lock n).st = 1) (hmine : (s.lock n).holder = h) :
    lockRelease h n s = setLock n { s.lock n with st := 0, holder := 0 } s := by
  simp [lockRelease, hst, hmine]

theorem lockRelease_of_other {s : State} {n h : Nat} (hother : (s.lock n).st ≠ 1 ∨ (s.lock n).holder ≠ h) :
    lockRelease h n s = logLimited 19 0x8002 n 1 1000 (detail [(16, 1, n), (18, 2, h), (20, 2, (s.lock n).holder)]) s := by
  have notMine : ((decide ((s.lock n).st = 1)) && (decide ((s.lock n).holder = h))) = false := by
    rcases hother with h | h <;> simp [h]
  simp only [lockRelease, notMine, Bool.false_eq_true, if_false]

/-- Settles O33: each row in the branch that its premises select. -/
theorem wardenRuntimeComplete : Obligations.WardenRuntimeComplete :=
  ⟨fun _ _ _ hrole _ => execTimeSliceExpiry_of_role hrole,
   fun _ _ _ _ h ht hb hdead => (execEventPost_of_slot _ h ht hb).trans (congrArg _ (postBit_of_dead _ hdead)),
   fun _ _ _ _ h ht hb hst hmask => (execEventPost_of_slot _ h ht hb).trans (congrArg _ (postBit_of_awaited hst hmask)),
   fun _ _ _ _ h ht hb hst => (execEventPost_of_slot _ h ht hb).trans (congrArg _ (postBit_of_ready hst)),
   fun _ _ _ _ _ _ sm ovf hrole hdone h ht hp hfree => execTaskCreate_of_free hrole sm ovf hdone h ht hp hfree,
   fun _ _ _ _ _ _ sm ovf hrole hdone h ht hp hlive => execTaskCreate_of_live hrole sm ovf hdone h ht hp hlive,
   fun _ _ _ _ _ hrole hdone h ht1 ht hlive hidle => execTaskCancel_of_live hrole hdone h ht1 ht hlive hidle,
   fun _ _ _ role _ hrole hdone ht => ht ▸ execTaskCancel_of_zero hrole role hdone,
   fun _ _ _ _ _ _ hrole h ht hb hguard => execWdnEvpost_of_role hrole h ht hb hguard,
   fun _ _ _ _ hrole hdesc hcore => execWdnWdogKick_of_role hrole hdesc hcore,
   fun _ _ _ hrole => execWdnEvdropRead_of_role hrole,
   fun _ _ _ _ value hrole ht hmode hcount => (execTimerArm_of_role hrole value ht).trans (congrArg _ (timerArm_of_mode hmode hcount)),
   fun _ _ _ _ value hrole ht hmode => (execTimerArm_of_role hrole value ht).trans (congrArg _ (timerArm_off hmode)),
   fun _ _ _ _ h ht hdue => execTimerExpiry_of_armed h ht hdue,
   fun _ _ _ _ hholder hn hst => execLckAcq_of_unheld hholder hn hst,
   fun _ _ _ _ hholder hn hst => execLckAcq_of_held hholder hn hst,
   fun _ _ _ _ hholder hn hst hmine => (execLckRel_of_holder hholder hn).trans (congrArg _ (lockRelease_of_held hst hmine)),
   fun _ _ _ _ hholder hn hother => (execLckRel_of_holder hholder hn).trans (congrArg _ (lockRelease_of_other hother))⟩

/-! ### BAD_RELEASE at most once per lock in 1 ms (R723, R1042) -/

/-- A record of a code and key was written within the last ivl microseconds. -/
def State.recentlyLogged (s : State) (src code key ivl : Nat) : Bool :=
  s.log.stamps.any fun x => x.source == src && x.code == code && x.key == key && decide (s.us < x.at_ + ivl)

theorem setLock_lock (n m : Nat) (l : HwLock) (s : State) : (setLock n l s).lock m = if m = n then l else s.lock m :=
  tget_tput ({} : HwLock) s.wdn.locks n m l

theorem logLimited_of_recent {src code key ivl : Nat} (det : Bytes) {s : State} (h : s.recentlyLogged src code key ivl = true) :
    logLimited src code key 1 ivl det s = s := by
  obtain ⟨x, hx, hmatch⟩ := List.any_eq_true.mp h
  have some1 : 0 < (s.log.stamps.filter fun t => t.source == src && t.code == code && t.key == key && decide (s.us < t.at_ + ivl)).length :=
    List.length_pos_of_mem (List.mem_filter.mpr ⟨hx, hmatch⟩)
  simp only [logLimited]
  exact if_neg (by omega)

/-- The stamps that stay, and the new one. -/
def stamped (src code key ivl : Nat) (s : State) : State :=
  { s with log := { s.log with stamps := (s.log.stamps.filter fun t => !(t.source == src && t.code == code && t.key == key) ||
    decide (s.us < t.at_ + ivl)) ++ [⟨src, code, key, s.us⟩] } }

theorem logLimited_of_old {src code key ivl : Nat} (det : Bytes) {s : State} (h : s.recentlyLogged src code key ivl = false) :
    logLimited src code key 1 ivl det s = logEvent src code det (stamped src code key ivl s) := by
  have none1 : (s.log.stamps.filter fun t => t.source == src && t.code == code && t.key == key && decide (s.us < t.at_ + ivl)).length = 0 := by
    rw [List.length_eq_zero_iff, List.filter_eq_nil_iff]
    exact fun x hx hm => Bool.eq_false_iff.mp h (List.any_eq_true.mpr ⟨x, hx, hm⟩)
  simp only [logLimited]
  exact if_pos (by omega)

/-- A record that raises no event is appended, and stays the newest of those kept. -/
theorem logEvent_of_mild {src code : Nat} (det : Bytes) {s : State} (hawake : s.awake = true) (hmild : severity src code < 3) :
    ∃ r records, r.source = src ∧ r.code = code ∧ records.getLast? = some r ∧
      logEvent src code det s = { s with log := { s.log with records := records, nextSeq := s.log.nextSeq + 1 } } := by
  let r : LogRecord := ⟨s.aon.rtcSec, s.log.tick, src, severity src code, code, s.log.nextSeq, det⟩
  let all := s.log.records ++ [r]
  have quiet : decide (3 ≤ severity src code) = false := decide_eq_false (by omega)
  have hlength : all.length = s.log.records.length + 1 := List.length_append
  refine ⟨r, all.drop (all.length - 4096), rfl, rfl, ?_, ?_⟩
  · rw [List.getLast?_drop, if_neg (by omega), List.getLast?_append]
    rfl
  · simp only [logEvent, hawake, if_true, quiet, whenS_false]
    rfl

theorem logEvent_asleep {src code : Nat} (det : Bytes) {s : State} (h : s.awake = false) : logEvent src code det s = s := by
  simp [logEvent, h]

/-- A record keeps the stamps and the time, whether or not the log runs. -/
theorem logEvent_recently {src code : Nat} (det : Bytes) (s : State) (hmild : severity src code < 3) (key ivl : Nat) :
    (logEvent src code det s).recentlyLogged src code key ivl = s.recentlyLogged src code key ivl := by
  cases hawake : s.awake
  · rw [logEvent_asleep det hawake]
  · obtain ⟨_, _, -, -, -, heq⟩ := logEvent_of_mild det hawake hmild
    rw [heq]
    rfl

theorem stamped_recently (src code key ivl : Nat) (s : State) (h : 0 < ivl) : (stamped src code key ivl s).recentlyLogged src code key ivl = true :=
  List.any_eq_true.mpr ⟨⟨src, code, key, s.us⟩, List.mem_append_right _ (List.mem_singleton.mpr rfl), by simpa [stamped] using h⟩

theorem badRelease_mild : severity 19 0x8002 < 3 := by decide

/-- Settles O56: the holder's release sets the lock, and any other is a record limited to one in 1 ms. -/
theorem lockReleaseOnlyByHolder : Obligations.LockRelease := by
  intro s t reader n h hholder hn ht fresh
  rw [exec_lckRel, execLckRel_of_holder hholder hn] at ht
  cases ht
  refine ⟨fun ⟨hst, hmine⟩ => ?_, fun hother => ?_⟩
  · rw [lockRelease_of_held hst hmine]
    refine ⟨?_, fun m hm => ?_, rfl⟩
    · rw [setLock_lock, if_pos rfl]
    · rw [setLock_lock, if_neg hm]
  · rw [lockRelease_of_other (Decidable.not_and_iff_or_not.1 hother)]
    refine ⟨?_, fun hfresh => logLimited_of_recent _ hfresh, fun hold => ?_⟩
    · obtain ⟨_, _, _, _, hrep⟩ := logLimited_spec 19 0x8002 n 1 1000 (detail [(16, 1, n), (18, 2, h), (20, 2, (s.lock n).holder)]) s
      rw [hrep]
    · rw [logLimited_of_old _ hold]
      refine ⟨(logEvent_recently _ _ badRelease_mild n 1000).trans (stamped_recently _ _ _ _ _ (by decide)), fun hawake => ?_⟩
      have stillAwake : (stamped 19 0x8002 n 1000 s).awake = true := hawake
      obtain ⟨r, _, hsource, hcode, hlast, heq⟩ := logEvent_of_mild _ stillAwake badRelease_mild
      rw [heq]
      exact ⟨r, hlast, hsource, hcode⟩

end Sys2Proof.Machine
end

section
/-!
Proofs of the statements on signal inputs, outputs and pours (ch 17): the discard, and the rows of inputs, outputs, pours and result slots.
-/
namespace Sys2Proof.Machine
open Sys2Proof

/-! ### Banks (R643, R647) -/

/-- The shadow bank takes the change and the active bank stays, whichever of the two it is. -/
theorem Sio.modShadow_shadow (x : Sio) (f : List (Nat × Nat) → List (Nat × Nat)) : (x.modShadow f).shadow = f x.shadow := by
  unfold Sio.modShadow Sio.shadow
  split <;> simp [*]

theorem Sio.modShadow_bank (x : Sio) (f : List (Nat × Nat) → List (Nat × Nat)) : (x.modShadow f).bank = x.bank := by
  unfold Sio.modShadow Sio.bank
  split <;> simp [*]

theorem Sio.modShadow_gen (x : Sio) (f : List (Nat × Nat) → List (Nat × Nat)) : (x.modShadow f).gen = x.gen := by
  unfold Sio.modShadow
  split <;> rfl

theorem Sio.modShadow_late (x : Sio) (f : List (Nat × Nat) → List (Nat × Nat)) : (x.modShadow f).late = x.late := by
  unfold Sio.modShadow
  split <;> rfl

/-- Settles O50: the discard writes the shadow with the active bank. -/
theorem pourDiscard : Obligations.PourDiscard := fun x =>
  ⟨x.modShadow_shadow _, x.modShadow_bank _, rfl, rfl, x.modShadow_gen _⟩

/-! ### Inputs and outputs (R631, R634, R637-R639) -/

theorem execTdmFrameComplete_of_on {s : State} {d : Nat} (words : List Nat) (hd : d ≤ 1) (hon : (s.tdm d).on = true) (hdom : s.isOn 29 = true) :
    let t := s.tdm d
    execTdmFrameComplete d words s = .next (modSio (fun x => { x with tdmIn := tmod {} x.tdmIn d fun t' => { t' with
      frame := (List.range t.slots).foldl (fun f k => tput 0 f k (words.getD k 0 % 2 ^ t.width * 2 ^ (32 - t.width))) [] } }) s) := by
  simp [execTdmFrameComplete, Nat.not_lt.mpr hd, hon, hdom]

theorem execAdcConversion_of_counted {s : State} {c : Nat} (code : Nat) (hc : c ≤ 7) (hon : (s.adcCh c).on = true) (hdom : s.isOn 27 = true)
    (hroom : (s.adcCh c).count < min (s.adcCh c).avg (adcMax s.sge.rate)) : execAdcConversion c code s =
      .next (modSio (fun y => { y with adc := tmod {} y.adc c fun x => { x with sum := x.sum + code % 65536, count := x.count + 1 } }) s) := by
  have counts : (decide (min (s.adcCh c).avg (adcMax s.sge.rate) ≤ (s.adcCh c).count)) = false := decide_eq_false (by omega)
  have taken : decide (7 < c) = false := decide_eq_false (by omega)
  simp only [execAdcConversion, taken, hon, hdom, counts, Bool.not_true, Bool.or_self, Bool.false_eq_true, if_false]

/-- The edge of the chosen polarity begins a phase and counts. -/
theorem execCaptureEdge_of_begin {s : State} {c : Nat} (at_ : Nat) {rising : Bool} (hc : c ≤ 7) (hmode : (s.cap c).mode ≠ 0)
    (hdom : s.isOn 28 = true) (hedge : rising ≠ (s.cap c).falling) :
    let x := s.cap c
    let t := s.sge.cyc + at_
    execCaptureEdge c rising at_ s = .next (modSio (fun z => { z with capture := tput {} z.capture c { x with
      last := some t, period := x.last.map (fun l => t - l), open_ := true, count := x.count + 1 } }) s) := by
  simp [execCaptureEdge, Nat.not_lt.mpr hc, hmode, hdom, hedge]

/-- The other edge ends it. -/
theorem execCaptureEdge_of_end {s : State} {c : Nat} (at_ : Nat) {rising : Bool} (hc : c ≤ 7) (hmode : (s.cap c).mode ≠ 0)
    (hdom : s.isOn 28 = true) (hedge : rising = (s.cap c).falling) :
    let x := s.cap c
    let t := s.sge.cyc + at_
    execCaptureEdge c rising at_ s = .next (modSio (fun z => { z with capture := tput {} z.capture c { x with
      high := if x.open_ then t - x.last.getD t else x.high, open_ := false } }) s) := by
  simp [execCaptureEdge, Nat.not_lt.mpr hc, hmode, hdom, hedge]

theorem execPwmPeriodStart_of_on {s : State} {k : Nat} (hk : k ≤ 15) (hset : (s.pwmOut k).set = true) (hmode : (s.pwmOut k).mode ≠ 0)
    (hrun : s.sge.running = true) (hdom : s.isOn 28 = true) :
    let x := s.pwmOut k
    execPwmPeriodStart k s = .next (modSio (fun y => { y with pwm := tmod {} y.pwm k fun z => { z with
      on := some ((signed 32 x.word).toNat * x.div / 2 ^ 31) } }) s) := by
  have off : (decide (15 < k) || !(s.pwmOut k).set || decide ((s.pwmOut k).mode = 0) || !s.sge.running || !s.isOn 28) = false := by
    simp [Nat.not_lt.mpr hk, hset, hmode, hrun, hdom]
  simp only [execPwmPeriodStart, off, Bool.false_eq_true, if_false]
  rfl

/-! ### The pour commands (R643-R647) -/

section
variable {s t : State} {p : Packet}

theorem pourCommand_of_idle (f : Packet → State → State) (h : t.sio.pour = none) : pourCommand p f t = f p t := by
  simp [pourCommand, h]

/-- One coefficient record in one packet. -/
theorem stageCommand_of_coefficient {caddr ramp value : Nat} (hparts : p.parts = [12]) (hcaddr : caddr < 4096) (hramp : 1 ≤ ramp)
    (hramp' : ramp < 65536) (hvalue : value < 2 ^ 32)
    (hparams : p.params = [1, 0, 1, 0] ++ putLe 2 caddr ++ putLe 2 ramp ++ putLe 4 value)
    (hroom : rampedAfter t.sio [(caddr, ramp, value)] ≤ 256) :
    stageCommand p t = complete p stOk (putLe 4 t.sio.gen.toNat) (modSio (stageCoefs [(caddr, ramp, value)]) t) := by
  have htarget : u8 p.params 0 = 1 := by rw [hparams]; rfl
  have hcount : u16 p.params 2 = 1 := by rw [hparams]; rfl
  have haddr : u16 p.params 4 = caddr := by
    rw [hparams]; simp [u16, leAt, u8, putLe]; omega
  have hrampField : u16 p.params 6 = ramp := by
    rw [hparams]; simp [u16, leAt, u8, putLe]; omega
  have hvalueField : u32 p.params 8 = value := by
    rw [hparams]; simp [u32, leAt, u8, putLe]; omega
  have hlen : p.params.length = 12 := by rw [hparams]; rfl
  simp [stageCommand, htarget, hcount, haddr, hrampField, hvalueField, hlen, hparts, inR, hcaddr, Nat.not_lt.mpr hroom, Nat.one_le_iff_ne_zero.mp hramp]


theorem execSgePourStage_of_coefficient {caddr ramp value : Nat} (given : Given 0x0910 p s t) (hpour : t.sio.pour = none)
    (hparts : p.parts = [12]) (hcaddr : caddr < 4096) (hramp : 1 ≤ ramp) (hramp' : ramp < 65536) (hvalue : value < 2 ^ 32)
    (hparams : p.params = [1, 0, 1, 0] ++ putLe 2 caddr ++ putLe 2 ramp ++ putLe 4 value)
    (hroom : rampedAfter t.sio [(caddr, ramp, value)] ≤ 256) :
    execSgePourStage s = .next (complete p stOk (putLe 4 t.sio.gen.toNat) (modSio (stageCoefs [(caddr, ramp, value)]) t)) :=
  (interpret_given _ given).trans (congrArg _ ((pourCommand_of_idle _ hpour).trans
    (stageCommand_of_coefficient hparts hcaddr hramp hramp' hvalue hparams hroom)))

theorem execSgePourStage_of_pour (given : Given 0x0910 p s t) (hpour : t.sio.pour.isSome = true) :
    execSgePourStage s = .next (waitFor p (.other 0x910) t) :=
  (interpret_given _ given).trans (congrArg _ (if_pos hpour))

theorem commitCommand_discard (hlen : p.params.length = 8) (hop : u8 p.params 4 = 2) :
    commitCommand p t = complete p stOk (putLe 4 (modSio discardPour t).sio.gen.toNat ++ zeros 4) (modSio discardPour t) := by
  rw [commitCommand, checked_ok _ _ _ _ _ hlen (by simp [hop, inR])]
  exact if_pos (beq_iff_eq.mpr hop)

theorem commitCommand_waits (hlen : p.params.length = 8) (hop : u8 p.params 4 = 1) (hfault : commitFault t.sio (u32 p.params 0) = none) :
    commitCommand p t = waitFor p .pour (modSio (fun x => { x with pour := some (.waiting 0) }) t) := by
  rw [commitCommand, checked_ok _ _ _ _ _ hlen (by simp [hop, inR])]
  simp [hop, hfault]

theorem execSgePourCommit_discard (given : Given 0x0911 p s t) (hlen : p.params.length = 8) (hpour : t.sio.pour = none)
    (hop : u8 p.params 4 = 2) :
    let u := modSio discardPour t
    execSgePourCommit s = .next (complete p stOk (putLe 4 u.sio.gen.toNat ++ zeros 4) u) :=
  (interpret_given _ given).trans (congrArg _ ((pourCommand_of_idle _ hpour).trans (commitCommand_discard hlen hop)))

theorem execSgePourCommit_waits (given : Given 0x0911 p s t) (hlen : p.params.length = 8) (hpour : t.sio.pour = none)
    (hop : u8 p.params 4 = 1) (hfault : commitFault t.sio (u32 p.params 0) = none) :
    execSgePourCommit s = .next (waitFor p .pour (modSio (fun x => { x with pour := some (.waiting 0) }) t)) :=
  (interpret_given _ given).trans (congrArg _ ((pourCommand_of_idle _ hpour).trans (commitCommand_waits hlen hop hfault)))

end

/-! ### The reply to what waits for the pour leaves SIO alone -/

theorem whenS_sio (c : Bool) (f : State → State) (s : State) (h : (f s).sio = s.sio) : (whenS c f s).sio = s.sio := by
  unfold whenS; split <;> simp [h]

theorem foldl_sio {α : Type} (l : List α) (f : State → α → State) (s : State) (h : ∀ s a, (f s a).sio = s.sio) : (l.foldl f s).sio = s.sio := by
  induction l generalizing s with
  | nil => rfl
  | cons a t ih => rw [List.foldl_cons, ih, h]

theorem forEach_sio {α : Type} (l : List α) (f : α → State → State) (s : State) (h : ∀ a s, (f a s).sio = s.sio) : (forEach l f s).sio = s.sio :=
  foldl_sio l _ s fun s a => h a s

theorem ifSome_sio {α : Type} (o : Option α) (f : α → State → State) (s : State) (h : ∀ a s, (f a s).sio = s.sio) : (ifSome o f s).sio = s.sio := by
  unfold ifSome; split <;> simp [h]

theorem countEv_sio a1 a2 a3 a4 (s : State) : (countEv a1 a2 a3 a4 s).sio = s.sio := by
  simp only [countEv, apply_ite State.sio, ite_self]

theorem modVec_sio a1 a2 a3 (s : State) : (modVec a1 a2 a3 s).sio = s.sio := by
  simp only [modVec]

theorem sendMsix_sio a1 a2 (s : State) : (sendMsix a1 a2 s).sio = s.sio := by
  simp only [sendMsix, apply_ite State.sio, ite_self, countEv_sio, emit_sio, modVec_sio]

theorem mgtEvent_sio a1 (s : State) : (mgtEvent a1 s).sio = s.sio := by
  unfold mgtEvent; grind [whenS_sio, sendMsix_sio]

theorem logEvent_sio a1 a2 a3 (s : State) : (logEvent a1 a2 a3 s).sio = s.sio := by
  unfold logEvent; grind [whenS_sio, mgtEvent_sio]

theorem logLimited_sio a1 a2 a3 a4 a5 a6 (s : State) : (logLimited a1 a2 a3 a4 a5 a6 s).sio = s.sio := by
  simp only [logLimited, apply_ite State.sio, ite_self, logEvent_sio]

theorem lblDone_sio a1 (s : State) : (lblDone a1 s).sio = s.sio := by
  simp only [lblDone, modLbl_sio]

theorem mirrorOver_sio (s : State) : (mirrorOver s).sio = s.sio := by
  simp only [mirrorOver, modLbl_sio]

theorem jobEnd_sio a1 a2 (s : State) : (jobEnd a1 a2 s).sio = s.sio := by
  unfold jobEnd; grind [whenS_sio, lblDone_sio, modLbl_sio, mirrorOver_sio]

theorem lblPump_sio a1 (s : State) : (lblPump a1 s).sio = s.sio := by
  fun_induction lblPump <;> grind [modLbl_sio, jobEnd_sio]

theorem lblGo_sio (s : State) : (lblGo s).sio = s.sio := by
  simp only [lblGo, lblPump_sio]

theorem lblSubmit_sio a1 (s : State) : (lblSubmit a1 s).sio = s.sio := by
  simp only [lblSubmit, apply_ite State.sio, ite_self, lblGo_sio, modLbl_sio, jobEnd_sio]

theorem cadFree_sio a1 a2 a3 (s : State) : (cadFree a1 a2 a3 s).2.sio = s.sio := by
  unfold cadFree; grind [logEvent_sio, modPool_sio]

theorem cadRelease_sio a1 (s : State) : (cadRelease a1 s).sio = s.sio := by
  unfold cadRelease; grind [forEach_sio, cadFree_sio]

theorem dmaFault_sio a1 a2 a3 a4 a5 (s : State) : (dmaFault a1 a2 a3 a4 a5 s).sio = s.sio := by
  simp only [dmaFault, whenS_sio, countEv_sio, mgtEvent_sio, logLimited_sio]

theorem dmaPut_sio a1 a2 a3 (s : State) : (dmaPut a1 a2 a3 s).2.sio = s.sio := by
  unfold dmaPut; grind [countEv_sio, emit_sio, dmaFault_sio]

theorem modRing_sio a1 a2 (s : State) : (modRing a1 a2 s).sio = s.sio := by
  unfold modRing; grind [setRing_sio]

theorem announce_sio a1 (s : State) : (announce a1 s).sio = s.sio := by
  unfold announce; grind [sendMsix_sio, setRing_sio]

theorem writeCq_sio a1 a2 (s : State) : (writeCq a1 a2 s).sio = s.sio := by
  unfold writeCq; grind [countEv_sio, emit_sio, announce_sio, setRing_sio, dmaFault_sio, logEvent_sio]

theorem flushCq_sio a1 a2 (s : State) : (flushCq a1 a2 s).sio = s.sio := by
  fun_induction flushCq <;> grind [setRing_sio, writeCq_sio]

theorem settle_sio a1 (s : State) : (settle a1 s).sio = s.sio := by
  simp only [settle, flushCq_sio]

theorem modWork_sio a1 a2 a3 (s : State) : (modWork a1 a2 a3 s).sio = s.sio := by
  simp only [modWork, modRing_sio]

theorem finishEntry_sio a1 a2 a3 (s : State) : (finishEntry a1 a2 a3 s).sio = s.sio := by
  unfold finishEntry; grind [settle_sio, modWork_sio, cadRelease_sio]

theorem latCtrl_sio a1 a2 (s : State) : (latCtrl a1 a2 s).sio = s.sio := by
  simp only [latCtrl, apply_ite State.sio, ite_self, modLink_sio]

theorem deliverRing_sio a1 a2 a3 a4 a5 (s : State) : (deliverRing a1 a2 a3 a4 a5 s).sio = s.sio := by
  unfold deliverRing; grind [dmaPut_sio, finishEntry_sio]

theorem deliverLattice_sio a1 a2 a3 (s : State) : (deliverLattice a1 a2 a3 s).sio = s.sio := by
  unfold deliverLattice; grind [ifSome_sio, latCtrl_sio]

theorem deliverPlant_sio a1 a2 a3 (s : State) : (deliverPlant a1 a2 a3 s).sio = s.sio := by
  simp only [deliverPlant]

theorem deliverLabel_sio a1 (s : State) : (deliverLabel a1 s).sio = s.sio := by
  simp only [deliverLabel, lblSubmit_sio]

theorem setWindow_sio a1 a2 (s : State) : (setWindow a1 a2 s).sio = s.sio := by
  unfold setWindow; grind []

theorem postWindow_sio a1 a2 (s : State) : (postWindow a1 a2 s).sio = s.sio := by
  simp only [postWindow, setWindow_sio]

theorem deliver_sio a1 a2 (s : State) : (deliver a1 a2 s).sio = s.sio := by
  unfold deliver; grind [deliverRing_sio, postWindow_sio, deliverLattice_sio, deliverPlant_sio, deliverLabel_sio]

theorem setSource_sio a1 (s : State) : (setSource a1 s).sio = s.sio := by
  simp only [setSource]

theorem complete_sio a1 a2 a3 (s : State) : (complete a1 a2 a3 s).sio = s.sio := by
  simp only [complete, apply_ite State.sio, ite_self, logEvent_sio, setSource_sio, deliver_sio]

theorem finishWaits_sio a1 a2 a3 (s : State) : (finishWaits a1 a2 a3 s).sio = s.sio := by
  unfold finishWaits; grind [forEach_sio, complete_sio]

/-! ### The end of the copy (R646) -/

/-- The copied coefficients go into the bank that is the shadow now. -/
def copyPour (s : State) : State :=
  modSio (fun x => { (x.modShadow fun t => x.copy.foldl (fun t r => tput 0 t r.1 r.2) t) with copy := [], pour := none }) s

theorem copyPour_gen (s : State) : (copyPour s).sio.gen = s.sio.gen := Sio.modShadow_gen _ _

theorem copyPour_late (s : State) : (copyPour s).sio.late = s.sio.late := Sio.modShadow_late _ _

/-- The commit of a packet answers with the generation. -/
theorem execPourCopyDone_of_command {s : State} {b : W32} (hpour : s.sio.pour = some (.copying 0 b)) (hlate : s.sio.late = none) :
    execPourCopyDone s =
      .next (lateLegs (latePours (finishWaits (· == .pour) stOk (fun _ => putLe 4 s.sio.gen.toNat ++ putLe 4 b.toNat) (copyPour s)))) := by
  have noLate (f : Packet → Bytes) : (finishWaits (· == .pour) stOk f (copyPour s)).sio.late = none := by
    rw [finishWaits_sio, copyPour_late, hlate]
  rw [← copyPour_gen]
  unfold execPourCopyDone
  simp only [hpour, if_true]
  change Host.Outcome.next (lateLegs (latePours (match (finishWaits (· == .pour) stOk (fun _ => putLe 4 (copyPour s).sio.gen.toNat ++ putLe 4 b.toNat) (copyPour s)).sio.late with
    | some y => _
    | none => _))) = _
  simp only [noLate]
  rfl

theorem execPourCopyDone_of_warden {s : State} {b : W32} {who : Nat} (hpour : s.sio.pour = some (.copying who b)) (hwho : who ≠ 0)
    (hlate : s.sio.late = none) :
    execPourCopyDone s = .next (lateLegs (latePours (modSio (fun x => { x with resStatus := stOk, resDone := true }) (copyPour s)))) := by
  have noLate : (modSio (fun x => { x with resStatus := stOk, resDone := true }) (copyPour s)).sio.late = none := (copyPour_late s).trans hlate
  unfold execPourCopyDone
  simp only [hpour, hwho, if_false]
  change Host.Outcome.next (lateLegs (latePours (match (modSio (fun x => { x with resStatus := stOk, resDone := true }) (copyPour s)).sio.late with
    | some y => _
    | none => _))) = _
  simp only [noLate]
  rfl

/-! ### A warden's pour registers (R657) -/

/-- SIO can take a warden's write: the last one is done, no commit runs, and neither of its domains is fenced. -/
def State.takesPour (s : State) : Prop :=
  s.sio.resDone = true ∧ s.sio.pour = none ∧ (s.domain 25).st ≠ .fenced ∧ (s.domain 99).st ≠ .fenced

theorem pourWrite_of_taken {s : State} (h : s.takesPour) (y : LatePour) : pourWrite y s = wardenPour y s := by
  obtain ⟨hdone, hpour, -, -⟩ := h
  simp [pourWrite, hdone, hpour]

theorem State.takesPour.unfenced {s : State} (h : s.takesPour) :
    ((s.domain 25).st == .fenced || (s.domain 99).st == .fenced) = false := by
  obtain ⟨-, -, h25, h99⟩ := h
  simp [h25, h99]

theorem execSioPourValue_of_room {s : State} (core : Nat) {value : Nat} (h : s.takesPour) (hramp : s.sio.ramp ≠ 0)
    (hroom : rampedAfter s.sio [(s.sio.entry, s.sio.ramp, value % 2 ^ 32)] ≤ 256) :
    execSioPourValue core value s = .next (modSio (fun x => { x with resStatus := stOk, resDone := true })
      (modSio (stageCoefs [(s.sio.entry, s.sio.ramp, value % 2 ^ 32)]) s)) := by
  refine congrArg _ ((pourWrite_of_taken h _).trans ?_)
  simp only [wardenPour, h.unfenced, hramp, Nat.not_lt.mpr hroom, Bool.false_eq_true, if_false]

theorem execPourCommit_of_ready {s : State} (core : Nat) (h : s.takesPour) (hfault : commitFault s.sio s.sio.expect.toNat = none) :
    execPourCommit core s = .next (modSio (fun x => { x with pour := some (.waiting (core + 1)), resDone := false }) s) := by
  refine congrArg _ ((pourWrite_of_taken h _).trans ?_)
  simp only [wardenPour, h.unfenced, hfault, Bool.false_eq_true, if_false]

theorem execPourDiscard_of_taken {s : State} (core : Nat) (h : s.takesPour) :
    execPourDiscard core s = .next (modSio (fun x => { x with resStatus := stOk, resDone := true }) (modSio discardPour s)) := by
  refine congrArg _ ((pourWrite_of_taken h _).trans ?_)
  simp only [wardenPour, h.unfenced, Bool.false_eq_true, if_false]

/-! ### SGE_SLOT_READ (R655) -/

section
variable {s t : State} {p : Packet} (given : Given 0x0912 p s t) (hlen : p.params.length = 4) (hcount : inR (u8 p.params 1) 1 64 = true)
  (hrange : u8 p.params 0 + u8 p.params 1 ≤ 64)
include given hlen hcount hrange

/-- The range is checked; the path decides whether the read counts. -/
theorem execSgeSlotRead_given : execSgeSlotRead s = .next (if p.cls == 3 then
      let r := countSlots (u8 p.params 1) (u8 p.params 0) 1 t
      complete p stOk r.1 r.2
    else complete p stOk ((List.range (u8 p.params 1)).map fun i => slotBytes { t.slot (u8 p.params 0 + i) with seen := [] } 0).flatten t) := by
  have hfirst : u8 p.params 0 < 64 := by
    simp only [inR, Bool.and_eq_true, decide_eq_true_eq] at hcount
    omega
  exact (interpret_given _ given).trans (congrArg _ (checked_ok _ _ _ _ _ hlen (by simp [hfirst, hcount, hrange])))

end

/-- Settles O25: each row in the branch that its premises select, and each command taken with its parameters checked. -/
theorem signalInputsComplete : Obligations.SignalInputsComplete :=
  ⟨fun _ _ words hd hon hdom => execTdmFrameComplete_of_on words hd hon hdom,
   fun _ _ code hc hon hdom hroom => execAdcConversion_of_counted code hc hon hdom hroom,
   fun _ _ at_ _ hc hmode hdom hedge => execCaptureEdge_of_begin at_ hc hmode hdom hedge,
   fun _ _ at_ _ hc hmode hdom hedge => execCaptureEdge_of_end at_ hc hmode hdom hedge,
   fun _ _ hk hset hmode hrun hdom => execPwmPeriodStart_of_on hk hset hmode hrun hdom,
   fun _ _ _ _ _ _ given hpour hparts hcaddr hramp hramp' hvalue hparams hroom =>
     execSgePourStage_of_coefficient given hpour hparts hcaddr hramp hramp' hvalue hparams hroom,
   fun _ _ _ given hpour => execSgePourStage_of_pour given hpour,
   fun _ _ _ given hlen hpour hop => execSgePourCommit_discard given hlen hpour hop,
   fun _ _ _ given hlen hpour hop hfault => execSgePourCommit_waits given hlen hpour hop hfault,
   fun _ _ hpour hlate => execPourCopyDone_of_command hpour hlate,
   fun _ _ _ hpour hwho hlate => execPourCopyDone_of_warden hpour hwho hlate,
   fun _ core _ hdone hpour h25 h99 hramp hroom => execSioPourValue_of_room core ⟨hdone, hpour, h25, h99⟩ hramp hroom,
   fun _ core hdone hpour h25 h99 hfault => execPourCommit_of_ready core ⟨hdone, hpour, h25, h99⟩ hfault,
   fun _ core hdone hpour h25 h99 => execPourDiscard_of_taken core ⟨hdone, hpour, h25, h99⟩,
   fun _ _ _ given hlen hcls hcount hrange => (execSgeSlotRead_given given hlen hcount hrange).trans (congrArg _ (if_neg (by simpa using hcls))),
   fun _ _ _ given hlen hcls hcount hrange => (execSgeSlotRead_given given hlen hcount hrange).trans (congrArg _ (if_pos (by simpa using hcls)))⟩

end Sys2Proof.Machine
end

section
/-!
Proof of the statement on what programs OTP and what locks label blocks (26, 22 R806): the commands that program OTP keep the locks, the two lock commands keep OTP, and every other command keeps both.
-/
namespace Sys2Proof.Machine
open Sys2Proof

/-! ### What programs OTP locks no label block -/

/-- The label locks of a state: they are part of what is kept. -/
def State.locks (s : State) : List Nat := s.keep.locked

theorem locks_of_keep {s t : State} (h : t.keep = s.keep) : t.locks = s.locks := congrArg Keep.locked h

@[simp] theorem otpProgram_locks (good : Bool) (mark a : Nat) (data : Bytes) (s : State) : (otpProgram good mark a data s).locks = s.locks := by
  unfold otpProgram
  split <;> rfl

@[simp] theorem fail_locks a1 a2 a3 a4 (s : State) : (fail a1 a2 a3 a4 s).locks = s.locks := locks_of_keep (fail_keep _ _ _ _ _)
@[simp] theorem badParam_locks a1 a2 (s : State) : (badParam a1 a2 s).locks = s.locks := locks_of_keep (badParam_keep _ _ _)
@[simp] theorem complete_locks a1 a2 a3 (s : State) : (complete a1 a2 a3 s).locks = s.locks := locks_of_keep (complete_keep _ _ _ _)
@[simp] theorem ok_locks a1 (s : State) : (ok a1 s).locks = s.locks := locks_of_keep (ok_keep _ _)
@[simp] theorem waitFor_locks a1 a2 (s : State) : (waitFor a1 a2 s).locks = s.locks := locks_of_keep (waitFor_keep _ _ _)
@[simp] theorem modLcy_locks a1 (s : State) : (modLcy a1 s).locks = s.locks := locks_of_keep (modLcy_keep _ _)
@[simp] theorem putRec_locks a1 (s : State) : (putRec a1 s).locks = s.locks := locks_of_keep (putRec_keep _ _)
@[simp] theorem acceptCon_locks a1 (s : State) : (acceptCon a1 s).locks = s.locks := locks_of_keep (acceptCon_keep _ _)
@[simp] theorem unwrapFail_locks a1 a2 a3 a4 (s : State) : (unwrapFail a1 a2 a3 a4 s).locks = s.locks := locks_of_keep (unwrapFail_keep _ _ _ _ _)
@[simp] theorem recheckSlots_locks (s : State) : (recheckSlots s).locks = s.locks := locks_of_keep (recheckSlots_keep _)
@[simp] theorem otpEvent_locks a1 a2 a3 (s : State) : (otpEvent a1 a2 a3 s).locks = s.locks := locks_of_keep (otpEvent_keep _ _ _ _)
@[simp] theorem closeSession_locks a1 (s : State) : (closeSession a1 s).locks = s.locks := locks_of_keep (closeSession_keep _ _)
@[simp] theorem logEvent_locks a1 a2 a3 (s : State) : (logEvent a1 a2 a3 s).locks = s.locks := locks_of_keep (logEvent_keep _ _ _ _)
@[simp] theorem fenceDomain_locks a1 a2 a3 a4 (s : State) : (fenceDomain a1 a2 a3 a4 s).2.locks = s.locks := locks_of_keep (fenceDomain_keep _ _ _ _ _)
@[simp] theorem loseRole_locks a1 (s : State) : (loseRole a1 s).locks = s.locks := locks_of_keep (loseRole_keep _ _)
@[simp] theorem startMove_locks a1 a2 a3 a4 (s : State) : (startMove a1 a2 a3 a4 s).locks = s.locks := locks_of_keep (startMove_keep _ _ _ _ _)
@[simp] theorem modRole_locks a1 a2 (s : State) : (modRole a1 a2 s).locks = s.locks := locks_of_keep (modRole_keep _ _ _)
@[simp] theorem fenceAll_locks a1 a2 a3 (s : State) : (fenceAll a1 a2 a3 s).2.locks = s.locks := locks_of_keep (fenceAll_keep _ _ _ _)
@[simp] theorem setDomain_locks a1 a2 (s : State) : (setDomain a1 a2 s).locks = s.locks := locks_of_keep (setDomain_keep _ _ _)
@[simp] theorem partBack_locks a1 (s : State) : (partBack a1 s).locks = s.locks := locks_of_keep (partBack_keep _ _)
@[simp] theorem settleUnfenced_locks a1 (s : State) : (settleUnfenced a1 s).locks = s.locks := locks_of_keep (settleUnfenced_keep _ _)
@[simp] theorem poolRecords_locks a1 (s : State) : (poolRecords a1 s).locks = s.locks := locks_of_keep (poolRecords_keep _ _)
@[simp] theorem routePost_locks a1 (s : State) : (routePost a1 s).locks = s.locks := locks_of_keep (routePost_keep _ _)
@[simp] theorem makeSpare_locks a1 (s : State) : (makeSpare a1 s).locks = s.locks := locks_of_keep (makeSpare_keep _ _)
@[simp] theorem sched_locks a1 (s : State) : (sched a1 s).locks = s.locks := locks_of_keep (sched_keep _ _)
@[simp] theorem startRole_locks a1 (s : State) : (startRole a1 s).locks = s.locks := locks_of_keep (startRole_keep _ _)
@[simp] theorem loadCore_locks a1 a2 (s : State) : (loadCore a1 a2 s).locks = s.locks := locks_of_keep (loadCore_keep _ _ _)
@[simp] theorem modCore_locks a1 a2 (s : State) : (modCore a1 a2 s).locks = s.locks := locks_of_keep (modCore_keep _ _ _)
@[simp] theorem modWdn_locks a1 (s : State) : (modWdn a1 s).locks = s.locks := locks_of_keep (modWdn_keep _ _)
@[simp] theorem copyCore_locks a1 a2 (s : State) : (copyCore a1 a2 s).locks = s.locks := locks_of_keep (copyCore_keep _ _ _)
@[simp] theorem abortRoleCommands_locks a1 (s : State) : (abortRoleCommands a1 s).locks = s.locks := locks_of_keep (abortRoleCommands_keep _ _)
@[simp] theorem clearRole_locks a1 (s : State) : (clearRole a1 s).locks = s.locks := locks_of_keep (clearRole_keep _ _)

theorem interpret_locks (op : Nat) (f : Packet → State → State) (s : State) (h : ∀ p s, (f p s).locks = s.locks) :
    ∃ t, interpret op f s = .next t ∧ t.locks = s.locks := by
  unfold interpret
  split
  · exact ⟨_, rfl, rfl⟩
  · next p t ht =>
    have taken : t.locks = s.locks := locks_of_keep (takeCmd_keep _ _ _ _ ht)
    rw [← taken]
    repeat' split
    all_goals exact ⟨_, rfl, by simp [h]⟩

theorem checked_locks (p : Packet) (len : Nat) (fields : List (Nat × Bool)) (k : State → State) (s : State) (h : (k s).locks = s.locks) :
    (checked p len fields k s).locks = s.locks := by
  unfold checked
  repeat' split
  all_goals simp [h]

theorem forEach_locks {α : Type} (l : List α) (f : α → State → State) (s : State) (h : ∀ a s, (f a s).locks = s.locks) : (forEach l f s).locks = s.locks :=
  forEach_ind (fun t => t.locks = s.locks) l f s rfl fun a t ht => (h a t).trans ht

@[simp] theorem writeRepair_locks (n bits : Nat) (good : Bool) (s : State) : (writeRepair n bits good s).locks = s.locks := by
  simp [writeRepair]

@[simp] theorem rst_locks (s : State) (r : ResetUnit) : State.locks { s with rst := r } = s.locks := rfl
@[simp] theorem aon_locks (s : State) (a : Aon) : State.locks { s with aon := a } = s.locks := rfl
@[simp] theorem wdn_locks (s : State) (w : Wardens) : State.locks { s with wdn := w } = s.locks := rfl

@[simp] theorem cmd_locks (s : State) (c : CmdFrontEnd) : State.locks { s with cmd := c } = s.locks := rfl

/-! ### The seven commands that program OTP -/

@[simp] theorem doTransition_locks (good : Bool) (n : Nat) (p : Packet) (s : State) : (doTransition good n p s).locks = s.locks := by
  unfold doTransition
  extract_lets old bit u v w new src x
  have hv : v.locks = s.locks := by simp only [v, u]; split <;> simp
  have hx : x.locks = s.locks := by simp only [x, w]; split <;> simp [hv]
  clear_value x
  split <;> simp [hx]

@[simp] theorem writeGroup_locks (good : Bool) (g : Nat) (data : Bytes) (p : Packet) (s : State) : (writeGroup good g data p s).locks = s.locks := by
  unfold writeGroup
  repeat' split
  all_goals simp

@[simp] theorem writeHash_locks (good : Bool) (gen : Nat) (data : Bytes) (p : Packet) (s : State) : (writeHash good gen data p s).locks = s.locks := by
  unfold writeHash
  repeat' split
  all_goals simp

@[simp] theorem finishFence_locks (p : Packet) (d : Nat) (x : Option Nat) (persist good : Bool) (s : State) :
    (finishFence p d x persist good s).locks = s.locks := by
  unfold finishFence
  dsimp only
  repeat' split
  all_goals simp

theorem execLcyTransition_locks (good : Bool) (s : State) : ∃ t, execLcyTransition good s = .next t ∧ t.locks = s.locks := by
  refine interpret_locks _ _ _ fun p s => ?_
  extract_lets b to_ n now
  split
  · simp
  · refine checked_locks _ _ _ _ _ ?_
    clear_value now to_ n
    repeat' split
    all_goals simp

theorem execOtpSettingsWrite_locks (good : Bool) (s : State) : ∃ t, execOtpSettingsWrite good s = .next t ∧ t.locks = s.locks := by
  refine interpret_locks _ _ _ fun p s => ?_
  extract_lets b g gen n size data locked shape accepted
  have hacc : ∀ s, (accepted s).locks = s.locks := fun s => by simp only [accepted]; split <;> simp
  clear_value accepted shape
  split
  · simp
  split
  · simp
  refine checked_locks _ _ _ _ _ ?_
  split
  · simp
  extract_lets -lift auth
  clear_value auth
  repeat' split
  all_goals simp [hacc]

theorem execFwImageActivate_locks (good : Bool) (s : State) : ∃ t, execFwImageActivate good s = .next t ∧ t.locks = s.locks := by
  refine interpret_locks _ _ _ fun p s => ?_
  extract_lets b act zero
  refine checked_locks _ _ _ _ _ ?_
  clear_value act
  split
  · extract_lets k
    split
    · simp
    · rw [ok_locks]
      split <;> exact locks_of_keep (putRec_keep _ _)
  all_goals
    repeat' split
    all_goals simp

theorem execTrustRoll_locks (good : Bool) (s : State) : ∃ t, execTrustRoll good s = .next t ∧ t.locks = s.locks := by
  refine interpret_locks _ _ _ fun p s => ?_
  extract_lets c
  refine checked_locks _ _ _ _ _ ?_
  repeat' split
  all_goals simp +zetaDelta [apply_ite State.locks]

theorem execRprFence_locks (good : Bool) (s : State) : ∃ t, execRprFence good s = .next t ∧ t.locks = s.locks := by
  refine interpret_locks _ _ _ fun p s => ?_
  extract_lets -lift d persist force
  refine checked_locks _ _ _ _ _ ?_
  extract_lets -lift role spare pair need lastOn home
  clear_value role spare pair need lastOn home persist force d
  repeat' split
  all_goals simp +zetaDelta

theorem execRprUnfence_locks (good : Bool) (s : State) : ∃ t, execRprUnfence good s = .next t ∧ t.locks = s.locks := by
  refine interpret_locks _ _ _ fun p s => ?_
  extract_lets -lift b subject i persist answer room
  have hanswer : ∀ a b s, (answer a b s).locks = s.locks := fun a b s => complete_locks _ _ _ _
  clear_value answer room subject i persist
  refine checked_locks _ _ _ _ _ ?_
  iterate 3
    split
    · repeat' split
      all_goals simp [hanswer]
  split
  · simp
  extract_lets set slot pools src s1 s2 s3 s4 s5 note wait
  have h2 : s2.locks = s.locks := by simp [s2, s1]
  have h3 : s3.locks = s.locks := by
    simp only [s3]
    split
    · rw [forEach_locks _ _ _ fun _ _ => partBack_locks _ _, forEach_locks _ _ _ fun _ _ => setDomain_locks _ _ _, h2]
    · exact h2
  have h5 : s5.locks = s.locks := by simp [s5, s4, h3]
  have hwait : ∀ n s, (wait n s).locks = s.locks := fun n s => by
    simp only [wait]
    split <;> simp [hanswer]
  clear_value wait note s5 s4 s3 s2 s1 pools slot set
  repeat' split
  all_goals simp [hwait, h5]

theorem execRoleMoveComplete_locks (r : Nat) (good : Bool) (s : State) : ∃ t, execRoleMoveComplete r good s = .next t ∧ t.locks = s.locks := by
  unfold execRoleMoveComplete
  split
  · split
    · exact ⟨_, rfl, rfl⟩
    · extract_lets before s1 s2 s3 s4 s5 s6 cmd src s7 persist s8
      refine ⟨_, rfl, ?_⟩
      have h1 : s1.locks = s.locks := by simp only [s1]; split <;> simp
      have h5 : s5.locks = s.locks := by simp only [s5]; split <;> simp [s4, s3, s2, h1]
      have h8 : s8.locks = s.locks := by simp only [s8]; split <;> simp [s7, s6, h5]
      clear_value s8 s7 s6 s5 s4 s3 s2 s1 cmd persist before
      repeat' split
      all_goals simp +zetaDelta [h8]
  · exact ⟨_, rfl, rfl⟩

/-! ### The two commands that lock a block -/

theorem lblErr_otp (e : Nat) (s : State) : (lblErr e s).otp = s.otp := congrArg Keep.otp (lblErr_keep e s)

theorem lblAnswer_otp (bs : Bytes) (s : State) : (lblAnswer bs s).otp = s.otp := congrArg Keep.otp (lblAnswer_keep bs s)

theorem fieldTx_otp (n : Nat) (f : State → State) (s : State) (h : ∀ u, (f u).otp = u.otp) : (fieldTx n f s).otp = s.otp := by
  unfold fieldTx
  split
  · exact lblErr_otp _ _
  · exact h _

theorem fieldLock_otp (ext : Bool) (busy : Nat) (q : FieldReq) (s : State) : (fieldLock ext busy q s).otp = s.otp := by
  unfold fieldLock sized
  dsimp only
  generalize (if ext then 2 else 1 : Nat) = w
  split
  · split
    · exact lblErr_otp _ _
    · refine fieldTx_otp _ _ _ fun u => ?_
      split
      · exact lblErr_otp _ _
      · split
        · exact lblErr_otp _ _
        · exact lblAnswer_otp _ _
  · exact lblErr_otp _ _

theorem fieldRun_otp (mine : Nat → Bool) (req : Bytes) (f : FieldReq → State → State) (s : State) (h : ∀ q u, (f q u).otp = u.otp) :
    ∃ t, fieldRun mine req f s = .next t ∧ t.otp = s.otp := by
  unfold fieldRun
  extract_lets
  repeat' split
  · exact ⟨_, rfl, rfl⟩
  · exact ⟨_, rfl, rfl⟩
  · exact ⟨_, rfl, congrArg Keep.otp (whenS_keep _ _ _ (modLbl_keep (fun x => { x with tag := 0 }) _ rfl))⟩
  · exact ⟨_, rfl, rfl⟩
  · exact ⟨_, rfl, lblErr_otp _ _⟩
  · exact ⟨_, rfl, h _ _⟩

/-! ### Every command -/

/-- What a command answers keeps OTP, when the command programs none, and the locks, when it locks none. -/
def Framed (c : Instr) (s : State) : Prop :=
  ∃ t, exec c s = .next t ∧ (programsOtp c = false → t.otp = s.otp) ∧ (locksLabel c = false → t.locks = s.locks)

theorem framed_of_keep {c : Instr} {s : State} {o : Out} (heq : exec c s = o) (h : ∃ t, o = .next t ∧ t.keep = s.keep) : Framed c s := by
  obtain ⟨t, ht, hkeep⟩ := h
  exact ⟨t, heq.trans ht, fun _ => congrArg Keep.otp hkeep, fun _ => locks_of_keep hkeep⟩

theorem framed_of_otp {c : Instr} {s : State} {o : Out} (heq : exec c s = o) (hlocks : locksLabel c = true) (h : ∃ t, o = .next t ∧ t.otp = s.otp) :
    Framed c s := by
  obtain ⟨t, ht, hotp⟩ := h
  exact ⟨t, heq.trans ht, fun _ => hotp, fun hno => absurd hlocks (by simp [hno])⟩

theorem framed_of_locks {c : Instr} {s : State} {o : Out} (heq : exec c s = o) (hprograms : programsOtp c = true)
    (h : ∃ t, o = .next t ∧ t.locks = s.locks) : Framed c s := by
  obtain ⟨t, ht, hlocked⟩ := h
  exact ⟨t, heq.trans ht, fun hno => absurd hprograms (by simp [hno]), fun _ => hlocked⟩

theorem exec_framed (c : Instr) (s : State) : Framed c s := by
  cases c with
  | powerOn => exact framed_of_keep (exec_powerOn s) (execPowerOn_keep s)
  | vinOkHold => exact framed_of_keep (exec_vinOkHold s) (execVinOkHold_keep s)
  | powerUpStart => exact framed_of_keep (exec_powerUpStart s) (execPowerUpStart_keep s)
  | ibPgoodTimeout => exact framed_of_keep (exec_ibPgoodTimeout s) (execIbPgoodTimeout_keep s)
  | ibcRetry => exact framed_of_keep (exec_ibcRetry s) (execIbcRetry_keep s)
  | brownOut => exact framed_of_keep (exec_brownOut s) (execBrownOut_keep s)
  | vinLow _ => exact framed_of_keep (exec_vinLow _ s) (execVinLow_keep _ s)
  | vinOv _ _ => exact framed_of_keep (exec_vinOv _ _ s) (execVinOv_keep _ _ s)
  | pfailSet _ => exact framed_of_keep (exec_pfailSet _ s) (execPfailSet_keep _ s)
  | pfailClear _ => exact framed_of_keep (exec_pfailClear _ s) (execPfailClear_keep _ s)
  | graceTimerExpiry => exact framed_of_keep (exec_graceTimerExpiry s) (execGraceTimerExpiry_keep s)
  | holdLimitExpiry => exact framed_of_keep (exec_holdLimitExpiry s) (execHoldLimitExpiry_keep s)
  | drainEnd => exact framed_of_keep (exec_drainEnd s) (execDrainEnd_keep s)
  | waitingTransitionTaken => exact framed_of_keep (exec_waitingTransitionTaken s) (execWaitingTransitionTaken_keep s)
  | shelfEntry => exact framed_of_keep (exec_shelfEntry s) (execShelfEntry_keep s)
  | shelfRailsDown => exact framed_of_keep (exec_shelfRailsDown s) (execShelfRailsDown_keep s)
  | railFault _ _ => exact framed_of_keep (exec_railFault _ _ s) (execRailFault_keep _ _ s)
  | vcorePhaseAdd => exact framed_of_keep (exec_vcorePhaseAdd s) (execVcorePhaseAdd_keep s)
  | vcorePhaseShed _ => exact framed_of_keep (exec_vcorePhaseShed _ s) (execVcorePhaseShed_keep _ s)
  | rtcAlarmWake => exact framed_of_keep (exec_rtcAlarmWake s) (execRtcAlarmWake_keep s)
  | wakeNWake => exact framed_of_keep (exec_wakeNWake s) (execWakeNWake_keep s)
  | vbusReturnSample _ => exact framed_of_keep (exec_vbusReturnSample _ s) (execVbusReturnSample_keep _ s)
  | vinRecoveryWake => exact framed_of_keep (exec_vinRecoveryWake s) (execVinRecoveryWake_keep s)
  | domainSwitchDone _ => exact framed_of_keep (exec_domainSwitchDone _ s) (execDomainSwitchDone_keep _ s)
  | domainPowerGoodTimeout _ => exact framed_of_keep (exec_domainPowerGoodTimeout _ s) (execDomainPowerGoodTimeout_keep _ s)
  | idleGateTimeout _ => exact framed_of_keep (exec_idleGateTimeout _ s) (execIdleGateTimeout_keep _ s)
  | ddrRegionWiped _ => exact framed_of_keep (exec_ddrRegionWiped _ s) (execDdrRegionWiped_keep _ s)
  | resetNRegistered => exact framed_of_keep (exec_resetNRegistered s) (execResetNRegistered_keep s)
  | resetNReleased _ => exact framed_of_keep (exec_resetNReleased _ s) (execResetNReleased_keep _ s)
  | hkRoundStart => exact framed_of_keep (exec_hkRoundStart s) (execHkRoundStart_keep s)
  | hkConversion _ _ => exact framed_of_keep (exec_hkConversion _ _ s) (execHkConversion_keep _ _ s)
  | hkPublication _ _ _ => exact framed_of_keep (exec_hkPublication _ _ _ s) (execHkPublication_keep _ _ _ s)
  | trimSlewStep => exact framed_of_keep (exec_trimSlewStep s) (execTrimSlewStep_keep s)
  | clockLoss _ => exact framed_of_keep (exec_clockLoss _ s) (execClockLoss_keep _ s)
  | refclkLost _ => exact framed_of_keep (exec_refclkLost _ s) (execRefclkLost_keep _ s)
  | refclkReturn _ => exact framed_of_keep (exec_refclkReturn _ s) (execRefclkReturn_keep _ s)
  | ddrPllUnlock _ => exact framed_of_keep (exec_ddrPllUnlock _ s) (execDdrPllUnlock_keep _ s)
  | ddrPllRelockTimeout _ _ => exact framed_of_keep (exec_ddrPllRelockTimeout _ _ s) (execDdrPllRelockTimeout_keep _ _ s)
  | commandTimeout _ => exact framed_of_keep (exec_commandTimeout _ s) (execCommandTimeout_keep _ s)
  | throttleEnd _ _ _ => exact framed_of_keep (exec_throttleEnd _ _ _ s) (execThrottleEnd_keep _ _ _ s)
  | chainTimeout _ _ _ => exact framed_of_keep (exec_chainTimeout _ _ _ s) (execChainTimeout_keep _ _ _ s)
  | dcwGo _ => exact framed_of_keep (exec_dcwGo _ s) (execDcwGo_keep _ s)
  | resultCountingRead _ _ => exact framed_of_keep (exec_resultCountingRead _ _ s) (execResultCountingRead_keep _ _ s)
  | devIdentify => exact framed_of_keep (exec_devIdentify s) (execDevIdentify_keep s)
  | devReset => exact framed_of_keep (exec_devReset s) (execDevReset_keep s)
  | devResetWStart _ => exact framed_of_keep (exec_devResetWStart _ s) (execDevResetWStart_keep _ s)
  | logRead => exact framed_of_keep (exec_logRead s) (execLogRead_keep s)
  | devEcho => exact framed_of_keep (exec_devEcho s) (execDevEcho_keep s)
  | hkpStatus => exact framed_of_keep (exec_hkpStatus s) (execHkpStatus_keep s)
  | hkpThresholdsSet => exact framed_of_keep (exec_hkpThresholdsSet s) (execHkpThresholdsSet_keep s)
  | clkStatus => exact framed_of_keep (exec_clkStatus s) (execClkStatus_keep s)
  | pwrStateGet => exact framed_of_keep (exec_pwrStateGet s) (execPwrStateGet_keep s)
  | pwrStateSet => exact framed_of_keep (exec_pwrStateSet s) (execPwrStateSet_keep s)
  | shelfReplyDelivered => exact framed_of_keep (exec_shelfReplyDelivered s) (execShelfReplyDelivered_keep s)
  | pwrDomainGet => exact framed_of_keep (exec_pwrDomainGet s) (execPwrDomainGet_keep s)
  | pwrDomainSet => exact framed_of_keep (exec_pwrDomainSet s) (execPwrDomainSet_keep s)
  | pwrConverterCfg => exact framed_of_keep (exec_pwrConverterCfg s) (execPwrConverterCfg_keep s)
  | rtcGet => exact framed_of_keep (exec_rtcGet s) (execRtcGet_keep s)
  | rtcSet => exact framed_of_keep (exec_rtcSet s) (execRtcSet_keep s)
  | perstNAssert => exact framed_of_keep (exec_perstNAssert s) (execPerstNAssert_keep s)
  | perstNDeassert => exact framed_of_keep (exec_perstNDeassert s) (execPerstNDeassert_keep s)
  | hotResetReceived => exact framed_of_keep (exec_hotResetReceived s) (execHotResetReceived_keep s)
  | linkDlDown => exact framed_of_keep (exec_linkDlDown s) (execLinkDlDown_keep s)
  | linkTrainingStart => exact framed_of_keep (exec_linkTrainingStart s) (execLinkTrainingStart_keep s)
  | configRequest _ _ _ => exact framed_of_keep (exec_configRequest _ _ _ s) (execConfigRequest_keep _ _ _ s)
  | flrStart _ => exact framed_of_keep (exec_flrStart _ s) (execFlrStart_keep _ s)
  | flrComplete _ => exact framed_of_keep (exec_flrComplete _ s) (execFlrComplete_keep _ s)
  | vfEnableClear => exact framed_of_keep (exec_vfEnableClear s) (execVfEnableClear_keep s)
  | dmaReadCompletion _ _ => exact framed_of_keep (exec_dmaReadCompletion _ _ s) (execDmaReadCompletion_keep _ _ s)
  | completionTimeout _ => exact framed_of_keep (exec_completionTimeout _ s) (execCompletionTimeout_keep _ s)
  | atsInvalidation _ _ _ => exact framed_of_keep (exec_atsInvalidation _ _ _ s) (execAtsInvalidation_keep _ _ _ s)
  | msixPendingSend _ _ => exact framed_of_keep (exec_msixPendingSend _ _ s) (execMsixPendingSend_keep _ _ s)
  | mgtEventWrite _ _ => exact framed_of_keep (exec_mgtEventWrite _ _ s) (execMgtEventWrite_keep _ _ s)
  | mgtDmafCountRead _ => exact framed_of_keep (exec_mgtDmafCountRead _ s) (execMgtDmafCountRead_keep _ s)
  | tntCharterSet => exact framed_of_keep (exec_tntCharterSet s) (execTntCharterSet_keep s)
  | tntCharterGet => exact framed_of_keep (exec_tntCharterGet s) (execTntCharterGet_keep s)
  | tntStateSet => exact framed_of_keep (exec_tntStateSet s) (execTntStateSet_keep s)
  | tntReset => exact framed_of_keep (exec_tntReset s) (execTntReset_keep s)
  | tntVfBind => exact framed_of_keep (exec_tntVfBind s) (execTntVfBind_keep s)
  | qenDb _ _ _ => exact framed_of_keep (exec_qenDb _ _ _ s) (execQenDb_keep _ _ _ s)
  | qenCqDb _ _ _ => exact framed_of_keep (exec_qenCqDb _ _ _ s) (execQenCqDb_keep _ _ _ s)
  | pollTimerExpiry _ => exact framed_of_keep (exec_pollTimerExpiry _ s) (execPollTimerExpiry_keep _ s)
  | pollReadCompletion _ _ _ => exact framed_of_keep (exec_pollReadCompletion _ _ _ s) (execPollReadCompletion_keep _ _ _ s)
  | fetchIssue _ => exact framed_of_keep (exec_fetchIssue _ s) (execFetchIssue_keep _ s)
  | fetchReadFailed _ => exact framed_of_keep (exec_fetchReadFailed _ s) (execFetchReadFailed_keep _ s)
  | entryNop _ _ => exact framed_of_keep (exec_entryNop _ _ s) (execEntryNop_keep _ _ s)
  | entryPacket _ _ _ => exact framed_of_keep (exec_entryPacket _ _ _ s) (execEntryPacket_keep _ _ _ s)
  | entryTx _ _ _ => exact framed_of_keep (exec_entryTx _ _ _ s) (execEntryTx_keep _ _ _ s)
  | entryRxPost _ _ => exact framed_of_keep (exec_entryRxPost _ _ s) (execEntryRxPost_keep _ _ s)
  | moderationTimerExpiry _ => exact framed_of_keep (exec_moderationTimerExpiry _ s) (execModerationTimerExpiry_keep _ s)
  | ringCreate => exact framed_of_keep (exec_ringCreate s) (execRingCreate_keep s)
  | ringDestroy => exact framed_of_keep (exec_ringDestroy s) (execRingDestroy_keep s)
  | ringDrained _ => exact framed_of_keep (exec_ringDrained _ s) (execRingDrained_keep _ s)
  | ringNotifySet => exact framed_of_keep (exec_ringNotifySet s) (execRingNotifySet_keep s)
  | cadWAlloc _ _ => exact framed_of_keep (exec_cadWAlloc _ _ s) (execCadWAlloc_keep _ _ s)
  | cadWFree _ => exact framed_of_keep (exec_cadWFree _ s) (execCadWFree_keep _ s)
  | waitingAllocServed => exact framed_of_keep (exec_waitingAllocServed s) (execWaitingAllocServed_keep s)
  | engineWaitTimeout _ => exact framed_of_keep (exec_engineWaitTimeout _ s) (execEngineWaitTimeout_keep _ s)
  | cacheRefill _ => exact framed_of_keep (exec_cacheRefill _ s) (execCacheRefill_keep _ s)
  | caddyWipeDone _ => exact framed_of_keep (exec_caddyWipeDone _ s) (execCaddyWipeDone_keep _ s)
  | cadPoolCreate => exact framed_of_keep (exec_cadPoolCreate s) (execCadPoolCreate_keep s)
  | cadPoolDestroy => exact framed_of_keep (exec_cadPoolDestroy s) (execCadPoolDestroy_keep s)
  | poolReleased _ => exact framed_of_keep (exec_poolReleased _ s) (execPoolReleased_keep _ s)
  | cadPoolStatus => exact framed_of_keep (exec_cadPoolStatus s) (execCadPoolStatus_keep s)
  | frameReceived _ _ _ _ => exact framed_of_keep (exec_frameReceived _ _ _ _ s) (execFrameReceived_keep _ _ _ _ s)
  | pauseTimeExpiry _ _ => exact framed_of_keep (exec_pauseTimeExpiry _ _ s) (execPauseTimeExpiry_keep _ _ s)
  | pauseGeneration _ => exact framed_of_keep (exec_pauseGeneration _ s) (execPauseGeneration_keep _ s)
  | pauseRefresh _ => exact framed_of_keep (exec_pauseRefresh _ s) (execPauseRefresh_keep _ s)
  | frameTransmit _ => exact framed_of_keep (exec_frameTransmit _ s) (execFrameTransmit_keep _ s)
  | anComplete _ _ _ _ _ => exact framed_of_keep (exec_anComplete _ _ _ _ _ s) (execAnComplete_keep _ _ _ _ _ s)
  | anRestart _ => exact framed_of_keep (exec_anRestart _ s) (execAnRestart_keep _ s)
  | portLinkChange _ _ => exact framed_of_keep (exec_portLinkChange _ _ s) (execPortLinkChange_keep _ _ s)
  | lldpTimer _ => exact framed_of_keep (exec_lldpTimer _ s) (execLldpTimer_keep _ s)
  | lacpduReceived _ _ => exact framed_of_keep (exec_lacpduReceived _ _ s) (execLacpduReceived_keep _ _ s)
  | lacpPeriodic _ => exact framed_of_keep (exec_lacpPeriodic _ s) (execLacpPeriodic_keep _ s)
  | parkWindowEnd _ => exact framed_of_keep (exec_parkWindowEnd _ s) (execParkWindowEnd_keep _ s)
  | parkDrainDone _ => exact framed_of_keep (exec_parkDrainDone _ s) (execParkDrainDone_keep _ s)
  | deepPendingEnd _ => exact framed_of_keep (exec_deepPendingEnd _ s) (execDeepPendingEnd_keep _ s)
  | memberActive _ => exact framed_of_keep (exec_memberActive _ s) (execMemberActive_keep _ s)
  | wakeLate _ => exact framed_of_keep (exec_wakeLate _ s) (execWakeLate_keep _ s)
  | failedMemberRetry _ => exact framed_of_keep (exec_failedMemberRetry _ s) (execFailedMemberRetry_keep _ s)
  | eeeTlvExpiry _ => exact framed_of_keep (exec_eeeTlvExpiry _ s) (execEeeTlvExpiry_keep _ s)
  | portModeSet => exact framed_of_keep (exec_portModeSet s) (execPortModeSet_keep s)
  | portStatus => exact framed_of_keep (exec_portStatus s) (execPortStatus_keep s)
  | portPauseSet => exact framed_of_keep (exec_portPauseSet s) (execPortPauseSet_keep s)
  | portParkSet => exact framed_of_keep (exec_portParkSet s) (execPortParkSet_keep s)
  | switchLookup _ => exact framed_of_keep (exec_switchLookup _ s) (execSwitchLookup_keep _ s)
  | verdictArrival _ => exact framed_of_keep (exec_verdictArrival _ s) (execVerdictArrival_keep _ s)
  | swxTableWrite => exact framed_of_keep (exec_swxTableWrite s) (execSwxTableWrite_keep s)
  | swxTableCommit => exact framed_of_keep (exec_swxTableCommit s) (execSwxTableCommit_keep s)
  | swxMirrorSet => exact framed_of_keep (exec_swxMirrorSet s) (execSwxMirrorSet_keep s)
  | pointServe _ => exact framed_of_keep (exec_pointServe _ s) (execPointServe_keep _ s)
  | schWeightsSet => exact framed_of_keep (exec_schWeightsSet s) (execSchWeightsSet_keep s)
  | schLimitsSet => exact framed_of_keep (exec_schLimitsSet s) (execSchLimitsSet_keep s)
  | cryptoItemDone _ => exact framed_of_keep (exec_cryptoItemDone _ s) (execCryptoItemDone_keep _ s)
  | entryXtsEnc _ _ _ => exact framed_of_keep (exec_entryXtsEnc _ _ _ s) (execEntryXtsEnc_keep _ _ _ s)
  | entryXtsDec _ _ _ => exact framed_of_keep (exec_entryXtsDec _ _ _ s) (execEntryXtsDec_keep _ _ _ s)
  | drbgReseed => exact framed_of_keep (exec_drbgReseed s) (execDrbgReseed_keep s)
  | drbgHealthFailure _ => exact framed_of_keep (exec_drbgHealthFailure _ s) (execDrbgHealthFailure_keep _ s)
  | keyLoad => exact framed_of_keep (exec_keyLoad s) (execKeyLoad_keep s)
  | keyErase => exact framed_of_keep (exec_keyErase s) (execKeyErase_keep s)
  | keyKekSet => exact framed_of_keep (exec_keyKekSet s) (execKeyKekSet_keep s)
  | crySaAdd => exact framed_of_keep (exec_crySaAdd s) (execCrySaAdd_keep s)
  | crySaDel => exact framed_of_keep (exec_crySaDel s) (execCrySaDel_keep s)
  | drbgStatus => exact framed_of_keep (exec_drbgStatus s) (execDrbgStatus_keep s)
  | entryConnAttach _ _ _ => exact framed_of_keep (exec_entryConnAttach _ _ _ s) (execEntryConnAttach_keep _ _ _ s)
  | entryConnDetach _ _ _ => exact framed_of_keep (exec_entryConnDetach _ _ _ s) (execEntryConnDetach_keep _ _ _ s)
  | detachAcked _ => exact framed_of_keep (exec_detachAcked _ s) (execDetachAcked_keep _ s)
  | detachTimeout _ => exact framed_of_keep (exec_detachTimeout _ s) (execDetachTimeout_keep _ s)
  | entryConnRekey _ _ _ => exact framed_of_keep (exec_entryConnRekey _ _ _ s) (execEntryConnRekey_keep _ _ _ s)
  | entryStoPost _ _ _ => exact framed_of_keep (exec_entryStoPost _ _ _ s) (execEntryStoPost_keep _ _ _ s)
  | entryTgtResp _ _ _ => exact framed_of_keep (exec_entryTgtResp _ _ _ s) (execEntryTgtResp_keep _ _ _ s)
  | entryIniCmd _ _ _ => exact framed_of_keep (exec_entryIniCmd _ _ _ s) (execEntryIniCmd_keep _ _ _ s)
  | tcpSegmentReceived _ => exact framed_of_keep (exec_tcpSegmentReceived _ s) (execTcpSegmentReceived_keep _ s)
  | retransmissionTimeout _ => exact framed_of_keep (exec_retransmissionTimeout _ s) (execRetransmissionTimeout_keep _ s)
  | capsuleCmd _ => exact framed_of_keep (exec_capsuleCmd _ s) (execCapsuleCmd_keep _ s)
  | capsuleResp _ => exact framed_of_keep (exec_capsuleResp _ s) (execCapsuleResp_keep _ s)
  | h2cData _ => exact framed_of_keep (exec_h2cData _ s) (execH2cData_keep _ s)
  | c2hData _ => exact framed_of_keep (exec_c2hData _ s) (execC2hData_keep _ s)
  | termReq _ => exact framed_of_keep (exec_termReq _ s) (execTermReq_keep _ s)
  | rocePacketReceived _ => exact framed_of_keep (exec_rocePacketReceived _ s) (execRocePacketReceived_keep _ s)
  | cnpReceived _ => exact framed_of_keep (exec_cnpReceived _ s) (execCnpReceived_keep _ s)
  | roceRateRecovery _ => exact framed_of_keep (exec_roceRateRecovery _ s) (execRoceRateRecovery_keep _ s)
  | driveSubmit _ => exact framed_of_keep (exec_driveSubmit _ s) (execDriveSubmit_keep _ s)
  | driveCqPoll _ _ _ _ => exact framed_of_keep (exec_driveCqPoll _ _ _ _ s) (execDriveCqPoll_keep _ _ _ _ s)
  | driveTimeout _ _ => exact framed_of_keep (exec_driveTimeout _ _ s) (execDriveTimeout_keep _ _ s)
  | stoTargetCfg => exact framed_of_keep (exec_stoTargetCfg s) (execStoTargetCfg_keep s)
  | stoNsSet => exact framed_of_keep (exec_stoNsSet s) (execStoNsSet_keep s)
  | stoConnStatus => exact framed_of_keep (exec_stoConnStatus s) (execStoConnStatus_keep s)
  | entryFixEncode _ _ _ => exact framed_of_keep (exec_entryFixEncode _ _ _ s) (execEntryFixEncode_keep _ _ _ s)
  | fixVerifyEntry _ _ _ => exact framed_of_keep (exec_fixVerifyEntry _ _ _ s) (execFixVerifyEntry_keep _ _ _ s)
  | fixRepairEntry _ _ _ => exact framed_of_keep (exec_fixRepairEntry _ _ _ s) (execFixRepairEntry_keep _ _ _ s)
  | entryFixMigrate _ _ _ => exact framed_of_keep (exec_entryFixMigrate _ _ _ s) (execEntryFixMigrate_keep _ _ _ s)
  | fixJobDone _ _ => exact framed_of_keep (exec_fixJobDone _ _ s) (execFixJobDone_keep _ _ s)
  | scrubStripe _ => exact framed_of_keep (exec_scrubStripe _ s) (execScrubStripe_keep _ s)
  | fixVerify => exact framed_of_keep (exec_fixVerify s) (execFixVerify_keep s)
  | fixRepair => exact framed_of_keep (exec_fixRepair s) (execFixRepair_keep s)
  | fixScrubSet => exact framed_of_keep (exec_fixScrubSet s) (execFixScrubSet_keep s)
  | fixRsCfg => exact framed_of_keep (exec_fixRsCfg s) (execFixRsCfg_keep s)
  | tickBoundary => exact framed_of_keep (exec_tickBoundary s) (execTickBoundary_keep s)
  | frameSyncEdge _ => exact framed_of_keep (exec_frameSyncEdge _ s) (execFrameSyncEdge_keep _ s)
  | missedFrame => exact framed_of_keep (exec_missedFrame s) (execMissedFrame_keep s)
  | sgeNop => exact framed_of_keep (exec_sgeNop s) (execSgeNop_keep s)
  | sgeClr => exact framed_of_keep (exec_sgeClr s) (execSgeClr_keep s)
  | sgeMov => exact framed_of_keep (exec_sgeMov s) (execSgeMov_keep s)
  | sgeAdd => exact framed_of_keep (exec_sgeAdd s) (execSgeAdd_keep s)
  | sgeSub => exact framed_of_keep (exec_sgeSub s) (execSgeSub_keep s)
  | sgeNeg => exact framed_of_keep (exec_sgeNeg s) (execSgeNeg_keep s)
  | sgeAbs => exact framed_of_keep (exec_sgeAbs s) (execSgeAbs_keep s)
  | sgeMin => exact framed_of_keep (exec_sgeMin s) (execSgeMin_keep s)
  | sgeMax => exact framed_of_keep (exec_sgeMax s) (execSgeMax_keep s)
  | sgeAsh => exact framed_of_keep (exec_sgeAsh s) (execSgeAsh_keep s)
  | sgeCsel => exact framed_of_keep (exec_sgeCsel s) (execSgeCsel_keep s)
  | sgeClamp => exact framed_of_keep (exec_sgeClamp s) (execSgeClamp_keep s)
  | sgeLdi => exact framed_of_keep (exec_sgeLdi s) (execSgeLdi_keep s)
  | sgeLdc => exact framed_of_keep (exec_sgeLdc s) (execSgeLdc_keep s)
  | sgeRdd => exact framed_of_keep (exec_sgeRdd s) (execSgeRdd_keep s)
  | sgeWrd => exact framed_of_keep (exec_sgeWrd s) (execSgeWrd_keep s)
  | sgeMac => exact framed_of_keep (exec_sgeMac s) (execSgeMac_keep s)
  | sgeMaca => exact framed_of_keep (exec_sgeMaca s) (execSgeMaca_keep s)
  | sgeMula => exact framed_of_keep (exec_sgeMula s) (execSgeMula_keep s)
  | sgeMulab => exact framed_of_keep (exec_sgeMulab s) (execSgeMulab_keep s)
  | sgeIn => exact framed_of_keep (exec_sgeIn s) (execSgeIn_keep s)
  | sgeOut => exact framed_of_keep (exec_sgeOut s) (execSgeOut_keep s)
  | sgeRes => exact framed_of_keep (exec_sgeRes s) (execSgeRes_keep s)
  | sgeRep => exact framed_of_keep (exec_sgeRep s) (execSgeRep_keep s)
  | sgeProgramLoad => exact framed_of_keep (exec_sgeProgramLoad s) (execSgeProgramLoad_keep s)
  | sgeProgramSwap => exact framed_of_keep (exec_sgeProgramSwap s) (execSgeProgramSwap_keep s)
  | sgeTickSet => exact framed_of_keep (exec_sgeTickSet s) (execSgeTickSet_keep s)
  | sgeStrayCountRead _ => exact framed_of_keep (exec_sgeStrayCountRead _ s) (execSgeStrayCountRead_keep _ s)
  | sgeMissCountRead _ => exact framed_of_keep (exec_sgeMissCountRead _ s) (execSgeMissCountRead_keep _ s)
  | tdmFrameComplete _ _ => exact framed_of_keep (exec_tdmFrameComplete _ _ s) (execTdmFrameComplete_keep _ _ s)
  | adcConversion _ _ => exact framed_of_keep (exec_adcConversion _ _ s) (execAdcConversion_keep _ _ s)
  | captureEdge _ _ _ => exact framed_of_keep (exec_captureEdge _ _ _ s) (execCaptureEdge_keep _ _ _ s)
  | pwmPeriodStart _ => exact framed_of_keep (exec_pwmPeriodStart _ s) (execPwmPeriodStart_keep _ s)
  | pourCopyDone => exact framed_of_keep (exec_pourCopyDone s) (execPourCopyDone_keep s)
  | sioPourValue _ _ => exact framed_of_keep (exec_sioPourValue _ _ s) (execSioPourValue_keep _ _ s)
  | pourCommit _ => exact framed_of_keep (exec_pourCommit _ s) (execPourCommit_keep _ s)
  | pourDiscard _ => exact framed_of_keep (exec_pourDiscard _ s) (execPourDiscard_keep _ s)
  | sgePourStage => exact framed_of_keep (exec_sgePourStage s) (execSgePourStage_keep s)
  | sgePourCommit => exact framed_of_keep (exec_sgePourCommit s) (execSgePourCommit_keep s)
  | sgeSlotRead => exact framed_of_keep (exec_sgeSlotRead s) (execSgeSlotRead_keep s)
  | fenAdd _ => exact framed_of_keep (exec_fenAdd _ s) (execFenAdd_keep _ s)
  | fenSub _ => exact framed_of_keep (exec_fenSub _ s) (execFenSub_keep _ s)
  | fenAnd _ => exact framed_of_keep (exec_fenAnd _ s) (execFenAnd_keep _ s)
  | fenOr _ => exact framed_of_keep (exec_fenOr _ s) (execFenOr_keep _ s)
  | fenXor _ => exact framed_of_keep (exec_fenXor _ s) (execFenXor_keep _ s)
  | fenSlt _ => exact framed_of_keep (exec_fenSlt _ s) (execFenSlt_keep _ s)
  | fenSltu _ => exact framed_of_keep (exec_fenSltu _ s) (execFenSltu_keep _ s)
  | fenMul _ => exact framed_of_keep (exec_fenMul _ s) (execFenMul_keep _ s)
  | fenMulhu _ => exact framed_of_keep (exec_fenMulhu _ s) (execFenMulhu_keep _ s)
  | fenShli _ => exact framed_of_keep (exec_fenShli _ s) (execFenShli_keep _ s)
  | fenShri _ => exact framed_of_keep (exec_fenShri _ s) (execFenShri_keep _ s)
  | fenSari _ => exact framed_of_keep (exec_fenSari _ s) (execFenSari_keep _ s)
  | fenBeq _ => exact framed_of_keep (exec_fenBeq _ s) (execFenBeq_keep _ s)
  | fenBne _ => exact framed_of_keep (exec_fenBne _ s) (execFenBne_keep _ s)
  | fenBlt _ => exact framed_of_keep (exec_fenBlt _ s) (execFenBlt_keep _ s)
  | fenBge _ => exact framed_of_keep (exec_fenBge _ s) (execFenBge_keep _ s)
  | fenBltu _ => exact framed_of_keep (exec_fenBltu _ s) (execFenBltu_keep _ s)
  | fenBgeu _ => exact framed_of_keep (exec_fenBgeu _ s) (execFenBgeu_keep _ s)
  | fenNot _ => exact framed_of_keep (exec_fenNot _ s) (execFenNot_keep _ s)
  | fenNeg _ => exact framed_of_keep (exec_fenNeg _ s) (execFenNeg_keep _ s)
  | fenJr _ => exact framed_of_keep (exec_fenJr _ s) (execFenJr_keep _ s)
  | fenCallr _ => exact framed_of_keep (exec_fenCallr _ s) (execFenCallr_keep _ s)
  | fenRet _ => exact framed_of_keep (exec_fenRet _ s) (execFenRet_keep _ s)
  | fenPush _ => exact framed_of_keep (exec_fenPush _ s) (execFenPush_keep _ s)
  | fenPop _ => exact framed_of_keep (exec_fenPop _ s) (execFenPop_keep _ s)
  | fenYield _ => exact framed_of_keep (exec_fenYield _ s) (execFenYield_keep _ s)
  | fenWait _ => exact framed_of_keep (exec_fenWait _ s) (execFenWait_keep _ s)
  | fenExit _ => exact framed_of_keep (exec_fenExit _ s) (execFenExit_keep _ s)
  | fenTrap _ => exact framed_of_keep (exec_fenTrap _ s) (execFenTrap_keep _ s)
  | fenAddi _ => exact framed_of_keep (exec_fenAddi _ s) (execFenAddi_keep _ s)
  | fenAndi _ => exact framed_of_keep (exec_fenAndi _ s) (execFenAndi_keep _ s)
  | fenOri _ => exact framed_of_keep (exec_fenOri _ s) (execFenOri_keep _ s)
  | fenXori _ => exact framed_of_keep (exec_fenXori _ s) (execFenXori_keep _ s)
  | fenSlti _ => exact framed_of_keep (exec_fenSlti _ s) (execFenSlti_keep _ s)
  | fenSltiu _ => exact framed_of_keep (exec_fenSltiu _ s) (execFenSltiu_keep _ s)
  | fenLd _ => exact framed_of_keep (exec_fenLd _ s) (execFenLd_keep _ s)
  | fenSt _ => exact framed_of_keep (exec_fenSt _ s) (execFenSt_keep _ s)
  | fenLdp _ => exact framed_of_keep (exec_fenLdp _ s) (execFenLdp_keep _ s)
  | fenXld _ => exact framed_of_keep (exec_fenXld _ s) (execFenXld_keep _ s)
  | fenXst _ => exact framed_of_keep (exec_fenXst _ s) (execFenXst_keep _ s)
  | deviceAccessComplete _ => exact framed_of_keep (exec_deviceAccessComplete _ s) (execDeviceAccessComplete_keep _ s)
  | deviceAccessTimeout _ => exact framed_of_keep (exec_deviceAccessTimeout _ s) (execDeviceAccessTimeout_keep _ s)
  | fenRdl _ => exact framed_of_keep (exec_fenRdl _ s) (execFenRdl_keep _ s)
  | fenWrl _ => exact framed_of_keep (exec_fenWrl _ s) (execFenWrl_keep _ s)
  | fenJmp _ => exact framed_of_keep (exec_fenJmp _ s) (execFenJmp_keep _ s)
  | fenCall _ => exact framed_of_keep (exec_fenCall _ s) (execFenCall_keep _ s)
  | timeSliceExpiry _ => exact framed_of_keep (exec_timeSliceExpiry _ s) (execTimeSliceExpiry_keep _ s)
  | eventPost _ _ _ => exact framed_of_keep (exec_eventPost _ _ _ s) (execEventPost_keep _ _ _ s)
  | taskCreate _ _ _ _ _ _ => exact framed_of_keep (exec_taskCreate _ _ _ _ _ _ s) (execTaskCreate_keep _ _ _ _ _ _ s)
  | taskCancel _ _ _ => exact framed_of_keep (exec_taskCancel _ _ _ s) (execTaskCancel_keep _ _ _ s)
  | wdnEvpost _ _ _ _ => exact framed_of_keep (exec_wdnEvpost _ _ _ _ s) (execWdnEvpost_keep _ _ _ _ s)
  | wdnWdogKick _ => exact framed_of_keep (exec_wdnWdogKick _ s) (execWdnWdogKick_keep _ s)
  | wdnEvdropRead _ => exact framed_of_keep (exec_wdnEvdropRead _ s) (execWdnEvdropRead_keep _ s)
  | timerArm _ _ _ => exact framed_of_keep (exec_timerArm _ _ _ s) (execTimerArm_keep _ _ _ s)
  | timerExpiry _ _ => exact framed_of_keep (exec_timerExpiry _ _ s) (execTimerExpiry_keep _ _ s)
  | watchdogExpiry _ _ => exact framed_of_keep (exec_watchdogExpiry _ _ s) (execWatchdogExpiry_keep _ _ s)
  | lckAcq _ _ => exact framed_of_keep (exec_lckAcq _ _ s) (execLckAcq_keep _ _ s)
  | lckRel _ _ => exact framed_of_keep (exec_lckRel _ _ s) (execLckRel_keep _ _ s)
  | batScan _ _ _ _ => exact framed_of_keep (exec_batScan _ _ _ _ s) (execBatScan_keep _ _ _ _ s)
  | coulombSample _ => exact framed_of_keep (exec_coulombSample _ s) (execCoulombSample_keep _ s)
  | ocd _ => exact framed_of_keep (exec_ocd _ s) (execOcd_keep _ s)
  | openWireTest _ => exact framed_of_keep (exec_openWireTest _ s) (execOpenWireTest_keep _ s)
  | openWirePeriod => exact framed_of_keep (exec_openWirePeriod s) (execOpenWirePeriod_keep s)
  | restReached => exact framed_of_keep (exec_restReached s) (execRestReached_keep s)
  | rebaseEvaluation => exact framed_of_keep (exec_rebaseEvaluation s) (execRebaseEvaluation_keep s)
  | chargeUpdate _ => exact framed_of_keep (exec_chargeUpdate _ s) (execChargeUpdate_keep _ s)
  | chargerRetry _ => exact framed_of_keep (exec_chargerRetry _ s) (execChargerRetry_keep _ s)
  | batStatus => exact framed_of_keep (exec_batStatus s) (execBatStatus_keep s)
  | batLimitsSet => exact framed_of_keep (exec_batLimitsSet s) (execBatLimitsSet_keep s)
  | batOpenWireTest => exact framed_of_keep (exec_batOpenWireTest s) (execBatOpenWireTest_keep s)
  | batChargerSet => exact framed_of_keep (exec_batChargerSet s) (execBatChargerSet_keep s)
  | pltSetpointSet => exact framed_of_keep (exec_pltSetpointSet s) (execPltSetpointSet_keep s)
  | setpointLegCommit _ => exact framed_of_keep (exec_setpointLegCommit _ s) (execSetpointLegCommit_keep _ s)
  | pltStatus => exact framed_of_keep (exec_pltStatus s) (execPltStatus_keep s)
  | pltStop => exact framed_of_keep (exec_pltStop s) (execPltStop_keep s)
  | stopCtlAssert => exact framed_of_keep (exec_stopCtlAssert s) (execStopCtlAssert_keep s)
  | stopCtlRelease _ => exact framed_of_keep (exec_stopCtlRelease _ s) (execStopCtlRelease_keep _ s)
  | canCfg => exact framed_of_keep (exec_canCfg s) (execCanCfg_keep s)
  | canFrameReceived _ _ _ _ _ _ _ => exact framed_of_keep (exec_canFrameReceived _ _ _ _ _ _ _ s) (execCanFrameReceived_keep _ _ _ _ _ _ _ s)
  | canTxDone => exact framed_of_keep (exec_canTxDone s) (execCanTxDone_keep s)
  | canErrorStateChange _ _ => exact framed_of_keep (exec_canErrorStateChange _ _ s) (execCanErrorStateChange_keep _ _ s)
  | canRecovered => exact framed_of_keep (exec_canRecovered s) (execCanRecovered_keep s)
  | canTxreq _ _ => exact framed_of_keep (exec_canTxreq _ _ s) (execCanTxreq_keep _ _ s)
  | canTxabort _ _ => exact framed_of_keep (exec_canTxabort _ _ s) (execCanTxabort_keep _ _ s)
  | canRecover => exact framed_of_keep (exec_canRecover s) (execCanRecover_keep s)
  | canRxLostRead _ => exact framed_of_keep (exec_canRxLostRead _ s) (execCanRxLostRead_keep _ s)
  | carriageSegment _ _ => exact framed_of_keep (exec_carriageSegment _ _ s) (execCarriageSegment_keep _ _ s)
  | carriageGapTimeout _ => exact framed_of_keep (exec_carriageGapTimeout _ s) (execCarriageGapTimeout_keep _ s)
  | lblInventory _ => exact framed_of_keep (exec_lblInventory _ s) (execLblInventory_keep _ s)
  | lblStayQuiet _ => exact framed_of_keep (exec_lblStayQuiet _ s) (execLblStayQuiet_keep _ s)
  | lblReadSingleBlock _ _ => exact framed_of_keep (exec_lblReadSingleBlock _ _ s) (execLblReadSingleBlock_keep _ _ s)
  | lblWriteSingleBlock _ _ => exact framed_of_keep (exec_lblWriteSingleBlock _ _ s) (execLblWriteSingleBlock_keep _ _ s)
  | lblLockBlock _ _ => exact framed_of_otp (exec_lblLockBlock _ _ s) rfl (fieldRun_otp _ _ _ _ fun _ _ => fieldLock_otp _ _ _ _)
  | lblReadMultipleBlocks _ _ => exact framed_of_keep (exec_lblReadMultipleBlocks _ _ s) (execLblReadMultipleBlocks_keep _ _ s)
  | lblWriteMultipleBlocks _ _ => exact framed_of_keep (exec_lblWriteMultipleBlocks _ _ s) (execLblWriteMultipleBlocks_keep _ _ s)
  | lblSelect _ => exact framed_of_keep (exec_lblSelect _ s) (execLblSelect_keep _ s)
  | lblResetToReady _ => exact framed_of_keep (exec_lblResetToReady _ s) (execLblResetToReady_keep _ s)
  | lblGetSystemInfo _ => exact framed_of_keep (exec_lblGetSystemInfo _ s) (execLblGetSystemInfo_keep _ s)
  | lblGetMultipleBlockSecurityStatus _ _ => exact framed_of_keep (exec_lblGetMultipleBlockSecurityStatus _ _ s) (execLblGetMultipleBlockSecurityStatus_keep _ _ s)
  | extendedReadSingleBlock _ _ => exact framed_of_keep (exec_extendedReadSingleBlock _ _ s) (execExtendedReadSingleBlock_keep _ _ s)
  | extendedWriteSingleBlock _ _ => exact framed_of_keep (exec_extendedWriteSingleBlock _ _ s) (execExtendedWriteSingleBlock_keep _ _ s)
  | extendedLockSingleBlock _ _ => exact framed_of_otp (exec_extendedLockSingleBlock _ _ s) rfl (fieldRun_otp _ _ _ _ fun _ _ => fieldLock_otp _ _ _ _)
  | extendedReadMultipleBlocks _ _ => exact framed_of_keep (exec_extendedReadMultipleBlocks _ _ s) (execExtendedReadMultipleBlocks_keep _ _ s)
  | extendedWriteMultipleBlocks _ _ => exact framed_of_keep (exec_extendedWriteMultipleBlocks _ _ s) (execExtendedWriteMultipleBlocks_keep _ _ s)
  | extendedGetSystemInfo _ _ => exact framed_of_keep (exec_extendedGetSystemInfo _ _ s) (execExtendedGetSystemInfo_keep _ _ s)
  | unsupportedFieldCommand _ => exact framed_of_keep (exec_unsupportedFieldCommand _ s) (execUnsupportedFieldCommand_keep _ s)
  | mbxSubmit _ _ => exact framed_of_keep (exec_mbxSubmit _ _ s) (execMbxSubmit_keep _ _ s)
  | lblWake _ => exact framed_of_keep (exec_lblWake _ s) (execLblWake_keep _ s)
  | labelDeviceRead _ => exact framed_of_keep (exec_labelDeviceRead _ s) (execLabelDeviceRead_keep _ s)
  | labelDeviceWrite _ => exact framed_of_keep (exec_labelDeviceWrite _ s) (execLabelDeviceWrite_keep _ s)
  | labelDeferredRetry => exact framed_of_keep (exec_labelDeferredRetry s) (execLabelDeferredRetry_keep s)
  | labelDeferTimeout => exact framed_of_keep (exec_labelDeferTimeout s) (execLabelDeferTimeout_keep s)
  | labelWriteCommit => exact framed_of_keep (exec_labelWriteCommit s) (execLabelWriteCommit_keep s)
  | mirrorTimeout => exact framed_of_keep (exec_mirrorTimeout s) (execMirrorTimeout_keep s)
  | xspMasterRead _ => exact framed_of_keep (exec_xspMasterRead _ s) (execXspMasterRead_keep _ s)
  | xspMasterWrite _ => exact framed_of_keep (exec_xspMasterWrite _ s) (execXspMasterWrite_keep _ s)
  | xspMasterTransferDone _ => exact framed_of_keep (exec_xspMasterTransferDone _ s) (execXspMasterTransferDone_keep _ s)
  | xspMasterTimeout => exact framed_of_keep (exec_xspMasterTimeout s) (execXspMasterTimeout_keep s)
  | xspPktWrite _ _ => exact framed_of_keep (exec_xspPktWrite _ _ s) (execXspPktWrite_keep _ _ s)
  | xspResultRead _ _ => exact framed_of_keep (exec_xspResultRead _ _ s) (execXspResultRead_keep _ _ s)
  | xspLockAcq _ => exact framed_of_keep (exec_xspLockAcq _ s) (execXspLockAcq_keep _ s)
  | xspLockRel _ => exact framed_of_keep (exec_xspLockRel _ s) (execXspLockRel_keep _ s)
  | xspStatus _ _ => exact framed_of_keep (exec_xspStatus _ _ s) (execXspStatus_keep _ _ s)
  | xspTargetReset _ => exact framed_of_keep (exec_xspTargetReset _ s) (execXspTargetReset_keep _ s)
  | xspSelectRelease => exact framed_of_keep (exec_xspSelectRelease s) (execXspSelectRelease_keep s)
  | latticeFrameReceived _ _ _ => exact framed_of_keep (exec_latticeFrameReceived _ _ _ s) (execLatticeFrameReceived_keep _ _ _ s)
  | commandCarriage => exact framed_of_keep (exec_commandCarriage s) (execCommandCarriage_keep s)
  | latticeFrameSlot _ => exact framed_of_keep (exec_latticeFrameSlot _ s) (execLatticeFrameSlot_keep _ s)
  | symbolLockTimeout _ => exact framed_of_keep (exec_symbolLockTimeout _ s) (execSymbolLockTimeout_keep _ s)
  | trainingTimeout _ => exact framed_of_keep (exec_trainingTimeout _ s) (execTrainingTimeout_keep _ s)
  | linkRetrain _ => exact framed_of_keep (exec_linkRetrain _ s) (execLinkRetrain_keep _ s)
  | helloTimer _ => exact framed_of_keep (exec_helloTimer _ s) (execHelloTimer_keep _ s)
  | deadTimer _ => exact framed_of_keep (exec_deadTimer _ s) (execDeadTimer_keep _ s)
  | replayTimer _ => exact framed_of_keep (exec_replayTimer _ s) (execReplayTimer_keep _ s)
  | qualityWindow _ => exact framed_of_keep (exec_qualityWindow _ s) (execQualityWindow_keep _ s)
  | tunnelFrameReceived _ _ => exact framed_of_keep (exec_tunnelFrameReceived _ _ s) (execTunnelFrameReceived_keep _ _ s)
  | tunnelFlush _ => exact framed_of_keep (exec_tunnelFlush _ s) (execTunnelFlush_keep _ s)
  | lsaReceived => exact framed_of_keep (exec_lsaReceived s) (execLsaReceived_keep s)
  | lsaOriginate => exact framed_of_keep (exec_lsaOriginate s) (execLsaOriginate_keep s)
  | lsaAgeExpiry _ => exact framed_of_keep (exec_lsaAgeExpiry _ s) (execLsaAgeExpiry_keep _ s)
  | vertexClaimHeld => exact framed_of_keep (exec_vertexClaimHeld s) (execVertexClaimHeld_keep s)
  | routeRecompute => exact framed_of_keep (exec_routeRecompute s) (execRouteRecompute_keep s)
  | handoverStateReceived _ _ => exact framed_of_keep (exec_handoverStateReceived _ _ s) (execHandoverStateReceived_keep _ _ s)
  | handoverStop => exact framed_of_keep (exec_handoverStop s) (execHandoverStop_keep s)
  | handoverWorkDeadline => exact framed_of_keep (exec_handoverWorkDeadline s) (execHandoverWorkDeadline_keep s)
  | handoverStopTimeout => exact framed_of_keep (exec_handoverStopTimeout s) (execHandoverStopTimeout_keep s)
  | handoverSwitch => exact framed_of_keep (exec_handoverSwitch s) (execHandoverSwitch_keep s)
  | handoverRelease => exact framed_of_keep (exec_handoverRelease s) (execHandoverRelease_keep s)
  | latStatus => exact framed_of_keep (exec_latStatus s) (execLatStatus_keep s)
  | latVertexSet => exact framed_of_keep (exec_latVertexSet s) (execLatVertexSet_keep s)
  | latStackJoin => exact framed_of_keep (exec_latStackJoin s) (execLatStackJoin_keep s)
  | latStackLeave => exact framed_of_keep (exec_latStackLeave s) (execLatStackLeave_keep s)
  | latHandover => exact framed_of_keep (exec_latHandover s) (execLatHandover_keep s)
  | secureBoot => exact framed_of_keep (exec_secureBoot s) (execSecureBoot_keep s)
  | bootDone => exact framed_of_keep (exec_bootDone s) (execBootDone_keep s)
  | confirmTimerExpiry _ => exact framed_of_keep (exec_confirmTimerExpiry _ s) (execConfirmTimerExpiry_keep _ s)
  | lcyStateGet => exact framed_of_keep (exec_lcyStateGet s) (execLcyStateGet_keep s)
  | lcyTransition _ => exact framed_of_locks (exec_lcyTransition _ s) rfl (execLcyTransition_locks _ s)
  | transitionWStart _ => exact framed_of_keep (exec_transitionWStart _ s) (execTransitionWStart_keep _ s)
  | otpSettingsWrite _ => exact framed_of_locks (exec_otpSettingsWrite _ s) rfl (execOtpSettingsWrite_locks _ s)
  | fwImageLoad => exact framed_of_keep (exec_fwImageLoad s) (execFwImageLoad_keep s)
  | fwImageActivate _ => exact framed_of_locks (exec_fwImageActivate _ s) rfl (execFwImageActivate_locks _ s)
  | activationWStart _ => exact framed_of_keep (exec_activationWStart _ s) (execActivationWStart_keep _ s)
  | trustRoll _ => exact framed_of_locks (exec_trustRoll _ s) rfl (execTrustRoll_locks _ s)
  | rprStatus => exact framed_of_keep (exec_rprStatus s) (execRprStatus_keep s)
  | rprFence _ => exact framed_of_locks (exec_rprFence _ s) rfl (execRprFence_locks _ s)
  | rprUnfence _ => exact framed_of_locks (exec_rprUnfence _ s) rfl (execRprUnfence_locks _ s)
  | rprSpareSwap => exact framed_of_keep (exec_rprSpareSwap s) (execRprSpareSwap_keep s)
  | autoFence _ _ => exact framed_of_keep (exec_autoFence _ _ s) (execAutoFence_keep _ _ s)
  | knownAnswerTest _ _ => exact framed_of_keep (exec_knownAnswerTest _ _ s) (execKnownAnswerTest_keep _ _ s)
  | cntBankEnable => exact framed_of_keep (exec_cntBankEnable s) (execCntBankEnable_keep s)
  | cntBankDisable => exact framed_of_keep (exec_cntBankDisable s) (execCntBankDisable_keep s)
  | cntSnapshot => exact framed_of_keep (exec_cntSnapshot s) (execCntSnapshot_keep s)
  | cntRead => exact framed_of_keep (exec_cntRead s) (execCntRead_keep s)
  | jtagExtest => exact framed_of_keep (exec_jtagExtest s) (execJtagExtest_keep s)
  | jtagIdcode => exact framed_of_keep (exec_jtagIdcode s) (execJtagIdcode_keep s)
  | jtagSamplePreload => exact framed_of_keep (exec_jtagSamplePreload s) (execJtagSamplePreload_keep s)
  | jtagClamp => exact framed_of_keep (exec_jtagClamp s) (execJtagClamp_keep s)
  | jtagHighz => exact framed_of_keep (exec_jtagHighz s) (execJtagHighz_keep s)
  | jtagExtestPulse => exact framed_of_keep (exec_jtagExtestPulse s) (execJtagExtestPulse_keep s)
  | jtagExtestTrain => exact framed_of_keep (exec_jtagExtestTrain s) (execJtagExtestTrain_keep s)
  | jtagBypass => exact framed_of_keep (exec_jtagBypass s) (execJtagBypass_keep s)
  | dbgAccess => exact framed_of_keep (exec_dbgAccess s) (execDbgAccess_keep s)
  | debugDeviceRead _ _ => exact framed_of_keep (exec_debugDeviceRead _ _ s) (execDebugDeviceRead_keep _ _ s)
  | debugDeviceWrite _ _ _ => exact framed_of_keep (exec_debugDeviceWrite _ _ _ s) (execDebugDeviceWrite_keep _ _ _ s)
  | debugWardenMemoryRead _ _ _ _ => exact framed_of_keep (exec_debugWardenMemoryRead _ _ _ _ s) (execDebugWardenMemoryRead_keep _ _ _ _ s)
  | tapReset => exact framed_of_keep (exec_tapReset s) (execTapReset_keep s)
  | registerWrite _ _ _ _ => exact framed_of_keep (exec_registerWrite _ _ _ _ s) (execRegisterWrite_keep _ _ _ _ s)
  | aonPowerLoss => exact framed_of_keep (exec_aonPowerLoss s) (execAonPowerLoss_keep s)
  | vinOkLoss => exact framed_of_keep (exec_vinOkLoss s) (execVinOkLoss_keep s)
  | ibPgoodHigh _ _ _ => exact framed_of_keep (exec_ibPgoodHigh _ _ _ s) (execIbPgoodHigh_keep _ _ _ s)
  | linkDlActive _ _ _ => exact framed_of_keep (exec_linkDlActive _ _ _ s) (execLinkDlActive_keep _ _ _ s)
  | symbolLock _ => exact framed_of_keep (exec_symbolLock _ s) (execSymbolLock_keep _ s)
  | roceAckTimeout _ => exact framed_of_keep (exec_roceAckTimeout _ s) (execRoceAckTimeout_keep _ s)
  | roleMoveComplete _ _ => exact framed_of_locks (exec_roleMoveComplete _ _ s) rfl (execRoleMoveComplete_locks _ _ s)
  | ddrSpent _ _ => exact framed_of_keep (exec_ddrSpent _ _ s) (execDdrSpent_keep _ _ s)
  | readerField _ => exact framed_of_keep (exec_readerField _ s) (execReaderField_keep _ s)

/-- Settles O49: by the frame of each command. -/
theorem otpAndLockFrame : Obligations.OtpAndLockFrame := by
  intro c s t ht
  obtain ⟨u, hu, hotp, hlocks⟩ := exec_framed c s
  rw [hu] at ht
  cases ht
  exact ⟨hotp, hlocks⟩

end Sys2Proof.Machine
end

section
/-!
Proofs of the statements on the label's wake code and its field writes (ch 22): the lockout after four wrong codes (R822), and what a field
write leaves unchanged (R805-R807).
-/
namespace Sys2Proof.Machine
open Sys2Proof

/-! ### WAKE and its lockout (R821, R822) -/

section
variable {s : State} {req : Bytes} {q : FieldReq} (asked : Asked req q s) (hcode : q.code = 0xA1) (hlen : q.args.length = 4)
include asked hcode hlen

theorem execLblWake_of_asked : execLblWake req s = .next (
    if s.pmc.st == .off then lblErr 0xA2 s
    else if s.us < s.lbl.barred then lblErr 0xA4 s
    else if u32 q.args 0 != s.lblWakeCode then
      let w := s.lbl.wrong.filter (fun t => decide (s.us < t + 60000000)) ++ [s.us]
      lblErr 0xA4 (modLbl (fun x => if 4 ≤ w.length then { x with wrong := [], barred := s.us + 60000000 } else { x with wrong := w }) s)
    else if s.pmc.st == .shelf then
      if s.aon.wakeMask.testBit 3 then wakeEvent 4 3 (modLbl (fun x => { x with wokeAt := some s.aon.rtcSec.toNat }) (lblAnswer [0] s))
      else lblErr 0xA5 s
    else lblAnswer [0] s) :=
  (fieldRun_asked _ _ asked (by simp [hcode])).trans (congrArg _ (if_pos hlen))

theorem execLblWake_of_barred (hoff : s.pmc.st ≠ .off) (hbar : s.us < s.lbl.barred) : execLblWake req s = .next (lblErr 0xA4 s) := by
  rw [execLblWake_of_asked asked hcode hlen, if_neg (by simpa using hoff), if_pos hbar]

end

/-- The wrong codes of the last 60 s, the present one included. -/
def State.wrongNow (s : State) : List Nat := s.lbl.wrong.filter (fun t => decide (s.us < t + 60000000)) ++ [s.us]

/-- A wrong code while WAKE is not barred is counted, and the fourth bars it. -/
theorem WrongWake.counts {s t : State} (h : WrongWake s t) (hopen : s.lbl.barred ≤ s.us) :
    t.lbl = if 4 ≤ s.wrongNow.length then { s.lbl with wrong := [], barred := s.us + 60000000 } else { s.lbl with wrong := s.wrongNow } := by
  obtain ⟨req, q, asked, hcode, hlen, hwrong, hoff, ht⟩ := h
  rw [exec_lblWake, execLblWake_of_asked asked hcode hlen, if_neg (by simpa using hoff), if_neg (Nat.not_lt.mpr hopen),
    if_pos (by simpa using hwrong)] at ht
  cases ht
  rfl

theorem WrongWake.kept {s t : State} (h : WrongWake s t) (hopen : s.lbl.barred ≤ s.us) (hfew : s.wrongNow.length < 4) :
    t.lbl.wrong = s.wrongNow ∧ t.lbl.barred = s.lbl.barred := by
  rw [h.counts hopen, if_neg (Nat.not_le.mpr hfew)]
  exact ⟨rfl, rfl⟩

theorem WrongWake.bars {s t : State} (h : WrongWake s t) (hopen : s.lbl.barred ≤ s.us) (hfour : 4 ≤ s.wrongNow.length) :
    t.lbl.barred = s.us + 60000000 := by
  rw [h.counts hopen, if_pos hfour]

/-- While every counted code is less than 60 s old, a further one joins them. -/
theorem wrongNow_of_recent {s : State} (u : Nat) (h : ∀ t ∈ s.lbl.wrong, u < t + 60000000) :
    State.wrongNow { s with us := u } = s.lbl.wrong ++ [u] :=
  congrArg (· ++ [u]) (List.filter_eq_self.mpr fun t ht => decide_eq_true (h t ht))

/-- Settles O58: the four wrong codes are counted one by one, and the fourth bars WAKE. -/
theorem labelWakeLockout : Obligations.LabelWakeLockout := by
  intro s0 s1 s2 s3 s4 u1 u2 u3 u4 req q hnone hopen w1 w2 w3 w4 h01 h12 h23 h3 h34 h4 asked hcode hlen hoff
  have now1 : s0.wrongNow = [s0.us] := by simp [State.wrongNow, hnone]
  obtain ⟨k1, b1⟩ := w1.kept hopen (by simp [now1])
  rw [now1] at k1
  have now2 : State.wrongNow { s1 with us := u1 } = [s0.us, u1] := by
    rw [wrongNow_of_recent u1 (by simp [k1]; omega), k1]
    rfl
  obtain ⟨k2, b2⟩ := w2.kept (by simp only [b1]; omega) (by simp [now2])
  rw [now2] at k2
  have now3 : State.wrongNow { s2 with us := u2 } = [s0.us, u1, u2] := by
    rw [wrongNow_of_recent u2 (by simp [k2]; omega), k2]
    rfl
  obtain ⟨k3, b3⟩ := w3.kept (by simp only [b2, b1]; omega) (by simp [now3])
  rw [now3] at k3
  have now4 : State.wrongNow { s3 with us := u3 } = [s0.us, u1, u2, u3] := by
    rw [wrongNow_of_recent u3 (by simp [k3]; omega), k3]
    rfl
  have barred : s4.lbl.barred = u3 + 60000000 := w4.bars (by simp only [b3, b2, b1]; omega) (by simp [now4])
  rw [exec_lblWake]
  exact execLblWake_of_barred asked hcode hlen hoff (by simp only [barred]; omega)

/-! ### What a field write leaves unchanged (R805-R807) -/

theorem lblErr_lbl (e : Nat) (s : State) : (lblErr e s).lbl = s.lbl := rfl

theorem fieldRun_stays {mine : Nat → Bool} {req : Bytes} {q : FieldReq} {s : State} (f : FieldReq → State → State) (asked : Asked req q s)
    (hmine : mine q.code = false) : fieldRun mine req f s = .next s := by
  obtain ⟨-, -, -, -, hcode, -⟩ := asked
  exact if_pos (by simp [hcode, hmine])

/-- A request leaves the label memory as it is, or its command runs. -/
theorem fieldRun_mem (mine : Nat → Bool) (req : Bytes) (f : FieldReq → State → State) (s : State) :
    ∃ t, fieldRun mine req f s = .next t ∧ (t.lbl.mem = s.lbl.mem ∨ ∃ q, t = f q s) := by
  unfold fieldRun
  extract_lets
  repeat' split
  · exact ⟨_, rfl, .inl rfl⟩
  · exact ⟨_, rfl, .inl rfl⟩
  · refine ⟨_, rfl, .inl ?_⟩
    unfold whenS
    split <;> rfl
  · exact ⟨_, rfl, .inl rfl⟩
  · exact ⟨_, rfl, .inl rfl⟩
  · exact ⟨_, rfl, .inr ⟨_, rfl⟩⟩

/-- The blocks that a write request names. -/
def FieldReq.blocks (ext multi : Bool) (q : FieldReq) : Nat × Nat := blockRange (if ext then 2 else 1) multi q.args

/-- A field write changes no byte, or it stores the blocks that it names, all of them open and unlocked. -/
theorem fieldWrite_mem (ext multi : Bool) (busy : Nat) (q : FieldReq) (s : State) :
    (fieldWrite ext multi busy q s).lbl.mem = s.lbl.mem ∨
    ∃ data, data.length = 4 * (q.blocks ext multi).2 ∧ (fieldWrite ext multi busy q s).lbl.mem = s.lbl.mem.writeN (4 * (q.blocks ext multi).1) data ∧
      ∀ i < (q.blocks ext multi).2, lblOpen ((q.blocks ext multi).1 + i) = true ∧ s.lbl.locked.contains ((q.blocks ext multi).1 + i) = false := by
  unfold fieldWrite FieldReq.blocks
  dsimp only
  generalize (if ext then 2 else 1 : Nat) = w
  generalize (if multi then 2 * w else w) = head
  generalize blockRange w multi q.args = r
  split
  · exact .inl rfl
  split
  · exact .inl rfl
  unfold sized
  split
  · next hsize =>
    unfold fieldTx
    split
    · exact .inl rfl
    dsimp only
    split
    · next hall =>
      refine .inr ⟨q.args.drop head, by rw [List.length_drop]; omega, rfl, fun i hi => ?_⟩
      have open1 := List.all_eq_true.mp hall i (List.mem_range.mpr hi)
      simpa using open1
    · exact .inl rfl
  · exact .inl rfl

/-- A byte outside the stored bytes stays. -/
theorem Mem.read_writeN_outside (m : Mem) {a i : Nat} {bs : Bytes} (h : i < a ∨ a + bs.length ≤ i) : (m.writeN a bs).read i = m.read i := by
  rw [Mem.read_writeN, if_neg (by omega)]

theorem fieldWrite_outside (ext multi : Bool) (busy : Nat) (q : FieldReq) (s : State) (a : Nat)
    (h : a < 4 * (q.blocks ext multi).1 ∨ 4 * ((q.blocks ext multi).1 + (q.blocks ext multi).2) ≤ a) :
    (fieldWrite ext multi busy q s).lbl.mem.read a = s.lbl.mem.read a := by
  rcases fieldWrite_mem ext multi busy q s with hsame | ⟨data, hlen, hwrite, -⟩
  · rw [hsame]
  · rw [hwrite, Mem.read_writeN_outside _ (by omega)]

/-- A byte of a block that is locked or not open is outside. -/
theorem fieldWrite_closed (ext multi : Bool) (busy : Nat) (q : FieldReq) (s : State) (a : Nat)
    (h : (lblOpen (a / 4) && !s.lbl.locked.contains (a / 4)) = false) : (fieldWrite ext multi busy q s).lbl.mem.read a = s.lbl.mem.read a := by
  rcases fieldWrite_mem ext multi busy q s with hsame | ⟨data, hlen, hwrite, hopen⟩
  · rw [hsame]
  · rw [hwrite, Mem.read_writeN_outside]
    refine Decidable.byContradiction fun hin => ?_
    obtain ⟨h1, h2⟩ := hopen (a / 4 - (q.blocks ext multi).1) (by omega)
    rw [Nat.add_sub_cancel' (by omega)] at h1 h2
    rw [h1, h2] at h
    cases h

/-- What the statement says of one write command, whose code is the one of its form. -/
theorem fieldWrite_frame (ext multi : Bool) {code busy : Nat} {req : Bytes} {s t : State} (hext : (0x30 ≤ code) = (ext = true))
    (hmulti : (code % 16 = 4) = (multi = true)) (ht : fieldRun (· == code) req (fieldWrite ext multi busy) s = .next t) :
    t.lbl.locked = s.lbl.locked ∧
    (∀ a, (lblOpen (a / 4) && !s.lbl.locked.contains (a / 4)) = false → t.lbl.mem.read a = s.lbl.mem.read a) ∧
    ∀ q, Asked req q s → let w := if 0x30 ≤ q.code then 2 else 1; let first := leAt q.args 0 w
      let n := if q.code % 16 = 4 then leAt q.args w w + 1 else 1
      ∀ a, a < 4 * first ∨ 4 * (first + n) ≤ a → t.lbl.mem.read a = s.lbl.mem.read a := by
  refine ⟨?_, fun a ha => ?_, fun q asked => ?_⟩
  · obtain ⟨u, hu, hkeep⟩ := fieldRun_keep (· == code) req (fieldWrite ext multi busy) s (fun q u => fieldWrite_keep _ _ _ q u)
    rw [ht] at hu
    cases hu
    exact congrArg Keep.locked hkeep
  · obtain ⟨u, hu, hmem⟩ := fieldRun_mem (· == code) req (fieldWrite ext multi busy) s
    rw [ht] at hu
    cases hu
    rcases hmem with hsame | ⟨q, rfl⟩
    · rw [hsame]
    · exact fieldWrite_closed _ _ _ _ _ a ha
  · intro w first n a ha
    by_cases hmine : q.code = code
    · rw [fieldRun_asked _ _ asked (by simp [hmine])] at ht
      cases ht
      refine fieldWrite_outside _ _ _ _ _ a ?_
      have hw : w = if ext then 2 else 1 := by simp only [w, hmine, hext]
      have hblocks : q.blocks ext multi = (first, n) := by
        simp only [FieldReq.blocks, blockRange, ← hw, first, n, hmine, hmulti]
      rw [hblocks]
      exact ha
    · rw [fieldRun_stays _ asked (by simp [hmine])] at ht
      cases ht
      rfl

/-- Settles O59: the four write commands are one write in four forms. -/
theorem labelWriteFrame : Obligations.LabelWriteFrame := by
  intro c req s t hwrites ht
  cases c with
  | lblWriteSingleBlock r _ =>
    cases hwrites
    exact fieldWrite_frame false false (code := 0x21) (by simp) (by simp) ht
  | lblWriteMultipleBlocks r _ =>
    cases hwrites
    exact fieldWrite_frame false true (code := 0x24) (by simp) (by simp) ht
  | extendedWriteSingleBlock r _ =>
    cases hwrites
    exact fieldWrite_frame true false (code := 0x31) (by simp) (by simp) ht
  | extendedWriteMultipleBlocks r _ =>
    cases hwrites
    exact fieldWrite_frame true true (code := 0x34) (by simp) (by simp) ht
  | _ => cases hwrites

end Sys2Proof.Machine
end

section
/-!
Proof of the statement on counters that wrap (28 R990): an event adds to one counter of each bank of its group and scope.
-/
namespace Sys2Proof.Machine
open Sys2Proof

/-! ### Banks and their counters (R989) -/

theorem lookup_mapValue {α : Type} (f : α → α) (l : List (Nat × α)) (k : Nat) : (l.map fun p => (p.1, f p.2)).lookup k = (l.lookup k).map f := by
  induction l with
  | nil => rfl
  | cons p l ih =>
    rw [List.map_cons, List.lookup_cons, ih]
    conv => rhs; rw [show p = (p.1, p.2) from rfl, List.lookup_cons]
    split <;> rfl

/-- A bank that is ON is listed. -/
theorem lookup_of_on {s : State} {b : Nat} (hon : (s.bank b).on = true) : s.cnt.banks.lookup b = some (s.bank b) := by
  unfold State.bank tget at *
  cases hl : s.cnt.banks.lookup b with
  | none =>
    rw [hl] at hon
    cases hon
  | some x => rfl

/-- A bank after an event of a group and scope. -/
def CntBank.counted (group scope c k : Nat) (x : CntBank) : CntBank :=
  if x.on && x.group == group && x.scope == scope then { x with counts := tmod (0, 0) x.counts c (bump k) } else x

theorem mem_of_lookup {α : Type} {l : List (Nat × α)} {k : Nat} {x : α} (h : l.lookup k = some x) : (k, x) ∈ l := by
  induction l with
  | nil => cases h
  | cons p l ih =>
    rw [List.lookup_cons] at h
    split at h
    · next heq =>
      cases h
      rw [eq_of_beq heq]
      exact List.mem_cons_self
    · exact List.mem_cons_of_mem _ (ih h)

theorem countEv_bank {s : State} {b : Nat} (c n : Nat) (hon : (s.bank b).on = true) :
    (countEv (s.bank b).group (s.bank b).scope c n s).bank b =
      { s.bank b with counts := tmod (0, 0) (s.bank b).counts c (bump (if byteCounter (s.bank b).group c then n else 1)) } := by
  have listed := lookup_of_on hon
  have hit : s.cnt.banks.any (fun p => p.2.on && p.2.group == (s.bank b).group && p.2.scope == (s.bank b).scope) = true :=
    List.any_eq_true.mpr ⟨(b, s.bank b), mem_of_lookup listed, by simp [hon]⟩
  have added (group scope k : Nat) : (fun p : Nat × CntBank => if (p.2.on && p.2.group == group && p.2.scope == scope) = true
      then (p.1, { p.2 with counts := tmod (0, 0) p.2.counts c (bump k) }) else p) = fun p => (p.1, p.2.counted group scope c k) := by
    funext p
    unfold CntBank.counted
    split <;> rfl
  unfold countEv
  simp only [hit, if_true, added]
  unfold State.bank tget
  simp only [lookup_mapValue]
  rw [listed]
  simp [CntBank.counted, hon]

/-! ### One addition (R990) -/

theorem bump_wraps {k : Nat} {old : Nat × Nat} (hk : k < 2 ^ 48) (hcount : old.1 < 2 ^ 48) (hwraps : old.2 ≤ 0x7FFF) :
    (bump k old).2 = min 0x7FFF (if old.1 + k < 2 ^ 48 then old.2 else old.2 + 1) := by
  simp only [bump]
  split <;> omega

theorem bump_total {k : Nat} {old : Nat × Nat} (h : (bump k old).2 < 0x7FFF) :
    (bump k old).2 * 2 ^ 48 + (bump k old).1 = old.2 * 2 ^ 48 + old.1 + k := by
  simp only [bump] at h ⊢
  omega

/-- Settles O57: the event's counter takes one addition, and no other counter of the bank changes. -/
theorem counterWrap : Obligations.CounterWrap := by
  intro s b c n hon hn x y k old new hcount hwraps
  have hk : k < 2 ^ 48 := by
    simp only [k]
    split <;> omega
  have hy : y.counts = tmod (0, 0) x.counts c (bump k) := congrArg CntBank.counts (countEv_bank c n hon)
  have hnew : new = bump k old := by
    simp only [new, hy, tget_tmod, if_true, old]
  refine ⟨by rw [hnew]; rfl, by rw [hnew, bump_wraps hk hcount hwraps], fun h => ?_, fun i hi => ?_⟩
  · rw [hnew] at h ⊢
    exact bump_total h
  · rw [hy, tget_tmod, if_neg hi]

end Sys2Proof.Machine
end

section
/-!
Proofs of the statements on the battery string (ch 20): the events of measurement, tests and charging, and the commands.
-/
namespace Sys2Proof.Machine
open Sys2Proof

/-! ### Measurement (R734, R735, R743, R754) -/

section
variable {s : State} (hruns : s.batRuns = true)
include hruns

theorem execBatScan_of_runs (cells : List Nat) (stack : Nat) (t0 t1 : Int) : execBatScan cells stack t0 t1 s = .next (scan cells stack (t0, t1) s) := by
  rw [execBatScan, if_pos hruns]

theorem execCoulombSample_of_runs {sample : Int} (hlow : -8388608 ≤ sample) (hhigh : sample < 8388608) :
    execCoulombSample sample s = .next (coulomb sample s) :=
  congrArg _ (if_pos (by simp [hruns, hlow, hhigh]))

theorem execOcd_of_over {ma : Nat} (hlatch : s.aon.ocdLatch = false) (hover : s.bat.cfg.ocdMa < ma) :
    execOcd ma s = .next (batEvent 0x8003 [(20, 4, ma)] { s with aon := { s.aon with ocdLatch := true, dsgEn := false } }) := by
  have exceeds : (s.batRuns && !s.aon.ocdLatch && decide (s.bat.cfg.ocdMa < ma)) = true := by simp [hruns, hlatch, hover]
  rw [execOcd, if_pos exceeds]

theorem execRestReached_of_quiet (hquiet : s.bat.sample.natAbs * 5000000000 < s.aon.bat.cap * 8388608 * s.bat.cfg.shunt) :
    execRestReached s = .next (modBat (fun b => { b with rested := true }) s) :=
  congrArg _ (if_pos (by simp [hruns, hquiet]))

theorem execRebaseEvaluation_of_runs : execRebaseEvaluation s = .next (rebase s) := congrArg _ (if_pos hruns)

/-! ### Open-wire tests (R747-R749) -/

theorem execOpenWirePeriod_of_period (hperiod : s.bat.cfg.owPeriod ≠ 0) : execOpenWirePeriod s = .next (queueTests s.bat.taps s) :=
  congrArg _ (if_pos (by simp [hruns, hperiod]))

section
variable {change : Int} {n : Nat} {rest : List Nat} (htests : s.bat.tests = n :: rest) (hnew : n ∉ s.bat.open_)
include htests hnew

/-- A tap that was not open stays so. -/
theorem execOpenWireTest_of_good (hsmall : change.natAbs ≤ 400) : execOpenWireTest change s =
    .next (endOpenWire (chargeEval (modBat (fun b => { b with
      tests := rest, suspects := nclr n b.suspects, open_ := nclr n b.open_
      results := upsert (fun r => r.1 == n) (n, (false, change)) b.results }) s))) := by
  have closed : decide (400 < change.natAbs) = false := decide_eq_false (by omega)
  have was : s.bat.open_.contains n = false := by simpa using hnew
  simp only [execOpenWireTest, hruns, htests, closed, was, Bool.false_and, Bool.and_false, Bool.false_eq_true, if_false]

/-- A tap that is newly found open is recorded. -/
theorem execOpenWireTest_of_open (hlarge : 400 < change.natAbs) : execOpenWireTest change s =
    .next (endOpenWire (chargeEval (batEvent 0x8004 [(16, 1, n), (18, 2, unsigned 16 change)] (modBat (fun b => { b with
      tests := rest, suspects := nclr n b.suspects, open_ := nset n b.open_
      results := upsert (fun r => r.1 == n) (n, (true, change)) b.results }) s)))) := by
  have open1 : decide (400 < change.natAbs) = true := decide_eq_true hlarge
  have was : s.bat.open_.contains n = false := by simpa using hnew
  simp only [execOpenWireTest, hruns, htests, open1, was, Bool.not_false, Bool.and_self, if_true]

end

/-! ### The charger (R761-R763) -/

section
variable (hcharging : s.bat.charging = true)
include hcharging

/-- The charger did not answer: what becomes of the attempt is decided by the failures so far. -/
theorem execChargeUpdate_of_silent : execChargeUpdate false s =
    let u := modBat (fun b => { b with fails := b.fails + 1 }) s
    if 3 ≤ s.bat.fails + 1 then .next (batEvent 0x800C [(16, 1, s.bat.chg.addr)] (modBat (fun b => { b with charging := false, fault := true, fails := 0, term := 0 })
      { u with aon := { u.aon with chgEn := false } }))
    else .next u := by
  simp only [execChargeUpdate, hruns, hcharging, Bool.not_true, Bool.or_self, Bool.false_eq_true, if_false, Bool.not_false, if_true]
  rfl

/-- No current into the charger: nothing ends. -/
theorem execChargeUpdate_of_answered (hamps : s.bat.amps < 0) (hterm : 0 < s.bat.chg.termMin) :
    let aim := s.bat.cfg.n * s.bat.chg.cell
    let volts := min aim (((s.bat.stack * 10 + aim : Nat) : Int) - (s.bat.cfg.n * s.bat.highest.getD 0 / 10 : Nat)).toNat
    execChargeUpdate true s = .next (toCharger 0x21 volts (modBat (fun b => { b with fails := 0, term := 0 }) s)) := by
  have notFull : decide (0 ≤ s.bat.amps) = false := decide_eq_false (by omega)
  have notYet : ¬ s.bat.chg.termMin * 600 ≤ 0 := by omega
  simp only [execChargeUpdate, hruns, hcharging, Bool.not_true, Bool.or_self, Bool.false_eq_true, if_false, notFull, Bool.false_and, notYet]

end

end

theorem execChargerRetry_of_answered {s : State} (hfault : s.bat.fault = true) :
    execChargerRetry true s = .next (chargeEval (modBat (fun b => { b with fault := false }) s)) :=
  congrArg _ (if_pos (by simp [hfault]))

/-- Settles O8: each row in the branch that its premises select. -/
theorem batteryEventsComplete : Obligations.BatteryEventsComplete :=
  ⟨fun _ cells stack t0 t1 hruns => execBatScan_of_runs hruns cells stack t0 t1,
   fun _ _ hruns hlow hhigh => execCoulombSample_of_runs hruns hlow hhigh,
   fun _ _ hruns hlatch hover => execOcd_of_over hruns hlatch hover,
   fun _ _ _ _ hruns htests hsmall hnew => execOpenWireTest_of_good hruns htests hnew hsmall,
   fun _ _ _ _ hruns htests hlarge hnew => execOpenWireTest_of_open hruns htests hnew hlarge,
   fun _ hruns hperiod => execOpenWirePeriod_of_period hruns hperiod,
   fun _ hruns hquiet => execRestReached_of_quiet hruns hquiet,
   fun _ hruns => execRebaseEvaluation_of_runs hruns,
   fun _ hruns hcharging hfew => (execChargeUpdate_of_silent hruns hcharging).trans (if_neg (by omega)),
   fun _ hruns hcharging hmany => (execChargeUpdate_of_silent hruns hcharging).trans (if_pos (by omega)),
   fun _ hruns hcharging hamps hterm => execChargeUpdate_of_answered hruns hcharging hamps hterm,
   fun _ hfault => execChargerRetry_of_answered hfault⟩

/-! ### The battery commands (R748, R755, R759, R765, R766) -/

section
variable {s t : State} {p : Packet}

theorem execBatLimitsSet_config (given : Given 0x0A02 p s t) (hlen : p.params.length = 48) (hop : u8 p.params 0 = 1)
    (hfields : (batCfgFields p.params).all (·.2) = true) : execBatLimitsSet s = .next (ok p (setBatCfg (batCfgOf p.params) t)) := by
  refine (interpret_given _ given).trans (congrArg _ ?_)
  simp only [hop]
  exact checked_ok _ _ _ _ _ hlen hfields

theorem execBatLimitsSet_release (given : Given 0x0A02 p s t) (hlen : p.params.length = 4) (hop : u8 p.params 0 = 3) :
    execBatLimitsSet s = .next (ok p (dsgEval { t with aon := { t.aon with ocdLatch := false } })) := by
  refine (interpret_given _ given).trans (congrArg _ ?_)
  simp only [hop]
  exact checked_ok _ _ _ _ _ hlen rfl

theorem execBatOpenWireTest_of_taps (given : Given 0x0A03 p s t) (hlen : p.params.length = 4) (hrange : u8 p.params 0 ≤ u8 p.params 1)
    (hlast : u8 p.params 1 ≤ 16) (hchem : t.bat.cfg.chem ≠ 0) :
    let first := u8 p.params 0
    let last := u8 p.params 1
    execBatOpenWireTest s = .next (endOpenWire (waitFor p (.openWire first (last + 1 - first))
      (queueTests (t.bat.taps.filter fun n => inR n first last) (modBat (fun b => { b with results := [] }) t)))) := by
  refine (interpret_given _ given).trans (congrArg _ ((checked_ok _ _ _ _ _ hlen ?_).trans (if_neg hchem)))
  simp [inR, hrange, hlast, Nat.le_trans hrange hlast]

theorem execBatChargerSet_of_fields (given : Given 0x0A04 p s t) (hlen : p.params.length = 20) :
    let c := chargerOf p.params
    u8 p.params 0 ≤ 1 → inR c.addr 8 0x77 = true → railAddr c.addr t = false → inR c.ma 100 200000 = true →
    t.bat.cfg.chem = 0 ∨ c.cell + 50 ≤ t.bat.cfg.ov → inR c.termMa 10 20000 = true → inR c.recharge 50 99 = true → inR c.termMin 1 120 = true →
    execBatChargerSet s = .next (ok p (chargeEval (modBat (fun b => { b with chg := c }) t))) := by
  intro c hauto haddr hrail hma hcell htermMa hrecharge htermMin
  refine (interpret_given _ given).trans (congrArg _ (checked_ok _ _ _ _ _ hlen ?_))
  have hcell' : (decide (t.bat.cfg.chem = 0) || decide (c.cell + 50 ≤ t.bat.cfg.ov)) = true := by simpa using hcell
  simp only [List.all_cons, List.all_nil, hcell', haddr, hrail, hma, htermMa, hrecharge, htermMin, decide_eq_true hauto, Bool.not_false, Bool.and_true, c]

end

/-- Settles O9: each command is taken with its parameters checked. -/
theorem batteryCommandsComplete : Obligations.BatteryCommandsComplete :=
  ⟨fun _ _ _ given hlen hop hfields => execBatLimitsSet_config given hlen hop hfields,
   fun _ _ _ given hlen hop => execBatLimitsSet_release given hlen hop,
   fun _ _ _ given hlen hrange hlast hchem => execBatOpenWireTest_of_taps given hlen hrange hlast hchem,
   fun _ _ _ given hlen => execBatChargerSet_of_fields given hlen,
   fun _ _ _ given hlen => (interpret_given _ given).trans (congrArg _ (checked_ok _ _ _ _ _ hlen rfl))⟩

end Sys2Proof.Machine
end

section
/-!
Proofs of the statements on the plant (ch 21): setpoints, the stop latch and the status.
-/
namespace Sys2Proof.Machine
open Sys2Proof

/-! ### Setpoints (R768-R774, R796) -/

section
variable {s t : State} {p : Packet}

/-- The checked setpoint command, with the action to come. -/
theorem execPltSetpointSet_given (given : Given 0x0A10 p s t) (hlen : p.params.length = 16) (hact : inR (u8 p.params 0) 1 3 = true)
    (hn : u8 p.params 1 ≤ 31)
    (hdefine : u8 p.params 0 = 2 → u16 p.params 2 ≤ 4095 ∧ signed 32 (u32 p.params 4) ≤ signed 32 (u32 p.params 8)) :
    execPltSetpointSet s = .next (
      if p.cls == 5 && u8 p.params 0 != 1 then fail p stDenied 0xFFFF 0 t
      else match u8 p.params 0 with
      | 1 => setpointSet p (u8 p.params 1) t
      | 2 => setpointDefine p (u8 p.params 1) t
      | _ => if (t.setpointAt (u8 p.params 1)).isNone then complete p stNote [] t else ok p (setPoint (u8 p.params 1) none t)) := by
  refine (interpret_given _ given).trans (congrArg _ (checked_ok _ _ _ _ _ hlen ?_))
  by_cases h2 : u8 p.params 0 = 2
  · obtain ⟨haddr, hrange⟩ := hdefine h2
    simp [hn, h2, haddr, hrange, inR]
  · simp [hact, hn, h2]

theorem execPltSetpointSet_set {x : Setpoint} (given : Given 0x0A10 p s t) (hlen : p.params.length = 16) (hact : u8 p.params 0 = 1)
    (hn : u8 p.params 1 ≤ 31) (hx : t.setpointAt (u8 p.params 1) = some x) (h25 : t.domLost 25 = false) (h99 : t.domLost 99 = false) :
    let n := u8 p.params 1
    execPltSetpointSet s = .next (commitLeg n (waitFor p (.setpoint n)
      (setPoint n (some { x with slew := some ⟨clampI x.lo x.hi (signed 32 (u32 p.params 4)), .waits⟩ }) t))) := by
  rw [execPltSetpointSet_given given hlen (by simp [hact, inR]) hn (by simp [hact])]
  simp only [hact, bne_self_eq_false, Bool.and_false, Bool.false_eq_true, if_false, setpointSet, hx, h25, h99, Bool.or_self]

theorem execPltSetpointSet_define (given : Given 0x0A10 p s t) (hlen : p.params.length = 16) (hcls : p.cls ≠ 5) (hact : u8 p.params 0 = 2)
    (hn : u8 p.params 1 ≤ 31) (haddr : u16 p.params 2 ≤ 4095) (hrange : signed 32 (u32 p.params 4) ≤ signed 32 (u32 p.params 8))
    (hfree : t.plt.points.find? (fun x => x.1 != u8 p.params 1 && x.2.addr == u16 p.params 2) = none) :
    execPltSetpointSet s = .next (ok p (setPoint (u8 p.params 1)
      (some { addr := u16 p.params 2, lo := signed 32 (u32 p.params 4), hi := signed 32 (u32 p.params 8), rate := u32 p.params 12 }) t)) := by
  rw [execPltSetpointSet_given given hlen (by simp [hact, inR]) hn (fun _ => ⟨haddr, hrange⟩)]
  simp only [hact, beq_false_of_ne hcls, Bool.false_and, Bool.false_eq_true, if_false, setpointDefine, hfree]

theorem execPltSetpointSet_undefine {x : Setpoint} (given : Given 0x0A10 p s t) (hlen : p.params.length = 16) (hcls : p.cls ≠ 5)
    (hact : u8 p.params 0 = 3) (hn : u8 p.params 1 ≤ 31) (hx : t.setpointAt (u8 p.params 1) = some x) :
    execPltSetpointSet s = .next (ok p (setPoint (u8 p.params 1) none t)) := by
  rw [execPltSetpointSet_given given hlen (by simp [hact, inR]) hn (by simp [hact])]
  simp only [hact, beq_false_of_ne hcls, Bool.false_and, Bool.false_eq_true, if_false, hx, Option.isNone_some]

end

theorem execSetpointLegCommit_of_last {s : State} {n left : Nat} {x : Setpoint} {y : Int} (hx : s.setpointAt n = some x)
    (hslew : x.slew = some ⟨y, .runs left false⟩) (hleft : left ≤ 1) (hon : s.isOn 23 = true) :
    execSetpointLegCommit n s = .next (commitLeg n s) := by
  simp only [execSetpointLegCommit, hx, Option.bind_some, hslew, hleft, hon, decide_true, Bool.and_self, if_true]

/-! ### The stop latch (R779-R781) -/

section
variable {s t : State} {p : Packet}

theorem execPltStop_assert (given : Given 0x0A12 p s t) (hlen : p.params.length = 4) (hact : u8 p.params 0 = 1) :
    execPltStop s = .next (ok p (setStop 1 (u8 p.params 2) 0 t)) := by
  refine (interpret_given _ given).trans (congrArg _ ((checked_ok _ _ _ _ _ hlen (by simp [hact, inR])).trans ?_))
  simp [hact]

theorem execPltStop_release (given : Given 0x0A12 p s t) (hlen : p.params.length = 4) (hcls : p.cls ≠ 5) (hact : u8 p.params 0 = 2)
    (hkey : u8 p.params 1 = 0xA5) (hfree : t.stopRefusal = none) : execPltStop s = .next (ok p (releaseStop 0 t)) := by
  refine (interpret_given _ given).trans (congrArg _ ((checked_ok _ _ _ _ _ hlen (by simp [hact, hkey, inR])).trans ?_))
  simp [hact, hcls, hfree]

end

/-- OP and KEY of a release that is written. -/
theorem stopCtl_release_op (key : Nat) : (2 + key % 256 * 256) % 4 = 2 := by omega

theorem stopCtl_release_key (key : Nat) : bitsOf (2 + key % 256 * 256) 15 8 = key % 256 := by
  simp only [bitsOf, Nat.reducePow, Nat.reduceSub, Nat.reduceAdd]
  omega

section
variable {s : State} {key : Nat}

theorem execStopCtlAssert_of_on (hon : s.isOn 23 = true) : execStopCtlAssert s = .next (setStop 4 0 0 s) := by
  simp [execStopCtlAssert, hon, stopCtl]

theorem execStopCtlRelease_of_key (hon : s.isOn 23 = true) (hkey : key = 0xA5) (hfree : s.stopRefusal = none) :
    execStopCtlRelease key s = .next (releaseStop 1 s) := by
  have hkey' : bitsOf (2 + key % 256 * 256) 15 8 = 0xA5 := by rw [stopCtl_release_key, hkey]
  simp [execStopCtlRelease, hon, stopCtl, stopCtl_release_op, hkey', hfree]

theorem execStopCtlRelease_of_other (hkey : key % 256 ≠ 0xA5) : execStopCtlRelease key s = .next s := by
  have notKey : stopCtl (2 + key % 256 * 256) s = s := by
    simp [stopCtl, stopCtl_release_op, stopCtl_release_key, hkey]
  simp [execStopCtlRelease, notKey]

end

/-- Settles O28: each command taken with its parameters checked, and each row in the branch that its premises select. -/
theorem setpointsAndStopComplete : Obligations.SetpointsAndStopComplete :=
  ⟨fun _ _ _ _ given hlen hact hn hx h25 h99 => execPltSetpointSet_set given hlen hact hn hx h25 h99,
   fun _ _ _ given hlen hcls hact hn haddr hrange hfree => execPltSetpointSet_define given hlen hcls hact hn haddr hrange hfree,
   fun _ _ _ _ given hlen hcls hact hn hx => execPltSetpointSet_undefine given hlen hcls hact hn hx,
   fun _ _ _ _ _ hx hslew hleft hon => execSetpointLegCommit_of_last hx hslew hleft hon,
   fun _ _ _ given hlen hact => execPltStop_assert given hlen hact,
   fun _ _ _ given hlen hcls hact hkey hfree => execPltStop_release given hlen hcls hact hkey hfree,
   fun _ hon => execStopCtlAssert_of_on hon,
   fun _ _ hon hkey hfree => execStopCtlRelease_of_key hon hkey hfree,
   fun _ _ hkey => execStopCtlRelease_of_other hkey,
   fun _ _ _ given hlen => (interpret_given _ given).trans (congrArg _ (checked_ok _ _ _ _ _ hlen rfl))⟩

end Sys2Proof.Machine
end

section
/-!
Proofs of the statement on the plant bus and the carriage (ch 21).
-/
namespace Sys2Proof.Machine
open Sys2Proof

/-! ### Frames received (R787, R788, R792, R793) -/

/-- The bus after a frame was received. -/
def frameCounted (s : State) : State := modCan (fun c => { integrated c with received := (c.received + 1) % 2 ^ 32 }) s

/-- Buffer b takes a frame of an identifier (R787). -/
def Can.fits (c : Can) (ident : Nat) (ide : Bool) (b : Nat) : Bool :=
  (c.buf b).mode == 2 && (c.buf b).ide == ide && ((c.buf b).id &&& (c.buf b).mask) == (ident &&& (c.buf b).mask)

/-- A buffer with a frame stored in it. -/
def CanBuffer.stored (x : CanBuffer) (ident : Nat) (ide fdf brs esi : Bool) (dlc : Nat) (data : Bytes) : CanBuffer :=
  { x with id := ident % 2 ^ 29, ide := ide, fdf := fdf, brs := brs, esi := esi, dlc := dlc % 16
           data := Mem.writeN x.data 0 ((data ++ zeros 64).take (dlcLen fdf dlc)) }

section
variable {s : State} (hon : s.canOn = true)
include hon

/-- Without the carriage, a frame goes to the buffers. -/
theorem execCanFrameReceived_of_plain {ident dlc : Nat} (ide : Bool) {fdf : Bool} (brs esi : Bool) (data : Bytes)
    (hfd : fdf = false ∨ s.can.flag 0 = true) (hcarriage : s.can.carriage = false) : execCanFrameReceived ident ide fdf brs esi dlc data s =
    let hits := (List.range 64).filter (s.can.fits ident ide)
    match hits.find? (fun b => !s.can.rxnew.contains b || (s.can.buf b).overOk) with
    | some b => .next (whenS (s.can.buf b).notify (routePost 6) (modCan (fun c => { c with
        bufs := tmod {} c.bufs b fun x => x.stored ident ide fdf brs esi dlc data, rxnew := nset b c.rxnew }) (frameCounted s)))
    | none =>
      if hits.isEmpty then .next (frameCounted s)
      else
        let recent := (s.can.lostAt.filter fun t => decide (s.us < t + 1000000)) ++ [s.us]
        .next (logLimited 23 0x8004 0 1 1000000 (detail [(20, 4, recent.length)])
          (modCan (fun c => { c with lost := min 0xFFFFFFFF (c.lost + 1), lostAt := recent }) (frameCounted s))) := by
  have accepted : (fdf && !s.can.flag 0) = false := by rcases hfd with h | h <;> simp [h]
  simp only [execCanFrameReceived, hon, accepted, hcarriage, Bool.not_true, Bool.or_self, Bool.false_eq_true, if_false, Bool.and_false,
    Bool.false_and]
  rfl

theorem execCanFrameReceived_of_hit {ident dlc b : Nat} (ide : Bool) {fdf : Bool} (brs esi : Bool) (data : Bytes)
    (hfd : fdf = false ∨ s.can.flag 0 = true) (hcarriage : s.can.carriage = false)
    (hfind : ((List.range 64).filter (s.can.fits ident ide)).find? (fun b => !s.can.rxnew.contains b || (s.can.buf b).overOk) = some b) :
    execCanFrameReceived ident ide fdf brs esi dlc data s = .next (whenS (s.can.buf b).notify (routePost 6) (modCan (fun c => { c with
      bufs := tmod {} c.bufs b fun x => x.stored ident ide fdf brs esi dlc data, rxnew := nset b c.rxnew }) (frameCounted s))) := by
  rw [execCanFrameReceived_of_plain hon ide brs esi data hfd hcarriage]
  simp only [hfind]

theorem execCanFrameReceived_of_full {ident dlc : Nat} (ide : Bool) {fdf : Bool} (brs esi : Bool) (data : Bytes)
    (hfd : fdf = false ∨ s.can.flag 0 = true) (hcarriage : s.can.carriage = false) (hany : (List.range 64).any (s.can.fits ident ide) = true)
    (hfind : ((List.range 64).filter (s.can.fits ident ide)).find? (fun b => !s.can.rxnew.contains b || (s.can.buf b).overOk) = none) :
    let recent := (s.can.lostAt.filter fun t => decide (s.us < t + 1000000)) ++ [s.us]
    execCanFrameReceived ident ide fdf brs esi dlc data s = .next (logLimited 23 0x8004 0 1 1000000 (detail [(20, 4, recent.length)])
      (modCan (fun c => { c with lost := min 0xFFFFFFFF (c.lost + 1), lostAt := recent }) (frameCounted s))) := by
  have hits : ((List.range 64).filter (s.can.fits ident ide)).isEmpty = false := by
    obtain ⟨b, hb, hfits⟩ := List.any_eq_true.mp hany
    exact List.isEmpty_eq_false_iff.mpr (List.ne_nil_of_mem (List.mem_filter.mpr ⟨hb, hfits⟩))
  rw [execCanFrameReceived_of_plain hon ide brs esi data hfd hcarriage]
  simp only [hfind, hits, Bool.false_eq_true, if_false]

/-- A request of the carriage for this node. -/
theorem execCanFrameReceived_of_carriage {ident dlc : Nat} (brs esi : Bool) (data : Bytes) (hcarriage : s.can.carriage = true)
    (hup : s.transportsUp = true) (hnet : ident / 2 ^ 21 % 256 = u8 s.can.cfg 3) (hnode : ident / 2 ^ 13 % 128 = u8 s.can.cfg 2)
    (hlow : ident % 64 = 0) (hreq : ident.testBit 20 = false) : execCanFrameReceived ident true true brs esi dlc data s =
      .next (carriageSegment (ident / 64 % 128) (data.take (dlcLen true dlc)) (frameCounted s)) := by
  have flag0 : s.can.flag 0 = true := by
    simp only [Can.carriage, Bool.and_eq_true] at hcarriage
    exact hcarriage.1.2
  have up : (frameCounted s).transportsUp = true := hup
  unfold frameCounted at up
  simp only [execCanFrameReceived, hon, flag0, hcarriage, hnet, hnode, hlow, hreq, up, Bool.not_true, Bool.and_false, Bool.or_self,
    Bool.false_eq_true, if_false, beq_self_eq_true, Bool.and_self, if_true]
  rfl

theorem execCarriageSegment_of_on (src : Nat) (data : Bytes) (hcarriage : s.can.carriage = true) (hup : s.transportsUp = true) :
    execCarriageSegment src data s = .next (carriageSegment (src % 128) data (frameCounted s)) := by
  simp only [execCarriageSegment, hon, hcarriage, hup, Bool.and_self, if_true]
  rfl

/-! ### Frames sent (R789) -/

theorem execCanTxDone_of_buffer {b : Nat} (hmode : s.can.mode = 1) (hoffered : s.can.offered = some b) (hb : b ≠ 64) :
    let u := modCan (fun c => { integrated c with sent := (c.sent + 1) % 2 ^ 32, resume := none }) s
    let x := s.can.buf b
    let fd := x.fdf && s.can.flag 0
    execCanTxDone s = .next (whenS x.notify (routePost 7)
      (emit (.canFrame x.id (b2n x.ide + 2 * b2n fd + 4 * b2n (x.brs && x.fdf && s.can.flag 1)) (Mem.readN x.data 0 (dlcLen fd x.dlc)))
        (modCan (fun c => { c with txreq := nclr b c.txreq }) u))) := by
  simp only [execCanTxDone, hon, hmode, hoffered, hb, Bool.not_true, bne_self_eq_false, Bool.or_self, Bool.false_eq_true, if_false]

/-! ### Error states (R790) -/

/-- A controller that takes part in the bus is, once integrated, in the active or the passive state. -/
theorem State.canOn.integrated : (integrated s.can).st = 1 ∨ (integrated s.can).st = 2 := by
  simp only [State.canOn, Bool.and_eq_true, Bool.or_eq_true, beq_iff_eq] at hon
  obtain ⟨-, (h | h) | h⟩ := hon <;> simp [Machine.integrated, h]

theorem execCanErrorStateChange_passive {tec rec_ : Nat} (htec : tec ≤ 255) (hpassive : 128 ≤ tec ∨ 128 ≤ rec_)
    (hst : (Machine.integrated s.can).st = 1) : execCanErrorStateChange tec rec_ s =
      .next (logEvent 23 0x8001 (detail [(16, 1, min 255 tec), (17, 1, min 255 rec_)])
        (canChange (modCan (fun c => { c with tec := min 255 tec, rec_ := min 255 rec_, st := 2 }) s))) := by
  have passive : (decide (128 ≤ tec) || decide (128 ≤ rec_)) = true := by simpa using hpassive
  simp only [execCanErrorStateChange, hon, Nat.not_lt.mpr htec, passive, hst, Bool.not_true, Bool.false_eq_true, if_false, if_true,
    Nat.reduceBEq, Nat.reduceLeDiff]

theorem execCanErrorStateChange_off {tec : Nat} (rec_ : Nat) (htec : 255 < tec) :
    let st := if s.can.flag 2 then 4 else 3
    execCanErrorStateChange tec rec_ s = .next (logEvent 23 0x8002 (detail [(16, 1, 255)])
      (canChange (modCan (fun c => { c with tec := 255, rec_ := min 255 rec_, st := st, resume := c.offered }) s))) := by
  intro st
  have full : min 255 tec = 255 := by omega
  have off : 3 ≤ st := by
    simp only [st]
    split <;> omega
  have changed : (st == (Machine.integrated s.can).st) = false := by
    rcases State.canOn.integrated hon with h | h <;> rw [h] <;> exact beq_false_of_ne (by omega)
  simp only [execCanErrorStateChange, hon, htec, full, Bool.not_true, Bool.false_eq_true, if_false, if_true]
  simp only [st] at off changed
  simp only [changed, off, Bool.false_eq_true, if_false, if_true, st]

theorem execCanErrorStateChange_active {tec rec_ : Nat} (htec : tec < 128) (hrec : rec_ < 128) (hst : (Machine.integrated s.can).st = 1) :
    execCanErrorStateChange tec rec_ s = .next (modCan (fun c => { c with tec := tec, rec_ := rec_, st := 1 }) s) := by
  have low : min 255 tec = tec ∧ min 255 rec_ = rec_ ∧ ¬ 255 < tec ∧ ¬ 128 ≤ tec ∧ ¬ 128 ≤ rec_ := by omega
  obtain ⟨h1, h2, h3, h4, h5⟩ := low
  simp only [execCanErrorStateChange, hon, h1, h2, h3, h4, h5, hst, Bool.not_true, Bool.false_eq_true, if_false, decide_false, Bool.or_self,
    beq_self_eq_true, if_true]

end

theorem execCanRecovered_of_recovering {s : State} (hst : s.can.st = 4) (hon : s.isOn 24 = true) : execCanRecovered s =
    .next (logEvent 23 0x8003 (zeros 16) (canChange (modCan (fun c => { c with st := 1, tec := 0, rec_ := 0 }) s))) := by
  simp only [execCanRecovered, hst, hon, beq_self_eq_true, Bool.and_self, if_true]

/-! ### The registers (R787, R789-R791) and the configuration (R785) -/

section
variable {s : State} (hfree : s.domLost 24 = false)
include hfree

theorem execCanTxreq_of_free (reg value : Nat) : execCanTxreq reg value s = .next (canTxreq (32 * (reg % 2)) value s) := by
  simp [execCanTxreq, hfree]

theorem execCanTxabort_of_free (reg value : Nat) : execCanTxabort reg value s = .next (canTxabort (32 * (reg % 2)) value s) := by
  simp [execCanTxabort, hfree]

theorem execCanRecover_of_free : execCanRecover s = .next (canRecover s) := by simp [execCanRecover, hfree]

theorem execCanRxLostRead_of_free (reader : Nat) : execCanRxLostRead reader s =
    .next (modCan (fun c => { c with lost := 0 }) (answerRead reader (putLe 4 s.can.lost) s)) := by simp [execCanRxLostRead, hfree]

end

theorem execCanCfg_of_fields {s t : State} {p : Packet} (given : Given 0x0A13 p s t) (hlen : p.params.length = 16)
    (hfields : (canFields p.params).all (·.2) = true) : execCanCfg s = .next (ok p (applyCan (p.params.take 16) t)) :=
  (interpret_given _ given).trans (congrArg _ (checked_ok _ _ _ _ _ hlen hfields))

theorem execCarriageGapTimeout_of_open {s : State} {node : Nat} (hopen : s.can.parts.any (fun x => x.node == node) = true) :
    execCarriageGapTimeout node s = .next (carriageDrop node 1 (modCan (fun c => { c with parts := c.parts.filter fun x => x.node != node }) s)) := by
  simp only [execCarriageGapTimeout, hopen, if_true]

/-- Settles O29: each row in the branch that its premises select. -/
theorem plantBusComplete : Obligations.PlantBusComplete :=
  ⟨fun _ _ _ given hlen hfields => execCanCfg_of_fields given hlen hfields,
   fun _ _ _ _ ide _ brs esi data hon hfd hcarriage hfind => execCanFrameReceived_of_hit hon ide brs esi data hfd hcarriage hfind,
   fun _ _ _ ide _ brs esi data hon hfd hcarriage hany hfind => execCanFrameReceived_of_full hon ide brs esi data hfd hcarriage hany hfind,
   fun _ _ _ brs esi data hon hcarriage hup hnet hnode hlow hreq =>
     execCanFrameReceived_of_carriage hon brs esi data hcarriage hup hnet hnode hlow hreq,
   fun _ _ hon hmode hoffered hb => execCanTxDone_of_buffer hon hmode hoffered hb,
   fun _ _ _ hon htec hpassive hst => execCanErrorStateChange_passive hon htec hpassive hst,
   fun _ _ rec_ hon htec => execCanErrorStateChange_off hon rec_ htec,
   fun _ _ _ hon htec hrec hst => execCanErrorStateChange_active hon htec hrec hst,
   fun _ hst hon => execCanRecovered_of_recovering hst hon,
   fun _ reg value hfree => execCanTxreq_of_free hfree reg value,
   fun _ reg value hfree => execCanTxabort_of_free hfree reg value,
   fun _ hfree => execCanRecover_of_free hfree,
   fun _ reader hfree => execCanRxLostRead_of_free hfree reader,
   fun _ src data hon hcarriage hup => execCarriageSegment_of_on hon src data hcarriage hup,
   fun _ _ hopen => execCarriageGapTimeout_of_open hopen⟩

end Sys2Proof.Machine
end

section
/-!
Proofs of the statements on the label's field side and its device side (ch 22).
-/
namespace Sys2Proof.Machine
open Sys2Proof

/-! ### The parts of a field command (R803-R805, R808, R811) -/

theorem sized_of_length {n : Nat} {q : FieldReq} (f : State → State) (s : State) (h : q.args.length = n) : sized n q f s = f s := if_pos h

theorem rangeErr_of_range {ext : Bool} {most : Nat} {r : Nat × Nat} (hrange : r.1 + r.2 ≤ if ext then 2048 else 256) (hcount : r.2 ≤ most) :
    rangeErr ext most r = none :=
  (if_neg (Nat.not_lt.mpr hrange)).trans (if_neg (Nat.not_lt.mpr hcount))

/-- The field transaction that a command begins. -/
def fieldBegun (busy : Nat) (s : State) : State := modLbl (fun x => { x with fieldEnd := s.us + busy }) s

theorem fieldTx_of_idle (busy : Nat) (f : State → State) {s : State} (h : s.lblWriting = false) : fieldTx busy f s = f (fieldBegun busy s) :=
  if_neg (Bool.eq_false_iff.mp h)

theorem fieldTx_of_writing (busy : Nat) (f : State → State) {s : State} (h : s.lblWriting = true) : fieldTx busy f s = lblErr 0xA1 s := if_pos h

section
variable {s : State} {req : Bytes} {q : FieldReq} (asked : Asked req q s)
include asked

theorem fieldRun_of_code {code : Nat} (f : FieldReq → State → State) (hcode : q.code = code) : fieldRun (· == code) req f s = .next (f q s) :=
  fieldRun_asked _ f asked (beq_iff_eq.mpr hcode)

/-! ### Selecting the label (R803, R804) -/

theorem execLblInventory_of_mask (hcode : q.code = 0x01) (hafi : q.flags.testBit 4 = false) :
    let len := u8 q.args 0
    q.args.length = 1 + ceilDiv len 8 → len ≤ 64 → leAt (q.args.drop 1) 0 (ceilDiv len 8) % 2 ^ len = u64 s.lblUid 0 % 2 ^ len →
    execLblInventory req s = .next (lblAnswer ([0, 0] ++ s.lblUid) s) := by
  intro len hlen hmost hmask
  refine (fieldRun_of_code asked _ hcode).trans (congrArg _ ?_)
  have tooLong : decide (64 < len) = false := decide_eq_false (by omega)
  simp only [hafi, Bool.false_eq_true, if_false, Bool.false_and, Bool.false_or]
  simp only [len] at hlen tooLong hmask
  simp only [hlen, tooLong, hmask, bne_self_eq_false, Bool.or_self, Bool.false_eq_true, if_false]

theorem execLblStayQuiet_of_addressed (hcode : q.code = 0x02) (haddr : q.flags.testBit 5 = true) :
    execLblStayQuiet req s = .next (modLbl (fun x => { x with tag := 1 }) s) :=
  (fieldRun_of_code asked _ hcode).trans (congrArg _ (by rw [haddr, whenS_true]))

theorem execLblSelect_of_addressed (hcode : q.code = 0x25) (haddr : q.flags.testBit 5 = true) :
    execLblSelect req s = .next (lblAnswer [0] (modLbl (fun x => { x with tag := 2 }) s)) :=
  (fieldRun_of_code asked _ hcode).trans (congrArg _ (by rw [haddr, whenS_true]))

end

/-! ### Reads, writes, locks and the security status (R805-R808) -/

section
variable {ext multi : Bool} {q : FieldReq} {s : State}

/-- A read or write form's parameters before the data. -/
def formLength (ext multi : Bool) : Nat := if multi then 2 * (if ext then 2 else 1) else if ext then 2 else 1

theorem fieldRead_of_form (busy : Nat) (hlen : q.args.length = formLength ext multi)
    (hrange : (q.blocks ext multi).1 + (q.blocks ext multi).2 ≤ if ext then 2048 else 256) (hcount : (q.blocks ext multi).2 ≤ 64) :
    let b := (q.blocks ext multi).1
    fieldRead ext multi busy q s = fieldTx busy (fun u => lblAnswer (0 :: ((List.range (q.blocks ext multi).2).map fun i =>
      (if q.flags.testBit 6 then [lockByte u (b + i)] else []) ++ u.lbl.mem.readN (4 * (b + i)) 4).flatten) u) s := by
  have noErr := rangeErr_of_range hrange hcount
  unfold FieldReq.blocks at noErr
  unfold formLength at hlen
  unfold fieldRead
  rw [sized_of_length _ _ hlen]
  simp only [noErr]
  rfl

theorem fieldRead_of_range (busy : Nat) (hlen : q.args.length = formLength ext multi)
    (hrange : (q.blocks ext multi).1 + (q.blocks ext multi).2 ≤ if ext then 2048 else 256) (hcount : (q.blocks ext multi).2 ≤ 64)
    (hidle : s.lblWriting = false) :
    let b := (q.blocks ext multi).1
    let u := fieldBegun busy s
    fieldRead ext multi busy q s = lblAnswer (0 :: ((List.range (q.blocks ext multi).2).map fun i =>
      (if q.flags.testBit 6 then [lockByte u (b + i)] else []) ++ u.lbl.mem.readN (4 * (b + i)) 4).flatten) u :=
  (fieldRead_of_form busy hlen hrange hcount).trans (fieldTx_of_idle busy _ hidle)

theorem fieldRead_of_writing (busy : Nat) (hlen : q.args.length = formLength ext multi)
    (hrange : (q.blocks ext multi).1 + (q.blocks ext multi).2 ≤ if ext then 2048 else 256) (hcount : (q.blocks ext multi).2 ≤ 64)
    (hwriting : s.lblWriting = true) : fieldRead ext multi busy q s = lblErr 0xA1 s :=
  (fieldRead_of_form busy hlen hrange hcount).trans (fieldTx_of_writing busy _ hwriting)

theorem fieldWrite_of_range (busy : Nat) (hlen : q.args.length = formLength ext multi + 4 * (q.blocks ext multi).2)
    (hrange : (q.blocks ext multi).1 + (q.blocks ext multi).2 ≤ if ext then 2048 else 256) (hcount : (q.blocks ext multi).2 ≤ 8)
    (hidle : s.lblWriting = false)
    (hopen : (List.range (q.blocks ext multi).2).all (fun i => lblOpen ((q.blocks ext multi).1 + i) && !s.lbl.locked.contains ((q.blocks ext multi).1 + i)) = true) :
    fieldWrite ext multi busy q s =
      lblAnswer [0] (lblStore (4 * (q.blocks ext multi).1) (q.args.drop (formLength ext multi)) (fieldBegun (min busy 2000) s)) := by
  have noErr := rangeErr_of_range hrange hcount
  have long : ¬ q.args.length < formLength ext multi := by omega
  unfold FieldReq.blocks at noErr hlen hopen
  unfold formLength at hlen long
  unfold fieldWrite
  simp only [long, if_false, noErr]
  rw [sized_of_length _ _ hlen, fieldTx_of_idle _ _ hidle]
  exact if_pos hopen

theorem fieldLock_of_open {b : Nat} (busy : Nat) (hlen : q.args.length = if ext then 2 else 1) (hb : leAt q.args 0 (if ext then 2 else 1) = b)
    (hrange : b < if ext then 2048 else 256) (hopen : lblOpen b = true) (hunlocked : s.lbl.locked.contains b = false) (hidle : s.lblWriting = false) :
    fieldLock ext busy q s = lblAnswer [0] (modLbl (fun x => { x with locked := nset b x.locked }) (fieldBegun (min busy 2000) s)) := by
  have noErr : rangeErr ext 1 (b, 1) = none := rangeErr_of_range (Nat.succ_le_of_lt hrange) (Nat.le_refl 1)
  have unlocked : (fieldBegun (min busy 2000) s).lbl.locked.contains b = false := hunlocked
  unfold fieldLock
  rw [sized_of_length _ _ hlen]
  simp only [hb, noErr]
  rw [fieldTx_of_idle _ _ hidle]
  simp only [hopen, unlocked, Bool.not_true, Bool.false_eq_true, if_false]

theorem fieldSecurity_of_range (busy : Nat) (hlen : q.args.length = 2 * (if ext then 2 else 1))
    (hrange : (q.blocks ext true).1 + (q.blocks ext true).2 ≤ if ext then 2048 else 256) (hidle : s.lblWriting = false) :
    let u := fieldBegun busy s
    fieldSecurity ext busy q s = lblAnswer (0 :: (List.range (q.blocks ext true).2).map fun i => lockByte u ((q.blocks ext true).1 + i)) u := by
  have most : (q.blocks ext true).2 ≤ 2048 := by
    split at hrange <;> omega
  have noErr := rangeErr_of_range hrange most
  unfold FieldReq.blocks at noErr
  unfold fieldSecurity
  rw [sized_of_length _ _ hlen]
  simp only [noErr]
  exact fieldTx_of_idle busy _ hidle

end

theorem leAt_one (b : Bytes) (i : Nat) : leAt b i 1 = u8 b i := by simp [leAt]

theorem u8_lt (b : Bytes) (i : Nat) : u8 b i < 256 := (b.getD i 0).isLt

/-! ### The commands without a range (R803, R804) -/

section
variable {s : State} {req : Bytes} {q : FieldReq} (asked : Asked req q s)
include asked

theorem execLblResetToReady_of_code (hcode : q.code = 0x26) :
    execLblResetToReady req s = .next (lblAnswer [0] (modLbl (fun x => { x with tag := 0 }) s)) := fieldRun_of_code asked _ hcode

theorem execLblGetSystemInfo_of_code (hcode : q.code = 0x2B) (hargs : q.args = []) :
    execLblGetSystemInfo req s = .next (lblAnswer ([0, 0x07] ++ s.lblUid ++ [0, 0, 0xFF, 3]) s) :=
  (fieldRun_of_code asked _ hcode).trans (congrArg _ (sized_of_length _ _ (by rw [hargs]; rfl)))

theorem execExtendedGetSystemInfo_of_info (busy : Nat) (hcode : q.code = 0x3B) (hlen : q.args.length = 1) :
    let ask := u8 q.args 0 % 8
    execExtendedGetSystemInfo req busy s = .next (lblAnswer ([0, BitVec.ofNat 8 ask] ++ s.lblUid ++ (if ask.testBit 0 then [0] else [])
      ++ (if ask.testBit 1 then [0] else []) ++ (if ask.testBit 2 then putLe 2 2047 ++ [3] else [])) s) :=
  (fieldRun_asked _ _ asked (by simp [hcode])).trans (congrArg _ ((if_neg (by omega)).trans (sized_of_length _ _ hlen)))

theorem execExtendedGetSystemInfo_of_security (busy : Nat) (hcode : q.code = 0x3C) :
    execExtendedGetSystemInfo req busy s = .next (fieldSecurity true busy q s) :=
  (fieldRun_asked _ _ asked (by simp [hcode])).trans (congrArg _ (if_pos hcode))

theorem execLblGetMultipleBlockSecurityStatus_of_range (busy : Nat) (hcode : q.code = 0x2C) (hlen : q.args.length = 2) :
    let b := u8 q.args 0
    let n := u8 q.args 1 + 1
    b + n ≤ 256 → s.lblWriting = false →
    let u := fieldBegun busy s
    execLblGetMultipleBlockSecurityStatus req busy s = .next (lblAnswer (0 :: (List.range n).map fun i => lockByte u (b + i)) u) := by
  rw [← leAt_one q.args 0, ← leAt_one q.args 1]
  intro b n hrange hidle
  exact (fieldRun_of_code asked _ hcode).trans (congrArg _ (fieldSecurity_of_range (ext := false) busy hlen hrange hidle))

theorem execUnsupportedFieldCommand_of_other (hcode : fieldCode q.code = false) : execUnsupportedFieldCommand req s = .next (lblErr 0x01 s) :=
  fieldRun_asked _ _ asked (by simp [hcode])

end

/-- Settles O40: each command is taken, and its form decides the answer. -/
theorem labelReadsComplete : Obligations.LabelReadsComplete :=
  ⟨fun _ _ _ asked hcode hafi => execLblInventory_of_mask asked hcode hafi,
   fun _ _ _ asked hcode haddr => execLblStayQuiet_of_addressed asked hcode haddr,
   fun _ _ _ asked hcode haddr => execLblSelect_of_addressed asked hcode haddr,
   fun _ _ _ asked hcode => execLblResetToReady_of_code asked hcode,
   fun _ _ busy _ asked hcode hlen hrange hidle => (fieldRun_of_code asked _ hcode).trans
     (congrArg _ (fieldRead_of_range (ext := false) (multi := false) busy hlen hrange (show 1 ≤ 64 by decide) hidle)),
   fun _ _ busy _ asked hcode hlen hrange hcount hidle => (fieldRun_of_code asked _ hcode).trans
     (congrArg _ (fieldRead_of_range (ext := false) (multi := true) busy hlen hrange hcount hidle)),
   fun _ _ busy _ asked hcode hlen hrange hidle => (fieldRun_of_code asked _ hcode).trans
     (congrArg _ (fieldRead_of_range (ext := true) (multi := false) busy hlen hrange (show 1 ≤ 64 by decide) hidle)),
   fun _ _ busy _ asked hcode hlen hrange hcount hidle => (fieldRun_of_code asked _ hcode).trans
     (congrArg _ (fieldRead_of_range (ext := true) (multi := true) busy hlen hrange hcount hidle)),
   fun _ _ busy _ asked hcode _ hlen hrange hidle hopen => (fieldRun_of_code asked _ hcode).trans
     (congrArg _ (fieldWrite_of_range (ext := false) (multi := false) busy hlen hrange (show 1 ≤ 8 by decide) hidle hopen)),
   fun _ _ busy _ asked hcode _ hlen hrange hcount hidle hopen => (fieldRun_of_code asked _ hcode).trans
     (congrArg _ (fieldWrite_of_range (ext := false) (multi := true) busy hlen hrange hcount hidle hopen)),
   fun _ _ busy _ asked hcode _ hlen hrange hidle hopen => (fieldRun_of_code asked _ hcode).trans
     (congrArg _ (fieldWrite_of_range (ext := true) (multi := false) busy hlen hrange (show 1 ≤ 8 by decide) hidle hopen)),
   fun _ _ busy _ asked hcode _ hlen hrange hcount hidle hopen => (fieldRun_of_code asked _ hcode).trans
     (congrArg _ (fieldWrite_of_range (ext := true) (multi := true) busy hlen hrange hcount hidle hopen)),
   fun _ _ busy _ asked hcode hlen hrange hopen hunlocked hidle => (fieldRun_of_code asked _ hcode).trans
     (congrArg _ (fieldLock_of_open (ext := false) busy hlen rfl hrange hopen hunlocked hidle)),
   fun _ _ busy _ asked hcode hlen hrange hopen hunlocked hidle => (fieldRun_of_code asked _ hcode).trans
     (congrArg _ (fieldLock_of_open (ext := true) busy hlen rfl hrange hopen hunlocked hidle)),
   fun _ _ busy _ asked hcode hlen => execLblGetMultipleBlockSecurityStatus_of_range asked busy hcode hlen,
   fun _ _ _ asked hcode hargs => execLblGetSystemInfo_of_code asked hcode hargs,
   fun _ _ busy _ asked hcode hlen => execExtendedGetSystemInfo_of_info asked busy hcode hlen,
   fun _ _ busy _ asked hcode hlen hrange hidle => (execExtendedGetSystemInfo_of_security asked busy hcode).trans
     (congrArg _ (fieldSecurity_of_range (ext := true) busy hlen hrange hidle)),
   fun _ _ _ asked hcode => execUnsupportedFieldCommand_of_other asked hcode,
   fun _ _ busy q asked hcode hlen hwriting => (fieldRun_of_code asked _ hcode).trans
     (congrArg _ (fieldRead_of_writing (ext := false) (multi := false) busy hlen
       (Nat.succ_le_of_lt (show leAt q.args 0 1 < 256 by rw [leAt_one]; exact u8_lt _ _)) (show 1 ≤ 64 by decide) hwriting))⟩

/-! ### The mailbox and the wake (R817-R819, R821, R822) -/

section
variable {s : State} {req : Bytes} {q : FieldReq} (asked : Asked req q s)
include asked

theorem execMbxSubmit_of_empty (busy : Nat) (hcode : q.code = 0xA0) (hsize : inR q.args.length 20 64 = true) (hwords : q.args.length % 4 = 0)
    (hdst : u16 q.args 8 = 0x6000) (hup : s.transportsUp = true) (hon : s.lblOn = true) (hidle : s.lblWriting = false) :
    let u := fieldBegun (min busy 2000) s
    u8 (u.lbl.mem.readN 4352 1) 0 ≠ 1 → execMbxSubmit req busy s =
      .next (frontEnd ⟨6, 0, 0⟩ 0 .label q.args (routePost 0x0B (lblAnswer [0] (lblStore 4352 ([1, 0] ++ slice q.args 6 2 ++ zeros 252) u)))) := by
  intro u hempty
  refine (fieldRun_of_code asked _ hcode).trans (congrArg _ ?_)
  simp only [hsize, hwords, hdst, hup, hon, Bool.not_true, bne_self_eq_false, Bool.or_self, Bool.false_eq_true, if_false]
  exact (fieldTx_of_idle _ _ hidle).trans (if_neg hempty)

theorem execLblWake_of_shelf (hcode : q.code = 0xA1) (hlen : q.args.length = 4) (hright : u32 q.args 0 = s.lblWakeCode)
    (hopen : s.lbl.barred ≤ s.us) (hst : s.pmc.st = .shelf) (hmask : s.aon.wakeMask.testBit 3 = true) : execLblWake req s =
      .next (wakeEvent 4 3 (modLbl (fun x => { x with wokeAt := some s.aon.rtcSec.toNat }) (lblAnswer [0] s))) := by
  rw [execLblWake_of_asked asked hcode hlen, if_neg (by simp [hst]), if_neg (Nat.not_lt.mpr hopen), if_neg (by simp [hright]),
    if_pos (by simp [hst]), if_pos hmask]

theorem execLblWake_of_wrong (hcode : q.code = 0xA1) (hlen : q.args.length = 4) (hwrong : u32 q.args 0 ≠ s.lblWakeCode)
    (hopen : s.lbl.barred ≤ s.us) (hoff : s.pmc.st ≠ .off) : execLblWake req s = .next (lblErr 0xA4 (modLbl (fun x =>
      if 4 ≤ s.wrongNow.length then { x with wrong := [], barred := s.us + 60000000 } else { x with wrong := s.wrongNow }) s)) := by
  rw [execLblWake_of_asked asked hcode hlen, if_neg (by simpa using hoff), if_neg (Nat.not_lt.mpr hopen), if_pos (by simpa using hwrong)]
  rfl

end

/-! ### The device's side (R809-R813, R816) -/

section
variable {s : State} {core : Nat} (hdone : s.lbl.done = true) (hcount : inR s.lbl.count 1 64 = true) (hrange : s.lbl.block + s.lbl.count ≤ 2048)
include hcount hrange

/-- The range that a warden set names blocks. -/
theorem lblRange_ok : (decide (s.lbl.count = 0) || decide (64 < s.lbl.count) || decide (2048 < s.lbl.block + s.lbl.count)) = false := by
  simp only [inR, Bool.and_eq_true, decide_eq_true_eq] at hcount
  simp only [Bool.or_eq_false_iff, decide_eq_false_iff_not]
  omega

include hdone

theorem execLabelDeviceRead_of_range : execLabelDeviceRead core s = .next (lblSubmit { use := .warden core, addr := 4 * s.lbl.block, count := s.lbl.count }
    (modLbl (fun x => { x with done := false, status := 0 }) s)) := by
  simp [execLabelDeviceRead, lblOp, hdone, lblRange_ok hcount hrange]

section
variable {closed : Bool}
  (hclosed : ((List.range s.lbl.count).map (s.lbl.block + ·)).all (fun b => lblOpen b && !s.lbl.locked.contains b) = !closed)
include hclosed

theorem execLabelDeviceWrite_of_range : execLabelDeviceWrite core s = .next (if closed then lblDone stDenied s
    else lblSubmit { use := .warden core, addr := 4 * s.lbl.block, data := s.lbl.buf.take (4 * s.lbl.count) }
      (modLbl (fun x => { x with done := false, status := 0 }) s)) := by
  unfold execLabelDeviceWrite lblOp
  simp only [hdone, lblRange_ok hcount hrange, hclosed, Bool.not_not, Bool.not_true, Bool.or_true, Bool.or_self, Bool.false_eq_true, if_false,
    beq_self_eq_true, Bool.true_and, if_true]

end

end

theorem execLabelDeferTimeout_of_warden {s : State} {j : LblJob} {rest : List LblJob} {core t : Nat} (hjobs : s.lbl.jobs = j :: rest)
    (hwaits : j.running = false) (hsince : j.since = some t) (huse : j.use = .warden core) :
    let u := logEvent 24 0x8003 (detail [(16, 1, core), (18, 2, j.addr / 4)]) s
    execLabelDeferTimeout s = .next (lblGo (lblDone stTimeout (modLbl (fun x => { x with jobs := rest }) u))) := by
  simp only [execLabelDeferTimeout, hjobs, hwaits, hsince, huse, Option.isNone_some, Bool.or_self, Bool.false_eq_true, if_false, jobEnd]

theorem execLabelWriteCommit_of_running {s : State} {j : LblJob} {rest : List LblJob} (hjobs : s.lbl.jobs = j :: rest)
    (hrunning : j.running = true) : execLabelWriteCommit s =
      .next (lblGo (jobEnd j stOk (lblStore j.addr j.data (modLbl (fun x => { x with jobs := rest }) s)))) := by
  simp only [execLabelWriteCommit, lblCommit, hjobs, hrunning, if_true]

/-- A record leaves the label as it is, and the time with it. -/
theorem logEvent_lbl (src code : Nat) (det : Bytes) (s : State) : (logEvent src code det s).lbl = s.lbl := by
  obtain ⟨_, _, _, _, hrep⟩ := logEvent_spec src code det s
  rw [hrep]

theorem logEvent_us (src code : Nat) (det : Bytes) (s : State) : (logEvent src code det s).us = s.us := by
  obtain ⟨_, _, _, _, hrep⟩ := logEvent_spec src code det s
  rw [hrep]

theorem logEvent_lblWriting (src code : Nat) (det : Bytes) (s : State) : (logEvent src code det s).lblWriting = s.lblWriting := by
  rw [State.lblWriting, State.lblWriting, logEvent_lbl]

theorem logEvent_lblField (src code : Nat) (det : Bytes) (s : State) : (logEvent src code det s).lblField = s.lblField := by
  rw [State.lblField, State.lblField, logEvent_lbl, logEvent_us]

theorem modJobs_nil_quiet {s : State} (hfield : s.lblField = false) :
    ((modLbl (fun x => { x with jobs := [] }) s).lblWriting || (modLbl (fun x => { x with jobs := [] }) s).lblField) = false := by
  have field : (modLbl (fun x => { x with jobs := [] }) s).lblField = false := hfield
  rw [field]
  rfl

/-- The mirror's transactions are all accepted, and records are missing. -/
theorem execMirrorTimeout_of_short {s : State} {t : Nat} (hmirror : s.lbl.mirrorAt = some t) (hjobs : s.lbl.jobs = []) (hfield : s.lblField = false)
    (hshort : s.lbl.mirrored < s.mirrorRecords.length) :
    let u := logEvent 24 0x8002 (detail [(16, 1, s.lbl.mirrored)]) (modLbl (fun x => { x with jobs := [] }) s)
    execMirrorTimeout s = .next (mirrorOver (lblStore 2048 (identFull u.lbl.mirrored u) u)) := by
  have none1 (f : LblJob → Bool) : modLbl (fun x => { x with jobs := x.jobs.filter f }) s = modLbl (fun x => { x with jobs := [] }) s := by
    simp only [modLbl, hjobs, List.filter_nil]
  have quiet := modJobs_nil_quiet hfield
  unfold execMirrorTimeout
  rw [if_neg (by simp [hmirror])]
  dsimp only
  rw [none1, hjobs]
  rw [List.filter_nil, List.foldl_nil, decide_eq_true hshort, whenS_true, logEvent_lblWriting, logEvent_lblField, quiet]
  rfl

/-- Settles O41: each row in the branch that its premises select. -/
theorem labelDeviceComplete : Obligations.LabelDeviceComplete :=
  ⟨fun _ _ busy _ asked hcode hsize hwords hdst hup hon hidle => execMbxSubmit_of_empty asked busy hcode hsize hwords hdst hup hon hidle,
   fun _ _ _ asked hcode hlen hright hopen hst hmask => execLblWake_of_shelf asked hcode hlen hright hopen hst hmask,
   fun _ _ _ asked hcode hlen hwrong hopen hoff => execLblWake_of_wrong asked hcode hlen hwrong hopen hoff,
   fun _ _ => rfl,
   fun _ _ hdone hcount hrange => execLabelDeviceRead_of_range hdone hcount hrange,
   fun _ _ hdone hcount hrange hopen => execLabelDeviceWrite_of_range hdone hcount hrange (closed := false) hopen,
   fun _ _ hdone hcount hrange hclosed => execLabelDeviceWrite_of_range hdone hcount hrange (closed := true) hclosed,
   fun _ => rfl,
   fun _ _ _ _ _ hjobs hwaits hsince huse => execLabelDeferTimeout_of_warden hjobs hwaits hsince huse,
   fun _ _ _ hjobs hrunning => execLabelWriteCommit_of_running hjobs hrunning,
   fun _ _ hmirror hjobs hfield hshort => execMirrorTimeout_of_short hmirror hjobs hfield hshort⟩

end Sys2Proof.Machine
end

section
/-!
Proofs of the statement on the expansion and service port (ch 23).
-/
namespace Sys2Proof.Machine
open Sys2Proof

/-! ### Master side (R830-R833) -/

/-- An even LEN up to 256 starts the transfer. -/
theorem xspCommand_of_idle {s : State} {v : Nat} (hidle : s.xsp.xfer = none) (hmaster : s.xsp.target = false) (heven : bitsOf v 29 21 % 2 = 0)
    (hlen : bitsOf v 29 21 ≤ 256) :
    let op := BitVec.ofNat 8 (bitsOf v 15 8)
    xspCommand v s = syncUse 20 (emit (.xspOut ([op, ~~~op] ++ (if v.testBit 3 then putBe 4 s.xsp.addr else [])
      ++ (if v.testBit 2 then s.xsp.buf.take (bitsOf v 29 21) else []))) (modXsp (fun x => { x with xfer := some v, status := 0 }) s)) := by
  have accepted : ((s.xsp.target && (s.bootDone || v % 4 == 1)) || bitsOf v 29 21 % 2 == 1 || decide (256 < bitsOf v 29 21)) = false := by
    simp [hmaster, heven, hlen]
  simp only [xspCommand, hidle, accepted, Option.isSome_none, Bool.false_eq_true, if_false]

section
variable {s : State} {cmd : Nat} (hidle : s.xsp.xfer = none) (hmaster : s.xsp.target = false) (heven : bitsOf cmd 29 21 % 2 = 0)
  (hlen : bitsOf cmd 29 21 ≤ 256)
include hidle hmaster heven hlen

theorem execXspMasterRead_of_dir (hdir : cmd.testBit 2 = false) :
    let op := BitVec.ofNat 8 (bitsOf cmd 15 8)
    execXspMasterRead cmd s = .next (syncUse 20 (emit (.xspOut ([op, ~~~op] ++ (if cmd.testBit 3 then putBe 4 s.xsp.addr else [])))
      (modXsp (fun x => { x with xfer := some cmd, status := 0 }) s))) := by
  simp only [execXspMasterRead, hdir, Bool.false_eq_true, if_false, Nat.sub_zero, xspCommand_of_idle hidle hmaster heven hlen, List.append_nil]

theorem execXspMasterWrite_of_dir (hdir : cmd.testBit 2 = true) :
    let op := BitVec.ofNat 8 (bitsOf cmd 15 8)
    execXspMasterWrite cmd s = .next (syncUse 20 (emit (.xspOut ([op, ~~~op] ++ (if cmd.testBit 3 then putBe 4 s.xsp.addr else [])
      ++ s.xsp.buf.take (bitsOf cmd 29 21))) (modXsp (fun x => { x with xfer := some cmd, status := 0 }) s))) := by
  simp only [execXspMasterWrite, hdir, if_true, Nat.add_zero, xspCommand_of_idle hidle hmaster heven hlen]

end

section
variable {s : State} {v : Nat} (hxfer : s.xsp.xfer = some v) (hdir : v.testBit 2 = false)
include hxfer hdir

theorem execXspMasterTransferDone_of_read (data : Bytes) : execXspMasterTransferDone data s =
    .next (xspEnd stOk (modXsp (fun x => { x with buf := overwrite x.buf 0 (data.take (bitsOf v 29 21)) }) s)) := by
  simp only [execXspMasterTransferDone, hxfer, hdir, Bool.false_eq_true, if_false]

theorem execXspMasterTimeout_of_read : execXspMasterTimeout s =
    .next (xspEnd stTimeout (logEvent 25 0x8004 (detail [(16, 1, v % 4), (17, 1, bitsOf v 15 8)]) s)) := by
  simp only [execXspMasterTimeout, hxfer, hdir, Bool.false_eq_true, if_false]

end

/-! ### Target side (R835-R840) -/

/-- A header word reaches the port, which is ready and between transfers. -/
structure XspListens (s : State) : Prop where
  /-- The port is a target. -/
  target : s.xsp.target = true
  /-- It is ready (R827). -/
  ready : s.xspReady = true
  /-- No header of this selection was refused. -/
  hears : s.xsp.deaf = false
  /-- No PKT_WRITE is unfinished. -/
  free : s.xsp.write = none

theorem XspListens.open_ {s : State} (h : XspListens s) : (!s.xsp.target || !s.xspReady || s.xsp.deaf || s.xsp.write.isSome) = false := by
  simp [h.target, h.ready, h.hears, h.free]

section
variable {s : State} {h : Nat} (hlistens : XspListens s)
include hlistens

theorem xspOp_of_ok {op : Nat} (f : Nat → Nat → State → State) (hok : xspHeaderOk h = true) (hop : h % 256 = op) :
    xspOp op h f s = .next (f (bitsOf h 15 8) (bitsOf h 31 16) s) := by
  simp only [xspOp, hlistens.open_, hok, hop, Bool.false_eq_true, if_false, if_true]

/-- A reserved operation or a malformed header is refused. -/
theorem xspOp_of_reserved (op : Nat) (f : Nat → Nat → State → State) (hok : xspHeaderOk h = false) (hop : 6 < h % 256) :
    xspOp op h f s = .next (logLimited 25 0x8003 0 1 1000000 (detail [(16, 1, h % 256), (17, 1, bitsOf h 15 8), (18, 2, bitsOf h 31 16)])
      (modXsp (fun x => { x with err := true, deaf := true }) s)) := by
  have refused : (decide (h % 256 = op) || decide (h % 256 = 0) || decide (6 < h % 256)) = true := by simp [hop]
  simp only [xspOp, hlistens.open_, hok, refused, Bool.false_eq_true, if_false, if_true]

theorem execXspPktWrite_of_words {data : Bytes} (hok : xspHeaderOk h = true) (hop : h % 256 = 1) (hdata : 4 * bitsOf h 31 16 ≤ data.length) :
    execXspPktWrite h data s = .next (frontEnd ⟨3, 0, 0⟩ 0 .service (data.take (4 * bitsOf h 31 16)) s) :=
  (xspOp_of_ok hlistens _ hok hop).trans (congrArg _ (if_pos (by rw [List.length_take]; omega)))

theorem execXspResultRead_of_words {words : Nat} (hok : xspHeaderOk h = true) (hop : h % 256 = 2) (hwords : words ≠ 0) :
    let len := bitsOf h 31 16
    let r := countRead s.cmd.crw0 1
    execXspResultRead h words s = .next (emit (.xspOut ((r.1 ++ zeros (4 * len)).take (4 * min len words) ++ zeros (4 * (words - len)))) (setWindow 3 r.2 s)) :=
  (xspOp_of_ok hlistens _ hok hop).trans (congrArg _ (if_neg hwords))

theorem execXspLockAcq_of_ok (hok : xspHeaderOk h = true) (hop : h % 256 = 3) :
    let r := lockAcquire holderService (bitsOf h 15 8) s
    execXspLockAcq h s = .next (emit (.xspOut (putLe 4 r.1)) r.2) := xspOp_of_ok hlistens _ hok hop

theorem execXspLockRel_of_ok (hok : xspHeaderOk h = true) (hop : h % 256 = 4) :
    execXspLockRel h s = .next (lockRelease holderService (bitsOf h 15 8) s) := xspOp_of_ok hlistens _ hok hop

theorem execXspStatus_of_words {words : Nat} (hok : xspHeaderOk h = true) (hop : h % 256 = 5) (hwords : words ≠ 0) :
    execXspStatus h words s = .next (emit (.xspOut (putLe 4 s.xspStatus ++ zeros (4 * (words - 1)))) (modXsp (fun x => { x with err := false, aborted := false }) s)) :=
  (xspOp_of_ok hlistens _ hok hop).trans (congrArg _ (if_neg hwords))

theorem execXspTargetReset_of_ok (hok : xspHeaderOk h = true) (hop : h % 256 = 6) : execXspTargetReset h s =
    .next (logEvent 25 0x8002 [] (advanceEpoch holderService (modXsp (fun x => { x with err := false, aborted := false, write := none }) s))) :=
  xspOp_of_ok hlistens _ hok hop

theorem execXspStatus_of_reserved (words : Nat) (hok : xspHeaderOk h = false) (hop : 6 < h % 256) : execXspStatus h words s =
    .next (logLimited 25 0x8003 0 1 1000000 (detail [(16, 1, h % 256), (17, 1, bitsOf h 15 8), (18, 2, bitsOf h 31 16)])
      (modXsp (fun x => { x with err := true, deaf := true }) s)) := xspOp_of_reserved hlistens _ _ hok hop

end

/-! ### SELECT_RELEASE (R841, R842) -/

theorem execXspSelectRelease_of_none {s : State} (hfree : s.xsp.write = none) :
    execXspSelectRelease s = .next (modXsp (fun x => { x with deaf := false, write := none }) s) := by
  simp only [execXspSelectRelease, hfree]

/-- Fewer than 16 bytes: the reply and the record have zeros for the packet's fields. -/
theorem execXspSelectRelease_of_short {s : State} {w : XspWrite} (hwrite : s.xsp.write = some w) (hshort : w.bytes.length < 16) :
    let u := modXsp (fun x => { x with deaf := false, write := none }) s
    let v := whenS (outstanding u 3 none == 0) (postWindow 3 (buildReply u 3 0 0 0 stAborted (errParams 0xFFFF 0))) u
    execXspSelectRelease s = .next (logEvent 25 0x8001 (detail [(16, 1, 1), (18, 2, w.bytes.length / 4), (20, 2, 0)])
      (modXsp (fun x => { x with aborted := true }) v)) := by
  simp only [execXspSelectRelease, hwrite, Nat.not_le.mpr hshort, if_false]

/-- Settles O19: each row in the branch that its premises select. -/
theorem servicePortComplete : Obligations.ServicePortComplete :=
  ⟨fun _ _ hidle hmaster heven hlen hdir => execXspMasterRead_of_dir hidle hmaster heven hlen hdir,
   fun _ _ hidle hmaster heven hlen hdir => execXspMasterWrite_of_dir hidle hmaster heven hlen hdir,
   fun _ data _ hxfer hdir => execXspMasterTransferDone_of_read hxfer hdir data,
   fun _ _ hxfer hdir => execXspMasterTimeout_of_read hxfer hdir,
   fun _ _ _ ht hr hd hw hok hop hdata => execXspPktWrite_of_words ⟨ht, hr, hd, hw⟩ hok hop hdata,
   fun _ _ _ ht hr hd hw hok hop hwords => execXspResultRead_of_words ⟨ht, hr, hd, hw⟩ hok hop hwords,
   fun _ _ ht hr hd hw hok hop => execXspLockAcq_of_ok ⟨ht, hr, hd, hw⟩ hok hop,
   fun _ _ ht hr hd hw hok hop => execXspLockRel_of_ok ⟨ht, hr, hd, hw⟩ hok hop,
   fun _ _ _ ht hr hd hw hok hop hwords => execXspStatus_of_words ⟨ht, hr, hd, hw⟩ hok hop hwords,
   fun _ _ ht hr hd hw hok hop => execXspTargetReset_of_ok ⟨ht, hr, hd, hw⟩ hok hop,
   fun _ _ words ht hr hd hw hok hop => execXspStatus_of_reserved ⟨ht, hr, hd, hw⟩ words hok hop,
   fun _ hfree => execXspSelectRelease_of_none hfree,
   fun _ _ hwrite hshort => execXspSelectRelease_of_short hwrite hshort⟩

end Sys2Proof.Machine
end

section
/-!
Proofs of the statement on counting reads, the counter banks, the test access port and the debug session (02, 28).
-/
namespace Sys2Proof.Machine
open Sys2Proof

/-! ### Counting reads (R52, R53) -/

section
variable {s : State} {win : Nat} (reader : Nat)

theorem execResultCountingRead_of_window (hwin : inR win 2 6 = true) :
    let r := countRead (getWindow win s) reader
    execResultCountingRead win reader s = .next (answerRead reader r.1 (setWindow win r.2 s)) := by
  have hlow : ¬ 16 ≤ win := by
    simp only [inR, Bool.and_eq_true, decide_eq_true_eq] at hwin
    omega
  simp only [execResultCountingRead, hlow, if_false, hwin, if_true]

theorem execResultCountingRead_of_slot (hlow : 16 ≤ win) (hhigh : win < 80) :
    let r := countSlot (win - 16) reader s
    execResultCountingRead win reader s = .next (answerRead reader r.1 r.2) := by
  simp only [execResultCountingRead, hlow, if_true, Nat.not_le.mpr hhigh, if_false]

end

/-! ### The counter banks (R988, R991, R995, R997) -/

section
variable {s t : State} {p : Packet}

theorem execCntBankEnable_of_off (given : Given 0x0E01 p s t) (hlen : p.params.length = 4) (hbank : u8 p.params 0 < 8)
    (hgroup : inR (u8 p.params 1) 1 7 = true) (hscope : scopeOk (u8 p.params 1) (u16 p.params 2) = true) :
    let k := u8 p.params 0
    t.domLost (90 + k) = false → (t.bank k).on = false →
    execCntBankEnable s = .next (ok p (logEvent 30 0x8001 (detail [(16, 1, k), (17, 1, u8 p.params 1), (18, 2, u16 p.params 2)])
      (followUse (90 + k) true { t with cnt := { t.cnt with
        banks := tput {} t.cnt.banks k { on := true, group := u8 p.params 1, scope := u16 p.params 2 } } }))) := by
  intro k hfree hoff
  refine (interpret_given _ given).trans (congrArg _ ((checked_ok _ _ _ _ _ hlen (by simp [hbank, hgroup, hscope])).trans ?_))
  exact (if_neg (Bool.eq_false_iff.mp hfree)).trans (if_neg (Bool.eq_false_iff.mp hoff))

theorem execCntBankDisable_of_on (given : Given 0x0E02 p s t) (hlen : p.params.length = 4) (hbank : u8 p.params 0 < 8)
    (hon : (t.bank (u8 p.params 0)).on = true) : execCntBankDisable s = .next (ok p (bankOff (u8 p.params 0) 0 t)) :=
  (interpret_given _ given).trans (congrArg _ ((checked_ok _ _ _ _ _ hlen (by simp [hbank])).trans (if_pos hon)))

theorem execCntSnapshot_of_mask (given : Given 0x0E03 p s t) (hlen : p.params.length = 4) (hmask : u8 p.params 0 ≠ 0) :
    execCntSnapshot s = .next (complete p stOk (putLe 4 t.log.tick.toNat ++ putLe 4 t.aon.rtcSec.toNat ++ putLe 1 t.onBanks ++ zeros 3)
      { t with cnt := { t.cnt with window := t.copied (u8 p.params 0) } }) :=
  (interpret_given _ given).trans (congrArg _ (checked_ok _ _ _ _ _ hlen (by simp [hmask])))

theorem execCntRead_of_range (given : Given 0x0E04 p s t) (hlen : p.params.length = 4) (hbank : u8 p.params 0 < 8)
    (hfirst : u8 p.params 1 < 64) (hone : 1 ≤ u8 p.params 2) (hrange : u8 p.params 1 + u8 p.params 2 ≤ 64) :
    let x := t.bank (u8 p.params 0)
    execCntRead s = .next (complete p stOk (putLe 4 t.log.tick.toNat ++ putLe 1 x.group ++ zeros 1 ++ putLe 2 x.scope ++ zeros 4
      ++ ((List.range (u8 p.params 2)).map fun i => putLe 8 (x.entry (u8 p.params 1 + i))).flatten) t) := by
  have hcount : u8 p.params 2 ≤ 64 := by omega
  exact (interpret_given _ given).trans (congrArg _ (checked_ok _ _ _ _ _ hlen (by simp [hbank, hfirst, hrange, inR, hone, hcount])))

end

/-! ### JTAG and the debug session (R1000-R1004) -/

theorem loadIr_of_works {s : State} (code : Nat) (h : s.tapWorks = true) :
    loadIr code s = .next (closeSession 0 { s with cnt := { s.cnt with ir := code } }) := congrArg _ (if_pos h)

theorem State.tapWorks_of_live {s : State} (h : s.live = true) : s.tapWorks = true := by simp [State.tapWorks, h]

/-- In RUN and TRIM the port works, and not in HOLD. -/
theorem State.dataOn.live {s : State} (h : s.dataOn = true) : s.live = true ∧ (s.pmc.st != .hold) = true := by
  simp only [State.dataOn, Bool.or_eq_true, beq_iff_eq] at h
  rcases h with h | h <;> simp [State.live, h]

theorem execDbgAccess_of_allowed {s : State} (hdata : s.dataOn = true) (hnone : s.cnt.session = false) (hallowed : s.debugAllowed = true)
    (hfree : s.domLost 9 = false) (hunreset : s.unreset = true) :
    let u := followUse 9 true { s with cnt := { s.cnt with ir := 0x10, session := true, dbg := ⟨0, 0⟩ } }
    execDbgAccess s = .next (logEvent 30 0x8003 (detail [(16, 1, u.lcyState)]) u) := by
  obtain ⟨hlive, hhold⟩ := State.dataOn.live hdata
  have closed : ¬ (!s.tapWorks || s.cnt.session) = true := by simp [State.tapWorks_of_live hlive, hnone]
  have opens : (s.live && s.pmc.st != .hold && !s.domLost 9 && s.unreset) = true := by simp [hlive, hhold, hfree, hunreset]
  exact (if_neg closed).trans ((if_pos hallowed).trans (if_pos opens))

theorem execDbgAccess_of_denied {s : State} (hlive : s.live = true) (hnone : s.cnt.session = false) (hdenied : s.debugAllowed = false) :
    let u := { s with cnt := { s.cnt with ir := 0x10 } }
    execDbgAccess s = .next (logEvent 30 0x8005 (detail [(16, 1, u.lcyState)]) u) := by
  have closed : ¬ (!s.tapWorks || s.cnt.session) = true := by simp [State.tapWorks_of_live hlive, hnone]
  exact (if_neg closed).trans (if_neg (Bool.eq_false_iff.mp hdenied))

section
variable {s : State} (hsession : s.cnt.session = true)
include hsession

theorem dbgOp_of_session (f : State → State) : dbgOp false f s = .next (f s) := by
  simp only [dbgOp, hsession, Bool.not_true, Bool.false_eq_true, if_false]

section
variable {addr : Nat} (halign : addr % 4 = 0) (hrange : addr < 2 ^ 48) (hkey : inKeySpace addr = false)
include halign hrange hkey

/-- An aligned address outside the key space is accessed. -/
theorem dbgAccess_of_address (f : State → State) :
    dbgOp false (fun s => if addr % 4 != 0 || 2 ^ 48 ≤ addr then setDbg 0 stBadParam s
      else if inKeySpace addr then setDbg 0 stDenied s else f s) s = .next (f s) := by
  have good : ¬ (addr % 4 != 0 || decide (2 ^ 48 ≤ addr)) = true := by
    simp only [halign, bne_self_eq_false, Bool.false_or, decide_eq_true_eq]
    omega
  exact (dbgOp_of_session hsession _).trans (congrArg _ ((if_neg good).trans (if_neg (Bool.eq_false_iff.mp hkey))))

theorem execDebugDeviceRead_of_address : execDebugDeviceRead addr false s = .next (dbgAnswer (devRead debugAgent addr s) s) :=
  dbgAccess_of_address hsession halign hrange hkey fun s => dbgAnswer (devRead debugAgent addr s) s

theorem execDebugDeviceWrite_of_address (value : Nat) :
    execDebugDeviceWrite addr value false s = .next (dbgAnswer (devWrite debugAgent addr (value % 2 ^ 32) s) s) :=
  dbgAccess_of_address hsession halign hrange hkey fun s => dbgAnswer (devWrite debugAgent addr (value % 2 ^ 32) s) s

end

theorem execDebugDeviceRead_of_unaligned {addr : Nat} (halign : addr % 4 ≠ 0) : execDebugDeviceRead addr false s = .next (setDbg 0 stBadParam s) :=
  (dbgOp_of_session hsession _).trans (congrArg _ (if_pos (by simp [halign])))

theorem execDebugWardenMemoryRead_of_on {core : Nat} (space addr : Nat) (hcore : core ≤ 4) (hfree : s.domLost (15 + core) = false)
    (hon : s.isOn (15 + core) = true) : execDebugWardenMemoryRead core space addr false s =
      .next (setDbg (tget 0 (if space % 2 = 0 then (s.core core).code else (s.core core).data) (addr % 65536)) stOk s) :=
  (dbgOp_of_session hsession _).trans (congrArg _ ((if_neg (Nat.not_lt.mpr hcore)).trans
    ((if_neg (Bool.eq_false_iff.mp hfree)).trans (if_neg (by simp [hon])))))

end

/-- Settles O16: each command taken with its parameters checked, and each row in the branch that its premises select. -/
theorem countersAndDebugComplete : Obligations.CountersAndDebugComplete :=
  ⟨fun _ _ reader hwin => execResultCountingRead_of_window reader hwin,
   fun _ _ reader hlow hhigh => execResultCountingRead_of_slot reader hlow hhigh,
   fun _ _ _ given hlen => (interpret_given _ given).trans (congrArg _ (checked_ok _ _ _ _ _ hlen rfl)),
   fun _ _ _ given hlen hbank hgroup hscope => execCntBankEnable_of_off given hlen hbank hgroup hscope,
   fun _ _ _ given hlen hbank hon => execCntBankDisable_of_on given hlen hbank hon,
   fun _ _ _ given hlen hmask => execCntSnapshot_of_mask given hlen hmask,
   fun _ _ _ given hlen hbank hfirst hone hrange => execCntRead_of_range given hlen hbank hfirst hone hrange,
   fun _ h => loadIr_of_works 0x00 h,
   fun _ h => loadIr_of_works 0x01 h,
   fun _ h => loadIr_of_works 0x02 h,
   fun _ h => loadIr_of_works 0x03 h,
   fun _ h => loadIr_of_works 0x04 h,
   fun _ h => loadIr_of_works 0x05 h,
   fun _ h => loadIr_of_works 0x06 h,
   fun _ h => loadIr_of_works 0xFF h,
   fun _ hdata hnone hallowed hfree hunreset => execDbgAccess_of_allowed hdata hnone hallowed hfree hunreset,
   fun _ hlive hnone hdenied => execDbgAccess_of_denied hlive hnone hdenied,
   fun _ _ hsession halign hrange hkey => execDebugDeviceRead_of_address hsession halign hrange hkey,
   fun _ _ hsession halign => execDebugDeviceRead_of_unaligned hsession halign,
   fun _ _ value hsession halign hrange hkey => execDebugDeviceWrite_of_address hsession halign hrange hkey value,
   fun _ _ space addr hsession hcore hfree hon => execDebugWardenMemoryRead_of_on hsession space addr hcore hfree hon,
   fun _ => rfl⟩

end Sys2Proof.Machine
end

section
/-!
Proofs of the statement on the lattice links (ch 24): frames, states and quality.
-/
namespace Sys2Proof.Machine
open Sys2Proof

/-- A change of a link is decided by what it makes of the link as it is. -/
theorem modLink_congr {l : Nat} {f g : LatLink → LatLink} {s : State} (h : f (s.link l) = g (s.link l)) : modLink l f s = modLink l g s := by
  have same : tmod {} s.lat.links l f = tmod {} s.lat.links l g := congrArg (tput ({} : LatLink) s.lat.links l) h
  exact congrArg (fun t => { s with lat := { s.lat with links := t } }) same

/-! ### A frame slot (R851) -/

section
variable {s : State} {l : Nat}

theorem latSlot_of_resend {k : Nat} {g : LatSeg} (hst : 2 ≤ (s.link l).st) (hresend : (s.link l).resend = some k)
    (hg : (s.link l).replay[k]? = some g) :
    let u := modLink l (fun x => { x with resend := if k + 1 < x.replay.length then some (k + 1) else none, now := { x.now with retx := x.now.retx + 1 } }) s
    latSlot l s = latPut l g.head g.fseq g.valid g.data u := by
  simp only [latSlot, Nat.not_lt.mpr hst, if_false, hresend, Option.bind_some, hg, Option.map_some]

/-- Nothing is sent again and no carriage is being sent. -/
theorem latSlot_of_hello (hst : 4 ≤ (s.link l).st) (hresend : (s.link l).resend = none) (htx : (s.link l).tx = none)
    (hdue : (s.link l).helloDue = true) :
    latSlot l s = latPut l 1 0 0 (s.hello l) (modLink l (fun x => { x with helloDue := false }) s) := by
  have started : ¬ (s.link l).st < 2 := by omega
  simp only [latSlot, started, if_false, hresend, Option.bind_none, htx, Option.isSome_none, Bool.false_and, Bool.false_eq_true, hdue,
    hst, decide_true, Bool.and_self, if_true]

/-- On a lane with nothing to send, an IDLE frame. -/
theorem latSlot_of_idle (hst : 2 ≤ (s.link l).st) (hmode : (s.link l).mode = 1) (hresend : (s.link l).resend = none) (htx : (s.link l).tx = none)
    (hdue : (s.link l).helloDue = false) (hempty : (s.link l).st ≠ 5 ∨ ((s.link l).ctrlQ = [] ∧ (s.link l).dataQ = [])) :
    latSlot l s = latPut l 0 0 0 [] s := by
  have lane : ((s.link l).mode == 2) = false := by rw [hmode]; rfl
  simp only [latSlot, Nat.not_lt.mpr hst, if_false, hresend, Option.bind_none, htx, Option.isSome_none, Bool.false_and, Bool.false_eq_true,
    hdue, lane]
  rcases hempty with hdown | ⟨hctrl, hdata⟩
  · simp only [bne_iff_ne.mpr hdown, Bool.true_or, if_true]
  · simp only [hctrl, hdata, ite_self]

end

section
variable {s : State} {link : Nat} (hl : link ≤ 3)
include hl

theorem link_listed : link < 4 := Nat.lt_succ_of_le hl

theorem execLatticeFrameSlot_of_link : execLatticeFrameSlot link s = .next (latSlot link s) := congrArg _ (if_pos (link_listed hl))

theorem execLatticeFrameReceived_of_lane (offset : Nat) (bytes : Bytes) (hmode : (s.link link).mode = 1) (h58 : s.isOn 58 = true)
    (hon : s.isOn (59 + link) = true) : execLatticeFrameReceived link offset bytes s = .next (hoCheck (laneFrame link offset bytes s)) := by
  simp only [execLatticeFrameReceived, link_listed hl, hmode, h58, hon, decide_true, beq_self_eq_true, Bool.and_self, if_true]

/-! ### Link states (R857-R862, R867) -/

theorem execSymbolLock_of_training (hmode : (s.link link).mode = 1) (hst : (s.link link).st = 2) :
    execSymbolLock link s = .next (modLink link (fun x => { x with st := 3, cand := none }) s) := by
  simp only [execSymbolLock, link_listed hl, hmode, hst, decide_true, beq_self_eq_true, Bool.and_self, if_true]

theorem execSymbolLockTimeout_of_training (hmode : (s.link link).mode = 1) (hst : (s.link link).st = 2) :
    execSymbolLockTimeout link s = .next (trainFailed link s) := by
  simp only [execSymbolLockTimeout, link_listed hl, hmode, hst, decide_true, beq_self_eq_true, Bool.and_self, if_true]

theorem execTrainingTimeout_of_training (hst : inR (s.link link).st 2 4 = true) : execTrainingTimeout link s = .next (trainFailed link s) := by
  simp only [execTrainingTimeout, link_listed hl, hst, decide_true, Bool.and_self, if_true]

theorem execLinkRetrain_of_due (hdue : (s.link link).retrain = true) :
    execLinkRetrain link s = .next (latTrain link (modLink link (fun x => { x with retrain := false }) s)) := by
  simp only [execLinkRetrain, link_listed hl, hdue, decide_true, Bool.and_self, if_true]

theorem execHelloTimer_of_peer (hst : 4 ≤ (s.link link).st) :
    execHelloTimer link s = .next (modLink link (fun x => { x with helloDue := true }) s) := by
  simp only [execHelloTimer, link_listed hl, hst, decide_true, Bool.and_self, if_true]

section
variable (hst : (s.link link).st = 5)
include hst

theorem execDeadTimer_of_up : execDeadTimer link s = .next (hoCheck (linkDown link 1 s)) := by
  simp only [execDeadTimer, State.latUp, link_listed hl, hst, decide_true, beq_self_eq_true, Bool.and_self, if_true]

/-- The 8th expiry takes the link down. -/
theorem execReplayTimer_of_replay (hreplay : (s.link link).replay ≠ []) : execReplayTimer link s =
    .next (if 8 ≤ (s.link link).expiries + 1 then hoCheck (linkDown link 3 s)
      else modLink link (fun x => { x with expiries := x.expiries + 1, resend := some 0 }) s) := by
  have waits : (s.link link).replay.isEmpty = false := List.isEmpty_eq_false_iff.mpr hreplay
  simp only [execReplayTimer, link_listed hl, hst, waits, decide_true, beq_self_eq_true, Bool.not_false, Bool.and_self, if_true]

end

/-! ### Quality (R875, R876) -/

theorem execQualityWindow_of_unjudged (h : (s.link link).now.rx = 0 ∨ (s.link link).st < 4) :
    execQualityWindow link s = .next (modLink link (fun x => { x with last := x.now, now := {} }) s) := by
  have unjudged : (decide ((s.link link).now.rx = 0) || decide ((s.link link).st < 4)) = true := by simpa using h
  simp only [execQualityWindow, Nat.not_le.mpr (link_listed hl), if_false, unjudged, if_true]
  exact congrArg _ (modLink_congr rfl)

/-- At the threshold an INIT link becomes DEGRADED. -/
theorem execQualityWindow_of_worse (hrx : 0 < (s.link link).now.rx) (hst : (s.link link).st = 4) (hgood : (s.link link).degraded = false)
    (hworse : u16 (s.link link).block 6 * (s.link link).now.rx ≤ ((s.link link).now.bad + (s.link link).now.fcrc) * 1000000) :
    let w := (s.link link).now
    let v := modLink link (fun x => { x with degraded := true, calm := 0 }) (modLink link (fun x => { x with last := w, now := {} }) s)
    execQualityWindow link s = .next (lsaDue (logEvent 26 0x8004
      (detail [(16, 1, link), (17, 1, 1), (20, 4, (w.bad + w.fcrc) * 1000000 / w.rx)]) v)) := by
  have judged : (decide ((s.link link).now.rx = 0) || decide ((s.link link).st < 4)) = false := by
    simp only [hst, Bool.or_eq_false_iff, decide_eq_false_iff_not]
    omega
  have notUp : ((s.link link).st == 5) = false := by rw [hst]; rfl
  simp only [execQualityWindow, Nat.not_le.mpr (link_listed hl), judged, hgood, hworse, notUp, decide_true, Bool.and_false, Bool.false_eq_true,
    if_false, if_true]

end

/-! ### Tunnels and carriages (R874, R878, R880) -/

theorem execTunnelFrameReceived_of_good {s : State} {p l : Nat} {bytes : Bytes} (hlow : 64 ≤ bytes.length)
    (hhigh : bytes.length ≤ (s.port p).maxFrame)
    (hfcs : u32 bytes (bytes.length - 4) = (fcs (bytes.take (bytes.length - 4))).toNat) (hup : s.portUp p = true) (hdata : s.dataOn = true)
    (htrans : s.pmc.trans = none) (htunnel : s.tunnelLink p (bytes.take (bytes.length - 4)) = some l) : execTunnelFrameReceived p bytes s =
      .next (hoCheck (tunnelIn l (bytes.take (bytes.length - 4)) (countEv 1 p 6 bytes.length (countEv 1 p 0 1 s)))) := by
  simp only [execTunnelFrameReceived, hlow, hhigh, hfcs, hup, hdata, htrans, htunnel, decide_true, beq_self_eq_true, Option.isNone_none,
    Bool.and_self, if_true]

theorem execTunnelFlush_of_tunnel {s : State} {link : Nat} (hl : link ≤ 3) (hmode : (s.link link).mode = 2) :
    execTunnelFlush link s = .next (tunnelFlush link s) := by
  simp only [execTunnelFlush, link_listed hl, hmode, decide_true, beq_self_eq_true, Bool.and_self, if_true]

theorem execCommandCarriage_of_inbox {s t : State} {l : Nat} {b : Bytes} (hinbox : takeInbox (fun _ b => u8 b 4 == 1) s = some (l, b, t))
    (hup : t.transportsUp = true) (hfree : t.domLost 58 = false) :
    let src := u16 b 2 % 4096
    execCommandCarriage s = .next (frontEnd ⟨4, src, if src = 0 then l + 1 else 0⟩ l (.lattice l src) (b.drop 8) t) := by
  simp only [execCommandCarriage, hinbox, hup, hfree, Bool.not_false, Bool.and_self, if_true]

/-- Settles O37: each row in the branch that its premises select. -/
theorem latticeLinksComplete : Obligations.LatticeLinksComplete :=
  ⟨fun _ _ offset bytes hl hmode h58 hon => execLatticeFrameReceived_of_lane hl offset bytes hmode h58 hon,
   fun _ _ _ _ hl hst hresend hg => (execLatticeFrameSlot_of_link hl).trans (congrArg _ (latSlot_of_resend hst hresend hg)),
   fun _ _ hl hst hresend htx hdue => (execLatticeFrameSlot_of_link hl).trans (congrArg _ (latSlot_of_hello hst hresend htx hdue)),
   fun _ _ hl hst hmode hresend htx hdue hempty =>
     (execLatticeFrameSlot_of_link hl).trans (congrArg _ (latSlot_of_idle hst hmode hresend htx hdue hempty)),
   fun _ _ hl hmode hst => execSymbolLock_of_training hl hmode hst,
   fun _ _ hl hmode hst => execSymbolLockTimeout_of_training hl hmode hst,
   fun _ _ hl hst => execTrainingTimeout_of_training hl hst,
   fun _ _ hl hdue => execLinkRetrain_of_due hl hdue,
   fun _ _ hl hst => execHelloTimer_of_peer hl hst,
   fun _ _ hl hst => execDeadTimer_of_up hl hst,
   fun _ _ hl hst hreplay hfew => (execReplayTimer_of_replay hl hst hreplay).trans (congrArg _ (if_neg (by omega))),
   fun _ _ hl hst hreplay hmany => (execReplayTimer_of_replay hl hst hreplay).trans (congrArg _ (if_pos (by omega))),
   fun _ _ hl h => execQualityWindow_of_unjudged hl h,
   fun _ _ hl hrx hst hgood hworse => execQualityWindow_of_worse hl hrx hst hgood hworse,
   fun _ _ _ _ hlow hhigh hfcs hup hdata htrans htunnel => execTunnelFrameReceived_of_good hlow hhigh hfcs hup hdata htrans htunnel,
   fun _ _ hl hmode => execTunnelFlush_of_tunnel hl hmode,
   fun _ _ _ _ hinbox hup hfree => execCommandCarriage_of_inbox hinbox hup hfree⟩

end Sys2Proof.Machine
end

section
/-!
Proofs of the statement on advertisements, vertex claims, routes and stacks (ch 25).
-/
namespace Sys2Proof.Machine
open Sys2Proof

/-! ### Advertisements and claims (R889, R892-R895) -/

section
variable {s t : State}

theorem execLsaReceived_of_inbox {l : Nat} {b : Bytes} (hinbox : takeInbox (fun _ b => u8 b 4 == 0x10) s = some (l, b, t))
    (hfree : t.domLost 58 = false) : execLsaReceived s = .next (lsaIn l (b.drop 8) t) := by
  simp only [execLsaReceived, hinbox, hfree, Bool.false_eq_true, if_false]

/-- No own LSA was sent within 100 ms. -/
theorem originate_of_first (hfirst : s.lat.lsaAt = none) :
    let u := modLat (fun x => { x with seq := (x.seq + 1) % 2 ^ 32, lsaDue := false, lsaAt := some s.us }) s
    originate s = floodLsa none u.ownLsa (modLat (fun x => { x with lsdb := tins s.ownSerial u.ownLsa x.lsdb }) u) := by
  simp only [originate, hfirst, Option.any_none, Bool.false_eq_true, if_false]
  rfl

theorem execLsaOriginate_of_first (hup : s.transportsUp = true) (hon : s.isOn 58 = true) : execLsaOriginate s = .next (originate s) := by
  simp only [execLsaOriginate, hup, hon, Bool.and_self, if_true]

theorem execLsaAgeExpiry_of_other {serial : Nat} (hother : serial ≠ s.ownSerial) :
    execLsaAgeExpiry serial s = .next (modLat (fun x => { x with lsdb := tdel serial x.lsdb }) s) := by
  simp only [execLsaAgeExpiry, beq_false_of_ne hother, Bool.false_eq_true, if_false]

theorem execVertexClaimHeld_of_claim (hclaim : s.lat.vst = 1) : execVertexClaimHeld s =
    .next (lsaDue (logEvent 26 0x8008 (detail [(16, 2, s.lat.id)]) (modLat (fun x => { x with vst := 2 }) s))) :=
  congrArg _ (if_pos hclaim)

end

/-! ### LAT_VERTEX_SET (R887, R882, R898) -/

section
variable {s t : State} {p : Packet}

/-- A fixed vertex ID that the device does not have yet. -/
theorem execLatVertexSet_of_fixed (given : Given 0x0B02 p s t) (hlen : p.params.length = 4) (hop : u8 p.params 0 = 1)
    (hmode : u8 p.params 1 = 1) (hid : inR (u16 p.params 2) 1 4095 = true) (hnew : t.lat.mode ≠ 1 ∨ u16 p.params 2 ≠ t.lat.fixed) :
    execLatVertexSet s = .next (ok p (startClaim (lsaDue (modLat (fun x => { x with mode := 1, fixed := u16 p.params 2, alias_ := 0 }) t)))) := by
  have changed : (1 == t.lat.mode && (1 != 1 || u16 p.params 2 == t.lat.fixed)) = false := by
    rcases hnew with h | h
    · simp [beq_false_of_ne h.symm]
    · simp [h]
  refine (interpret_given _ given).trans (congrArg _ ?_)
  simp only [hop]
  refine (checked_ok _ _ _ _ _ hlen (by simp [hmode, hid])).trans ?_
  simp only [hmode, changed, Bool.not_false, Bool.or_true, Bool.false_and, Bool.false_eq_true, if_false, if_true]

theorem execLatVertexSet_of_link (given : Given 0x0B02 p s t) (hlen : p.params.length = 32) (hop : u8 p.params 0 = 2)
    (hfields : (linkFields t p.params).all (·.2) = true) :
    execLatVertexSet s = .next (ok p (hoCheck (setLinkCfg (u8 p.params 4) (u16 p.params 28) (slice p.params 4 24) t))) := by
  refine (interpret_given _ given).trans (congrArg _ ?_)
  simp only [hop]
  exact checked_ok _ _ _ _ _ hlen hfields

/-! ### Stacks (R906, R912, R913, R929) -/

theorem execLatStackJoin_of_members (given : Given 0x0B03 p s t) (hlen : p.params.length = 80) (hop : u8 p.params 0 = 1)
    (hstack : 1 ≤ u8 p.params 1) (hcount : inR (u8 p.params 3) 2 8 = true) (hslot : u16 p.params 4 = 0xFFFF)
    (hflag : (u8 p.params 6).testBit 0 = false) (hserials : serialsBad p.params = none)
    (hown : (List.range (u8 p.params 3)).any (fun i => u64 p.params (16 + 8 * i) == t.ownSerial) = true)
    (hfree : t.lat.stackId = 0 ∨ t.lat.stackId = u8 p.params 1) :
    execLatStackJoin s = .next (ok p (lsaDue (modLat (fun x => { x with stack := p.params, role := max 1 x.role }) t))) := by
  have free : (t.lat.stackId != 0 && t.lat.stackId != u8 p.params 1) = false := by
    rcases hfree with h | h <;> simp [h]
  refine (interpret_given _ given).trans (congrArg _ ?_)
  simp only [hop]
  refine (checked_ok _ _ _ _ _ hlen (by simp [hstack, hcount, hslot, hflag])).trans ?_
  simp only [hserials, hown, free, Bool.not_true, Bool.false_eq_true, if_false]

section
variable (given : Given 0x0B03 p s t) (hlen : p.params.length = 8) (hop : u8 p.params 0 = 2) (hagg : u8 p.params 1 ≤ 3)
include given hlen hop hagg

theorem execLatStackJoin_bind (hbind : u8 p.params 2 = 1) (hon : (t.agg (u8 p.params 1)).on = true) (hstack : t.lat.stack ≠ []) :
    execLatStackJoin s = .next (ok p (modLat (fun x => { x with bound := nset (u8 p.params 1) x.bound }) (wakeAgg (u8 p.params 1) t))) := by
  have joined : t.lat.stack.isEmpty = false := List.isEmpty_eq_false_iff.mpr hstack
  refine (interpret_given _ given).trans (congrArg _ ?_)
  simp only [hop]
  refine (checked_ok _ _ _ _ _ hlen (by simp [hagg, hbind, inR])).trans ?_
  simp only [hbind, hon, joined, Nat.reduceBEq, Bool.not_true, Bool.false_eq_true, if_false]

theorem execLatStackJoin_unbind (hbind : u8 p.params 2 = 2) :
    execLatStackJoin s = .next (ok p (modLat (fun x => { x with bound := nclr (u8 p.params 1) x.bound }) t)) := by
  refine (interpret_given _ given).trans (congrArg _ ?_)
  simp only [hop]
  refine (checked_ok _ _ _ _ _ hlen (by simp [hagg, hbind, inR])).trans ?_
  simp only [hbind, beq_self_eq_true, if_true]

end

theorem execLatStackLeave_of_key (given : Given 0x0B04 p s t) (hlen : p.params.length = 4) (hkey : u8 p.params 0 = 0xA5) :
    execLatStackLeave s = .next (ok p (lsaDue (elect (modLat (fun x => { x with stack := [], bound := [] }) t)))) :=
  (interpret_given _ given).trans (congrArg _ (checked_ok _ _ _ _ _ hlen (by simp [hkey])))

end

/-- Settles O38: each row in the branch that its premises select, and each command taken with its parameters checked. -/
theorem latticeRoutesComplete : Obligations.LatticeRoutesComplete :=
  ⟨fun _ _ _ _ hinbox hfree => execLsaReceived_of_inbox hinbox hfree,
   fun _ hup hon hfirst => (execLsaOriginate_of_first hup hon).trans (congrArg _ (originate_of_first hfirst)),
   fun _ _ hother => execLsaAgeExpiry_of_other hother,
   fun _ hclaim => execVertexClaimHeld_of_claim hclaim,
   fun _ => rfl,
   fun _ _ _ given hlen => (interpret_given _ given).trans (congrArg _ (checked_ok _ _ _ _ _ hlen rfl)),
   fun _ _ _ given hlen hop hmode hid hnew => execLatVertexSet_of_fixed given hlen hop hmode hid hnew,
   fun _ _ _ given hlen hop hfields => execLatVertexSet_of_link given hlen hop hfields,
   fun _ _ _ given hlen hop hstack hcount hslot hflag hserials hown hfree =>
     execLatStackJoin_of_members given hlen hop hstack hcount hslot hflag hserials hown hfree,
   fun _ _ _ given hlen hop hagg hbind hon hstack => execLatStackJoin_bind given hlen hop hagg hbind hon hstack,
   fun _ _ _ given hlen hop hagg hbind => execLatStackJoin_unbind given hlen hop hagg hbind,
   fun _ _ _ given hlen hkey => execLatStackLeave_of_key given hlen hkey⟩

end Sys2Proof.Machine
end

section
/-!
Proofs of the statement on the handover of a device (ch 25).
-/
namespace Sys2Proof.Machine
open Sys2Proof

/-! ### Messages and phases (R916-R925) -/

section
variable {s t : State} {link : Nat}

theorem execHandoverStateReceived_of_inbox {l : Nat} {b : Bytes} (msg : HoMsg)
    (hinbox : takeInbox (fun l b => l == link && (u8 b 4 == 0x14 || u8 b 4 == 0x15)) s = some (l, b, t)) (hup : t.latUp link = true) :
    execHandoverStateReceived link msg s = .next (hoTake link msg t) := by
  simp only [execHandoverStateReceived, hinbox, hup, if_true]

theorem execHandoverStateReceived_of_empty (msg : HoMsg)
    (hinbox : takeInbox (fun l b => l == link && (u8 b 4 == 0x14 || u8 b 4 == 0x15)) s = none) (hup : s.latUp link = true) :
    execHandoverStateReceived link msg s = .next (hoTake link msg s) := by
  simp only [execHandoverStateReceived, hinbox, hup, if_true]

theorem hoTake_ready (hlink : s.lat.ho.link = link) (hsource : s.lat.ho.source = true) (hphase : s.lat.ho.phase = 1) :
    hoTake link .ready s = modHo (fun h => { h with ready := true }) s := by
  simp [hoTake, hlink, hsource, hphase]

/-- The active tenants are SUSPENDED, and the bound aggregates leave synchronisation. -/
theorem hoStop_of_ready (hsource : s.lat.ho.source = true) (hphase : s.lat.ho.phase = 1) (hready : s.lat.ho.ready = true) :
    let states := (List.range 16).map fun t => (s.tenant t).state
    let u := forEach (List.range 16) (fun t s => if (s.tenant t).state == 1 then setTenantState t 2 s else s) s
    hoStop s = boundLacp false (modHo (fun h => { h with phase := 2, stopAt := u.us, states := states }) u) :=
  if_neg (by simp [hsource, hphase, hready])

/-- What is left of the work ends with ABORTED, and the final copy leaves. -/
theorem hoCopy_of_stopped (hsource : s.lat.ho.source = true) (hphase : s.lat.ho.phase = 2) (hsent : s.lat.ho.sent = false) :
    let left := fun f => s.rings.foldl (fun n x => if x.2.fn == f then n + x.2.work.length else n) 0
    let n := s.boundVfs.foldl (fun n f => n + left f) 0
    let r := freeNat (2 ^ 32) (forEach s.boundVfs (fun f s => failWorkOf f stAborted s) s)
    hoCopy s = hoSend (.final (hoFinal r.2)) (modHo (fun h => { h with sent := true, aborted := n, bytes := r.1 }) r.2) :=
  if_neg (by simp [hsource, hphase, hsent])

theorem execHandoverStopTimeout_of_late (hsource : s.lat.ho.source = true) (hphase : s.lat.ho.phase = 2) (happlied : s.lat.ho.applied = false) :
    execHandoverStopTimeout s = .next (hoAbort s) := by
  simp only [execHandoverStopTimeout, hsource, hphase, happlied, beq_self_eq_true, Bool.not_false, Bool.and_self, if_true]

/-- The target takes over: tenants, tokens, connections, and the vertex of the source as a second one. -/
theorem hoSwitch_of_final {f : HoFinal} :
    let h := s.lat.ho
    h.final = some f → h.source = false → h.phase = 2 →
    let a := forEach f.states.zipIdx (fun x s => if x.1 = 3 then s else setTenantState x.2 x.1 s) s
    let b := forEach f.tenantTokens (fun x s => modTenant x.1 (fun t => { t with tokens := x.2, tokensAt := s.us }) s) a
    let c := forEach f.vfTokens (fun x s => modVf x.1 (fun v => { v with tokens := x.2, tokensAt := s.us }) s) b
    let taken := f.conns.filter fun e => ((c.ringAt e.2.1 (u8 e.2.2 6)).any fun r => r.2.cls == 4) && c.connEngine.isSome
    let d := forEach taken (fun c s => modSto (fun x => { x with conns := tins c.1 (freshConn c.2.1 (s.connEngine.getD 0) c.2.2) x.conns }) s) c
    let e := lsaDue (modLat (fun x => { x with alias_ := h.peer }) (modSto (fun x => { x with scrubs := f.scrubs }) d))
    hoSwitch s = hoSend (.switched (taken.map (·.1))) (modHo (fun y => { y with phase := 3, engine := b2n (y.plant && e.sge.active.isSome), moved := taken.length, closed := f.conns.length - taken.length, final := none }) e) := by
  intro h hfinal hsource hphase
  simp only [h] at hfinal hsource hphase
  have target : ¬ (s.lat.ho.source || s.lat.ho.phase != 2) = true := by simp [hsource, hphase]
  unfold hoSwitch
  simp only [hfinal]
  exact if_neg target

/-- The source closes what is left, revokes the tenants, unbinds the VFs, takes the ports down and answers. -/
theorem hoRelease_of_switched (hsource : s.lat.ho.source = true) (hphase : s.lat.ho.phase = 3) :
    let a := closeConns (fun _ _ => true) (modHo (fun h => { h with phase := 4, held := true }) s)
    let b := forEach (List.range 16) (fun t s => setTenantState t 3 s) a
    let c := forEach b.boundVfs (fun f s => unbindVf f ((s.vf f).tenant.getD 0) s) b
    let r := freeNat 6 c
    let e := modHo (fun h => { h with phase := 5 }) (hoSend .released (hoRecord false (portsDown r.1 r.2)))
    hoRelease s = finishWaits (· == .handover) stOk (fun _ => hoReply e) e :=
  if_neg (by simp [hsource, hphase])

end

/-! ### LAT_HANDOVER (R916, R917, R927) -/

section
variable {s t : State} {p : Packet} (given : Given 0x0B05 p s t) (hlen : p.params.length = 8)
include given hlen

theorem execLatHandover_start (hact : u8 p.params 0 = 1) (hkey : u8 p.params 1 = 0xA5) (htarget : inR (u16 p.params 2) 1 4095 = true) :
    execLatHandover s = .next (hoStart p t) := by
  refine (interpret_given _ given).trans (congrArg _ ((checked_ok _ _ _ _ _ hlen ?_).trans ?_))
  · have act : inR 1 1 3 = true := by decide
    simp [hact, act, hkey, htarget]
  · simp only [hact]

theorem execLatHandover_abort (hact : u8 p.params 0 = 2) (hphase : inR t.lat.ho.phase 3 5 = false) :
    execLatHandover s = .next (complete p stOk (hoReply (hoAbort t)) (hoAbort t)) := by
  refine (interpret_given _ given).trans (congrArg _ ((checked_ok _ _ _ _ _ hlen ?_).trans ?_))
  · simp [hact, inR]
  · simp only [hact, hphase, Bool.false_eq_true, if_false]

theorem execLatHandover_status (hact : u8 p.params 0 = 3) : execLatHandover s = .next (complete p stOk (hoReply t) t) := by
  refine (interpret_given _ given).trans (congrArg _ ((checked_ok _ _ _ _ _ hlen ?_).trans ?_))
  · simp [hact, inR]
  · simp only [hact]

end

/-- Settles O39: each row in the branch that its premises select, and the command taken with its parameters checked. -/
theorem handoverComplete : Obligations.HandoverComplete :=
  ⟨fun _ _ _ _ _ msg hinbox hup => execHandoverStateReceived_of_inbox msg hinbox hup,
   fun _ _ hinbox hup hlink hsource hphase =>
     (execHandoverStateReceived_of_empty .ready hinbox hup).trans (congrArg _ (hoTake_ready hlink hsource hphase)),
   fun _ hsource hphase hready => congrArg Host.Outcome.next (hoStop_of_ready hsource hphase hready),
   fun _ hsource hphase hsent => congrArg Host.Outcome.next (hoCopy_of_stopped hsource hphase hsent),
   fun _ hsource hphase happlied => execHandoverStopTimeout_of_late hsource hphase happlied,
   fun _ _ hfinal hsource hphase => congrArg Host.Outcome.next (hoSwitch_of_final hfinal hsource hphase),
   fun _ hsource hphase => congrArg Host.Outcome.next (hoRelease_of_switched hsource hphase),
   fun _ _ _ given hlen hact hkey htarget => execLatHandover_start given hlen hact hkey htarget,
   fun _ _ _ given hlen hact hphase => execLatHandover_abort given hlen hact hphase,
   fun _ _ _ given hlen hact => execLatHandover_status given hlen hact⟩

end Sys2Proof.Machine
end

section
/-!
Proofs of the statement on secure boot, the life cycle, the settings of OTP, the firmware images and the trust generations (ch 26).
-/
namespace Sys2Proof.Machine
open Sys2Proof

/-! ### Boot and the resets of the life cycle (R933, R947-R951, R956, R957) -/

section
variable {s : State} (hboot : s.pmc.st = .boot) (hpin : s.rst.pinLow = false)
include hboot hpin

/-- A life cycle at end of life, a device without a trust hash and boot policy 0 all end in ROM service. -/
theorem execSecureBoot_of_rom (hstep : s.pmc.upStep = 7) :
    let v := drawNonce { s with pmc := { s.pmc with upStep := 8 } }
    let u := modLcy (fun l => { l with step8 := v.us }) v
    u.lcyState = 5 ∨ (List.range 12).any (fun i => u.hashWritten (i + 1)) = false ∨ u.policy 2 = 0 →
      execSecureBoot s = .next (romService (scanSlots (flushFlash u))) := by
  intro v u hrom
  have now : ¬(s.pmc.st != .boot || s.pmc.upStep != 7 || s.rst.pinLow) = true := by simp [hboot, hstep, hpin]
  have rom : (u.lcyState == 5 || !((List.range 12).any fun i => u.hashWritten (i + 1)) || u.policy 2 == 0) = true := by
    rcases hrom with h | h | h
    · rw [h]; rfl
    · rw [h]; simp
    · rw [h]; simp
  unfold execSecureBoot
  rw [if_neg now]
  exact congrArg _ (if_pos rom)

theorem execSecureBoot_of_image (hstep : s.pmc.upStep = 7) :
    let v := drawNonce { s with pmc := { s.pmc with upStep := 8 } }
    let u := modLcy (fun l => { l with step8 := v.us }) v
    u.lcyState ≠ 5 → (List.range 12).any (fun i => u.hashWritten (i + 1)) = true → u.policy 2 ≠ 0 → execSecureBoot s = .next (bootImages u) := by
  intro v u hlife hhash hpolicy
  have now : ¬(s.pmc.st != .boot || s.pmc.upStep != 7 || s.rst.pinLow) = true := by simp [hboot, hstep, hpin]
  have boots : ¬(u.lcyState == 5 || !((List.range 12).any fun i => u.hashWritten (i + 1)) || u.policy 2 == 0) = true := by
    rw [hhash, beq_false_of_ne hlife, beq_false_of_ne hpolicy]; decide
  unfold execSecureBoot
  rw [if_neg now]
  exact congrArg _ (if_neg boots)

/-- In ROM service no image is named and the lattice stays off. -/
theorem execBootDone_of_rom (hstep : s.pmc.upStep = 8) (himage : s.lcy.running = none) :
    let u := lblBoot (enterBootState (modLcy (fun l => { l with bootDone := true }) s))
    u.lcy.rom = true → execBootDone s =
      .next (modLcy (fun l => { l with confirmEnd := if l.trial then some (u.us + l.rec_.confirm * 1000000) else none }) u) := by
  intro u hrom
  have now : ¬(s.pmc.st != .boot || s.pmc.upStep != 8 || s.rst.pinLow) = true := by simp [hboot, hstep, hpin]
  have imageless : (modLcy (fun l => { l with bootDone := true }) s).lcy.running = none := himage
  unfold execBootDone
  rw [if_neg now]
  dsimp only
  rw [imageless, ifSome, if_pos hrom]

end

theorem execConfirmTimerExpiry_of_armed {s : State} (diode : Int) (htrial : s.lcy.trial = true) (harmed : s.lcy.confirmEnd.isSome = true) :
    execConfirmTimerExpiry diode s = .next (resetDone diode (takeReset .w 7 s)) :=
  if_pos (by rw [htrial, harmed]; rfl)

theorem execTransitionWStart_of_pending {s : State} (diode : Int) (hpending : s.rst.wPending = some 6) (hlive : s.live = true) :
    execTransitionWStart diode s = .next (resetDone diode (takeReset .w 6 s)) :=
  if_pos (by rw [hpending, hlive]; rfl)

theorem execActivationWStart_of_pending {s : State} (diode : Int) (hpending : s.rst.wPending = some 7) (hlive : s.live = true) :
    execActivationWStart diode s = .next (resetDone diode (takeReset .w 7 s)) :=
  if_pos (by rw [hpending, hlive]; rfl)

theorem execLcyStateGet_of_given {s t : State} {p : Packet} (given : Given 0x0C01 p s t) (hlen : p.params.length = 0) :
    let l := t.lcy
    let hashes := maskOf ((List.range 12).filter fun i => t.hashWritten (i + 1))
    let flags := b2n l.rom + 2 * b2n l.fallback + 4 * b2n l.trial + 8 * b2n t.cnt.session + 16 * b2n (l.pendSlot.isSome || l.pendRec.isSome)
    let left := (match l.confirmEnd with | some e => ceilDiv (e - t.us) 1000000 | none => 0xFFFFFFFF)
    execLcyStateGet s = .next (complete p stOk
      (putLe 1 t.lcyState ++ putLe 1 t.trustGen ++ putLe 2 hashes ++ putLe 1 (l.running.getD 0xFF) ++ putLe 1 l.rec_.active ++ putLe 1 l.rec_.trial
        ++ putLe 1 l.rec_.tries ++ putLe 1 (l.slotSt.getD 0 0) ++ putLe 1 (l.slotSt.getD 1 0) ++ putLe 1 t.minSvn ++ putLe 1 l.svn ++ putLe 1 l.gen
        ++ putLe 1 (124 - t.lcChanges) ++ putLe 1 flags ++ zeros 1 ++ l.nonce.take 8 ++ ((List.range 11).map fun i => putLe 1 (t.groupGen (i + 1))).flatten
        ++ putLe 1 t.repairInForce ++ putLe 4 left ++ zeros 8) t) :=
  (interpret_given _ given).trans (congrArg _ (checked_ok _ _ _ _ _ hlen rfl))

/-! ### Transitions (R931-R935) -/

section
variable {s t : State} {p : Packet} (good : Bool) (given : Given 0x0C02 p s t)
  (hto : inR (u8 p.params 0) 2 5 = true) (hkey : u8 p.params 1 = 0xA5) (hnew : t.lcyState ≠ u8 p.params 0)
  (hknown : transitionKnown t.lcyState (u8 p.params 0) = true) (hallowed : t.transitionRefused t.lcyState (u8 p.params 0) = none)
include given hto hkey hnew hknown hallowed

/-- A transition that needs no authorisation is performed when nothing refuses it. -/
theorem execLcyTransition_of_plain (hlen : p.params.length = 4) (hnone : u16 p.params 2 = 0)
    (hauth : transitionAuth t.lcyState (u8 p.params 0) = false) : execLcyTransition good s = .next (doTransition good (u8 p.params 0) p t) := by
  refine (interpret_given _ given).trans (congrArg _ ?_)
  have header : ¬p.params.length < 4 := by omega
  have other : ¬(u8 p.params 0 == t.lcyState) = true := by simpa using hnew.symm
  have listed : ¬(!transitionKnown t.lcyState (u8 p.params 0)) = true := by simp [hknown]
  have plain : ¬transitionAuth t.lcyState (u8 p.params 0) = true := by simp [hauth]
  refine (if_neg header).trans ((checked_ok _ _ _ _ _ (by simp [hnone, hlen]) (by simp [hto, hkey, hnone])).trans ?_)
  refine (if_neg other).trans ((if_neg listed).trans ?_)
  rw [hallowed]
  exact if_neg plain

/-- One that needs an authorisation is performed when its container passes. -/
theorem execLcyTransition_of_authorised (hlen : p.params.length = 3272) (hfull : u16 p.params 2 = 3268)
    (hauth : transitionAuth t.lcyState (u8 p.params 0) = true) : execLcyTransition good s =
      .next (match t.conFault 2 (p.params.drop 4) (authPayload 1 (u8 p.params 0) 0 (zeros 32)) with
        | some r => fail p stBadParam 4 r t
        | none => doTransition good (u8 p.params 0) p (acceptCon (p.params.drop 4) t)) := by
  refine (interpret_given _ given).trans (congrArg _ ?_)
  have header : ¬p.params.length < 4 := by omega
  have other : ¬(u8 p.params 0 == t.lcyState) = true := by simpa using hnew.symm
  have listed : ¬(!transitionKnown t.lcyState (u8 p.params 0)) = true := by simp [hknown]
  have whole : ¬(u16 p.params 2 != 3268) = true := by simp [hfull]
  refine (if_neg header).trans ((checked_ok _ _ _ _ _ (by simp [hfull, hlen]) (by simp [hto, hkey, hfull])).trans ?_)
  refine (if_neg other).trans ((if_neg listed).trans ?_)
  rw [hallowed]
  exact (if_pos hauth).trans (if_neg whole)

end

/-! ### Settings (R939, R940, R959) -/

theorem atOffset_all (o : Nat) (l : List (Nat × Bool)) : (atOffset o l).all (·.2) = l.all (·.2) := by
  simp [atOffset, List.all_map, Function.comp_def]

section
variable {s t : State} {p : Packet} (good : Bool) (given : Given 0x0C03 p s t) (hnone : u16 p.params 2 = 0) (hopen : t.lcyState < 3)
include given hnone hopen

/-- Before the device is deployed a group is written without an authorisation. -/
theorem execOtpSettingsWrite_of_group (hgroup : inR (u8 p.params 0) 1 9 = true ∨ u8 p.params 0 = 11) (hgen : u8 p.params 1 = 0)
    (hlen : p.params.length = 4 + t.payloadSize (u8 p.params 0))
    (hfields : (groupFields (u8 p.params 0) (slice p.params 4 (t.payloadSize (u8 p.params 0)))).all (·.2) = true)
    (hfree : t.settingsRefused (u8 p.params 0) 0 = none) :
    execOtpSettingsWrite good s = .next (writeGroup good (u8 p.params 0) (slice p.params 4 (t.payloadSize (u8 p.params 0))) p t) := by
  refine (interpret_given _ given).trans (congrArg _ ?_)
  have header : ¬p.params.length < 4 := by omega
  have range : (inR (u8 p.params 0) 1 11 || u8 p.params 0 == 0x20) = true := by
    rcases hgroup with h | h
    · simp only [inR, Bool.and_eq_true, decide_eq_true_eq] at h
      simp [inR, h.1, show u8 p.params 0 ≤ 11 by omega]
    · rw [h]; decide
  have nohash : (u8 p.params 0 == 0x20) = false := by
    rcases hgroup with h | h
    · simp only [inR, Bool.and_eq_true, decide_eq_true_eq] at h
      exact beq_false_of_ne (by omega)
    · rw [h]; decide
  have nokey : (u8 p.params 0 == 10) = false := by
    rcases hgroup with h | h
    · simp only [inR, Bool.and_eq_true, decide_eq_true_eq] at h
      exact beq_false_of_ne (by omega)
    · rw [h]; decide
  have unlocked : decide (3 ≤ t.lcyState) = false := decide_eq_false (by omega)
  refine (if_neg header).trans ?_
  rw [nohash, Bool.or_false] at range
  simp only [List.find?_cons, range, nohash, nokey, unlocked, hgen, hnone, Bool.not_true, Bool.false_eq_true, if_false, beq_self_eq_true,
    List.find?_nil, Bool.or_false, Bool.or_self]
  refine (checked_ok _ _ _ _ _ hlen ((atOffset_all _ _).trans hfields)).trans ?_
  simp only [hfree, Bool.false_and, Bool.false_eq_true, if_false]

/-- A trust hash is 32 bytes, and its generation names its place. -/
theorem execOtpSettingsWrite_of_hash (hgroup : u8 p.params 0 = 0x20) (hgen : inR (u8 p.params 1) 1 12 = true) (hlen : p.params.length = 36)
    (hfree : t.settingsRefused 0x20 (u8 p.params 1) = none) :
    execOtpSettingsWrite good s = .next (writeHash good (u8 p.params 1) (slice p.params 4 32) p t) := by
  refine (interpret_given _ given).trans (congrArg _ ?_)
  have header : ¬p.params.length < 4 := by omega
  have unlocked : decide (3 ≤ t.lcyState) = false := decide_eq_false (by omega)
  have size : t.payloadSize 0x20 = 32 := rfl
  refine (if_neg header).trans ?_
  simp only [List.find?_cons, hgroup, unlocked, hgen, hnone, size, beq_self_eq_true, Bool.or_true, Bool.not_true, Bool.false_eq_true, if_false,
    if_true, List.find?_nil, Bool.true_or]
  refine (checked_ok _ _ _ _ _ hlen rfl).trans ?_
  simp only [hfree]

end

/-! ### Firmware images (R954-R958) -/

/-- What the reply of a load says follows what its parts came to. -/
theorem execFwImageLoad_of_given {s t : State} {p : Packet} (given : Given 0x0C04 p s t) :
    let r := loadParts t.inactiveSlot (cutParts p.parts p.params) t
    execFwImageLoad s = .next (match r.1 with
      | some x => fail p x.1 x.2.1 x.2.2 r.2
      | none => complete p stOk (putLe 4 (r.2.lcy.halves.getD t.inactiveSlot []).length ++ putLe 1 t.inactiveSlot
          ++ putLe 1 (r.2.lcy.slotSt.getD t.inactiveSlot 0) ++ zeros 2) r.2) := by
  intro r
  refine (interpret_given _ given).trans (congrArg _ ?_)
  dsimp only
  change (match r with
    | (some (st, off, info), s) => fail p st off info s
    | (none, s) => _) = _
  rcases r with ⟨_ | ⟨st, off, info⟩, u⟩ <;> rfl

/-- A slice inside a slice of zeros holds zeros. -/
theorem slice_zero_of_within {b : Bytes} {i n j m : Nat} (hzero : (slice b i n).all (· == 0) = true) (hstart : i ≤ j) (hend : j + m ≤ i + n) :
    (slice b j m).all (· == 0) = true := by
  have inner : slice b j m = ((slice b i n).drop (j - i)).take m := by
    rw [slice, slice, List.drop_take, List.drop_drop, List.take_take, Nat.add_sub_cancel' hstart, Nat.min_eq_left (by omega)]
  rw [inner]
  exact List.all_eq_true.2 fun x hx => List.all_eq_true.1 hzero x (List.mem_of_mem_drop (List.mem_of_mem_take hx))

theorem u8_of_slice_zero {b : Bytes} {i : Nat} (hzero : (slice b i 1).all (· == 0) = true) : u8 b i = 0 := by
  rcases Nat.lt_or_ge i b.length with hin | hout
  · have one : slice b i 1 = [b[i]] := by rw [slice, List.drop_eq_getElem_cons hin]; rfl
    rw [one] at hzero
    have byte : b[i] = 0 := by simpa using hzero
    rw [u8, List.getD_eq_getElem?_getD, List.getElem?_eq_getElem hin, Option.getD_some, byte]; rfl
  · rw [u8, List.getD_eq_getElem?_getD, List.getElem?_eq_none hout]; rfl

section
variable {s t : State} {p : Packet} (good : Bool) (given : Given 0x0C05 p s t) (hlen : p.params.length = 8)
include given hlen

/-- ACTIVATE of a valid slot makes a trial of it; a W follows when it is asked for. -/
theorem execFwImageActivate_of_trial (hact : u8 p.params 0 = 1) (hreset : u8 p.params 1 ≤ 1) (htries : inR (u8 p.params 2) 1 8 = true)
    (hconfirm : inR (u32 p.params 4) 10 3600 = true) (hvalid : t.lcy.slotSt.getD t.inactiveSlot 0 = 1) :
    let u := putRec { t.lcy.rec_ with trial := t.inactiveSlot, tries := u8 p.params 2, confirm := u32 p.params 4 } t
    execFwImageActivate good s = .next (ok p (if u8 p.params 1 == 1 then { u with rst := { u.rst with wPending := some 7 } } else u)) := by
  intro u
  refine (interpret_given _ given).trans (congrArg _ ((checked_ok _ _ _ _ _ hlen ?fields).trans ?_))
  case fields =>
    have action : inR 1 1 3 = true := by decide
    simp [hact, hreset, htries, hconfirm, action]
  have valid : ¬(t.lcy.slotSt.getD t.inactiveSlot 0 != 1) = true := by simp only [hvalid]; decide
  rw [hact]
  exact if_neg valid

/-- CONFIRM makes the running slot the active one and disarms the timer. -/
theorem execFwImageActivate_of_confirm (hact : u8 p.params 0 = 2) (hzero : (slice p.params 1 7).all (· == 0) = true) (htrial : t.lcy.trial = true) :
    execFwImageActivate good s = .next (ok p (modLcy (fun l => { l with trial := false, confirmEnd := none })
      (putRec { t.lcy.rec_ with active := t.lcy.running.getD 0, trial := 0xFF } t))) := by
  have first : (slice p.params 1 1).all (· == 0) = true := slice_zero_of_within hzero (by omega) (by omega)
  have second : (slice p.params 2 1).all (· == 0) = true := slice_zero_of_within hzero (by omega) (by omega)
  have third : (slice p.params 3 1).all (· == 0) = true := slice_zero_of_within hzero (by omega) (by omega)
  have rest : (slice p.params 4 4).all (· == 0) = true := slice_zero_of_within hzero (by omega) (by omega)
  have flag : u8 p.params 1 = 0 := u8_of_slice_zero first
  refine (interpret_given _ given).trans (congrArg _ ((checked_ok _ _ _ _ _ hlen ?fields).trans ?_))
  case fields =>
    have action : inR 2 1 3 = true := by decide
    have other : (2 != 1) = true := by decide
    simp only [List.all_cons, List.all_nil, hact, flag, first, second, third, rest, action, other, Bool.or_true, Bool.true_or, Bool.and_self,
      Nat.zero_le, decide_true]
  have tried : ¬(!t.lcy.trial) = true := by rw [htrial]; decide
  rw [hact]
  exact if_neg tried

end

/-! ### Trust generations (R960) -/

/-- With no image running nothing but the container can refuse the roll. -/
theorem execTrustRoll_of_idle {s t : State} {p : Packet} (good : Bool) (given : Given 0x0C06 p s t) (hlen : p.params.length = 3240)
    (hkey : u8 p.params 0 = 0xA5) (hmore : t.trustGen ≠ 12) (htrial : t.lcy.trial = false) (himage : t.lcy.running = none) :
    let c := p.params.drop 4
    let new := conGen c
    let u := otpProgram good 0x50 0x50 (putLe 2 (2 ^ (new - 1) - 1)) (acceptCon c t)
    execTrustRoll good s = .next (match t.conFault 3 c (rollPayload c) with
      | some r => fail p stBadParam 4 r t
      | none =>
        if good then complete p stOk (putLe 1 t.trustGen ++ putLe 1 new ++ zeros 2)
          (recheckSlots (logEvent 28 0x8005 (detail [(16, 1, t.trustGen), (17, 1, new)]) u))
        else fail p stFault 0xFFFF 0 (recheckSlots (otpEvent false 0x20 new u))) := by
  intro c new u
  have last : ¬(t.trustGen == 12) = true := by simpa using hmore
  have runs : ¬(t.lcy.running.isSome && t.lcy.gen < new) = true := by rw [himage]; simp
  have tried : ¬t.lcy.trial = true := by simp [htrial]
  refine (interpret_given _ given).trans (congrArg _ ((checked_ok _ _ _ _ _ hlen (by simp [hkey])).trans ((if_neg last).trans ?_)))
  change (match t.conFault 3 c (rollPayload c) with | some r => _ | none => _) = _
  cases t.conFault 3 c (rollPayload c) with
  | some r => rfl
  | none => exact (if_neg runs).trans (if_neg tried)

/-- Settles O23: each row in the branch that its premises select. -/
theorem lifecycleComplete : Obligations.LifecycleComplete :=
  ⟨fun _ hboot hstep hpin => execSecureBoot_of_rom hboot hpin hstep,
   fun _ hboot hstep hpin => execSecureBoot_of_image hboot hpin hstep,
   fun _ hboot hstep hpin himage => execBootDone_of_rom hboot hpin hstep himage,
   fun _ diode htrial harmed => execConfirmTimerExpiry_of_armed diode htrial harmed,
   fun _ diode hpending hlive => execTransitionWStart_of_pending diode hpending hlive,
   fun _ diode hpending hlive => execActivationWStart_of_pending diode hpending hlive,
   fun _ _ _ given hlen => execLcyStateGet_of_given given hlen,
   fun _ _ _ good given hlen hto hkey hnone hnew hknown hallowed hauth =>
     execLcyTransition_of_plain good given hto hkey hnew hknown hallowed hlen hnone hauth,
   fun _ _ _ good given hlen hto hkey hfull hnew hknown hallowed hauth =>
     execLcyTransition_of_authorised good given hto hkey hnew hknown hallowed hlen hfull hauth,
   fun _ _ _ good given hgroup hgen hnone hopen hlen hfields hfree =>
     execOtpSettingsWrite_of_group good given hnone hopen hgroup hgen hlen hfields hfree,
   fun _ _ _ good given hgroup hgen hnone hopen hlen hfree => execOtpSettingsWrite_of_hash good given hnone hopen hgroup hgen hlen hfree,
   fun _ _ _ given => execFwImageLoad_of_given given,
   fun _ _ _ good given hlen hact hreset htries hconfirm hvalid => execFwImageActivate_of_trial good given hlen hact hreset htries hconfirm hvalid,
   fun _ _ _ good given hlen hact hzero htrial => execFwImageActivate_of_confirm good given hlen hact hzero htrial,
   fun _ _ _ good given hlen hkey hmore htrial himage => execTrustRoll_of_idle good given hlen hkey hmore htrial himage⟩

end Sys2Proof.Machine
end

section
/-!
Proofs of the statement on fences, spares, known-answer tests and the repair commands (ch 27; R714-R719).
-/
namespace Sys2Proof.Machine
open Sys2Proof

/-! ### The repair commands (R970-R976) -/

/-- A forced fence of a domain that is no warden core and no bank keeps no record and takes the domain's pair with it. -/
theorem execRprFence_of_forced {s t : State} {p : Packet} (good : Bool) (given : Given 0x0D02 p s t) (hlen : p.params.length = 8)
    (hdomain : u16 p.params 0 < 148) (hkey : u8 p.params 3 = 0xA5) (hflags : u8 p.params 2 = 2) (hfence : fenceable (u16 p.params 0) = true)
    (hcore : inR (u16 p.params 0) 15 19 = false) (hbank : inR (u16 p.params 0) 100 147 = false)
    (hnew : t.aon.fence.contains (u16 p.params 0) = false) :
    let f := fenceAll (fencePair (u16 p.params 0)) 0 false t
    execRprFence good s = .next (finishFence p (u16 p.params 0) f.1 false good f.2) := by
  intro f
  have persist : Nat.testBit 2 0 = false := by decide
  have force : Nat.testBit 2 1 = true := by decide
  refine (interpret_given _ given).trans (congrArg _ ((checked_ok _ _ _ _ _ hlen (by simp [hdomain, hkey])).trans ?_))
  simp only [hflags, persist, force, hfence, hcore, hbank, hnew, Bool.not_true, Bool.false_and, Bool.false_eq_true, if_false, Option.any_none]
  rfl

section
variable {s t : State} {p : Packet} (good : Bool) (given : Given 0x0D03 p s t) (hlen : p.params.length = 8) (hkey : u8 p.params 4 = 0xA5)
include given hlen hkey

theorem execRprUnfence_of_phase (hsubject : u8 p.params 0 = 2) (hphase : u16 p.params 2 < 8)
    (hshed : t.aon.phaseShed.contains (u16 p.params 2) = true) :
    execRprUnfence good s = .next (complete p stOk (zeros 4) { t with aon := { t.aon with phaseShed := nclr (u16 p.params 2) t.aon.phaseShed } }) := by
  have subject : inR 2 1 3 = true := by decide
  refine (interpret_given _ given).trans (congrArg _ ((checked_ok _ _ _ _ _ hlen ?fields).trans ?_))
  case fields => simp [hsubject, hphase, hkey, subject]
  exact (if_pos (by rw [hsubject]; rfl)).trans (if_pos hshed)

theorem execRprUnfence_of_unfenced (hsubject : u8 p.params 0 = 1) (hdomain : u16 p.params 2 < 148)
    (hfree : t.aon.fence.contains (u16 p.params 2) = false) : execRprUnfence good s = .next (complete p stNote (zeros 4) t) := by
  have subject : inR 1 1 3 = true := by decide
  have free : (!t.aon.fence.contains (u16 p.params 2)) = true := by rw [hfree]; rfl
  refine (interpret_given _ given).trans (congrArg _ ((checked_ok _ _ _ _ _ hlen ?fields).trans ?_))
  case fields => simp [hsubject, hdomain, hkey, subject]
  exact (if_neg (by rw [hsubject]; decide)).trans ((if_neg (by rw [hsubject]; decide)).trans (if_pos free))

end

theorem execRprStatus_of_given {s t : State} {p : Packet} (given : Given 0x0D01 p s t) (hlen : p.params.length = 0) :
    let used := ([1, 2, 3, 4, 5, 6, 7, 8] : List Nat).filter fun n => t.otpWritten (repairSlot n) 32
    let pool := fun q => [(4 + 4 * q, 1, (t.activeUnits q).length), (5 + 4 * q, 1, ((t.spareOf q).map (· - (poolUnits q).headD 0)).getD 0xFF),
      (6 + 4 * q, 1, ((poolUnits q).filter fun d => (t.domain d).st == .fenced).length), (7 + 4 * q, 1, t.poolState q)]
    let spent := fun ch => (t.aon.ddrSpent.filter fun x => x / 256 == ch).length
    execRprStatus s = .next (complete p stOk (layout 64 ([(0, 2, t.fencedCount), (2, 1, t.repairInForce), (3, 1, 8 - used.length)]
      ++ ((List.range 4).map pool).flatten
      ++ [(20, 1, maskOf t.aon.phaseShed), (21, 1, t.pmc.phases), (22, 1, spent 0), (23, 1, spent 1), (24, 19, maskOf t.aon.fence), (44, 19, t.repairBits)])) t) :=
  (interpret_given _ given).trans (congrArg _ (checked_ok _ _ _ _ _ hlen rfl))

/-- The swap of an engine is noted and its spare activated; the swap ends at once where the spare is already ON. -/
theorem execRprSpareSwap_of_engine {s t : State} {p : Packet} {d u : Nat} (given : Given 0x0D04 p s t) (hlen : p.params.length = 4)
    (hpool : inR (u8 p.params 0) 2 4 = true) (hunit : (poolUnits (u8 p.params 0 - 1))[u8 p.params 1]? = some d)
    (hactive : (t.activeUnits (u8 p.params 0 - 1)).contains d = true) (haction : inR (u8 p.params 2) 1 2 = true)
    (hspare : t.spareOf (u8 p.params 0 - 1) = some u) :
    let v := activate u (waitFor p swapWait { t with pmc := { t.pmc with swap := some (d, u, u8 p.params 2) } })
    execRprSpareSwap s = .next (if (v.domain u).switchingOn then v else finishSwap (d, u, u8 p.params 2) v) := by
  intro v
  obtain ⟨low, high⟩ : 2 ≤ u8 p.params 0 ∧ u8 p.params 0 ≤ 4 := by simpa [inR] using hpool
  have pool : inR (u8 p.params 0) 1 4 = true := by simp only [inR, Bool.and_eq_true, decide_eq_true_eq]; omega
  have engine : (u8 p.params 0 - 1 == 0) = false := beq_false_of_ne (by omega)
  have unit : (some d).any (t.activeUnits (u8 p.params 0 - 1)).contains = true := hactive
  refine (interpret_given _ given).trans (congrArg _ ((checked_ok _ _ _ _ _ hlen ?fields).trans ?_))
  case fields => simp only [List.all_cons, List.all_nil, hunit, pool, unit, haction, Bool.and_self]
  simp only [hunit, hspare, engine, Bool.false_eq_true, if_false]
  rfl

/-! ### Automatic fences (R972, R979) -/

theorem execAutoFence_of_fits {s : State} {d cause : Nat} (hlive : s.live = true) (hfits : causeFits cause d = true) :
    execAutoFence d cause s = .next (autoFence d cause s) :=
  congrArg _ (if_pos (by rw [hlive, hfits]; rfl))

theorem execKnownAnswerTest_of_engine {s : State} {d : Nat} (hon : s.isOn d = true) (hengine : inR d 65 85 = true) (hidle : s.domBusy d = false) :
    execKnownAnswerTest d false s = .next (autoFence d 2 s) := by
  have other : (d == 63) = false := by
    simp only [inR, Bool.and_eq_true, decide_eq_true_eq] at hengine
    exact beq_false_of_ne (by omega)
  simp [execKnownAnswerTest, hon, hengine, hidle, other]

theorem execKnownAnswerTest_of_unwrap {s : State} (hon : s.isOn 63 = true) : execKnownAnswerTest 63 false s = .next (autoFence 63 8 s) := by
  simp [execKnownAnswerTest, hon]

theorem execKnownAnswerTest_of_passed (s : State) (d : Nat) : execKnownAnswerTest d true s = .next s := by
  simp [execKnownAnswerTest]

/-- A device is marked and recorded once; the second of a channel fences the channel. -/
theorem execDdrSpent_of_new {s : State} {ch device : Nat} (hlive : s.live = true)
    (hnew : s.aon.ddrSpent.contains (ch % 2 * 256 + device % 256) = false) :
    let u := logEvent 29 0x8006 (detail [(16, 1, ch % 2), (17, 1, device % 256)])
      { s with aon := { s.aon with ddrSpent := nset (ch % 2 * 256 + device % 256) s.aon.ddrSpent } }
    execDdrSpent ch device s =
      .next (whenS (decide (1 < (u.aon.ddrSpent.filter fun y => y / 256 == ch % 2).length)) (fenceChannel (ch % 2)) u) :=
  if_neg (by rw [hlive, hnew]; decide)

/-! ### Moves and watchdogs (R714-R718) -/

/-- A warm move without a fence that no command waits for: the old core becomes the spare. -/
theorem execRoleMoveComplete_of_warm {s : State} {r : Nat} (good : Bool) {m : RoleMove} {c : Nat} (hmove : (s.role r).move = some m)
    (hcore : s.coreOf r = some c) (hfrozen : m.frozen = true) (hwarm : m.warm = true) (hfence : m.fence = none)
    (hon : s.isOn (15 + m.dest) = true) (hidle : (s.core c).access = none) :
    let w := modWdn (fun x => { x with map := x.map.set r m.dest, spare := if x.spare == m.dest then 7 else x.spare })
      (modCore c (fun _ => {}) (copyCore c m.dest s))
    let w := sched r (modRole r (fun x => { x with move := none }) w)
    let v := logEvent 18 0x8003 (detail [(16, 1, r), (17, 1, c), (18, 1, m.dest), (19, 1, 0), (20, 4, w.us - m.since)]) w
    v.cmd.waits.find? (fun w => w.kind == moveWait r) = none →
      execRoleMoveComplete r good s = .next (poolRecords (s.withSpare (15 + m.dest))
        (makeSpare (15 + c) { v with cmd := { v.cmd with waits := v.cmd.waits.filter fun w => w.kind != moveWait r } })) := by
  intro w w' v hnone
  have ready : ¬(!s.isOn (15 + m.dest) || !m.frozen || (m.warm && (s.core c).access.isSome)) = true := by simp [hon, hfrozen, hidle]
  have cold : b2n (!m.warm) = 0 := by rw [hwarm]; rfl
  unfold execRoleMoveComplete
  rw [hmove, hcore]
  dsimp only
  rw [if_neg ready, hfence, cold, if_pos hwarm, if_pos hwarm]
  refine congrArg _ ?_
  change (match (v.cmd.waits.find? fun w => w.kind == moveWait r).map (·.pkt) with
    | some p => _
    | none => _) = _
  rw [hnone]
  rfl

section
variable {s : State} {r due : Nat} (diode : Int) (hlive : s.live = true) (hdue : (s.role r).wdDue = some due) (hpast : due ≤ s.us)
  (hcore : (s.coreOf r).isSome = true)
include hlive hdue hpast hcore

theorem watchdog_expired : ¬(!s.live || ((s.role r).wdDue.all fun t => decide (s.us < t)) || (s.coreOf r).isNone) = true := by
  have past : ¬s.us < due := by omega
  have lost : (s.coreOf r).isNone = false := by rw [Option.isNone_eq_false_iff, hcore]
  simp [hlive, hdue, hpast, lost]

/-- The first expiry restarts the role. -/
theorem execWatchdogExpiry_of_first (hfirst : (s.role r).lastWd = none) :
    execWatchdogExpiry r diode s = .next (restartRole r 0 (modRole r (fun y => { y with lastWd := some s.us }) s)) := by
  unfold execWatchdogExpiry
  dsimp only
  rw [if_neg (watchdog_expired hlive hdue hpast hcore), if_pos (by rw [hfirst]; rfl)]

/-- The second within 60 s takes a W where no spare is left. -/
theorem execWatchdogExpiry_of_second {last : Nat} (hlast : (s.role r).lastWd = some last) (hsoon : s.us < last + 60000000)
    (hspare : s.spareOf 0 = none) : execWatchdogExpiry r diode s = .next (resetDone diode (takeReset .w 5 s)) := by
  have soon : (s.role r).lastWd.any (fun t => decide (s.us < t + 60000000)) = true := by
    rw [hlast, Option.any_some, decide_eq_true hsoon]
  unfold execWatchdogExpiry
  dsimp only
  rw [if_neg (watchdog_expired hlive hdue hpast hcore), soon, if_neg (by decide), hspare]

end

/-- Settles O15: each row in the branch that its premises select. -/
theorem repairComplete : Obligations.RepairComplete :=
  ⟨fun _ _ _ good given hlen hdomain hkey hflags hfence hcore hbank hnew =>
     execRprFence_of_forced good given hlen hdomain hkey hflags hfence hcore hbank hnew,
   fun _ _ _ good given hlen hsubject hphase hkey hshed => execRprUnfence_of_phase good given hlen hkey hsubject hphase hshed,
   fun _ _ _ good given hlen hsubject hdomain hkey hfree => execRprUnfence_of_unfenced good given hlen hkey hsubject hdomain hfree,
   fun _ _ _ given hlen => execRprStatus_of_given given hlen,
   fun _ _ _ _ _ given hlen hpool hunit hactive haction hspare => execRprSpareSwap_of_engine given hlen hpool hunit hactive haction hspare,
   fun _ _ _ hlive hfits => execAutoFence_of_fits hlive hfits,
   fun _ _ hon hengine hidle => execKnownAnswerTest_of_engine hon hengine hidle,
   fun _ hon => execKnownAnswerTest_of_unwrap hon,
   fun s d => execKnownAnswerTest_of_passed s d,
   fun _ _ _ hlive hnew => execDdrSpent_of_new hlive hnew,
   fun _ _ good _ _ hmove hcore hfrozen hwarm hfence hon hidle => execRoleMoveComplete_of_warm good hmove hcore hfrozen hwarm hfence hon hidle,
   fun _ _ diode _ hlive hdue hpast hcore hfirst => execWatchdogExpiry_of_first diode hlive hdue hpast hcore hfirst,
   fun _ _ diode _ _ hlive hdue hpast hcore hlast hsoon hspare =>
     execWatchdogExpiry_of_second diode hlive hdue hpast hcore hlast hsoon hspare⟩

end Sys2Proof.Machine
end
